-- ==== Sys2Proof/Word.lean ====
section
/-! DEFINITION. The byte and the 32-bit register word (00_scope R8, R9). -/

namespace Sys2Proof

/-- One byte of a parameter block, of a ring or of a frame (R8). -/
abbrev Byte := BitVec 8

/-- One register, one word of a parameter block, a record or a checkpoint (R9). -/
abbrev Word := BitVec 32

/-- A block of 32-bit words in ascending address order; a word past its end reads 0 (R344). -/
abbrev Block := List Word

end Sys2Proof
end

