-- ==== Sys2Proof/Syntax.lean ====
section
/-! DEFINITION. The commands of the block: the operand types and `Instr`, one constructor per row of
spec/opcode_table.json. A mailbox command carries the entry of R358; an event carries what the world outside the block
supplies (a converter's code, a level, a frame). -/

namespace Sys2Proof

/-- Authority levels of R347; each includes the levels before it. -/
inductive Authority where
  | observe | operate | engineer | safety
deriving DecidableEq, Repr

/-- The path an access arrives by: PCIe, or a WINDOW or MAILBOX frame from a fabric address (R335, R355). -/
inductive Path where
  | pcie
  | fabric (addr : BitVec 16)
deriving DecidableEq, Repr

/-- Who writes SO_REQ: the host by a path, or the Folio firmware (R331, R337). -/
inductive SoWriter where
  | host (p : Path)
  | folio
deriving DecidableEq, Repr

/-- The BARs of R335. -/
inductive Bar where
  | bar0 | bar2 | bar4
deriving DecidableEq, Repr

/-- A command entry of R358: the mailbox that carried it, its header and its parameter words. -/
structure MbCmd where
  mb : Fin 8
  flags : BitVec 16 := 0
  tag : Word := 0
  target : Word := 0
  rsvd : BitVec 16 := 0
  length : BitVec 16 := 16
  params : Block := []
deriving DecidableEq, Repr

/-- One pair of conversions of a channel (R70, R71): the raw codes, the dither of each in 1/16 LSB, and the sampling
instant on the die's phase reference (R44), in fine ticks. -/
structure Conversion where
  codeV : Int
  codeI : Int
  ditherV : Int := 0
  ditherI : Int := 0
  tick : Nat := 0
deriving DecidableEq, Repr

/-- What the on-die code of a DRAM die reports with a read (R258). -/
inductive InnerFlag where
  | clean | corrected | uncorrectable
deriving DecidableEq, Repr

/-- A descriptor of a stream's ring as the host has written it (R263). -/
structure RingDesc where
  addr : BitVec 64
  size : Nat
  own : Bool
deriving DecidableEq, Repr

/-- A write of RING_TAIL, and the descriptors that the host has put into its ring before it (R263, R349). -/
structure TailWrite where
  tail : Word
  descs : List RingDesc
deriving DecidableEq, Repr

/-- Limit and home switches of an axis (R271). -/
inductive Switch where
  | limp | limn | home
deriving DecidableEq, Repr

/-- An encoder edge: one quadrature count up or down, or the rising edge of the index (R294, R291). -/
inductive EncEdge where
  | up | down | index
deriving DecidableEq, Repr

/-- Whose reload capture point has come: a channel (R46) or an axis of the stroke unit (R276). -/
inductive CaptureOf where
  | channel (n : Fin 256)
  | axis (a : Fin 8)
deriving DecidableEq, Repr

/-- How a port loses its link (R379): its block lock, or by hi_ber with block lock held. -/
inductive LinkLoss where
  | lock (p : Fin 4)
  | hiBer (p : Fin 4)
deriving DecidableEq, Repr

/-- An edge of a TIN input, and for how many ns the level behind it lasts (R418). -/
structure TinEdge where
  falling : Bool
  held : Nat
deriving DecidableEq, Repr

/-- The lanes of the PCIe link, and whether the host has put the function into D3hot (R334). -/
structure PcieWidth where
  lanes : Fin 16
  d3hot : Bool
deriving DecidableEq, Repr

/-- A converter under self-test: converter 0 to 139 of a die (R70), or a coil converter (R274; `b` false for coil A). -/
inductive ConvRef where
  | fe (die : Fin 4) (c : Fin 140)
  | coil (a : Fin 8) (b : Bool)
deriving DecidableEq, Repr

/-- Quire targets of R172. -/
inductive QTarget where
  | ductus | folio | stroke | inkwell
deriving DecidableEq, Repr

/-- Quire producers of R181 (event sources of R189). -/
inductive Producer where
  | nib (k : Fin 20) | mailbox (k : Fin 8) | pounce (u : Fin 32) | stroke | firmware
deriving DecidableEq, Repr

/-- How the FCS of a frame stands to the bytes before it (R388): correct, the inverted correct value, or neither. -/
inductive Fcs where
  | good | inverted | wrong
deriving DecidableEq, Repr

/-- An Ethernet frame in the layout of R380 and R381: MAC header, Ligature header, and the bytes between it and the FCS. A frame that
is cut off has fewer bytes than LEN says, and a wrong FCS. -/
structure Frame where
  dstMac : BitVec 48 := 0x03004C494700
  srcMac : BitVec 48 := 0
  etherType : BitVec 16 := 0x88B5
  ver : Nat := 1
  typ : Nat
  rsvd : Nat := 0
  resp : Bool := false
  err : Bool := false
  hopLimit : Nat := 64
  hops : Nat := 0
  dst : BitVec 16 := 0
  src : BitVec 16 := 0
  fseq : Word := 0
  len : Nat := 0
  hcrc : BitVec 16 := 0
  bytes : List Byte := []
  fcs : Fcs := .good
deriving DecidableEq, Repr

/-- The PTP messages of R407; `other` is a management message or one that the device does not support. -/
inductive PtpKind where
  | sync | delayReq | pdelayReq | pdelayResp | followUp | delayResp | announce | other
deriving DecidableEq, Repr

/-- A PTP message (R407): the fields of its header, then those of its body. Times are in 0.1 ns as the port stamps them at the MAC
point (R409); the correction field is in 1/65,536 ns. `originTime2` is the second time of a two-step Pdelay_Resp. -/
structure PtpMsg where
  kind : PtpKind
  srcMac : BitVec 48 := 0
  domain : Nat := 0
  clockId : Nat := 0
  portNo : Nat := 0
  seqId : Nat := 0
  twoStep : Bool := false
  logInterval : Int := 0
  correction : Int := 0
  originTime : Nat := 0
  originTime2 : Nat := 0
  tMac : Nat := 0
  reqId : Nat := 0
  reqPort : Nat := 0
  utcOffset : Int := 0
  priority1 : Nat := 128
  clockClass : Nat := 248
  accuracy : Nat := 254
  variance : Nat := 0
  priority2 : Nat := 128
  grandmaster : Nat := 0
  stepsRemoved : Nat := 0
deriving DecidableEq, Repr

/-- A peer-delay message, and the port clock's reading in 0.1 ns at which an answer to it leaves (R407). -/
structure PdelayIn where
  msg : PtpMsg
  tOut : Nat
deriving DecidableEq, Repr

/-- Bands of an SOk_FB reading (R310); `none` is a reading outside all three. -/
inductive FbBand where
  | low | mid | high | none
deriving DecidableEq, Repr

/-- What one Margin channel meets in the interval before its tick: the raw edges of SI0_A, SI0_B to SI15_B in order of time (µs into
the interval; pin 2p is pin A of pair p, 2p + 1 pin B; R304), the bands of SO0_FB to SO7_FB (R311), the readback of TP0 to TP3
agrees (R321 code 9), its own diagnostics hold: supply (codes 4, 5), memory test (6, 7), and the bits of its copy of the
configuration that have turned over (code 8). -/
structure MarginIn where
  edges : List (Nat × Fin 32) := []
  fb : List FbBand := []
  tpOk : Bool := true
  supplyOk : Bool := true
  memOk : Bool := true
  flips : List (Fin 6048) := []
deriving DecidableEq, Repr

/-- Writers of the Vellum (R424). -/
inductive VWriter where
  | folio | timebase | blotter | hlimGuard | marginA | marginB | feDie (f : Fin 4) | nib | sequencer | controller
deriving DecidableEq, Repr

/-- Outcome of a SECDED read (R429). -/
inductive ReadOutcome where
  | clean | corrected | uncorrectable
deriving DecidableEq, Repr

/-- An uncorrectable error in a held set of a Pounce unit (R243): the set's index, the signal's place in it, the value it now reads
as, and the pool page. -/
structure SetError where
  index : Nat
  signal : Fin 8
  value : BitVec 32
  page : Fin 256
deriving DecidableEq, Repr

/-- Clock domains of R19, coded as R467 codes them. -/
inductive ClkDomain where
  | aon | ref | pwm | dram | time | fabtx | fabrx | host | safe
deriving DecidableEq, Repr

/-- Reset sources of R444 (TEST_MODE of R494 and the self-reset of R478 with them). -/
inductive ResetSrc where
  | powerOn | supplyW | supplyF | resetN | warmN | ctlF | ctlC | pcie | watchdog | folioLoss | thermal | fabricC
  | fabricF | refLoss | testMode | pfailSelf | standbyExit
deriving DecidableEq, Repr

/-- What the world supplies when a release stage completes (R447): the straps sampled at stage 3 (R451), the training and
index check of stage 5 (R447, R261), the delay lines that could not be calibrated at stage 7, each with its error (R37), the
Nibs whose self-test failed at stage 6 (R214), and what stage 11 finds (R450, R460 to R463): whether the protected copy passes its
CRC, the flash slot tried first and, for it and for the other, the check of R463 that it fails (0: none) and its IMAGE_SEQ; FW_VERSION,
CRC and words 0x18 and 0x1C of the image that boots. -/
structure StageIn where
  bootSrc : Nat := 0
  clkMode : Nat := 0
  dramFailed : Option (Fin 2) := none
  indexOk : Bool := true
  nibsFailed : List (Fin 20) := []
  dlineFailed : List (Fin 4 × Fin 128 × Int) := []
  copyGood : Bool := true
  firstSlot : Fin 2 := 0
  firstFail : Fin 5 := 0
  firstSeq : Word := 0
  otherFail : Fin 5 := 0
  otherSeq : Word := 0
  fwVersion : Word := 0
  fwCrc : Word := 0
  ethPort : Word := 0
  bTimeoutUs : Word := 0
deriving DecidableEq, Repr

/-- The commands: one constructor per row of spec/opcode_table.json, in the table's order. -/
inductive Instr where
  /-- NOP (R361). Command that does nothing and answers RC_OK. -/
  | nop (m : MbCmd)
  /-- DEV_INFO (R364). Command that returns identity, straps, grade, firmware version and DEV_STATE. -/
  | devInfo (m : MbCmd)
  /-- SESSION_OPEN (R348). Opens or replaces the mailbox session at a given authority level, checking its password and optionally replacing it. -/
  | sessionOpen (m : MbCmd)
  /-- SESSION_CLOSE (R347). Ends the mailbox session, so that later commands run with OBSERVE authority. -/
  | sessionClose (m : MbCmd)
  /-- DEV_MODE_SET (R366). Sets DEV_STATE.MODE to NORMAL or SERVICE; leaving SERVICE stops streaming units and self-tests. -/
  | devModeSet (m : MbCmd)
  /-- DEV_STANDBY (R366). Checks that every channel and axis is idle, answers, then starts the entry into STANDBY. -/
  | devStandby (m : MbCmd)
  /-- CH_CONFIG (R64). Stores a channel's drive, run and measurement configuration block in OFF or ABSENT. -/
  | chConfig (m : MbCmd)
  /-- CH_ENABLE (R66). Runs CK01 to CK32 and moves the channel from OFF to CONFIGURED, freezing its configuration. -/
  | chEnable (m : MbCmd)
  /-- CH_DISABLE (R157). Returns a channel to OFF from any legal state. -/
  | chDisable (m : MbCmd)
  /-- CH_STATUS (R368). Returns the channel's state, flags, latest values, accumulators and counters. -/
  | chStatus (m : MbCmd)
  /-- CH_CLEAR (R59). Tests the trip causes of a TRIPPED channel and, if none is active, clears them and goes to CLEAR_TO. -/
  | chClear (m : MbCmd)
  /-- CH_ARM (R157). Checks the recipe, sets position 0, clears ST, accumulators and counters, and loads step 0 and its primary-next. -/
  | chArm (m : MbCmd)
  /-- CH_START (R160). Starts an ARMED channel at once, or sets a start pending until START_TIME. -/
  | chStart (m : MbCmd)
  /-- START_AT_REACHED (R160). A pending start reaches START_TIME, and the channel enters RUNNING. -/
  | startAtReached (n : Fin 256)
  /-- CH_HOLD (R157). Moves a RUNNING channel to HELD after the current evaluation, or cancels a pending start. -/
  | chHold (m : MbCmd)
  /-- CH_RESUME (R203). Continues a HELD or INTERRUPTED channel after the restore, configuration and trip checks, and writes a RESUME record. -/
  | chResume (m : MbCmd)
  /-- CH_ABORT (R157). Ends the run and moves the channel to DONE, cancelling any pending mediated item. -/
  | chAbort (m : MbCmd)
  /-- CH_STEP_JUMP (R161). Sets the position of an ARMED or HELD channel to a given step and zeroes ST and the step accumulators. -/
  | chStepJump (m : MbCmd)
  /-- RCP_LOAD (R164). Writes up to three step entries into a recipe slot, beginning or continuing a load. -/
  | rcpLoad (m : MbCmd)
  /-- RCP_VERIFY (R165). Runs VK01 to VK14 over a loaded recipe and marks the slot VERIFIED or LOADED. -/
  | rcpVerify (m : MbCmd)
  /-- RCP_VERIFY_PIECE (R154). A Ductus engine serves one piece of at most 1.5 µs of RCP_VERIFY work and posts the next piece. -/
  | rcpVerifyPiece (mb : Fin 8) (steps : Nat)
  /-- RCP_DELETE (R166). Empties a recipe slot and frees its blocks. -/
  | rcpDelete (m : MbCmd)
  /-- RCP_LIST (R166). Returns the state, RCP_ID, users, size and CRC of 14 slots. -/
  | rcpList (m : MbCmd)
  /-- LOOP_SET (R116). Writes a complete coefficient set of a channel in OFF, CONFIGURED or HELD. -/
  | loopSet (m : MbCmd)
  /-- LOOP_GET (R120). Returns a coefficient set and the live loop state, optionally clearing the sticky flags. -/
  | loopGet (m : MbCmd)
  /-- TUNE_INJECT (R121). Moves a channel into TUNE at an operating point with a test-signal injection and a held Pounce capture. -/
  | tuneInject (m : MbCmd)
  /-- TUNE_STOP (R127). Ends TUNE, returns the channel to its earlier state and gives the gain and phase estimate. -/
  | tuneStop (m : MbCmd)
  /-- ACQ_CONFIG (R234). Stores the configuration of a Pounce unit. -/
  | acqConfig (m : MbCmd)
  /-- ACQ_ARM (R236). Runs QK01 to QK17, reserves pages and enters ARMED or STREAMING. -/
  | acqArm (m : MbCmd)
  /-- ACQ_FORCE (R237). Forces a trigger, or a trigger mark in a stream, at the next tick. -/
  | acqForce (m : MbCmd)
  /-- ACQ_STOP (R237). Stops an armed, streaming or triggered capture. -/
  | acqStop (m : MbCmd)
  /-- ACQ_READ (R238). Reads the summary or measurements of a capture, delivers its sets as CAPTURE records, or releases it. -/
  | acqRead (m : MbCmd)
  /-- REC_CONFIG (R267). Sets the device-wide record options PERIODIC_IDLE, EVT_MIN, THIN_RESERVE and FLUSH_US. -/
  | recConfig (m : MbCmd)
  /-- REC_STREAM_OPEN (R262). Opens or closes a record stream to PCIe or the fabric. -/
  | recStreamOpen (m : MbCmd)
  /-- REC_STATUS (R268). Returns the store's pages, sequence numbers, stream positions and counters. -/
  | recStatus (m : MbCmd)
  /-- AX_CONFIG (R282). Stores an axis configuration and either enables the axis through AK01 to AK17 or disables it. -/
  | axConfig (m : MbCmd)
  /-- AX_TABLE_LOAD (R279). Writes one quarter of an axis microstep table; CHUNK 3 checks the whole table and takes it into use. -/
  | axTableLoad (m : MbCmd)
  /-- AX_HOME (R291). Starts a homing sequence by the chosen method. -/
  | axHome (m : MbCmd)
  /-- AX_HOME_DONE (R291). A homing sequence sets the origin or fails with a reason, and the axis ends IDLE. -/
  | axHomeDone (a : Fin 8)
  /-- AX_MOVE (R286). Gives an axis a new target, continuing the move or reversing through rest. -/
  | axMove (m : MbCmd)
  /-- AX_MOVE_LINEAR (R288). Starts a coordinated linear move of several axes led by the axis of largest travel. -/
  | axMoveLinear (m : MbCmd)
  /-- AX_MOVE_DONE (R285). A move reaches its target at rest, and the axis enters IDLE. -/
  | axMoveDone (a : Fin 8)
  /-- AX_STOP (R287). Decelerates a moving or homing axis to rest, normally or QUICK. -/
  | axStop (m : MbCmd)
  /-- AX_STATUS (R296). Returns the axis state, position, speed, coil currents and counters. -/
  | axStatus (m : MbCmd)
  /-- AX_STANDSTILL (R293). Enters STANDSTILL at once, or changes the standstill mode. -/
  | axStandstill (m : MbCmd)
  /-- COIL_RAMP_DONE (R286). The 1 ms ramp of the coils to a new current level ends, and a waiting profile starts. -/
  | coilRampDone (a : Fin 8)
  /-- AX_IDLE_TIMEOUT (R293). An axis idle for IDLE_TIMEOUT enters STANDSTILL in SS_MODE. -/
  | axIdleTimeout (a : Fin 8)
  /-- STEP_GENERATOR_UPDATE (R284). The step generator advances POSITION by one microstep along the profile. -/
  | stepGeneratorUpdate (a : Fin 8)
  /-- COIL_EVALUATION (R275). N16 runs the current loops of both coils of an axis and writes GM words. -/
  | coilEvaluation (a : Fin 8) (codes : List (Int × Int)) (residueOk : Bool)
  /-- SWITCH_DEBOUNCED (R289). A limit or home switch changes its debounced level after its debounce time. -/
  | switchDebounced (a : Fin 8) (sw : Switch)
  /-- ENCODER_EDGE (R294). An encoder quadrature or index edge updates the encoder position and the following-error check. -/
  | encoderEdge (a : Fin 8) (e : EncEdge)
  /-- SAFE_CFG_LOAD (R326). Stages a configuration chunk, commits the staged safety configuration, or sets the safety password. -/
  | safeCfgLoad (m : MbCmd)
  /-- SAFE_CFG_ACCEPT (R327). Accepts the committed safety configuration and moves the Margin to RUN. -/
  | safeCfgAccept (m : MbCmd)
  /-- SAFE_STATUS (R329). Returns the Margin state, faults, demands, permits and monitored speeds. -/
  | safeStatus (m : MbCmd)
  /-- SAFE_LOG_READ (R328). Returns up to seven safety log entries. -/
  | safeLogRead (m : MbCmd)
  /-- SAFE_RESET (R330). Clears external output, test-pulse and encoder faults whose cause is gone. -/
  | safeReset (m : MbCmd)
  /-- FAB_DISCOVER (R390). Starts a fabric discovery, or reads its results. -/
  | fabDiscover (m : MbCmd)
  /-- DISCOVERY_DONE (R390). Discovery ends after 500 ms without a new REPLY or 5 s after its start. -/
  | discoveryDone
  /-- FAB_ADDR_SET (R391). Assigns fabric addresses by unique ID or along a ring. -/
  | fabAddrSet (m : MbCmd)
  /-- FAB_ASSIGN_TIMEOUT (R391). An address assignment gets no REPLY, or the ring does not close, within 1 s. -/
  | fabAssignTimeout
  /-- FAB_ROUTE_LOAD (R372). Writes route table entries, each whole. -/
  | fabRouteLoad (m : MbCmd)
  /-- FAB_STATUS (R372). Returns the address, link state and port counters. -/
  | fabStatus (m : MbCmd)
  /-- TIME_CONFIG (R406). Sets the PTP role, priorities, domain, delay mechanism, latencies and step threshold. -/
  | timeConfig (m : MbCmd)
  /-- TIME_SET (R413). Steps the timebase to a given time while the servo is FREE or HOLDOVER. -/
  | timeSet (m : MbCmd)
  /-- TIME_SLEW (R412). Starts removing an offset by slewing the rate. -/
  | timeSlew (m : MbCmd)
  /-- TIME_SLEW_DONE (R412). The slew has removed its offset and ends. -/
  | timeSlewDone
  /-- TIME_OUT_CONFIG (R415). Programs a time output or a compare slot after the TK checks. -/
  | timeOutConfig (m : MbCmd)
  /-- TIME_CAPTURE_READ (R418). Returns and removes the oldest captures of a TIN input and clears LOST. -/
  | timeCaptureRead (m : MbCmd)
  /-- TIME_STATUS (R373). Returns the servo state, era, master and offset. -/
  | timeStatus (m : MbCmd)
  /-- CAL_POINT (R84). Starts averaging a calibration point of a channel against a reference value. -/
  | calPoint (m : MbCmd)
  /-- CAL_POINT_DONE (R84). The averaging of a calibration point ends, and the point is kept and answered. -/
  | calPointDone (n : Fin 256)
  /-- CAL_POINT_EXPIRY (R85). A held calibration point is discarded 1 h after it was taken. -/
  | calPointExpiry (n : Fin 256) (current : Bool) (range : Fin 6) (full : Bool)
  /-- CAL_COMMIT (R87). Checks HOST_CHECK, computes GAIN and OFFSET and writes the calibration record. -/
  | calCommit (m : MbCmd)
  /-- CAL_READ (R90). Returns a calibration record. -/
  | calRead (m : MbCmd)
  /-- OPT_SET (R369). Reads or persistently writes one device option. -/
  | optSet (m : MbCmd)
  /-- EVT_CONFIG (R370). Sets or restores the limiter of an event code, or flushes the Blotter. -/
  | evtConfig (m : MbCmd)
  /-- EVT_CLEAR (R439). Moves the Blotter's retained mark. -/
  | evtClear (m : MbCmd)
  /-- SPARE_STATUS (R371). Returns the roles of Nibs, cores, spare converters and spare rows. -/
  | spareStatus (m : MbCmd)
  /-- SPARE_RETIRE (R371). Retires a Nib, a spare converter or a Folio core for good. -/
  | spareRetire (m : MbCmd)
  /-- SELFTEST (R371). Starts a self-test of an idle spare Nib, of FE converters or of the spare core in SERVICE mode. -/
  | selftest (m : MbCmd)
  /-- SELFTEST_DONE (R371). A self-test ends, or is ended by a takeover or by leaving SERVICE mode, and is answered. -/
  | selftestDone (pass : Bool) (duration : Word) (failCode : Word)
  /-- WEAR_REPORT (R371). Returns the wear and retirement counts. -/
  | wearReport (m : MbCmd)
  /-- FW_STAGE (R374). Writes bytes of a firmware image into the staging buffer. -/
  | fwStage (m : MbCmd)
  /-- FW_ACTIVATE (R374). Checks and activates the staged image, optionally writes flash, and restarts the Folio with reach C. -/
  | fwActivate (m : MbCmd)
  /-- MB_DOORBELL (R345). A write to MBk_DOORBELL publishes commands or is refused with DB_ERR. -/
  | mbDoorbell (p : Path) (k : Fin 8) (v : Word)
  /-- MB_COMMAND_TAKE (R346). The Folio takes the next command of a mailbox, advances CMD_HEAD and runs the common checks. -/
  | mbCommandTake (k : Fin 8)
  /-- MB_RESPONSE_WRITE (R346). A completed response is written to the ring when there is room, RSP_TAIL advances and the vector fires. -/
  | mbResponseWrite (k : Fin 8)
  /-- MB_RSP_HEAD_WRITE (R346). The host writes MBk_RSP_HEAD to consume responses, freeing room for waiting ones. -/
  | mbRspHeadWrite (p : Path) (k : Fin 8) (v : Word)
  /-- MB_CFG_WRITE (R342). Writes the mailbox PATH and SRC_ADDR, or is refused with CFG_ERR. -/
  | mbCfgWrite (p : Path) (k : Fin 8) (v : Word)
  /-- MB_STAT_CLEAR (R342). A W1C write clears CFG_ERR or DB_ERR of a mailbox. -/
  | mbStatClear (p : Path) (k : Fin 8) (v : Word)
  /-- RESET_CAUSE_CLEAR (R339). A W1C write clears bits of RESET_CAUSE. -/
  | resetCauseClear (p : Path) (v : Word)
  /-- RESET_CTL_F (R340). RESET_CTL written with KEY and reach F requests a flushed reset of reach F. -/
  | resetCtlF (p : Path) (v : Word)
  /-- RESET_CTL_C (R340). RESET_CTL written with KEY and reach C requests a reset of reach C. -/
  | resetCtlC (p : Path) (v : Word)
  /-- RESET_CTL_B (R340). RESET_CTL written with KEY and reach B requests a block reset, or is refused. -/
  | resetCtlB (p : Path) (v : Word)
  /-- IRQ_STAT_CLEAR (R341). A W1C write clears pending interrupt bits. -/
  | irqStatClear (p : Path) (v : Word)
  /-- IRQ_EN_WRITE (R341). Enables vectors; a pending bit that becomes enabled sends its message. -/
  | irqEnWrite (p : Path) (v : Word)
  /-- TIME_LO_READ (R404). A read of TIME_LO latches TIME_HI and TIME_ERA for the reading path. -/
  | timeLoRead (p : Path)
  /-- SO_REQ_WRITE (R337). Writes the functional requests of the safe outputs whole. -/
  | soReqWrite (p : SoWriter) (v : Word)
  /-- SO_REQ_SET (R337). Sets the written bits in SO_REQ. -/
  | soReqSet (p : SoWriter) (v : Word)
  /-- SO_REQ_CLR (R337). Clears the written bits in SO_REQ. -/
  | soReqClr (p : SoWriter) (v : Word)
  /-- BLOT_CURSOR_WRITE (R438). Fills the path's Blotter window with eight entries from the given SEQ. -/
  | blotCursorWrite (p : Path) (v : Word)
  /-- REC_ACK_WRITE (R265). Acknowledges stream records up to the written SEQ and frees unowed records. -/
  | recAckWrite (p : Path) (st : Fin 4) (v : Word)
  /-- RING_TAIL_WRITE (R349). The host gives PCIe descriptors to a stream, which resumes waiting delivery. -/
  | ringTailWrite (p : Path) (st : Fin 4) (v : TailWrite)
  /-- HLIM_UNLOCK (R352). Starts the limits password check that unlocks the HLIM window for the writing path. -/
  | hlimUnlock (p : Path) (v : Word)
  /-- HLIM_PASSWORD_CHECKED (R352). The 1 ms password check ends with an unlock, a counted failure or a lockout. -/
  | hlimPasswordChecked
  /-- HLIM_LOCK (R352). A write of LOCK = 1 ends the unlock of this path. -/
  | hlimLock (p : Path) (v : Word)
  /-- HLIM_SETPW (R350). While unlocked, makes HLIM_PW the new limits password. -/
  | hlimSetpw (p : Path) (v : Word)
  /-- HLIM_STAGE_WRITE (R352). Writes the staging record, or is ignored with LAST_RESULT 1 from a path without the unlock. -/
  | hlimStageWrite (p : Path) (word : Fin 16) (v : Word)
  /-- HLIM_COMMIT (R353). Checks the staged record and writes it persistently as a live hard-limit record. -/
  | hlimCommit (p : Path) (v : Word)
  /-- HLIM_UNLOCK_EXPIRY (R352). An unlock ends 300 s after the unlock or the latest HLIM write of its path. -/
  | hlimUnlockExpiry
  /-- HLIM_LOCKOUT_END (R352). The 600 s limits lockout ends. -/
  | hlimLockoutEnd
  /-- SESSION_LOCK_END (R348). The 600 s session password lock of a level ends. -/
  | sessionLockEnd (level : Authority)
  /-- SAFE_LOCK_END (R326). The 600 s safety password lock ends. -/
  | safeLockEnd
  /-- WATCHDOG_RESTART (R465). A voted write restarts the Folio watchdog. -/
  | watchdogRestart
  /-- REGISTER_WRITE (R336). A write to a register without a row of its own, with misaligned or unnamed writes ignored and counted. -/
  | registerWrite (p : Path) (bar : Bar) (offset : Nat) (data : List Byte)
  /-- CHANNEL_CONVERSION (R70). A channel's voltage and current converters sample and convert a pair, which the FE die calibrates, compares and averages. -/
  | channelConversion (n : Fin 256) (c : Conversion)
  /-- TRIP_PIN (R56). A selected TRIP input becomes active after its filter and trips the channels that select it. -/
  | tripPin (die : Fin 4) (k : Fin 8) (level : Bool)
  /-- GROUP_POWER_WINDOW (R76). A 1 ms power window ends; the channel and group powers are formed and compared. -/
  | groupPowerWindow (g : Fin 16)
  /-- GP_RELEASED (R62). A filtered GPg_N rises, and the group's channels trip with cause PRESENCE. -/
  | gpReleased (g : Fin 16)
  /-- GP_SEATED (R63). A filtered GPg_N falls, and the presence counts start again. -/
  | gpSeated (g : Fin 16)
  /-- CH_BOARD_REMOVED (R62). GPg_N has stayed high for 10 ms, and every channel of the group goes ABSENT. -/
  | chBoardRemoved (g : Fin 16)
  /-- CH_BOARD_INSERTED (R63). GPg_N has been low for 100 ms, and the group's channels go from ABSENT to OFF. -/
  | chBoardInserted (g : Fin 16)
  /-- RELOAD_CAPTURE (R46). At a reload capture point the FE die or stroke unit latches the held word and forms P and A. -/
  | reloadCapture (w : CaptureOf) (late : Bool)
  /-- DLINE_CALIBRATION (R36). The FE die calibrates its delay lines against the coarse tick every 64 µs. -/
  | dlineCalibration (die : Fin 4) (line : Fin 128) (err : Int)
  /-- CONV_SELFTEST (R91). A converter converts the band-gap reference once a second and is judged against REF_CODE. -/
  | convSelftest (c : ConvRef) (code : Int)
  /-- SPARE_SETTLED (R92). A steered spare has settled for 100 µs and replaces the converter at the next window. -/
  | spareSettled (die : Fin 4) (c : Fin 140)
  /-- AUX_CONVERSION (R94). An auxiliary converter converts the next input of its scan. -/
  | auxConversion (die : Fin 4) (j : Fin 8) (code : Int) (dither : Int)
  /-- AUX_URGENT_REQUEST (R95). A Pounce unit requests an urgent conversion of an auxiliary input. -/
  | auxUrgentRequest (u : Fin 32) (input : Fin 288)
  /-- CAL_TEMP_DRIFT (R98). The FE die temperature crosses 5 K from CAL_TEMP, and CAL_TEMP_DRIFT is set or cleared. -/
  | calTempDrift (die : Fin 4) (temp : Int)
  /-- NIB_EVALUATION (R100). A Nib evaluates one loop update of a channel: accumulates, runs the law, tests conditions and writes the word. -/
  | nibEvaluation (n : Fin 256) (residueOk : Bool)
  /-- CHECKPOINT_WRITE (R194). A channel checkpoint is written to the older copy once its Vellum bank serves it. -/
  | checkpointWrite (n : Fin 256)
  /-- CKPT_INTERVAL_DUE (R193). CKPT_INTERVAL comes due for a RUNNING or TUNE channel, and an INTERVAL checkpoint is started. -/
  | ckptIntervalDue (n : Fin 256)
  /-- QUIRE_POST_ACK (R182). A post held for lack of share entries is acknowledged once an entry is freed. -/
  | quirePostAck (p : Producer)
  /-- QUIRE_ITEM_DUE (R179). A delayed item reaches its due tick and becomes WAITING or READY. -/
  | quireItemDue (uid : Nat)
  /-- QUIRE_DISPATCH (R177). A free serving block receives the head of the highest eligible ready list. -/
  | quireDispatch (t : QTarget) (block : Fin 64) (entry : ReadOutcome)
  /-- DUCTUS_MEDIATED_ITEM (R154). A Ductus engine resolves a mediated transition, writes the new step into the Nib and pre-loads its primary-next. -/
  | ductusMediatedItem (e : Fin 8)
  /-- DUCTUS_PRELOAD_ITEM (R151). A Ductus engine resolves and loads the primary-next of the current step. -/
  | ductusPreloadItem (e : Fin 8)
  /-- NIB_TAKEOVER (R211). A spare has powered up, loaded the mirror and passed self-test, and writes its first words. -/
  | nibTakeover (g : Fin 17) (pass : Bool)
  /-- NIB_FENCED_SELFTEST (R213). A fenced Nib finishes its reset and self-test and is retired or starts REVERT_HOLD. -/
  | nibFencedSelftest (k : Fin 20) (pass : Bool)
  /-- NIB_REVERT (R213). REVERT_HOLD expires, and the group is handed back to the returning Nib. -/
  | nibRevert (g : Fin 17) (pass : Bool)
  /-- FOLIO_TRANSACTION_VOTE (R215). The voter compares an outbound transaction of the voting cores and issues or withholds it. -/
  | folioTransactionVote (cls : Fin 16) (tx : List Nat)
  /-- FOLIO_VOTE_TIMEOUT (R215). A core's transaction has not reached the voter 50 µs after the first core's. -/
  | folioVoteTimeout (core : Fin 4)
  /-- FOLIO_SPARE_JOINED (R216). The booted spare core joins the vote after the barrier. -/
  | folioSpareJoined
  /-- FOLIO_BOOT_DONE (R450). The Folio finishes booting, restores channels where due and sets MB_READY. -/
  | folioBootDone
  /-- ACQ_TICK (R227). A Pounce unit takes a set at a tick, runs its sequencer and stores per its mode. -/
  | acqTick (u : Fin 32)
  /-- ACQ_TIMER_EXPIRY (R228). A sequencer timer expires TMRj_US after its start. -/
  | acqTimerExpiry (u : Fin 32) (j : Fin 2)
  /-- ACQ_COMPLETE (R240). The per-capture measurements are computed, and a delivery follows if asked. -/
  | acqComplete (u : Fin 32) (error : Option SetError)
  /-- ACQ_PAGE_HANDOVER (R233). A stream page is handed to the Inkwell when full or 10 ms after its first set. -/
  | acqPageHandover (u : Fin 32) (error : Option SetError)
  /-- PERIODIC_RECORD (R249). A channel's record interval ends, and a PERIODIC record is written. -/
  | periodicRecord (n : Fin 256)
  /-- RECORD_STORE (R247). A record enters the store, receives its SEQ and is owed to the streams that select it. -/
  | recordStore
  /-- THINNING_PASS (R266). FREE_PAGES below THIN_RESERVE starts reclaiming by stages. -/
  | thinningPass
  /-- DRAM_SCRUB (R259). The controller reads and corrects codewords and retires bad pages. -/
  | dramScrub (page : Nat) (codeword : Fin 64) (data : List (Fin 128)) (inner : InnerFlag) (check : List (Fin 16))
  /-- STREAM_BUFFER_RETURN (R263). A PCIe buffer is returned when the next record does not fit or FLUSH_US after its first record. -/
  | streamBufferReturn (st : Fin 4) (entry : Nat) (desc : RingDesc)
  /-- STREAM_FRAME_SEND (R264). A fabric stream sends records in STREAM frames. -/
  | streamFrameSend (st : Fin 4) (count : Nat)
  /-- REC_STREAM_RESEND (R264). A fabric stream's acknowledgement makes no progress for RETX_MS, and it resends. -/
  | recStreamResend (st : Fin 4)
  /-- HELLO_SEND (R379). A port sends a HELLO every 100 ms while it holds block lock. -/
  | helloSend (p : Fin 4)
  /-- HELLO_RECEIVE (R382). A port takes a HELLO from its peer. -/
  | helloReceive (p : Fin 4) (f : Frame)
  /-- LINK_UP (R379). A port becomes UP. -/
  | linkUp (p : Fin 4)
  /-- LINK_DOWN (R379). A port loses block lock or enters hi_ber and goes DOWN. -/
  | linkDown (p : LinkLoss)
  /-- PEER_SILENT (R379). 300 ms pass without a HELLO, and the port goes DOWN. -/
  | peerSilent (p : Fin 4)
  /-- PRIM_HOLD_END (R384). A returned PRIM port has been UP for 1 s and carries frames again. -/
  | primHoldEnd (p : Fin 4)
  /-- FRAME_FORWARD (R384). A received frame not for this device is forwarded by route, group or flood, or dropped. -/
  | frameForward (p : Fin 4) (f : Frame)
  /-- DISCOVER_REQUEST (R390). A device takes a discovery REQUEST, records the port and answers with a REPLY. -/
  | discoverRequest (p : Fin 4) (f : Frame)
  /-- DISCOVER_REPLY (R390). A REPLY is passed back along the recorded ports or becomes a result at the origin. -/
  | discoverReply (p : Fin 4) (f : Frame)
  /-- ASSIGN_UID (R391). The device with the matching UID takes the address and replies. -/
  | assignUid (p : Fin 4) (f : Frame)
  /-- ASSIGN_RING (R391). A device takes a ring address and passes ADDR + 1 on. -/
  | assignRing (p : Fin 4) (f : Frame)
  /-- WINDOW_READ (R392). A port serves a WINDOW read of registers and answers. -/
  | windowRead (p : Fin 4) (f : Frame)
  /-- WINDOW_WRITE (R392). A port applies WINDOW write words in order and answers. -/
  | windowWrite (p : Fin 4) (f : Frame)
  /-- WINDOW_RESET (R393). A RESET frame with the right device key starts a reset of reach F or C. -/
  | windowReset (p : Fin 4) (f : Frame)
  /-- MAILBOX_COMMAND (R394). A port writes a fabric command into the mailbox ring, applies the doorbell and acknowledges. -/
  | mailboxCommand (p : Fin 4) (f : Frame)
  /-- MAILBOX_ACK (R394). An ACK for a fabric response lets RSP_HEAD advance. -/
  | mailboxAck (p : Fin 4) (f : Frame)
  /-- MAILBOX_RESPONSE_RESEND (R394). An unacknowledged fabric response is resent every 20 ms, at most 5 times. -/
  | mailboxResponseResend (k : Fin 8)
  /-- SYNC_FRAME (R396). A SYNC frame enters the SYNC table. -/
  | syncFrame (p : Fin 4) (f : Frame)
  /-- SYNC_ENTRY_EXPIRY (R396). A SYNC entry expires 60 s after its T_EFF. -/
  | syncEntryExpiry (id : BitVec 16)
  /-- NOTICE_RECEIVE (R398). A received notice is admitted and forwarded or delivered, or suppressed. -/
  | noticeReceive (p : Fin 4) (f : Frame)
  /-- PTP_SYNC_RECEIVE (R405). A Sync message updates the servo's offset and state. -/
  | ptpSyncReceive (p : Fin 4) (m : PtpMsg)
  /-- PTP_ANNOUNCE_RECEIVE (R407). An Announce message feeds the BMCA. -/
  | ptpAnnounceReceive (p : Fin 4) (m : PtpMsg)
  /-- PTP_MASTER_LOSS (R405). Announce or Sync timeouts or ports DOWN put the servo in HOLDOVER. -/
  | ptpMasterLoss (cause : Fin 3)
  /-- PTP_PDELAY_REQ_SEND (R407). A port sends a Pdelay_Req every second. -/
  | ptpPdelayReqSend (p : Fin 4) (t : Nat)
  /-- PTP_PDELAY_RECEIVE (R407). A port answers a Pdelay_Req or takes a Pdelay_Resp. -/
  | ptpPdelayReceive (p : Fin 4) (m : PdelayIn)
  /-- PTP_MASTER_SEND (R407). As master the device sends Sync and Announce messages. -/
  | ptpMasterSend (p : Fin 4) (announce : Bool) (t : Nat)
  /-- PTP_TRANSPARENT_FORWARD (R410). The transparent clock forwards a PTP event message with its residence time added. -/
  | ptpTransparentForward (p q : Fin 4) (m : PtpMsg) (tOut : Nat)
  /-- TIME_MARK_WRITE (R403). The timebase writes TIME_MARK once a second. -/
  | timeMarkWrite
  /-- COMPARE_FIRE (R415). A compare time is reached, and a time output acts or a slot signals. -/
  | compareFire (i : Fin 20)
  /-- TOUT_PULSE_END (R415). A time output pulse ends after WIDTH_NS. -/
  | toutPulseEnd (i : Fin 4)
  /-- TIN_CAPTURE (R418). An edge on a TIN input is captured with its time and era. -/
  | tinCapture (i : Fin 4) (e : TinEdge)
  /-- MARGIN_TICK (R300). At each 1 ms tick both Margin channels sample inputs, evaluate functions, compare and set their outputs. -/
  | marginTick (a b : MarginIn)
  /-- TEST_PULSE (R307). A TP source starts its 200 µs off-pulse in its 20 ms cycle. -/
  | testPulse (k : Fin 4)
  /-- TEST_PULSE_CHECK (R308). A tested pin is judged 150 µs and 350 µs into its source's off-pulse. -/
  | testPulseCheck (k : Fin 4) (before during after : BitVec 32)
  /-- OUTPUT_OFF_PULSE_TEST (R312). A switch of an on output is turned off for 300 µs once a second as a test. -/
  | outputOffPulseTest (k : Fin 8) (low : Bool)
  /-- SO_FB_SETTLE (R311). FB_SETTLE after a change of command, SOk_FB is judged against its expected band. -/
  | soFbSettle (k : Fin 8) (band : FbBand)
  /-- STOP1_TIMER_EXPIRY (R317). The STOP1 timer ends, and the permits of SO_MASK are removed. -/
  | stop1TimerExpiry (f : Fin 16)
  /-- SAFE_CLOCK_CHECK (R300). Every 100 ms Margin-A compares SAFE against REF. -/
  | safeClockCheck (withinOnePercent : Bool)
  /-- MARGIN_STARTED (R302). STARTING completes and the Margin enters RUN, AWAIT_ACCEPT or UNCONFIGURED. -/
  | marginStarted
  /-- SAFE_STAGING_EXPIRY (R326). Safety staging is discarded 60 s after the last chunk. -/
  | safeStagingExpiry
  /-- VELLUM_WORD_WRITE (R426). A Vellum word write completes, with a retry or row retirement on a failed switch. -/
  | vellumWordWrite (w : VWriter) (region : Fin 11) (index : Nat) (data : BitVec 64) (ok retryOk : Bool)
  /-- VELLUM_SCRUB (R429). The controller reads and corrects every word in use at least once in 24 h. -/
  | vellumScrub (index : Fin 524288) (r : ReadOutcome)
  /-- WEAR_MAP_FLUSH (R430). The row counts are written to WEAR_MAP every 60 s. -/
  | wearMapFlush
  /-- EVENT_RAISE (R432). A raised event passes the limiter and, if admitted, reserves a SEQ and a buffer slot. -/
  | eventRaise
  /-- BLOTTER_SUMMARY (R434). A second without a raise of a suppressed code lets in a SUMMARY entry. -/
  | blotterSummary (code : BitVec 16)
  /-- BLOTTER_FLUSH (R435). The unpersisted entries are written into the Vellum ring. -/
  | blotterFlush
  /-- BLOTTER_RING_SCAN (R437). After reach W or F the Blotter scans the ring and continues SEQ. -/
  | blotterRingScan
  /-- POWER_ON (R444). VAON rising applies a reset of reach W. -/
  | powerOn
  /-- SUPPLY_OUT_OF_RANGE (R469). A rail leaves its monitor window and applies a reset of reach W or F. -/
  | supplyOutOfRange (rail : Fin 13) (above pgood : Bool)
  /-- RESET_N_LOW (R445). RESET_N held low applies a reset of reach F without a flush. -/
  | resetNLow
  /-- RESET_N_STUCK (R445). RESET_N has been low for more than 10 s, and STUCK is set. -/
  | resetNStuck (seconds : Nat)
  /-- WARM_N_LOW (R445). WARM_N held low applies a reset of reach C. -/
  | warmNLow
  /-- RESET_RELEASE (R446). The last covering source releases, and the release sequence or Folio restart begins. -/
  | resetRelease (src : ResetSrc)
  /-- PCIE_HOT_RESET (R356). A PCIe hot reset, link disable or PERST_N applies reach B to the host interface. -/
  | pcieHotReset (ends : Bool)
  /-- PCIE_LINK (R357). The PCIe link comes up or goes down. -/
  | pcieLink (speed : Fin 16) (width : PcieWidth)
  /-- WATCHDOG_EXPIRED (R465). The Folio watchdog expires and applies a reset of reach C. -/
  | watchdogExpired
  /-- THERMAL_SHUTDOWN (R444). A die reaching 125 °C applies a flushed reset of reach F. -/
  | thermalShutdown (die : Fin 3) (temp : Int)
  /-- THERMAL_RECOVERY (R444). Every die has been below 105 °C for 1 s, and the thermal source releases. -/
  | thermalRecovery
  /-- REF_LOSS (R444). No REF edge for 1 µs applies a flushed reset of reach F. -/
  | refLoss
  /-- REF_RETURN (R444). REF has been present for 1 ms, and the REF-loss source releases. -/
  | refReturn
  /-- RELEASE_STAGE (R447). A stage of the release sequence completes, and the next starts 10.24 µs later. -/
  | releaseStage (x : StageIn)
  /-- CLK_NOT_GOOD (R448). A stage's clock is not good by its timeout, and CLK_TIMEOUT is set. -/
  | clkNotGood (d : ClkDomain)
  /-- BLOCK_RESET_IDLE (R454). A block acknowledges the idle handshake, and its reset of reach B acts. -/
  | blockResetIdle
  /-- BLOCK_RESET_FORCED (R454). No acknowledgement comes within B_TIMEOUT, and the block reset is forced. -/
  | blockResetForced (dropped : Nat)
  /-- CROSSING_FLUSHED (R458). After a reset of one side, a crossing FIFO resynchronises its pointers and flushes entries. -/
  | crossingFlushed (crossing : Nat) (d : ClkDomain) (count : Nat)
  /-- TEST_MODE_RISE (R494). TEST_MODE rising applies and holds a reset of reach F with JTAG active. -/
  | testModeRise
  /-- PFAIL_SEQUENCE (R476). A falling PFAIL_N ramps channels down, shorts coils, stops transmitters and writes PFAIL checkpoints. -/
  | pfailSequence
  /-- PFAIL_SELF_RESET (R478). 5 ms after PFAIL_N with no monitor reset, the device applies reach F itself. -/
  | pfailSelfReset (level : Bool)
  /-- WAKE_N (R475). WAKE_N low for 1 ms in STANDBY raises PWR_REQ. -/
  | wakeN
  /-- PGOOD_IN_RISE (R475). PGOOD_IN rises, and the release runs from stage 2 or leaves reach W. -/
  | pgoodInRise
  /-- STANDBY_EXIT_TIMEOUT (R475). PGOOD_IN has not risen 1 s after PWR_REQ, and the device returns to STANDBY. -/
  | standbyExitTimeout
  /-- PFAIL_N_RISE (R479). PFAIL_N returns high, and a release sequence held at a stage by a low PFAIL_N goes on. -/
  | pfailNRise
  /-- STANDBY_HOLD_END (R474). The 10 ms during which PWR_REQ stays low after STANDBY entry ends, and a wake that arrived meanwhile acts. -/
  | standbyHoldEnd
  /-- CLK_GOOD (R448). A clock that missed its timeout becomes good, and the block held in reset for it (Margin-A, PCIe endpoint) is released. -/
  | clkGood (d : ClkDomain)
  /-- TICK_WATCH_EXPIRY (R300). Margin-B's tick timer passes 1.1 ms without a tick, which is an internal fault that turns every safe output off. -/
  | tickWatchExpiry
  /-- SWITCH_RAW_EDGE (R289). A raw edge on a limit or home switch records the position and starts its debounce, or counts CHATTER when it reverts early. -/
  | switchRawEdge (a : Fin 8) (sw : Switch) (level : Bool)
  /-- FOLIO_CORE_SELFTEST_DONE (R216). An isolated Folio core finishes its self-test and becomes the cold spare, or is retired with event 0x070F. -/
  | folioCoreSelftestDone (core : Fin 4) (pass : Bool)
  /-- DUCTUS_LOAD_ITEM (R161). A Ductus engine completes the load item of CH_ARM, CH_STEP_JUMP or CH_RESUME, and the command is judged again and answered. -/
  | ductusLoadItem (e : Fin 8)
  /-- FINAL_FLUSH_TIMEOUT (R197). 200 µs after a flushing reach-F request, the reset proceeds even though some final checkpoints are incomplete. -/
  | finalFlushTimeout
  /-- BLOCK_LOCK_GAINED (R379). A Ligature receiver gains block lock, after which the port starts sending HELLO and may become UP. -/
  | blockLockGained (p : Fin 4)
  /-- PTP_FOLLOW_UP_RECEIVE (R407). A Follow_Up message of a two-step master gives the precise origin time for the servo. -/
  | ptpFollowUpReceive (p : Fin 4) (m : PtpMsg)
  /-- PTP_DELAY_REQ_SEND (R407). In end-to-end mode a slave sends a Delay_Req to measure the path delay. -/
  | ptpDelayReqSend (p : Fin 4) (t : Nat)
  /-- PTP_DELAY_REQ_RECEIVE (R407). As master the device answers a received Delay_Req with a Delay_Resp. -/
  | ptpDelayReqReceive (p : Fin 4) (m : PtpMsg)
  /-- PTP_DELAY_RESP_RECEIVE (R407). A slave takes a Delay_Resp and updates the mean path delay for the servo. -/
  | ptpDelayRespReceive (p : Fin 4) (m : PtpMsg)
  /-- TIME_BECAME_MASTER (R405). With ROLE 1 and no better foreign master announced within announceReceiptTimeout, the BMCA selects the own clock and the servo enters MASTER. -/
  | timeBecameMaster
  /-- SWITCH_TEST_END (R312). The 300 µs off-pulse test of an output switch ends, and the switch is turned on again. -/
  | switchTestEnd (k : Fin 8) (low : Bool)
  /-- TEST_PULSE_END (R307). A TP source ends its 200 µs off-pulse and drives high again. -/
  | testPulseEnd (k : Fin 4)
deriving DecidableEq, Repr

end Sys2Proof
end

