-- ==== Sys2Proof/Config.lean ====
section
/-! DEFINITION. Sizes the spec fixes, what one part fixes for itself (fuses), and the FREE VALUES: opaque constants
without a body, one for each value the spec leaves open (INVENTORY, "What the manual leaves open"). -/

namespace Sys2Proof.Config

/-- IDENT, REVISION and IFLEVEL of every revision-A1 part (R4). -/
def ident : Word := 0x56580256#32
def revision : Word := 0x000000A1#32
def ifLevel : Word := 3#32

/-- The unique device ID (R364, R451): fused, no value given by the spec. Free value, log entry 5. -/
opaque uid : BitVec 64
/-- The 16-byte device key (R393): fused. Free value, log entry 5. -/
opaque deviceKey : BitVec 128
/-- GRADE of DEV_INFO (R364): fused, 0x45 or 0x49. Free value, log entry 5. -/
opaque gradeI : Bool
/-- Item-table index from which the Quire takes a free entry (R172 fixes no order). Free value, log entry 7. -/
opaque itemStart : Nat → Nat
/-- Whether an image's Ed25519 signature verifies under the fused vendor key (R463). Free value, log entry 10. -/
opaque signatureOk : List Word → Bool
/-- Factory self-test code and trim of a converter without a calibration record (R91). Free value, log entry 11. -/
opaque factoryRef : Nat → Int
/-- The acceleration of a jerk-limited profile after one microstep (R284 bounds it and names no trajectory), from the free
counter. Free value, log entry 12. -/
opaque jerkAccel : Nat → Int
/-- The rate, in 0.01 ppb, that the servo steers after a Sync message (R405 bounds it and names no law), from the free counter. Free value,
log entry 13. -/
opaque servoRate : Nat → Int
/-- A self-test code or a value that the spec does not state (the die temperature before the first reading, R504). Free
value, log entry 14. -/
opaque unstated : Nat → Int
/-- How a rounding "to nearest" resolves a tie (R103, R105, R108 and others name no rule for it; R74 does): true rounds up.
Free value, log entry 19. -/
opaque tieUp : Int → Nat → Bool
/-- How a quotient the spec neither rounds nor truncates is brought to an integer: true takes the larger neighbour. Free
value, log entry 19. -/
opaque divUp : Int → Nat → Bool

/-- Whether a word of a fenced Nib lands before a reload capture, and its bits (R208), from the free counter. Free value, log entry 40. -/
opaque lateWord : Nat → Option (BitVec 64)
/-- How many words of a checkpoint an unflushed reset leaves written (R218), from the free counter and the channel. Free value, log
entry 36. -/
opaque tornWords : Nat → Nat → Nat

end Sys2Proof.Config
end

