-- ==== Sys2Proof/Machine/State.lean ====
section
/-! DEFINITION. The state of the VX256: plain data, everything the spec gives the block. Each field's comment ends with
[width; spec file and rule; value after reset]. "0*" marks a reset value the spec does not state (log entry 3). -/

namespace Sys2Proof.Machine

/-- Reasons to stop with a fault. No row of the table ends in one: the spec gives every row an effect, and a device
failure is state (an event, a flag, a trip), not a stop of the model. `unused` is raised by nothing; safe. -/
inductive Fault where
  | unused
deriving DecidableEq, Repr

/-- Reasons to refuse a command. `notModelled` is the row that has no meaning yet (raised by exec's arms only; safe: it
answers nothing). -/
inductive Refusal where
  | notModelled (mnemonic : String)
deriving DecidableEq, Repr

/-! ### Memory -/

/-- The byte a BAR2 address reads as when nothing has written it (log entry 4). -/
abbrev memDefault : Byte := 0#8

/-- Addressed memory: (address, byte) pairs, addresses rising, none equal to what an unlisted address reads as. -/
abbrev Memory := List Host.Cell

/-- The canonical form above a lower bound. -/
def Memory.wfFrom : Nat → Memory → Bool
  | _, [] => true
  | lo, (a, b) :: m => decide (lo ≤ a) && decide (b ≠ memDefault) && Memory.wfFrom (a + 1) m

/-- The canonical form (strictly rising addresses, no default byte listed). -/
def Memory.wf (m : Memory) : Bool := Memory.wfFrom 0 m

/-! ### Channels (02, 03, 04, 05, 07) -/

/-- Channel states of R360. -/
inductive ChState where
  | off | configured | armed | running | held | done | tripped | interrupted | tune | absent
deriving DecidableEq, Repr

/-- A loop sample (R76): values in 10 µV and µA, the time of day and ERA at its instant S, S on the phase reference in fine ticks. -/
structure LoopSample where
  v : Int
  i : Int
  time : Nat
  era : Nat
  tick : Nat
deriving DecidableEq, Repr

/-- Calibrated samples and the measurement averages of a channel. -/
structure Meas where
  /-- Latest calibrated voltage conversion [10 µV; 13 R368; 0] -/
  vLast : Int := 0
  /-- Latest calibrated current conversion, none while none can be formed [µA; 03 R513; none] -/
  iLast : Option Int := none
  /-- Temperature and bus voltage held when the channel went ABSENT [0.01 °C, 10 µV; 13 R368; none, 0] -/
  tHeld : Option Int := none
  busHeld : Int := 0
  /-- Calibration records the FE die works with and, after a CAL_COMMIT, those it takes next: voltage, current ranges 0 to 5
  [32 bytes each; 03 R75; unwritten, none] -/
  cal : List Block := [[], [], [], [], [], [], []]
  calNext : Option (List Block) := none
  /-- Current ranges whose record counts as absent since a CH_CONFIG set another SHUNT [6; 03 R89; none] -/
  calLost : List Nat := []
  /-- Raw flags of the latest conversion: over-range V, I [2 bits; 03 R81; 0] -/
  ovrV : Bool := false
  ovrI : Bool := false
  /-- CONV_FAULT [1; 03 R81; 0] -/
  convFault : Bool := false
  /-- Pairs of the running burst, newest first [list; 03 R72; empty] -/
  burst : List (Int × Int) := []
  /-- The previous burst, for the substitution of R77 [list; 03 R77; empty] -/
  prevBurst : List (Int × Int) := []
  /-- The next voltage / current conversion is the self-test's [2 bits; 03 R77; 0] -/
  skipV : Bool := false
  skipI : Bool := false
  /-- Loop sample of the latest evaluation: v, i, time of day and ERA at its instant S [10 µV, µA, ns, 8; 03 R76, 09 R246; 0] -/
  loopV : Int := 0
  loopI : Int := 0
  loopS : Nat := 0
  loopEra : Nat := 0
  /-- Instant S on the die's phase reference [fine ticks; 05 R140; 0] -/
  loopTick : Nat := 0
  /-- Evaluations of the channel [the MODEL's own count; 08 R222; 0] -/
  evals : Nat := 0
  /-- A converter without a spare sends the channel to HELD at its next loop update [1; 03 R93; 0] -/
  holdDue : Bool := false
  /-- Record interval: counts, sums, least and greatest of V and of I, temperature sum and count [exact; 03 R76; 0] -/
  recN : Nat := 0
  recNI : Nat := 0
  recSumV : Int := 0
  recSumI : Int := 0
  recRangeV : Option (Int × Int) := none
  recRangeI : Option (Int × Int) := none
  recTemp : Int := 0
  recTempN : Nat := 0
  /-- Interval flags seen: OVR_V, OVR_I, BUS_LOW [3 bits; 03 R81; 0] -/
  recOvrV : Bool := false
  recOvrI : Bool := false
  recBusLow : Bool := false
  /-- The interval is PARTIAL; a step boundary fell in it [2 bits; 09 R249, R250; 0] -/
  recPartial : Bool := false
  /-- Time of day at which the interval began [ns; 03 R249; 0] -/
  recFrom : Nat := 0
  recStepChanged : Bool := false
  /-- 1 ms power window: sum of |V x I| in 10^-11 W and count [exact; 03 R76; 0] -/
  pwrSum : Nat := 0
  pwrN : Nat := 0
  /-- Channel 1 ms power of the latest window [10^-11 W; 03 R76; 0] -/
  power : Nat := 0
deriving DecidableEq, Repr

/-- One calibration point held by the FE die (R84, R85). -/
structure CalPoint where
  current : Bool
  range : Nat
  full : Bool
  ref : Int
  meanU : Int
deriving DecidableEq, Repr

/-- A CAL_POINT that is averaging (R84). -/
structure CalRun where
  mb : Fin 8
  tag : Word
  flags : BitVec 16
  current : Bool
  range : Nat
  full : Bool
  ref : Int
  avgMs : Nat
  start : Nat
  sum : Int
  count : Nat
  subSum : Int
  subN : Nat
  subC : Nat
  subMin : Option Int
  subMax : Option Int
  overRange : Bool
deriving DecidableEq, Repr

/-- The command signal S of a channel and the pulses it gives the gates (R41, R51): S is formed up to `horizon`, its level there
and the edge that began this level (none before the first edge), the on-times of GH and of GL that are still to end, in fine
ticks of the phase reference. -/
structure Gates where
  horizon : Nat
  high : Bool := false
  since : Option Nat := none
  gh : List (Nat × Nat) := []
  gl : List (Nat × Nat) := []
deriving DecidableEq, Repr

/-- The tap calibration of one delay line (R36): the error of the calibration in use, the new one that waits for the next reload
boundary of the channel, in fine ticks. -/
structure Taps where
  used : Int := 0
  next : Option Int := none
deriving DecidableEq, Repr

/-- The drive of a channel in its FE die (02). -/
structure Drive where
  /-- Word held at the FE die [64; 02 R38, R46; 0] -/
  heldWord : BitVec 64 := 0
  /-- Word latched at the latest capture [64; 02 R46; 0] -/
  latched : BitVec 64 := 0
  /-- Effective period P and on-time A [fine ticks; 02 R39; 0] -/
  period : Nat := 0
  onTime : Nat := 0
  /-- The next capture forms the first period [1; 02 R39; 0] -/
  first : Bool := false
  /-- Reload boundary of the next capture, on the phase reference [fine ticks; 02 R43, R45; 0] -/
  reload : Nat := 0
  /-- Command signal and gate pulses, none while both gates are held low [02 R33, R41, R51; none] -/
  gates : Option Gates := none
  /-- Delay lines of GH and GL [02 R36; no error*] -/
  tapsH : Taps := {}
  tapsL : Taps := {}
  /-- Updates in flight, oldest first: instant S, its word has been held; updates whose word is overdue
  [fine ticks; 02 R48, 04 R113, R114; empty] -/
  flights : List (Nat × Bool) := []
  overdue : Nat := 0
  /-- Latched words drive the pins [1; 02 R34; 0] -/
  driving : Bool := false
  /-- Hardware ramp-down: reload boundaries left, A_N, start value, number of steps, 1 for PFAIL [R61; none] -/
  ramp : Option (Nat × Nat × Nat × Nat × Bool) := none
  /-- CLAMP, SUPPRESS, OVERRUN counters [32 each; 02 R68, 04 R113; 0] -/
  clamp : Nat := 0
  suppress : Nat := 0
  overrun : Nat := 0
  /-- A clamp / a suppression has been reported since entry into RUNNING or TUNE [2 bits; 02 R40, R52; 0] -/
  clampSeen : Bool := false
  suppressSeen : Bool := false
  /-- CON, COFF: lengths of the periods latched and not yet integrated, oldest first; windows integrated with assumed
  lengths: periods, length assumed, v, i [fine ticks; 04 R110; empty] -/
  periods : List Nat := []
  debts : List (Nat × Nat × Int × Int) := []
  /-- Corrections found when the channel entered RUNNING or TUNE again: difference, v, i [fine ticks; 04 R110; empty] -/
  owed : List (Int × Int × Int) := []
  /-- Consecutive overruns [2 bits; 04 R114; 0] -/
  consec : Nat := 0
  /-- Fence of the group's Nib, whose words may still land [TIME cycle; 07 R208; none] -/
  late : Option Nat := none
  /-- MIN_PULSE in use [8; 02 R50; 64] -/
  minPulse : Nat := 64
deriving DecidableEq, Repr

/-- The loop state of a channel (R105) and LOOP_FLAGS (R109). -/
structure LoopSt where
  /-- Inner error and output histories, outer integrator, D, iref, injection [Q2.30; 04 R105, R120; 0] -/
  e1 : Int := 0
  e2 : Int := 0
  y1 : Int := 0
  y2 : Int := 0
  integ : Int := 0
  dLast : Int := 0
  iref : Int := 0
  inj : Int := 0
  /-- INNER_SAT of the previous evaluation [1; 04 R105; 0] -/
  innerPrev : Bool := false
  /-- Live flags [2 bits; 04 R109; 0] -/
  outerNow : Bool := false
  innerNow : Bool := false
  /-- Sticky flags BUS_FLOOR, OVERRUN, OUTER_AT_LIMIT, INNER_SAT_LO, INNER_SAT_HI, ARITH_SAT [6 bits; 04 R109; 0] -/
  busFloor : Bool := false
  overrun : Bool := false
  outerLim : Bool := false
  satLo : Bool := false
  satHi : Bool := false
  arith : Bool := false
  /-- ARITH_SAT has been reported since entry into RUNNING or TUNE [1; 04 R109; 0] -/
  arithSeen : Bool := false
  /-- Last committed loop sample, as the mirror holds it [10 µV, µA; 07 R190; 0] -/
  mirrorV : Int := 0
  mirrorI : Int := 0
deriving DecidableEq, Repr

/-- ST and the accumulators of R110 at full precision: ST in fine ticks, charge in µA x tick, energy in 10 µV x µA x tick. -/
structure Accs where
  /-- Step time [fine ticks; 05 R135; 0] -/
  st : Nat := 0
  /-- STEP_Q, STEP_E [exact; 04 R110; 0] -/
  stepQ : Int := 0
  stepE : Int := 0
  /-- RUN_Q_CHG, RUN_Q_DIS, RUN_E_CHG, RUN_E_DIS [exact; 04 R110; 0] -/
  runQC : Int := 0
  runQD : Int := 0
  runEC : Int := 0
  runED : Int := 0
deriving DecidableEq, Repr

/-- What a BRANCH sees of the previous step (R149). -/
structure PrevStep where
  stepQ : Int
  stepE : Int
  st : Nat
  v : Int
  i : Int
  t : Option Int
  cond : Nat
  vStart : Int
deriving DecidableEq, Repr

/-- A resolved target of a transition: the target as named, its index, its entry, and the repeat counters after the chain
(R148, R151). -/
structure Loaded where
  src : Nat
  index : Nat
  entry : Block
  ctrs : List Nat
deriving DecidableEq, Repr

/-- The TUNE state of a channel (R121 to R128). -/
structure Tune where
  cmd : Block
  from_ : ChState
  k : Nat
  prbs : Nat
  analysed : List (Int × Int)
  n : Nat
  aborted : Bool
  injecting : Bool
  finished : Bool
deriving DecidableEq, Repr

/-- The position of a channel in its recipe (05). -/
structure Run where
  /-- Position, the step's index [12; 05 R157, R195; 0] -/
  pos : Nat := 0
  /-- Step loaded in the Nib [64 bytes; 05 R152; none] -/
  cur : Option Block := none
  /-- Primary-next [05 R151; none] -/
  next : Option Loaded := none
  /-- Primary-next of the current step has been resolved [1; 05 R151; 0] -/
  nextDone : Bool := false
  /-- TRANSITION_PENDING and the fired target; firing evaluation's end [05 R153; none] -/
  trans : Option Nat := none
  /-- Index of the step loaded in the Nib [12; 05 R153; 0] -/
  idx : Nat := 0
  /-- V_START, none before the step's own first evaluation [10 µV; 05 R139; none] -/
  vStart : Option Int := none
  /-- Repeat counters 0 to 3 [16 each; 05 R148; 0] -/
  ctrs : List Nat := [0, 0, 0, 0]
  /-- Previous step [05 R149; none] -/
  prev : Option PrevStep := none
  /-- START_PENDING and START_TIME [64; 05 R160; none] -/
  startAt : Option Nat := none
  /-- SYNC_TIME given by CH_START or CH_RESUME [64; 05 R159; none] -/
  syncTime : Option Nat := none
  /-- RUN_VALID [1; 07 R195; 0] -/
  runValid : Bool := false
  /-- The channel has run since CH_ARM [1; 05 R158; 0] -/
  hasRun : Bool := false
  /-- The current step has been evaluated at least once (it has run) [1; 05 R155; 0] -/
  stepRan : Bool := false
  /-- Restored copy: 0 A, 1 B, checkpoint words; the check of R201 applies while some [07 R201; none] -/
  restored : Option (Nat × Block) := none
  /-- The copy that the accumulators and the position were restored from, until the restored run is resumed or given up
  [07 R205; none] -/
  copy : Option (Nat × Block) := none
  /-- Position and TRANSITION_PENDING of a stopped channel before the engine of a CH_RESUME resolved them [07 R206, R207; none] -/
  resumeFrom : Option (Nat × Bool) := none
  /-- INTERRUPTED by loss of the last Nib [1; 07 R206; 0] -/
  noNib : Bool := false
  /-- TIME cycle at which the settling after a resume ends, 0 when none runs [the MODEL's own clock; 07 R204; 0] -/
  settle : Nat := 0
  /-- dV/dt slices newest first (sum, count; count 0 = not wholly within the step) and the running one (index, sum, n) [05 R140; empty] -/
  slices : List (Int × Nat) := []
  slice : Option (Nat × Int × Nat × Bool) := none
  /-- Slice that holds the step's start [05 R140; 0] -/
  sliceFrom : Nat := 0
  /-- Crossover T_CV (ticks), Q_CV [05 R143; none] -/
  crossover : Option (Nat × Int) := none
  /-- PULSE: last base sample since entry, last completed pulse (V_PRE, V_END, I_PRE, I_END) [05 R144; none] -/
  pulseBase : Option (Int × Int) := none
  pulseLast : Option (Int × Int × Int × Int) := none
  /-- OCV loop samples of the span, newest first: (S in ticks of ST, v) [05 R145; empty] -/
  ocv : List (Nat × Int) := []
  /-- Event 0x0507 raised in this step [1; 05 R141; 0] -/
  tInvSeen : Bool := false
  /-- Instant the step was entered, time of day [64; 15 R416; 0] -/
  entered : Nat := 0
deriving DecidableEq, Repr

/-- A channel. -/
structure Channel where
  /-- State [4; 13 R360; OFF] -/
  state : ChState := .off
  /-- CH_CONFIG block as accepted [64 bytes; 02 R64, 03 R79, 13 R367; reset column of R64, R79] -/
  cfg : Block
  /-- Coefficient sets 0 to 3 with COMPLETE [64 bytes each; 04 R115, R117; not complete] -/
  sets : List (Option Block) := [none, none, none, none]
  /-- TRIP_CAUSE [16; 02 R56; 0] -/
  tripCause : BitVec 16 := 0
  /-- CLEAR_TO [4; 02 R59; OFF] -/
  clearTo : ChState := .off
  meas : Meas := {}
  drive : Drive := {}
  loop : LoopSt := {}
  acc : Accs := {}
  run : Run := {}
  /-- CAL_POINT in progress and points held [03 R84, R85; none] -/
  calRun : Option CalRun := none
  calPoints : List CalPoint := []
  /-- TUNE, and the estimate kept after it [04 R121, R128; none] -/
  tune : Option Tune := none
  /-- Checkpoint requested of its lane: CAUSE and content [07 R192, R194; none] -/
  ckptReq : Option Block := none
  /-- Its place among the requests of its Vellum bank [07 R194; 0] -/
  ckptAt : Nat := 0
  /-- The takeover gap that the final checkpoint requested falls into, so far [ns; 07 R218; 0] -/
  ckptGap : Nat := 0
deriving DecidableEq, Repr

/-- A Vellum copy protected by a CRC (R191, R196): blank (all bytes 0), failing its CRC, or good. -/
inductive Copy where
  | blank
  | bad (words : Block)
  | good (words : Block)
deriving DecidableEq, Repr

/-- A configuration image (R196): CH_CONFIG block and coefficient sets. -/
inductive Image where
  | blank
  | bad
  | good (cfg : Block) (sets : List (Option Block))
deriving DecidableEq, Repr

/-- What the Vellum holds for one channel (R423: CKPT_A, CKPT_B, HARD_LIMITS, CALIB, MIN_PULSE of OPTIONS). -/
structure ChVellum where
  /-- Checkpoint copies A and B [64 bytes each; 07 R191; blank*] -/
  ckA : Copy := .blank
  ckB : Copy := .blank
  /-- The gap that T_UNC of the newest copy includes, where it is the final one of a takeover gap [ns; 07 R218; 0] -/
  ckGap : Nat := 0
  /-- Configuration images A and B [07 R196; blank*] -/
  imgA : Image := .blank
  imgB : Image := .blank
  /-- Hard-limit record, none while never committed [64 bytes; 12 R351; none] -/
  hlim : Option Block := none
  /-- Calibration records: voltage, current ranges 0 to 5 [32 bytes each; 03 R90; unwritten] -/
  calib : List Block := [[], [], [], [], [], [], []]
  /-- MIN_PULSE option [8; 02 R50; 64] -/
  minPulse : Nat := 64
deriving DecidableEq, Repr

/-! ### Groups, FE dies, Nibs (01, 02, 03, 07) -/

/-- A channel group. -/
structure Group where
  /-- Filtered GPg_N is high (released) [1; 02 R62; 0*] -/
  released : Bool := false
  /-- GPg_N has been low for 100 ms (CK01) [1; 02 R63, R66; 0] -/
  seated : Bool := false
  /-- Latest bus-voltage sample [10 µV; 03 R97; 0] -/
  bus : Int := 0
  /-- Group power of the latest 1 ms window [10^-11 W; 03 R76; 0] -/
  power : Nat := 0
  /-- BUS_AUX, BUS_DIV options (GRP_BUS_CFG) [9, 32; 03 R97; 0x1FF, 65,536] -/
  busAux : Nat := 0x1FF
  busDiv : Nat := 65536
  /-- Group hard-limit record, none while never committed [16 bytes; 12 R351; none] -/
  hlim : Option Block := none
  /-- Loop samples of the group's channels accepted by its Nib and not yet evaluated, in the order of service [04 R111; empty] -/
  accepted : List (Fin 256 × LoopSample) := []
deriving DecidableEq, Repr

/-- An FE die. -/
structure Die where
  /-- The die's delay lines are calibrated [1; 02 R37; 0] -/
  dlineOk : Bool := false
  /-- Delay lines that are calibrated once, lowest failing line [02 R37; none] -/
  dlineBad : List Nat := []
  /-- TRIP_CFG option [32; 02 R55; 0] -/
  tripCfg : Word := 0
  /-- Filtered levels of TRIP(8f) to TRIP(8f+7) [8; 02 R54; 0*] -/
  tripLevel : BitVec 8 := 0
  /-- Die temperature [0.01 °C; 20 R504; 0*] -/
  temp : Int := 0
  /-- Latest readings of AUX(72f) to AUX(72f+71) [µV; 03 R94; 0] -/
  aux : Vector Int 72 := Vector.replicate 72 0
  /-- Next scan position of auxiliary converters 0 to 7 [03 R94; 0] -/
  scan : Vector Nat 8 := Vector.replicate 8 0
  /-- Urgent requests waiting: (unit, local input); the last conversion of the converter was urgent [03 R95; none] -/
  urgent : List (Nat × Nat) := []
  lastUrgent : List Nat := []
  /-- Consecutive failed self-tests by converter [03 R91, R92; none] -/
  fails : List (Nat × Nat) := []
  /-- Steering: converter, spare, settled [03 R92; none] -/
  steered : List (Nat × Nat × Bool) := []
  /-- Spares 136 to 139 healthy and idle [4 bits; 03 R92, 13 R371; 0xF] -/
  spares : List Nat := [136, 137, 138, 139]
  /-- Converters that failed with no spare left [03 R93; none] -/
  dead : List Nat := []
  /-- Present self-test code by converter [1/256 LSB; 03 R87; none] -/
  codes : List (Nat × Int) := []
deriving DecidableEq, Repr

/-- Roles of a Nib (R371). -/
inductive NibRole where
  | spare | active | fenced | retired
deriving DecidableEq, Repr

/-- A Nib. -/
structure Nib where
  /-- ROLE [2; 13 R371; R17] -/
  role : NibRole := .spare
  /-- Group served, 16 for GM [5; 01 R17; R17] -/
  group : Option (Fin 17) := none
  /-- First fault: time of day in ns where it was valid [07 R214; none] -/
  firstFault : Option (Option Nat) := none
  /-- Waiting REVERT_HOLD: the group to return to [07 R213; none] -/
  revertTo : Option (Fin 17) := none
deriving DecidableEq, Repr

/-- A takeover in progress (R208 to R211): once the spare has passed its self-test, the channels of the group whose first word
it has still to write. -/
structure Takeover where
  group : Fin 17
  old : Fin 20
  spare : Fin 20
  since : Nat
  waiting : Option (List (Fin 256)) := none
deriving DecidableEq, Repr

/-- A planned handover of a group (R213, R371): to a returning Nib, or by SPARE_RETIRE to a spare, whose self-test may still run; the
channels at which the Nib that serves has still to skip an evaluation, and the commands that wait for it. -/
structure Handover where
  group : Fin 17
  nib : Fin 20
  left : Option (List (Fin 256)) := none
  cmds : List MbCmd := []
deriving DecidableEq, Repr

/-- The Nibs, the takeover sequencer and the stroke unit's claim (07). -/
structure Nibs where
  /-- Nibs N0 to N19 [01 R16; R17] -/
  nib : Vector Nib 20
  /-- Takeovers running [07 R211; none] -/
  takeovers : List Takeover := []
  /-- Planned handovers running [07 R213, 13 R371; none] -/
  handovers : List Handover := []
  /-- ACCEPT_CLAIM of the stroke unit and the claim the serving Nib writes [4 each; 07 R209; 0] -/
  acceptClaim : BitVec 4 := 0
  writeClaim : BitVec 4 := 0
  /-- Nib faults since manufacture [32; 13 R371; 0*] -/
  faults : Nat := 0
deriving DecidableEq, Repr

/-! ### Recipe store and Quire (05, 06) -/

/-- Slot states of R131. -/
inductive SlotState where
  | empty | loading | loaded | verified | inUse
deriving DecidableEq, Repr

/-- A recipe slot. -/
structure Slot where
  /-- State [3; 05 R131; EMPTY] -/
  state : SlotState := .empty
  /-- RCP_ID [32; 05 R163; 0] -/
  rcpId : Word := 0
  /-- TOTAL [13; 05 R163; 0] -/
  total : Nat := 0
  /-- Steps by index, none while not written [64 bytes each; 05 R130; none] -/
  steps : List (Option Block) := []
  /-- CRC of R165 [32; 05 R166; 0] -/
  crc : Word := 0
deriving DecidableEq, Repr

/-- An RCP_VERIFY at work (R165): the command, its slot, the next step index, the slot state that another command left. -/
structure Verify where
  tag : Word
  quiet : Bool
  slot : Fin 1024
  next : Nat
  spoiled : Option Nat
deriving DecidableEq, Repr

/-- Item states of R173 (FINISHED items leave the table). -/
inductive ItemState where
  | delayed | waiting | ready | inService | held
deriving DecidableEq, Repr

/-- What a delivery of a Pounce unit hands to the Inkwell: the next sets of its stream, its whole capture, or a range of it for
an ACQ_READ (R233, R238, R240). -/
inductive Delivery where
  | stream (count : Nat)
  | whole
  | range (first count : Nat) (m : MbCmd)
deriving DecidableEq, Repr

/-- What an item asks of its target (the KIND and ARG of R172). -/
inductive Work where
  | mediated (ch : Fin 256)
  | preload (ch : Fin 256)
  | load (ch : Fin 256) (target : Nat) (m : MbCmd)
  | verifyPiece (mb : Fin 8)
  | command (mb : Fin 8)
  | delivery (u : Fin 32) (d : Delivery)
  | other (kind : Nat)
deriving DecidableEq, Repr

/-- A Quire item (R172). `held` items wait for a share entry (R182). `uid` names the item inside the model. `due` is the tick at which
it is due, counted on where the 32-bit counter wraps, or the DELAY of a held post; `late`: it was posted with a DELAY (R180). -/
structure Item where
  uid : Nat
  flow : Nat
  target : QTarget
  prio : Nat
  work : Work
  due : Nat
  producer : Producer
  handle : Nat
  state : ItemState
  readyNo : Nat
  requeued : Bool
  block : Nat
  late : Bool := false
deriving DecidableEq, Repr

/-- A report of the Quire to a flow (R174): flow, HANDLE, outcome 0 DONE, 1 CANCELLED, 2 TOO_LATE, 3 DROPPED. -/
structure QReport where
  flow : Nat
  handle : Nat
  outcome : Nat
deriving DecidableEq, Repr

/-- The Quire. -/
structure Quire where
  /-- Items in the order of their posts [16,384; 06 R169; empty] -/
  items : List Item := []
  /-- Model's own numbering of posts and of arrivals on a ready list [counters; log 7; 0] -/
  nextUid : Nat := 0
  nextReady : Nat := 0
  /-- Dispatches in a row from higher lists while a lower was non-empty, by target [06 R177; 0] -/
  streak : Vector Nat 4 := Vector.replicate 4 0
  /-- Generations of the item-table entries used so far [2 bits each; 06 R172; 0] -/
  gens : List (Nat × Nat) := []
  /-- HANDLEs that the Nibs were given for the latest mediated item of a channel [16 each; 06 R172, R185; none] -/
  mediated : List (Fin 256 × Nat) := []
  /-- Outcomes reported to the flows (output) [06 R174; empty] -/
  reports : List QReport := []
  /-- TIME cycles at the start of the tick counter [06 R179; 0] -/
  epoch : Nat := 0
  /-- A share has raised 0x0601 since it last had a free entry [06 R182; none] -/
  pressed : List Producer := []
  /-- BACKPRESSURE, CANCELLED, TOO_LATE, DELAY_LATE, REQUEUE, DROPPED, ECC_CORR, DISPATCHED [32 each; 06 R188; 0] -/
  backpressure : Nat := 0
  cancelled : Nat := 0
  tooLate : Nat := 0
  delayLate : Nat := 0
  requeue : Nat := 0
  dropped : Nat := 0
  eccCorr : Nat := 0
  dispatched : Nat := 0
deriving DecidableEq, Repr

/-! ### Pounce units (08) -/

/-- Unit states of R220. -/
inductive AcqState where
  | idle | configured | armed | triggered | complete | streaming
deriving DecidableEq, Repr

/-- What a unit has seen since its previous tick (R225 kinds 8, 9, 10, 13, 14). -/
structure AcqSeen where
  events : List (BitVec 16 × BitVec 16) := []
  slots : List Nat := []
  tins : List Nat := []
  states : List (Nat × Nat) := []
  bounds : List Nat := []
deriving DecidableEq, Repr

/-- One stored set: values, time of day and era at its tick, the tick's instant in 1/64 ns, the exponent d in force, its
post-trigger tick. -/
structure AcqSet where
  vals : List Int
  t : Nat
  era : Nat
  at64 : Nat
  d : Nat
  j : Nat
deriving DecidableEq, Repr

/-- A mark in a stream: the set it names, whether it is a trigger mark, its d (15 for a gap), DROPS at a gap (R233, R256). -/
structure AcqMark where
  index : Nat
  trigger : Bool
  d : Nat
  drops : Nat
deriving DecidableEq, Repr

/-- A Pounce unit. -/
structure Pounce where
  /-- State [3; 08 R220; IDLE] -/
  state : AcqState := .idle
  /-- ACQ_CONFIG block [240 bytes; 08 R234; cleared] -/
  cfg : Block := []
  /-- Pages reserved [08 R221; 0] -/
  pages : Nat := 0
  /-- Ring and post-trigger sets, oldest first; sets stored since arming [08 R230, R239; empty] -/
  ring : List AcqSet := []
  post : List AcqSet := []
  stored : Nat := 0
  /-- The unit's clock: TIME cycle of ACQ_ARM; PERIODIC: cycle of the next tick, none before the first; EVAL: evaluations of its
  channel that have had their tick [08 R222; 0] -/
  armedAt : Nat := 0
  tickAt : Option Nat := none
  evalSeen : Nat := 0
  /-- Ticks since arming, post-trigger tick j, exponent d, F [08 R230, R231; 0] -/
  ticks : Nat := 0
  j : Nat := 0
  d : Nat := 0
  free : Nat := 0
  /-- Marks (index, d) oldest first [08 R231; empty] -/
  marks : List (Nat × Nat) := []
  /-- Sequencer state, counters, timers (running since) and expiry flags [08 R227, R228; 0] -/
  seq : Nat := 0
  ctr : List Nat := [0, 0]
  tmr : List (Option Nat) := [none, none]
  tmrDone : List Bool := [false, false]
  /-- RISE/FALL arming of terms 0 to 7 [08 R225; 0] -/
  termArm : List Bool := [false, false, false, false, false, false, false, false]
  seen : AcqSeen := {}
  /-- ACQ_FORCE waits for the next tick [08 R237; 0] -/
  force : Bool := false
  /-- FORCED, STOPPED, ECC_UNCORR, ABORTED, TUNE flags [5 bits; 08 R239; 0] -/
  forced : Bool := false
  stopped : Bool := false
  eccUncorr : Bool := false
  aborted : Bool := false
  tune : Bool := false
  /-- Held for a TUNE channel [08 R242; none] -/
  holder : Option (Fin 256) := none
  /-- Trigger time, era; tick spacing at arming [64, 8, 32; 08 R239; 0] -/
  trigTime : Nat := 0
  trigEra : Nat := 0
  tickNs : Nat := 0
  /-- DROPS [32; 08 R233; 0]; a gap mark is pending -/
  drops : Nat := 0
  gap : Bool := false
  /-- Stream: sets not yet drained, oldest first; how many of them have been handed over; marks of them [08 R233; empty] -/
  stream : List AcqSet := []
  handed : Nat := 0
  smarks : List AcqMark := []
  /-- ACQ_ARM count since reset (CAPTURE_ID) [32; 09 R256; 0] -/
  captureId : Nat := 0
  /-- The measurements of the capture have been computed and 0x0802 raised [1; 08 R240; 0] -/
  measured : Bool := false
deriving DecidableEq, Repr

/-! ### Inkwell (09) -/

/-- A record: header fields and body words (R245). -/
structure Rec where
  typ : Nat
  source : Nat
  era : Nat
  time : Nat
  len : Nat
  body : Block
deriving DecidableEq, Repr

/-- A record in the store: SEQ, page, the streams it is owed to, thinning level, byte offset in the page. -/
structure Stored where
  seq : Nat
  page : Nat
  owed : List Nat
  thin : Nat
  off : Nat
  rec_ : Rec
deriving DecidableEq, Repr

/-- A buffer in host memory that a PCIe stream fills: the descriptor it came with, the TIME cycle of the first record, SEQs and words of
the records placed (R263). -/
structure StreamBuf where
  desc : Nat
  addr : BitVec 64
  size : Nat
  since : Nat
  seqs : List Nat := []
  words : Block := []
deriving DecidableEq, Repr

/-- A record stream (R262) and its registers (R349). -/
structure Stream where
  /-- OPEN, DEST, masks, FABRIC_ADDR, RETX_MS [09 R262; closed] -/
  open_ : Bool := false
  fabric : Bool := false
  typeMask : Nat := 0
  groupMask : Nat := 0
  unitMask : Nat := 0
  addr : BitVec 16 := 0
  retx : Nat := 0
  /-- First SEQ the stream delivers; last sent; last acknowledged [32 each; 09 R268; 0] -/
  firstSeq : Nat := 0
  sent : Option Nat := none
  top : Option Nat := none
  sentSeq : Nat := 0
  ackSeq : Nat := 0
  /-- Cycle of the latest progress of the acknowledgement, or of the first send after all was acknowledged [09 R264; 0] -/
  progress : Nat := 0
  /-- RING_BASE_LO, RING_BASE_HI, EN+ENTRIES, RING_TAIL, REC_ACK [32 each; 12 R349; 0] -/
  baseLo : Word := 0
  baseHi : Word := 0
  ctl : Word := 0
  ringHead : Nat := 0
  ringTail : Nat := 0
  recAck : Word := 0
  /-- The descriptor ring in host memory, by index; the buffer being filled; buffers returned to the host with BYTES written and OWN
  cleared (output) [09 R263; empty] -/
  ring : List (Nat × RingDesc) := []
  buf : Option StreamBuf := none
  returned : List StreamBuf := []
deriving DecidableEq, Repr

/-- A delivery in service: the records that its unit has still to hand over, the ACQ_READ that waits for it (R238, R260). -/
structure Incoming where
  unit : Fin 32
  recs : List Rec
  ans : Option (MbCmd × Nat)
deriving DecidableEq, Repr

/-- The Inkwell controller. -/
structure Inkwell where
  /-- Records waiting in the producers' buffers, by arrival [8 per producer; 09 R260; empty] -/
  waiting : List Rec := []
  /-- Deliveries in service, oldest first [09 R260, 08 R238; empty] -/
  incoming : List Incoming := []
  /-- Streams that a reset has closed: number, DEST; told after STORE_START [09 R255, R261; none] -/
  closed : List (Fin 4 × Bool) := []
  /-- Records held, by SEQ [09 R257; empty] -/
  store : List Stored := []
  /-- Next SEQ [32; 09 R247; 0] -/
  nextSeq : Nat := 0
  /-- Page being filled: number, bytes used [09 R257; 0] -/
  page : Nat := 0
  pageUsed : Nat := 0
  /-- Record pages retired and pages ever retired [09 R259; 0] -/
  retired : List Nat := []
  fiveTwice : List (Nat × Nat) := []
  streams : Vector Stream 4 := Vector.replicate 4 {}
  /-- PERIODIC_IDLE, EVT_MIN, THIN_RESERVE, FLUSH_US [09 R267; 1, 1, 1,024, 1,000] -/
  periodicIdle : Bool := true
  evtMin : Nat := 1
  thinReserve : Nat := 1024
  flushUs : Nat := 1000
  /-- THINNED, DROPPED, DROP_INGEST, INNER_CORR, INNER_UNCORR, OUTER_CORR, OUTER_UNCORR [32 each; 09 R268; 0] -/
  thinned : Nat := 0
  dropped : Nat := 0
  dropIngest : Nat := 0
  innerCorr : Nat := 0
  innerUncorr : Nat := 0
  outerCorr : Nat := 0
  outerUncorr : Nat := 0
  /-- Reclaiming has begun and goes on to THIN_RESERVE + 64 [1; 09 R266; 0] -/
  thinning : Bool := false
  /-- The fill has been reported high (0x0908) [1; 09 R270; 0] -/
  fillHigh : Bool := false
  /-- The DRAM is usable (trained) [1; 17 R448; 0] -/
  dramOk : Bool := false
  /-- The store was kept by the latest reset [1; 09 R261; 0] -/
  kept : Bool := false
deriving DecidableEq, Repr

/-! ### Stroke unit (10) -/

/-- Axis states of R280. -/
inductive AxState where
  | disabled | idle | homing | moving | reversing | stopping | standstill | fault
deriving DecidableEq, Repr

/-- Phases of a homing sequence (R291, R292). After `brake` comes: 0 the way back, 1 the reversed seek, 2 the back-off. -/
inductive HomePhase where
  | seek | seekRev | brake (quick : Bool) (next : Nat) | back | backoff | approach | toIndex | final (quick : Bool) | stall
  | ramp | failStop (reason : Nat) (quick : Bool) | finished | failed (reason : Nat)
deriving DecidableEq, Repr

/-- A homing sequence: command block, phase, travel of the present seek, origin found. -/
structure Homing where
  cmd : Block
  phase : HomePhase
  travel : Nat
  reversed : Bool
  origin : Option Int
  stallRun : Nat
deriving DecidableEq, Repr

/-- A linear move (R288): the lead and its travel, members still on the path with start and travel, the lead's progress and
squared speed, limits of the lead's profile, stopping, QUICK. -/
structure Linear where
  lead : Fin 8
  travel : Int
  members : List (Fin 8 × Int × Int)
  prog : Int
  vSq : Nat
  vMax : Nat
  acc : Nat
  dec : Nat
  /-- Limit of the change of acceleration, and the acceleration in force (PROFILE 1). -/
  jerk : Nat := 0
  accel : Int := 0
  stopping : Bool
  quick : Bool
deriving DecidableEq, Repr

/-- A switch input (R289). -/
structure SwitchIn where
  raw : Bool := false
  level : Bool := false
  edgePos : Int := 0
  pendingEdge : Bool := false
deriving DecidableEq, Repr

/-- One coil of an axis (R275). -/
structure Coil where
  /-- Integrator [Q2.30; 10 R275; 0], loop sample [µA; 10 R296; 0] -/
  integ : Int := 0
  sample : Int := 0
  /-- GM word held, latched on-time [64, 20; 10 R276; 0] -/
  heldWord : BitVec 64 := 0
  latched : Int := 0
  /-- A word has been latched since reset; the held word awaits its capture [1, 1; 10 R276; 0] -/
  live : Bool := false
  fresh : Bool := false
  /-- Overcurrent evaluations in a row [10 R294; 0]; self-test failures in a row -/
  overCnt : Nat := 0
  testFails : Nat := 0
  testOk : Bool := true
  /-- |e| of the present full step: sum, count; saturation flag [10 R289, R275; 0] -/
  absE : Nat := 0
  absN : Nat := 0
  sat : Bool := false
deriving DecidableEq, Repr

/-- An axis. -/
structure Axis where
  /-- State [3; 10 R280; DISABLED] -/
  state : AxState := .disabled
  /-- AX_CONFIG block [80 bytes; 10 R282; reset column of R282] -/
  cfg : Block
  /-- Axis hard-limit record, none while never committed [16 bytes; 12 R351; none] -/
  hlim : Option Block := none
  /-- POSITION, TARGET_POS [32 signed; 10 R284, R296; 0] -/
  pos : Int := 0
  target : Int := 0
  /-- POSITION less the count the phase follows: a new origin shifts POSITION and leaves the phase [10 R291; 0] -/
  phaseOff : Int := 0
  /-- Squared speed in (1/256 full step per s)^2 and direction [10 R284; 0] -/
  vSq : Nat := 0
  dir : Int := 1
  /-- Acceleration along the motion with PROFILE 1, in 1/2^16 of 1/256 full step per s² [10 R284; 0] -/
  accel : Int := 0
  /-- Speed limit of the move, QUICK, waiting profile (starts when the coils reach I_RUN) [10 R285 to R287; 0] -/
  vMove : Nat := 0
  quick : Bool := false
  waitRamp : Bool := false
  /-- Current level at the start of the present ramp, the ramp's goal, the TIME cycle of its start [µA; 10 R281; 0] -/
  level : Int := 0
  levelTo : Int := 0
  rampAt : Nat := 0
  /-- Standstill mode in force [2; 10 R293; 0] -/
  ssMode : Nat := 0
  /-- HOMED, POS_UNCERTAIN, FAULT_CAUSE [1, 1, 8; 10 R296; 0] -/
  homed : Bool := false
  posUncertain : Bool := false
  faultCause : Nat := 0
  /-- Coils shorted by the power-fail sequence [1; 18 R476; 0] -/
  shorted : Bool := false
  /-- Encoder counts and alignment offset [10 R294; 0] -/
  encCount : Int := 0
  encAlign : Int := 0
  limp : SwitchIn := {}
  limn : SwitchIn := {}
  home : SwitchIn := {}
  /-- CHATTER, CLAIM_REFUSED, STALL_METRIC [32 each; 10 R296; 0] -/
  chatter : Nat := 0
  claimRefused : Nat := 0
  stall : Int := 0
  /-- Coil loop: OVERRUN, overruns in a row, overdue updates, a met update awaits its capture [04 R113, R114 by 10 R276; 0] -/
  overrun : Nat := 0
  consec : Nat := 0
  overdue : Nat := 0
  wordNew : Bool := false
  /-- Reported in the present command: chatter, hard clamp [2 bits; 10 R289, R295; 0] -/
  chatterSeen : Bool := false
  clampSeen : Bool := false
  homing : Option Homing := none
  /-- TIME cycle at which it became IDLE [10 R293; 0] -/
  idleAt : Nat := 0
  /-- AX_STOP commands that await the rest, oldest first [13 R362; none] -/
  stops : List MbCmd := []
  coilA : Coil := {}
  coilB : Coil := {}
  /-- Microstep table T[0..255] and chunks 0 to 2 held aside [16 each; 10 R277, R279; sine table of R277] -/
  table : List Nat
  chunks : List (Option (List Nat)) := [none, none, none]
deriving DecidableEq, Repr

/-! ### Margin (11) -/

/-- Margin states of R302. -/
inductive MState where
  | starting | unconfigured | awaitAccept | run | safeFault
deriving DecidableEq, Repr

/-- A pair as one Margin channel holds it (R304 to R306). -/
structure PairSt where
  demand : Bool := false
  ok : Bool := false
  disc : Nat := 0
  discFault : Bool := false
  /-- After the fault: both at demand seen; both OK seen; [11 R306; 0] -/
  sawDemand : Bool := false
  sawOk : Bool := false
  /-- Test-pulse faults of pins A and B, failed cycles in a row, passed since the fault [11 R308; 0] -/
  tpFaultA : Bool := false
  tpFaultB : Bool := false
  tpFailA : Nat := 0
  tpFailB : Nat := 0
  tpPassA : Bool := false
  tpPassB : Bool := false
  /-- Ticks the pair has been OK, for actuations [11 R315; 0] -/
  okTicks : Nat := 0
deriving DecidableEq, Repr

/-- A safety function as one Margin channel holds it (R314 to R318). -/
structure FnSt where
  demanded : Bool := false
  violated : Bool := false
  inForce : Bool := false
  powerOff : Bool := false
  /-- The STOP1 timer is running [11 R317; 0] -/
  timer : Bool := false
  /-- The other restart conditions hold and an actuation is awaited [11 R318; 0] -/
  waiting : Bool := false
  /-- Positions at the demand (SDI) [11 R314; 0] -/
  startPos : List Int := []
deriving DecidableEq, Repr

/-- An input pin as one Margin channel filters it (R304): raw level, filtered level, µs for which the raw level has been stable. -/
structure PinIn where
  raw : Bool := false
  level : Bool := false
  stable : Nat := 0
deriving DecidableEq, Repr

/-- One Margin channel. -/
structure MChan where
  pairs : Vector PairSt 16 := Vector.replicate 16 {}
  fns : Vector FnSt 16 := Vector.replicate 16 {}
  /-- PERMIT of outputs 0 to 7 [8; 11 R313; 0] -/
  permit : BitVec 8 := 0
  /-- Monitored positions over the last 9 ticks, newest first, by axis [11 R316; empty] -/
  hist : Vector (List Int) 8 := Vector.replicate 8 []
  /-- Encoder positions over the last 9 ticks, newest first, by axis [11 R316; empty] -/
  encHist : Vector (List Int) 8 := Vector.replicate 8 []
  /-- Monitored speed by axis [32 signed; 11 R316; 0] -/
  speed : Vector Int 8 := Vector.replicate 8 0
  /-- The channel's half of SAFETY_CFG, and its own copy of the configuration, which it works with [756 bytes each; 11 R299,
  R324, 15 R424; none] -/
  stored : Option Block := none
  cfg : Option Block := none
  /-- Its input pins SI0_A, SI0_B to SI15_B [11 R304] -/
  pins : Vector PinIn 32 := Vector.replicate 32 {}
  /-- Its tap counts of the step generators, its encoder counts since their alignment and the position they were aligned to
  [10 R295, 11 R299, R316; 0] -/
  tap : Vector Int 8 := Vector.replicate 8 0
  enc : Vector Int 8 := Vector.replicate 8 0
  encAt : Vector Int 8 := Vector.replicate 8 0
deriving DecidableEq, Repr

/-- The Margin. -/
structure Margin where
  /-- State [3; 11 R302; STARTING] -/
  state : MState := .starting
  /-- INT_FAULT [8; 11 R329; 0] -/
  intFault : Nat := 0
  /-- Accepted CRC, committed CRC awaiting acceptance [32 each; 11 R324, R329; none] -/
  accepted : Option Word := none
  committed : Option Word := none
  /-- Staging: bytes staged, as words [11 R326; empty] -/
  staged : List (Nat × Word) := []
  /-- Password, consecutive failures, lock deadline [11 R326; none, 0, none] -/
  password : Option (List Byte) := none
  fails : Nat := 0
  lockUntil : Option Nat := none
  /-- Log entries, oldest first, and next SEQ [256; 11 R328; empty] -/
  log : List Block := []
  logSeq : Nat := 0
  a : MChan := {}
  b : MChan := {}
  /-- Differing ticks in a row, CC_MISMATCH [11 R301; 0] -/
  diffRun : Nat := 0
  mismatch : Nat := 0
  /-- Output faults, switches under test (high, low) [8 each; 11 R311, R312; 0] -/
  soFault : BitVec 8 := 0
  testHigh : BitVec 8 := 0
  testLow : BitVec 8 := 0
  /-- Outputs whose command changed less than FB_SETTLE ago [8; 11 R311; 0] -/
  settling : BitVec 8 := 0
  /-- Latest readback bands [11 R311; none] -/
  fb : List FbBand := []
  /-- Referenced axes, their reference shifts, encoder faults [8; 11 R316; 0] -/
  referenced : BitVec 8 := 0
  encFault : BitVec 8 := 0
  /-- TP0 to TP3 in their off-pulse [4; 11 R307; 0] -/
  tpOff : BitVec 4 := 0
  /-- The Margin is held in reset [1; 17 R447, R448; 1] -/
  inReset : Bool := true
deriving DecidableEq, Repr

/-! ### Host interface and Folio (12, 13, 17) -/

/-- A completed response (R344): STATE, STATUS, DETAIL and payload, with the TAG and FLAGS of its command. -/
structure Response where
  tag : Word
  quiet : Bool
  status : BitVec 16
  state : BitVec 16
  detail : Word
  payload : Block
deriving DecidableEq, Repr

/-- A response sent in a MAILBOX frame (R394): its place in the ring, FSEQ, sends so far, whether it is acknowledged or given up, and
the cycle of the latest send. -/
structure Unacked where
  slot : BitVec 16
  fseq : Word
  sends : Nat
  ended : Bool
  at_ : Nat
deriving DecidableEq, Repr

/-- A mailbox (R342). -/
structure Mailbox where
  /-- CMD_HEAD, CMD_TAIL, RSP_TAIL, RSP_HEAD [16 each; 12 R342; 0] -/
  cmdHead : BitVec 16 := 0
  cmdTail : BitVec 16 := 0
  rspTail : BitVec 16 := 0
  rspHead : BitVec 16 := 0
  /-- MBk_CFG [32; 12 R342; 0] -/
  cfg : Word := 0
  /-- CFG_ERR, DB_ERR [1 each; 12 R342; 0] -/
  cfgErr : Bool := false
  dbErr : Bool := false
  /-- MBk_LOST [32; 12 R342; 0] -/
  lost : Nat := 0
  /-- Session: identifier and authority [12 R347; none] -/
  session : Option (Word × Authority) := none
  /-- Commands taken and not yet carried out, in order [12 R346; empty] -/
  taken : List (MbCmd × BitVec 16) := []
  /-- Responses still to be discarded after a PCIe hot reset, and the authority of the commands taken before it
  [12 R356; 0] -/
  discard : Nat := 0
  frozen : Nat := 0
  /-- Completed responses waiting for ring space (RSP_WAIT) [12 R346; empty] -/
  done : List Response := []
  /-- The Quire item of the command in service: it ends when the response is written [06 R169, R171, 12 R346; none] -/
  kept : Option Nat := none
  /-- Commands carried on that have no response yet (CAL_POINT, RCP_VERIFY, SELFTEST, loads) [13 R362; 0] -/
  working : Nat := 0
  /-- RCP_VERIFY of this mailbox [05 R165; none] -/
  verify : Option Verify := none
  /-- Fabric: source and FSEQ of the last COMMAND accepted, port of the latest COMMAND, responses sent, oldest
  first [14 R394; none] -/
  lastFseq : Option (BitVec 16 × Word) := none
  lastPort : Option (Fin 4) := none
  unacked : List Unacked := []
deriving DecidableEq, Repr

/-- HLIM guard (R350 to R353). -/
structure Hlim where
  /-- Staging record, HLIM_PW [64 bytes, 16 bytes; 12 R350; 0] -/
  stage : Block := []
  pw : Block := []
  /-- LAST_RESULT, FAILS [8, 3; 12 R350; 0] -/
  result : Nat := 0
  fails : Nat := 0
  /-- Path that holds the unlock [12 R352; none] -/
  unlock : Option Path := none
  /-- Unlock check running: path and length (BUSY) [12 R352; none] -/
  checking : Option (Path × Nat) := none
  /-- Lockout deadline [12 R352; none] -/
  lockUntil : Option Nat := none
  /-- Limits password [16 characters; 12 R350; none] -/
  password : Option (List Byte) := none
  /-- HLIM_WRITES [32; 12 R350; 0*] -/
  writes : Nat := 0
deriving DecidableEq, Repr

/-- Host interface registers (R337). -/
structure HostIf where
  mb : Vector Mailbox 8 := Vector.replicate 8 {}
  /-- IRQ_STAT, IRQ_EN [32; 12 R341; 0] -/
  irqStat : Word := 0
  irqEn : Word := 0
  /-- RESET_CAUSE [32; 12 R339; POWER_ON] -/
  resetCause : Word := 1
  /-- RESET_CTL: INDEX, BLOCK, REFUSED, REACH [32; 12 R340; 0] -/
  resetCtl : Word := 0
  /-- WIN_CFG [32; 12 R355; 1] -/
  winCfg : Word := 1
  /-- ACCESS_ERR [32; 12 R337; 0] -/
  accessErr : Nat := 0
  /-- SO_REQ [8; 12 R337; 0] -/
  soReq : BitVec 8 := 0
  /-- BLOT_CURSOR and window of PCIe and of WINDOW frames [32, 8 entries; 16 R438; 0] -/
  cursorP : Word := 0
  cursorF : Word := 0
  windowP : List Block := []
  windowF : List Block := []
  /-- TIME_HI, TIME_ERA latched for PCIe and for WINDOW frames [15 R404; 0] -/
  latchP : Word × Word := (0, 0)
  latchF : Word × Word := (0, 0)
  /-- MSI-X table and PBA [128 words, 32; 12 R337; 0] -/
  msix : List (Nat × Word) := []
  pba : Word := 0
  /-- MSI-X messages sent (output) [12 R341; empty] -/
  sentIrq : List Nat := []
  /-- The power-fail sequence has stopped the transmitters [1; 18 R476; 0] -/
  txOff : Bool := false
  hlim : Hlim := {}
  /-- Session passwords, failures and locks of ENGINEER and SAFETY [12 R348; none] -/
  pwEng : Option (List Byte) := none
  pwSaf : Option (List Byte) := none
  failEng : Nat := 0
  failSaf : Nat := 0
  lockEng : Option Nat := none
  lockSaf : Option Nat := none
  /-- Last session identifier [32; 13 R365; 0*] -/
  sessions : Word := 0
  /-- PCIe link: speed, width; 0 down [12 R357; 0] -/
  linkSpeed : Nat := 0
  linkWidth : Nat := 0
  /-- Power state D3hot [1; 12 R334, 17 R459; 0*: D0] -/
  d3hot : Bool := false
  /-- The endpoint is held in reset (clock not good) [17 R448; 1] -/
  pcieReset : Bool := true
deriving DecidableEq, Repr

/-- A Folio core (R215, R216). -/
inductive CoreRole where
  | vote | spare | booting | isolated | retired
deriving DecidableEq, Repr

/-- A self-test in progress (R371). -/
structure SelfTest where
  mb : Fin 8
  tag : Word
  quiet : Bool
  kind : Nat
  index : Nat
  die : Nat
deriving DecidableEq, Repr

/-- What waits for its command's response to be written: the restart into the staged image (mailbox, image CRC, written to flash;
R374), or the entry into STANDBY (mailbox; R366, R473). -/
inductive Restart where
  | image (mb : Fin 8) (crc : Word) (flash : Bool)
  | standby (mb : Fin 8)
deriving DecidableEq, Repr

/-- The Folio (17, 07). -/
structure Folio where
  /-- FC0 to FC3 [07 R215, 01 R18; FC0 to FC2 vote, FC3 spare] -/
  cores : List CoreRole := [.vote, .vote, .vote, .spare]
  /-- FOLIO field of DEV_STATE [4; 12 R338; BOOTING] -/
  code : Nat := 1
  /-- MB_READY, RESTORED, MODE (1 SERVICE) [1 each; 12 R338; 0] -/
  mbReady : Bool := false
  restored : Bool := false
  service : Bool := false
  /-- MB_READY has been 1 since the last reset of reach W or F [17 R454; 0] -/
  readyOnce : Bool := false
  /-- The ROM loader runs; sources allowed: PCIe, fabric; the fabric source taken [17 R464; none] -/
  loader : Option (Bool × Bool) := none
  loaderSrc : Option (BitVec 16) := none
  /-- Staged image: TOTAL and bytes as (word index, word) [13 R374; none] -/
  staged : Option (Nat × List (Nat × Word)) := none
  /-- FW_VERSION, FW_CRC of the running image; a protected copy is held [17 R450; 0*] -/
  fwVersion : Word := 0
  fwCrc : Word := 0
  copyOk : Bool := false
  /-- Instant of the latest isolation [TIME cycles; 07 R219; 0] -/
  isolatedAt : Nat := 0
  /-- SELFTESTs running, oldest first [13 R371; none] -/
  selftests : List SelfTest := []
  /-- Watchdog restarted since the last expiry (the RC of R465) [17 R465; 0] -/
  watchdog : Nat := 0
  /-- B_TIMEOUT of the image header [µs; 17 R454, R462; 100] -/
  bTimeout : Nat := 100
  /-- ETHERTYPE and PORT_CFG of the image header [16 each; 17 R462; 0x88B5, 0] -/
  etherType : BitVec 16 := 0x88B5
  portCfg : BitVec 16 := 0
  /-- A restart or a STANDBY entry that waits for its response to be written [13 R366, R374; none] -/
  restart : Option Restart := none
deriving DecidableEq, Repr

/-! ### Fabric (14) -/

/-- What waits in a class queue: a Ligature frame or a PTP message (R388). -/
inductive Packet where
  | frame (f : Frame)
  | ptp (m : PtpMsg)
deriving DecidableEq, Repr

/-- A Ligature port. -/
structure Port where
  /-- Block lock, hi_ber, UP [1 each; 14 R379; 0]; the cycle at which the port came UP, and PRIM hold over [14 R384; 0] -/
  lock : Bool := false
  hiBer : Bool := false
  up : Bool := false
  upAt : Nat := 0
  usable : Bool := false
  /-- Cycles of the latest HELLO heard and of the latest HELLO sent [14 R379; none]; peer address and UID [14 R382; 0] -/
  heard : Option Nat := none
  helloAt : Option Nat := none
  peer : BitVec 16 := 0
  peerUid : BitVec 64 := 0
  /-- RX_FRAMES, TX_FRAMES, CRC_ERR, SWITCHOVERS [32 each; 13 R372; 0] -/
  rx : Nat := 0
  tx : Nat := 0
  crcErr : Nat := 0
  switchovers : Nat := 0
  /-- Transmit queues of classes 0, 1, 2, packets oldest first; the bytes of the packet in transmission still to send (output)
  [14 R388; empty] -/
  q0 : List Packet := []
  q1 : List Packet := []
  q2 : List Packet := []
  onWire : List Byte := []
  /-- Mean link delay of peer-to-peer [1/655,360 ns; 15 R410; 0]; egress time and sequence of the Pdelay_Req that awaits its answer
  [0.1 ns, 16; 15 R407; none, 0] -/
  linkDelay : Int := 0
  pdelayT1 : Option Int := none
  pdelaySeq : Nat := 0
  /-- Next sequenceId of the port's Sync, Announce, Delay_Req and Pdelay_Req messages; cycles of its latest Sync, Announce and
  Pdelay_Req [16 each; 15 R407; 0, none] -/
  seqSync : Nat := 0
  seqAnn : Nat := 0
  seqDelay : Nat := 0
  seqPdelay : Nat := 0
  syncAt : Option Nat := none
  annAt : Option Nat := none
  pdelayAt : Option Nat := none
deriving DecidableEq, Repr

/-- A route entry (R372). -/
structure Route where
  dest : BitVec 16
  prim : Nat
  alt : Nat
deriving DecidableEq, Repr

/-- An address assignment that awaits its reply (R391). -/
structure Assign where
  mb : Fin 8
  tag : Word
  quiet : Bool
  ring : Bool
  uid : BitVec 64
  id : BitVec 16
  /-- Cycle of its start (R391) -/
  since : Nat
deriving DecidableEq, Repr

/-- The fabric side of the device. -/
structure Fabric where
  port : Vector Port 4 := Vector.replicate 4 {}
  /-- Own address [16; 14 R383; 0] -/
  addr : BitVec 16 := 0
  /-- Valid route entries by index [4,096; 13 R372; empty] -/
  routes : List (Nat × Route) := []
  /-- The table has been loaded (until then only 0xFFFF is forwarded) [14 R383; 0] -/
  loaded : Bool := false
  /-- FSEQ counter [32; 14 R381; 0*] -/
  fseq : Word := 0
  /-- Cache of (SRC, FSEQ, cycles) for group and flood frames [256; 14 R387; empty] -/
  flood : List (BitVec 16 × Word × Nat) := []
  /-- Notice cache (SUBJECT, CODE, cycles) and NOTICES_SUPPRESSED [256, 32; 14 R398; empty, 0] -/
  notices : List (BitVec 16 × BitVec 16 × Nat) := []
  suppressed : Nat := 0
  evicted : Nat := 0
  lastFull : Option Nat := none
  /-- SYNC table (ID, ERA, T_EFF) [64; 14 R396; empty] -/
  sync : List (BitVec 16 × Nat × Nat) := []
  /-- DISC_ID last chosen [16; 14 R389; 0*]; discovery: running, its DISC_ID, FOUND, DONE, results (UID, ADDR, HOPS, PORT)
  [14 R390; none]; cycles of its start and of its latest REPLY -/
  discId : BitVec 16 := 0
  discRun : Bool := false
  discStart : Nat := 0
  discLast : Nat := 0
  discNow : BitVec 16 := 0
  found : Nat := 0
  discDone : Bool := false
  results : List (BitVec 64 × BitVec 16 × Nat × Nat) := []
  /-- Recorded ingress ports (ORIGIN_UID, DISC_ID, port, cycles) [14 R390; empty] -/
  recorded : List (BitVec 64 × BitVec 16 × Fin 4 × Nat) := []
  /-- FAB_ADDR_SET in flight, oldest first [14 R391; none] -/
  assigns : List Assign := []
  /-- Frames dropped by full class buffers [14 R388; 0] -/
  qDrops : Nat := 0
deriving DecidableEq, Repr

/-! ### Timebase (15) -/

/-- Servo states of R405. -/
inductive Servo where
  | free | locking | locked | holdover | master
deriving DecidableEq, Repr

/-- A slew in progress (R412): ns still to remove in 2^-32 ns, sign, rate in ppb, the whole offset. -/
structure Slew where
  left : Nat
  neg : Bool
  ppb : Nat
  total : Int
deriving DecidableEq, Repr

/-- A time output or compare slot (R415). -/
structure TimeOut where
  en : Bool := false
  toggle : Bool := false
  periodic : Bool := false
  start : Nat := 0
  period : Nat := 0
  width : Nat := 0
  /-- Next compare time, none when fired out; level; pulse running [15 R415; none, low] -/
  next : Option Nat := none
  level : Bool := false
  /-- Cycle at which the pulse in progress ends -/
  pulse : Option Nat := none
deriving DecidableEq, Repr

/-- A capture input (R418): level seen last, captures (TIME, ERA, FALLING) oldest first, LOST, LOST reported for this filling. -/
structure Tin where
  level : Bool := false
  queue : List (Nat × Nat × Bool) := []
  lost : Nat := 0
  told : Bool := false
deriving DecidableEq, Repr

/-- An announced master (R407). -/
structure Foreign where
  clockId : Nat
  port : Fin 4
  key : List Nat
  steps : Nat
  /-- Cycle of its latest Announce and its logAnnounceInterval -/
  at_ : Nat := 0
  log : Int := 0
deriving DecidableEq, Repr

/-- The timebase and the servo. -/
structure Timebase where
  /-- TIME, fraction, ERA [64, 32, 8; 15 R401; R403] -/
  time : Nat := 0
  frac : Nat := 0
  era : Nat := 0
  /-- The TIME clock runs [17 R449; 0] -/
  running : Bool := false
  /-- The time of day is valid [15 R402; 0] -/
  valid : Bool := false
  /-- Servo state, steered rate in 0.01 ppb, whether suspended by reach C [15 R401, R405; FREE, 0, 0] -/
  servo : Servo := .free
  rate : Int := 0
  suspended : Bool := false
  /-- Rates steered in LOCKED, newest first, each with the TIME cycle of its start, over the last 16 s [15 R405; empty] -/
  rates : List (Nat × Int) := []
  /-- Sync messages in a row within 100 ns; offset and mean path delay in 1/655,360 ns; steps removed [15 R405, 13 R373; 0] -/
  goodSyncs : Nat := 0
  offset : Int := 0
  pathDelay : Int := 0
  stepsRemoved : Nat := 0
  /-- Selected master: clock identity and port [13 R373; none] -/
  master : Option (Nat × Fin 4) := none
  foreign : List Foreign := []
  /-- Two-step Sync waiting for its Follow_Up: sequence, ingress time in 0.1 ns, correction, port; latest Sync used: ingress time
  less corrected origin time; Delay_Req sent: egress time in 0.1 ns [15 R407; none] -/
  pendSync : Option (Nat × Int × Int × Fin 4) := none
  lastSync : Option Int := none
  delayT3 : Option Int := none
  delaySeq : Nat := 0
  /-- Latest Sync of the master: its cycle and its logSyncInterval [15 R405; 0] -/
  syncAt : Nat := 0
  syncLog : Int := 0
  /-- Cycle of the latest once-a-second write of TIME_MARK [15 R403; 0] -/
  markAt : Nat := 0
  slew : Option Slew := none
  /-- TIME_CONFIG block [24 bytes; 13 R373; reset column of R373] -/
  cfg : Block
  tout : Vector TimeOut 4 := Vector.replicate 4 {}
  slot : Vector TimeOut 16 := Vector.replicate 16 {}
  tin : Vector Tin 4 := Vector.replicate 4 {}
deriving DecidableEq, Repr

/-! ### Vellum and Blotter (16) -/

/-- Persistent structures with no home among the fields above, and the controller's own state. -/
structure Vellum where
  /-- Per-channel structures [16 R423; blank*] -/
  ch : Vector ChVellum 256 := Vector.replicate 256 {}
  /-- Raw words written singly, by word index [64 each; 16 R422; blank*] -/
  words : List (Nat × BitVec 64) := []
  /-- Row counts by row; rows reported (0x0908 kind) [16 R430; 0*] -/
  wear : List (Nat × Nat) := []
  wearHigh : List Nat := []
  /-- Row counts as last written to WEAR_MAP [16 R430; 0*] -/
  wearMap : List (Nat × Nat) := []
  /-- Retired rows, in order; spare rows 41 in all [16 R422, R431; none*] -/
  retired : List Nat := []
  /-- Words corrected once; corrections, refused writes counted [16 R424, R429, R431; 0] -/
  correctedOnce : List Nat := []
  corrections : Nat := 0
  refused : Nat := 0
  /-- CKPT_INTERVAL, REVERT_HOLD options [07 R198; 100, 10] -/
  ckptInterval : Nat := 100
  revertHold : Nat := 10
  /-- TIME_MARK: time of day in ms, ERA [15 R403; blank*] -/
  timeMark : Option (Nat × Nat) := none
  /-- Fabric address, routes and TIME_CONFIG kept in FOLIO_CKPT [14 R383, 15 R406; blank*] -/
  fabAddr : BitVec 16 := 0
  fabRoutes : List (Nat × Route) := []
  timeCfg : Option Block := none
  /-- Retained mark of the Blotter [16 R439; none*] -/
  mark : Option Nat := none
  /-- Blotter ring: entries by SEQ, oldest first [32,768; 16 R435; blank*] -/
  ring : List (Nat × Block) := []
  /-- DRAM pages retired, converters replaced since manufacture [16 R423, 13 R371; 0*] -/
  pagesRetired : Nat := 0
  convSteered : Nat := 0
  /-- SRAM_BANKS_OUT, SRAM_ROWS_MIN, SRAM_ROWS_USED: the spec names nothing that changes them [16, 16, 32; 13 R371; 0, 64, 0] -/
  sramBanksOut : Nat := 0
  sramRowsMin : Nat := 64
  sramRowsUsed : Nat := 0
  /-- Regions in which the latest word write failed for good: their writers are told [16 R427; none] -/
  failed : List Nat := []
deriving DecidableEq, Repr

/-- An event as a block raises it (R432). -/
structure Event where
  code : BitVec 16
  severity : Nat
  source : BitVec 16
  param : BitVec 64
  time : Nat
  era : Nat
deriving DecidableEq, Repr

/-- A limiter (R434): RATE, BURST, tokens in 1/250,000,000 (TIME cycles), cycles of the last refill, suppressed count, the
last suppressed raise, cycles of the last raise. -/
structure Limiter where
  code : BitVec 16
  rate : Nat := 10
  burst : Nat := 32
  tokens : Nat
  at_ : Nat
  suppressed : Nat := 0
  last : Option Event := none
deriving DecidableEq, Repr

/-- A Blotter entry (R433) in the volatile buffer. -/
structure Entry where
  seq : Nat
  ev : Event
  count : Nat
  summary : Bool
  lostBefore : Bool
  restored : Bool
  persisted : Bool
deriving DecidableEq, Repr

/-- The Blotter. -/
structure Blotter where
  /-- Events raised and not yet tested by their limiter, oldest first [16 R432; empty] -/
  raised : List Event := []
  /-- Events past the limiter that wait for the ring scan [16 R437; empty] -/
  early : List (Event × Nat) := []
  /-- Limiters that differ from a full default bucket [1,024; 16 R434; defaults] -/
  limiters : List Limiter := []
  /-- Volatile buffer, oldest first [8,192; 16 R435; empty] -/
  buffer : List Entry := []
  /-- Next SEQ [32; 16 R432; 0] -/
  nextSeq : Nat := 0
  /-- LOST and loss not yet marked [32, 1; 16 R436; 0] -/
  lost : Nat := 0
  lossMark : Bool := false
  /-- The ring scan has ended [1; 16 R437; 0] -/
  scanned : Bool := false
  /-- Highest SEQ that the scan found in the ring [16 R437; none] -/
  restored : Option Nat := none
  /-- SEQs evicted [16 R438; none] -/
  evicted : List Nat := []
  /-- A flush has been requested; it was EVT_CONFIG's [16 R435; 0] -/
  flushReq : Bool := false
  flushTold : Option Nat := none
deriving DecidableEq, Repr

/-! ### Reset, clocks and power (17, 18) -/

/-- Power states of 18. -/
inductive Power where
  | run | standby | waking
deriving DecidableEq, Repr

/-- Reset, boot and power logic. -/
structure Reset where
  /-- Sources asserted [17 R444; power-on] -/
  sources : List ResetSrc := [.powerOn]
  /-- RESET_CAUSE bits of the sources that took part in the reset in progress, or in the latest one [17; 17 R446; power-on] -/
  part : Nat := 1
  /-- Release stage in progress, 0 when no release runs, 12 when complete [17 R447; 0] -/
  stage : Nat := 0
  /-- Last stage completed since the reset [17 R447; 0] -/
  doneStage : Nat := 0
  /-- A final-checkpoint flush is running, for which source [07 R197; none] -/
  flushing : Option ResetSrc := none
  /-- Clock domains that missed their timeout [17 R448; none] -/
  badClocks : List ClkDomain := []
  /-- TIME cycle at which the phase reference of the FE dies read 0, none before stage 7 [the MODEL's own clock; 02 R44; none] -/
  phaseAt : Option Nat := none
  /-- Straps sampled: BOOT_SRC, CLK_MODE [2 each; 17 R451; 0*] -/
  bootSrc : Nat := 0
  clkMode : Nat := 0
  /-- Block resets in their idle handshake, in the order of the requests: BLOCK, INDEX [17 R454; none] -/
  block : List (Nat × Nat) := []
  /-- Events to raise after the restart (0x1005, 0x1009, 0x100A, 0x1013, 0x1014, 0x1015, 0x1012) [17 R467; none] -/
  after : List (BitVec 16 × BitVec 64) := []
  power : Power := .run
  /-- PWR_REQ, PGOOD_IN, PFAIL_N low, power-fail sequence running since its start [18 R471, R476; 1, 0, 0, 0] -/
  pwrReq : Bool := true
  pgood : Bool := false
  pfailLow : Bool := false
  pfailSeq : Bool := false
  /-- STANDBY entry hold running, a wake waits for it, PGOOD_LATE [18 R474, R475; 0] -/
  holdLow : Bool := false
  wakePending : Bool := false
  pgoodLate : Bool := false
  /-- TIME cycles at the wake [the MODEL's own clock; 18 R480; 0] -/
  wakeAt : Nat := 0
  /-- RESET_CAUSE at the release, cycles at the start of the release or restart [17 R467; 0] -/
  since : Nat := 0
  /-- The store is to be kept by this reset; the gates are low by reset [09 R261; 0] -/
  keepStore : Bool := false
  /-- Free values used so far [counter, the MODEL's own; log 6; 0] -/
  free : Nat := 0
deriving DecidableEq, Repr

/-- The delays that the spec bounds and whose end a row reports: each by the thing that waits. -/
inductive Timer where
  | boardOut (g : Fin 16) | boardIn (g : Fin 16) | spare (die : Fin 4) (c : Nat)
  | calPoint (n : Fin 256) (current : Bool) (range : Nat) (full : Bool)
  | revert (g : Fin 17) | switch (a : Fin 8) (sw : Switch) | hlimUnlock | staging | testPulse (k : Fin 4)
  | switchTest (k : Nat) (low : Bool) | fbSettle (k : Nat) | stop1 (f : Nat) | wearMap | flush | pfail | block (b i : Nat)
  | standbyHold | standbyExit
deriving DecidableEq, Repr

/-- The state of the VX256. -/
structure State where
  /-- Commands waiting, first in first out [the task's queue; empty] -/
  pending : List Instr
  /-- TIME-domain cycles passed since the model began (the MODEL's own clock; log 2) [counter; 15 R401; 0] -/
  now : Nat
  /-- Delays that run, each with the TIME cycle at which it is over [02 R62, R63, 03 R85, R92, 07 R197, R213, 10 R289, 11 R307, R311,
  R312, R317, R326, 12 R352, 16 R430, 17 R454, 18 R474, R475, R478; none] -/
  timers : List (Timer × Nat)
  /-- BAR2 rings [0x0 to 0x1FFFF; 12 R343; nothing listed] -/
  rings : Memory
  chan : Vector Channel 256
  group : Vector Group 16
  die : Vector Die 4
  nibs : Nibs
  slot : Vector Slot 1024
  quire : Quire
  pounce : Vector Pounce 32
  ink : Inkwell
  axis : Vector Axis 8
  /-- Linear moves in progress [10 R288; none] -/
  linear : List Linear
  margin : Margin
  host : HostIf
  folio : Folio
  fab : Fabric
  tb : Timebase
  vel : Vellum
  blot : Blotter
  rst : Reset
deriving DecidableEq, Repr

/-! ### Reset -/

/-- The CH_CONFIG block after a reset of reach W or F (Reset columns of R64 and R79). -/
def cfgReset : Block :=
  [0, 64000, 6400, 256000, 0, 0x00800080#32, 0, 0, 0, 12800, 0, 0, 0x3B9ACA00#32, 0, 0, 0]

/-- The AX_CONFIG block after reset (Reset column of R282). -/
def axCfgReset : Block :=
  [0, 10000, 0, 0, 0, 0, 0, 0, 0, 0, 0, 0x000A0A0A#32, 0, 0, 0, 0, 0, 0, 0, 0]

/-- The TIME_CONFIG block after reset (Reset column of R373). -/
def timeCfgReset : Block :=
  [0x808000F0#32, 0x02000180#32, 0x02000180#32, 0x02000180#32, 0x02000180#32, 1000]

/-- T[k] = round(65,535 x sin(π k / 512)) for k = 0 to 255 (R277). -/
def tableReset : List Nat :=
  [0, 402, 804, 1206, 1608, 2010, 2412, 2814, 3216, 3617, 4019, 4420, 4821, 5222, 5623, 6023]
    ++ [6424, 6824, 7223, 7623, 8022, 8421, 8820, 9218, 9616, 10014, 10411, 10808, 11204, 11600, 11996, 12391]
    ++ [12785, 13179, 13573, 13966, 14359, 14751, 15142, 15533, 15924, 16313, 16703, 17091, 17479, 17866, 18253, 18639]
    ++ [19024, 19408, 19792, 20175, 20557, 20939, 21319, 21699, 22078, 22456, 22834, 23210, 23586, 23960, 24334, 24707]
    ++ [25079, 25450, 25820, 26189, 26557, 26925, 27291, 27656, 28020, 28383, 28745, 29106, 29465, 29824, 30181, 30538]
    ++ [30893, 31247, 31600, 31952, 32302, 32651, 32999, 33346, 33692, 34036, 34379, 34721, 35061, 35400, 35738, 36074]
    ++ [36409, 36743, 37075, 37406, 37736, 38064, 38390, 38715, 39039, 39361, 39682, 40001, 40319, 40635, 40950, 41263]
    ++ [41575, 41885, 42194, 42500, 42806, 43109, 43411, 43712, 44011, 44308, 44603, 44897, 45189, 45479, 45768, 46055]
    ++ [46340, 46624, 46905, 47185, 47464, 47740, 48014, 48287, 48558, 48827, 49095, 49360, 49624, 49885, 50145, 50403]
    ++ [50659, 50913, 51166, 51416, 51664, 51911, 52155, 52398, 52638, 52877, 53113, 53348, 53580, 53811, 54039, 54266]
    ++ [54490, 54713, 54933, 55151, 55367, 55582, 55794, 56003, 56211, 56417, 56620, 56822, 57021, 57218, 57413, 57606]
    ++ [57797, 57985, 58171, 58356, 58537, 58717, 58895, 59070, 59243, 59414, 59582, 59749, 59913, 60075, 60234, 60391]
    ++ [60546, 60699, 60850, 60998, 61144, 61287, 61429, 61567, 61704, 61838, 61970, 62100, 62227, 62352, 62475, 62595]
    ++ [62713, 62829, 62942, 63053, 63161, 63267, 63371, 63472, 63571, 63668, 63762, 63853, 63943, 64030, 64114, 64196]
    ++ [64276, 64353, 64428, 64500, 64570, 64638, 64703, 64765, 64826, 64883, 64939, 64992, 65042, 65090, 65136, 65179]
    ++ [65219, 65258, 65293, 65327, 65357, 65386, 65412, 65435, 65456, 65475, 65491, 65504, 65515, 65524, 65530, 65534]

/-- Nib roles and groups after a reset of reach W or F (R17). -/
def nibReset (k : Nat) : Nib :=
  if k < 17 then { role := .active, group := some (Fin.ofNat 17 k) } else {}

/-- The machine right after power-on: reach W applied, nothing released (R444, R447). -/
def State.reset : State where
  pending := []
  now := 0
  timers := []
  rings := []
  chan := Vector.replicate 256 { cfg := cfgReset }
  group := Vector.replicate 16 {}
  die := Vector.replicate 4 {}
  nibs := { nib := ⟨((List.range 20).map nibReset).toArray, rfl⟩ }
  slot := Vector.replicate 1024 {}
  quire := {}
  pounce := Vector.replicate 32 {}
  ink := {}
  axis := Vector.replicate 8 { cfg := axCfgReset, table := tableReset }
  linear := []
  margin := {}
  host := {}
  folio := {}
  fab := {}
  tb := { cfg := timeCfgReset }
  vel := {}
  blot := {}
  rst := {}

end Sys2Proof.Machine
end

