-- ==== Sys2Proof/Machine/Bits.lean ====
section
/-! DEFINITION. Bit fields, signed readings, saturation, byte order, CRC-16, CRC-32 and the access to the vectors of the state. -/

namespace Sys2Proof.Machine

/-- Bits [hi:lo] of a word as a number (00 R11). -/
def bits (w : Word) (hi lo : Nat) : Nat := w.toNat / 2 ^ lo % 2 ^ (hi + 1 - lo)

/-- Bit i of a word. -/
def bit (w : Word) (i : Nat) : Bool := w.getLsbD i

/-- The word at byte offset `off` of a block; a word past the end reads 0 (R344). -/
def wordAt (b : Block) (off : Nat) : Word := b.getD (off / 4) 0#32

/-- The word at a byte offset, unsigned. -/
def natAt (b : Block) (off : Nat) : Nat := (wordAt b off).toNat

/-- The word at a byte offset, signed (two's complement). -/
def intAt (b : Block) (off : Nat) : Int := (wordAt b off).toInt

/-- Bits [hi:lo] of the word at a byte offset. -/
def fieldAt (b : Block) (off hi lo : Nat) : Nat := bits (wordAt b off) hi lo

/-- A bit of the word at a byte offset. -/
def bitAt (b : Block) (off i : Nat) : Bool := bit (wordAt b off) i

/-- A two's complement field of `n` bits. -/
def signed (n x : Nat) : Int := if x < 2 ^ (n - 1) then (x : Int) else (x : Int) - 2 ^ n

/-- A 64-bit value, low word first (R8). -/
def natAt64 (b : Block) (off : Nat) : Nat := natAt b off + 2 ^ 32 * natAt b (off + 4)

/-- A signed 64-bit value, low word first. -/
def intAt64 (b : Block) (off : Nat) : Int := signed 64 (natAt64 b off)

/-- A word from a number or an integer, modulo 2^32. -/
def w32 (n : Nat) : Word := BitVec.ofNat 32 n
def wInt (i : Int) : Word := BitVec.ofInt 32 i

/-- The two words of a 64-bit value, low word first. -/
def words64 (n : Nat) : Block := [w32 n, w32 (n / 2 ^ 32)]
def words64Int (i : Int) : Block := words64 (i % 2 ^ 64).toNat

/-- The number a Bool stands for in a bit field. -/
def b2n (b : Bool) : Nat := if b then 1 else 0

/-- Saturating 32-bit counter (R10). -/
def satAdd (n k : Nat) : Nat := min (n + k) 0xFFFFFFFF

/-- Clamp to [lo, hi]. -/
def clampInt (lo hi x : Int) : Int := if x < lo then lo else if hi < x then hi else x

/-- Division of a by b with truncation toward zero. -/
def divTrunc (a b : Int) : Int := Int.tdiv a b

/-- Division rounded to nearest, halves away from zero (R7 as the chapters name it). -/
def divNear (a : Int) (b : Nat) : Int :=
  if a < 0 then -(((2 * a.natAbs + b) / (2 * b) : Nat) : Int) else (((2 * a.natAbs + b) / (2 * b) : Nat) : Int)

/-- The bits of a mask, ascending. -/
def maskBits (n m : Nat) : List Nat := (List.range n).filter fun i => m.testBit i

/-- Some reserved bit of the word at `off` is set: the bits of `mask`. -/
def reservedSet (b : Block) (off mask : Nat) : Bool := (natAt b off) &&& mask != 0

/-- The byte offset of the first word of a list (offset, reserved mask) in which a reserved bit is set (R375). -/
def firstReserved (b : Block) : List (Nat × Nat) → Option Nat
  | [] => none
  | (off, m) :: r => if reservedSet b off m then some off else firstReserved b r

/-- Bytes of a word in ascending address order (little-endian, R8). -/
def wordBytes (w : Word) : List Byte := (List.range 4).map fun i => BitVec.ofNat 8 (w.toNat / 2 ^ (8 * i))

/-- Bytes of a block. -/
def blockBytes (b : Block) : List Byte := b.flatMap wordBytes

/-- A word from up to four bytes, the lowest address first. -/
def bytesWord : List Byte → Word
  | [] => 0
  | b :: r => w32 (b.toNat + 256 * (bytesWord r).toNat)

/-- Words from bytes, `n` of them. -/
def bytesBlock : Nat → List Byte → Block
  | 0, _ => []
  | n + 1, bs => bytesWord (bs.take 4) :: bytesBlock n (bs.drop 4)

/-- One bit step of CRC-32, the Ethernet polynomial, reflected (R165, R195, R351 name it). -/
def crcShift (c : Nat) : Nat := if c % 2 = 1 then (c / 2) ^^^ 0xEDB88320 else c / 2

/-- One byte of CRC-32. -/
def crcByte (c : Nat) (b : Byte) : Nat :=
  crcShift (crcShift (crcShift (crcShift (crcShift (crcShift (crcShift (crcShift (c ^^^ b.toNat))))))))

/-- CRC-32, the Ethernet polynomial, over bytes. -/
def crc32 (bs : List Byte) : Word := w32 ((bs.foldl crcByte 0xFFFFFFFF) ^^^ 0xFFFFFFFF)

/-- CRC-32 over the bytes of a block. -/
def crcBlock (b : Block) : Word := crc32 (blockBytes b)

/-- `n` bytes of a number in network order (big-endian, R8). -/
def beBytes (n v : Nat) : List Byte := (List.range n).map fun i => BitVec.ofNat 8 (v / 2 ^ (8 * (n - 1 - i)))

/-- One bit step of CRC-16 with the polynomial x^16 + x^12 + x^5 + 1, the most significant bit first (R381). -/
def crc16Shift (c : Nat) : Nat := if 0x8000 ≤ c then (c * 2 % 0x10000) ^^^ 0x1021 else c * 2

/-- One byte of CRC-16. -/
def crc16Byte (c : Nat) (b : Byte) : Nat :=
  crc16Shift (crc16Shift (crc16Shift (crc16Shift (crc16Shift (crc16Shift (crc16Shift (crc16Shift (c ^^^ (b.toNat * 256)))))))))

/-- CRC-16 over bytes, from 0xFFFF (R381). -/
def crc16 (bs : List Byte) : BitVec 16 := BitVec.ofNat 16 (bs.foldl crc16Byte 0xFFFF)

/-- The event whose latest occurrence was at cycle `last` has had `gap` cycles pass since, or has not yet occurred. -/
def due (last : Option Nat) (gap now : Nat) : Bool :=
  match last with
  | none => true
  | some t => decide (t + gap ≤ now)

/-- Element of a state vector. -/
def vget {α : Type} {n : Nat} (v : Vector α n) (i : Fin n) : α := v[i]

/-- The vector with one element replaced. -/
def vset {α : Type} {n : Nat} (v : Vector α n) (i : Fin n) (x : α) : Vector α n := v.set i x

/-- Element of a state vector by number, or a default. -/
def vgetD {α : Type} {n : Nat} (v : Vector α n) (i : Nat) (d : α) : α := if h : i < n then v[i] else d

/-- The vector with element `i` replaced, unchanged when `i` is out of range. -/
def vsetD {α : Type} {n : Nat} (v : Vector α n) (i : Nat) (x : α) : Vector α n :=
  if h : i < n then v.set i x else v

/-- A list with element `i` replaced (unchanged when `i` is out of range). -/
def lset {α : Type} (l : List α) (i : Nat) (x : α) : List α := l.set i x

/-- Remove the first element that satisfies `p`. -/
def eraseFirst {α : Type} (p : α → Bool) : List α → List α
  | [] => []
  | a :: l => if p a then l else a :: eraseFirst p l

/-- Replace the first entry that satisfies `p`. -/
def replaceFirst {α : Type} (p : α → Bool) (b : α) : List α → List α
  | [] => []
  | a :: l => if p a then b :: l else a :: replaceFirst p b l

/-- Replace the block's words from byte offset `off` on, the block padded with zeros to `n` words. -/
def blockPut (n : Nat) (b : Block) (off : Nat) (ws : Block) : Block :=
  (List.range n).map fun i => if off / 4 ≤ i && i < off / 4 + ws.length then ws.getD (i - off / 4) 0 else b.getD i 0

/-- A block of exactly `n` words: cut or padded with zeros. -/
def blockFit (n : Nat) (b : Block) : Block := (List.range n).map fun i => b.getD i 0

/-- Difference a − b modulo 2^16 of free-running counts (R342). -/
def diff16 (a b : BitVec 16) : Nat := (a - b).toNat

/-- Ages of sequence numbers modulo 2^32: `a` is not ahead of `b` (serial order). -/
def seqLe (a b : Nat) : Bool := decide (((b : Int) - a) % 2 ^ 32 < 2 ^ 31)

end Sys2Proof.Machine
end

