-- ==== Sys2Proof/Machine/Flags.lean ====
section
/-! DEFINITION. Arithmetic of the block: rounding, Q2.30 saturation (R7) and the saturation flag of R109. -/

namespace Sys2Proof.Machine

/-- Quotient rounded to nearest; a tie goes where the part rounds it (free, log 19). `b` is positive. -/
def divRound (a : Int) (b : Nat) : Int :=
  let q := a / (b : Int)
  let r := a % (b : Int)
  if 2 * r < b then q else if (b : Int) < 2 * r then q + 1 else if Config.tieUp a b then q + 1 else q

/-- Quotient whose rounding the spec does not state: one of the two neighbouring integers (free, log 19). -/
def divFree (a : Int) (b : Nat) : Int :=
  let q := a / (b : Int)
  if a % (b : Int) = 0 then q else if Config.divUp a b then q + 1 else q

/-- Round to nearest of a quotient with a signed divisor. (DESIGN CHOICE, log 19) -/
def divFreeS (a b : Int) : Int := if b < 0 then divFree (-a) b.natAbs else divFree a b.natAbs

/-- The mean of `n` values with the given sum. (DESIGN CHOICE, log 19) -/
def mean (sum : Int) (n : Nat) : Int := divFree sum n

/-- Q2.30 bounds (R7). -/
def qMin : Int := -2147483648
def qMax : Int := 2147483647
/-- 1.0 in Q2.30. -/
def qOne : Int := 1073741824

/-- Saturation to the Q2.30 bounds (R7, R105). -/
def sat (x : Int) : Int := clampInt qMin qMax x

/-- A sat() of the exact value `x` reached a Q2.30 bound (R109). -/
def atBound (x : Int) : Bool := decide (x ≤ qMin) || decide (qMax ≤ x)

/-- A sum of Q2.30 products, formed exactly in 2^-60 units, rounded to nearest once (R105). -/
def roundQ (x : Int) : Int := divRound x (2 ^ 30)

/-- Normalised current: i / I_FS with I_FS = 1.28 V / (G x SHUNT), rounded and saturated (R103). -/
def normI (scale : Nat) (i : Int) : Int := sat (divRound (i * 2 ^ 30 * scale) 1280000000000)

/-- Normalised voltage: v / 5.12 V (R103). -/
def normV (v : Int) : Int := sat (divRound (v * 2 ^ 30) 512000)

/-- The integer square root; which neighbour a fraction takes is free (log 19). -/
def rootNear (n : Nat) : Int :=
  if Nat.sqrt n * Nat.sqrt n = n then Nat.sqrt n else if Config.divUp n 0 then Nat.sqrt n + 1 else Nat.sqrt n

/-- Absolute value of an exact sample. -/
def absInt (x : Int) : Int := x.natAbs

end Sys2Proof.Machine
end

