-- ==== Sys2Proof/Machine/Operands.lean ====
section
/-! DEFINITION. Fields of the blocks that several rows read: CH_CONFIG (R64, R79), the hard-limit record (R351), the step
entry (R133, R134, R138), the coefficient set (R117), the calibration record (R90). Each takes the block as its words. -/

namespace Sys2Proof.Machine

/-! ### CH_CONFIG (R64, R79) -/

def cfTripSel (c : Block) : Nat := fieldAt c 0 23 16
def cfStagger (c : Block) : Nat := fieldAt c 0 15 8
def cfCentre (c : Block) : Bool := bitAt c 0 4
def cfCarrier (c : Block) : Nat := fieldAt c 0 2 0
def cfPeriod (c : Block) : Nat := fieldAt c 4 19 0
def cfPmin (c : Block) : Nat := fieldAt c 8 19 0
def cfPmax (c : Block) : Nat := fieldAt c 12 19 0
def cfTconst (c : Block) : Nat := fieldAt c 16 19 0
def cfDtFall (c : Block) : Nat := fieldAt c 0x14 25 16
def cfDtRise (c : Block) : Nat := fieldAt c 0x14 9 0
def cfK (c : Block) : Nat := fieldAt c 0x18 3 0 + 1
def cfSlot (c : Block) : Fin 1024 := Fin.ofNat 1024 (fieldAt c 0x1C 25 16)
def cfAllowStale (c : Block) : Bool := bitAt c 0x1C 0
def cfSample (c : Block) : Int := intAt c 0x20
def cfAvgN (c : Block) : Nat := fieldAt c 0x24 27 24 + 1
def cfAvgStep (c : Block) : Nat := fieldAt c 0x24 19 0
def cfShunt (c : Block) : Nat := natAt c 0x28
def cfGain (c : Block) : Nat := fieldAt c 0x2C 2 0
def cfRecInterval (c : Block) : Nat := natAt64 c 0x30

/-- FIXED carriers are 0 to 2 (R41). -/
def cfFixed (c : Block) : Bool := decide (cfCarrier c ≤ 2)

/-- P_lo of R66. -/
def cfPlo (c : Block) : Nat := if cfFixed c then cfPeriod c else cfPmin c

/-- SHUNT lies in its range (CK18, R513). -/
def cfShuntOk (c : Block) : Bool := decide (100 ≤ cfShunt c) && decide (cfShunt c ≤ 10000000)

/-- G x SHUNT of the selected range (R79, R80). -/
def cfScale (c : Block) : Nat := 2 ^ cfGain c * cfShunt c

/-- Full scale of the selected range is 1.28e12 / (G x SHUNT) µA: a magnitude is within it (R80). -/
def withinFs (scale : Nat) (i : Nat) : Bool := decide (i * scale ≤ 1280000000000)

/-- Words of CH_CONFIG with their reserved bits (R64, R79, R367). -/
def cfReserved : List (Nat × Nat) :=
  [(0, 0xFF0000E8), (4, 0xFFF00000), (8, 0xFFF00000), (12, 0xFFF00000), (16, 0xFFF00000), (0x14, 0xFC00FC00),
   (0x18, 0xFFFFFFF0), (0x1C, 0xFC00FFFE), (0x24, 0xF0F00000), (0x2C, 0xFFFFFFF8), (0x38, 0xFFFFFFFF), (0x3C, 0xFFFFFFFF)]

/-! ### Hard limits (R351) -/

def hlVmax (h : Block) : Int := intAt h 0
def hlVmin (h : Block) : Int := intAt h 4
def hlIchg (h : Block) : Nat := natAt h 8
def hlIdis (h : Block) : Nat := natAt h 12
def hlDuty (h : Block) : Nat := natAt h 16
def hlMinOff (h : Block) : Nat := fieldAt h 0x14 19 0
def hlToff (h : Block) : Int := signed 16 (fieldAt h 0x18 31 16)
def hlTmax (h : Block) : Int := signed 16 (fieldAt h 0x18 15 0)
def hlTscale (h : Block) : Int := intAt h 0x1C
def hlTaux (h : Block) : Nat := fieldAt h 0x20 8 0

/-- The CRC of a record of `n` words in its last word (R351, R90). -/
def crcOk (n : Nat) (b : Block) : Bool := b.getD (n - 1) 0 == crcBlock (blockFit (n - 1) b)

/-- floor(DUTY_MAX x P) (R39). -/
def hlOnMax (h : Block) (p : Nat) : Nat := hlDuty h * p / 2 ^ 30

/-! ### Step entry (R133) -/

def stType (e : Block) : Nat := fieldAt e 0 7 0
def stCset (e : Block) : Nat := fieldAt e 0 17 16
def stPrimary (e : Block) : Nat := fieldAt e 0 23 20
/-- SET_A: signed, but for the resistance of CR_DIS, which R6 represents without a sign. -/
def stA (e : Block) : Int := if stType e = 8 then (natAt e 4 : Int) else intAt e 4
def stB (e : Block) : Int := intAt e 8
def stC (e : Block) : Int := intAt e 12
def stGvMax (e : Block) : Int := intAt e 0x10
def stGvMin (e : Block) : Int := intAt e 0x14
def stGiMax (e : Block) : Int := intAt e 0x18
def stGtMax (e : Block) : Int := signed 16 (fieldAt e 0x1C 15 0)
def cdKind (e : Block) (k : Nat) : Nat := fieldAt e (0x20 + 8 * k) 3 0
def cdAction (e : Block) (k : Nat) : Nat := fieldAt e (0x20 + 8 * k) 7 4
def cdWindow (e : Block) (k : Nat) : Nat := fieldAt e (0x20 + 8 * k) 15 8
def cdTarget (e : Block) (k : Nat) : Nat := fieldAt e (0x20 + 8 * k) 31 16
def cdValue (e : Block) (k : Nat) : Int := intAt e (0x24 + 8 * k)

/-- A power step is run by the Nib; the rest are control steps (R134). -/
def stPower (e : Block) : Bool := decide (stType e ≤ 10) || stType e == 13

/-- Step types by their codes (R134). -/
def tREST : Nat := 0
def tCVCHG : Nat := 3
def tPULSE : Nat := 9
def tOCV : Nat := 10
def tREPEAT : Nat := 11
def tBRANCH : Nat := 12
def tWAITSYNC : Nat := 13
def tEND : Nat := 14

/-! ### Coefficient set (R117) -/

def csFfEn (b : Block) : Bool := bitAt b 0 16
def csOuterShift (b : Block) : Nat := fieldAt b 0 11 8
def csInnerShift (b : Block) : Nat := fieldAt b 0 7 4
def csB0 (b : Block) : Int := intAt b 4
def csB1 (b : Block) : Int := intAt b 8
def csB2 (b : Block) : Int := intAt b 0xC
def csA1 (b : Block) : Int := intAt b 0x10
def csA2 (b : Block) : Int := intAt b 0x14
def csKp (b : Block) (j : Nat) : Int := intAt b (0x18 + 8 * j)
def csKi (b : Block) (j : Nat) : Int := intAt b (0x1C + 8 * j)
def csFfGain (b : Block) : Int := intAt b 0x30
def csDmin (b : Block) : Int := intAt b 0x34
def csDmax (b : Block) : Int := intAt b 0x38

/-! ### Calibration record (R90) -/

def calGain (b : Block) : Int := intAt b 0
def calOffset (b : Block) : Int := intAt b 4
def calShunt (b : Block) : Nat := natAt b 8
def calRefCode (b : Block) : Int := intAt b 12
def calStale (b : Block) : Bool := bitAt b 0x10 25
def calTemp (b : Block) : Int := signed 16 (fieldAt b 0x10 15 0)
def calQr (b : Block) : Nat := fieldAt b 0x10 23 16

/-- The record holds a calibration and its CRC is good (R90). -/
def calValid (b : Block) : Bool := bitAt b 0x10 24 && crcOk 8 b

end Sys2Proof.Machine
end

