-- ==== Sys2Proof/Machine/Ops.lean ====
section
/-! DEFINITION. Named operations over the state that several rows share: the BAR2 memory, the vectors of the state,
events, interrupts, DEV_STATE, the Quire's posts and outcomes, requests for checkpoints and records. -/

namespace Sys2Proof.Machine

/-- A delay of `n` cycles begins; one that runs begins anew. -/
def State.startTimer (k : Timer) (n : Nat) (s : State) : State :=
  { s with timers := s.timers.filter (fun e => e.1 != k) ++ [(k, s.now + n)] }

/-- The delay is over, or does not run. -/
def State.ranOut (k : Timer) (s : State) : Bool := s.timers.all fun e => e.1 != k || decide (e.2 ≤ s.now)

/-! ### BAR2 memory (R343) -/

/-- Read one byte of the rings. (DESIGN CHOICE, log 4) -/
def memRead (a : Nat) : Memory → Byte
  | [] => memDefault
  | (b, x) :: m => if a = b then x else if a < b then memDefault else memRead a m

/-- Write one byte, keeping the canonical form. -/
def memWrite (a : Nat) (v : Byte) : Memory → Memory
  | [] => if v = memDefault then [] else [(a, v)]
  | (b, x) :: m =>
    if a < b then (if v = memDefault then (b, x) :: m else (a, v) :: (b, x) :: m)
    else if a = b then (if v = memDefault then m else (a, v) :: m)
    else (b, x) :: memWrite a v m

/-- Write bytes from address `a` upward. -/
def memWriteBytes (a : Nat) : List Byte → Memory → Memory
  | [], m => m
  | v :: vs, m => memWriteBytes (a + 1) vs (memWrite a v m)

/-- Bytes read from address `a` upward. -/
def memReadBytes (a n : Nat) (m : Memory) : List Byte := (List.range n).map fun i => memRead (a + i) m

/-- Words read from address `a` upward. -/
def memReadWords (a n : Nat) (m : Memory) : Block :=
  (List.range n).map fun i => bytesWord (memReadBytes (a + 4 * i) 4 m)

/-- The implemented part of BAR2 (R343). -/
def ringBytes : Nat := 0x20000

/-- Slot of count c of a mailbox's command ring and response ring (R342, R343). -/
def cmdSlot (k : Fin 8) (c : BitVec 16) : Nat := 0x4000 * k.val + 256 * (c.toNat % 32)
def rspSlot (k : Fin 8) (c : BitVec 16) : Nat := 0x4000 * k.val + 0x2000 + 256 * (c.toNat % 32)

/-! ### Access to the vectors -/

def State.ch (s : State) (n : Fin 256) : Channel := vget s.chan n
def State.setCh (n : Fin 256) (c : Channel) (s : State) : State := { s with chan := vset s.chan n c }
def State.updCh (n : Fin 256) (f : Channel → Channel) (s : State) : State := s.setCh n (f (s.ch n))

def State.grp (s : State) (g : Fin 16) : Group := vget s.group g
def State.updGrp (g : Fin 16) (f : Group → Group) (s : State) : State := { s with group := vset s.group g (f (s.grp g)) }

def State.dieOf (s : State) (f : Fin 4) : Die := vget s.die f
def State.updDie (f : Fin 4) (h : Die → Die) (s : State) : State := { s with die := vset s.die f (h (s.dieOf f)) }

def State.unit (s : State) (u : Fin 32) : Pounce := vget s.pounce u
def State.updUnit (u : Fin 32) (h : Pounce → Pounce) (s : State) : State :=
  { s with pounce := vset s.pounce u (h (s.unit u)) }

def State.ax (s : State) (a : Fin 8) : Axis := vget s.axis a
def State.updAx (a : Fin 8) (h : Axis → Axis) (s : State) : State := { s with axis := vset s.axis a (h (s.ax a)) }

def State.slotOf (s : State) (k : Fin 1024) : Slot := vget s.slot k
def State.updSlot (k : Fin 1024) (h : Slot → Slot) (s : State) : State := { s with slot := vset s.slot k (h (s.slotOf k)) }

def State.mbox (s : State) (k : Fin 8) : Mailbox := vget s.host.mb k
def State.updMb (k : Fin 8) (h : Mailbox → Mailbox) (s : State) : State :=
  { s with host := { s.host with mb := vset s.host.mb k (h (s.mbox k)) } }

def State.port (s : State) (p : Fin 4) : Port := vget s.fab.port p
def State.updPort (p : Fin 4) (h : Port → Port) (s : State) : State :=
  { s with fab := { s.fab with port := vset s.fab.port p (h (s.port p)) } }

def State.nibOf (s : State) (k : Fin 20) : Nib := vget s.nibs.nib k
def State.updNib (k : Fin 20) (h : Nib → Nib) (s : State) : State :=
  { s with nibs := { s.nibs with nib := vset s.nibs.nib k (h (s.nibOf k)) } }

def State.stream (s : State) (k : Fin 4) : Stream := vget s.ink.streams k
def State.updStream (k : Fin 4) (h : Stream → Stream) (s : State) : State :=
  { s with ink := { s.ink with streams := vset s.ink.streams k (h (s.stream k)) } }

def State.chv (s : State) (n : Fin 256) : ChVellum := vget s.vel.ch n
def State.updChv (n : Fin 256) (h : ChVellum → ChVellum) (s : State) : State :=
  { s with vel := { s.vel with ch := vset s.vel.ch n (h (s.chv n)) } }

/-- Group, FE die and place within the die of a channel (R15). -/
def groupOf (n : Fin 256) : Fin 16 := ⟨n.val / 16, by omega⟩
def dieOfCh (n : Fin 256) : Fin 4 := ⟨n.val / 64, by omega⟩
def dieOfGroup (g : Fin 16) : Fin 4 := ⟨g.val / 4, by omega⟩

/-- Channels of a group, and all channels, ascending. -/
def groupChannels (g : Fin 16) : List (Fin 256) := (List.range 16).map fun i => Fin.ofNat 256 (16 * g.val + i)
def dieChannels (f : Fin 4) : List (Fin 256) := (List.range 64).map fun i => Fin.ofNat 256 (64 * f.val + i)
def allChannels : List (Fin 256) := List.finRange 256
def allAxes : List (Fin 8) := List.finRange 8
def allUnits : List (Fin 32) := List.finRange 32

/-- Fold a state operation over a list, in order. -/
def forAll {α : Type} (f : α → State → State) : List α → State → State
  | [], s => s
  | a :: l, s => forAll f l (f a s)

/-! ### State codes (R360, R280, R220, R131, R302, R405) -/

def ChState.code : ChState → Nat
  | .off => 0 | .configured => 1 | .armed => 2 | .running => 3 | .held => 4
  | .done => 5 | .tripped => 6 | .interrupted => 7 | .tune => 8 | .absent => 9

def ChState.ofCode : Nat → ChState
  | 0 => .off | 1 => .configured | 2 => .armed | 3 => .running | 4 => .held
  | 5 => .done | 6 => .tripped | 7 => .interrupted | 8 => .tune | _ => .absent

def AxState.code : AxState → Nat
  | .disabled => 0 | .idle => 1 | .homing => 2 | .moving => 3 | .reversing => 4 | .stopping => 5 | .standstill => 6
  | .fault => 7

def AcqState.code : AcqState → Nat
  | .idle => 0 | .configured => 1 | .armed => 2 | .triggered => 3 | .complete => 4 | .streaming => 5

def SlotState.code : SlotState → Nat
  | .empty => 0 | .loading => 1 | .loaded => 2 | .verified => 3 | .inUse => 4

def MState.code : MState → Nat
  | .starting => 0 | .unconfigured => 1 | .awaitAccept => 2 | .run => 3 | .safeFault => 4

def Servo.code : Servo → Nat
  | .free => 0 | .locking => 1 | .locked => 2 | .holdover => 3 | .master => 4

def authCode : Authority → Nat
  | .observe => 0 | .operate => 1 | .engineer => 2 | .safety => 3

def authOfCode : Nat → Authority
  | 0 => .observe | 1 => .operate | 2 => .engineer | _ => .safety

/-! ### Events (R432, R434): a raise joins the queue of raises; EVENT_RAISE passes them on -/

/-- Severities of R433. -/
def INFO : Nat := 0
def NOTICE : Nat := 1
def ALARM : Nat := 2
def FATAL : Nat := 3

/-- The event with the time of its raise (R432). -/
def State.event (s : State) (code sev source param : Nat) : Event :=
  { code := BitVec.ofNat 16 code, severity := sev, source := BitVec.ofNat 16 source, param := BitVec.ofNat 64 param,
    time := s.tb.time, era := s.tb.era }

/-- A block raises an event (R432). (DEDUCED, log 24) -/
def State.raise (code sev source param : Nat) (s : State) : State :=
  { s with blot := { s.blot with raised := s.blot.raised ++ [s.event code sev source param] } }

/-- A signed 32-bit or 16-bit value as it stands in a PARAM. -/
def p32 (i : Int) : Nat := (i % 2 ^ 32).toNat
def p16 (i : Int) : Nat := (i % 2 ^ 16).toNat

/-! ### Interrupts (R341) -/

/-- A word of the MSI-X table. The vector control word of each entry is masked after reset (PCIe; log 15). -/
def msixWord (t : List (Nat × Word)) (i : Nat) : Word :=
  match t.find? (fun e => e.1 == i) with
  | some e => e.2
  | none => if i % 4 = 3 then 1 else 0

/-- The endpoint sends a vector's message, or holds it pending while the vector is masked or the function is in D3hot (R459). (PRESUMED,
log 15) -/
def HostIf.message (h : HostIf) (v : Nat) : HostIf :=
  if h.txOff then h
  else if h.d3hot || bit (msixWord h.msix (4 * v + 3)) 0 then { h with pba := h.pba ||| w32 (2 ^ v) }
  else { h with sentIrq := h.sentIrq ++ [v] }

/-- Set a bit of IRQ_STAT; a 0-to-1 change of an enabled bit sends the message unless `quiet` (R341, R358). -/
def HostIf.irq (h : HostIf) (v : Nat) (quiet : Bool) : HostIf :=
  let h1 := { h with irqStat := h.irqStat ||| w32 (2 ^ v) }
  if !bit h.irqStat v && bit h.irqEn v && !quiet then h1.message v else h1

/-- Messages held pending whose vectors are not masked are sent: the function is back in D0. (PRESUMED, log 15) -/
def HostIf.sendHeld (h : HostIf) : HostIf :=
  (List.range 32).foldl (fun x v =>
    if bit h.pba v && !bit (msixWord h.msix (4 * v + 3)) 0 then { x with
      pba := x.pba &&& ~~~(w32 (2 ^ v))
      sentIrq := x.sentIrq ++ [v] } else x) h

/-- Vector `v` gets its cause. -/
def State.irq (v : Nat) (s : State) : State := { s with host := s.host.irq v false }

/-- An ignored access (R337). (DEDUCED, log 22) -/
def State.accessErr (s : State) : State := { s with host := { s.host with accessErr := satAdd s.host.accessErr 1 } }

/-! ### DEV_STATE (R338) -/

/-- The cores in the vote. (DEDUCED, log 27) -/
def Folio.voteMask (f : Folio) : Nat :=
  ((List.range 4).map fun i => if f.cores.getD i .retired = .vote then 2 ^ i else 0).foldl (· + ·) 0

/-- DEV_STATE. VOTE_MASK reads 0 until the Folio has taken a voting code (its reset value). -/
def State.devState (s : State) : Word :=
  w32 ((if s.folio.code < 2 then 0 else s.folio.voteMask) * 2 ^ 16 + s.folio.code * 2 ^ 8 + b2n s.folio.service * 16 + b2n s.folio.mbReady * 8
    + b2n s.folio.restored * 4)

/-- Vector 15 when a field of DEV_STATE changed from what it was in `o`. -/
def State.devIrq (o : State) (s : State) : State := if o.devState = s.devState then s else s.irq 15

/-- Replace the Folio, with vector 15 on a change of DEV_STATE. -/
def State.setFolio (f : Folio) (s : State) : State := State.devIrq s { s with folio := f }

/-! ### The Quire (06) -/

/-- Share of R181 a producer draws on: all Nibs one share. -/
def shareKey : Producer → Nat
  | .nib _ => 0
  | .mailbox k => 1 + k.val
  | .pounce u => 9 + u.val
  | .stroke => 41
  | .firmware => 42

/-- Size of the share for posts other than a mailbox's command entries (R181, R183). -/
def shareSize : Producer → Nat
  | .nib _ => 4096
  | .mailbox _ => 480
  | .pounce _ => 128
  | .stroke => 256
  | .firmware => 3840

/-- SOURCE of the events of R189. -/
def producerCode : Producer → Nat
  | .nib k => k.val
  | .mailbox k => 32 + k.val
  | .pounce u => 64 + u.val
  | .stroke => 128
  | .firmware => 129

def targetCode : QTarget → Nat
  | .ductus => 0 | .folio => 1 | .stroke => 2 | .inkwell => 3

/-- KIND (8 bits) of an item: meaningful to the target only, its codes are unstated (free value, log 14). -/
def Work.kind : Work → Nat
  | .mediated _ => (Config.unstated 1).toNat % 256
  | .preload _ => (Config.unstated 2).toNat % 256
  | .load _ _ _ => (Config.unstated 3).toNat % 256
  | .verifyPiece _ => (Config.unstated 4).toNat % 256
  | .command _ => (Config.unstated 5).toNat % 256
  | .delivery _ _ => (Config.unstated 6).toNat % 256
  | .other k => k % 256

/-- The mailbox's own command entries (R183) are always free for it. -/
def Work.isCommand : Work → Bool
  | .command _ => true
  | _ => false

/-- The item holds an entry of the table (R182: a held post does not). -/
def Item.live (i : Item) : Bool := i.state != .held

/-- Entries of a producer's share in use (R181). -/
def Quire.used (q : Quire) (p : Producer) : Nat :=
  (q.items.filter fun i => i.live && !i.work.isCommand && shareKey i.producer == shareKey p).length

/-- Entries of a mailbox in use, command entries included: MBk_STAT.ITEMS. -/
def Quire.mbItems (q : Quire) (k : Fin 8) : Nat :=
  (q.items.filter fun i => i.live && i.producer == .mailbox k).length

/-- ITEMS_USED and NIB_USED of R188. -/
def Quire.itemsUsed (q : Quire) : Nat := (q.items.filter Item.live).length
def Quire.nibUsed (q : Quire) : Nat := q.used (.nib 0)

/-- Entry indices in use. -/
def Quire.busy (q : Quire) : List Nat := (q.items.filter Item.live).map fun i => i.handle % 16384

/-- The index and generation of the next HANDLE: any free entry (R172 fixes no order; log 7). -/
def Quire.newHandle (q : Quire) : Nat :=
  let free := (List.range 16384).filter fun i => !q.busy.contains i
  let idx := free.getD (Config.itemStart q.nextUid % free.length) 0
  let gen := ((q.gens.find? fun e => e.1 == idx).map fun e => e.2).getD 0
  idx + 16384 * (gen % 4)

/-- The generation of an entry advances each time it is reused (R172). -/
def Quire.bumpGen (h : Nat) (gens : List (Nat × Nat)) : List (Nat × Nat) :=
  (h % 16384, (h / 16384 + 1) % 4) :: gens.filter fun e => e.1 != h % 16384

/-- Ticks counted for the delay lists: one in 2,500 TIME cycles; the 32-bit counter holds the count modulo 2^32 (R179). -/
def Quire.tick (q : Quire) (now : Nat) : Nat := (now - q.epoch) / 2500

/-- The head of a flow, when due, joins its ready list (R173). -/
def Quire.promote (flow : Nat) (q : Quire) : Quire :=
  match q.items.find? (fun i => i.live && i.flow == flow) with
  | some h =>
    if h.state = .waiting then
      { q with items := q.items.map fun i => if i.uid = h.uid then { i with state := .ready, readyNo := q.nextReady } else i,
               nextReady := q.nextReady + 1 }
    else q
  | none => q

/-- Put an acknowledged item at the end of its flow; the Nib of a mediated item gets its HANDLE (R171 to R173, R179). -/
def Quire.acknowledge (it : Item) (delay now : Nat) (q : Quire) : Quire :=
  let h := q.newHandle
  let it1 := { it with handle := h, due := q.tick now + delay, late := decide (0 < delay),
                       state := if delay = 0 then .waiting else .delayed }
  Quire.promote it.flow { q with
    items := q.items ++ [it1]
    gens := Quire.bumpGen h q.gens
    mediated := match it.work with
      | .mediated n => (n, h) :: q.mediated.filter fun x => x.1 != n
      | _ => q.mediated }

/-- A post of the producer's share is held (R182). -/
def Quire.holds (q : Quire) (p : Producer) : Bool := q.items.any fun i => !i.live && shareKey i.producer == shareKey p

/-- The channel whose transition or pre-load an item serves. -/
def Work.channel : Work → Option (Fin 256)
  | .mediated n => some n
  | .preload n => some n
  | _ => none

/-- A held post waits with its producer: a Nib's in the one-entry buffer of its channel, where a mediated item, which loads the
primary-next too, takes the place of a pre-load (R152, R184). (DEDUCED, log 39) -/
def Quire.buffer (it : Item) (q : Quire) : Quire :=
  match it.work.channel with
  | none => { q with items := q.items ++ [it] }
  | some n =>
    let mine (i : Item) : Bool := !i.live && i.work.channel == some n
    if (q.items.any fun i => mine i && i.work == .mediated n) && it.work == .preload n then q
    else { q with items := (q.items.filter fun i => !mine i) ++ [it] }

/-- A producer posts an item (R172, R182, R184): behind the share's held posts, when there are any. -/
def State.post (flow : Nat) (tgt : QTarget) (prio : Nat) (work : Work) (delay : Nat) (p : Producer) (s : State) : State :=
  let q := s.quire
  let it : Item := { uid := q.nextUid, flow := flow, target := tgt, prio := prio, work := work, due := delay, producer := p,
                     handle := 0, state := .held, readyNo := 0, requeued := false, block := 0 }
  let q1 := { q with nextUid := q.nextUid + 1 }
  if work.isCommand || (q.used p < shareSize p && !q.holds p) then { s with quire := q1.acknowledge it delay s.now }
  else
    let told := q.pressed.any fun r => shareKey r == shareKey p
    let s1 := { s with
      quire := { q1.buffer it with
        backpressure := satAdd q1.backpressure 1
        pressed := if told then q1.pressed else p :: q1.pressed } }
    let s2 := if told then s1
      else s1.raise 0x0601 NOTICE (producerCode p) (shareSize p + 2 ^ 16 * q.itemsUsed)
    match p, work with
    | .nib k, .mediated c => s2.raise 0x0602 ALARM k.val c.val
    | .nib k, .preload c => s2.raise 0x0602 ALARM k.val (c.val + 256)
    | _, _ => s2

/-- An entry becomes free: the item's outcome has been reported, and the flow's next item may become READY. The share has a free entry
again when it is below its size with no post of it held (R171, R182). -/
def Quire.remove (outcome : Nat) (uid : Nat) (q : Quire) : Quire :=
  match q.items.find? (fun i => i.uid == uid) with
  | none => q
  | some it =>
    let q1 : Quire := { q with
      items := q.items.filter fun i => i.uid != uid
      reports := q.reports ++ [{ flow := it.flow, handle := it.handle, outcome := outcome }] }
    let free := !q1.holds it.producer && decide (q1.used it.producer < shareSize it.producer)
    Quire.promote it.flow
      { q1 with pressed := if free then q.pressed.filter fun r => shareKey r != shareKey it.producer else q.pressed }

/-- The item that has become READY since `q`, of those posted with a DELAY, more than one tick after its due tick: it is counted
and reported (R180). -/
def State.tellLate (q : Quire) (s : State) : State :=
  let was (i : Item) : Bool := q.items.any fun j => j.uid == i.uid && j.state == .ready
  match s.quire.items.find? fun i => i.late && i.state == .ready && !was i && decide (i.due + 1 < s.quire.tick s.now) with
  | some i => ({ s with quire := { s.quire with delayLate := satAdd s.quire.delayLate 1 } } : State).raise 0x0605 NOTICE i.flow
      (i.handle + 2 ^ 32 * (s.quire.tick s.now - i.due))
  | none => s

/-- The item's outcome DONE. -/
def State.finish (uid : Nat) (s : State) : State := ({ s with quire := s.quire.remove 0 uid } : State).tellLate s.quire

/-- An item is DROPPED: removed, counted, reported by 0x0606 with the cause of R189 (R187). -/
def State.dropItem (cause : Nat) (it : Item) (s : State) : State :=
  (({ s with quire := { s.quire.remove 3 it.uid with dropped := satAdd s.quire.dropped 1 } } : State).raise 0x0606 ALARM it.flow
    (it.handle + 2 ^ 16 * targetCode it.target + 2 ^ 18 * cause)).tellLate s.quire

/-- A cancel that comes too late is counted and reported to its flow (R185, R186). -/
def State.tooLate (flow handle param : Nat) (s : State) : State :=
  ({ s with quire := { s.quire with
      tooLate := satAdd s.quire.tooLate 1
      reports := s.quire.reports ++ [{ flow := flow, handle := handle, outcome := 2 }] } } : State).raise 0x0604 INFO flow param

/-- Cancel the item of `flow` that HANDLE names (R185); `work` is what it was posted for. The answer tells whether the cancel won. A
dispatch is whole (QUIRE_DISPATCH), so the cancel meets the item either before it (CANCELLED) or after it (TOO_LATE): both winners
of R186 are orders of the rows. A HANDLE without an item in the table is stale. (DEDUCED, log 39) -/
def State.cancel (flow handle : Nat) (work : Work) (s : State) : Bool × State :=
  match s.quire.items.find? (fun i => i.live && i.handle == handle) with
  | none => (false, s.tooLate flow handle (handle + 2 ^ 16 * work.kind + 2 ^ 24))
  | some it =>
    if it.state = .inService then (false, s.tooLate it.flow handle (handle + 2 ^ 16 * it.work.kind))
    else
      (true, (({ s with quire := { s.quire.remove 1 it.uid with cancelled := satAdd s.quire.cancelled 1 } } : State).raise
        0x0603 INFO it.flow (it.handle + 2 ^ 16 * it.work.kind)).tellLate s.quire)

/-- Cancel the mediated item of a channel (R162): a post that is still held is withdrawn by its Nib, else the cancel names the HANDLE
of the latest one. (DEDUCED, log 39) -/
def State.cancelMediated (n : Fin 256) (s : State) : State :=
  if s.quire.items.any fun i => !i.live && i.work == .mediated n then
    { s with quire := { s.quire with items := s.quire.items.filter fun i => i.live || i.work != .mediated n } }
  else match s.quire.mediated.find? fun x => x.1 == n with
    | some (_, h) => (s.cancel n.val h (.mediated n)).2
    | none => s

/-- An item is handed to a block: its streak of R177, `higher` when it comes from a higher list while a lower one is non-empty. -/
def Quire.enter (it : Item) (block : Nat) (higher : Bool) (q : Quire) : Quire :=
  { q with
    items := q.items.map fun i => if i.uid = it.uid then { i with state := .inService, block := block } else i
    streak := vsetD q.streak (targetCode it.target) (if higher then vgetD q.streak (targetCode it.target) 0 + 1 else 0)
    dispatched := satAdd q.dispatched 1 }

/-- The lowest place of a target that serves no item. -/
def Quire.place (q : Quire) (t : QTarget) : Nat :=
  ((List.range 64).find? fun b => !q.items.any fun i => i.state == .inService && i.target == t && i.block == b).getD 0

/-- An item that the Folio posts for a command of mailbox `k` on another flow: posted, served and done while the command is carried
out (R170, R176, R181). Its KIND is unstated (log 14). (DEDUCED, log 39) -/
def Quire.pass (k : Fin 8) (now : Nat) (f : Nat × QTarget) (q : Quire) : Quire :=
  let it : Item := { uid := q.nextUid, flow := f.1, target := f.2, prio := 2, work := .other (Config.unstated 7).toNat, due := 0,
                     producer := .mailbox k, handle := 0, state := .held, readyNo := 0, requeued := false, block := 0 }
  let q1 := Quire.acknowledge it 0 now { q with nextUid := q.nextUid + 1 }
  (q1.enter it (q1.place f.2) false).remove 0 it.uid

/-- Posts of a mailbox's command that fit its share (R183). -/
def Quire.quotaFree (q : Quire) (k : Fin 8) : Nat := 480 - q.used (.mailbox k)

/-! ### Answers of mailbox commands (R344, R346, R356) -/

/-- A completed response joins the mailbox's responses, or is discarded after a PCIe hot reset (R356). (DEDUCED, log 28) -/
def State.respond (k : Fin 8) (r : Response) (s : State) : State :=
  let b := s.mbox k
  if b.discard = 0 then s.updMb k fun b => { b with done := b.done ++ [r] }
  else (s.updMb k fun b => { b with discard := b.discard - 1, lost := satAdd b.lost 1 }).raise 0x0C06 NOTICE k.val (satAdd b.lost 1)

/-- A command in flight at a reset of reach C receives no response (R30): it is marked in its reserved header field, which is 0 in
every command that passed R346. (DEDUCED, log 28) -/
def orphan (m : MbCmd) : MbCmd := { m with rsvd := 1 }

/-- The item of a command whose response has been discarded ends (R174, R356). -/
def State.dropKept (k : Fin 8) (s : State) : State :=
  match (s.mbox k).kept with
  | some uid => (s.updMb k fun b => { b with kept := none }).finish uid
  | none => s

/-- The response of a command that held its mailbox: the mailbox goes on (R362). (DEDUCED, log 28) -/
def State.respondHeld (k : Fin 8) (r : Response) (s : State) : State :=
  if (s.mbox k).working = 0 then s
  else
    let t := (s.updMb k fun b => { b with working := b.working - 1 }).respond k r
    if (s.mbox k).discard = 0 then t else t.dropKept k

/-- The late response of a command that is not orphaned. -/
def State.respondLate (m : MbCmd) (r : Response) (s : State) : State := if m.rsvd ≠ 0 then s else s.respondHeld m.mb r

/-! ### Reaches (R444) -/

/-- The reach of a source: 0 W, 1 F, 2 C, 3 B. -/
def srcReach : ResetSrc → Nat
  | .powerOn => 0
  | .supplyW => 0
  | .supplyF => 1
  | .standbyExit => 1
  | .pfailSelf => 1
  | .resetN => 1
  | .testMode => 1
  | .ctlF => 1
  | .thermal => 1
  | .fabricF => 1
  | .refLoss => 1
  | .warmN => 2
  | .ctlC => 2
  | .watchdog => 2
  | .folioLoss => 2
  | .fabricC => 2
  | .pcie => 3

/-- A source of reach W or F is asserted. -/
def Reset.coverF (r : Reset) : Bool := r.sources.any fun x => decide (srcReach x ≤ 1)

/-- A source of reach C is asserted. -/
def Reset.coverC (r : Reset) : Bool := r.sources.any fun x => srcReach x == 2

/-- No traffic leaves for the host: the PCIe side is in its own reset, in D3hot, under a source of reach C still asserted, or in a wider
reset whose release has not come to the Folio (R30, R356, R446, R459). (DEDUCED, log 52) -/
def State.hostOut (s : State) : Bool :=
  s.host.pcieReset || s.host.d3hot || s.rst.coverC || decide (s.rst.stage < 11)

/-- A reset of the host interface acts on its own: its block is out of reset, and no reset of reach C or wider covers it (R446, R466). A
boot of the Folio, after its reset has ended, covers nothing. (DEDUCED, log 52) -/
def State.hostAlone (s : State) : Bool :=
  !s.host.pcieReset && s.rst.flushing.isNone && !s.rst.coverC && !s.rst.coverF

end Sys2Proof.Machine
end

