-- ==== Sys2Proof/Machine/Records.lean ====
section
/-! DEFINITION. Records on their way to the Inkwell store: the producers' buffers (R260), SYSTEM records (R255), the rendered
record (R245), pages (R257), owing (R265). -/

namespace Sys2Proof.Machine

/-- Record types of R245. -/
def tPERIODIC : Nat := 1
def tSTEP : Nat := 2
def tCAPTURE : Nat := 3
def tEVENT : Nat := 4
def tSYSTEM : Nat := 5
def tRESUME : Nat := 6

/-- The producer whose buffer a record waits in: a channel, a unit, the Blotter, the controller itself (R260). -/
def Rec.producer (r : Rec) : Nat :=
  if r.typ = tCAPTURE then 256 + r.source else if r.typ = tEVENT then 288 else if r.typ = tSYSTEM then 289 else r.source

/-- A SYSTEM record of the controller (R255): KIND and the words from 0x14 on. -/
def State.sysRec (s : State) (kind : Nat) (words : Block) : Rec :=
  { typ := tSYSTEM, source := 0, era := s.tb.era, time := s.tb.time, len := 6,
    body := blockFit 8 (w32 kind :: words) }

/-- The controller writes a SYSTEM record. -/
def State.system (kind : Nat) (words : Block) (s : State) : State :=
  { s with ink := { s.ink with waiting := s.ink.waiting ++ [s.sysRec kind words] } }

/-- The counts by type of a KIND 4 record, saturating at 0xFFFF (R255). -/
def dropCounts (l : List Rec) : Block :=
  let n := fun t => min (l.filter fun r => r.typ == t).length 0xFFFF
  [w32 (n 1 + 2 ^ 16 * n 2), w32 (n 3 + 2 ^ 16 * n 4), w32 (n 5 + 2 ^ 16 * n 6)]

/-- Records are dropped (R255 KIND 4, R270): counted, recorded and reported. -/
def State.dropped (reason first last : Nat) (l : List Rec) (s : State) : State :=
  let s1 : State := { s with
    ink := { s.ink with
      dropped := satAdd s.ink.dropped l.length
      dropIngest := if reason = 2 then satAdd s.ink.dropIngest l.length else s.ink.dropIngest } }
  (s1.system 4 ([w32 first, w32 last, w32 reason] ++ dropCounts l)).raise 0x0902 ALARM 0
    (l.length % 2 ^ 32 + 2 ^ 32 * reason)

/-- A producer hands a record to its buffer of eight; with the buffer full the record is dropped with reason 2 (R260). The
record had no SEQ: what the KIND 4 record names as first and last SEQ is unstated (log 14). -/
def State.record (r : Rec) (s : State) : State :=
  if r.typ ≠ tSYSTEM && 8 ≤ (s.ink.waiting.filter fun x => x.producer == r.producer).length then
    s.dropped 2 (Config.unstated 10).toNat (Config.unstated 11).toNat [r]
  else { s with ink := { s.ink with waiting := s.ink.waiting ++ [r] } }

/-- Bytes of a record (R245). -/
def Rec.bytes (r : Rec) : Nat := 8 * r.len

/-- The record as delivered: the header, the body, THIN in its place of a PERIODIC record (R245, R250), padding 0. -/
def Stored.words (x : Stored) : Block :=
  let r := x.rec_
  let body := if r.typ = tPERIODIC then lset r.body 11 (r.body.getD 11 0 + w32 (2 ^ 24 * x.thin)) else r.body
  [w32 (r.source * 2 ^ 24 + r.len * 2 ^ 16 + r.era % 256 * 2 ^ 8 + r.typ), w32 x.seq] ++ words64 r.time
    ++ blockFit (2 * r.len - 4) body

/-- Record pages: 2 × 466,033 − 2,048 (R257). -/
def storePages : Nat := 930018

/-- RECORD_PAGES and FREE_PAGES of R268. -/
def Inkwell.recordPages (k : Inkwell) : Nat := storePages - k.retired.length
def Inkwell.usedPages (k : Inkwell) : List Nat := (k.store.map fun x => x.page).eraseDups
def Inkwell.freePages (k : Inkwell) : Nat := k.recordPages - k.usedPages.length

/-- The oldest SEQ held (0 with none held; R268). -/
def Inkwell.oldest (k : Inkwell) : Nat :=
  match k.store with
  | x :: _ => x.seq
  | [] => 0

/-- The next page that is neither retired nor holds a record, from `p` upward. -/
def Inkwell.findPage (k : Inkwell) : Nat → Nat → Option Nat
  | 0, _ => none
  | fuel + 1, p =>
    let q := p % storePages
    if k.retired.contains q || (k.usedPages).contains q then k.findPage fuel (q + 1) else some q

/-- A stream goes back to its first unacknowledged record; the buffer that it was filling is taken anew (R261). (DEDUCED, log 38) -/
def Stream.rewind (st : Stream) : Stream :=
  { st with
    sent := none
    buf := none
    ringHead := if st.buf.isSome then (st.ringHead + 65535) % 65536 else st.ringHead }

/-- A stream selects a record (R262). -/
def Stream.selects (st : Stream) (r : Rec) : Bool :=
  st.typeMask.testBit r.typ &&
    (if r.typ = tCAPTURE then st.unitMask.testBit r.source
     else if r.typ = tEVENT || r.typ = tSYSTEM then true
     else st.groupMask.testBit (r.source / 16))

/-- The open streams that select a record (R265). -/
def State.owing (s : State) (r : Rec) : List Nat :=
  (List.range 4).filter fun i =>
    let st := vgetD s.ink.streams i {}
    st.open_ && st.selects r

/-- The store frees records that were owed and are owed no more (R265). -/
def Stored.ackBy (st upTo : Nat) (x : Stored) : Stored :=
  if x.owed.contains st && seqLe x.seq upTo then { x with owed := x.owed.filter fun i => i != st } else x

/-- Drop from the store what an acknowledgement freed. -/
def freeAcked (old new : List Stored) : List Stored :=
  (old.zip new).filterMap fun (a, b) => if b.owed.isEmpty && !a.owed.isEmpty then none else some b

/-- An ERA_STEP record for a time step (R255 KIND 2). -/
def State.eraStep (oldEra oldTime : Nat) (s : State) : State :=
  s.system 2 (w32 oldEra :: words64 oldTime)

end Sys2Proof.Machine
end

