-- ==== Sys2Proof/Machine/Wear.lean ====
section
/-! DEFINITION. The regions of the Vellum (R423), and the wear of its rows (R430, R431). -/

namespace Sys2Proof.Machine

/-! ### Regions, wear and rows (R422 to R431) -/

/-- First word and number of words of a region (R423), by its code. -/
def regionAt : Nat → Nat × Nat
  | 0 => (0x000000 / 8, 0x4000 / 8)
  | 1 => (0x004000 / 8, 0x8000 / 8)
  | 2 => (0x00C000 / 8, 0x2000 / 8)
  | 3 => (0x00E000 / 8, 0x2000 / 8)
  | 4 => (0x010000 / 8, 0x10000 / 8)
  | 5 => (0x020000 / 8, 0x20000 / 8)
  | 6 => (0x040000 / 8, 0x20000 / 8)
  | 7 => (0x060000 / 8, 0x100000 / 8)
  | 8 => (0x160000 / 8, 0x100000 / 8)
  | 9 => (0x260000 / 8, 0x1000 / 8)
  | _ => (0x261000 / 8, 0x40000 / 8)

/-- Region of a word, none for a reserved one. -/
def regionOf (index : Nat) : Option Nat :=
  (List.range 11).find? fun r => decide ((regionAt r).1 ≤ index) && decide (index < (regionAt r).1 + (regionAt r).2)

/-- Spare rows (R422), counts of R430 and R431. -/
def spareRows : Nat := 41
def wearAlarm : Nat := 5 * 10 ^ 13
def wearRetire : Nat := 9 * 10 ^ 13

/-- Spare rows left: VELLUM_ROWS_LEFT (R371). -/
def Vellum.rowsLeft (v : Vellum) : Nat := spareRows - v.retired.length

/-- The count of a row. -/
def Vellum.count (v : Vellum) (row : Nat) : Nat := ((v.wear.find? fun e => e.1 == row).map fun e => e.2).getD 0

def setCount (row k : Nat) (l : List (Nat × Nat)) : List (Nat × Nat) := (row, k) :: l.filter fun e => e.1 != row

/-- A row is retired into the lowest free spare, whose count starts with the 256 words that the copy writes (R430, R431). `cause` as in 0x0F06. (DEDUCED, log 50) -/
def State.retireRow (row cause : Nat) (s : State) : State :=
  if s.vel.rowsLeft = 0 then s.raise 0x0F07 ALARM 0 row
  else
    ({ s with
      vel := { s.vel with
        retired := s.vel.retired ++ [row]
        wear := setCount row 256 s.vel.wear
        wearHigh := s.vel.wearHigh.filter fun r => r != row
        correctedOnce := s.vel.correctedOnce.filter fun i => i / 256 != row } } : State).raise 0x0F06 NOTICE 0
      (row + 2 ^ 16 * (s.vel.rowsLeft - 1) + 2 ^ 32 * cause)

/-- `k` accesses of words of a row (R430, R431). (DEDUCED, log 50) -/
def State.wearRow (row k : Nat) (s : State) : State :=
  let old := s.vel.count row
  let new := old + k
  let s1 : State := { s with vel := { s.vel with wear := setCount row new s.vel.wear } }
  let s2 := if wearAlarm ≤ new && !s.vel.wearHigh.contains row then
      ({ s1 with vel := { s1.vel with wearHigh := row :: s1.vel.wearHigh } } : State).raise 0x0F08 NOTICE 0 (row + 2 ^ 16 * new)
    else s1
  if old < wearRetire && wearRetire ≤ new then s2.retireRow row 0 else s2

/-- A structure of a region is written, `k` words of it, in a row that the spec does not name: one of the region's (R10, R423, R430). Which
one is a free value, as the inner layout of the region is not given. (DESIGN CHOICE, log 50) -/
def State.persist (region k : Nat) (s : State) : State :=
  let (first, size) := regionAt region
  s.wearRow (first / 256 + (Config.unstated (100 + region)).toNat % (size / 256)) k

/-- A record of a channel in CALIB is written, 32 bytes (R90, R423). -/
def State.persistCal (n : Fin 256) (s : State) : State := s.wearRow (0x010000 / 2048 + n.val / 8) 4

end Sys2Proof.Machine
end

