-- ==== Sys2Proof/Machine/ChannelOps.lean ====
section
/-! DEFINITION. Operations on channels that several rows share: temperature and flags (R81, R96), reported accumulators
(R110), checkpoints (R195), PERIODIC and STEP records (R249 to R252), changes of state (R156, R192), trips (R56 to R60),
entry into RUNNING and TUNE (R101), the hardware ramp-down (R61). -/

namespace Sys2Proof.Machine

/-- The next number of the model's free counter. (DESIGN CHOICE, log 6) -/
def State.tickFree (s : State) : State := { s with rst := { s.rst with free := s.rst.free + 1 } }

/-! ### Readings -/

/-- The Nib that serves a group, 16 for GM (R17). -/
def State.servingNib (s : State) (g : Nat) : Option (Fin 20) :=
  (List.finRange 20).find? fun k => (s.nibOf k).role == .active && (s.nibOf k).group == some (Fin.ofNat 17 g)

/-- The hard-limit record of a channel with a good CRC. -/
def State.hlimOf (s : State) (n : Fin 256) : Option Block :=
  match (s.chv n).hlim with
  | some h => if crcOk 16 h then some h else none
  | none => none

/-- P_GRP_MAX of a group (R351), 100 µW. -/
def State.groupMax (s : State) (g : Fin 16) : Option Nat :=
  match (s.grp g).hlim with
  | some h => if crcOk 4 h then some (natAt h 0) else none
  | none => none

/-- An auxiliary input's converter has failed with no spare left (R93). -/
def Die.auxDead (d : Die) (i : Nat) : Bool := d.dead.contains (128 + i / 9)

/-- Channel temperature in 0.01 °C, none while invalid (R81, R93, R96). An input of another die is none of the channel's. -/
def State.tempOf (s : State) (n : Fin 256) : Option Int :=
  match s.hlimOf n with
  | none => none
  | some h =>
    let f := dieOfCh n
    let i := hlTaux h
    if i < 72 * f.val || 72 * f.val + 72 ≤ i then none
    else if (s.dieOf f).auxDead (i - 72 * f.val) then none
    else some (clampInt (-32767) 32767 (hlToff h + hlTscale h * vgetD (s.dieOf f).aux (i - 72 * f.val) 0 / 2 ^ 20))

/-- A temperature field: 0x8000 when invalid (R96). -/
def tField (t : Option Int) : Nat :=
  match t with
  | some x => p16 x
  | none => 0x8000

/-- The record of a set for voltage or a current range: valid, and for current with the configured SHUNT, which no CH_CONFIG
has changed since the record was made (R89, R90). -/
def Channel.recordIn (c : Channel) (set_ : List Block) (current : Bool) (range : Nat) : Option Block :=
  let b := set_.getD (if current then 1 + range else 0) []
  if calValid b && (!current || (calShunt b == cfShunt c.cfg && !c.meas.calLost.contains range)) then some b else none

/-- The set of calibration records a channel's FE die has read last: at its release from reset and after each CAL_COMMIT (R75). -/
def Meas.calRead (m : Meas) : List Block := m.calNext.getD m.cal

/-- The calibration record in use: voltage, or a current range (R75, R89, R90). -/
def State.calOf (s : State) (n : Fin 256) (current : Bool) (range : Nat) : Option Block :=
  (s.ch n).recordIn (s.ch n).meas.calRead current range

/-- The channel stores a CH_CONFIG block: current ranges whose record has another SHUNT count as absent from now on (R89), and
with SHUNT out of range no current value is held (R513). -/
def Channel.takeConfig (cfg : Block) (c : Channel) : Channel :=
  { c with
    cfg := cfg
    meas := { c.meas with
      iLast := if cfShuntOk cfg then c.meas.iLast else none
      calLost := (List.range 6).filter fun r => c.meas.calLost.contains r
        || (calValid (c.meas.calRead.getD (1 + r) []) && calShunt (c.meas.calRead.getD (1 + r) []) != cfShunt cfg) } }

/-- The temperature a channel reports: an ABSENT one reports the last held (R368). -/
def State.tempShown (s : State) (n : Fin 256) : Option Int :=
  if (s.ch n).state = .absent then (s.ch n).meas.tHeld else s.tempOf n

/-- The bus voltage a channel reports, as `State.tempShown`. -/
def State.busShown (s : State) (n : Fin 256) : Int :=
  if (s.ch n).state = .absent then (s.ch n).meas.busHeld else (s.grp (groupOf n)).bus

/-- The die temperature is more than 5 K from a record's CAL_TEMP (R81). -/
def drifted (temp : Int) (b : Block) : Bool := decide (500 < (temp - calTemp b).natAbs)

/-- MEAS_FLAGS (R81); the interval flags are given. With no input assigned T_INVALID and BUS_LOW read 1 as R96 and R97 set them, after
a reset too, where the Reset columns of R81 and R368 give 0. (DEDUCED, log 35) -/
def State.measFlags (s : State) (n : Fin 256) (ovrV ovrI busLow : Bool) : Nat :=
  let c := s.ch n
  let temp := (s.dieOf (dieOfCh n)).temp
  let v := s.calOf n false 0
  let i := s.calOf n true (cfGain c.cfg)
  let inUse (o : Option Block) (p : Block → Bool) := match o with
    | some b => p b
    | none => false
  b2n v.isNone + 2 * b2n (i.isNone || !cfShuntOk c.cfg) + 4 * b2n (inUse v calStale) + 8 * b2n (inUse i calStale)
    + 16 * b2n (inUse v (drifted temp) || inUse i (drifted temp)) + 32 * b2n ovrV + 64 * b2n ovrI
    + 128 * b2n (s.tempShown n).isNone + 256 * b2n busLow + 512 * b2n c.meas.convFault

/-- Reported accumulators, truncated toward zero: charge in nA·s, energy in µJ, times in ns (R110, R135). -/
def qRep (x : Int) : Int := divTrunc (x * 5) (64 * 10 ^ 6)
def eRep (x : Int) : Int := divTrunc (x * 5) (64 * 10 ^ 14)
def tickNs (t : Nat) : Nat := t * 5 / 64

/-- 1 ms in fine ticks. -/
def msTicks : Nat := 12800000

/-- Loop period K x P in fine ticks at the configured PERIOD, also where the pulse period varies (CON, COFF). (DESIGN CHOICE, log 32) -/
def loopTicks (c : Block) : Nat := cfK c * cfPeriod c

/-- Entry `i` of the recipe in a slot. -/
def Slot.step (sl : Slot) (i : Nat) : Option Block := (sl.steps.getD i none)

/-- The states in which a channel drives its outputs by its loop. -/
def ChState.active (st : ChState) : Bool := st == .running || st == .tune

/-! ### Checkpoints (R191 to R195) -/

/-- CLEAR_TO code of R195. -/
def clearCode : ChState → Nat
  | .configured => 1 | .armed => 2 | .done => 3 | _ => 0

/-- The low 32 and the high 8 bits of a 40-bit field. -/
def lo32 (x : Int) : Word := wInt x
def hi8 (x : Int) : Nat := (x / 2 ^ 32 % 256).toNat

/-- RCP_ID and RCP_CRC a checkpoint carries: the recipe's, or the restored copy's while R201 applies. -/
def State.ckptRecipe (s : State) (n : Fin 256) : Word × Word :=
  match (s.ch n).run.restored with
  | some (_, b) => (wordAt b 0x10, wordAt b 0x14)
  | none =>
    let sl := s.slotOf (cfSlot (s.ch n).cfg)
    (sl.rcpId, sl.crc)

/-- Words 0x04 to 0x38 of a checkpoint (R195); the time of the write is filled in by CHECKPOINT_WRITE. -/
def State.ckptWords (s : State) (n : Fin 256) (cause : Nat) : Block :=
  let c := s.ch n
  let r := c.run
  let a := c.acc
  let (id, crc) := s.ckptRecipe n
  let st := a.st * 5 / 640000
  let q (x : Int) : Int := divTrunc (x * 5) (64 * 10 ^ 12)
  let e : Int := divTrunc (a.stepE * 5) (64 * 10 ^ 17)
  let vs : Nat := ((r.vStart.getD 0) % 2 ^ 22).toNat
  [w32 (c.state.code * 2 ^ 28 + cause * 2 ^ 24 + b2n r.trans.isSome * 2 ^ 23 + b2n r.runValid * 2 ^ 22
      + (cfSlot c.cfg).val * 2 ^ 12 + r.pos % 4096),
   0, w32 (c.tripCause.toNat % 256 * 2 ^ 24), id, crc, w32 st,
   w32 (st / 2 ^ 32 % 256 * 2 ^ 24 + clearCode c.clearTo * 2 ^ 22 + vs),
   lo32 (q a.stepQ), lo32 e, lo32 (q a.runQC), lo32 (q a.runQD),
   w32 (hi8 (q a.stepQ) * 2 ^ 24 + hi8 e * 2 ^ 16 + hi8 (q a.runQC) * 2 ^ 8 + hi8 (q a.runQD)),
   w32 (r.ctrs.getD 0 0 + 2 ^ 16 * r.ctrs.getD 1 0), w32 (r.ctrs.getD 2 0 + 2 ^ 16 * r.ctrs.getD 3 0)]

/-- A number behind those of every pending request. -/
def State.ckptNext (s : State) : Nat :=
  s.chan.foldl (fun a c => if c.ckptReq.isSome then max a (c.ckptAt + 1) else a) 0

/-- A takeover of the channel's group is under way: how long its gap has lasted so far, in ns (R218). -/
def State.gapNs (s : State) (n : Fin 256) : Nat :=
  match s.nibs.takeovers.find? fun t => t.group.val == (groupOf n).val with
  | some t => (s.now - t.since) * 4
  | none => 0

/-- The channel's Nib (or the takeover sequencer) requests a checkpoint, behind the requests that wait at its bank; a later request
supersedes a pending one in its place (R194). (DEDUCED, log 36) -/
def State.ckpt (n : Fin 256) (cause : Nat) (s : State) : State :=
  s.updCh n fun c => { c with
    ckptReq := some (s.ckptWords n cause)
    ckptAt := if c.ckptReq.isSome then c.ckptAt else s.ckptNext
    ckptGap := if cause = 3 then s.gapNs n else 0 }

/-- Vellum bank of a channel's checkpoint copies (R194). -/
def ckptBank (n : Fin 256) : Nat := n.val / 4 % 8

/-- The channel's pending checkpoint is the one that its bank serves: no other was requested before it; requests of one instant are
served by ascending channel (R194). (DEDUCED, log 36) -/
def State.ckptTurn (s : State) (n : Fin 256) : Bool :=
  (List.finRange 256).all fun j => j = n || ckptBank j != ckptBank n || (s.ch j).ckptReq.isNone
    || decide ((s.ch n).ckptAt < (s.ch j).ckptAt) || (decide ((s.ch n).ckptAt = (s.ch j).ckptAt) && decide (n < j))

/-- The newest good copy of a channel: which, its words (R193, R199). -/
def newestCopy (v : ChVellum) : Option (Nat × Block) :=
  match v.ckA, v.ckB with
  | .good a, .good b => if seqLe (natAt a 0) (natAt b 0) then some (1, b) else some (0, a)
  | .good a, _ => some (0, a)
  | _, .good b => some (1, b)
  | _, _ => none

/-- A checkpoint as it is written: SEQ, the content, the time of the write, the CRC (R195). (DEDUCED, log 36) -/
def State.ckptBlock (s : State) (seq : Nat) (w : Block) : Block :=
  let ms := s.tb.time / 1000000
  let b : Block := w32 seq :: w.getD 0 0 :: w32 ms
    :: (w.getD 2 0 ||| w32 (s.tb.era % 256 * 2 ^ 16 + ms / 2 ^ 32 % 2 ^ 16)) :: (blockFit 14 w).drop 3
  b ++ [crcBlock b]

/-- Words of a copy as the Vellum holds them. -/
def Copy.words : Copy → Block
  | .blank => List.replicate 16 0
  | .bad b => blockFit 16 b
  | .good b => blockFit 16 b

/-- A copy of which the first eighth parts have been rewritten and the rest not: its CRC fails (R191, R218). -/
def Copy.torn (k : Nat) (b : Block) (c : Copy) : Copy := .bad (b.take (2 * k) ++ c.words.drop (2 * k))

/-- The write of a checkpoint that a reset cuts off: one to seven of its eight words have been written (R218). (DESIGN CHOICE, log 36) -/
def State.tearCkpt (n : Fin 256) (s : State) : State :=
  match (s.ch n).ckptReq with
  | none => s
  | some w =>
    let k := 1 + Config.tornWords s.rst.free n.val % 7
    if !s.ckptTurn n then s
    else match newestCopy (s.chv n) with
      | some (0, a) => s.updChv n fun v => { v with ckB := v.ckB.torn k (s.ckptBlock ((natAt a 0 + 1) % 2 ^ 32) w) }
      | some (_, b) => s.updChv n fun v => { v with ckA := v.ckA.torn k (s.ckptBlock ((natAt b 0 + 1) % 2 ^ 32) w) }
      | none => s.updChv n fun v => { v with ckA := v.ckA.torn k (s.ckptBlock 1 w) }

/-- An unflushed reset tears the checkpoint under way in each bank (R218). -/
def State.tearCkpts (s : State) : State := (forAll State.tearCkpt (List.finRange 256) s).tickFree

/-! ### PERIODIC records (R249, R250) -/

/-- A channel in state `st` writes PERIODIC records. -/
def Inkwell.writes (k : Inkwell) : ChState → Bool
  | .running => true
  | .tune => true
  | .off => false
  | .absent => false
  | _ => k.periodicIdle

/-- The mean of an interval; with no value in it the record's word is unstated (log 14). -/
def meanOr (u : Nat) (sum : Int) (n : Nat) : Int := if n = 0 then Config.unstated u else mean sum n

/-- The PERIODIC record of the channel's running interval, which ends at time of day `time`. -/
def State.periodicRec (s : State) (n : Fin 256) (time : Nat) (partial_ : Bool) : Rec :=
  let c := s.ch n
  let m := c.meas
  let (v0, v1) := m.recRangeV.getD (Config.unstated 31, Config.unstated 32)
  let (i0, i1) := m.recRangeI.getD (Config.unstated 34, Config.unstated 35)
  let t := if m.recTempN = 0 then none else some (mean m.recTemp m.recTempN)
  let q := qRep c.acc.stepQ
  { typ := tPERIODIC, source := n.val, era := s.tb.era, time := time, len := 8,
    body := [wInt (meanOr 30 m.recSumV m.recN), wInt v0, wInt v1, wInt (meanOr 33 m.recSumI m.recNI), wInt i0, wInt i1]
      ++ words64Int q ++ [w32 (tickNs c.acc.st / 1000000), wInt (divTrunc (c.acc.stepE * 5) (64 * 10 ^ 17)),
        w32 (s.measFlags n m.recOvrV m.recOvrI (m.recBusLow || (s.grp (groupOf n)).busAux == 0x1FF) * 2 ^ 16 + tField t),
        w32 (c.state.code * 2 ^ 28 + b2n partial_ * 2 ^ 23 + b2n m.recStepChanged * 2 ^ 22 + b2n c.run.trans.isSome * 2 ^ 21
          + c.run.pos % 4096)] }

/-- A new record interval begins at time of day `from_`; it is a partial one when it does not begin at a boundary. -/
def Meas.newInterval (from_ : Nat) (partial_ : Bool) (m : Meas) : Meas :=
  { m with
    recFrom := from_
    recN := 0
    recSumV := 0
    recSumI := 0
    recNI := 0
    recRangeV := none
    recRangeI := none
    recTemp := 0
    recTempN := 0
    recOvrV := false
    recOvrI := false
    recBusLow := false
    recPartial := partial_
    recStepChanged := false }

/-- An interval that starts now: it is PARTIAL unless it starts at a boundary (R249). (DEDUCED, log 31) -/
def State.openInterval (n : Fin 256) (s : State) : State :=
  s.updCh n fun c => { c with meas := c.meas.newInterval s.tb.time (decide (s.tb.time % cfRecInterval c.cfg ≠ 0)) }

/-- The running interval is closed early (R249). (DEDUCED, log 31) -/
def State.closeInterval (n : Fin 256) (s : State) : State := (s.record (s.periodicRec n s.tb.time true)).openInterval n

/-- A channel that wrote PERIODIC records (`old`) and writes them from now on (`new`) or not (R249). (DEDUCED, log 31) -/
def State.rewrite (n : Fin 256) (old new : Bool) (s : State) : State :=
  if old && !new then s.closeInterval n
  else if !old && new then s.openInterval n
  else s

/-! ### Changes of state (R156) -/

/-- Channels that name a slot in a state other than OFF and ABSENT (R131, R166). -/
def State.slotUsers (s : State) (k : Fin 1024) : Nat :=
  (allChannels.filter fun n => cfSlot (s.ch n).cfg == k && (s.ch n).state != .off && (s.ch n).state != .absent).length

/-- A command changes a slot that an RCP_VERIFY works on (R165). -/
def State.spoil (k : Fin 1024) (s : State) : State :=
  let code := (s.slotOf k).state.code
  { s with
    host := { s.host with
      mb := s.host.mb.map fun b => match b.verify with
        | some v => if v.slot = k then { b with verify := some { v with spoiled := some code } } else b
        | none => b } }

/-- A slot's state code changes, which raises 0x0509 with the slot's RCP_ID before the change, and ends an RCP_VERIFY that works on
it (R131, R165, R168). (DESIGN CHOICE, log 45, for the RCP_ID of a slot that becomes EMPTY) -/
def State.setSlot (k : Fin 1024) (st : SlotState) (s : State) : State :=
  if (s.slotOf k).state = st then s
  else ((s.updSlot k fun x => { x with state := st }).spoil k).raise 0x0509 INFO k.val
    (st.code + 2 ^ 32 * (s.slotOf k).rcpId.toNat)

/-- A verified slot is IN_USE while a channel uses it (R131). -/
def State.refreshSlot (k : Fin 1024) (s : State) : State :=
  if (s.slotOf k).state = .verified || (s.slotOf k).state = .inUse then
    s.setSlot k (if s.slotUsers k = 0 then .verified else .inUse)
  else s

/-- Armed units see a channel's change of state (R225). -/
def Pounce.sees (n code : Nat) (p : Pounce) : Pounce :=
  if p.state = .armed || p.state = .triggered || p.state = .streaming then
    { p with seen := { p.seen with states := p.seen.states ++ [(n, code)] } }
  else p

/-- A capture that runs ends early (R127, R128, R242): nothing is kept before its trigger. -/
def Pounce.cut (aborted : Bool) (p : Pounce) : Pounce :=
  if p.state = .armed then { p with
    state := .configured
    pages := 0
    ring := [] }
  else if p.state = .triggered then { p with
    state := .complete
    stopped := p.stopped || !aborted
    aborted := p.aborted || aborted }
  else p

/-- A channel leaves TUNE: the unit held for it ends its capture and is free again (R242). -/
def Pounce.release (n : Fin 256) (p : Pounce) : Pounce :=
  if p.holder = some n then
    let q := p.cut false
    { q with holder := none }
  else p

/-- The channel takes a state; in ABSENT the last temperature and bus voltage stay (R368). -/
def Channel.enter (st : ChState) (temp : Option Int) (bus : Int) (c : Channel) : Channel :=
  { c with
    state := st
    meas := if st = .absent then { c.meas with
        tHeld := temp
        busHeld := bus }
      else c.meas }

/-- The Pounce units see a channel's change of state, and one held for its TUNE is free when that ends (R225, R242). -/
def State.tellUnits (n : Fin 256) (old st : ChState) (s : State) : State :=
  let seen := s.pounce.map (Pounce.sees n.val st.code)
  { s with pounce := if old = .tune then seen.map (Pounce.release n) else seen }

/-- The channel's state becomes `st`: slot, units and record intervals follow. No checkpoint is requested here. -/
def State.become (n : Fin 256) (st : ChState) (s : State) : State :=
  let old := (s.ch n).state
  if old = st then s
  else
    let s1 := (s.updCh n (Channel.enter st (s.tempOf n) (s.grp (groupOf n)).bus)).tellUnits n old st
    let s2 := s1.rewrite n (s.ink.writes old) (s.ink.writes st)
    let used (x : ChState) : Bool := x != .off && x != .absent
    if used old == used st then s2 else s2.refreshSlot (cfSlot (s.ch n).cfg)

/-- A change of state with its STATE checkpoint (R192). -/
def State.toState (n : Fin 256) (st : ChState) (s : State) : State :=
  if (s.ch n).state = st then s else (s.become n st).ckpt n 2

/-! ### Trips (R54 to R60) -/

/-- TRIP_CFG enables input `k` of a die: EN set, no reserved bit, FILTER not 0b11 (R55). -/
def tripEnabled (cfg : Word) (k : Nat) : Bool :=
  bit cfg (4 * k) && !bit cfg (4 * k + 3) && bits cfg (4 * k + 2) (4 * k + 1) != 3

/-- Active TRIP inputs of a die: filtered level high and enabled. -/
def Die.activePins (d : Die) : Nat :=
  ((List.range 8).filter fun k => d.tripLevel.getLsbD k && tripEnabled d.tripCfg k).foldl (fun a k => a + 2 ^ k) 0

/-- The comparisons of R56 on a voltage and a current value. -/
def limitCauses (h : Block) (v : Option Int) (i : Option Int) : Nat :=
  (match v with
    | some v => 2 * b2n (decide (hlVmax h < v)) + 4 * b2n (decide (v < hlVmin h))
    | none => 0)
  + (match i with
    | some i => 8 * b2n (decide ((hlIchg h : Int) < i)) + 16 * b2n (decide (i < -(hlIdis h : Int)))
    | none => 0)

/-- The temperature comparison of R56; 0x7FFF disables it (R96). -/
def tempCause (h : Block) (t : Option Int) : Nat :=
  match t with
  | some t => 32 * b2n (hlTmax h != 0x7FFF && decide (hlTmax h < t))
  | none => 0

/-- The group's latest 1 ms power exceeds its limit (R56, R59). -/
def State.groupOver (s : State) (g : Fin 16) : Bool :=
  match s.groupMax g with
  | some p => decide (p * 10 ^ 7 < (s.grp g).power)
  | none => false

/-- The trip causes that are active now (R59): bits of TRIP_CAUSE. -/
def State.activeCauses (s : State) (n : Fin 256) : Nat :=
  let c := s.ch n
  let pins := (s.dieOf (dieOfCh n)).activePins &&& cfTripSel c.cfg
  b2n (pins != 0)
    + (match s.hlimOf n with
      | some h => limitCauses h (some c.meas.vLast) c.meas.iLast + tempCause h (s.tempOf n)
      | none => 0)
    + 64 * b2n (s.groupOver (groupOf n)) + 128 * b2n (s.grp (groupOf n)).released

/-- Causes present at the moment of a trip: GROUP_POWER trips RUNNING and TUNE channels only (R56). (DEDUCED, log 26) -/
def State.presentCauses (s : State) (n : Fin 256) : Nat :=
  let a := s.activeCauses n
  if (s.ch n).state.active then a else a - (a &&& 64)

/-- PARAM of 0x0201. -/
def State.tripParam (s : State) (n : Fin 256) (cause : Nat) : Nat :=
  cause + 2 ^ 16 * (s.dieOf (dieOfCh n)).activePins

/-- TUNE ends early: injection and estimate are kept (R128). `why` 0 trip, 1 takeover. -/
def State.abortTune (n : Fin 256) (why : Nat) (s : State) : State :=
  match (s.ch n).tune with
  | some t =>
    if (s.ch n).state = .tune && (why == 0 || !t.aborted) then
      let u : State := { s with pounce := s.pounce.map fun p => if p.holder = some n then p.cut true else p }
      (u.updCh n fun c => { c with
        tune := some { t with
          aborted := true
          injecting := false }
        loop := { c.loop with inj := 0 } }).raise 0x0407 NOTICE n.val (why + 2 ^ 32 * t.n)
    else s
  | none => s

/-- CLEAR_TO for a trip in the channel's present state (R59). -/
def Channel.clearOf (c : Channel) : ChState :=
  match c.state with
  | .running => .held
  | .tune => match c.tune with
    | some t => t.from_
    | none => .held
  | st => st

/-- Both gates are low at once, with the ramp-down ended (R34, R53, R61). -/
def Drive.low (d : Drive) : Drive :=
  { d with
    driving := false
    ramp := none
    gates := none }

/-- A trip with the causes `m` (R56 to R58, R128, R160). (DEDUCED, log 26) -/
def State.trip (n : Fin 256) (m : Nat) (s : State) : State :=
  let c := s.ch n
  match c.state with
  | .off => s
  | .absent => s
  | .tripped => s.updCh n fun c => { c with tripCause := c.tripCause ||| BitVec.ofNat 16 m }
  | .interrupted =>
    let new := c.tripCause ||| BitVec.ofNat 16 m
    if new = c.tripCause then s
    else (s.updCh n fun c => { c with
      tripCause := new
      drive := c.drive.low }).raise 0x0201 ALARM n.val (s.tripParam n new.toNat)
  | _ =>
    let cause := c.tripCause ||| BitVec.ofNat 16 (m ||| s.presentCauses n)
    let s1 := (s.abortTune n 0).updCh n fun c => { c with
      tripCause := cause
      clearTo := c.clearOf
      drive := c.drive.low
      run := { c.run with startAt := none } }
    (s1.toState n .tripped).raise 0x0201 ALARM n.val (s.tripParam n cause.toNat)

/-- Trip detection starts on a channel that has left OFF or ABSENT since `o`: an active input that it selects trips it (R54, R58).
(DEDUCED, log 26) -/
def State.watchPins (o : State) (n : Fin 256) (s : State) : State :=
  if ((o.ch n).state == .off || (o.ch n).state == .absent) && (s.dieOf (dieOfCh n)).activePins &&& cfTripSel (s.ch n).cfg != 0 then s.trip n 1
  else s

/-! ### STEP records (R155, R251, R252) -/

/-- All ones, the reading of a value that is not formed. -/
def allOnes : Word := 0xFFFFFFFF#32

/-- The means of the OCV span and the slope between its first and last complete slices (R145): the loop samples of the
last AVG_MS, the slices that lie in them. -/
def Channel.ocvWords (c : Channel) : Block :=
  let avg := fieldAt (c.run.cur.getD []) 12 15 0
  let span := c.run.ocv.filter fun x => c.acc.st < x.1 + avg * msTicks
  let v := meanOr 36 (span.foldl (fun a x => a + x.2) 0) span.length
  let first := c.meas.loopTick - avg * msTicks
  let m0 := c.meas.loopTick / msTicks
  let inSpan := ((List.range c.run.slices.length).zip c.run.slices).filter fun x =>
    decide (0 < x.2.2) && decide (first ≤ (m0 - 1 - x.1) * msTicks)
  let slope : Int := match inSpan.head?, inSpan.getLast? with
    | some (a, sa, na), some (b, sb, nb) =>
      if a < b then divTrunc ((sa * nb - sb * na) * 10000) (na * nb * (b - a)) else Config.unstated 37
    | _, _ => Config.unstated 37
  [wInt v, wInt slope]

/-- The SPECIFIC area (R252). -/
def Channel.specific (c : Channel) (lateness : Option Nat) : Block :=
  let ty := stType (c.run.cur.getD [])
  let own : Block :=
    if ty = 4 || ty = 5 then
      match c.run.crossover with
      | some (t, q) => words64 (tickNs t) ++ words64Int (qRep q)
      | none => []
    else if ty = tPULSE then
      match c.run.pulseLast with
      | some (v0, v1, i0, i1) =>
        [wInt v0, wInt v1, wInt i0, wInt i1,
          if i0 = i1 then allOnes else wInt (divFreeS ((v0 - v1) * 10000000) (i0 - i1))]
      | none => []
    else if ty = tOCV then c.ocvWords
    else if ty = tWAITSYNC then
      match lateness with
      | some l => words64 l
      | none => []
    else []
  own ++ List.replicate (8 - own.length) allOnes

/-- How a step ended: next position, END_REASON, COND, ALSO_TRUE, PATH, LATENESS of a sync end and SYNC_LATE; the ERA at the instant
of its end, the present one when none is named. -/
structure StepEnd where
  next : Nat
  reason : Nat := 0
  cond : Nat := 15
  also : Nat := 0
  path : Nat := 0
  late : Option Nat := none
  syncLate : Bool := false
  era : Option Nat := none

/-- The STEP record at the end of the step in the Nib (R251); `time` as R155 says. -/
def State.stepRec (s : State) (n : Fin 256) (time : Nat) (x : StepEnd) : Rec :=
  let c := s.ch n
  let e := c.run.cur.getD []
  { typ := tSTEP, source := n.val, era := x.era.getD s.tb.era, time := time, len := 12,
    body := [w32 (x.next % 65536 * 2 ^ 16 + c.run.idx),
        w32 (b2n x.syncLate * 2 ^ 21 + x.path * 2 ^ 20 + x.also * 2 ^ 16 + x.cond * 2 ^ 12 + x.reason * 2 ^ 10
          + stCset e * 2 ^ 8 + stType e)]
      ++ words64 (tickNs c.acc.st) ++ words64Int (qRep c.acc.stepQ) ++ words64Int (eRep c.acc.stepE)
      ++ [match c.run.vStart with
          | some v => wInt v
          | none => wInt (Config.unstated 39),
        wInt c.meas.loopV, wInt c.meas.loopI, w32 (tField (s.tempOf n))]
      ++ c.specific x.late }

/-- What the next step finds at a step boundary: ST, step accumulators and the step's own values start again (R110, R135). -/
def Channel.freshStep (c : Channel) : Channel :=
  { c with
    acc := { c.acc with
      st := 0
      stepQ := 0
      stepE := 0 }
    meas := { c.meas with recStepChanged := true }
    run := { c.run with
      vStart := none
      slices := []
      slice := none
      sliceFrom := c.meas.loopTick / msTicks
      crossover := none
      pulseBase := none
      pulseLast := none
      ocv := []
      tInvSeen := false
      stepRan := false } }

/-! ### Outer loop limits and entry into RUNNING or TUNE (R101, R102, R104) -/

/-- The outer loop of a mode: lo and hi in Q2.30, none where there is no outer loop. -/
def outerLimits (mode : Nat) (charge : Bool) (ilim : Int) (scale : Nat) : Option (Int × Int) :=
  if mode = 0 || mode = 4 then none
  else if mode = 3 || !charge then some (-(normI scale ilim), 0)
  else some (0, normI scale ilim)

/-- Mode of a step type: 0 CC, 1 CV, 2 CP, 3 CR (R134). -/
def stMode (ty : Nat) : Nat :=
  if ty = 3 || ty = 4 || ty = 5 then 1 else if ty = 6 || ty = 7 then 2 else if ty = 8 then 3 else 0

/-- Charge direction of a step type. -/
def stCharge (ty : Nat) : Bool := ty == 3 || ty == 4 || ty == 6

/-- The limits of a step's outer loop. -/
def stLimits (e : Block) (scale : Nat) : Option (Int × Int) :=
  outerLimits (stMode (stType e)) (stCharge (stType e)) (stB e) scale

/-- The outer integrator set to the normalised current, clamped to the limits of the outer loop (R101, R102). -/
def startInteg (lim : Option (Int × Int)) (scale : Nat) (i : Int) : Int :=
  match lim with
  | some (lo, hi) => clampInt lo hi (normI scale i)
  | none => normI scale i

/-- Bus voltage used by feed-forward and the ramp-down: at least 1.00 V (R97). -/
def busFloored (bus : Int) : Int := if bus < 100000 then 100000 else bus

/-- Feed-forward term (R105). -/
def feedFwd (cs : Block) (v bus : Int) : Int :=
  if csFfEn cs then sat (divRound (csFfGain cs * v) (busFloored bus).toNat) else 0

/-- The period-duty word of a duty (R38, R108). -/
def wordOf (cfg : Block) (d : Int) : Nat × Nat :=
  let lim (p : Int) : Nat := (clampInt (cfPmin cfg) (cfPmax cfg) p).toNat
  if cfFixed cfg then ((divRound (d * cfPeriod cfg) (2 ^ 30)).toNat, cfPeriod cfg)
  else if cfCarrier cfg = 3 then
    (cfTconst cfg, if d ≤ 0 then cfPmax cfg else lim (divRound (cfTconst cfg * 2 ^ 30) d.toNat))
  else
    let p := if qOne ≤ d then cfPmax cfg else lim (divRound (cfTconst cfg * 2 ^ 30) (qOne - d).toNat)
    (p - cfTconst cfg, p)

/-- CLAIM, ON and PERIOD in their places (R38). -/
def packWord (claim on period : Nat) : BitVec 64 :=
  BitVec.ofNat 64 (claim % 16 * 2 ^ 60 + on % 2 ^ 20 * 2 ^ 20 + period % 2 ^ 20)

/-- The capture point lies 40 coarse ticks, 1,280 fine ticks, before its reload boundary (R45). -/
def captureLead : Nat := 1280

/-- 2.78 µs, the bound from S to the word held (R25, R48), in fine ticks. -/
def pathTicks : Nat := 35584

/-- Reading of the phase reference: fine ticks of 5/64 ns since the release of the FE dies (R44). -/
def State.phase (s : State) : Nat :=
  match s.rst.phaseAt with
  | some t => (s.now - t) * 256 / 5
  | none => 0

/-- The samples of channel `n` that its Nib has accepted and not evaluated are dropped. -/
def State.dropSamples (n : Fin 256) (s : State) : State :=
  s.updGrp (groupOf n) fun g => { g with accepted := g.accepted.filter fun x => x.1 != n }

/-- Periods latched since pay for those assumed: corrections (difference, v, i), windows still owed, periods left (R110). -/
def payDebts : List (Nat × Nat × Int × Int) → List Nat → List (Int × Int × Int) × List (Nat × Nat × Int × Int) × List Nat
  | [], ps => ([], [], ps)
  | (k, a, v, i) :: ds, ps =>
    let adj := (ps.take k).map fun p => ((p : Int) - a, v, i)
    if ps.length < k then (adj, (k - ps.length, a, v, i) :: ds, [])
    else
      let (r, d, q) := payDebts ds (ps.drop k)
      (adj ++ r, d, q)

/-- The first instant at or after `t` that lies `off` past a multiple of `p` on the phase reference (R43). -/
def staggerAt (p off t : Nat) : Nat := if p = 0 then t else t + (off % p + p - t % p) % p

/-- Start of the first period of a channel that enters RUNNING or TUNE when the phase reference reads `t`: the first stagger
instant whose capture point comes after the start word's handshake (R43, R101). (DEDUCED, log 57) -/
def firstBoundary (cfg : Block) (t : Nat) : Nat :=
  staggerAt (cfPeriod cfg) (cfStagger cfg * cfPeriod cfg / 256) (t + captureLead + 1)

/-- The coefficient set a step names. -/
def Channel.setOf (c : Channel) (k : Nat) : Block := (c.sets.getD k none).getD []

/-- Loop state at the entry into RUNNING or TUNE, and the start word (R101). The loop runs on the calibrated free-running
samples. -/
def State.enterLoop (n : Fin 256) (cset : Nat) (lim : Option (Int × Int)) (s : State) : State :=
  (s.dropSamples n).updCh n fun c =>
    let cs := c.setOf cset
    let i := c.meas.iLast.getD 0
    let ff := feedFwd cs c.meas.vLast (s.grp (groupOf n)).bus
    let d := clampInt (csDmin cs) (csDmax cs) (if csFfEn cs then ff else csDmin cs)
    let (on, p) := wordOf c.cfg d
    { c with
      loop := { c.loop with
        e1 := 0
        e2 := 0
        y1 := 0
        y2 := 0
        integ := startInteg lim (cfScale c.cfg) i
        innerPrev := false
        dLast := d
        inj := 0
        busFloor := c.loop.busFloor || (csFfEn cs && decide ((s.grp (groupOf n)).bus < 100000))
        arithSeen := false }
      meas := { c.meas with
        burst := []
        prevBurst := []
        holdDue := false }
      drive := { c.drive with
        heldWord := packWord 0 on p
        first := true
        ramp := none
        reload := firstBoundary c.cfg s.phase
        gates := none
        flights := []
        late := none
        overdue := 0
        periods := []
        debts := []
        owed := if c.run.hasRun then c.drive.owed ++ (payDebts c.drive.debts c.drive.periods).1 else []
        consec := 0
        clampSeen := false
        suppressSeen := false } }

/-- The channel enters RUNNING in the step loaded in its Nib (R101, R160, R203, R204). `settle` in ms. -/
def State.enterRun (n : Fin 256) (settle : Nat) (s : State) : State :=
  let e := (s.ch n).run.cur.getD []
  let s1 := s.enterLoop n (stCset e) (stLimits e (cfScale (s.ch n).cfg))
  (s1.updCh n fun c => { c with
    run := { c.run with
      startAt := none
      hasRun := true
      noNib := false
      settle := if settle = 0 then 0 else s.now + 250000 * settle
      slices := []
      slice := none
      sliceFrom := s.phase / msTicks
      crossover := none
      pulseBase := none
      ocv := []
      entered := if c.run.stepRan then c.run.entered else s.tb.time } }).toState n .running

/-! ### Run ends -/

/-- The run ends in DONE (0x0506, R168). `how` 0 END, 1 FINISH, 2 CH_ABORT; `last` the step index named. -/
def State.doneEvent (n : Fin 256) (last how : Nat) (s : State) : State :=
  s.raise 0x0506 INFO n.val (last % 65536 + 2 ^ 16 * how)

/-! ### Hardware ramp-down (R61) -/

/-- A_N = floor(P x V_cell / V_bus), clamped by step 4 of R39. (DEDUCED, log 56) -/
def clampOn (h : Option Block) (p : Nat) (a : Int) : Nat :=
  match h with
  | some h => (max (min (min a (hlOnMax h p)) ((p : Int) - hlMinOff h)) 0).toNat
  | none => (max (min a p) 0).toNat

/-- A ramp-down of a channel starts; `pfail` for PFAIL_N (R61, 0x0209). Once its ramp is over both gates are low. A channel that
has latched no period yet has no present effective period: its gates, which have not switched yet, stay low, and no ramp is
raised. (DESIGN CHOICE, log 55) -/
def State.rampDown (n : Fin 256) (pfail : Bool) (s : State) : State :=
  let c := s.ch n
  let p := c.drive.period
  if p = 0 then s.updCh n fun c => { c with drive := c.drive.low }
  else
    let an := clampOn (s.hlimOf n) p ((p : Int) * c.meas.vLast / busFloored (s.grp (groupOf n)).bus)
    let steps := (1280000 + p - 1) / p
    (s.updCh n fun c => { c with
      drive := { c.drive with ramp := some (steps, an, c.drive.onTime, steps, pfail) } }).raise 0x0209 NOTICE n.val
        (b2n pfail + 2 ^ 20 * an)

end Sys2Proof.Machine
end

