-- ==== Sys2Proof/Machine/Mailbox.lean ====
section
/-! DEFINITION. How the Folio serves a mailbox command: the entry (R358), TARGET (R359), the order of the checks (R346),
authority (R347), the quota (R183), the response (R344, R360) and group masks (R363). -/

namespace Sys2Proof.Machine

/-- Reason codes of R375. -/
def RC_OK : Nat := 0x0000
def RC_BAD_OPCODE : Nat := 0x0101
def RC_BAD_LENGTH : Nat := 0x0102
def RC_BAD_TARGET : Nat := 0x0103
def RC_BAD_FIELD : Nat := 0x0104
def RC_STATE : Nat := 0x0201
def RC_LOOP_CLOSED : Nat := 0x0202
def RC_TRIP_ACTIVE : Nat := 0x0203
def RC_MODE : Nat := 0x0204
def RC_CFG_RANGE : Nat := 0x0301
def RC_CFG_CONFLICT : Nat := 0x0302
def RC_CFG_TIMING : Nat := 0x0303
def RC_CFG_CALIB : Nat := 0x0304
def RC_CFG_RECIPE : Nat := 0x0305
def RC_CFG_ABSENT : Nat := 0x0306
def RC_HARD_LIMIT : Nat := 0x0401
def RC_BUSY_QUEUE : Nat := 0x0501
def RC_NO_SPACE : Nat := 0x0502
def RC_NO_SPARE : Nat := 0x0503
def RC_AUTH : Nat := 0x0601
def RC_PASSWORD : Nat := 0x0602
def RC_SAFETY_LOCK : Nat := 0x0603
def RC_SIGNATURE : Nat := 0x0604
def RC_HW_FAULT : Nat := 0x0701
def RC_TIMEOUT : Nat := 0x0702
def RC_CAL_SPAN : Nat := 0x0801
def RC_CAL_RUNNING : Nat := 0x0802

/-- A TARGET as R359 reads it. -/
inductive Tgt where
  | none
  | channel (n : Fin 256)
  | groups (m : Nat)
  | axis (a : Fin 8)
  | axes (m : Nat)
  | unit (u : Fin 32)
  | slot (k : Fin 1024)
  | index (i : Nat)
  | bad
deriving DecidableEq, Repr

/-- Number of set bits among the low `n` bits. -/
def popCount (n m : Nat) : Nat := (maskBits n m).length

/-- TARGET by its form; bits between the form and the field must be 0 (R359). -/
def tgtOf (w : Word) : Tgt :=
  let f := bits w 31 28
  let r := bits w 27 0
  match f with
  | 0 => if r = 0 then .none else .bad
  | 1 => if h : r < 256 then .channel ⟨r, h⟩ else .bad
  | 2 => if 0 < r ∧ r < 65536 then .groups r else .bad
  | 3 => if h : r < 8 then .axis ⟨r, h⟩ else .bad
  | 4 => if r < 256 ∧ 2 ≤ popCount 8 r then .axes r else .bad
  | 5 => if h : r < 32 then .unit ⟨r, h⟩ else .bad
  | 6 => if h : r < 1024 then .slot ⟨r, h⟩ else .bad
  | 7 => if r < 256 then .index r else .bad
  | _ => .bad

/-- What R361 fixes of an opcode's header: opcode, accepted target forms and INDEX values, LENGTH, authority, whether the
ROM loader serves it (R464), and the Quire items it posts (R183). -/
structure Hdr where
  opcode : Nat
  forms : List Nat := [0]
  index : Nat → Bool := fun _ => true
  lenOk : MbCmd → Bool
  minLen : Nat
  auth : MbCmd → Nat
  loader : Bool := false
  items : MbCmd → State → Nat := fun _ _ => 0

/-- A fixed LENGTH. -/
def lenIs (n : Nat) (m : MbCmd) : Bool := m.length.toNat == n

/-- The command's target form is one the opcode accepts (R359, R361). -/
def Hdr.targetOk (h : Hdr) (m : MbCmd) : Bool :=
  h.forms.contains (bits m.target 31 28) &&
    match tgtOf m.target with
    | .bad => false
    | .index i => h.index i
    | _ => true

/-- Authority with which a command of the mailbox is judged (R347; R356 for commands taken before a hot reset). -/
def Mailbox.authority (b : Mailbox) : Nat :=
  if b.discard = 0 then
    match b.session with
    | some (_, a) => authCode a
    | none => 0
  else b.frozen

/-- Checks 2 to 6 of R346, in order, and the loader's restriction (R464). `none`: all pass. -/
def Hdr.check (h : Hdr) (m : MbCmd) (s : State) : Option (Nat × Nat) :=
  if s.folio.loader.isSome && !h.loader then some (RC_MODE, 2)
  else if !h.lenOk m then some (RC_BAD_LENGTH, h.minLen)
  else if m.flags.toNat / 2 ≠ 0 then some (RC_BAD_FIELD, 0x00010002)
  else if m.rsvd ≠ 0 then some (RC_BAD_FIELD, 0x0001000E)
  else if !h.targetOk m then some (RC_BAD_TARGET, m.target.toNat)
  else if s.folio.loader.isNone && (s.mbox m.mb).authority < h.auth m then some (RC_AUTH, h.auth m)
  else if s.quire.quotaFree m.mb < h.items m s then some (RC_BUSY_QUEUE, h.items m s)
  else none

/-- STATE of the response: the target's state code, the Margin's for a safety command, 0 for the other forms (R360). -/
def Hdr.stateCode (h : Hdr) (m : MbCmd) (s : State) : Nat :=
  if h.opcode / 256 = 9 then s.margin.state.code
  else if h.forms.contains (bits m.target 31 28) then
    match tgtOf m.target with
    | .channel n => (s.ch n).state.code
    | .axis a => (s.ax a).state.code
    | .unit u => (s.unit u).state.code
    | .slot k => (s.slotOf k).state.code
    | _ => 0
  else 0

/-- How a command's own part ends (R346 steps 7 and 8, and its effect): refused; refused with an effect (a counted wrong
password, the channels a group mask reached); carried out; carried out with STATE as at acceptance (R362); or carried on,
its mailbox held (R362). -/
inductive Verdict where
  | refuse (status detail : Nat) (payload : Block)
  | refuseIn (s : State) (status detail : Nat) (payload : Block)
  | done (s : State) (detail : Nat) (payload : Block)
  | accepted (s : State) (state : Nat) (payload : Block)
  | hold (s : State)

/-- A mailbox whose flow does not advance: a command is carried on, or a response waits for ring space (R346, R362). (DEDUCED, log 16) -/
def Mailbox.heldUp (b : Mailbox) : Bool :=
  b.working != 0 || b.kept.isSome || (!b.done.isEmpty && diff16 b.rspTail b.rspHead == 32)

/-- The response of a command. -/
def answerTo (m : MbCmd) (status state detail : Nat) (payload : Block) : Response :=
  { tag := m.tag, quiet := m.flags.getLsbD 0, status := BitVec.ofNat 16 status, state := BitVec.ofNat 16 state,
    detail := w32 detail, payload := payload }

/-- The Quire item of a command of mailbox `k` that the Folio serves next. -/
def Quire.commandItem (q : Quire) (k : Fin 8) : Option Item := q.items.find? fun i => i.live && i.work == .command k

/-- The Folio begins a command: its item is dispatched, when QUIRE_DISPATCH has not handed it over already (R173, R175). -/
def Quire.serve (it : Item) (q : Quire) : Quire :=
  if it.state = .inService then q
  else q.enter it (q.place .folio) (q.items.any fun i => i.state == .ready && i.target == .folio && decide (it.prio < i.prio))

/-- The command leaves the taken commands and its Quire item is in service until its response is written (R169, R171, R346); that of a
command whose response is to be discarded ends at once (R356). A command not among them is carried out
all the same: the sender stands for the Folio's taking (log 16). -/
def State.takeOff (opcode : Nat) (m : MbCmd) (s : State) : State :=
  if (s.mbox m.mb).taken.any (fun e => e.1 == m && e.2.toNat == opcode) then
    let s1 := s.updMb m.mb fun b => { b with taken := eraseFirst (fun e => e.1 == m && e.2.toNat == opcode) b.taken }
    match s1.quire.commandItem m.mb with
    | some it =>
      if (s1.mbox m.mb).discard = 0 then
        { s1.updMb m.mb fun b => { b with kept := some it.uid } with quire := s1.quire.serve it }
      else { s1 with quire := s1.quire.remove 0 it.uid }
    | none => s1
  else s

/-- A command of a held mailbox waits among the taken ones. -/
def State.await (opcode : Nat) (m : MbCmd) (s : State) : State :=
  if (s.mbox m.mb).taken.any (fun e => e.1 == m && e.2.toNat == opcode) then s
  else s.updMb m.mb fun b => { b with taken := b.taken ++ [(m, BitVec.ofNat 16 opcode)] }

/-- The channels of a group mask by ascending number (R363). -/
def maskChannels (m : Nat) : List (Fin 256) :=
  (maskBits 16 m).flatMap fun g => (List.range 16).map fun i => Fin.ofNat 256 (16 * g + i)

/-- The flows on which the Folio posts items while it serves a command: those of the axes of an axis command, and of the channels that a
group mask names (R170, R181, R183). -/
def commandFlows (opcode : Nat) (m : MbCmd) : List (Nat × QTarget) :=
  match tgtOf m.target with
  | .axis a => if opcode / 256 = 8 then [(256 + a.val, .stroke)] else []
  | .axes k => if opcode / 256 = 8 then (maskBits 8 k).map fun a => (256 + a, .stroke) else []
  | .groups g => (maskChannels g).map fun n => (n.val, .ductus)
  | _ => []

/-- The Folio's items of a command that it carries out. -/
def State.passItems (opcode : Nat) (m : MbCmd) (s : State) : State :=
  { s with quire := (commandFlows opcode m).foldl (fun q f => q.pass m.mb s.now f) s.quire }

/-- Answer after the command's own part. -/
def Hdr.conclude (h : Hdr) (m : MbCmd) (s : State) : Verdict → State
  | .refuse st d p => s.respond m.mb (answerTo m st (h.stateCode m s) d p)
  | .refuseIn t st d p => t.respond m.mb (answerTo m st (h.stateCode m t) d p)
  | .done t d p => (t.passItems h.opcode m).respond m.mb (answerTo m RC_OK (h.stateCode m t) d p)
  | .accepted t st p => (t.passItems h.opcode m).respond m.mb (answerTo m RC_OK st 0 p)
  | .hold t => t.updMb m.mb fun b => { b with working := b.working + 1 }

/-- The loader serves MB0 only (R464). -/
def State.serves (s : State) (k : Fin 8) : Bool := s.folio.mbReady && (s.folio.loader.isNone || k == 0)

/-- The command's turn: the commands of a mailbox are served in ring order (R171, R346). (DEDUCED, log 16) -/
def Mailbox.turn (b : Mailbox) (opcode : Nat) (m : MbCmd) : Bool :=
  match b.taken with
  | [] => true
  | e :: _ => e.1 == m && e.2.toNat == opcode

/-- The Folio carries out one command whole (R346, R376): while it does not serve the mailbox nothing happens; a command whose
turn has not come waits among the taken ones. (DEDUCED, log 16) -/
def Hdr.run (h : Hdr) (own : MbCmd → State → Verdict) (m : MbCmd) (s : State) : State :=
  if !s.serves m.mb then s
  else if (s.mbox m.mb).heldUp || !(s.mbox m.mb).turn h.opcode m then s.await h.opcode m
  else
    let t := s.takeOff h.opcode m
    match h.check m t with
    | some (st, d) => h.conclude m t (.refuse st d [])
    | none => h.conclude m t (own m t)

/-- Refuse with RC_BAD_FIELD when a reserved parameter bit is set (R346 step 8, R375), else go on. -/
def reserved (m : MbCmd) (masks : List (Nat × Nat)) (k : Verdict) : Verdict :=
  match firstReserved m.params masks with
  | some off => .refuse RC_BAD_FIELD off []
  | none => k

/-- A check that refuses, else the rest. -/
def orElse (r : Option (Nat × Nat)) (k : Verdict) : Verdict :=
  match r with
  | some (st, d) => .refuse st d []
  | none => k

/-- Payload of a group-mask command (R363): the refusing channel and the channels handled. -/
def maskPayload (refusing : Nat) (ok : List (Fin 256)) : Block :=
  w32 refusing :: (List.range 8).map fun w =>
    w32 ((ok.filter fun n => n.val / 32 == w).foldl (fun a n => a + 2 ^ (n.val % 32)) 0)

/-- Apply a channel command to each channel of a mask until the first refusal (R363); a refusal answers the state it leaves. -/
def runMask (f : Fin 256 → State → Option (Nat × Nat) × State) :
    List (Fin 256) → List (Fin 256) → State → Option (Nat × Nat × Nat) × List (Fin 256) × State
  | [], ok, s => (none, ok, s)
  | n :: l, ok, s =>
    match f n s with
    | (some (st, d), t) => (some (n.val, st, d), ok, t)
    | (none, t) => runMask f l (ok ++ [n]) t

/-- The verdict of a command that takes a CHANNEL or GROUP_MASK target. -/
def maskVerdict (f : Fin 256 → State → Option (Nat × Nat) × State) (m : MbCmd) (s : State) : Verdict :=
  match tgtOf m.target with
  | .channel n =>
    match f n s with
    | (some (st, d), t) => .refuseIn t st d []
    | (none, t) => .done t 0 []
  | .groups g =>
    match runMask f (maskChannels g) [] s with
    | (some (n, st, d), ok, t) => .refuseIn t st d (maskPayload n ok)
    | (none, ok, t) => .done t 0 (maskPayload 0xFFFF ok)
  | _ => .refuse RC_BAD_TARGET m.target.toNat []

end Sys2Proof.Machine
end

