-- ==== Sys2Proof/Machine/EnableChecks.lean ====
section
/-! DEFINITION. The consistency checks CK01 to CK32 of CH_ENABLE and CH_RESUME (R66, R80, R119, R167). -/

namespace Sys2Proof.Machine

/-- A check: the condition that must hold, and the reason code on failure. -/
abbrev Check := Bool × Nat

/-- The number (from `k` on) and reason code of the first check that fails. -/
def firstFail (k : Nat) : List Check → Option (Nat × Nat)
  | [] => none
  | (ok, rc) :: l => if ok then firstFail (k + 1) l else some (k, rc)

/-- The entries of the recipe in a slot. -/
def Slot.entries (sl : Slot) : List Block := sl.steps.filterMap id

/-- Set 0 and every set a step of the recipe names (R119). -/
def Slot.setsNamed (sl : Slot) : List Nat := 0 :: (sl.entries.map stCset)

/-- floor(D_MAX x P_lo) of a set. -/
def csOnMax (b : Block) (p : Nat) : Nat := (csDmax b).toNat * p / 2 ^ 30

/-- CK24 for one set (R119). -/
def setBounds (cfg h b : Block) : Bool :=
  let p := cfPlo cfg
  decide (csOnMax b p ≤ hlOnMax h p) && decide (hlMinOff h ≤ p - csOnMax b p)

/-- CK27 for one step (R167). -/
def guardsWithin (h e : Block) : Bool :=
  let ty := stType e
  let chg := ty == 1 || ty == 3 || ty == 4 || ty == 6
  let dis := ty == 2 || ty == 5 || ty == 7 || ty == 8
  !stPower e ||
    ((stGvMax e == 0x7FFFFFFF || decide (stGvMax e ≤ hlVmax h))
      && (stGvMin e == -2147483648 || decide (hlVmin h ≤ stGvMin e))
      && (stGtMax e == 0x7FFF || decide (stGtMax e ≤ hlTmax h))
      && (stGiMax e == 0x7FFFFFFF || ((dis || decide (stGiMax e ≤ hlIchg h)) && (chg || decide (stGiMax e ≤ hlIdis h)))))

/-- CK28 for one step (R167). -/
def currentsWithin (scale : Nat) (e : Block) : Bool :=
  let ty := stType e
  if ty = 1 || ty = 2 then withinFs scale (stA e).natAbs
  else if 3 ≤ ty && ty ≤ 8 then withinFs scale (stB e).natAbs
  else if ty = tPULSE then withinFs scale (stA e).natAbs && withinFs scale (stB e).natAbs
  else true

/-- CK29 for one step (R167): 4 loop periods of 5/64 ns ticks. -/
def pulseTimes (cfg e : Block) : Bool :=
  let four := 4 * cfK cfg * cfPlo cfg * 5
  stType e != tPULSE ||
    (decide (four ≤ fieldAt e 12 15 0 * 640000) && decide (four ≤ fieldAt e 12 31 16 * 640000))

/-- Both checkpoint copies blank, or one with a good CRC (CK32). -/
def ckptUsable (v : ChVellum) : Bool :=
  match v.ckA, v.ckB with
  | .good _, _ => true
  | _, .good _ => true
  | .blank, .blank => true
  | _, _ => false

/-- A calibration record is in use and stale. -/
def staleOpt : Option Block → Bool
  | some b => calStale b
  | none => false

/-- CK01 to CK32 in order, with the reason code of each (R66). `mp` is the MIN_PULSE that would be in use. -/
def State.enableChecks (s : State) (n : Fin 256) (mp : Nat) : List Check :=
  let c := s.ch n
  let g := c.cfg
  let f := dieOfCh n
  let h := (s.hlimOf n).getD []
  let gr := s.grp (groupOf n)
  let sl := s.slotOf (cfSlot g)
  let scaled := decide (cfGain g ≤ 5) && cfShuntOk g
  let tcon := cfTconst g
  let avgEnd : Int := cfSample g + ((cfAvgN g - 1) * cfAvgStep g + 12800 : Nat)
  let ri := cfRecInterval g
  [(gr.seated, RC_CFG_ABSENT),
   ((s.dieOf f).dlineOk, RC_HW_FAULT),
   (decide (cfCarrier g ≤ 4), RC_CFG_RANGE),
   (decide (6400 ≤ cfPeriod g) && decide (cfPeriod g ≤ 256000), RC_CFG_RANGE),
   (cfFixed g || (decide (6400 ≤ cfPmin g) && decide (cfPmin g ≤ cfPeriod g) && decide (cfPeriod g ≤ cfPmax g)
      && decide (cfPmax g ≤ 256000)), RC_CFG_RANGE),
   (cfFixed g || (decide (0 < tcon) && decide (tcon < cfPmin g)), RC_CFG_RANGE),
   (!cfCentre g || cfCarrier g == 2, RC_CFG_CONFLICT),
   (decide (2 * (cfDtRise g + cfDtFall g + 2 * mp) ≤ cfPlo g), RC_CFG_TIMING),
   (decide (25600 ≤ cfK g * cfPlo g), RC_CFG_TIMING),
   (decide (cfSample g + 12800 ≤ cfPlo g), RC_CFG_TIMING),
   ((maskBits 8 (cfTripSel g)).all fun k => tripEnabled (s.dieOf f).tripCfg k, RC_CFG_CONFLICT),
   ((s.hlimOf n).isSome && (s.groupMax (groupOf n)).isSome, RC_HARD_LIMIT),
   (decide (0 ≤ hlVmin h) && decide (hlVmin h < hlVmax h) && decide (hlVmax h ≤ 512000), RC_HARD_LIMIT),
   (!scaled || (withinFs (cfScale g) (hlIchg h) && withinFs (cfScale g) (hlIdis h)), RC_CFG_CONFLICT),
   (if cfFixed g then decide (mp + cfDtRise g ≤ hlOnMax h (cfPeriod g))
    else if cfCarrier g = 3 then decide (tcon ≤ hlOnMax h (cfPmin g)) else decide (hlMinOff h ≤ tcon), RC_CFG_CONFLICT),
   (hlTmax h == 0x7FFF || (decide (72 * f.val ≤ hlTaux h) && decide (hlTaux h < 72 * f.val + 72)), RC_CFG_CONFLICT),
   (decide (cfGain g ≤ 5), RC_CFG_RANGE),
   (cfShuntOk g, RC_CFG_RANGE),
   ((s.calOf n false 0).isSome && (s.calOf n true (cfGain g)).isSome, RC_CFG_CALIB),
   (cfAllowStale g || !(staleOpt (s.calOf n false 0) || staleOpt (s.calOf n true (cfGain g))), RC_CFG_CALIB),
   (decide (72 * f.val ≤ gr.busAux) && decide (gr.busAux < 72 * f.val + 72), RC_CFG_CONFLICT),
   (decide (0 ≤ cfSample g) && (cfAvgN g == 1 || decide (12800 ≤ cfAvgStep g)) && decide (avgEnd ≤ cfK g * cfPlo g),
     RC_CFG_TIMING),
   (sl.setsNamed.all fun k => (c.sets.getD k none).isSome, RC_CFG_CONFLICT),
   (sl.setsNamed.all fun k => setBounds g h (c.setOf k), RC_CFG_CONFLICT),
   (ri % 1000000 == 0 && decide (1000000 ≤ ri) && decide (ri ≤ 60000000000), RC_CFG_RANGE),
   (sl.state == .verified || sl.state == .inUse, RC_CFG_RECIPE),
   (sl.entries.all (guardsWithin h), RC_HARD_LIMIT),
   (sl.entries.all (currentsWithin (cfScale g)), RC_CFG_RECIPE),
   (sl.entries.all (pulseTimes g), RC_CFG_TIMING),
   ((s.servingNib (groupOf n).val).isSome, RC_HW_FAULT),
   (!(s.folio.selftests.any fun t => t.kind == 2 && t.die == f.val), RC_CFG_CONFLICT),
   (ckptUsable (s.chv n), RC_HW_FAULT)]

/-- The first failing check of CK01 to CK32: number and reason code. -/
def State.enableFail (s : State) (n : Fin 256) (mp : Nat) : Option (Nat × Nat) := firstFail 1 (s.enableChecks n mp)

/-- Averaging time left of a CAL_POINT, ms (R375). -/
def CalRun.left (r : CalRun) (now : Nat) : Nat := r.avgMs - (now - r.start) / 250000

/-- A command to a channel is refused while a CAL_POINT averages on it (R85), or outside its legal states (R361). -/
def State.chanCheck (s : State) (n : Fin 256) (legal : ChState → Bool) : Option (Nat × Nat) :=
  let c := s.ch n
  match c.calRun with
  | some r => some (RC_CAL_RUNNING, r.left s.now)
  | none => if legal c.state then none else some (RC_STATE, c.state.code)

end Sys2Proof.Machine
end

