-- ==== Sys2Proof/Machine/NibOps.lean ====
section
/-! DEFINITION. Nib faults, takeovers, loss of the last Nib (R208 to R214), axis faults (R294), the end of a SELFTEST. -/

namespace Sys2Proof.Machine

/-! ### Axis faults (R294) -/

/-- A linear move stops along its path, QUICK if asked (R288). -/
def Linear.stop (quick : Bool) (l : Linear) : Linear :=
  { l with
    stopping := true
    quick := l.quick || quick }

/-- The axis takes part in the linear move. -/
def Linear.has (a : Fin 8) (l : Linear) : Bool := l.members.any fun m => m.1 == a

/-- The axes that take part in a linear move with axis `a`. -/
def State.linearWith (a : Fin 8) (s : State) : List (Fin 8) :=
  (s.linear.filter (Linear.has a)).flatMap fun l => l.members.map fun m => m.1

/-- A moving member of a linear move is stopping (R288). -/
def State.memberStops (a : Fin 8) (s : State) : State :=
  s.updAx a fun x => { x with state := if x.state = .moving then .stopping else x.state }

/-- The linear move of axis `a` stops: every member decelerates along the path (R288). -/
def State.stopLinear (a : Fin 8) (quick : Bool) (s : State) : State :=
  forAll State.memberStops (s.linearWith a)
    { s with linear := s.linear.map fun l => if l.has a then l.stop quick else l }

/-- Axis `a` leaves its linear move; a move without members is over. -/
def State.leaveLinear (a : Fin 8) (s : State) : State :=
  { s with linear := (s.linear.map fun l => { l with members := l.members.filter fun m => m.1 != a }).filter fun l =>
      !l.members.isEmpty }

/-- The Margin drops the reference of an axis (R316). -/
def State.dropReference (a : Fin 8) (s : State) : State :=
  { s with margin := { s.margin with referenced := s.margin.referenced &&& ~~~(BitVec.ofNat 8 (2 ^ a.val)) } }

/-- AX_STOP is answered when its stop has ended, with the axis's state of then (R287, R362). (DEDUCED, log 28) -/
def State.answerStops (a : Fin 8) (s : State) : State :=
  if (s.ax a).state = .stopping then s
  else
    let st := BitVec.ofNat 16 (s.ax a).state.code
    forAll (fun m t => t.respondLate m { tag := m.tag, quiet := m.flags.getLsbD 0, status := 0, state := st, detail := 0, payload := [] })
      (s.ax a).stops (s.updAx a fun x => { x with stops := [] })

/-- An axis faults: HOMED is cleared, a homing sequence ends, a linear move stops without it (R288, R294, R316). -/
def State.axisFault (a : Fin 8) (cause : Nat) (s : State) : State :=
  if (s.ax a).state = .disabled || (s.ax a).state = .fault then s
  else
    let s1 := (s.stopLinear a false).updAx a fun x => { x with
      state := .fault
      faultCause := cause
      homed := false
      homing := none
      vSq := 0
      waitRamp := false }
    (((s1.leaveLinear a).dropReference a).raise 0x0A05 ALARM a.val (cause + 2 ^ 32 * p32 (s.ax a).pos)).answerStops a

/-- GM has no Nib left: every axis goes FAULT with cause 3, so that its coils are shorted, a DISABLED axis and one in FAULT for
another cause among them (R212, R297). (DEDUCED, log 42) -/
def State.axisNoNib (a : Fin 8) (s : State) : State :=
  match (s.ax a).state with
  | .fault => s.updAx a fun x => { x with faultCause := 3 }
  | .disabled => (s.updAx a fun x => { x with state := .idle }).axisFault a 3
  | _ => s.axisFault a 3

/-! ### SELFTEST (R371, R214) -/

/-- A running SELFTEST is answered. -/
def State.answerSelftest (status detail : Nat) (payload : Block) (t : SelfTest) (s : State) : State :=
  ({ s with folio := { s.folio with selftests := eraseFirst (fun x => x == t) s.folio.selftests } } : State).respondHeld t.mb
    { tag := t.tag, quiet := t.quiet, status := BitVec.ofNat 16 status, state := 0, detail := w32 detail, payload := payload }

/-- The SELFTEST of a spare Nib that a takeover needs ends (R214). -/
def State.endNibTest (k : Fin 20) (s : State) : State :=
  match s.folio.selftests.find? (fun t => t.kind == 1 && t.index == k.val) with
  | some t => s.answerSelftest 0x0701 1 [] t
  | none => s

/-! ### Nib faults -/

/-- 24 h in ns (R214). -/
def dayNs : Nat := 86400 * 10 ^ 9

/-- A second fault within 24 h of the first retires the Nib; an age that cannot be judged keeps the first fault (R214). (DEDUCED, log 40) -/
def State.nibRetires (s : State) (k : Fin 20) : Bool :=
  match (s.nibOf k).firstFault with
  | none => false
  | some none => true
  | some (some t) => !s.tb.valid || decide (s.tb.time < t + dayNs)

/-- RUNNING and TUNE channels of a group; GM has none. -/
def State.activeOf (s : State) (g : Fin 17) : List (Fin 256) :=
  if h : g.val < 16 then (groupChannels ⟨g.val, h⟩).filter fun n => (s.ch n).state.active else []

/-- A Nib is retired for good (R214, 0x0705). -/
def State.retireNib (k : Fin 20) (why : Nat) (s : State) : State :=
  (s.updNib k fun x => { x with
    role := .retired
    group := none
    revertTo := none }).raise 0x0705 ALARM k.val why

/-- An idle spare: none of a running takeover or handover (R210). -/
def State.idleSpare (s : State) (k : Fin 20) : Bool :=
  (s.nibOf k).role == .spare && !(s.nibs.takeovers.any fun t => t.spare == k) && !(s.nibs.handovers.any fun h => h.nib == k)

/-- The lowest-numbered idle spare of N17 to N19 (R210). -/
def State.nextSpare (s : State) : Option (Fin 20) :=
  ([17, 18, 19] : List (Fin 20)).find? fun k => s.idleSpare k

/-- The group has no Nib left: ramp-down and INTERRUPTED, or the axes' FAULT (R212). -/
def State.groupNoNib (g : Fin 17) (s : State) : State :=
  if h : g.val < 16 then
    let chs := (groupChannels ⟨g.val, h⟩).filter fun n => (s.ch n).state.active
    let s1 := forAll (fun n t =>
      let t1 := (t.rampDown n false).updCh n fun c => { c with
        run := { c.run with noNib := true }
        tune := c.tune.map fun x => { x with injecting := false } }
      (t1.become n .interrupted).ckpt n 6) chs s
    s1.raise 0x0706 FATAL g.val ((chs.map fun n => 2 ^ (n.val % 16)).foldl (· + ·) 0)
  else
    (forAll State.axisNoNib allAxes s).raise 0x0706 FATAL 16 0

/-- The takeover sequencer starts a takeover by the lowest idle spare, or finds none (R210, R212). An earlier takeover of the group
is over. -/
def State.startTakeover (g : Fin 17) (old : Fin 20) (since : Nat) (s0 : State) : State :=
  let s : State := { s0 with nibs := { s0.nibs with takeovers := s0.nibs.takeovers.filter fun x => x.group != g } }
  match s.nextSpare with
  | some k =>
    let s1 := s.endNibTest k
    { s1 with nibs := { s1.nibs with takeovers := s1.nibs.takeovers ++ [{ group := g, old := old, spare := k, since := since }] } }
  | none => s.groupNoNib g

/-- The gap of a takeover ends when the new Nib has written a word for every channel of the group still under way (R211, 0x0702).
(DEDUCED, log 40) -/
def State.closeGap (g : Fin 17) (s : State) : State :=
  match s.nibs.takeovers.find? fun t => t.group == g with
  | some t =>
    match t.waiting with
    | some l =>
      if l.any fun n => (s.ch n).state.active then s
      else
        ({ s with nibs := { s.nibs with takeovers := s.nibs.takeovers.filter fun x => x.group != g } } : State).raise 0x0702 NOTICE
          t.spare.val (t.spare.val + 2 ^ 8 * g.val + 2 ^ 16 * min ((s.now - t.since) / 25) 0xFFFF
            + 2 ^ 32 * (if g = 16 then s.nibs.acceptClaim.toNat else 0))
    | none => s
  | none => s

/-- The taking-over Nib writes a channel's first word: the TAKEOVER checkpoint follows, and the last first word ends the gap (R192,
R211). -/
def State.firstWord (n : Fin 256) (s : State) : State :=
  let g : Fin 17 := (groupOf n).castSucc
  if s.nibs.takeovers.any fun t => t.group == g && (t.waiting.getD []).contains n then
    let s1 : State := { s with
      nibs := { s.nibs with
        takeovers := s.nibs.takeovers.map fun t => if t.group = g then { t with waiting := t.waiting.map fun l => l.filter fun j => j != n }
          else t } }
    ((s1.updCh n fun c => { c with drive := { c.drive with late := none } }).ckpt n 5).closeGap g
  else s

/-! ### Planned handovers (R213, R371) -/

/-- A SPARE_RETIRE that hands a group over is answered. -/
def State.answerRetire (status detail : Nat) (m : MbCmd) (s : State) : State :=
  s.respondLate m
    { tag := m.tag, quiet := m.flags.getLsbD 0, status := BitVec.ofNat 16 status, state := 0, detail := w32 detail, payload := [] }

/-- The Nib that a group's handover leaves: a spare, or retired by SPARE_RETIRE, for which 0x0705 has no code (log 14). -/
def State.releaseNib (g : Fin 17) (cmds : List MbCmd) (s : State) : State :=
  match s.servingNib g.val with
  | none => s
  | some o =>
    if cmds.isEmpty then s.updNib o fun x => { x with
      role := .spare
      group := none }
    else s.retireNib o ((Config.unstated 92).toNat % 2)

/-- A planned handover is complete: the Nib serves the group, and for GM it writes the next claim number; the Nib that served
returns to cold, or is retired (R209, R213, R371). With no Nib serving the group, the spare that 0x0704 names is unstated (log 14).
(DEDUCED, log 40) -/
def State.endHandover (h : Handover) (s : State) : State :=
  let old := match s.servingNib h.group.val with
    | some o => o.val
    | none => (Config.unstated 86).toNat % 256
  let s1 := ({ s with nibs := { s.nibs with handovers := s.nibs.handovers.filter fun x => x.group != h.group } } : State).releaseNib
    h.group h.cmds
  let s2 := s1.updNib h.nib fun x => { x with
    role := .active
    group := some h.group
    revertTo := none }
  let s3 : State := if h.group = 16 then { s2 with
      nibs := { s2.nibs with
        acceptClaim := s2.nibs.acceptClaim + 1
        writeClaim := s2.nibs.acceptClaim + 1 } }
    else s2
  if h.cmds.isEmpty then s3.raise 0x0704 INFO h.nib.val (h.group.val + 2 ^ 8 * old)
  else forAll (State.answerRetire 0 0) h.cmds s3

/-- Step 2 of R213 begins: the Nib that serves skips one evaluation of each channel under way; the handover ends with the last. -/
def State.beginHandover (h : Handover) (s : State) : State :=
  let h1 : Handover := { h with left := some (s.activeOf h.group) }
  let s1 : State := { s with nibs := { s.nibs with handovers := h1 :: s.nibs.handovers.filter fun x => x.group != h.group } }
  if (s.activeOf h.group).isEmpty then s1.endHandover h1 else s1

/-- The Nib that serves channel `n` skips its evaluation: nothing is committed, no word is written, and the reload that misses it is
no overrun (R213). (DEDUCED, log 40) -/
def State.skipEvaluation (n : Fin 256) (h : Handover) (s : State) : State :=
  let s1 := s.updCh n fun c => { c with drive := { c.drive with flights := c.drive.flights.drop 1 } }
  let l := (h.left.getD []).filter fun j => j != n && (s.ch j).state.active
  let h1 : Handover := { h with left := some l }
  let s2 : State := { s1 with nibs := { s1.nibs with handovers := s1.nibs.handovers.map fun x => if x.group = h.group then h1 else x } }
  if l.isEmpty then s2.endHandover h1 else s2

/-- The handover in which channel `n` still has its evaluation to be skipped. -/
def State.skipsAt (s : State) (n : Fin 256) : Option Handover :=
  s.nibs.handovers.find? fun h => h.group == (groupOf n).castSucc && (h.left.getD []).contains n

/-- The Nib that evaluates channel `n`: in a handover whose Nib has skipped the channel's evaluation, the one that takes the group
(R213). -/
def State.evalNib (s : State) (n : Fin 256) : Option (Fin 20) :=
  match s.nibs.handovers.find? fun h => h.group == (groupOf n).castSucc && h.left.isSome with
  | some h => if (h.left.getD []).contains n then s.servingNib (groupOf n).val else some h.nib
  | none => s.servingNib (groupOf n).val

/-- SPARE_RETIRE of an active Nib: the lowest idle spare is powered up and self-tested before it takes the group in the planned
manner; with none left the command is refused (R213, R371). (DEDUCED, log 40) -/
def State.startPlanned (g : Fin 17) (cmds : List MbCmd) (s : State) : State :=
  match s.nextSpare with
  | some k =>
    let s1 := s.endNibTest k
    { s1 with
      nibs := { s1.nibs with
        handovers := { group := g, nib := k, cmds := cmds } :: s1.nibs.handovers.filter fun x => x.group != g } }
  | none => forAll (State.answerRetire 0x0503 1) cmds s

/-- A handover is abandoned because Nib `k`, which was to take the group, faults or is retired: the Nib that serves keeps the group; for
a SPARE_RETIRE the next spare is tried (R218, R371). -/
def State.abandonHandover (k : Fin 20) (s : State) : State :=
  match s.nibs.handovers.find? fun h => h.nib == k with
  | none => s
  | some h =>
    let s1 : State := { s with nibs := { s.nibs with handovers := s.nibs.handovers.filter fun x => x.group != h.group } }
    if h.cmds.isEmpty then s1 else s1.startPlanned h.group h.cmds

/-! ### Detection (R208) -/

/-- Words of a fenced Nib may land for 2 µs; the samples that it had accepted are lost with it (R208, R211). (DEDUCED, log 40) -/
def State.fence (g : Fin 17) (s : State) : State :=
  forAll (fun n t => (t.dropSamples n).updCh n fun c => { c with drive := { c.drive with late := some s.now } }) (s.activeOf g) s

/-- The commands that wait for a handover of the group, which ends because the Nib that served it faults. -/
def State.retiringBy (s : State) (g : Fin 17) : List MbCmd :=
  (s.nibs.handovers.filter fun h => h.group == g).flatMap fun h => h.cmds

/-- The Nib that serves a group faults: fenced at once, counted, retired on a second fault within 24 h, or where SPARE_RETIRE was retiring
it (R208 to R210, R214, R218). Items of the fenced Nib stay on their flows; its held posts go with it to the taking-over Nib.
(DEDUCED, log 40) -/
def State.servingFault (k : Fin 20) (g : Fin 17) (overruns : Bool) (s : State) : State :=
  let cmds := s.retiringBy g
  let s1 : State := { s with
    nibs := { s.nibs with
      handovers := s.nibs.handovers.filter fun h => h.group != g
      faults := satAdd s.nibs.faults 1
      acceptClaim := if g = 16 then s.nibs.acceptClaim + 1 else s.nibs.acceptClaim } }
  let s2 := (s1.raise 0x0701 ALARM k.val (g.val + 2 ^ 8 * b2n overruns)).fence g
  let s3 := if s.nibRetires k || !cmds.isEmpty then s2.retireNib k 0
    else s2.updNib k fun x => { x with
      role := .fenced
      group := none
      firstFault := some (if s.tb.valid then some s.tb.time else none) }
  (forAll (State.answerRetire 0 0) cmds s3).startTakeover g k s.now

/-- A Nib fault (R208): of a Nib that serves, or of one that takes a group in a handover, which is then abandoned (R218).
(DEDUCED, log 40) -/
def State.nibFault (k : Fin 20) (overruns : Bool) (s : State) : State :=
  match (s.nibOf k).role, (s.nibOf k).group with
  | .active, some g => s.servingFault k g overruns
  | _, _ =>
    match s.nibs.handovers.find? fun h => h.nib == k with
    | none => s
    | some h =>
      let s1 : State := { s with nibs := { s.nibs with faults := satAdd s.nibs.faults 1 } }
      ((s1.raise 0x0701 ALARM k.val (h.group.val + 2 ^ 8 * b2n overruns)).retireNib k 0).abandonHandover k

end Sys2Proof.Machine
end

