-- ==== Sys2Proof/Machine/Drive.lean ====
section
/-! DEFINITION. Channel configuration, enabling, status and trips as commands and events (02), and the reload capture of the
FE dies and of the stroke unit (R39 to R53, R276). -/

namespace Sys2Proof.Machine

/-! ### CH_CONFIG, CH_ENABLE, CH_DISABLE -/

/-- Store a channel's configuration (R64, R65). -/
def State.configure (p : Block) (n : Fin 256) (s : State) : Option (Nat × Nat) × State :=
  match s.chanCheck n (fun st => st == .off || st == .absent) with
  | some e => (some e, s)
  | none =>
    match firstReserved p cfReserved with
    | some off => (some (RC_BAD_FIELD, off), s)
    | none => (none, s.updCh n fun c => c.takeConfig (blockFit 16 p))

def hdrChConfig : Hdr :=
  { opcode := 0x0201, forms := [1, 2], lenOk := lenIs 80, minLen := 80, auth := fun _ => 2,
    items := fun m _ => match tgtOf m.target with
      | .groups g => (maskChannels g).length
      | _ => 0 }

/-- CH_CONFIG (R64, R65, R363). -/
def execChConfig (m : MbCmd) (s : State) : Host.Outcome State Fault Refusal :=
  .next (hdrChConfig.run (maskVerdict (State.configure m.params)) m s)

/-- The writes into a Vellum region fail for good (R427). -/
def State.regionFails (s : State) (region : Nat) : Bool := s.vel.failed.contains region

/-- Write both copies of the configuration image, A first; each is read back, and one that fails its CRC is written again: where the
writes of its region fail, it fails again, and 0x070E tells (R196). (DEDUCED, log 36) -/
def State.writeImages (n : Fin 256) (s : State) : State :=
  let c := s.ch n
  let badA := s.regionFails 5
  let badB := s.regionFails 6
  let t := s.updChv n fun v => { v with
    imgA := if badA then .bad else .good c.cfg c.sets
    imgB := if badB then .bad else .good c.cfg c.sets }
  let u := (t.wearRow (64 + n.val / 4) 112).wearRow (128 + n.val / 4) 112
  if badA || badB then u.raise 0x070E ALARM n.val (b2n badA + 2 * b2n badB) else u

/-- LOOP_FLAGS and the counters of R68 and R113 are cleared at CH_ENABLE (R109). -/
def Channel.clearCounts (c : Channel) : Channel :=
  { c with
    drive := { c.drive with
      clamp := 0
      suppress := 0
      overrun := 0 }
    loop := { c.loop with
      outerNow := false
      innerNow := false
      busFloor := false
      overrun := false
      outerLim := false
      satLo := false
      satHi := false
      arith := false } }

/-- CH_ENABLE on one channel: CK01 to CK32, then CONFIGURED (R66 to R68, R50, R93, R196). -/
def State.enable (n : Fin 256) (s : State) : Option (Nat × Nat) × State :=
  match s.chanCheck n (fun st => st == .off || st == .absent) with
  | some e => (some e, s)
  | none =>
    let mp := (s.chv n).minPulse
    match s.enableFail n mp with
    | some (k, rc) => (some (rc, k), s.raise 0x0208 INFO n.val (k + 2 ^ 8 * rc))
    | none =>
      if (s.ch n).meas.convFault then (some (RC_HW_FAULT, (Config.unstated 40).toNat), s)
      else
        let s1 := s.updCh n fun c =>
          let d := c.clearCounts
          { d with
            drive := { d.drive with minPulse := mp }
            run := { d.run with
              runValid := false
              restored := none
              copy := none
              hasRun := false } }
        (none, (s1.writeImages n).toState n .configured)

def hdrChEnable : Hdr :=
  { opcode := 0x0202, forms := [1, 2], lenOk := lenIs 16, minLen := 16, auth := fun _ => 1,
    items := fun m _ => match tgtOf m.target with
      | .groups g => (maskChannels g).length
      | _ => 0 }

/-- The channels that a TARGET names (R359, R363). -/
def targetChannels (t : Word) : List (Fin 256) :=
  match tgtOf t with
  | .channel n => [n]
  | .groups g => maskChannels g
  | _ => []

/-- CH_ENABLE (R66, R363); the channels that it has enabled are watched from now on (R58). -/
def execChEnable (m : MbCmd) (s : State) : Host.Outcome State Fault Refusal :=
  .next (forAll (State.watchPins s) (targetChannels m.target) (hdrChEnable.run (maskVerdict State.enable) m s))

/-- The command's channel, when its TARGET names one. -/
def chanVerdict (f : Fin 256 → State → Verdict) (m : MbCmd) (s : State) : Verdict :=
  match tgtOf m.target with
  | .channel n => f n s
  | _ => .refuse RC_BAD_TARGET m.target.toNat []

/-- A channel command without a group form. -/
def chanHdr (op len auth : Nat) : Hdr :=
  { opcode := op, forms := [1], lenOk := lenIs len, minLen := len, auth := fun _ => auth }

/-- CH_DISABLE on a channel (R157). -/
def State.disable (n : Fin 256) (s : State) : Verdict :=
  let ok (st : ChState) : Bool := st != .running && st != .tripped && st != .tune && st != .absent
  match s.chanCheck n ok with
  | some (st, d) => .refuse st d []
  | none =>
    .done ((s.updCh n fun c => { c with
      drive := c.drive.low
      run := { c.run with
        startAt := none
        trans := none } }).toState n .off) 0 []

/-- CH_DISABLE. -/
def execChDisable (m : MbCmd) (s : State) : Host.Outcome State Fault Refusal :=
  .next ((chanHdr 0x0203 16 1).run (chanVerdict State.disable) m s)

/-! ### CH_STATUS (R368) -/

/-- LOOP_FLAGS (R109). -/
def LoopSt.flags (l : LoopSt) : Nat :=
  b2n l.outerNow * 512 + b2n l.innerNow * 256 + b2n l.busFloor * 32 + b2n l.overrun * 16 + b2n l.outerLim * 8
    + b2n l.satLo * 4 + b2n l.satHi * 2 + b2n l.arith

/-- CTR1 and CTR0, CTR3 and CTR2 in their words. -/
def ctrWords (l : List Nat) : Block :=
  [w32 (l.getD 0 0 + 2 ^ 16 * l.getD 1 0), w32 (l.getD 2 0 + 2 ^ 16 * l.getD 3 0)]

/-- I_LAST: 0x8000_0000 where no current is formed (R513). -/
def iField (i : Option Int) : Word :=
  match i with
  | some x => wInt x
  | none => 0x80000000#32

/-- The CH_STATUS payload. -/
def State.statusWords (s : State) (n : Fin 256) : Block :=
  let c := s.ch n
  let g := groupOf n
  let nib := ((s.servingNib g.val).map fun k => k.val).getD 31
  let clr := if c.state = .tripped then c.clearTo.code else 0
  let bus := s.busShown n
  [w32 (c.state.code * 2 ^ 28 + b2n c.run.trans.isSome * 2 ^ 27 + b2n c.run.startAt.isSome * 2 ^ 26
      + b2n c.run.runValid * 2 ^ 25 + nib * 2 ^ 20 + clr * 2 ^ 16 + c.run.pos % 4096),
   w32 (s.measFlags n c.meas.ovrV c.meas.ovrI (decide (bus < 100000)) * 2 ^ 16 + c.loop.flags),
   w32 ((s.dieOf (dieOfCh n)).activePins * 2 ^ 16 + c.tripCause.toNat),
   w32 (cfSlot c.cfg).val, wInt c.meas.vLast, iField c.meas.iLast, w32 (tField (s.tempShown n)), wInt bus]
    ++ words64 (tickNs c.acc.st) ++ words64Int (qRep c.acc.stepQ) ++ words64Int (eRep c.acc.stepE)
    ++ words64Int (qRep c.acc.runQC) ++ words64Int (qRep c.acc.runQD) ++ words64Int (eRep c.acc.runEC)
    ++ words64Int (eRep c.acc.runED)
    ++ [w32 c.drive.clamp, w32 c.drive.suppress, w32 c.drive.overrun] ++ ctrWords c.run.ctrs
    ++ words64 (c.run.startAt.getD 0)

/-- CH_STATUS. -/
def execChStatus (m : MbCmd) (s : State) : Host.Outcome State Fault Refusal :=
  .next ((chanHdr 0x0204 16 0).run (chanVerdict fun n t => .done t 0 (t.statusWords n)) m s)

/-! ### CH_CLEAR (R59, R60) -/

/-- CH_CLEAR on a channel. -/
def State.clear (n : Fin 256) (s : State) : Verdict :=
  match s.chanCheck n (fun st => st == .tripped) with
  | some (st, d) => .refuse st d []
  | none =>
    let c := s.ch n
    let live := s.activeCauses n &&& c.tripCause.toNat
    if live ≠ 0 then .refuse RC_TRIP_ACTIVE live []
    else .done (((s.updCh n fun c => { c with tripCause := 0 }).toState n c.clearTo).raise 0x0202 INFO n.val
      (c.tripCause.toNat + 2 ^ 16 * c.clearTo.code)) 0 []

/-- CH_CLEAR. -/
def execChClear (m : MbCmd) (s : State) : Host.Outcome State Fault Refusal :=
  .next ((chanHdr 0x0205 16 1).run (chanVerdict State.clear) m s)

/-! ### Pins -/

/-- A TRIP input reaches a level after its filter (R54 to R58). (DEDUCED, log 26) -/
def execTripPin (f : Fin 4) (k : Fin 8) (level : Bool) (s : State) : Host.Outcome State Fault Refusal :=
  let put (x : BitVec 8) : BitVec 8 :=
    if level then x ||| BitVec.ofNat 8 (2 ^ k.val) else x &&& ~~~(BitVec.ofNat 8 (2 ^ k.val))
  let s1 := s.updDie f fun d => { d with tripLevel := put d.tripLevel }
  if level && tripEnabled (s.dieOf f).tripCfg k.val then
    .next (forAll (fun n t => if (cfTripSel (t.ch n).cfg).testBit k.val then t.trip n 1 else t) (dieChannels f) s1)
  else .next s1

/-- The filtered GPg_N rises: PRESENCE trips (R62). -/
def execGpReleased (g : Fin 16) (s : State) : Host.Outcome State Fault Refusal :=
  let s1 := (s.startTimer (.boardOut g) 2500000).updGrp g fun x => { x with
    released := true
    seated := false }
  .next (forAll (fun n t => t.trip n 128) (groupChannels g) s1)

/-- The filtered GPg_N falls: the 100 ms count starts (R63). -/
def execGpSeated (g : Fin 16) (s : State) : Host.Outcome State Fault Refusal :=
  .next ((s.startTimer (.boardIn g) 25000000).updGrp g fun x => { x with
    released := false
    seated := false })

/-- The pin has stayed high for 10 ms: the group's channels go ABSENT (R62). -/
def execChBoardRemoved (g : Fin 16) (s : State) : Host.Outcome State Fault Refusal :=
  if !(s.grp g).released || !s.ranOut (.boardOut g) || (groupChannels g).all (fun n => (s.ch n).state == .absent) then .next s
  else
    .next ((forAll (fun n t => (t.updCh n fun c => { c with
        run := { c.run with
          startAt := none
          trans := none }
        drive := c.drive.low }).toState n .absent) (groupChannels g) s).raise 0x0205 ALARM g.val g.val)

/-- The pin has been low for 100 ms: ABSENT channels go OFF (R63). -/
def execChBoardInserted (g : Fin 16) (s : State) : Host.Outcome State Fault Refusal :=
  if (s.grp g).released || !s.ranOut (.boardIn g) then .next s
  else
    let s1 := s.updGrp g fun x => { x with seated := true }
    let gone := (groupChannels g).filter fun n => (s.ch n).state == .absent
    if gone.isEmpty then .next s1
    else .next ((forAll (fun n t => t.toState n .off) gone s1).raise 0x0206 NOTICE g.val g.val)

/-! ### Reload capture (R39 to R53) -/

/-- P and A of a latched word, and the lowest step of R39 that changed a value (0: none). -/
def formPeriod (cfg : Block) (h : Option Block) (first : Bool) (w : BitVec 64) : Nat × Nat × Nat :=
  let on : Nat := (w.toNat / 2 ^ 20) % 2 ^ 20
  let per : Nat := w.toNat % 2 ^ 20
  let lim := min (max per (cfPmin cfg)) (cfPmax cfg)
  let p := if cfFixed cfg || first then cfPeriod cfg else lim
  let a0 : Int := if cfFixed cfg then (on : Int) else if cfCarrier cfg = 3 then (cfTconst cfg : Int) else (p : Int) - cfTconst cfg
  let a := clampOn h p a0
  let s23 := !cfFixed cfg && !first && p != per
  (p, a, if s23 then (if cfCarrier cfg = 3 then 2 else 3) else if (a : Int) = a0 then 0 else 4)

/-- Edges of S in a period that begins at `b` and holds the high interval from `r` to `f` (R41, R42). -/
def edgesOf (b p r f : Nat) : List (Bool × Nat) :=
  if f ≤ r then [(false, b)]
  else (if b < r then [(false, b), (true, r)] else [(true, b)]) ++ (if f < b + p then [(false, f)] else [])

/-- Edges of S from reload boundary `b` to the next and the distance between the two (R41, R45, R47). The first capture of a CENTRE
channel stands for its start word: it forms S from the start of the first period to its centre. -/
def segment (cfg : Block) (first : Bool) (b p a : Nat) : List (Bool × Nat) × Nat :=
  let c := p / 2
  match cfCarrier cfg, cfCentre cfg with
  | 0, _ => (edgesOf b p b (b + a), p)
  | 3, _ => (edgesOf b p b (b + a), p)
  | 2, false => (edgesOf b p (b + c - a / 2) (b + c + (a + 1) / 2), p)
  | 2, true =>
    if first then (edgesOf b c (b + c - a / 2) (b + c), c)
    else if a = 0 then ([(false, b)], p)
    else if a = p then ([(true, b)], p)
    else ([(true, b), (false, b + (a + 1) / 2)] ++ (if a / 2 = 0 then [] else [(true, b + p - a / 2)]), p)
  | 4, _ => (if a = 0 then [(false, b)] else edgesOf b p (b + cfTconst cfg) (b + p), p)
  | _, _ => (edgesOf b p (b + p - a) (b + p), p)

/-- Dead time of the gate that follows a level of S (R50, R51). -/
def deadTime (cfg : Block) (high : Bool) : Nat := if high then cfDtRise cfg else cfDtFall cfg

/-- An interval of S is a suppressed pulse: longer than its dead time, shorter than dead time plus MIN_PULSE (R51). -/
def suppressed (cfg : Block) (mp : Nat) (high : Bool) (len : Nat) : Bool :=
  decide (deadTime cfg high < len) && decide (len < deadTime cfg high + mp)

/-- The gate's on-time for an interval of S from `t0` to `t1`: the dead time after its first edge to its last (R51). -/
def onTimeOf (cfg : Block) (mp : Nat) (high : Bool) (t0 t1 : Nat) : List (Nat × Nat) :=
  if deadTime cfg high < t1 - t0 && decide (deadTime cfg high + mp ≤ t1 - t0) then [(t0 + deadTime cfg high, t1)] else []

/-- S takes level `lvl` at instant `t`: the interval that ends gives its gate a pulse, or is suppressed (R51, R52). -/
def Gates.edge (cfg : Block) (mp : Nat) (lvl : Bool) (t : Nat) (g : Gates) : Gates × List (Bool × Nat) :=
  if lvl = g.high then (g, [])
  else
    let next : Gates := { g with
      high := lvl
      since := some t }
    match g.since with
    | none => (next, [])
    | some e =>
      let on := onTimeOf cfg mp g.high e t
      (if g.high then { next with gh := g.gh ++ on } else { next with gl := g.gl ++ on },
        if suppressed cfg mp g.high (t - e) then [(g.high, t - e)] else [])

/-- S goes through edges, oldest first: the gates after them and the suppressed pulses. -/
def Gates.follow (cfg : Block) (mp : Nat) : List (Bool × Nat) → Gates → Gates × List (Bool × Nat)
  | [], g => (g, [])
  | (lvl, t) :: l, g =>
    let (g1, o1) := g.edge cfg mp lvl t
    let (g2, o2) := g1.follow cfg mp l
    (g2, o1 ++ o2)

/-- Level of one gate at instant `t` of the phase reference: within a pulse, or the dead time after the edge that began the
interval which now runs (R33, R51). -/
def Gates.level (cfg : Block) (high : Bool) (t : Nat) (g : Gates) : Bool :=
  (if high then g.gh else g.gl).any (fun x => decide (x.1 ≤ t) && decide (t < x.2))
    || (g.high == high && decide (t < g.horizon) && g.since.any fun e => decide (e + deadTime cfg high ≤ t))

/-- The level of CHn_GH and CHn_GL (R33, R34): both low while the channel's drive holds no gate pulses. -/
def State.pinGH (s : State) (n : Fin 256) : Bool :=
  match (s.ch n).drive.gates with
  | some g => g.level (s.ch n).cfg true s.phase
  | none => false

/-- CHn_GL, as `State.pinGH`. -/
def State.pinGL (s : State) (n : Fin 256) : Bool :=
  match (s.ch n).drive.gates with
  | some g => g.level (s.ch n).cfg false s.phase
  | none => false

/-- S goes through the edges of a reload interval that begins at the present boundary and has the length `len`: the gates'
pulses; suppressed ones are counted and the first reported (R51, R52). (DEDUCED, log 32) -/
def State.pulses (n : Fin 256) (edges : List (Bool × Nat)) (len : Nat) (s : State) : State :=
  let c := s.ch n
  let b := c.drive.reload
  let g0 := c.drive.gates.getD { horizon := b }
  let live (l : List (Nat × Nat)) := l.filter fun x => decide (b < x.2 + captureLead)
  let (g, sup) := Gates.follow c.cfg c.drive.minPulse edges { g0 with
    horizon := b + len
    gh := live g0.gh
    gl := live g0.gl }
  let s1 := s.updCh n fun c => { c with
    drive := { c.drive with
      gates := some g
      suppress := satAdd c.drive.suppress sup.length
      suppressSeen := c.drive.suppressSeen || !sup.isEmpty } }
  match sup with
  | (hi, len) :: _ => if c.drive.suppressSeen then s1 else s1.raise 0x0204 INFO n.val (b2n (!hi) + 2 ^ 8 * len)
  | [] => s1

/-- A latch forms the period and its pulses: clamps are counted and the first reported (R39, R40). (DEDUCED, log 32) -/
def State.latch (n : Fin 256) (drives : Bool) (s : State) : State :=
  let c := s.ch n
  let w := c.drive.heldWord
  let (p, a, step) := formPeriod c.cfg (s.hlimOf n) c.drive.first w
  let (edges, len) := segment c.cfg c.drive.first c.drive.reload p a
  let s1 := s.updCh n fun c => { c with
    drive := { c.drive with
      latched := w
      period := p
      onTime := a
      first := false
      driving := drives
      periods := if cfFixed c.cfg then [] else c.drive.periods ++ [p]
      clamp := if step = 0 then c.drive.clamp else satAdd c.drive.clamp 1
      clampSeen := c.drive.clampSeen || step != 0 } }
  let s2 := if step != 0 && !c.drive.clampSeen then
      s1.raise 0x0203 NOTICE n.val (w.toNat % 2 ^ 20 + 2 ^ 20 * (w.toNat / 2 ^ 20 % 2 ^ 20) + 2 ^ 40 * step)
    else s1
  let s3 := if drives then s2.pulses n edges len else s2
  s3.updCh n fun c => { c with drive := { c.drive with reload := c.drive.reload + len } }

/-- An overrun of a channel (R113, R114). (DEDUCED, log 57) -/
def State.overrun (n : Fin 256) (s : State) : State :=
  match s.evalNib n with
  | none => s
  | some k =>
    let c := s.ch n
    let s1 := (s.updCh n fun c => { c with
      loop := { c.loop with overrun := true }
      drive := { c.drive with
        overrun := satAdd c.drive.overrun 1
        consec := c.drive.consec + 1
        overdue := c.drive.overdue + 1 } }).raise 0x0401 NOTICE n.val (satAdd c.drive.overrun 1 + 2 ^ 32 * ((c.drive.consec + 1) % 4))
    if c.drive.consec + 1 < 3 then s1
    else ((s1.updCh n fun c => { c with drive := { c.drive with consec := 0 } }).raise 0x0402 ALARM k.val
      (n.val + 2 ^ 8 * (groupOf n).val)).nibFault k true

/-- One reload boundary of a ramp-down, whose carrier is FIXED trailing (R61). (DEDUCED, log 57) -/
def State.rampStep (n : Fin 256) (left an start total : Nat) (pfail : Bool) (s : State) : State :=
  if left = 0 then
    let s1 := s.updCh n fun c => { c with
      drive := { c.drive with
        ramp := none
        driving := false
        onTime := 0 } }
    if pfail then s1.ckpt n 4 else s1
  else
    let a := (start + divFree (((an : Int) - start) * ((total - left + 1 : Nat) : Int)) total).toNat
    let b := (s.ch n).drive.reload
    let p := (s.ch n).drive.period
    ((s.updCh n fun c => { c with
      drive := { c.drive with
        ramp := some (left - 1, an, start, total, pfail)
        onTime := a } }).pulses n (edgesOf b p b (b + a)) p).updCh n fun c => { c with
      drive := { c.drive with reload := b + p } }

/-- An update in flight is due at reload boundary `b`: its capture point lies at or after S + 2.78 µs (R48). -/
def dueAt (b : Nat) (x : Nat × Bool) : Bool := decide (x.1 + pathTicks + captureLead ≤ b)

/-- The due updates of a capture, oldest first: one whose word is held ends the run of overruns, another is an overrun
(R48, R113, R114). -/
def State.meetUpdates (n : Fin 256) : List (Nat × Bool) → State → State
  | [], s => s
  | (_, true) :: l, s => (s.updCh n fun c => { c with drive := { c.drive with consec := 0 } }).meetUpdates n l
  | (_, false) :: l, s => (s.overrun n).meetUpdates n l

/-- New tap calibrations of the channel's delay lines are applied at a reload boundary (R36, R49). -/
def Taps.apply (t : Taps) : Taps := { used := t.next.getD t.used }

/-- The delay lines of both gates take their waiting calibrations. -/
def State.applyTaps (n : Fin 256) (s : State) : State :=
  s.updCh n fun c => { c with
    drive := { c.drive with
      tapsH := c.drive.tapsH.apply
      tapsL := c.drive.tapsL.apply } }

/-- No period follows the one that runs: both gates go low at the boundary, up to which their pulses are formed (R34, R49). -/
def State.stopDrive (n : Fin 256) (s : State) : State :=
  s.updCh n fun c => { c with drive := { c.drive with driving := false } }

/-- Up to 2 µs after the fence of its Nib a late word may land and be held; it drives like any other (R208). -/
def State.lateLands (n : Fin 256) (s : State) : State :=
  match (s.ch n).drive.late with
  | none => s
  | some t =>
    (s.updCh n fun c => { c with
      drive := { c.drive with
        heldWord := (Config.lateWord s.rst.free).getD c.drive.heldWord
        late := if s.now < t + 500 then some t else none } }).tickFree

/-- Reload capture of a channel. In a flush before a reset, or once the ramp of the power-fail sequence is over, both gates
stay low (R197, R476). (DEDUCED, log 57) -/
def State.captureChannel (n : Fin 256) (s0 : State) : State :=
  let s := (s0.applyTaps n).lateLands n
  let c := s.ch n
  match c.drive.ramp with
  | some (left, an, start, total, pf) => s.rampStep n left an start total pf
  | none =>
    if s.rst.flushing.isSome || s.rst.pfailSeq then s.stopDrive n
    else if c.state.active then
      let due := c.drive.flights.filter (dueAt c.drive.reload)
      ((s.latch n true).updCh n fun c => { c with
        drive := { c.drive with flights := c.drive.flights.filter fun x => !dueAt (s.ch n).drive.reload x } }).meetUpdates n due
    else if c.state = .tripped then s.latch n false
    else s.stopDrive n

/-- The signed on-time of a GM word (R276). -/
def gmOn (w : BitVec 64) : Int := signed 20 (w.toNat / 2 ^ 20 % 2 ^ 20)

/-- A coil latches its held word when CLAIM agrees (R209, R276). -/
def Coil.latch (claim : BitVec 4) (c : Coil) : Coil :=
  if !c.fresh then c
  else if c.heldWord.toNat / 2 ^ 60 = claim.toNat then
    { c with
      latched := gmOn c.heldWord
      live := true
      fresh := false }
  else { c with fresh := false }

/-- The held word of a coil is refused for its CLAIM. -/
def Coil.refused (claim : BitVec 4) (c : Coil) : Bool := c.fresh && c.heldWord.toNat / 2 ^ 60 != claim.toNat

/-- Reload capture of an axis (R276, R209, R113, R114). -/
def State.captureAxis (a : Fin 8) (late : Bool) (s : State) : State :=
  let cl := s.nibs.acceptClaim
  let s1 := s.updAx a fun x => { x with
    claimRefused := satAdd x.claimRefused (b2n (x.coilA.refused cl) + b2n (x.coilB.refused cl))
    coilA := x.coilA.latch cl
    coilB := x.coilB.latch cl }
  if !late then s1.updAx a fun x => { x with
    consec := if x.wordNew then 0 else x.consec
    wordNew := false }
  else match s.servingNib 16 with
    | none => s1
    | some k =>
      let x := s1.ax a
      let s2 := (s1.updAx a fun x => { x with
        overrun := satAdd x.overrun 1
        consec := x.consec + 1
        overdue := x.overdue + 1
        wordNew := false }).raise 0x0401 NOTICE a.val (satAdd x.overrun 1 + 2 ^ 32 * ((x.consec + 1) % 4))
      if x.consec + 1 < 3 then s2
      else ((s2.updAx a fun x => { x with consec := 0 }).raise 0x0402 ALARM k.val (a.val + 2 ^ 8 * 16)).nibFault k true

/-- RELOAD_CAPTURE. `late` of an axis: the capture point was the due reload of an update whose word is not held (R26, R48, R113); of a
channel the state shows it. (DESIGN CHOICE, log 57) -/
def execReloadCapture (w : CaptureOf) (late : Bool) (s : State) : Host.Outcome State Fault Refusal :=
  match w with
  | .channel n => .next (s.captureChannel n)
  | .axis a => .next (s.captureAxis a late)

/-- Delay line of a die: line 2k is that of GH, line 2k + 1 that of GL of the die's channel k. (DESIGN CHOICE, log 35) -/
def lineChannel (f : Fin 4) (line : Fin 128) : Fin 256 := Fin.ofNat 256 (64 * f.val + line.val / 2)

/-- A new calibration of a delay line waits for the next reload boundary of its channel (R36). -/
def State.newTaps (f : Fin 4) (line : Fin 128) (err : Int) (s : State) : State :=
  s.updCh (lineChannel f line) fun c => { c with
    drive := if line.val % 2 = 0 then { c.drive with tapsH := { c.drive.tapsH with next := some err } }
      else { c.drive with tapsL := { c.drive.tapsL with next := some err } } }

/-- DLINE_CALIBRATION: a line within ±1 fine tick is calibrated, and its channel uses the new calibration from its next reload
boundary; a line that fails raises 0x0207, a line that has never been calibrated keeps the die's mark (R36, R37).
(DEDUCED, log 35) -/
def execDlineCalibration (f : Fin 4) (line : Fin 128) (err : Int) (s : State) : Host.Outcome State Fault Refusal :=
  let d := s.dieOf f
  if err.natAbs ≤ 1 then
    let bad := d.dlineBad.filter fun l => l != line.val
    .next ((s.newTaps f line err).updDie f fun d => { d with
      dlineBad := bad
      dlineOk := d.dlineOk || (!d.dlineBad.isEmpty && bad.isEmpty) })
  else if d.dlineBad.contains line.val then .next s
  else .next (s.raise 0x0207 ALARM f.val (line.val + 2 ^ 8 * (err % (256 : Int)).toNat))

end Sys2Proof.Machine
end

