-- ==== Sys2Proof/Machine/Trig.lean ====
section
/-! DEFINITION. Sine and cosine of a fraction of a turn, and the estimate of TUNE over them (R124, R126). The spec gives neither a
precision: values are kept to 2^-30 and which neighbour a value takes is free (log entries 8 and 9). -/

namespace Sys2Proof.Machine

/-- Scale of the working values, and π in it. -/
def trigOne : Int := 10 ^ 40
def trigPi : Int := 31415926535897932384626433832795028841971

/-- Terms of a Taylor series with alternating signs: the term `x`, the square of the angle, the next factorial step, terms left. -/
def taylor (sq : Int) : Nat → Int → Int → Int
  | 0, _, _ => 0
  | k + 1, m, x => x - taylor sq k (m + 2) (x * sq / trigOne / ((m + 1) * (m + 2)))

/-- Sine and cosine of an angle of the first quadrant, at the working scale. -/
def quarter (x : Int) : Int × Int := (taylor (x * x / trigOne) 24 1 x, taylor (x * x / trigOne) 24 0 trigOne)

/-- Sine and cosine of `a` / `b` of a turn, at the working scale. -/
def turn (a b : Nat) : Int × Int :=
  if b = 0 then (0, trigOne)
  else
    let t := 4 * a % (4 * b)
    let (s, c) := quarter (trigPi * (t % b : Nat) / (2 * b))
    match t / b with
    | 0 => (s, c)
    | 1 => (c, -s)
    | 2 => (-s, -c)
    | _ => (-c, s)

/-- A working value in Q2.30: one of its two neighbours, which is free (log 8). -/
def trigQ30 (x : Int) : Int := divFree (x * 2 ^ 30) 10000000000000000000000000000000000000000

/-- sin(2π a / b) and cos(2π a / b) in Q2.30. -/
def sinTurn (a b : Nat) : Int := trigQ30 (turn a b).1
def cosTurn (a b : Nat) : Int := trigQ30 (turn a b).2

/-- The recurrence of R126 over values x in Q2.30, oldest first: s1 and s2 after the last; `c` is 2 cos(w) in Q2.30. -/
def goertzel (c : Int) : List Int → Int × Int → Int × Int
  | [], s => s
  | x :: l, (s1, s2) => goertzel c l (x + divFree (c * s1) (2 ^ 30) - s2, s1)

/-- X or Y of R126 at w = a / b of a turn: real and imaginary part in 2^-60. -/
def goertzelEnd (a b : Nat) (l : List Int) : Int × Int :=
  let (s1, s2) := goertzel (2 * cosTurn a b) l (0, 0)
  (s1 * 2 ^ 30 - s2 * cosTurn a b, s2 * sinTurn a b)

/-- The squared magnitude of a complex number. -/
def normSq (z : Int × Int) : Nat := (z.1 * z.1 + z.2 * z.2).toNat

/-- 10^((2 g − 1) / 2000) ≤ p / q, for p and q above 0: g is at most the rounded 1,000 x log10(p / q). -/
def logAtLeast (p q : Nat) (g : Int) : Bool :=
  if 0 < g then decide (10 ^ (2 * g - 1).toNat * q ^ 2000 ≤ p ^ 2000)
  else decide (q ^ 2000 ≤ p ^ 2000 * 10 ^ (1 - 2 * g).toNat)

/-- The largest value from `lo` to `lo` + 2^k − 1 that a falling predicate still accepts, `lo` taken as accepted. -/
def searchDown (ok : Int → Bool) : Nat → Int → Int
  | 0, lo => lo
  | k + 1, lo => if ok (lo + 2 ^ k) then searchDown ok k (lo + 2 ^ k) else searchDown ok k lo

/-- GAIN_CDB = round(100 x 20 x log10(|Y| / |X|)) (R126): 0x8000_0000 for |X| = 0; for |Y| = 0 alone it is unstated. -/
def gainCdb (x y : Int × Int) : Int :=
  if normSq x = 0 then -2147483648
  else if normSq y = 0 then Config.unstated 50
  else searchDown (logAtLeast (normSq y) (normSq x)) 20 (-2 ^ 19)

/-- The angle of a number of the upper half plane is at least (2 g − 1) / 72,000 of a turn. -/
def argAtLeast (z : Int × Int) (g : Int) : Bool :=
  if g ≤ 0 then true
  else if 18000 < g then false
  else
    let (s, c) := turn (2 * g - 1).toNat 72000
    decide (0 ≤ z.2 * c - z.1 * s)

/-- PHASE_CDEG = round(100 x (arg Y − arg X)), wrapped to −17,999 to 18,000 (R126); unstated where an argument has none. -/
def phaseCdeg (x y : Int × Int) : Int :=
  if normSq x = 0 || normSq y = 0 then Config.unstated 51
  else
    let z : Int × Int := (y.1 * x.1 + y.2 * x.2, y.2 * x.1 - y.1 * x.2)
    let up := decide (0 ≤ z.2)
    let g := searchDown (argAtLeast (if up then z else (z.1, -z.2))) 15 0
    if up then g else if g = 18000 then 18000 else -g

end Sys2Proof.Machine
end

