-- ==== Sys2Proof/Machine/Loop.lean ====
section
/-! DEFINITION. The loop engines: one evaluation of a channel (R100 to R110, R135 to R147, R152), the test signal and estimate
of TUNE (R124 to R126), LOOP_SET and LOOP_GET (R116 to R120). -/

namespace Sys2Proof.Machine

/-! ### The control law (R104, R105) -/

/-- What stage 2 works on: mode 0 CC, 1 CV, 2 CP, 3 CR, 4 DUTY; the setpoint (a CV setpoint in 2^-30 of 10 µV, the injection
included); I_LIM; injections in Q2.30; the loop sample; the bus sample; G x SHUNT. -/
structure LawIn where
  mode : Nat
  charge : Bool
  set_ : Int
  ilim : Int
  injI : Int := 0
  injD : Int := 0
  v : Int
  i : Int
  bus : Int
  scale : Nat

/-- e_o before its shift, in Q2.30 (R104). -/
def outerError (x : LawIn) : Int :=
  if x.mode = 1 then sat (divRound (x.set_ - x.v * 2 ^ 30) 512000)
  else if x.mode = 2 then
    let p := sat (divRound (x.set_ * 10 ^ 7 * 2 ^ 30 * x.scale) (512000 * 1280000000000))
    sat (roundQ (p * 2 ^ 30 - normV x.v * normI x.scale x.i))
  else sat (divRound (-(x.v * 10000000 + x.set_ * x.i) * 2 ^ 30) (512000 * 10000000))

/-- Outcome of the outer loop: reference, integrator, at a limit, strictly between the limits, a bound reached. -/
structure OuterOut where
  iref : Int
  integ : Int
  atLimit : Bool
  inside : Bool
  bound : Bool

/-- The outer loop (R105, R106). -/
def outerLoop (cs : Block) (x : LawIn) (lo hi integ : Int) (innerPrev : Bool) : OuterOut :=
  let j := x.mode - 1
  let kp := csKp cs j
  let eRaw := outerError x * 2 ^ csOuterShift cs
  let e := sat eRaw
  let preRaw := roundQ (kp * e + integ * 2 ^ 30)
  let pre := sat preRaw
  let go := decide (lo < pre) && decide (pre < hi) && !innerPrev
  let intRaw := roundQ (integ * 2 ^ 30 + csKi cs j * e)
  let integ1 := if go then sat intRaw else integ
  let oRaw := roundQ (kp * e + integ1 * 2 ^ 30)
  let o := sat oRaw
  let iref := clampInt lo hi o
  { iref := iref, integ := integ1, atLimit := iref == lo || iref == hi, inside := decide (lo < o) && decide (o < hi),
    bound := atBound eRaw || atBound preRaw || (go && atBound intRaw) || atBound oRaw }

/-- Stage 2 of an evaluation: the new loop state with D in `dLast`; whether the outer output lay strictly inside its limits;
whether a Q2.30 bound was reached; whether D was clamped low or high (R105 to R107). -/
def lawEval (cs : Block) (x : LawIn) (l : LoopSt) : LoopSt × Bool × Bool :=
  let ffRaw := if csFfEn cs then divRound (csFfGain cs * x.v) (busFloored x.bus).toNat else 0
  let ff := sat ffRaw
  let irRaw := divRound (x.set_ * 2 ^ 30 * x.scale) 1280000000000
  let (lo, hi) := (outerLimits x.mode x.charge x.ilim x.scale).getD (0, 0)
  let out : OuterOut := if x.mode = 0 then
      { iref := sat irRaw, integ := l.integ, atLimit := false, inside := false, bound := atBound irRaw }
    else if x.mode = 4 then { iref := 0, integ := l.integ, atLimit := false, inside := false, bound := false }
    else outerLoop cs x lo hi l.integ l.innerPrev
  let duty := x.mode == 4
  let refRaw := out.iref + x.injI
  let eiRaw := (sat refRaw - normI x.scale x.i) * 2 ^ csInnerShift cs
  let ei := if duty then Config.unstated 20 else sat eiRaw
  let yRaw := roundQ (csB0 cs * ei + csB1 cs * l.e1 + csB2 cs * l.e2 - csA1 cs * l.y1 - csA2 cs * l.y2)
  let y := if duty then 0 else sat yRaw
  let dRaw := if duty then x.set_ + x.injD else y + ff + x.injD
  let d0 := sat dRaw
  let d := clampInt (csDmin cs) (csDmax cs) d0
  let yNew := d - ff - x.injD
  let clamped := d != d0
  let bound := (csFfEn cs && atBound ffRaw) || out.bound || (!duty && (atBound refRaw || atBound eiRaw || atBound yRaw))
    || atBound dRaw || atBound yNew
  ({ l with
      e1 := ei
      e2 := l.e1
      y1 := sat yNew
      y2 := l.y1
      integ := out.integ
      dLast := d
      iref := if duty then 0 else sat refRaw
      innerPrev := clamped
      outerNow := out.atLimit
      innerNow := clamped
      busFloor := l.busFloor || (csFfEn cs && decide (x.bus < 100000))
      outerLim := l.outerLim || out.atLimit
      satLo := l.satLo || (clamped && decide (d0 < d))
      satHi := l.satHi || (clamped && decide (d < d0))
      arith := l.arith || bound }, out.inside, bound)

/-! ### Accumulators (R110, R135) -/

/-- Add a span of `dt` ticks with the sample (v, i). The step's own part moves in RUNNING only. -/
def Accs.add (running : Bool) (dt v i : Int) (a : Accs) : Accs :=
  let q := i * dt
  let e := v * i * dt
  let pos := decide (0 < i)
  let neg := decide (i < 0)
  { st := if running then ((a.st : Int) + dt).toNat else a.st
    stepQ := if running then a.stepQ + q else a.stepQ
    stepE := if running then a.stepE + e else a.stepE
    runQC := if pos then a.runQC + q else a.runQC
    runQD := if neg then a.runQD - q else a.runQD
    runEC := if pos then a.runEC + e else a.runEC
    runED := if neg then a.runED + (((v * i).natAbs : Nat) : Int) * dt else a.runED }

/-- The window length of this evaluation and the drive after it; the corrections due (R110). -/
def Channel.window (c : Channel) (v i : Int) : Nat × List (Int × Int × Int) × Drive :=
  let k := cfK c.cfg
  if cfFixed c.cfg then (k * cfPeriod c.cfg, [], c.drive)
  else
    let (adj, debts, ps) := payDebts c.drive.debts c.drive.periods
    let own := ps.take k
    let short := k - own.length
    (own.foldl (· + ·) 0 + short * c.drive.period, adj,
      { c.drive with
        periods := ps.drop k
        debts := if short = 0 then debts else debts ++ [(short, c.drive.period, v, i)] })

/-- Stage 1 of R100: the ticks counted and the channel after it. -/
def Channel.accumulate (c : Channel) : Nat × Channel :=
  let v := c.meas.loopV
  let i := c.meas.loopI
  let run := c.state == .running
  let (dt, adj, d) := c.window v i
  let a := (c.drive.owed ++ adj).foldl (fun (a : Accs) x => a.add run x.1 x.2.1 x.2.2) c.acc
  (dt, { c with
    acc := a.add run dt v i
    loop := { c.loop with
      mirrorV := v
      mirrorI := i }
    drive := { d with owed := [] } })

/-! ### dV/dt slices (R140) -/

/-- Close the running slice and those skipped since; `whole` tells whether it lay wholly within the step. -/
def closeSlices (m : Nat) (sl : Nat × Int × Nat × Bool) (l : List (Int × Nat)) : List (Int × Nat) :=
  let (k, sum, n, whole) := sl
  (List.replicate (min (m - k - 1) 255) ((0 : Int), 0) ++ (sum, if whole then n else 0) :: l).take 60001

/-- A loop sample joins its slice; a slice lies wholly within the step when the step began in an earlier one. -/
def Channel.slice (c : Channel) : Channel :=
  let m := c.meas.loopTick / msTicks
  let v := c.meas.loopV
  match c.run.slice with
  | none => { c with run := { c.run with slice := some (m, v, 1, decide (c.run.sliceFrom < m)) } }
  | some (k, sum, n, whole) =>
    if k = m then { c with run := { c.run with slice := some (k, sum + v, n + 1, whole) } }
    else { c with
      run := { c.run with
        slices := closeSlices m (k, sum, n, whole) c.run.slices
        slice := some (m, v, 1, true) } }

/-- The slope over `w` ms in µV/s, none while a slice does not lie wholly within the step (R140). -/
def Run.slope (r : Run) (w : Nat) : Option Int :=
  let a : Int × Nat := r.slices.getD 0 (0, 0)
  let b : Int × Nat := r.slices.getD w (0, 0)
  if a.2 = 0 || b.2 = 0 then none
  else some (divTrunc ((a.1 * (b.2 : Int) - b.1 * (a.2 : Int)) * 10000) ((a.2 : Int) * b.2 * w))

/-! ### TUNE: test signal and estimate (R124 to R126) -/

/-- Taps of the PRBS registers below the highest (R124). (DEDUCED, log 33) -/
def prbsTaps : Nat → List Nat
  | 7 => [6] | 8 => [6, 5, 4] | 9 => [5] | 10 => [7] | 11 => [9] | 12 => [11, 10, 4] | 13 => [12, 11, 8]
  | 14 => [13, 12, 2] | _ => [14]

/-- One shift of a Fibonacci register of `n` stages; stage n is the output bit. (DEDUCED, log 33) -/
def prbsShift (n r : Nat) : Nat :=
  let fb := (n :: prbsTaps n).foldl (fun b t => b != r.testBit (t - 1)) false
  (2 * r + b2n fb) % 2 ^ n

/-- f_L: phase increments are round(F x 2^32 / f_L) with 1 / f_L = K x P ticks (R124). -/
def phaseInc (cfg : Block) (f : Nat) : Nat := (divRound (f * 2 ^ 32 * loopTicks cfg : Nat) 12800000000000).toNat

/-- φ[k] of a CHIRP (R124): the sum of the increments of the evaluations before k, which rise linearly from `a` to `b` over `n`
evaluations. (DEDUCED, log 8) -/
def chirpPhase (a b n k : Nat) : Nat := (k * a + divFree (((b : Int) - a) * (k * (k - 1) : Nat)) (2 * n)).toNat

/-- s[k] of a TUNE in 2^-30 of its unit (R124). -/
def Tune.signal (t : Tune) (cfg : Block) : Int :=
  let a : Int := natAt t.cmd 12
  match fieldAt t.cmd 0 1 0 with
  | 0 => if t.prbs.testBit (fieldAt t.cmd 0x18 3 0 - 1) then a * 2 ^ 30 else -(a * 2 ^ 30)
  | 1 => a * sinTurn (t.k * phaseInc cfg (natAt t.cmd 0x10) % 2 ^ 32) (2 ^ 32)
  | _ => a * sinTurn (chirpPhase (phaseInc cfg (natAt t.cmd 0x10)) (phaseInc cfg (natAt t.cmd 0x14))
      (natAt t.cmd 0x1C + natAt t.cmd 0x20) t.k % 2 ^ 32) (2 ^ 32)

/-- The injection normalised as in R103: INJ_POINT 0 I_REF, 1 V_REF, 2 DUTY. -/
def normInj (point scale : Nat) (sQ : Int) : Int :=
  if point = 0 then sat (divRound (sQ * scale) 1280000000000)
  else if point = 1 then sat (divRound sQ 512000)
  else sat (roundQ sQ)

/-- GAIN_CDB and PHASE_CDEG of the analysed pairs at w = F_AN / f_L of a turn (R126). (DEDUCED, log 9) -/
def Tune.estimate (t : Tune) (cfg : Block) : Int × Int :=
  let f := natAt t.cmd 0x24
  let f := if fieldAt t.cmd 0 1 0 = 1 && f = 0 then natAt t.cmd 0x10 else f
  let part (g : Int × Int → Int) := goertzelEnd (f * loopTicks cfg) 12800000000000 (t.analysed.map g)
  (gainCdb (part Prod.fst) (part Prod.snd), phaseCdeg (part Prod.fst) (part Prod.snd))

/-- The TUNE after an evaluation with the pair (x, y). -/
def Tune.advance (t : Tune) (x y : Int) : Tune :=
  if !t.injecting then t
  else
    let settle := natAt t.cmd 0x1C
    let total := settle + natAt t.cmd 0x20
    let n := fieldAt t.cmd 0x18 3 0
    let div := fieldAt t.cmd 0x18 23 16 + 1
    let ana := decide (settle ≤ t.k)
    { t with
      k := t.k + 1
      prbs := if (t.k + 1) % div = 0 then prbsShift n t.prbs else t.prbs
      analysed := if ana then t.analysed ++ [(x, y)] else t.analysed
      n := if ana then t.n + 1 else t.n
      injecting := decide (t.k + 1 < total)
      finished := t.finished || decide (total ≤ t.k + 1) }

/-! ### Setpoints of an evaluation -/

/-- Step time at the start of the evaluation, as the law sees it: during a pending transition the previous step's law goes
on, so its own step time does (R153). -/
def Channel.lawTime (c : Channel) (st0 : Nat) : Nat :=
  match c.run.trans, c.run.prev with
  | some _, some p => p.st + st0
  | _, _ => st0

/-- V_START as the law sees it. -/
def Channel.lawVStart (c : Channel) (v : Int) : Int :=
  match c.run.trans, c.run.prev with
  | some _, some p => p.vStart
  | _, _ => c.run.vStart.getD v

/-- A PULSE is in its base phase at step time `t` (R144). -/
def pulseBase (e : Block) (t : Nat) : Bool :=
  let gap := fieldAt e 12 31 16 * 128000
  let width := fieldAt e 12 15 0 * 128000
  decide (t % (gap + width) < gap)

/-- The law's input for the step in the Nib (R134, R143, R144). -/
def Channel.stepLaw (c : Channel) (st0 : Nat) (bus : Int) : LawIn :=
  let e := c.run.cur.getD []
  let ty := stType e
  let v := c.meas.loopV
  let t := c.lawTime st0
  let vs := c.lawVStart v
  let vset := if ty = tCVCHG && stC e != 0 then min (stA e) (max vs (vs + stC e * (t / msTicks : Nat))) else stA e
  let vset := if ty = tCVCHG && decide (stA e ≤ vs) then stA e else vset
  let set_ : Int := if ty = tREST || ty = tOCV || ty = tWAITSYNC then 0
    else if ty = tPULSE then (if pulseBase e t then stB e else stA e)
    else if stMode ty = 1 then vset * 2 ^ 30 else stA e
  { mode := stMode ty, charge := stCharge ty, set_ := set_, ilim := stB e, v := v, i := c.meas.loopI, bus := bus,
    scale := cfScale c.cfg }

/-- The law's input at the operating point of TUNE (R121, R122), and the pair (x, y) of R125. -/
def Channel.tuneLaw (c : Channel) (t : Tune) (bus : Int) : LawIn × Int × Int :=
  let op := fieldAt t.cmd 0 17 16
  let pt := fieldAt t.cmd 0 9 8
  let sQ := if t.injecting then t.signal c.cfg else 0
  let x := normInj pt (cfScale c.cfg) sQ
  let v := c.meas.loopV
  let i := c.meas.loopI
  let y := if pt = 1 then normV v else normI (cfScale c.cfg) i
  let val := intAt t.cmd 4
  let lim := intAt t.cmd 8
  ({ mode := if op = 2 then 4 else op, charge := decide (0 ≤ lim),
     set_ := if op = 1 then val * 2 ^ 30 + (if pt = 1 then sQ else 0) else val,
     ilim := (lim.natAbs : Int), injI := if pt = 0 then x else 0, injD := if pt = 2 then x else 0,
     v := v, i := i, bus := bus, scale := cfScale c.cfg }, x, y)

/-! ### Stages 1, 2 and 4 -/

/-- The values a step collects for its STEP record: V_START, crossover, pulse, OCV samples (R139, R143 to R145). -/
def Channel.collect (c : Channel) (st0 : Nat) (inside : Bool) : Channel :=
  if c.run.trans.isSome then c
  else
    let e := c.run.cur.getD []
    let ty := stType e
    let v := c.meas.loopV
    let i := c.meas.loopI
    let base := pulseBase e st0
    let ends := !base && pulseBase e c.acc.st
    { c with
      run := { c.run with
        vStart := some (c.run.vStart.getD v)
        stepRan := true
        crossover := if (ty = 4 || ty = 5) && inside then (c.run.crossover <|> some (c.acc.st, c.acc.stepQ)) else c.run.crossover
        pulseBase := if ty = tPULSE && base then some (v, i) else c.run.pulseBase
        pulseLast := match c.run.pulseBase with
          | some (v0, i0) => if ty = tPULSE && ends then some (v0, v, i0, i) else c.run.pulseLast
          | none => c.run.pulseLast
        ocv := if ty = tOCV then (c.acc.st, v) :: c.run.ocv else c.run.ocv } }

/-- The word of the oldest update in flight that has none is held. -/
def wordHeld : List (Nat × Bool) → List (Nat × Bool)
  | [] => []
  | (x, true) :: l => (x, true) :: wordHeld l
  | (x, false) :: l => (x, true) :: l

/-- The word of stage 4 is held at the FE die (R108); a word of an overdue update is not one that met its deadline (R114). -/
def Channel.writeWord (c : Channel) : Channel :=
  let (on, p) := wordOf c.cfg c.loop.dLast
  { c with
    drive := { c.drive with
      heldWord := packWord 0 on p
      flights := if c.drive.overdue = 0 then wordHeld c.drive.flights else c.drive.flights
      overdue := c.drive.overdue - 1 } }

/-- Stages 1, 2 and 4 for a channel in RUNNING: the channel after them and whether a Q2.30 bound was reached. -/
def Channel.evalRun (c : Channel) (bus : Int) : Channel × Bool :=
  let st0 := c.acc.st
  let (_, c1) := c.accumulate
  let cs := c.setOf (stCset (c.run.cur.getD []))
  let (l, inside, bound) := lawEval cs (c1.stepLaw st0 bus) c1.loop
  let c2 := ({ c1 with loop := l } : Channel).slice
  ((c2.collect st0 inside).writeWord, bound)

/-- Stages 1, 2 and 4 for a channel in TUNE. -/
def Channel.evalTune (c : Channel) (t : Tune) (bus : Int) : Channel × Bool :=
  let (_, c1) := c.accumulate
  let (x, inj, y) := c1.tuneLaw t bus
  let (l, _, bound) := lawEval (c.setOf (fieldAt t.cmd 0 21 20)) x c1.loop
  (({ c1 with
    loop := { l with inj := inj }
    tune := some (t.advance inj y) } : Channel).writeWord, bound)

/-! ### Stage 3: guards, conditions, sync end -/

/-- The guard a sample breaks: its code and value (R137, R168). (DEDUCED, log 32) -/
def brokenGuard (e : Block) (v i : Int) (t : Option Int) : Option (Nat × Int) :=
  if stGvMax e ≠ 0x7FFFFFFF && decide (stGvMax e < v) then some (0, v)
  else if stGvMin e ≠ -2147483648 && decide (v < stGvMin e) then some (1, v)
  else if stGiMax e ≠ 0x7FFFFFFF && decide (stGiMax e < i.natAbs) then some (2, i)
  else match t with
    | some x => if stGtMax e ≠ 0x7FFF && decide (stGtMax e < x) then some (3, x) else none
    | none => none

/-- Condition `k` of the step in the Nib is true (R139, R140). -/
def Channel.condTrue (c : Channel) (t : Option Int) (k : Nat) : Bool :=
  let e := c.run.cur.getD []
  let x := cdValue e k
  let v := c.meas.loopV
  let i : Int := c.meas.loopI.natAbs
  let dv := v - c.run.vStart.getD v
  let slope := c.run.slope (cdWindow e k)
  match cdKind e k with
  | 1 => decide (x * 64000000 ≤ (c.acc.st : Int) * 5)
  | 2 => decide (x ≤ v)
  | 3 => decide (v ≤ x)
  | 4 => decide (x ≤ i)
  | 5 => decide (i ≤ x)
  | 6 => decide (x * 1000 * (64 * 10 ^ 6) ≤ absInt c.acc.stepQ * 5)
  | 7 => decide (x * 1000 * (64 * 10 ^ 14) ≤ absInt c.acc.stepE * 5)
  | 8 => match slope with
    | some r => decide (x ≤ r)
    | none => false
  | 9 => match slope with
    | some r => decide (r ≤ x)
    | none => false
  | 10 => match t with
    | some r => decide (x ≤ r)
    | none => false
  | 11 => decide (x ≤ dv)
  | 12 => decide (dv ≤ x)
  | 13 => match slope with
    | some r => decide (absInt r ≤ x)
    | none => false
  | _ => false

/-- The conditions tested in this evaluation: none below 1 ms or while a transition is pending, only TIME while settling
(R136, R153, R204). -/
def Channel.tested (c : Channel) : List Nat :=
  if c.acc.st < msTicks || c.run.trans.isSome then []
  else (List.range 4).filter fun k =>
    let kd := cdKind (c.run.cur.getD []) k
    kd != 0 && (c.run.settle == 0 || kd == 1)

/-- The sync instant T_S of a WAIT_SYNC step (R146, R416, R396). -/
def State.syncInstant (s : State) (c : Channel) : Option Nat :=
  let e := c.run.cur.getD []
  match fieldAt e 4 1 0 with
  | 0 => c.run.syncTime
  | 1 =>
    let o := vgetD s.tb.slot (fieldAt e 4 11 8) {}
    if !o.en then none
    else if !o.periodic || o.period = 0 || c.run.entered ≤ o.start then some o.start
    else some (o.start + (c.run.entered - o.start + o.period - 1) / o.period * o.period)
  | 2 => (s.fab.sync.find? fun x => x.1.toNat == fieldAt e 4 31 16).map fun x => x.2.2
  | _ => none

/-- How a step ends in an evaluation (R142, R146): the action and its target. -/
inductive Fired where
  | goto_ (target cond also : Nat) (late : Option Nat)
  | finish (cond also : Nat)
  | hold (target cond also : Nat)

/-- The condition or sync end that ends the step, a condition before the sync end (R142, R146). (DEDUCED, log 32) -/
def State.fired (s : State) (n : Fin 256) : Option Fired :=
  let c := s.ch n
  let e := c.run.cur.getD []
  let t := s.tempOf n
  match c.tested.filter fun k => c.condTrue t k with
  | k :: rest =>
    let also := rest.foldl (fun a j => a + 2 ^ j) 0
    match cdAction e k with
    | 0 => some (.goto_ (cdTarget e k) k also none)
    | 1 => some (.goto_ (c.run.idx + 1) k also none)
    | 2 => some (.finish k also)
    | _ => some (.hold (cdTarget e k) k also)
  | [] =>
    if stType e ≠ tWAITSYNC || c.acc.st < msTicks || c.run.trans.isSome then none
    else match s.syncInstant c with
      | some ts => if ts ≤ c.meas.loopS then some (.goto_ (c.run.idx + 1) 15 0 (some (c.meas.loopS - ts))) else none
      | none => none

/-! ### Stage 5: the step boundary (R28, R142, R151, R152) -/

/-- What the next step's BRANCHes see of the step that ends (R149). -/
def State.prevOf (s : State) (n : Fin 256) (cond : Nat) : PrevStep :=
  let c := s.ch n
  { stepQ := c.acc.stepQ, stepE := c.acc.stepE, st := c.acc.st, v := c.meas.loopV, i := c.meas.loopI, t := s.tempOf n,
    cond := cond, vStart := c.run.vStart.getD c.meas.loopV }

/-- The boundary's item that makes a Ductus engine load the next primary-next (R28). -/
def State.postPreload (n : Fin 256) (s : State) : State :=
  match s.servingNib (groupOf n).val with
  | some k => s.post n.val .ductus 1 (.preload n) 0 (.nib k)
  | none => s

/-- The item of a mediated transition (R152). -/
def State.postMediated (n : Fin 256) (s : State) : State :=
  match s.servingNib (groupOf n).val with
  | some k => s.post n.val .ductus 0 (.mediated n) 0 (.nib k)
  | none => s

/-- A new step in the Nib: the inner histories stay with the same coefficient set, the outer integrator starts from the
current of the boundary evaluation (R102). -/
def Channel.enterStep (index : Nat) (entry : Block) (ctrs : List Nat) (oldSet : Nat) (i : Int) (now : Nat) (c : Channel) : Channel :=
  let same := stCset entry == oldSet
  { c with
    loop := { c.loop with
      e1 := if same then c.loop.e1 else 0
      e2 := if same then c.loop.e2 else 0
      y1 := if same then c.loop.y1 else 0
      y2 := if same then c.loop.y2 else 0
      integ := startInteg (stLimits entry (cfScale c.cfg)) (cfScale c.cfg) i }
    run := { c.run with
      pos := index
      idx := index
      cur := some entry
      next := none
      nextDone := false
      trans := none
      ctrs := ctrs
      entered := now } }

/-- The late end of a WAIT_SYNC is reported when at least one loop period late (R147). -/
def syncLate (cfg : Block) (late : Option Nat) : Bool :=
  match late with
  | some l => decide (loopTicks cfg * 5 ≤ l * 64)
  | none => false

/-- The step ends: STEP record, checkpoint, pre-load item, and the path to the target (R28, R142, R152, R153). (DEDUCED, log 21)
(DEDUCED, log 32) -/
def State.boundary (n : Fin 256) (f : Fired) (s : State) : State :=
  let c := s.ch n
  let idx := c.run.idx
  let time := c.meas.loopS
  let era := some c.meas.loopEra
  match f with
  | .finish cond also =>
    let s1 := (s.record (s.stepRec n time { next := 0xFFFF, cond := cond, also := also, era := era })).updCh n Channel.freshStep
    (((s1.become n .done).ckpt n 0).postPreload n).doneEvent n idx 1
  | .hold t cond also =>
    let s1 := (s.record (s.stepRec n time { next := t, cond := cond, also := also, era := era })).updCh n fun c =>
      let d := c.freshStep
      { d with
        run := { d.run with
          pos := t
          cur := none
          next := none
          nextDone := false
          prev := some (s.prevOf n cond) } }
    ((((s1.become n .held).ckpt n 0).postPreload n)).raise 0x0504 NOTICE n.val (idx + 2 ^ 16 * cond + 2 ^ 32 * t)
  | .goto_ t cond also late =>
    let sl := syncLate c.cfg late
    let warn (u : State) : State :=
      if sl then u.raise 0x0505 NOTICE n.val (idx + 2 ^ 32 * min (late.getD 0) 0xFFFFFFFF) else u
    let x : StepEnd := { next := t, cond := cond, also := also, late := late, syncLate := sl, era := era }
    let set0 := stCset (c.run.cur.getD [])
    match c.run.next with
    | some ld =>
      if ld.src = t then
        if stType ld.entry = tEND then
          let s1 := (s.record (s.stepRec n time { x with next := 0xFFFF })).updCh n fun c =>
            let d := c.freshStep
            { d with
              run := { d.run with
                cur := none
                next := none
                ctrs := ld.ctrs } }
          warn ((((s1.become n .done).ckpt n 0).postPreload n).doneEvent n idx 0)
        else
          let s1 := (s.record (s.stepRec n time { x with next := ld.index })).updCh n fun c =>
            (c.freshStep).enterStep ld.index ld.entry ld.ctrs set0 c.meas.loopI s.tb.time
          warn ((s1.ckpt n 0).postPreload n)
      else
        let p := s.prevOf n cond
        let s1 := (s.record (s.stepRec n time { x with path := 1 })).updCh n fun c =>
          let d := c.freshStep
          { d with
            run := { d.run with
              pos := t
              trans := some t
              prev := some p } }
        warn (((s1.ckpt n 0).postMediated n).postPreload n)
    | none =>
      let p := s.prevOf n cond
      let s1 := (s.record (s.stepRec n time { x with path := 1 })).updCh n fun c =>
        let d := c.freshStep
        { d with
          run := { d.run with
            pos := t
            trans := some t
            prev := some p } }
      warn (((s1.ckpt n 0).postMediated n).postPreload n)

/-- A boundary of each active unit that watches it (R225 kind 14). -/
def State.seeBoundary (n : Fin 256) (s : State) : State :=
  { s with pounce := s.pounce.map fun p =>
      if p.state = .armed || p.state = .triggered || p.state = .streaming then
        { p with seen := { p.seen with bounds := p.seen.bounds ++ [n.val] } }
      else p }

/-! ### The evaluation -/

/-- A T_GE condition that is tested while T_INVALID is set, the first in the step (R141). -/
def State.tInvalid (n : Fin 256) (s : State) : State :=
  let c := s.ch n
  let e := c.run.cur.getD []
  match c.tested.filter fun k => cdKind e k == 10 with
  | k :: _ =>
    if (s.tempOf n).isNone && !c.run.tInvSeen then
      (s.updCh n fun c => { c with run := { c.run with tInvSeen := true } }).raise 0x0507 NOTICE n.val
        (c.run.idx + 2 ^ 16 * k)
    else s
  | [] => s

/-- The first ARITH_SAT since entry is reported (R109). -/
def State.arithEvent (n : Fin 256) (bound : Bool) (set step : Nat) (s : State) : State :=
  if bound && !(s.ch n).loop.arithSeen then
    (s.updCh n fun c => { c with loop := { c.loop with arithSeen := true } }).raise 0x0403 NOTICE n.val
      (set + 2 ^ 8 * (step % 256))
  else s

/-- A channel that RUNS goes to HELD by the Nib (R93, R137, R157). (DEDUCED, log 32) -/
def State.holdChannel (n : Fin 256) (s : State) : State :=
  (s.updCh n fun c => { c with meas := { c.meas with holdDue := false } }).toState n .held

/-- The settling time after a resume has passed (R204). (DEDUCED, log 29) -/
def Channel.settled (now : Nat) (c : Channel) : Channel :=
  if c.run.settle ≤ now then { c with run := { c.run with settle := 0 } } else c

/-- Stages 3 and 5 of a RUNNING channel whose sample has been evaluated: guards, conditions, the step boundary. -/
def State.testStep (n : Fin 256) (idx : Nat) (s : State) : State :=
  let c := s.ch n
  match brokenGuard (c.run.cur.getD []) c.meas.loopV c.meas.loopI (s.tempOf n) with
  | some (g, v) => (s.holdChannel n).raise 0x0503 ALARM n.val (idx + 2 ^ 16 * g + 2 ^ 32 * p32 v)
  | none =>
    let s2 := s.tInvalid n
    match s2.fired n with
    | some f => (s2.boundary n f).seeBoundary n
    | none => s2

/-- One evaluation of a RUNNING channel (R100). A HELD that is due for a converter without a spare (R93) comes after all stages.
(DEDUCED, log 32) -/
def State.evalRunning (n : Fin 256) (s : State) : State :=
  let c := (s.ch n).settled s.now
  let (c1, bound) := c.evalRun (s.grp (groupOf n)).bus
  let s1 := (s.setCh n c1).arithEvent n bound (stCset (c.run.cur.getD [])) c.run.idx
  let s2 := s1.testStep n c.run.idx
  if c.meas.holdDue && (s2.ch n).state == .running then s2.holdChannel n else s2

/-- One evaluation of a channel in TUNE (R100, R121 to R126). -/
def State.evalTuning (n : Fin 256) (t : Tune) (s : State) : State :=
  let c := s.ch n
  let (c1, bound) := c.evalTune t (s.grp (groupOf n)).bus
  let s1 := (s.setCh n c1).arithEvent n bound (fieldAt t.cmd 0 21 20) c.run.idx
  let s2 := match c1.tune with
    | some u =>
      if u.finished && !t.finished then
        let (g, p) := u.estimate c.cfg
        s1.raise 0x0406 INFO n.val (p32 g + 2 ^ 32 * p32 p)
      else s1
    | none => s1
  if c.meas.holdDue then
    (s2.updCh n fun c => { c with tune := c.tune.map fun x => { x with injecting := false } }).holdChannel n
  else s2

/-- The loop sample that the Nib of channel `n` serves next is the channel's, and what its group's Nib still has to serve after it
(R111); samples of channels that have left RUNNING and TUNE are passed over. -/
def State.nextSample (s : State) (n : Fin 256) : Option (LoopSample × List (Fin 256 × LoopSample)) :=
  match (s.grp (groupOf n)).accepted.filter fun x => (s.ch x.1).state.active with
  | (k, x) :: l => if k = n then some (x, l) else none
  | [] => none

/-- The sample enters its evaluation. -/
def State.takeSample (n : Fin 256) (x : LoopSample) (rest : List (Fin 256 × LoopSample)) (s : State) : State :=
  (s.updGrp (groupOf n) fun g => { g with accepted := rest }).updCh n fun c => { c with
    meas := { c.meas with
      loopV := x.v
      loopI := x.i
      loopS := x.time
      loopEra := x.era
      loopTick := x.tick
      evals := c.meas.evals + 1 } }

/-- A sample is served without an evaluation. -/
def State.passSample (n : Fin 256) (rest : List (Fin 256 × LoopSample)) (s : State) : State :=
  s.updGrp (groupOf n) fun g => { g with accepted := rest }

/-- NIB_EVALUATION: the loop sample next in service, of a RUNNING or TUNE channel whose group has an active Nib is evaluated; a failed
residue check commits nothing and is a Nib fault (R100, R190, R208). In a handover the Nib skips one evaluation of each channel
(R213). A channel is evaluated no further in a flush, and once its
gates are low in the power-fail sequence (R197, R476). (DEDUCED, log 57) -/
def execNibEvaluation (n : Fin 256) (residueOk : Bool) (s : State) : Host.Outcome State Fault Refusal :=
  let c := s.ch n
  match s.servingNib (groupOf n).val, s.nextSample n with
  | some k, some (x, rest) =>
    if s.rst.flushing.isSome || (s.rst.pfailSeq && !c.drive.driving) then .next s
    else match s.skipsAt n with
      | some h => .next ((s.passSample n rest).skipEvaluation n h)
      | none =>
        if !residueOk then .next (s.nibFault ((s.evalNib n).getD k) false)
        else
          let t := s.takeSample n x rest
          match c.state, c.tune with
          | .tune, some u => .next ((t.evalTuning n u).firstWord n)
          | .running, _ => .next ((t.evalRunning n).firstWord n)
          | _, _ => .next s
  | _, _ => .next s

/-! ### LOOP_SET, LOOP_GET (R116 to R120) -/

/-- The first offending word of a coefficient set (R118). -/
def badSet (p : Block) : Option Nat :=
  match firstReserved p [(0, 0xFFFEF00C)] with
  | some o => some o
  | none =>
    if 8 < csOuterShift p || 8 < csInnerShift p then some 0
    else if csDmin p < 0 then some 0x34
    else if csDmax p ≤ csDmin p || qOne < csDmax p then some 0x38
    else if wordAt p 0x3C ≠ 0 then some 0x3C
    else none

/-- LOOP_SET on a channel. -/
def State.loopSet (m : MbCmd) (n : Fin 256) (s : State) : Verdict :=
  let c := s.ch n
  match c.calRun with
  | some r => .refuse RC_CAL_RUNNING (r.left s.now) []
  | none =>
    if c.state ≠ .off && c.state ≠ .configured && c.state ≠ .held then .refuse RC_LOOP_CLOSED c.state.code []
    else match badSet m.params with
      | some o => .refuse RC_BAD_FIELD o []
      | none =>
        let k := fieldAt m.params 0 1 0
        let b := blockFit 16 m.params
        let named := (s.slotOf (cfSlot c.cfg)).setsNamed.contains k
        if c.state ≠ .off && named && !setBounds c.cfg ((s.hlimOf n).getD []) b then .refuse RC_CFG_CONFLICT 24 []
        else
          let s1 := s.updCh n fun c => { c with sets := c.sets.set k (some b) }
          .done ((s1.writeImages n).raise 0x0404 INFO n.val (k + 2 ^ 32 * (crcBlock b).toNat)) 0 []

/-- LOOP_SET. -/
def execLoopSet (m : MbCmd) (s : State) : Host.Outcome State Fault Refusal :=
  .next ((chanHdr 0x0501 80 2).run (chanVerdict (State.loopSet m)) m s)

/-- The sticky flags clear (R109). -/
def LoopSt.clearSticky (l : LoopSt) : LoopSt :=
  { l with
    busFloor := false
    overrun := false
    outerLim := false
    satLo := false
    satHi := false
    arith := false }

/-- LOOP_GET on a channel (R120). -/
def State.loopGet (m : MbCmd) (n : Fin 256) (s : State) : Verdict :=
  let c := s.ch n
  match c.calRun with
  | some r => .refuse RC_CAL_RUNNING (r.left s.now) []
  | none =>
    reserved m [(0, 0xFFFFFEFC)] <|
      let l := c.loop
      let complete := ((List.range 4).filter fun k => (c.sets.getD k none).isSome).foldl (fun a k => a + 2 ^ k) 0
      let pay := blockFit 16 (c.setOf (fieldAt m.params 0 1 0)) ++
        [w32 l.flags, wInt l.integ, wInt l.e1, wInt l.e2, wInt l.y1, wInt l.y2, wInt l.dLast, w32 c.drive.overrun, w32 complete]
      .done (if bitAt m.params 0 8 then s.updCh n fun c => { c with loop := c.loop.clearSticky } else s) 0 pay

/-- LOOP_GET. -/
def execLoopGet (m : MbCmd) (s : State) : Host.Outcome State Fault Refusal :=
  .next (({ chanHdr 0x0502 20 0 with auth := fun m => b2n (bitAt m.params 0 8) }).run (chanVerdict (State.loopGet m)) m s)

end Sys2Proof.Machine
end

