-- ==== Sys2Proof/Machine/Resolve.lean ====
section
/-! DEFINITION. What a Ductus engine works out: control steps followed to a power step or END (R148 to R150), the
primary-next of a step (R151), and the checks VK01 to VK14 of RCP_VERIFY (R165). -/

namespace Sys2Proof.Machine

/-! ### Control steps -/

/-- What a BRANCH compares (R149); without a previous step SOURCE 0 to 5 and 10 compare 0 and SOURCE 6 compares 15. An invalid
temperature compares as its field 0x8000. -/
def branchValue (prev : Option PrevStep) (a : Accs) (ctrs : List Nat) (source ctr : Nat) : Int :=
  match source with
  | 7 => qRep a.runQC
  | 8 => qRep a.runQD
  | 9 => ctrs.getD ctr 0
  | 6 => match prev with
    | some p => p.cond
    | none => 15
  | k => match prev with
    | none => 0
    | some p => match k with
      | 0 => qRep p.stepQ
      | 1 => eRep p.stepE
      | 2 => tickNs p.st
      | 3 => p.v
      | 4 => p.i
      | 5 => p.t.getD (-32768)
      | _ => p.vStart

/-- The comparison of a BRANCH (R149). -/
def branchTakes (e : Block) (x : Int) : Bool :=
  let v := intAt64 e 8
  match fieldAt e 4 5 4 with
  | 0 => decide (v ≤ x)
  | 1 => decide (x ≤ v)
  | 2 => x == v
  | _ => x != v

/-- A target followed through control steps: index and entry of the power step or END, the counters after it, and whether a
BRANCH was passed (R148 to R150). -/
def Slot.follow (sl : Slot) (prev : Option PrevStep) (a : Accs) :
    Nat → Nat → List Nat → Bool → Option (Nat × Block × List Nat × Bool)
  | 0, _, _, _ => none
  | fuel + 1, i, ctrs, br =>
    match sl.step i with
    | none => none
    | some e =>
      if stType e = tREPEAT then
        let k := fieldAt e 4 17 16
        let n := ctrs.getD k 0 + 1
        if n < fieldAt e 4 15 0 then sl.follow prev a fuel (fieldAt e 8 15 0) (ctrs.set k n) br
        else sl.follow prev a fuel (i + 1) (ctrs.set k 0) br
      else if stType e = tBRANCH then
        let x := branchValue prev a ctrs (fieldAt e 4 3 0) (fieldAt e 4 9 8)
        sl.follow prev a fuel (if branchTakes e x then fieldAt e 4 31 16 else i + 1) ctrs true
      else some (i, e, ctrs, br)

/-- Resolve a target, at most 8 control steps and the step they lead to (R150). -/
def Slot.resolve (sl : Slot) (prev : Option PrevStep) (a : Accs) (t : Nat) (ctrs : List Nat) :
    Option (Nat × Block × List Nat × Bool) := sl.follow prev a 9 t ctrs false

/-- The target that a power step pre-loads: its primary condition's, or the sync end's (R146, R151). -/
def primaryTarget (idx : Nat) (e : Block) : Option Nat :=
  if stType e = tWAITSYNC then some (idx + 1)
  else
    let p := stPrimary e
    if 3 < p then none
    else match cdAction e p with
      | 0 => some (cdTarget e p)
      | 1 => some (idx + 1)
      | _ => none

/-- Primary-next of the step in the Nib (R151): none past a BRANCH. -/
def Channel.primaryNext (c : Channel) (sl : Slot) : Option Loaded :=
  match c.run.cur with
  | none => none
  | some e =>
    match primaryTarget c.run.idx e with
    | none => none
    | some t =>
      match sl.resolve c.run.prev c.acc t c.run.ctrs with
      | some (i, x, k, false) => some { src := t, index := i, entry := x, ctrs := k }
      | _ => none

/-- The step in the Nib gets its primary-next. -/
def State.preload (n : Fin 256) (s : State) : State :=
  s.updCh n fun c => { c with
    run := { c.run with
      next := c.primaryNext (s.slotOf (cfSlot c.cfg))
      nextDone := true } }

/-! ### VK01 to VK14 (R165) -/

def zeroAt (e : Block) (offs : List Nat) : Bool := offs.all fun o => wordAt e o == 0

/-- VK03 (R134). The RAMP of CV_CHG is read as signed, and a negative one is refused. (DESIGN CHOICE, log 56) -/
def vkSets (e : Block) : Bool :=
  let a := stA e
  let b := stB e
  let vset := decide (1 ≤ a) && decide (a ≤ 512000)
  match stType e with
  | 0 => zeroAt e [4, 8, 12]
  | 1 => decide (0 < a) && zeroAt e [8, 12]
  | 2 => decide (a < 0) && zeroAt e [8, 12]
  | 3 => vset && decide (0 < b) && decide (0 ≤ stC e)
  | 4 => vset && decide (0 < b) && zeroAt e [12]
  | 5 => vset && decide (0 < b) && zeroAt e [12]
  | 6 => decide (0 < a) && decide (0 < b) && zeroAt e [12]
  | 7 => decide (a < 0) && decide (0 < b) && zeroAt e [12]
  | 8 => decide (0 < a) && decide (0 < b) && zeroAt e [12]
  | 10 => zeroAt e [4, 8] && decide (natAt e 12 < 65536)
  | 11 => decide (natAt e 4 < 0x40000) && decide (natAt e 8 < 65536) && zeroAt e [12]
  | 12 => !reservedSet e 4 0xFCC0
  | 13 => !reservedSet e 4 0xF0FC && zeroAt e [8, 12]
  | 14 => zeroAt e [4, 8, 12]
  | _ => true

/-- VK05: guards that are on, of a power step. -/
def vkGuards (e : Block) : Bool :=
  !stPower e ||
    ((stGvMax e == 0x7FFFFFFF || stGvMin e == -2147483648 || decide (stGvMin e < stGvMax e))
      && (stGiMax e == 0x7FFFFFFF || decide (1 ≤ stGiMax e)) && decide (stGtMax e ≤ 0x7FFF))

/-- VK06 for condition `k` of a recipe of `n` steps (R138, R139). VALUE is read as signed for every KIND, so that a TIME, Q_GE or E_GE
level of 2^31 and more is refused. (DESIGN CHOICE, log 56) -/
def vkCond (n : Nat) (e : Block) (k : Nat) : Bool :=
  let kd := cdKind e k
  let w := cdWindow e k
  let x := cdValue e k
  let slope := kd == 8 || kd == 9 || kd == 13
  let act := cdAction e k
  kd == 0 ||
    (decide (kd ≤ 13) && decide (act ≤ 3) && (if slope then decide (1 ≤ w) else w == 0)
      && (if kd = 1 || (4 ≤ kd && kd ≤ 7) then decide (1 ≤ x)
          else if kd = 10 then decide (-32768 ≤ x) && decide (x ≤ 32767)
          else if kd = 13 then decide (0 ≤ x) else true)
      && (if act = 0 || act = 3 then decide (cdTarget e k < n) else cdTarget e k == 0))

def usesCond (e : Block) : Bool := (List.range 4).any fun k => cdKind e k != 0

/-- VK08. -/
def vkPrimary (e : Block) : Bool :=
  let p := stPrimary e
  p == 15 || (decide (p ≤ 3) && cdKind e p != 0 && decide (cdAction e p ≤ 1))

/-- VK09. (DEDUCED, log 56) -/
def vkControl (e : Block) : Bool :=
  stPower e || (stPrimary e == 15 && stCset e == 0 && !usesCond e && zeroAt e [0x10, 0x14, 0x18, 0x1C])

/-- VK10: the range TARGET to index of a REPEAT shares no index with another REPEAT of the same counter. -/
def vkRepeat (steps : List Block) (i : Nat) (e : Block) : Bool :=
  let tgt (x : Block) := fieldAt x 8 15 0
  stType e != tREPEAT ||
    (decide (1 ≤ fieldAt e 4 15 0) && decide (tgt e < i)
      && ((List.range steps.length).zip steps).all fun x =>
          x.1 == i || stType x.2 != tREPEAT || fieldAt x.2 4 17 16 != fieldAt e 4 17 16
            || decide (x.1 < tgt e) || decide (i < tgt x.2))

/-- VK11. -/
def vkBranch (n : Nat) (e : Block) : Bool :=
  stType e != tBRANCH ||
    (decide (fieldAt e 4 3 0 ≤ 10) && decide (fieldAt e 4 31 16 < n) && (fieldAt e 4 3 0 == 9 || fieldAt e 4 9 8 == 0))

/-- VK12. -/
def vkSync (e : Block) : Bool :=
  let src := fieldAt e 4 1 0
  stType e != tWAITSYNC ||
    (decide (src ≤ 2) && (src == 1 || fieldAt e 4 11 8 == 0) && (src == 2 || fieldAt e 4 31 16 == 0))

/-- Indices a step can lead to (R142, R146, R148, R149). -/
def stepEdges (i : Nat) (e : Block) : List Nat :=
  if stType e = tREPEAT then [fieldAt e 8 15 0, i + 1]
  else if stType e = tBRANCH then [fieldAt e 4 31 16, i + 1]
  else if stType e = tEND then []
  else
    ((List.range 4).filterMap fun k =>
      if cdKind e k = 0 then none
      else match cdAction e k with
        | 0 => some (cdTarget e k)
        | 1 => some (i + 1)
        | 3 => some (cdTarget e k)
        | _ => none)
    ++ (if stType e = tWAITSYNC then [i + 1] else [])

/-- Every chain from `i` passes at most `fuel` control steps before a power step or END (VK13). -/
def chainOk (steps : List Block) : Nat → Nat → Bool
  | fuel, i =>
    match steps[i]? with
    | none => true
    | some e =>
      if stType e = tREPEAT || stType e = tBRANCH then
        match fuel with
        | 0 => false
        | f + 1 => (stepEdges i e).all fun j => chainOk steps f j
      else true

/-- VK01 to VK13 on the step at index `i`: the number of the first check that fails. VK13 takes the chain that CH_ARM resolves from
step 0 with the chains of step 0 (R150). (DEDUCED, log 56) -/
def vkStep (steps : List Block) (i : Nat) : Option Nat :=
  let n := steps.length
  let e := steps.getD i []
  let ty := stType e
  let checks : List Bool :=
    [decide (ty ≤ 14), i + 1 != n || ty == tEND, vkSets e,
     (ty != tPULSE || (fieldAt e 12 15 0 != 0 && fieldAt e 12 31 16 != 0 && stA e != stB e))
       && (ty != tOCV || (decide (1 ≤ natAt e 12) && decide (natAt e 12 ≤ 60000))),
     vkGuards e, (List.range 4).all (vkCond n e), !stPower e || ty == tWAITSYNC || usesCond e, vkPrimary e, vkControl e,
     vkRepeat steps i e, vkBranch n e, vkSync e, ((if i = 0 then [0] else []) ++ stepEdges i e).all fun j => chainOk steps 8 j]
  let bad := checks.findIdx (fun b => !b)
  if bad < checks.length then some (bad + 1) else none

/-- Indices reached from a work list (VK14). -/
def reach (steps : List Block) : Nat → List Nat → List Nat → List Nat
  | 0, _, seen => seen
  | _, [], seen => seen
  | fuel + 1, i :: work, seen =>
    if seen.contains i then reach steps fuel work seen
    else match steps[i]? with
      | none => reach steps fuel work seen
      | some e => reach steps fuel (stepEdges i e ++ work) (i :: seen)

/-- VK14: the lowest index that step 0 does not reach. -/
def unreachable_ (steps : List Block) : Option Nat :=
  let seen := reach steps (6 * steps.length + 6) [0] []
  (List.range steps.length).find? fun i => !seen.contains i

end Sys2Proof.Machine
end

