-- ==== Sys2Proof/Machine/SafetyOps.lean ====
section
/-! DEFINITION. Fields of the safety configuration (R324) and the commands a reaction in force holds off (R319). -/

namespace Sys2Proof.Machine

/-- The configuration a channel works with; all zeros where there is none (R299). -/
def MChan.conf (m : MChan) : Block := m.cfg.getD []

/-- The safety configuration as Margin-A holds it: both copies are the same while the channels agree (R299, R301). -/
def Margin.conf (m : Margin) : Block := m.a.conf

/-- The stored safety configuration: the half of Margin-A (R324, R424). -/
def Margin.cfg (m : Margin) : Option Block := m.a.stored

/-- The copy of a stored block that a channel loads: one that fails its CRC is not used (R302). -/
def MChan.load (m : MChan) : MChan :=
  { m with
    cfg := match m.stored with
      | some c => if crcOk 189 c then some c else none
      | none => none }

/-- Fields of function `f` (R324). -/
def fnOff (f : Nat) : Nat := 0x90 + 32 * f
def fnSoMask (c : Block) (f : Nat) : Nat := fieldAt c (fnOff f) 31 24
def fnManual (c : Block) (f : Nat) : Bool := bitAt c (fnOff f) 8
def fnStop1 (c : Block) (f : Nat) : Bool := bitAt c (fnOff f) 4
def fnKind (c : Block) (f : Nat) : Nat := fieldAt c (fnOff f) 2 0
def fnGrpMask (c : Block) (f : Nat) : Nat := fieldAt c (fnOff f + 4) 31 16
def fnInMask (c : Block) (f : Nat) : Nat := fieldAt c (fnOff f + 4) 15 0
def fnAxMask (c : Block) (f : Nat) : Nat := fieldAt c (fnOff f + 8) 7 0
def fnStop1Ms (c : Block) (f : Nat) : Nat := fieldAt c (fnOff f + 12) 13 0
def fnLimitA (c : Block) (f : Nat) : Int := intAt c (fnOff f + 0x10)
def fnLimitB (c : Block) (f : Nat) : Int := intAt c (fnOff f + 0x14)

/-- The lowest function with a reaction in force, in either Margin channel, among those selected. -/
def Margin.reacting (m : Margin) (sel : Nat → Bool) : Option Nat :=
  (List.range 16).find? fun f => sel f && ((vgetD m.a.fns f {}).inForce || (vgetD m.b.fns f {}).inForce)

/-- The function that holds off commands on a channel, or on an axis (R319). -/
def State.channelLock (s : State) (n : Fin 256) : Option Nat :=
  s.margin.reacting fun f => (fnGrpMask s.margin.conf f).testBit (n.val / 16)
def State.axisLock (s : State) (a : Fin 8) : Option Nat :=
  s.margin.reacting fun f => (fnAxMask s.margin.conf f).testBit a.val

/-- The refusal of R319. -/
def safetyRefusal (f : Option Nat) : Option (Nat × Nat) := f.map fun k => (RC_SAFETY_LOCK, k)

end Sys2Proof.Machine
end

