-- ==== Sys2Proof/Machine/Recipe.lean ====
section
/-! DEFINITION. Run commands (R157 to R162), CH_RESUME (R201 to R207), the items of the Ductus engines (R151 to R154, R161), the recipe
store's commands (R163 to R166). -/

namespace Sys2Proof.Machine

/-! ### Checks and the load item -/

/-- The slot holds a recipe that has been verified. -/
def Slot.ok (sl : Slot) : Bool := sl.state == .verified || sl.state == .inUse

/-- The comparison of R201, for a restored channel. -/
def State.restoredCheck (s : State) (n : Fin 256) : Option (Nat × Nat) :=
  let c := s.ch n
  let sl := s.slotOf (cfSlot c.cfg)
  match c.run.restored with
  | some (_, b) =>
    if sl.ok && sl.rcpId == wordAt b 0x10 && sl.crc == wordAt b 0x14 then none
    else some (RC_CFG_RECIPE, 0xFFFF0000 + (cfSlot c.cfg).val)
  | none => none

/-- The lowest WAIT_SYNC step with SRC 0. -/
def Slot.syncStep (sl : Slot) : Option Nat :=
  (List.range sl.total).find? fun i => match sl.step i with
    | some e => stType e == tWAITSYNC && fieldAt e 4 1 0 == 0
    | none => false

/-- The load item of CH_ARM, CH_STEP_JUMP or CH_RESUME: on the channel's flow, priority 2, the mailbox's share (R161, R170,
R176, R181). -/
def State.postLoad (n : Fin 256) (target : Nat) (m : MbCmd) (s : State) : State :=
  s.post n.val .ductus 2 (.load n target m) 0 (.mailbox m.mb)

/-- Step accumulators and ST at 0. -/
def Accs.freshRun (a : Accs) : Accs :=
  { a with
    runQC := 0
    runQD := 0
    runEC := 0
    runED := 0 }

/-- The position of a channel becomes the index that `target` resolves to, also after CH_ARM and CH_STEP_JUMP onto a control step; END leaves
no step in the Nib, and the position stays at the target itself. (DESIGN CHOICE, log 21) -/
def Channel.place (sl : Slot) (prev : Option PrevStep) (target : Nat) (c : Channel) : Channel :=
  match sl.resolve prev c.acc target c.run.ctrs with
  | some (i, e, k, _) =>
    { c with
      run := { c.run with
        pos := if stType e = tEND then target else i
        idx := if stType e = tEND then target else i
        cur := if stType e = tEND then none else some e
        next := none
        nextDone := false
        trans := none
        ctrs := k } }
  | none =>
    { c with
      run := { c.run with
        pos := target
        cur := none
        next := none
        nextDone := false
        trans := none } }

/-! ### CH_ARM, CH_START, CH_HOLD, CH_ABORT, CH_STEP_JUMP -/

/-- CH_ARM up to its load item (R157, R201). -/
def State.arm (m : MbCmd) (n : Fin 256) (s : State) : Verdict :=
  orElse (s.chanCheck n fun st => st == .configured || st == .done) <|
  orElse (s.restoredCheck n) <|
    if !(s.slotOf (cfSlot (s.ch n).cfg)).ok then .refuse RC_CFG_RECIPE 26 []
    else .hold (s.postLoad n 0 m)

/-- CH_ARM. -/
def execChArm (m : MbCmd) (s : State) : Host.Outcome State Fault Refusal :=
  .next (({ chanHdr 0x0301 16 1 with items := fun _ _ => 1 }).run (chanVerdict (State.arm m)) m s)

/-- The armed channel starts: RUNNING, or DONE at once when step 0 resolved to END (R157, R160). -/
def State.startRun (n : Fin 256) (s : State) : State :=
  match (s.ch n).run.cur with
  | some _ => s.enterRun n 0
  | none =>
    ((s.updCh n fun c => { c with run := { c.run with startAt := none } }).toState n .done).doneEvent n (s.ch n).run.pos 0

/-- A recipe that waits for a sync of SRC 0 needs SYNC_TIME (R160). -/
def State.needsSync (s : State) (n : Fin 256) (given : Bool) : Option (Nat × Nat) :=
  if given then none else (s.slotOf (cfSlot (s.ch n).cfg)).syncStep.map fun i => (RC_CFG_RECIPE, i)

/-- CH_START on a channel (R158 to R160). -/
def State.start (m : MbCmd) (n : Fin 256) (s : State) : Verdict :=
  let p := m.params
  orElse (s.chanCheck n fun st => st == .armed && (s.ch n).run.startAt.isNone) <|
  reserved m [(0, 0xFFFFFFFC)] <|
  orElse (safetyRefusal (s.channelLock n)) <|
  orElse (s.needsSync n (bitAt p 0 1)) <|
    let t := natAt64 p 4
    let s1 := s.updCh n fun c => { c with
      acc := c.acc.freshRun
      run := { c.run with syncTime := if bitAt p 0 1 then some (natAt64 p 0xC) else none } }
    if !bitAt p 0 0 then .done (s1.startRun n) 0 []
    else if t ≤ s.tb.time then .accepted ((s1.startRun n).raise 0x0508 INFO n.val t) ((s1.startRun n).ch n).state.code []
    else .accepted (s1.updCh n fun c => { c with run := { c.run with startAt := some t } }) ChState.armed.code []

/-- CH_START. -/
def execChStart (m : MbCmd) (s : State) : Host.Outcome State Fault Refusal :=
  .next ((chanHdr 0x0302 36 1).run (chanVerdict (State.start m)) m s)

/-- START_AT_REACHED: a pending start whose START_TIME the timebase has reached (R160). -/
def execStartAtReached (n : Fin 256) (s : State) : Host.Outcome State Fault Refusal :=
  match (s.ch n).state, (s.ch n).run.startAt with
  | .armed, some t => .next (if t ≤ s.tb.time then (s.startRun n).raise 0x0508 INFO n.val t else s)
  | _, _ => .next s

/-- CH_HOLD on a channel: in ARMED it cancels the pending start (R157, R162). (DEDUCED, log 32) -/
def State.hold (n : Fin 256) (s : State) : Verdict :=
  orElse (s.chanCheck n fun st => st == .running || st == .held || (st == .armed && (s.ch n).run.startAt.isSome)) <|
    match (s.ch n).state with
    | .running => .done (s.holdChannel n) 0 []
    | .armed => .done (s.updCh n fun c => { c with run := { c.run with startAt := none } }) 0 []
    | _ => .done s 0 []

/-- CH_HOLD. -/
def execChHold (m : MbCmd) (s : State) : Host.Outcome State Fault Refusal :=
  .next ((chanHdr 0x0303 16 1).run (chanVerdict State.hold) m s)

/-- The step that a command abandons: the one in the Nib, or for a restored channel the one its position names in the recipe slot. -/
def State.withStep (n : Fin 256) (s : State) : State :=
  s.updCh n fun c => { c with
    run := { c.run with cur := c.run.cur <|> (s.slotOf (cfSlot c.cfg)).step c.run.pos } }

/-- The STEP record of a step that has run and is abandoned (R155). -/
def State.abandon (n : Fin 256) (x : StepEnd) (s : State) : State :=
  let t := s.withStep n
  if (s.ch n).run.stepRan && (s.ch n).run.trans.isNone && (t.ch n).run.cur.isSome then s.record (t.stepRec n s.tb.time x) else s

/-- CH_ABORT on a channel: the pending mediated item is cancelled, a step that has run gets its STEP record (R155, R157, R162).
(DEDUCED, log 30) -/
def State.abort (n : Fin 256) (s : State) : Verdict :=
  orElse (s.chanCheck n fun st => st == .armed || st == .running || st == .held || st == .interrupted) <|
    let c := s.ch n
    let s1 : State := if c.run.trans.isSome then s.cancelMediated n
      else s.abandon n { next := 0xFFFF, reason := 1 }
    let s2 := s1.updCh n fun c => { c with
      run := { c.run with
        startAt := none
        copy := none
        resumeFrom := none
        trans := none } }
    .done ((s2.toState n .done).doneEvent n c.run.pos 2) 0 []

/-- CH_ABORT. -/
def execChAbort (m : MbCmd) (s : State) : Host.Outcome State Fault Refusal :=
  .next ((chanHdr 0x0305 16 1).run (chanVerdict State.abort) m s)

/-- CH_STEP_JUMP up to its load item (R157, R161). (DEDUCED, log 32) -/
def State.stepJump (m : MbCmd) (n : Fin 256) (s : State) : Verdict :=
  orElse (s.chanCheck n fun st => st == .armed || st == .held) <|
  reserved m [(0, 0xFFFF0000)] <|
    let t := fieldAt m.params 0 15 0
    if (s.slotOf (cfSlot (s.ch n).cfg)).total ≤ t then .refuse RC_BAD_FIELD 0 []
    else .hold (s.postLoad n t m)

/-- CH_STEP_JUMP. -/
def execChStepJump (m : MbCmd) (s : State) : Host.Outcome State Fault Refusal :=
  .next (({ chanHdr 0x0306 20 1 with items := fun _ _ => 1 }).run (chanVerdict (State.stepJump m)) m s)

/-! ### CH_RESUME -/

/-- CONV_FAULT, or no active Nib (R158); the spec gives no DETAIL here (log 14). -/
def State.hwCheck (s : State) (n : Fin 256) : Option (Nat × Nat) :=
  if (s.ch n).meas.convFault || (s.servingNib (groupOf n).val).isNone then some (RC_HW_FAULT, (Config.unstated 47).toNat)
  else none

/-- Trip causes of the channel's TRIP_CAUSE that are still active (R59). -/
def State.liveCauses (s : State) (n : Fin 256) : Nat := s.activeCauses n &&& (s.ch n).tripCause.toNat

def State.tripCheck (s : State) (n : Fin 256) : Option (Nat × Nat) :=
  if s.liveCauses n = 0 then none else some (RC_TRIP_ACTIVE, s.liveCauses n)

/-- The checks of CH_RESUME in their order (R158, R203). (DEDUCED, log 36) -/
def State.resumeCheck (s : State) (n : Fin 256) (syncSet : Bool) : Option (Nat × Nat) :=
  let c := s.ch n
  let sl := s.slotOf (cfSlot c.cfg)
  let waits : Bool := match sl.step c.run.pos with
    | some e => stType e == tWAITSYNC && fieldAt e 4 1 0 == 0
    | none => false
  if c.state = .held then
    (s.restoredCheck n).orElse fun _ => (s.hwCheck n).orElse fun _ =>
      if c.run.hasRun then none else s.needsSync n syncSet
  else if !c.run.runValid then some (RC_STATE, 7)
  else
    (s.restoredCheck n).orElse fun _ =>
    ((s.enableFail n c.drive.minPulse).map fun x => (x.2, x.1)).orElse fun _ =>
    (s.hwCheck n).orElse fun _ =>
    (s.tripCheck n).orElse fun _ =>
      if c.run.copy.isSome && !syncSet && waits then some (RC_CFG_RECIPE, c.run.pos) else none

/-- The resume needs a Ductus engine: the position is to be resolved, or loaded afresh (R158, R203). -/
def Channel.resumeLoads (c : Channel) : Bool :=
  c.state == .interrupted || c.run.cur.isNone || c.run.trans.isSome

/-- What the engine found of the position when it began: index before resolving, a pending transition. -/
structure ResumeAt where
  pos : Nat
  pending : Bool

/-- Fields of a checkpoint (R195). -/
def ckState (b : Block) : Nat := fieldAt b 4 31 28
def ckCause (b : Block) : Nat := fieldAt b 4 27 24
def ckMs (b : Block) : Nat := natAt b 8 + 2 ^ 32 * fieldAt b 0xC 15 0
def ckEra (b : Block) : Nat := fieldAt b 0xC 23 16

/-- I_BOUND, exact or rounded freely, from the step at the position held before the resume resolved it (R206). -/
def State.iBound (s : State) (n : Fin 256) (at_ : ResumeAt) (wide : Bool) : Int :=
  let c := s.ch n
  let h := (s.hlimOf n).getD []
  let most : Int := (max (hlIchg h) (hlIdis h) : Nat)
  match (s.slotOf (cfSlot c.cfg)).step at_.pos with
  | none => most
  | some e =>
    let ty := stType e
    if wide || !stPower e then most
    else if ty = 1 || ty = 2 then (stA e).natAbs
    else if 3 ≤ ty && ty ≤ 8 then stB e
    else if ty = tPULSE then (max (stA e).natAbs (stB e).natAbs : Nat)
    else divFree 1280000000000 (1024 * cfScale c.cfg)

/-- T_UNC of the copy a restored channel resumes from (R197, R206). (DEDUCED, log 29) -/
def State.tUnc (s : State) (n : Fin 256) (b : Block) : Int :=
  let kp (k : Nat) : Int := divFree (k * loopTicks (s.ch n).cfg * 5 : Nat) 64
  if ckCause b = 6 then kp 4 + 180000
  else if ckState b ≠ 3 && ckState b ≠ 8 then 0
  else match ckCause b with
    | 3 => kp 1 + ((s.chv n).ckGap : Int)
    | 4 => 200000
    | _ => (s.vel.ckptInterval * 1000000 : Nat)

/-- OUTAGE in ns at 1 ms resolution, when it is known (R205). (DEDUCED, log 29) -/
def State.outage (s : State) (b : Block) : Option Int :=
  if (s.tb.servo = .locked || s.tb.servo = .master) && s.tb.era % 256 = ckEra b then
    some (((s.tb.time / 1000000 : Nat) : Int) * 1000000 - (ckMs b : Int) * 1000000)
  else none

/-- The channel continues: ST of a REST or OCV position, the RESUME record, 0x070C, RUNNING (R203 to R207). (DEDUCED, log 29) -/
def State.resumeRun (m : MbCmd) (n : Fin 256) (at_ : ResumeAt) (s : State) : State :=
  let p := m.params
  let c := s.ch n
  let first := c.run.copy.isSome
  let copy : Option (Nat × Block) := c.run.copy <|> newestCopy (s.chv n)
  let (which, b) := copy.getD ((Config.unstated 60).toNat % 2, List.replicate 16 (w32 (Config.unstated 61).toNat))
  let out := s.outage b
  let ty := stType (c.run.cur.getD [])
  let add : Int := match out with
    | some x => if bitAt p 0 0 && (ty == tREST || ty == tOCV) && first then max x 0 else 0
    | none => 0
  let added := match out with
    | some _ => bitAt p 0 0 && (ty == tREST || ty == tOCV) && first
    | none => false
  let t : Int := if first then s.tUnc n b else if c.run.noNib then
      divFree (4 * loopTicks c.cfg * 5 : Nat) 64 + 180000 else 0
  let ib := s.iBound n at_ (at_.pending || (first && ckState b == 8))
  let vmax := hlVmax ((s.hlimOf n).getD [])
  let q := divFree (ib * t) 1000000 + 1000000
  let e := divFree (ib * vmax * t) (10 ^ 14) + 1000
  let settle := fieldAt p 0 31 16
  let s1 := s.updCh n fun c => { c with
    acc := { (if c.run.hasRun then c.acc else c.acc.freshRun) with st := c.acc.st + (add * 64 / 5).toNat }
    run := { c.run with
      copy := none
      resumeFrom := none
      syncTime := if bitAt p 0 1 then some (natAt64 p 4) else c.run.syncTime }
    tripCause := if c.state = .interrupted then 0 else c.tripCause }
  let d := s1.ch n
  let flags := b2n added + 2 * b2n out.isNone + 4 * b2n first + 8 * b2n at_.pending
  let r : Rec :=
    { typ := tRESUME, source := n.val, era := s.tb.era, time := s.tb.time, len := 15,
      body := [w32 (flags * 2 ^ 16 + ckEra b * 2 ^ 8 + which * 16 + ckCause b), w32 (settle * 2 ^ 16 + d.run.pos),
        wordAt b 0] ++ words64 (ckMs b) ++ [wInt ib]
      ++ words64 (tickNs d.acc.st) ++ words64Int (qRep d.acc.stepQ) ++ words64Int (eRep d.acc.stepE)
      ++ words64Int (qRep d.acc.runQC) ++ words64Int (qRep d.acc.runQD)
      ++ words64Int t ++ words64Int q ++ words64Int e ++ words64Int (t + 10000)
      ++ (match out with
        | some x => words64Int x
        | none => [allOnes, allOnes]) }
  let s2 := s1.enterRun n (max 1 settle)
  (s2.record r).raise 0x070C INFO n.val (d.run.pos + 2 ^ 32 * min (q / 1000000).toNat 0xFFFFFFFF)

/-- CH_RESUME on a channel. (DEDUCED, log 29) -/
def State.resume (m : MbCmd) (n : Fin 256) (s : State) : Verdict :=
  orElse (s.chanCheck n fun st => st == .held || st == .interrupted) <|
  reserved m [(0, 0xFFFC)] <|
  orElse (safetyRefusal (s.channelLock n)) <|
  orElse (s.resumeCheck n (bitAt m.params 0 1)) <|
    if (s.ch n).resumeLoads then .hold (s.postLoad n 0 m)
    else
      let at_ := (s.ch n).run.resumeFrom.getD ((s.ch n).run.pos, false)
      .done (s.resumeRun m n { pos := at_.1, pending := at_.2 }) 0 []

/-- CH_RESUME. -/
def execChResume (m : MbCmd) (s : State) : Host.Outcome State Fault Refusal :=
  .next (({ chanHdr 0x0304 28 1 with
    items := fun m s => match tgtOf m.target with
      | .channel n => b2n (s.ch n).resumeLoads
      | _ => 0 }).run (chanVerdict (State.resume m)) m s)

/-! ### Items of the Ductus engines -/

/-- The item in service on an engine. -/
def Quire.onEngine (q : Quire) (e : Fin 8) : Option Item :=
  q.items.find? fun i => i.state == .inService && i.target == .ductus && i.block == e.val

/-- A command that a load item completes is answered with the channel's present state. -/
def State.answerLoad (m : MbCmd) (n : Fin 256) (status detail : Nat) (s : State) : State :=
  s.respondLate m (answerTo m status (s.ch n).state.code detail [])

/-- The load of CH_ARM ends (R157, R376): a channel that has left the state keeps what it had. (DEDUCED, log 21) -/
def State.loadArm (m : MbCmd) (n : Fin 256) (s : State) : State :=
  let c := s.ch n
  if c.state ≠ .configured && c.state ≠ .done then s.answerLoad m n RC_STATE c.state.code
  else
    let s1 := s.updCh n fun c =>
      let d := c.freshStep
      let d0 : Channel := { d with
        meas := c.meas
        run := { d.run with
          ctrs := [0, 0, 0, 0]
          prev := none } }
      let d1 := Channel.place (s.slotOf (cfSlot c.cfg)) none 0 d0
      { d1 with
        run := { d1.run with
          runValid := true
          hasRun := false
          copy := none
          resumeFrom := none
          syncTime := none
          startAt := none } }
    ((s1.preload n).toState n .armed).answerLoad m n RC_OK 0

/-- The load of CH_STEP_JUMP ends (R155, R157, R161). NEXT_STEP of the abandoned step is the operand STEP, also where this is a control
step and the position becomes the step it resolves to. (DESIGN CHOICE, log 21) -/
def State.loadJump (m : MbCmd) (n : Fin 256) (target : Nat) (s : State) : State :=
  let c := s.ch n
  if c.state ≠ .armed && c.state ≠ .held then s.answerLoad m n RC_STATE c.state.code
  else
    let s1 := s.abandon n { next := target, reason := 2 }
    let s2 := s1.updCh n fun c =>
      let d := c.freshStep
      let d1 : Channel := { d with
        meas := c.meas
        run := { d.run with
          prev := none
          copy := none
          resumeFrom := none } }
      Channel.place (s.slotOf (cfSlot c.cfg)) none target d1
    (s2.preload n).answerLoad m n RC_OK 0

/-- The load of CH_RESUME ends: the position is resolved, then the channel is judged again (R158, R203, R376). (DEDUCED, log 21)
(DEDUCED, log 29) -/
def State.loadResume (m : MbCmd) (n : Fin 256) (s : State) : State :=
  let c := s.ch n
  let (pos, pending) := c.run.resumeFrom.getD (c.run.pos, c.run.trans.isSome)
  let at_ : ResumeAt := { pos := pos, pending := pending }
  let keeps := c.state == .held || c.state == .interrupted || c.state == .tripped
  let s1 : State := if keeps && c.resumeLoads then
      (s.updCh n fun c =>
        let d := Channel.place (s.slotOf (cfSlot c.cfg)) c.run.prev c.run.pos c
        { d with run := { d.run with resumeFrom := some (pos, pending) } }).preload n
    else s
  if c.state ≠ .held && c.state ≠ .interrupted then s1.answerLoad m n RC_STATE c.state.code
  else if c.state = .interrupted && s1.liveCauses n ≠ 0 then s1.answerLoad m n RC_TRIP_ACTIVE (s1.liveCauses n)
  else match s1.channelLock n with
    | some f => s1.answerLoad m n RC_SAFETY_LOCK f
    | none =>
      if (s1.ch n).run.cur.isNone then
        (((s1.updCh n fun c => { c with
          tripCause := if c.state = .interrupted then 0 else c.tripCause
          run := { c.run with
            copy := none
            resumeFrom := none } }).toState n .done).doneEvent n at_.pos 0).answerLoad m n RC_OK 0
      else (s1.resumeRun m n at_).answerLoad m n RC_OK 0

/-- DUCTUS_LOAD_ITEM (R161, R376). The three commands differ in LENGTH: CH_ARM 16, CH_STEP_JUMP 20, CH_RESUME 28. -/
def execDuctusLoadItem (e : Fin 8) (s : State) : Host.Outcome State Fault Refusal :=
  match s.quire.onEngine e with
  | none => .next s
  | some it =>
    match it.work with
    | .load n target m =>
      let s1 := s.finish it.uid
      if m.length = 16 then .next (s1.loadArm m n)
      else if m.length = 20 then .next (s1.loadJump m n target)
      else .next (s1.loadResume m n)
    | _ => .next s

/-- A mediated transition is resolved: the new step goes into the Nib with its primary-next, or END ends the run (R152 to R154,
R162). (DEDUCED, log 21) -/
def State.mediate (n : Fin 256) (t : Nat) (s : State) : State :=
  let c := s.ch n
  let oldSet := stCset (c.run.cur.getD [])
  match (s.slotOf (cfSlot c.cfg)).resolve c.run.prev c.acc t c.run.ctrs with
  | none => s.updCh n fun c => { c with run := { c.run with trans := none } }
  | some (i, e, k, _) =>
    if stType e = tEND then
      let s1 := s.updCh n fun c => { c with
        acc := { c.acc with
          st := 0
          stepQ := 0
          stepE := 0 }
        run := { c.run with
          cur := none
          next := none
          nextDone := false
          trans := none
          ctrs := k } }
      if c.state = .running || c.state = .held then (s1.toState n .done).doneEvent n c.run.idx 0 else s1
    else
      let cur := match c.run.prev with
        | some p => p.i
        | none => c.meas.loopI
      (s.updCh n fun c =>
        let d := c.enterStep i e k oldSet cur s.tb.time
        if c.state = .running then d else { d with loop := c.loop }).preload n

/-- DUCTUS_MEDIATED_ITEM. An item whose channel has no transition pending any more (CH_ABORT, CH_DISABLE) changes nothing (R162). -/
def execDuctusMediatedItem (e : Fin 8) (s : State) : Host.Outcome State Fault Refusal :=
  match s.quire.onEngine e with
  | none => .next s
  | some it =>
    match it.work with
    | .mediated n =>
      let s1 := s.finish it.uid
      match (s1.ch n).run.trans with
      | some t => .next (s1.mediate n t)
      | none => .next s1
    | _ => .next s

/-- DUCTUS_PRELOAD_ITEM (R151). -/
def execDuctusPreloadItem (e : Fin 8) (s : State) : Host.Outcome State Fault Refusal :=
  match s.quire.onEngine e with
  | none => .next s
  | some it =>
    match it.work with
    | .preload n =>
      let s1 := s.finish it.uid
      let r := (s1.ch n).run
      .next (if r.trans.isSome || r.nextDone then s1 else s1.preload n)
    | _ => .next s

/-! ### The recipe store (R130 to R132, R163 to R166) -/

/-- The command's slot, when its TARGET names one. -/
def slotVerdict (f : Fin 1024 → State → Verdict) (m : MbCmd) (s : State) : Verdict :=
  match tgtOf m.target with
  | .slot k => f k s
  | _ => .refuse RC_BAD_TARGET m.target.toNat []

/-- Blocks of 16 steps (R130). -/
def stepBlocks (total : Nat) : Nat := (total + 15) / 16

/-- Blocks allocated to a slot, and the unallocated ones of 4,096. -/
def Slot.blocks (sl : Slot) : Nat := if sl.state = .empty then 0 else stepBlocks sl.total
def State.freeBlocks (s : State) : Nat := 4096 - ((s.slot.toList.map Slot.blocks).foldl (· + ·) 0)

/-- Step entry `j` of an RCP_LOAD. -/
def loadEntry (p : Block) (j : Nat) : Block := (List.range 16).map fun w => wordAt p (0x10 + 64 * j + 4 * w)

/-- The offset of the first failing word of an RCP_LOAD (R164). -/
def loadFault (p : Block) (sl : Slot) : Option Nat :=
  let total := fieldAt p 0 31 16
  let first := fieldAt p 0 15 0
  let count := fieldAt p 4 1 0
  let cont := first ≠ 0
  let bad0 := total = 0 || 4096 < total || total < first + count || (cont && total ≠ sl.total)
  if bad0 then some 0
  else if reservedSet p 4 0xFFFFFFFC then some 4
  else if cont && wordAt p 8 ≠ sl.rcpId then some 8
  else if wordAt p 0xC ≠ 0 then some 0xC
  else ((List.range count).filterMap fun j =>
    let e := loadEntry p j
    if reservedSet e 0 0xFF0CFF00 || 14 < stType e then some (0x10 + 64 * j)
    else if reservedSet e 0x1C 0xFFFF0000 then some (0x10 + 64 * j + 0x1C) else none).head?

/-- RCP_LOAD on a slot. (DEDUCED, log 45) -/
def State.rcpLoad (m : MbCmd) (k : Fin 1024) (s : State) : Verdict :=
  let p := m.params
  let sl := s.slotOf k
  let total := fieldAt p 0 31 16
  let first := fieldAt p 0 15 0
  let count := fieldAt p 4 1 0
  let legal := if first = 0 then sl.state == .empty || sl.state == .loaded || sl.state == .verified
    else sl.state == .loading
  if !legal then .refuse RC_STATE sl.state.code []
  else match loadFault p sl with
    | some o => .refuse RC_BAD_FIELD o []
    | none =>
      if first = 0 && s.freeBlocks + sl.blocks < stepBlocks total then .refuse RC_NO_SPACE (stepBlocks total) []
      else
        let s1 : State := if first = 0 then
            (s.updSlot k fun x => { x with
              rcpId := wordAt p 8
              total := total
              steps := List.replicate total none
              crc := 0 }).setSlot k .loading
          else s
        let s2 := s1.updSlot k fun x => { x with
          steps := (List.range count).foldl (fun l j => l.set (first + j) (some (loadEntry p j))) x.steps }
        let s3 := if (s2.slotOf k).steps.all Option.isSome then s2.setSlot k .loaded else s2
        .done (s3.spoil k) 0 []

/-- LENGTH is checked with COUNT as it stands: COUNT = 0 is a bad LENGTH whatever LENGTH says. (DESIGN CHOICE, log 45) -/
def hdrRcpLoad : Hdr :=
  { opcode := 0x0401, forms := [6], minLen := 96, auth := fun _ => 1,
    lenOk := fun m =>
      let c := fieldAt m.params 4 1 0
      decide (1 ≤ c) && m.length.toNat == 32 + 64 * c }

/-- RCP_LOAD. -/
def execRcpLoad (m : MbCmd) (s : State) : Host.Outcome State Fault Refusal :=
  .next (hdrRcpLoad.run (slotVerdict (State.rcpLoad m)) m s)

/-- The next piece of a mailbox's RCP_VERIFY (R165, R170, R176). -/
def State.postPiece (k : Fin 8) (s : State) : State :=
  s.post (304 + k.val) .ductus 3 (.verifyPiece k) 0 (.mailbox k)

/-- RCP_VERIFY on a slot: its pieces begin. -/
def State.rcpVerify (m : MbCmd) (k : Fin 1024) (s : State) : Verdict :=
  let sl := s.slotOf k
  if sl.state ≠ .loaded && sl.state ≠ .verified then .refuse RC_STATE sl.state.code []
  else
    let v : Verify := { tag := m.tag, quiet := m.flags.getLsbD 0, slot := k, next := 0, spoiled := none }
    .hold ((s.updMb m.mb fun b => { b with verify := some v }).postPiece m.mb)

/-- RCP_VERIFY. -/
def execRcpVerify (m : MbCmd) (s : State) : Host.Outcome State Fault Refusal :=
  .next (({ opcode := 0x0402, forms := [6], lenOk := lenIs 16, minLen := 16, auth := fun _ => 1, items := fun _ _ => 1 } : Hdr).run
    (slotVerdict (State.rcpVerify m)) m s)

/-- The first failing step from `i` on, over `n` steps: index and check number. -/
def vkScan (steps : List Block) : Nat → Nat → Option (Nat × Nat)
  | 0, _ => none
  | n + 1, i => match vkStep steps i with
    | some c => some (i, c)
    | none => vkScan steps n (i + 1)

/-- RCP_VERIFY ends, and its mailbox goes on. One that has succeeded or failed a check has acted on the slot, so another RCP_VERIFY of the
slot ends in RC_STATE (R165). (DEDUCED, log 45) -/
def State.endVerify (mb : Fin 8) (v : Verify) (status detail : Nat) (payload : Block) (s0 : State) : State :=
  let s := if v.spoiled.isSome then s0 else s0.spoil v.slot
  (s.updMb mb fun b => { b with verify := none }).respondHeld mb
    { tag := v.tag, quiet := v.quiet, status := BitVec.ofNat 16 status,
      state := BitVec.ofNat 16 (s.slotOf v.slot).state.code, detail := w32 detail, payload := payload }

/-- A piece over the next `n` steps (R165). (DEDUCED, log 56) -/
def State.verifyPiece (mb : Fin 8) (v : Verify) (n : Nat) (s : State) : State :=
  match v.spoiled with
  | some code => s.endVerify mb v RC_STATE code []
  | none =>
    let k := v.slot
    let steps := (s.slotOf k).entries
    let count := min n (steps.length - v.next)
    let next := v.next + count
    let bad := (vkScan steps count v.next).orElse fun _ =>
      if next = steps.length then (unreachable_ steps).map fun i => (i, 14) else none
    match bad with
    | some (i, c) =>
      let s1 := (s.updSlot k fun x => { x with crc := 0 }).setSlot k .loaded
      (s1.raise 0x0502 INFO k.val (c + 2 ^ 16 * i)).endVerify mb v RC_CFG_RECIPE (i * 2 ^ 16 + c) []
    | none =>
      if next < steps.length then
        (s.updMb mb fun b => { b with verify := some { v with next := next } }).postPiece mb
      else
        let crc := crcBlock (steps.flatMap fun e => blockFit 16 e)
        let s1 := ((s.updSlot k fun x => { x with crc := crc }).setSlot k
          (if s.slotUsers k = 0 then .verified else .inUse))
        (s1.raise 0x0501 INFO k.val (steps.length + 2 ^ 32 * crc.toNat)).endVerify mb v RC_OK 0 [w32 steps.length, crc]

/-- RCP_VERIFY_PIECE (R154, R165): the piece in service for mailbox `mb` checks `steps` steps. -/
def execRcpVerifyPiece (mb : Fin 8) (steps : Nat) (s : State) : Host.Outcome State Fault Refusal :=
  match s.quire.items.find? (fun i => i.state == .inService && i.work == .verifyPiece mb), (s.mbox mb).verify with
  | some it, some v => .next ((s.finish it.uid).verifyPiece mb v steps)
  | some it, none => .next (s.finish it.uid)
  | none, _ => .next s

/-- RCP_DELETE on a slot (R166). -/
def State.rcpDelete (k : Fin 1024) (s : State) : Verdict :=
  let st := (s.slotOf k).state
  if st = .empty || st = .inUse then .refuse RC_STATE st.code []
  else .done ((((s.setSlot k .empty).updSlot k fun _ => {})).spoil k) 0 []

/-- RCP_DELETE. -/
def execRcpDelete (m : MbCmd) (s : State) : Host.Outcome State Fault Refusal :=
  .next (({ opcode := 0x0403, forms := [6], lenOk := lenIs 16, minLen := 16, auth := fun _ => 1 } : Hdr).run
    (slotVerdict State.rcpDelete) m s)

/-- One entry of the RCP_LIST payload (R166). -/
def State.listEntry (s : State) (i : Nat) : Block :=
  if h : i < 1024 then
    let sl := s.slotOf ⟨i, h⟩
    [sl.rcpId, w32 (s.slotUsers ⟨i, h⟩ * 2 ^ 16 + sl.state.code), w32 sl.total, if sl.ok then sl.crc else 0]
  else [0, 0, 0, 0]

/-- RCP_LIST. -/
def execRcpList (m : MbCmd) (s : State) : Host.Outcome State Fault Refusal :=
  .next (({ opcode := 0x0404, lenOk := lenIs 20, minLen := 20, auth := fun _ => 0 } : Hdr).run
    (fun m t => reserved m [(0, 0xFFFFFC00)] <|
      .done t 0 (w32 t.freeBlocks :: (List.range 14).flatMap fun j => t.listEntry (fieldAt m.params 0 9 0 + j))) m s)

end Sys2Proof.Machine
end

