-- ==== Sys2Proof/Machine/Wire.lean ====
section
/-! DEFINITION. The bytes of Ligature frames and PTP messages as the wire carries them (R8, R380, R381, R407). -/

namespace Sys2Proof

open Sys2Proof.Machine

/-- EtherType of PTP frames (R380, R407). -/
def ethPTP : BitVec 16 := 0x88F7

/-- The device's source MAC: 02 and the low 40 bits of its unique ID (R380). -/
def ownMac : BitVec 48 := BitVec.ofNat 48 (0x02 * 2 ^ 40 + Config.uid.toNat % 2 ^ 40)

/-- Bytes of a client area of at least 46 bytes, `n` of them taken already (IEEE 802.3; PRESUMED, log 17). -/
def padded (n : Nat) (bs : List Byte) : List Byte := bs ++ List.replicate (46 - n - bs.length) 0

/-- The Ligature header before HCRC, big-endian (R381). -/
def Frame.header (f : Frame) : List Byte :=
  beBytes 1 (f.ver * 16 + f.typ) ++ beBytes 1 (f.rsvd * 4 + 2 * b2n f.err + b2n f.resp) ++ beBytes 1 f.hopLimit ++ beBytes 1 f.hops
    ++ beBytes 2 f.dst.toNat ++ beBytes 2 f.src.toNat ++ beBytes 4 f.fseq.toNat ++ beBytes 2 f.len

/-- HCRC matches the header (R381). -/
def Frame.hcrcOk (f : Frame) : Bool := f.hcrc == crc16 f.header

/-- The frame with the HCRC of its header (R381). -/
def Frame.seal (f : Frame) : Frame := { f with hcrc := crc16 f.header }

/-- LEN matches the bytes of the frame, a short payload padded to the least Ethernet frame (R381). -/
def Frame.lenOk (f : Frame) : Bool := f.bytes.length == max 30 f.len

/-- The payload in words, little-endian (R381). -/
def Frame.payload (f : Frame) : Block := bytesBlock ((f.len + 3) / 4) (f.bytes.take f.len)

/-- Bytes a frame takes on the wire and in a class buffer: MAC header, Ligature header, payload and FCS (R380; log 17). -/
def frameBytes (f : Frame) : Nat := 34 + f.bytes.length

/-- An FCS behind the bytes it covers: CRC-32 as IEEE 802.3 sends it, or its inverse (R388). (PRESUMED, log 17) -/
def withFcs (inverted : Bool) (bs : List Byte) : List Byte := bs ++ wordBytes (if inverted then ~~~crc32 bs else crc32 bs)

/-- The bytes of a frame in the order of R380. -/
def Frame.wire (f : Frame) : List Byte :=
  withFcs (f.fcs != .good) (beBytes 6 f.dstMac.toNat ++ beBytes 6 f.srcMac.toNat ++ beBytes 2 f.etherType.toNat ++ f.header
    ++ beBytes 2 f.hcrc.toNat ++ f.bytes)

/-- messageType and controlField of a PTP message (IEEE 1588-2019, which R407 names; PRESUMED, log 20). -/
def PtpKind.code : PtpKind → Nat × Nat
  | .sync => (0x0, 0)
  | .delayReq => (0x1, 1)
  | .pdelayReq => (0x2, 5)
  | .pdelayResp => (0x3, 5)
  | .followUp => (0x8, 2)
  | .delayResp => (0x9, 3)
  | .announce => (0xB, 5)
  | .other => (0xD, 4)

/-- Messages that a port timestamps and the transparent clock corrects (R409, R410). -/
def PtpKind.event : PtpKind → Bool
  | .sync | .delayReq | .pdelayReq | .pdelayResp => true
  | _ => false

/-- Peer delay messages (R407, R408). -/
def PtpKind.peer : PtpKind → Bool
  | .pdelayReq | .pdelayResp => true
  | _ => false

/-- Ten bytes of a timestamp: seconds and ns, big-endian. -/
def stampBytes (t : Nat) : List Byte := beBytes 6 (t / 10 ^ 10) ++ beBytes 4 (t % 10 ^ 10 / 10)

/-- The body of a PTP message behind its header. -/
def PtpMsg.body (m : PtpMsg) : List Byte :=
  match m.kind with
  | .pdelayReq => stampBytes m.originTime ++ beBytes 10 0
  | .pdelayResp | .delayResp => stampBytes m.originTime ++ beBytes 8 m.reqId ++ beBytes 2 m.reqPort
  | .announce => stampBytes m.originTime ++ beBytes 2 (m.utcOffset % 2 ^ 16).toNat ++ beBytes 1 0 ++ beBytes 1 m.priority1
      ++ beBytes 1 m.clockClass ++ beBytes 1 m.accuracy ++ beBytes 2 m.variance ++ beBytes 1 m.priority2 ++ beBytes 8 m.grandmaster
      ++ beBytes 2 m.stepsRemoved ++ beBytes 1 0xA0
  | _ => stampBytes m.originTime

/-- correctionField on the wire: the correction and what the timestamp's ns leave out. (PRESUMED, log 20) -/
def PtpMsg.corrField (m : PtpMsg) : Int :=
  let x : Int := m.originTime % 10 * 65536
  m.correction + (x + 5) / 10

/-- The bytes of a PTP message (R407): its MAC header with the multicast address of its kind, header and body in the layout of IEEE
1588-2019, FCS. It has no Ligature header. (PRESUMED, log 20) -/
def PtpMsg.wire (m : PtpMsg) : List Byte :=
  let msg := beBytes 1 m.kind.code.1 ++ beBytes 1 0x12 ++ beBytes 2 (34 + m.body.length) ++ beBytes 1 m.domain ++ beBytes 1 0
    ++ beBytes 2 (2 ^ 9 * b2n m.twoStep + 8) ++ beBytes 8 (m.corrField % 2 ^ 64).toNat ++ beBytes 4 0 ++ beBytes 8 m.clockId
    ++ beBytes 2 m.portNo ++ beBytes 2 m.seqId ++ beBytes 1 m.kind.code.2 ++ beBytes 1 (m.logInterval % 2 ^ 8).toNat ++ m.body
  withFcs false (beBytes 6 (if m.kind.peer then 0x0180C200000E else 0x011B19000000) ++ beBytes 6 m.srcMac.toNat
    ++ beBytes 2 ethPTP.toNat ++ padded 0 msg)

/-- VER and TYPE are the known ones (R381). -/
def Frame.known (f : Frame) : Bool := f.ver == 1 && decide (1 ≤ f.typ) && decide (f.typ ≤ 7)

end Sys2Proof
end

