-- ==== Sys2Proof/Machine/FabricOps.lean ====
section
/-! DEFINITION. Frames, routes, transmit classes, caches and notices of the Ligature fabric (R380 to R398). -/

namespace Sys2Proof.Machine

/-- TIME cycles in one second, one millisecond and one microsecond (R19). -/
def second : Nat := 250000000
def millisecond : Nat := 250000
def microsecond : Nat := 250

/-- Frame types of R381. -/
def tHELLO : Nat := 1
def tDISCOVER : Nat := 2
def tWINDOW : Nat := 3
def tMAILBOX : Nat := 4
def tSTREAM : Nat := 5
def tSYNC : Nat := 6
def tNOTICE : Nat := 7

/-- Transmit class of a type (R388). -/
def frameClass (typ : Nat) : Nat := if typ = tSYNC then 0 else if typ = tSTREAM then 2 else 1

/-- Bytes of a packet in a class buffer (R388; log 17). -/
def Packet.bytes : Packet → Nat
  | .frame f => frameBytes f
  | .ptp m => m.wire.length

/-- The bytes of a packet as they leave: preamble and delimiter, the frame, and the gap between frames (IEEE 802.3; PRESUMED, log 17). -/
def Packet.wire (x : Packet) : List Byte :=
  List.replicate 7 0x55 ++ [0xD5] ++ (match x with
    | .frame f => f.wire
    | .ptp m => m.wire) ++ List.replicate 12 0x07

/-! ### Transmit classes (R388) -/

/-- Buffer sizes of R388. (DEDUCED, log 17) -/
def classBytes : Nat → Nat
  | 0 => 16384
  | 1 => 32768
  | _ => 131072

/-- The queue of a class. -/
def Port.queue (p : Port) : Nat → List Packet
  | 0 => p.q0
  | 1 => p.q1
  | _ => p.q2

def Port.enqueue (p : Port) (c : Nat) (f : Packet) : Port :=
  match c with
  | 0 => { p with q0 := p.q0 ++ [f] }
  | 1 => { p with q1 := p.q1 ++ [f] }
  | _ => { p with q2 := p.q2 ++ [f] }

/-- Bytes waiting in a class. -/
def Port.waiting (p : Port) (c : Nat) : Nat := ((p.queue c).map Packet.bytes).sum

/-- The port is idle for a class: nothing is in transmission, and the queues of the class and of every higher one are empty (R388). -/
def Port.idleFor (p : Port) (c : Nat) : Bool := p.onWire.isEmpty && (List.range (c + 1)).all fun k => (p.queue k).isEmpty

/-- A packet joins a port's class queue, or is dropped with event 0x0D0A when the buffer is full (R388). -/
def State.sendPacket (p : Fin 4) (c : Nat) (x : Packet) (s : State) : State :=
  if (s.port p).waiting c + x.bytes ≤ classBytes c then s.updPort p fun q => q.enqueue c x
  else
    let n := satAdd s.fab.qDrops 1
    ({ s with fab := { s.fab with qDrops := n } } : State).raise 0x0D0A NOTICE p.val (c + 2 ^ 32 * n)

/-- A frame joins the queue of its class. -/
def State.sendOn (p : Fin 4) (f : Frame) (s : State) : State := s.sendPacket p (frameClass f.typ) (.frame f)

/-- Send one frame on several ports. -/
def State.sendAll (ps : List (Fin 4)) (f : Frame) (s : State) : State := forAll (fun p t => t.sendOn p f) ps s

/-- The own frame: MACs, EtherType, SRC, FSEQ, HOP_LIMIT and HCRC (R380 to R382). -/
def State.ownFrame (s : State) (typ : Nat) (dst : BitVec 16) (resp err : Bool) (payload : Block) (len : Nat) : Frame :=
  ({ srcMac := ownMac, etherType := s.folio.etherType, typ := typ, resp := resp, err := err, dst := dst, src := s.fab.addr,
     fseq := s.fab.fseq, len := len, bytes := padded 16 ((blockBytes payload).take len),
     hopLimit := if typ = tHELLO then 1 else 64 } : Frame).seal

/-- FSEQ counts the device's frames (R381). -/
def State.countFrame (s : State) : State := { s with fab := { s.fab with fseq := s.fab.fseq + 1 } }

/-- The valid route entry of a destination, the lowest index first (R384). -/
def Fabric.route (f : Fabric) (dst : BitVec 16) : Option Route :=
  if f.loaded then
    (f.routes.foldl (fun (b : Option (Nat × Route)) e =>
      if e.2.dest = dst then
        match b with
        | some c => if e.1 < c.1 then some e else some c
        | none => some e
      else b) none).map fun e => e.2
  else none

/-- A port as PRIM port: UP for at least 1 s (R384). -/
def Port.primOk (p : Port) : Bool := p.up && p.usable

/-- Egress port of a unicast frame (R384). -/
def State.egress (s : State) (r : Route) (ingress : Option (Fin 4)) : Option (Fin 4) :=
  match (List.finRange 4).find? (fun p => r.prim.testBit p.val && (s.port p).primOk && some p != ingress) with
  | some p => some p
  | none => (List.finRange 4).find? fun p => r.alt.testBit p.val && (s.port p).up

/-- Egress ports of a group frame (R387). -/
def State.groupPorts (s : State) (r : Route) (ingress : Option (Fin 4)) : List (Fin 4) :=
  let down := (List.finRange 4).any fun p => r.prim.testBit p.val && !(s.port p).up
  (List.finRange 4).filter fun p =>
    (s.port p).up && some p != ingress && (r.prim.testBit p.val || (down && r.alt.testBit p.val))

/-- Egress ports of a flood frame (R387). -/
def State.floodPorts (s : State) (ingress : Option (Fin 4)) : List (Fin 4) :=
  (List.finRange 4).filter fun p => (s.port p).up && some p != ingress

/-- The group of notices and the flood address (R383). -/
def aNOTICE : BitVec 16 := 0xFFFE
def aFLOOD : BitVec 16 := 0xFFFF

/-- DST is a group or the flood address (R383). -/
def isGroup (a : BitVec 16) : Bool := decide (0xFF00 ≤ a.toNat)

/-- Egress ports of a group or flood frame; a group without a valid entry leaves nowhere. -/
def State.groupEgress (s : State) (dst : BitVec 16) (ingress : Option (Fin 4)) : List (Fin 4) :=
  if dst = aFLOOD then s.floodPorts ingress
  else match s.fab.route dst with
    | some r => s.groupPorts r ingress
    | none => []

/-- The (SRC, FSEQ) pair is in the cache of the last second (R387). -/
def State.seenFlood (s : State) (f : Frame) : Bool :=
  s.fab.flood.any fun e => e.1 == f.src && e.2.1 == f.fseq && decide (s.now < e.2.2 + second)

/-- Put a pair in the cache; the oldest leaves a full one (R387). -/
def State.markFlood (s : State) (f : Frame) : State :=
  let live := s.fab.flood.filter fun e => decide (s.now < e.2.2 + second)
  let kept := if 256 ≤ live.length then live.drop (live.length - 255) else live
  { s with fab := { s.fab with flood := kept ++ [(f.src, f.fseq, s.now)] } }

/-- A notice pair is admitted (R398). -/
def State.noticeAdmitted (s : State) (subject code : BitVec 16) : Bool :=
  !s.fab.notices.any fun e => e.1 == subject && e.2.1 == code && decide (s.now < e.2.2 + second)

/-- The cache after an admission, with event 0x0D09 when a full cache holds young pairs only (R398). -/
def State.noticeCache (s : State) (subject code : BitVec 16) : State :=
  let rest := s.fab.notices.filter fun e => !(e.1 == subject && e.2.1 == code)
  if rest.length < 256 then { s with fab := { s.fab with notices := rest ++ [(subject, code, s.now)] } }
  else
    let young := rest.all fun e => decide (s.now < e.2.2 + second)
    let t := { s with fab := { s.fab with notices := rest.drop 1 ++ [(subject, code, s.now)] } }
    if young then
      let n := satAdd s.fab.evicted 1
      let quiet := match s.fab.lastFull with
        | some c => decide (s.now < c + second)
        | none => false
      let t1 := { t with fab := { t.fab with evicted := n } }
      if quiet then t1
      else ({ t1 with fab := { t1.fab with lastFull := some s.now } } : State).raise 0x0D09 NOTICE 0 n
    else t

/-- The frame as forwarded: HOPS one more, and HCRC formed anew (R381). -/
def hop (f : Frame) : Frame := ({ f with hops := f.hops + 1 } : Frame).seal

/-- Words of a notice payload (R397). -/
def noticeWords (subject code : BitVec 16) (param : Word) (time era : Nat) : Block :=
  [w32 (subject.toNat + 2 ^ 16 * code.toNat), param] ++ words64 time ++ [w32 (era % 256)]

/-- An admitted notice is forwarded under R387 and, where the 0xFFFE entry names no port, delivered as event 0x0D08 (R398). -/
def State.passNotice (f : Frame) (ingress : Option (Fin 4)) (s : State) : State :=
  let s1 := if f.hops < f.hopLimit then s.sendAll (s.groupEgress aNOTICE ingress) (if ingress.isSome then hop f else f) else s
  match s.fab.route aNOTICE with
  | some r =>
    if r.prim = 0 ∧ r.alt = 0 then
      s1.raise 0x0D08 NOTICE 0 (natAt f.payload 0 + 2 ^ 32 * f.src.toNat)
    else s1
  | none => s1

/-- The device originates a notice (R397, R398). -/
def State.notice (code : Nat) (subject : BitVec 16) (param : Nat) (s : State) : State :=
  let c := BitVec.ofNat 16 code
  if s.noticeAdmitted subject c then
    let f := s.ownFrame tNOTICE aNOTICE false false (noticeWords subject c (w32 param) s.tb.time s.tb.era) 20
    (((s.noticeCache subject c).markFlood f).countFrame).passNotice f none
  else { s with fab := { s.fab with suppressed := satAdd s.fab.suppressed 1 } }

/-- A unicast frame without a route is dropped: event 0x0D07 and an UNREACHABLE notice (R384, R397). -/
def State.unreachable (dst : BitVec 16) (typ : Nat) (s : State) : State :=
  (s.raise 0x0D07 NOTICE 0 (dst.toNat + 2 ^ 16 * typ)).notice 4 dst typ

/-- Egress of a unicast frame by route (R384). -/
def State.routePort (s : State) (dst : BitVec 16) (ingress : Option (Fin 4)) : Option (Fin 4) :=
  match s.fab.route dst with
  | some r => s.egress r ingress
  | none => none

/-- The device sends a unicast frame of its own; a response has its fixed port when no route serves it (R385). -/
def State.sendUnicast (f : Frame) (fallback : Option (Fin 4)) (s : State) : State :=
  match s.routePort f.dst none with
  | some p => s.countFrame.sendOn p f
  | none =>
    match fallback with
    | some p => s.countFrame.sendOn p f
    | none => s.countFrame.unreachable f.dst f.typ

/-- SUBJECT and CODE of a NOTICE (R397). -/
def ntSubject (f : Frame) : BitVec 16 := BitVec.ofNat 16 (fieldAt f.payload 0 15 0)
def ntCode (f : Frame) : BitVec 16 := BitVec.ofNat 16 (fieldAt f.payload 0 31 16)

/-- The types that never leave to a group or to 0xFFFF on their way (R382, R387). -/
def neverSpread (typ : Nat) : Bool := typ == tHELLO || typ == tWINDOW || typ == tMAILBOX || typ == tSTREAM

/-- The ports on which a frame begins to leave while it still arrives: where R384 or R387 sends it, its HCRC checked, as far as the
port is idle for its class (R388). A DISCOVER frame to one address has its way from its payload (R390, R391), a notice waits for the
check of R398. (DEDUCED, log 46) -/
def State.cutPorts (p : Fin 4) (f : Frame) (s : State) : List (Fin 4) :=
  let out : List (Fin 4) :=
    if f.hopLimit ≤ f.hops || f.typ = tHELLO then []
    else if isGroup f.dst then
      if neverSpread f.typ || f.typ = tNOTICE || s.seenFlood f then [] else s.groupEgress f.dst (some p)
    else if f.typ = tDISCOVER || (f.dst = s.fab.addr && f.dst ≠ 0) then []
    else (s.routePort f.dst (some p)).toList
  if f.hcrcOk && f.known then out.filter fun q => (s.port q).idleFor (frameClass f.typ) else []

/-- What a port makes of a received frame before its type is looked at: the frame is passed on, or dropped. Another EtherType (a PAUSE
or a tagged frame among them) and an over-long frame are dropped (R378, R380). A wrong FCS, a bad HCRC and a LEN that does not match
count in CRC_ERR; an inverted FCS does not, and a frame that has begun to leave ends with the inverted FCS (R381, R388). -/
def State.receive (p : Fin 4) (f : Frame) (s : State) : Bool × State :=
  let bad (t : State) : State := t.updPort p fun q => { q with crcErr := satAdd q.crcErr 1 }
  if f.etherType ≠ s.folio.etherType || 1518 < frameBytes f then (false, s)
  else match f.fcs with
    | .good =>
      if f.hcrcOk && f.lenOk && f.len ≤ 1472 then (f.known, s.updPort p fun q => { q with rx := satAdd q.rx 1 })
      else (false, bad s)
    | .inverted => (false, s.sendAll (s.cutPorts p f) { hop f with fcs := .inverted })
    | .wrong => (false, (bad s).sendAll (s.cutPorts p f) { hop f with fcs := .inverted })

/-- A group or flood frame is passed on when HOPS allows it (R381, R387). -/
def State.passOn (p : Fin 4) (f : Frame) (s : State) : State :=
  if f.hops < f.hopLimit then s.sendAll (s.groupEgress f.dst (some p)) (hop f) else s

end Sys2Proof.Machine
end

