-- ==== Sys2Proof/Machine/Vellum.lean ====
section
/-! DEFINITION. The Vellum controller (R422 to R431) and the Blotter (R432 to R439): regions and writers, wear and row retirement,
the limiters, reservation and loss, flush, ring scan and the windows. -/

namespace Sys2Proof.Machine

/-! ### Writers and words (R424 to R431) -/

/-- Writers admitted to a word of a region (R424): `i` is the word's index in the region. (DEDUCED, log 50) -/
def writerOk (w : VWriter) (region i : Nat) : Bool :=
  match region, w with
  | 0, .folio => true
  | 0, .timebase => true
  | 0, .blotter => true
  | 1, .hlimGuard => true
  | 2, .marginA => decide (i < 512)
  | 2, .marginB => decide (512 ≤ i)
  | 3, .marginA => true
  | 4, .feDie f => i / 32 / 64 == f.val
  | 5, .nib => true
  | 5, .sequencer => true
  | 5, .folio => true
  | 6, .nib => true
  | 6, .sequencer => true
  | 6, .folio => true
  | 7, .folio => true
  | 8, .blotter => true
  | 9, .folio => true
  | 9, .marginA => true
  | 9, .marginB => true
  | 9, .hlimGuard => true
  | 10, .controller => true
  | _, _ => false

/-- The writer code of 0x0F09: the spec gives no codes (free value, log 14). -/
def writerCode : VWriter → Nat
  | .folio => (Config.unstated 70).toNat % 16
  | .timebase => (Config.unstated 71).toNat % 16
  | .blotter => (Config.unstated 72).toNat % 16
  | .hlimGuard => (Config.unstated 73).toNat % 16
  | .marginA => (Config.unstated 74).toNat % 16
  | .marginB => (Config.unstated 75).toNat % 16
  | .feDie f => (Config.unstated (76 + f.val)).toNat % 16
  | .nib => (Config.unstated 80).toNat % 16
  | .sequencer => (Config.unstated 81).toNat % 16
  | .controller => (Config.unstated 82).toNat % 16

/-- Replace a raw word. -/
def setWord (i : Nat) (d : BitVec 64) (l : List (Nat × BitVec 64)) : List (Nat × BitVec 64) :=
  (i, d) :: l.filter fun e => e.1 != i

/-- VELLUM_WORD_WRITE (R424, R426, R427): `ok` and `retryOk` say whether the cells switched at the first and the second
pulse. With no spare left after two failures the word is not written, and the region's writer finds its write failed (R200, R353,
R369) until a later write of the region succeeds. -/
def execVellumWordWrite (w : VWriter) (region : Fin 11) (i : Nat) (d : BitVec 64) (ok retryOk : Bool) (s : State) :
    Host.Outcome State Fault Refusal :=
  let (first, size) := regionAt region.val
  if size ≤ i then .next s
  else if !writerOk w region.val i then
    .next (({ s with vel := { s.vel with refused := satAdd s.vel.refused 1 } } : State).raise 0x0F09 ALARM 0
      (region.val + 2 ^ 8 * writerCode w))
  else
    let index := first + i
    let row := index / 256
    let t := s.wearRow row (if ok then 1 else 2)
    let put (x : State) : State := { x with
      vel := { x.vel with
        words := setWord index d x.vel.words
        failed := x.vel.failed.filter fun r => r != region.val } }
    if ok || retryOk then .next (put t)
    else if t.vel.rowsLeft = 0 then
      .next (State.retireRow row 3 { t with vel := { t.vel with failed := region.val :: t.vel.failed.filter fun r => r != region.val } })
    else .next (put (t.retireRow row 3))

/-- A copy that holds an uncorrectable word fails its CRC (R429); its words are what they were. (DEDUCED, log 36) -/
def Copy.spoiled : Copy → Copy
  | .good b => .bad b
  | c => c

def Image.spoiled : Image → Image
  | .good _ _ => .bad
  | i => i

/-- What a reader of an uncorrectable word makes of its structure, where that structure has a CRC: checkpoint copies and
images (words 0 to 7 and from 8 on of a channel's 64), calibration records, Blotter entries (R429, R90, R191, R196, R435).
(DEDUCED, log 50) -/
def State.spoilWord (region i : Nat) (s : State) : State :=
  let n : Fin 256 := Fin.ofNat 256 (i / 64)
  if region = 5 then
    if i % 64 < 8 then s.updChv n fun v => { v with ckA := v.ckA.spoiled } else s.updChv n fun v => { v with imgA := v.imgA.spoiled }
  else if region = 6 then
    if i % 64 < 8 then s.updChv n fun v => { v with ckB := v.ckB.spoiled } else s.updChv n fun v => { v with imgB := v.imgB.spoiled }
  else if region = 4 && i % 32 < 28 then
    s.updChv (Fin.ofNat 256 (i / 32)) fun v => { v with
      calib := lset v.calib (i % 32 / 4) (blockFit 7 (v.calib.getD (i % 32 / 4) [])
        ++ [~~~ crcBlock (blockFit 7 (v.calib.getD (i % 32 / 4) []))]) }
  else if region = 2 && i % 512 < 95 then
    let spoil (m : MChan) : MChan := { m with
      stored := m.stored.map fun c => blockFit 188 c ++ [~~~ crcBlock (blockFit 188 c)] }
    { s with margin := if i < 512 then { s.margin with a := spoil s.margin.a } else { s.margin with b := spoil s.margin.b } }
  else if region = 8 then
    let pos := i / 256 + 512 * (i % 256 / 4)
    { s with vel := { s.vel with ring := s.vel.ring.filter fun e => e.1 % 32768 != pos } }
  else s

/-- VELLUM_SCRUB (R429, R431): the controller reads one word in use. -/
def execVellumScrub (index : Fin 524288) (r : ReadOutcome) (s : State) : Host.Outcome State Fault Refusal :=
  match regionOf index.val with
  | none => .next s
  | some g =>
    let row := index.val / 256
    match r with
    | .clean => .next (s.wearRow row 1)
    | .corrected =>
      let t := s.wearRow row 2
      let again := t.vel.correctedOnce.contains index.val
      let t1 := ({ t with
        vel := { t.vel with
          corrections := satAdd t.vel.corrections 1
          correctedOnce := if again then t.vel.correctedOnce else index.val :: t.vel.correctedOnce } } : State).raise
            0x0F04 INFO 0 (index.val + 2 ^ 32 * g)
      .next (if again then t1.retireRow row 2 else t1)
    | .uncorrectable =>
      let t := (s.wearRow row 1).raise 0x0F05 ALARM 0 (index.val + 2 ^ 32 * g)
      .next ((t.spoilWord g (index.val - (regionAt g).1)).retireRow row 1)

/-- The row counts go to WEAR_MAP (R430); how many of its words that writes is not given. (DESIGN CHOICE, log 50) -/
def State.flushWear (s : State) : State :=
  ({ s with vel := { s.vel with wearMap := s.vel.wear } } : State).persist 10 ((Config.unstated 112).toNat % 32768)

/-- WEAR_MAP_FLUSH: every 60 s. -/
def execWearMapFlush (s : State) : Host.Outcome State Fault Refusal :=
  .next (if s.ranOut .wearMap then s.flushWear.startTimer .wearMap (60 * second) else s)

/-! ### Limiters (R434) -/

/-- One token, in the unit of `Limiter.tokens`. -/
def token : Nat := 250000000

/-- A limiter of a code of R434: high byte 0x01 to 0x10, low byte 0x00 to 0x3F. -/
def limitedCode (c : BitVec 16) : Bool :=
  let hi := c.toNat / 256
  decide (1 ≤ hi) && decide (hi ≤ 16) && decide (c.toNat % 256 < 64)

/-- The limiter of a code: a full default bucket where nothing else is held. -/
def Blotter.limiter (b : Blotter) (code : BitVec 16) (now : Nat) : Limiter :=
  (b.limiters.find? fun l => l.code == code).getD { code := code, tokens := 32 * token, at_ := now }

def Blotter.setLimiter (l : Limiter) (b : Blotter) : Blotter :=
  { b with limiters := l :: b.limiters.filter fun x => x.code != l.code }

/-- The bucket filled up to the present. -/
def Limiter.refill (l : Limiter) (now : Nat) : Limiter :=
  { l with
    tokens := min (l.burst * token) (l.tokens + l.rate * (now - l.at_))
    at_ := now }

/-! ### Reservation (R432, R436) -/

/-- Entries that no flush has written. -/
def Blotter.unpersisted (b : Blotter) : List Entry := b.buffer.filter fun e => !e.persisted

/-- The words of an entry as the window and an EVENT record show it (R433). -/
def Entry.words (e : Entry) : Block :=
  words64 e.ev.time ++ [w32 e.seq, w32 (e.ev.source.toNat * 2 ^ 16 + e.ev.code.toNat),
    w32 (e.ev.severity * 2 ^ 30 + e.ev.era % 256 * 2 ^ 22 + b2n e.summary * 2 ^ 20 + b2n e.lostBefore * 2 ^ 19
      + b2n e.restored * 2 ^ 18 + min e.count 0xFFFF)] ++ words64 e.ev.param.toNat ++ [0]

/-- An entry takes the next SEQ and a slot; EVENT record, vector 12, the flush and the notice follow (R254, R435). -/
def State.seat (ev : Event) (count : Nat) (summary : Bool) (s : State) : State :=
  let b := s.blot
  let mark := b.lossMark
  let e : Entry := { seq := b.nextSeq, ev := ev, count := count, summary := summary, lostBefore := mark, restored := false,
                     persisted := false }
  let room := if 8192 ≤ b.buffer.length then eraseFirst (fun x => x.persisted) b.buffer else b.buffer
  let urgent := ALARM ≤ ev.severity
  let s1 : State := { s with
    blot := { b with
      buffer := room ++ [e]
      nextSeq := (b.nextSeq + 1) % 2 ^ 32
      lossMark := false
      flushReq := b.flushReq || urgent || decide (1024 ≤ b.unpersisted.length + 1) } }
  let s2 := if s.ink.evtMin ≤ ev.severity then
      s1.record { typ := tEVENT, source := 0, era := ev.era, time := ev.time, len := 6, body := e.words }
    else s1
  let s3 := if urgent then s2.irq 12 else s2
  let s4 := if ev.severity = FATAL then s3.notice 6 s3.fab.addr ev.code.toNat else s3
  if mark then s4.raise 0x0F01 NOTICE 0 s4.blot.lost else s4

/-- One entry is lost (R436). -/
def Blotter.lose (b : Blotter) : Blotter :=
  { b with
    lost := satAdd b.lost 1
    lossMark := true }

/-- The oldest unpersisted entry of a severity is evicted. -/
def Blotter.evict (sev : Nat) (b : Blotter) : Option Blotter :=
  match b.buffer.find? (fun e => !e.persisted && e.ev.severity == sev) with
  | some e => some { b.lose with
      buffer := b.buffer.filter fun x => x.seq != e.seq
      evicted := e.seq :: b.evicted }
  | none => none

/-- An admitted event reserves its slot, or is lost (R436). -/
def State.reserve (ev : Event) (count : Nat) (summary : Bool) (s : State) : State :=
  if s.blot.unpersisted.length < 8192 then s.seat ev count summary
  else if ev.severity < ALARM then { s with blot := s.blot.lose }
  else
    match s.blot.evict INFO, s.blot.evict NOTICE with
    | some b, _ => ({ s with blot := b } : State).seat ev count summary
    | none, some b => ({ s with blot := b } : State).seat ev count summary
    | none, none => { s with blot := s.blot.lose }

/-- An event that has passed its limiter; before the end of the ring scan it waits (R437). (DEDUCED, log 24) -/
def State.logEvent (ev : Event) (count : Nat) (summary : Bool) (s : State) : State :=
  if s.blot.scanned then s.reserve ev count summary
  else { s with blot := { s.blot with early := s.blot.early ++ [(ev, count)] } }

/-- The limiter test (R434). (DEDUCED, log 24) -/
def State.limit (ev : Event) (s : State) : State :=
  let l := (s.blot.limiter ev.code s.now).refill s.now
  if token ≤ l.tokens then
    ({ s with blot := s.blot.setLimiter { l with
        tokens := l.tokens - token
        suppressed := 0
        last := none } } : State).logEvent ev l.suppressed false
  else { s with blot := s.blot.setLimiter { l with
      suppressed := l.suppressed + 1
      last := some ev } }

/-- A unit that has a sequencer at work sees an event before its limiter (R229). -/
def Pounce.seesEvent (code source : BitVec 16) (p : Pounce) : Pounce :=
  if p.state = .armed || p.state = .triggered || p.state = .streaming then
    { p with seen := { p.seen with events := p.seen.events ++ [(code, source)] } }
  else p

/-- EVENT_RAISE (R432): the oldest raise goes to its limiter. (DEDUCED, log 24) -/
def execEventRaise (s : State) : Host.Outcome State Fault Refusal :=
  match s.blot.raised with
  | [] => .next s
  | ev :: rest =>
    let t : State := { s with
      blot := { s.blot with raised := rest }
      pounce := s.pounce.map (Pounce.seesEvent ev.code ev.source) }
    .next (t.limit ev)

/-- BLOTTER_SUMMARY (R434): 1 s without a raise of a code with a suppressed count. A summary takes no token. (DEDUCED, log 24) -/
def execBlotterSummary (code : BitVec 16) (s : State) : Host.Outcome State Fault Refusal :=
  let l := s.blot.limiter code s.now
  match l.last with
  | some ev =>
    if l.suppressed = 0 || s.now < l.at_ + second then .next s
    else
      let e := { ev with
        time := s.tb.time
        era := s.tb.era }
      .next (({ s with blot := s.blot.setLimiter { l with
        suppressed := 0
        last := none } } : State).logEvent e l.suppressed true)
  | none => .next s

/-! ### Flush, ring and windows (R435 to R439) -/

/-- An entry as the ring holds it: with its CRC in the last word (R433). -/
def Entry.ringWords (e : Entry) : Block :=
  let b := blockFit 7 e.words
  b ++ [crcBlock b]

/-- The row of the ring in which SEQ s lies (R435). (DEDUCED, log 51) -/
def ringRow (s : Nat) : Nat := 0x160000 / 2048 + s % 32768 % 512

/-- One entry goes into the ring at its position (R435). (DEDUCED, log 51) -/
def State.putRing (e : Entry) (s : State) : State :=
  (({ s with
    vel := { s.vel with
      ring := s.vel.ring.filter (fun x => x.1 % 32768 != e.seq % 32768) ++ [(e.seq, e.ringWords)] } } : State).wearRow
        (ringRow e.seq) 4)

/-- Every unpersisted entry is written in SEQ order. -/
def State.flushBlotter (s : State) : State :=
  let l := s.blot.unpersisted
  let t := forAll (fun e x => x.putRing e) l s
  let t1 : State := { t with
    blot := { t.blot with
      buffer := t.blot.buffer.map fun e => { e with persisted := true }
      flushReq := false
      flushTold := none } }
  match s.blot.flushTold with
  | some _ => t1.raise 0x0F03 INFO 0 l.length
  | none => t1

/-- BLOTTER_FLUSH (R435): a flush that a cause of R435 has asked for completes. -/
def execBlotterFlush (s : State) : Host.Outcome State Fault Refusal :=
  .next (if s.blot.flushReq then s.flushBlotter else s)

/-- The RESTORED bit in the window image of a ring entry (R433, R437). -/
def restoredBit (b : Block) : Block := lset b 4 (b.getD 4 0 ||| w32 (2 ^ 18))

/-- An entry of the ring has a good CRC (R433, R437). -/
def ringOk (b : Block) : Bool := b.getD 7 0 == crcBlock (blockFit 7 b)

/-- The window image of an entry read from the ring: RESTORED where the scan after the latest restart found it, word 7 reading 0
(R433, R437). -/
def Blotter.ringImage (b : Blotter) (e : Nat × Block) : Block :=
  blockFit 7 (match b.restored with
    | some q => if seqLe e.1 q then restoredBit e.2 else e.2
    | none => e.2) ++ [0]

/-- BLOTTER_RING_SCAN (R437). (DEDUCED, log 24) (DEDUCED, log 51) -/
def execBlotterRingScan (s : State) : Host.Outcome State Fault Refusal :=
  if s.blot.scanned then .next s
  else
    let found := s.vel.ring.filter fun e => ringOk e.2
    let top := found.foldl (fun (b : Option Nat) e => match b with
      | some q => if seqLe q e.1 then some e.1 else some q
      | none => some e.1) none
    let next := match top with
      | some q => (q + 1) % 2 ^ 32
      | none => 0
    let early := s.blot.early
    let t : State := { s with
      vel := { s.vel with ring := found }
      blot := { s.blot with
        scanned := true
        restored := top
        nextSeq := next
        early := [] } }
    let t1 := t.limit (t.event 0x0F0A INFO 0 (found.length + 2 ^ 32 * next))
    .next (forAll (fun e x => x.reserve e.1 e.2 false) early t1)

/-- The oldest entry held, the next SEQ with none. -/
def State.oldestHeld (s : State) : Nat :=
  match s.vel.ring, s.blot.buffer with
  | e :: _, _ => e.1
  | [], e :: _ => e.seq
  | [], [] => s.blot.nextSeq

/-- The first SEQ of the retained range (R439). -/
def State.oldestKept (s : State) : Nat :=
  match s.vel.mark with
  | some m => if seqLe m s.oldestHeld then s.oldestHeld else m
  | none => s.oldestHeld

/-- Why a slot reads as a gap (R438). (DEDUCED, log 51) -/
def State.gapReason (s : State) (q : Nat) : Nat :=
  if seqLe s.blot.nextSeq q then 0
  else if (match s.vel.mark with
    | some m => !seqLe m q
    | none => false) then 1
  else if s.blot.evicted.contains q then 3 else 2

/-- Slot SEQ q of a window (R438). (DEDUCED, log 51) -/
def State.windowSlot (s : State) (q : Nat) : Block :=
  let marked := match s.vel.mark with
    | some m => !seqLe m q
    | none => false
  let gap : Block := [0, 0, w32 q, w32 (s.gapReason q * 2 ^ 16), 0, w32 s.oldestKept, w32 s.blot.nextSeq, w32 s.blot.lost]
  if marked || seqLe s.blot.nextSeq q then gap
  else match s.blot.buffer.find? (fun e => e.seq == q) with
    | some e => e.words
    | none => match s.vel.ring.find? (fun e => e.1 == q) with
      | some e => s.blot.ringImage e
      | none => gap

/-- The eight slots from SEQ q on; ring reads count as wear (R430, R438). -/
def State.fillWindow (s : State) (q : Nat) : List Block × State :=
  let seqs := (List.range 8).map fun k => (q + k) % 2 ^ 32
  let fromRing := seqs.filter fun k =>
    (s.blot.buffer.all fun e => e.seq != k) && (s.vel.ring.any fun e => e.1 == k) && (s.windowSlot k).getD 3 0 != w32 (2 ^ 16)
  (seqs.map s.windowSlot, forAll (fun k x => x.wearRow (ringRow k) 4) fromRing s)

end Sys2Proof.Machine
end

