-- ==== Sys2Proof/Machine/ResetOps.lean ====
section
/-! DEFINITION. What a reset does: sources and their reach (R443, R444), RESET_CAUSE (R339, R446), the flush of R197, the reaches W,
F and C on every block (R30, R261, R356, R399, R403, R405), the PCIe hot reset (R356). -/

namespace Sys2Proof.Machine

/-! ### Sources (R444) -/

/-- The RESET_CAUSE bits of a source (R339, R444, R475, R478, R494). -/
def srcBits : ResetSrc → Nat
  | .powerOn => 2 ^ 0
  | .supplyW => 2 ^ 1
  | .supplyF => 2 ^ 1
  | .standbyExit => 2 ^ 1
  | .pfailSelf => 2 ^ 2
  | .resetN => 2 ^ 3
  | .testMode => 2 ^ 3
  | .warmN => 2 ^ 4
  | .ctlF => 2 ^ 5
  | .ctlC => 2 ^ 6
  | .pcie => 2 ^ 8
  | .watchdog => 2 ^ 9
  | .folioLoss => 2 ^ 10
  | .thermal => 2 ^ 11
  | .fabricC => 2 ^ 12
  | .fabricF => 2 ^ 13
  | .refLoss => 2 ^ 14

/-- The sources that write final checkpoints (R197). -/
def srcFlushes : ResetSrc → Bool
  | .ctlF => true
  | .thermal => true
  | .fabricF => true
  | .refLoss => true
  | _ => false

/-- The sources that stay asserted until a row releases them (R444). -/
def srcHolds : ResetSrc → Bool
  | .powerOn => true
  | .supplyW => true
  | .supplyF => true
  | .resetN => true
  | .testMode => true
  | .thermal => true
  | .refLoss => true
  | .warmN => true
  | .pcie => true
  | _ => false

/-- The widest reach of the reset in progress (R446): of its asserted sources, and of a release that is not complete. (DEDUCED, log 52) -/
def State.widest (s : State) (reach : Nat) : Nat :=
  let held := (s.rst.sources.map srcReach).foldl min reach
  if s.rst.stage = 12 || s.rst.power ≠ .run then held else min held (bits s.host.resetCause 25 24)

/-- A reset is in progress: a source is asserted, or its release is not complete. -/
def State.resetting (s : State) : Bool :=
  decide (s.rst.stage ≠ 12) || s.rst.flushing.isSome || !s.rst.sources.isEmpty || s.rst.power != .run

/-- RESET_CAUSE takes a source's bits and REACH (R339, R446). Reach W leaves only the bits of its reset: of every source that took part
in it. -/
def State.cause (mask reach : Nat) (s : State) : State :=
  let took := (if s.resetting then s.rst.part else 0) ||| mask
  let old := (if reach = 0 then took else s.host.resetCause.toNat) % 2 ^ 24 ||| mask
  { s with
    host := { s.host with resetCause := w32 (old + 2 ^ 24 * s.widest reach) }
    rst := { s.rst with part := took } }

/-- A bit of RESET_CAUSE that is no source's (CLK_TIMEOUT, STUCK). -/
def State.causeBit (i : Nat) (s : State) : State :=
  { s with host := { s.host with resetCause := s.host.resetCause ||| w32 (2 ^ i) } }

/-! ### Folio cores after a restart (R18, R217) -/

/-- The cores of a restart: the first three healthy cores vote, the next is the spare; a core isolated as a minority counts as
less healthy than the others, the lower number first. With two left they vote two-of-two; with fewer the Folio stays down.
(DEDUCED, log 27) -/
def pickCores (l : List CoreRole) : List CoreRole :=
  let role (i : Nat) : CoreRole := l.getD i .retired
  let good := (List.range 4).filter fun i => role i != .retired && role i != .isolated
  let order := good ++ (List.range 4).filter fun i => role i == .isolated
  let votes := if order.length < 2 then [] else order.take 3
  (List.range 4).map fun i => if votes.contains i then .vote else if order.contains i then .spare else .retired

/-- FOLIO code of DEV_STATE with the cores at work (R338). (DEDUCED, log 27) -/
def votingCode (l : List CoreRole) : Nat :=
  if (l.filter fun c => c == .vote).length = 3 then 2 else if l.contains .booting then 3 else 4

/-! ### Reach C (R30, R356, R399, R405) -/

/-- Items on flows 264 to 271 and from 304 on are DROPPED; their producers, which reach C resets, hold no post of them any more (R187).
(DEDUCED, log 39) -/
def State.dropFlows (s : State) : State :=
  let gone (i : Item) : Bool := (decide (264 ≤ i.flow) && decide (i.flow ≤ 271)) || decide (304 ≤ i.flow)
  let s1 : State := { s with quire := { s.quire with items := s.quire.items.filter fun i => i.live || !gone i } }
  forAll (fun it t => t.dropItem 0 it) (s1.quire.items.filter gone) s1

/-- Items in service on a block that is reset return to READY at the head of their flows, counted in REQUEUE; an item returns once,
and is DROPPED the second time, with the cause of R189 (R187). (DEDUCED, log 39) -/
def State.requeue (cause : Nat) (p : Item → Bool) (s : State) : State :=
  forAll (fun it t =>
      if it.requeued then t.dropItem cause it
      else { t with
        quire := { t.quire with
          requeue := satAdd t.quire.requeue 1
          items := t.quire.items.map fun i => if i.uid = it.uid then { i with
            state := .ready
            requeued := true } else i } })
    (s.quire.items.filter fun i => i.state == .inService && p i) s

/-- Work that goes on for a command which gets no response any more (R30). (DEDUCED, log 28) -/
def Work.orphan : Work → Work
  | .load ch t m => .load ch t (Machine.orphan m)
  | .delivery u (.range a b m) => .delivery u (.range a b (Machine.orphan m))
  | w => w

/-- The servo is suspended: LOCKED and LOCKING hold over (R405). (DEDUCED, log 48) -/
def State.suspendServo (s : State) : State :=
  let held := s.tb.servo = .locked || s.tb.servo = .locking
  let t : State := { s with
    tb := { s.tb with
      suspended := true
      servo := if held then .holdover else s.tb.servo
      goodSyncs := 0
      pendSync := none
      delayT3 := none } }
  if held then (t.raise 0x0E02 ALARM 0 3).irq 18 else t

/-- The Folio takes the staged image into use at a restart that FW_ACTIVATE asked for (R374, R462, R466). -/
def Folio.takeImage (f : Folio) : Folio :=
  match f.restart, f.staged with
  | some (.image _ crc _), some (_, l) =>
    let word (i : Nat) : Word := ((l.find? fun e => e.1 == i).map fun e => e.2).getD 0
    { f with
      fwVersion := word 2
      fwCrc := crc
      copyOk := true
      bTimeout := if word 7 = 0 then 100 else (word 7).toNat
      etherType := if bits (word 6) 31 16 = 0 then 0x88B5 else BitVec.ofNat 16 (bits (word 6) 31 16)
      portCfg := BitVec.ofNat 16 (bits (word 6) 15 0) }
  | _, _ => f

/-- What reach C returns to its starting state: Folio, mailboxes, sessions, host-interface logic, fabric control plane. (DEDUCED, log 52) -/
def State.reachC (s : State) : State :=
  let s1 := (s.dropFlows.requeue 0 fun i => i.target == .folio).suspendServo
  let cores := pickCores s.folio.cores
  let f : Folio := { s.folio.takeImage with
    cores := cores
    restart := none
    code := if cores.contains .vote then 1 else 0
    mbReady := false
    loader := none
    loaderSrc := none
    staged := none
    selftests := []
    watchdog := 0 }
  let h := s1.host
  let t : State := { s1 with
    quire := { s1.quire with items := s1.quire.items.map fun i => { i with work := i.work.orphan } }
    chan := s1.chan.map fun c => { c with calRun := c.calRun.map fun r => { r with flags := r.flags ||| 0x8000 } }
    axis := s1.axis.map fun x => { x with
      chunks := [none, none, none]
      stops := x.stops.map orphan }
    nibs := { s1.nibs with
      handovers := s1.nibs.handovers.map fun h => { h with cmds := h.cmds.map orphan } }
    ink := { s1.ink with
      streams := s1.ink.streams.map fun st => if st.open_ && !st.fabric then st.rewind else st
      incoming := s1.ink.incoming.map fun d => { d with ans := d.ans.map fun a => (orphan a.1, a.2) } }
    host := { h with
      mb := h.mb.map fun b => { cfg := b.cfg }
      resetCtl := 0
      accessErr := 0
      cursorP := 0
      cursorF := 0
      windowP := []
      windowF := []
      latchP := (0, 0)
      latchF := (0, 0)
      hlim := { password := h.hlim.password, lockUntil := h.hlim.lockUntil, writes := h.hlim.writes } }
    fab := { s1.fab with
      discRun := false
      discDone := false
      found := 0
      results := []
      assigns := [] }
    folio := f
    rst := { s1.rst with
      stage := if s1.rst.stage = 12 then 11 else s1.rst.stage
      since := s1.now } }
  if s.devState = t.devState then t else t.irq 15

/-! ### Reach F and W -/

/-- The streams that a reset closes, behind those that one before it has closed (R261). -/
def Inkwell.closing (k : Inkwell) : List (Fin 4 × Bool) :=
  k.closed ++ ((List.finRange 4).filter fun i => (vget k.streams i).open_).map fun i => (i, (vget k.streams i).fabric)

/-- An open stream closes at a reset that keeps the store; what it was owed stays owed (R261, R265). -/
def Inkwell.survive (k : Inkwell) : Inkwell :=
  { k with
    waiting := []
    incoming := []
    closed := k.closing
    streams := Vector.replicate 4 {}
    periodicIdle := true
    evtMin := 1
    thinReserve := 1024
    flushUs := 1000
    thinning := false
    dramOk := false
    kept := true }

/-- The controller after a reset that loses the store: SEQ and counters return to 0; retired pages stay retired (R259, R261,
R268). -/
def Inkwell.lose (k : Inkwell) : Inkwell := { retired := k.retired, closed := k.closing }

/-- The Nibs after a reset of reach W or F: R17, but a retired Nib stays retired (R17, R214). (DEDUCED, log 40) -/
def Nibs.restart (n : Nibs) : Nibs :=
  { nib := Vector.ofFn fun k =>
      if (vget n.nib k).role = .retired then { vget n.nib k with
        group := none
        revertTo := none }
      else { nibReset k.val with firstFault := (vget n.nib k).firstFault }
    faults := n.faults }

/-- What the Margin keeps in the Vellum (R324, R326, R328); each channel loads its half of SAFETY_CFG anew (R302, R424). The levels at
the pins go on. -/
def Margin.restart (m : Margin) : Margin :=
  { a := MChan.load { stored := m.a.stored, pins := m.a.pins }, b := MChan.load { stored := m.b.stored, pins := m.b.pins },
    accepted := m.accepted, committed := m.committed, password := m.password, fails := m.fails,
    lockUntil := m.lockUntil, log := m.log, logSeq := m.logSeq }

/-- What the host interface keeps: RESET_CAUSE, the limits password, lockout and count, the session passwords and their locks
(R339, R348, R350, R352). (DEDUCED, log 52) -/
def HostIf.restart (h : HostIf) : HostIf :=
  { resetCause := h.resetCause,
    hlim := { password := h.hlim.password, lockUntil := h.hlim.lockUntil, writes := h.hlim.writes },
    pwEng := h.pwEng, pwSaf := h.pwSaf, failEng := h.failEng, failSaf := h.failSaf, lockEng := h.lockEng,
    lockSaf := h.lockSaf }

/-- A die keeps its options, the levels at its pins, its temperature and the converters that spares replace (R92, R369).
(DEDUCED, log 35) -/
def Die.restart (d : Die) : Die :=
  { tripCfg := d.tripCfg, tripLevel := d.tripLevel, temp := d.temp, spares := d.spares,
    steered := d.steered.map fun e => (e.1, e.2.1, true) }

/-- A group keeps its options, its hard-limit record and the level of its pin. -/
def Group.restart (g : Group) : Group :=
  { released := g.released, busAux := g.busAux, busDiv := g.busDiv, hlim := g.hlim }

/-- Every block but the AON domain returns to its starting state; the Vellum keeps its contents, the counts held in SRAM as
last written to WEAR_MAP (R430, R443). `keep`: the Inkwell store survives (R261). (DESIGN CHOICE, log 4) (DEDUCED, log 52) -/
def State.blocksReset (keep : Bool) (s : State) : State :=
  { State.reset with
    pending := s.pending
    now := s.now
    group := s.group.map Group.restart
    die := s.die.map Die.restart
    nibs := s.nibs.restart
    ink := if keep then s.ink.survive else s.ink.lose
    axis := s.axis.map fun x => { cfg := axCfgReset, table := tableReset, hlim := x.hlim, limp := x.limp, limn := x.limn,
                                  home := x.home }
    margin := s.margin.restart
    host := s.host.restart
    folio := { cores := pickCores ((s.folio.cores).map fun c => if c = .retired then .retired else .spare) }
    fab := {}
    vel := { s.vel with
      wear := s.vel.wearMap
      corrections := 0
      refused := 0 }
    rst := { s.rst with
      stage := 0
      doneStage := 0
      flushing := none
      badClocks := []
      block := []
      power := .run
      pfailSeq := false
      phaseAt := none
      keepStore := keep
      since := s.now } }

/-- The release sequence starts when no source of reach W or F is asserted: from stage 1 after W, stage 2 after F, whose
stage 1 completes at once (R446, R447). -/
def State.startRelease (s : State) : State :=
  if s.rst.coverF then s
  else
    let first := if bits s.host.resetCause 25 24 = 0 then 1 else 2
    { s with
      rst := { s.rst with
        stage := first
        doneStage := first - 1
        since := s.now } }

/-- A reset of reach W or F acts; `keep` as a flushing source or the self-reset of R478 gives it. A store already lost to the
same reset stays lost (R261, R446). (DEDUCED, log 52) -/
def State.reachF (keep : Bool) (s : State) : State :=
  let inF := s.rst.stage != 12
  (s.tearCkpts.blocksReset (keep && (!inF || s.rst.keepStore))).startRelease

/-- After reach W the AON domain starts again with PWR_REQ high (R443, R471). -/
def State.reachW (s : State) : State :=
  let t := s.tearCkpts.blocksReset false
  State.startRelease { t with
    rst := { t.rst with
      pwrReq := true
      holdLow := false
      wakePending := false
      pgoodLate := false
      after := [] } }

/-! ### Persistent writes before a loss of power (R403, R435) -/

/-- TIME_MARK is written (R403): the time of day in ms and ERA. -/
def State.markTime (s : State) : State :=
  ({ s with vel := { s.vel with timeMark := some (s.tb.time / 1000000, s.tb.era) } } : State).persist 0 1

/-- The raises that wait go to their limiters, in order. -/
def State.drainRaises (s : State) : State :=
  forAll (fun e t => t.limit e) s.blot.raised { s with blot := { s.blot with raised := [] } }

/-- The last part of the power-fail sequence: Blotter, TIME_MARK and row counts are written (R476). -/
def State.endPfail (s : State) : State := s.drainRaises.flushBlotter.markTime.flushWear

/-- A channel still ramps down in the power-fail sequence, or its PFAIL checkpoint is still to be written (R476). -/
def Channel.pfailDue (c : Channel) : Bool :=
  c.state.active && (c.drive.ramp.isSome || match c.ckptReq with
    | some w => bits (w.getD 0 0) 27 24 == 4
    | none => false)

/-- Some channel's part of the power-fail sequence is still to come. -/
def State.pfailPending (s : State) : Bool := s.chan.any Channel.pfailDue

/-! ### The flush of R197 -/

/-- A checkpoint of the channel is still to be written: the final one, or the STATE checkpoint of its last change (R197).
(DEDUCED, log 36) -/
def Channel.finalDue (c : Channel) : Bool := c.ckptReq.isSome

/-- A checkpoint that the flush waits for is still to be written. -/
def State.finalPending (s : State) : Bool := s.chan.any Channel.finalDue

/-- The flush is over: Blotter and row counts are written, and the reset proceeds (R197, R430, R435). -/
def State.endFlush (s : State) : State := (s.flushBlotter.flushWear).reachF true

/-- A flushing source of reach F: RUNNING and TUNE channels get gates low and a FINAL checkpoint; with none the reset proceeds at
once (R197). -/
def State.beginFlush (src : ResetSrc) (s : State) : State :=
  let chs := allChannels.filter fun n => (s.ch n).state.active
  let t := forAll (fun n x => (x.updCh n fun c => { c with
    drive := { c.drive with ramp := none } }).ckpt n 3) chs s
  let u : State := State.startTimer .flush (200 * microsecond) { t with rst := { t.rst with flushing := some src } }
  if u.finalPending then u else u.endFlush

/-! ### A source is asserted -/

/-- A source of reset is asserted: it is recorded, and its reach applies unless a wider one is in force (R444, R446, R466).
(DEDUCED, log 55) -/
def State.assert (src : ResetSrc) (s : State) : State :=
  let extra := if (src = .supplyW || src = .supplyF) && s.rst.pfailSeq then 4 else 0
  let s1 := s.cause (srcBits src ||| extra) (srcReach src)
  let s2 : State := if srcHolds src && !s1.rst.sources.contains src then
      { s1 with rst := { s1.rst with sources := src :: s1.rst.sources } }
    else s1
  if srcReach src = 0 then s2.reachW
  else if srcReach src = 1 then
    if srcFlushes src then (if s2.rst.flushing.isSome then s2 else s2.beginFlush src) else s2.reachF (src == ResetSrc.pfailSelf)
  else if srcReach src = 2 then
    (if s.rst.stage = 12 && s.rst.flushing.isNone then s2.reachC
      else if s.rst.stage = 11 then s2.reachC else s2)
  else s2

/-! ### PCIe hot reset, and reach B of the host interface (R356) -/

/-- A mailbox on the PCIe path is emptied. Responses of commands taken are discarded as they complete; those complete already
are discarded now (R356). (DEDUCED, log 28) -/
def Mailbox.hot (b : Mailbox) : Mailbox :=
  if bit b.cfg 0 then b
  else { discard := b.taken.length + b.working, frozen := b.authority, taken := b.taken, working := b.working,
         verify := b.verify, lost := satAdd b.lost b.done.length, kept := if b.working = 0 then none else b.kept }

/-- The host-interface state of the PCIe path resets (R356). (DEDUCED, log 52) -/
def State.hotReset (s : State) : State :=
  let h := s.host
  let fabUnlock := match h.hlim.unlock with
    | some (.fabric _) => true
    | _ => false
  let l := h.hlim
  let hl : Hlim := { password := l.password, writes := l.writes, lockUntil := l.lockUntil, fails := l.fails, result := l.result,
                     unlock := if fabUnlock then l.unlock else none,
                     stage := if fabUnlock then l.stage else [],
                     pw := if fabUnlock then l.pw else [],
                     checking := match l.checking with
                       | some (.fabric a, n) => some (.fabric a, n)
                       | _ => none }
  let s := forAll (fun k x => match (x.mbox k).kept with
    | some uid => if bit (x.mbox k).cfg 0 || (x.mbox k).working ≠ 0 then x else x.finish uid
    | none => x) (List.finRange 8) s
  let t : State := { s with
    host := { h with
      mb := h.mb.map Mailbox.hot
      irqStat := 0
      irqEn := 0
      resetCtl := 0
      accessErr := 0
      cursorP := 0
      windowP := []
      latchP := (0, 0)
      msix := []
      pba := 0
      hlim := hl }
    ink := { s.ink with
      streams := s.ink.streams.map fun st =>
        let base : Stream := { st with
          baseLo := 0
          baseHi := 0
          ctl := 0
          ring := []
          buf := none
          ringHead := 0
          ringTail := 0 }
        if st.fabric then base else { base with
          sent := none
          recAck := 0 } } }
  forAll (fun k x =>
    if bit (s.mbox k).cfg 0 || (s.mbox k).done.isEmpty then x
    else x.raise 0x0C06 NOTICE k.val (x.mbox k).lost) (List.finRange 8) t

end Sys2Proof.Machine
end

