-- ==== Sys2Proof/Machine/Continuity.lean ====
section
/-! DEFINITION. Continuity (07): checkpoint writes, takeover and return of Nibs, Folio voting, the restore of R199 at the end of the
Folio's boot (R450). -/

namespace Sys2Proof.Machine

/-! ### Checkpoints (R191 to R195) -/

/-- Each write goes to the older copy with SEQ one above the other copy's (R191); its eight words count as wear of the row
(R194, R430). (DEDUCED, log 36) -/
def State.writeCkpt (n : Fin 256) (w : Block) (s : State) : State :=
  match newestCopy (s.chv n) with
  | some (0, a) =>
    (s.updChv n fun v => { v with
      ckB := .good (s.ckptBlock ((natAt a 0 + 1) % 2 ^ 32) w)
      ckGap := (s.ch n).ckptGap }).wearRow (128 + n.val / 4) 8
  | some (_, b) =>
    (s.updChv n fun v => { v with
      ckA := .good (s.ckptBlock ((natAt b 0 + 1) % 2 ^ 32) w)
      ckGap := (s.ch n).ckptGap }).wearRow (64 + n.val / 4) 8
  | none =>
    (s.updChv n fun v => { v with
      ckA := .good (s.ckptBlock 1 w)
      ckGap := (s.ch n).ckptGap }).wearRow (64 + n.val / 4) 8

/-- CHECKPOINT_WRITE (R194): the channel's pending checkpoint, the first of its bank, is written. The last checkpoint of a flush
lets the reset proceed (R197); after the last PFAIL checkpoint the power-fail sequence ends (R476). -/
def execCheckpointWrite (n : Fin 256) (s : State) : Host.Outcome State Fault Refusal :=
  match (s.ch n).ckptReq with
  | none => .next s
  | some w =>
    if !s.ckptTurn n then .next s
    else
    let t := (s.writeCkpt n w).updCh n fun c => { c with ckptReq := none }
    .next (if s.rst.flushing.isSome && !t.finalPending then t.endFlush
      else if s.rst.pfailSeq && !t.pfailPending then t.endPfail else t)

/-- CKPT_INTERVAL_DUE (R193): a channel under way, whose group has an active Nib, requests an INTERVAL checkpoint. -/
def execCkptIntervalDue (n : Fin 256) (s : State) : Host.Outcome State Fault Refusal :=
  if (s.ch n).state.active && (s.servingNib (groupOf n).val).isSome && s.rst.flushing.isNone && !s.rst.pfailSeq then
    .next (s.ckpt n 1)
  else .next s

/-! ### Takeover and return of Nibs (R208 to R214) -/

/-- ST and accumulators over the gap, with the last committed sample held: the gap's ticks for FIXED carriers, the periods
latched in it for CON and COFF (R110, R211). (DEDUCED, log 36) -/
def Channel.overGap (ticks : Nat) (c : Channel) : Channel :=
  let run := c.state == .running
  let v := c.loop.mirrorV
  let i := c.loop.mirrorI
  if cfFixed c.cfg then { c with acc := c.acc.add run ticks v i }
  else
    let (adj, debts, ps) := payDebts c.drive.debts c.drive.periods
    let a := adj.foldl (fun (a : Accs) x => a.add run x.1 x.2.1 x.2.2) c.acc
    { c with
      acc := a.add run (ps.foldl (· + ·) 0 : Nat) v i
      drive := { c.drive with
        periods := []
        debts := debts } }

/-- A channel is taken over (R211, R218): overdue reloads of the gap are no overruns, TUNE is aborted. -/
def State.takeChannel (ticks : Nat) (n : Fin 256) (s : State) : State :=
  if !(s.ch n).state.active then s
  else
    let s1 := s.updCh n fun c =>
      let d := c.overGap ticks
      { d with drive := { d.drive with
        overdue := 0
        consec := 0
        flights := [] } }
    s1.abortTune n 1

/-- TIME cycles of 4 ns as fine ticks of 5/64 ns. -/
def cyclesToTicks (c : Nat) : Nat := c * 256 / 5

/-- The spare of a takeover fails its self-test: it is retired, and the next is tried (R210, R212). -/
def State.spareFails (t : Takeover) (s : State) : State :=
  let s1 : State := { s with nibs := { s.nibs with takeovers := s.nibs.takeovers.filter fun x => x.group != t.group } }
  ((s1.raise 0x0703 ALARM t.spare.val t.group.val).retireNib t.spare 1).startTakeover t.group t.old t.since

/-- The spare serves the group (R209, R211): it advances the channels over the gap; the gap ends once it has written a first word for
every channel under way. (DEDUCED, log 40) -/
def State.takeOver (t : Takeover) (s : State) : State :=
  let gap := s.now - t.since
  let next : Takeover := { t with waiting := some (s.activeOf t.group) }
  let s1 := ({ s with
    nibs := { s.nibs with
      takeovers := s.nibs.takeovers.map fun x => if x.group = t.group then next else x
      writeClaim := if t.group = 16 then s.nibs.acceptClaim else s.nibs.writeClaim } } : State).updNib t.spare fun k =>
        { k with
          role := .active
          group := some t.group }
  let s2 := if h : t.group.val < 16 then forAll (State.takeChannel (cyclesToTicks gap)) (groupChannels ⟨t.group.val, h⟩) s1
    else forAll (fun a x => x.updAx a fun y => { y with
      overdue := 0
      consec := 0
      wordNew := false }) allAxes s1
  s2.closeGap t.group

/-- The spare of a planned handover fails its self-test: it is retired, and the next is tried (R210, R371). -/
def State.plannedFails (h : Handover) (s : State) : State :=
  let s1 : State := { s with nibs := { s.nibs with handovers := s.nibs.handovers.filter fun x => x.group != h.group } }
  ((s1.raise 0x0703 ALARM h.nib.val h.group.val).retireNib h.nib 1).startPlanned h.group h.cmds

/-- NIB_TAKEOVER: the spare of the takeover of group `g`, or of a planned handover of it, has finished its self-test (R210, R211,
R371). -/
def execNibTakeover (g : Fin 17) (pass : Bool) (s : State) : Host.Outcome State Fault Refusal :=
  match s.nibs.takeovers.find? (fun t => t.group == g && t.waiting.isNone),
        s.nibs.handovers.find? (fun h => h.group == g && h.left.isNone) with
  | some t, _ => .next (if pass then s.takeOver t else s.spareFails t)
  | none, some h => .next (if pass then s.beginHandover h else s.plannedFails h)
  | none, none => .next (s.closeGap g)

/-- NIB_FENCED_SELFTEST (R213): a fenced Nib that fails is retired; one that passes waits REVERT_HOLD for its group of R17, or is
a spare again when it has none. -/
def execNibFencedSelftest (k : Fin 20) (pass : Bool) (s : State) : Host.Outcome State Fault Refusal :=
  let b := s.nibOf k
  if b.role ≠ .fenced || b.revertTo.isSome then .next s
  else if !pass then .next (s.retireNib k 1)
  else if k.val < 17 then
    .next ((s.startTimer (.revert (Fin.ofNat 17 k.val)) (s.vel.revertHold * second)).updNib k fun x => { x with
      revertTo := some (Fin.ofNat 17 k.val) })
  else .next (s.updNib k fun x => { x with role := .spare })

/-- NIB_REVERT (R213, R218): the returning Nib of group `g` has finished its second self-test after REVERT_HOLD. It waits while a
takeover or a handover of the group runs. -/
def execNibRevert (g : Fin 17) (pass : Bool) (s0 : State) : Host.Outcome State Fault Refusal :=
  let s := s0.closeGap g
  match (List.finRange 20).find? (fun k => (s.nibOf k).role == .fenced && (s.nibOf k).revertTo == some g) with
  | none => .next s
  | some k =>
    if !s.ranOut (.revert g) || (s.nibs.takeovers.any fun t => t.group == g) || s.nibs.handovers.any fun h => h.group == g then .next s
    else if !pass then .next (s.retireNib k 1)
    else .next (s.beginHandover { group := g, nib := k })

/-! ### Folio voting and the spare core (R215 to R217) -/

/-- The Folio has taken a voting code: it neither boots nor is it down or halted (R338). -/
def Folio.settled (f : Folio) : Bool := decide (2 ≤ f.code) && decide (f.code ≤ 4)

/-- Replace a core's role. -/
def setCore (i : Nat) (r : CoreRole) (l : List CoreRole) : List CoreRole := l.set i r

/-- The voting cores. -/
def Folio.voters (f : Folio) : List Nat := (List.range 4).filter fun i => f.cores.getD i .retired == .vote

/-- The cold spare. -/
def Folio.spareCore (f : Folio) : Option Nat := (List.range 4).find? fun i => f.cores.getD i .retired == .spare

/-- A core leaves the vote, and the cold spare boots (R216). The FOLIO code follows once the Folio has booted (R338). -/
def Folio.isolate (now i : Nat) (role : CoreRole) (f : Folio) : Folio :=
  let l := setCore i role f.cores
  let l1 := match ({ f with cores := l } : Folio).spareCore with
    | some c => setCore c .booting l
    | none => l
  { f with
    cores := l1
    isolatedAt := now
    code := if f.settled then votingCode l1 else f.code }

/-- A voting core is the minority (R215, 0x0707). (DEDUCED, log 27) -/
def State.isolateCore (i cls : Nat) (s : State) : State :=
  (s.setFolio (s.folio.isolate s.now i .isolated)).raise 0x0707 ALARM i (s.folio.voteMask + 2 ^ 8 * cls)

/-- No majority: total Folio loss. The cores halt, and the Folio serves no mailbox (HALTED) until the reset of reach C restarts it; a wider
reset in progress acts in its place (R215, R217, R338, R466). The core that 0x0709 names is unstated (log 14). (DEDUCED, log 27) -/
def State.folioLoss (s : State) : State :=
  ((s.raise 0x0709 FATAL ((Config.unstated 85).toNat % 4) s.folio.voteMask).setFolio { s.folio with
    code := 5
    mbReady := false }).assert .folioLoss

/-- FOLIO_TRANSACTION_VOTE (R215): `tx` holds what each core FC0 to FC3 sends; a core without an entry disagrees. -/
def execFolioTransactionVote (cls : Fin 16) (tx : List Nat) (s : State) : Host.Outcome State Fault Refusal :=
  let agree (i j : Nat) : Bool := tx[i]?.isSome && tx[i]? == tx[j]?
  if s.folio.code = 5 then .next s
  else match s.folio.voters with
  | [a, b, c] =>
    if agree a b && agree b c then .next s
    else if agree a b then .next (s.isolateCore c cls.val)
    else if agree a c then .next (s.isolateCore b cls.val)
    else if agree b c then .next (s.isolateCore a cls.val)
    else .next s.folioLoss
  | [a, b] => if agree a b then .next s else .next s.folioLoss
  | _ => .next s

/-- FOLIO_VOTE_TIMEOUT (R215): a late core counts as disagreeing. The row names no transaction class (log 14). -/
def execFolioVoteTimeout (core : Fin 4) (s : State) : Host.Outcome State Fault Refusal :=
  let v := s.folio.voters
  if s.folio.code = 5 || !v.contains core.val then .next s
  else if v.length = 3 then .next (s.isolateCore core.val ((Config.unstated 84).toNat % 16))
  else .next s.folioLoss

/-- FOLIO_SPARE_JOINED (R216): the booted spare votes again. -/
def execFolioSpareJoined (s : State) : Host.Outcome State Fault Refusal :=
  match (List.range 4).find? fun i => s.folio.cores.getD i .retired == .booting with
  | none => .next s
  | some i =>
    let l := setCore i .vote s.folio.cores
    .next ((s.setFolio { s.folio with
      cores := l
      code := if s.folio.settled then votingCode l else s.folio.code }).raise 0x0708 NOTICE i
        (min ((s.now - s.folio.isolatedAt) / millisecond) 0xFFFFFFFF))

/-- Cores not retired. -/
def coresLeft (l : List CoreRole) : Nat := (l.filter fun c => c != .retired).length

/-- FOLIO_CORE_SELFTEST_DONE (R216): an isolated core becomes the cold spare, which boots at once where two cores vote and no other
spare boots, or is retired. (DEDUCED, log 27) -/
def execFolioCoreSelftestDone (core : Fin 4) (pass : Bool) (s : State) : Host.Outcome State Fault Refusal :=
  if s.folio.cores.getD core.val .retired ≠ .isolated then .next s
  else if pass then
    let short := s.folio.voters.length = 2 && !s.folio.cores.contains .booting
    let l := setCore core.val (if short then .booting else .spare) s.folio.cores
    .next (s.setFolio { s.folio with
      cores := l
      code := if s.folio.settled then votingCode l else s.folio.code })
  else
    let l := setCore core.val .retired s.folio.cores
    .next ((s.setFolio { s.folio with cores := l }).raise 0x070F ALARM core.val (coresLeft l))

/-! ### Restore (R196, R199 to R201, R205) -/

/-- The configuration image in use at a restore, and which copies are bad (R196). -/
def chooseImage (a b : Image) : Option (Block × List (Option Block)) :=
  match a, b with
  | .good c l, _ => some (c, l)
  | _, .good c l => some (c, l)
  | _, _ => none

def Image.isBad : Image → Bool
  | .bad => true
  | _ => false

def Image.isGood : Image → Bool
  | .good _ _ => true
  | _ => false

/-- The images after the restore's repair, with 0x070E for bad copies (R196). -/
def State.repairImages (n : Fin 256) (s : State) : State :=
  let v := s.chv n
  let s1 := s.updChv n fun v => { v with
    imgA := if v.imgA.isBad && v.imgB.isGood then v.imgB else v.imgA
    imgB := if v.imgB.isBad && v.imgA.isGood then v.imgA else v.imgB }
  if v.imgA.isBad || v.imgB.isBad then s1.raise 0x070E ALARM n.val (b2n v.imgA.isBad + 2 * b2n v.imgB.isBad) else s1

def Copy.isBlank : Copy → Bool
  | .blank => true
  | _ => false

/-- SEQ of a copy; a blank one reads 0 (R200). -/
def Copy.seq : Copy → Nat
  | .blank => 0
  | .bad b => natAt b 0
  | .good b => natAt b 0

/-- The state of a restored channel and its CLEAR_TO (R199). (DEDUCED, log 30) -/
def restoredState (copy : Option Block) (bothBlank image : Bool) : ChState × ChState :=
  if !image then (.off, .off)
  else match copy with
    | none => (if bothBlank then .configured else .off, .off)
    | some b =>
      match ChState.ofCode (ckState b) with
      | .off => (.off, .off)
      | .absent => (.off, .off)
      | .configured => (.configured, .off)
      | .armed => (.configured, .off)
      | .done => (.configured, .off)
      | .tripped => (.tripped, if fieldAt b 0x1C 23 22 = 0 then .interrupted else .configured)
      | _ => (.interrupted, .off)

/-- Accumulators, position, V_START and counters from a copy (R205). (DEDUCED, log 30) -/
def Channel.fromCopy (which : Nat) (b : Block) (c : Channel) : Channel :=
  let st := natAt b 0x18 + 2 ^ 32 * fieldAt b 0x1C 31 24
  let hi (h l : Nat) : Nat := fieldAt b 0x30 h l
  { c with
    acc := { c.acc with
      st := st * 128000
      stepQ := signed 40 (natAt b 0x20 + 2 ^ 32 * hi 31 24) * 12800000000000
      stepE := signed 40 (natAt b 0x24 + 2 ^ 32 * hi 23 16) * 1280000000000000000
      runQC := ((natAt b 0x28 + 2 ^ 32 * hi 15 8 : Nat) : Int) * 12800000000000
      runQD := ((natAt b 0x2C + 2 ^ 32 * hi 7 0 : Nat) : Int) * 12800000000000 }
    tripCause := BitVec.ofNat 16 (fieldAt b 0x0C 31 24)
    run := { c.run with
      pos := fieldAt b 4 11 0
      idx := fieldAt b 4 11 0
      trans := if bitAt b 4 23 then some (fieldAt b 4 11 0) else none
      runValid := bitAt b 4 22
      vStart := some (signed 22 (fieldAt b 0x1C 21 0))
      ctrs := [fieldAt b 0x34 15 0, fieldAt b 0x34 31 16, fieldAt b 0x38 15 0, fieldAt b 0x38 31 16]
      hasRun := true
      stepRan := decide (0 < st)
      restored := some (which, b)
      copy := some (which, b) } }

/-- The fresh copy A of R200: STATE OFF, SEQ 1. Its CAUSE is unstated (log 14). -/
def State.freshCopy (n : Fin 256) (s : State) : State :=
  let w := lset (s.ckptWords n 0) 0 (w32 ((Config.unstated 87).toNat % 16 * 2 ^ 24))
  (s.updChv n fun v => { v with ckA := .good (s.ckptBlock 1 w) }).wearRow (64 + n.val / 4) 8

/-- One channel is restored (R199, R200, R63). (DEDUCED, log 30) -/
def State.restoreChannel (n : Fin 256) (s : State) : State :=
  let v := s.chv n
  let img := chooseImage v.imgA v.imgB
  let copy := newestCopy v
  let blank := v.ckA.isBlank && v.ckB.isBlank
  let (st, clear) : ChState × ChState := restoredState (copy.map fun x => x.2) blank img.isSome
  let s1 := (s.repairImages n).updCh n fun c => { c with
    cfg := match img with
      | some (b, _) => b
      | none => c.cfg
    sets := match img with
      | some (_, l) => l
      | none => c.sets
    drive := { c.drive with minPulse := v.minPulse } }
  let stop := (s1.ch n).state = .absent
  let s2 := match copy with
    | some (w, b) =>
      if st == ChState.interrupted || st == ChState.tripped then s1.updCh n fun c => c.fromCopy w b
      else s1.updCh n fun c => { c with
        run := { c.run with
          restored := some (w, b)
          runValid := bitAt b 4 22 } }
    | none => s1
  let s3 := if stop then s2 else (s2.updCh n fun c => { c with clearTo := clear }).become n st
  let s4 := if copy.isNone && !blank then
      (if s3.vel.failed.contains 5 then s3 else s3.freshCopy n).raise 0x070A ALARM n.val (v.ckA.seq + 2 ^ 32 * v.ckB.seq)
    else s3
  let b := match copy with
    | some (_, b) => b
    | none => []
  let isB := match copy with
    | some (w, _) => w
    | none => 0
  s4.raise 0x070B INFO n.val ((s4.ch n).state.code + 2 ^ 4 * ckState b + 2 ^ 8 * isB + 2 ^ 12 * ckCause b)

/-- Address, routes and time configuration from FOLIO_CKPT (R383, R406). -/
def State.loadFolio (s : State) : State :=
  let cfg := s.vel.timeCfg.getD timeCfgReset
  { s with
    fab := { s.fab with
      addr := s.vel.fabAddr
      routes := s.vel.fabRoutes
      loaded := true }
    tb := { s.tb with cfg := cfg } }

/-- The servo goes on after a reset of reach C: a device that has a master resumes in LOCKING (R405). (DEDUCED, log 48) -/
def State.resumeServo (s : State) : State :=
  { s with
    tb := { s.tb with
      suspended := false
      servo := if s.tb.suspended && s.tb.servo = .holdover && s.tb.master.isSome then .locking else s.tb.servo } }

/-- The events held back until the restart are raised (R467, R480). -/
def State.raiseAfter (s : State) : State :=
  let sev (c : BitVec 16) : Nat := match c.toNat with
    | 0x1012 => INFO
    | 0x1015 => NOTICE
    | _ => ALARM
  let par (e : BitVec 16 × BitVec 64) : Nat :=
    if e.1 = 0x1012 then e.2.toNat + 2 ^ 32 * min ((s.now - s.rst.wakeAt) / millisecond) 0xFFFFFFFF else e.2.toNat
  let t := forAll (fun (e : BitVec 16 × BitVec 64) x => x.raise e.1.toNat (sev e.1) 0 (par e)) s.rst.after s
  { t with rst := { t.rst with after := [] } }

/-- FOLIO_BOOT_DONE (R199, R450, R467): the image has booted, restores the channels unless they are restored, and sets MB_READY.
It waits for an image, for every source of reach C, and with fewer than two cores it never comes (R217). (DEDUCED, log 30) -/
def execFolioBootDone (s : State) : Host.Outcome State Fault Refusal :=
  if s.rst.stage ≠ 11 || !s.folio.copyOk || s.folio.loader.isSome || s.rst.coverC || s.rst.coverF || s.folio.mbReady
      || s.folio.voters.length < 2 || (s.rst.pfailLow && !s.folio.restored) then .next s
  else
    let s1 := if s.folio.restored then s
      else forAll (State.watchPins s) allChannels (forAll (fun n x => x.restoreChannel n) allChannels s.loadFolio)
    let f := s1.folio
    let s2 := s1.resumeServo.setFolio { f with
      mbReady := true
      restored := true
      readyOnce := true
      service := f.service || (!f.restored && s.rst.bootSrc == 3)
      code := votingCode f.cores
      watchdog := s.now }
    let s3 : State := { s2 with rst := { s2.rst with stage := 12 } }
    .next ((s3.raise 0x1001 INFO 0 (s3.host.resetCause.toNat
      + 2 ^ 32 * min ((s3.now - s3.rst.since) / millisecond) 0xFFFFFFFF)).raiseAfter)

end Sys2Proof.Machine
end

