-- ==== Sys2Proof/Machine/StrokeOps.lean ====
section
/-! DEFINITION. The step generator and the states of an axis (R277 to R297): configuration fields, current level, profiles,
moves, homing, standstill. -/

namespace Sys2Proof.Machine

/-! ### AX_CONFIG (R282) and the axis hard-limit record (R351) -/

def acEnc (c : Block) : Bool := bitAt c 0 15
def acSsMode (c : Block) : Nat := fieldAt c 0 11 10
def acDecayOff (c : Block) : Bool := bitAt c 0 9
def acJerky (c : Block) : Bool := bitAt c 0 8
def acHomePol (c : Block) : Bool := bitAt c 0 5
def acLimnPol (c : Block) : Bool := bitAt c 0 4
def acLimpPol (c : Block) : Bool := bitAt c 0 3
def acDirInv (c : Block) : Bool := bitAt c 0 2
def acEnable (c : Block) : Bool := bitAt c 0 0
def acK (c : Block) : Nat := fieldAt c 4 19 16 + 1
def acPeriod (c : Block) : Nat := fieldAt c 4 15 0
def acShunt (c : Block) : Nat := natAt c 8
def acIrun (c : Block) : Nat := natAt c 0xC
def acIhold (c : Block) : Nat := natAt c 0x10
def acIhome (c : Block) : Nat := natAt c 0x14
def acVmax (c : Block) : Nat := natAt c 0x18
def acAcc (c : Block) : Nat := natAt c 0x1C
def acDec (c : Block) : Nat := natAt c 0x20
def acJerk (c : Block) : Nat := natAt c 0x24
def acIdle (c : Block) : Nat := natAt c 0x28
def acHomeDb (c : Block) : Nat := fieldAt c 0x2C 23 16
def acLimnDb (c : Block) : Nat := fieldAt c 0x2C 15 8
def acLimpDb (c : Block) : Nat := fieldAt c 0x2C 7 0
def acKp (c : Block) : Int := intAt c 0x30
def acKi (c : Block) : Int := intAt c 0x34
def acDlim (c : Block) : Int := intAt c 0x38
def acEncTol (c : Block) : Nat := fieldAt c 0x3C 31 16
def acCpfs (c : Block) : Nat := fieldAt c 0x3C 15 0
def acStallThr (c : Block) : Int := intAt c 0x40
def acStallN (c : Block) : Nat := fieldAt c 0x44 23 16
def acStallSkip (c : Block) : Nat := fieldAt c 0x44 15 0
def acSoftMin (c : Block) : Int := intAt c 0x48
def acSoftMax (c : Block) : Int := intAt c 0x4C

/-- V_HARD and I_HARD; an axis without a record has neither current nor speed. -/
def Axis.vHard (x : Axis) : Nat := natAt (x.hlim.getD []) 0
def Axis.iHard (x : Axis) : Nat := natAt (x.hlim.getD []) 4

/-- Switches are active at the level their polarity names. -/
def Axis.limpAct (x : Axis) : Bool := x.limp.level == acLimpPol x.cfg
def Axis.limnAct (x : Axis) : Bool := x.limn.level == acLimnPol x.cfg
def Axis.homeAct (x : Axis) : Bool := x.home.level == acHomePol x.cfg

/-- The limit switch in a direction is active. -/
def Axis.limitIn (d : Int) (x : Axis) : Bool := if 0 < d then x.limpAct else x.limnAct

/-! ### Current level (R281) -/

/-- 1 ms in TIME cycles. -/
def msCycles : Nat := 250000

/-- The current level at a TIME cycle: the ramp is linear over 1 ms. -/
def Axis.levelAt (now : Nat) (x : Axis) : Int :=
  x.level + divFree ((x.levelTo - x.level) * (min (now - x.rampAt) msCycles : Nat)) msCycles

/-- A ramp to another level begins. -/
def Axis.rampTo (now : Nat) (goal : Int) (x : Axis) : Axis :=
  if x.levelTo = goal then x
  else { x with
    level := x.levelAt now
    levelTo := goal
    rampAt := now }

/-- The coils are off: their level is 0 at once. -/
def Axis.dark (x : Axis) : Axis :=
  { x with
    level := 0
    levelTo := 0 }

/-- States in which a coil loop runs (R280): all but DISABLED, FAULT and the standstill modes OFF and SHORT. -/
def Axis.looping (x : Axis) : Bool :=
  !x.shorted && match x.state with
    | .disabled => false
    | .fault => false
    | .standstill => x.ssMode == 0
    | _ => true

/-! ### Position (R284, R294, R295) -/

/-- Squared speed in (1/256 full step per s)², and the acceleration of PROFILE 1 in 1/2^16 of 1/256 full step per s². -/
abbrev Pace := Nat × Int

/-- A signed 32-bit count. -/
def wrap32 (i : Int) : Int := signed 32 (i % 2 ^ 32).toNat

/-- The stall metric of the full step now moved begins: no coil evaluation belongs to it yet (R289). -/
def Axis.clearStall (x : Axis) : Axis :=
  { x with
    coilA := { x.coilA with absE := 0, absN := 0 }
    coilB := { x.coilB with absE := 0, absN := 0 } }

/-- One microstep up or down; the encoder's alignment follows a wrap. A full step that ends forms its stall metric from the coil
evaluations it held (R289); one without an evaluation has none (free value, log 14). -/
def Axis.step (d : Int) (v : Pace) (x : Axis) : Axis :=
  let p := wrap32 (x.pos + d)
  let y := { x with
    pos := p
    encAlign := x.encAlign + (p - (x.pos + d))
    vSq := v.1
    accel := v.2
    dir := if d = 0 then x.dir else d }
  if d = 0 || (p - x.phaseOff) % 256 ≠ 0 then y
  else { y.clearStall with
    stall := if x.coilA.absN = 0 then Config.unstated 90 else divFree (x.coilA.absE + x.coilB.absE : Nat) x.coilA.absN }

/-- ENC_POS less POSITION, times ENC_CPFS (R294). -/
def Axis.encErr (x : Axis) : Int := x.encCount * 256 + (x.encAlign - x.pos) * acCpfs x.cfg

/-- The following error is above ENC_TOL. -/
def Axis.encBad (x : Axis) : Bool := acEnc x.cfg && decide (acEncTol x.cfg * acCpfs x.cfg < x.encErr.natAbs)

/-- States in which the following error is watched (R294). -/
def Axis.encWatched (x : Axis) : Bool :=
  x.state == .idle || x.state == .homing || x.state == .moving || x.state == .reversing || x.state == .stopping

/-- FAULT cause 2 on a following error (R294). (DEDUCED, log 42) -/
def State.encCheck (a : Fin 8) (s : State) : State :=
  if (s.ax a).encWatched && (s.ax a).encBad then s.axisFault a 2 else s

/-- The encoder position of an axis in a Margin channel (R316, R324). -/
def MChan.encPos (a : Fin 8) (m : MChan) : Int :=
  let n := divFree (vget m.enc a * 256) (fieldAt m.conf (0x290 + 8 * a.val) 15 0)
  vget m.encAt a + (if bitAt m.conf (0x290 + 8 * a.val) 17 then -n else n)

/-- The tap count of an axis moves by `d` in a channel's books: the positions it has kept shift with it, so that no travel
appears. -/
def MChan.shiftTap (a : Fin 8) (d : Int) (c : MChan) : MChan :=
  { c with
    tap := vset c.tap a (wrap32 (vget c.tap a + d))
    hist := vset c.hist a ((vget c.hist a).map fun p => p + d)
    fns := c.fns.map fun f => { f with startPos := f.startPos.modify a.val fun p => p + d } }

/-- The same for its encoder position. -/
def MChan.shiftEnc (a : Fin 8) (d : Int) (c : MChan) : MChan :=
  { c with
    encAt := vset c.encAt a (vget c.encAt a + d)
    encHist := vset c.encHist a ((vget c.encHist a).map fun p => p + d) }

/-- A channel that uses the axis's encoder aligns its tap count to it (R316). -/
def MChan.alignTap (a : Fin 8) (c : MChan) : MChan :=
  if bitAt c.conf (0x290 + 8 * a.val) 16 then c.shiftTap a (c.encPos a - vget c.tap a) else c

/-- A channel's tap counts `d` microsteps of the step generator (R295). -/
def MChan.count (a : Fin 8) (d : Int) (c : MChan) : MChan := { c with tap := vset c.tap a (wrap32 (vget c.tap a + d)) }

/-- A channel counts an encoder edge (R316). -/
def MChan.edge (a : Fin 8) (d : Int) (c : MChan) : MChan := { c with enc := vset c.enc a (vget c.enc a + d) }

/-- The same operation in both Margin channels. -/
def State.bothChannels (f : MChan → MChan) (s : State) : State :=
  { s with
    margin := { s.margin with
      a := f s.margin.a
      b := f s.margin.b } }

/-- The coils of an axis are energised again: the encoder counts from POSITION (R294). -/
def Axis.alignEnc (x : Axis) : Axis :=
  { x with
    encCount := 0
    encAlign := x.pos }

/-- The step generator moves an axis by `d` microsteps (0, 1 or −1); each Margin channel's tap counts it. -/
def State.stepAxis (a : Fin 8) (d : Int) (v : Pace) (s : State) : State :=
  ((s.updAx a (Axis.step d v)).bothChannels (MChan.count a d)).encCheck a

/-- V_HARD or I_HARD clamped a value: 0x0A09 once per command (R295). (DEDUCED, log 42) -/
def State.hardClamp (a : Fin 8) (what : Nat) (s : State) : State :=
  if (s.ax a).clampSeen then s
  else (s.updAx a fun x => { x with clampSeen := true }).raise 0x0A09 NOTICE a.val what

/-- A new command for the axis: its once-per-command events may come again (R289, R295). (DEDUCED, log 42) -/
def Axis.newCommand (x : Axis) : Axis :=
  { x with
    clampSeen := false
    chatterSeen := false }

/-! ### Profiles (R284). Squared speeds are in (1/256 full step per s)²; one microstep at A full steps/s² changes them by 512 A. With
PROFILE 1 a microstep from acceleration `a` to `b` changes them by a + b, in 2 / (sum of the two speeds) s. -/

/-- 1 full step/s² in the unit of `Pace`. -/
def accUnit : Nat := 256 * 65536

/-- The largest number below 2^n, added to `k`, at which `p` still holds, for a `p` that holds up to some number. -/
def greatest (p : Nat → Bool) : Nat → Nat → Nat
  | 0, k => k
  | n + 1, k => if p (k + 2 ^ n) then greatest p n (k + 2 ^ n) else greatest p n k

/-- Integer square root, of numbers below 2^128. -/
def isqrt (n : Nat) : Nat := greatest (fun k => decide (k * k ≤ n)) 64 0

/-- Microsteps of the shortest jerk-limited stop from squared speed `v` and acceleration `a`, with deceleration `dec` and JERK `jerk`
(R284, R286): acceleration falls to −`dec`, or as far as the stop allows, stays, and returns to 0. (DEDUCED, log 12) -/
def stopDistance (dec jerk v : Nat) (a : Int) : Nat :=
  let j : Int := jerk * 256
  let u : Int := 65536
  let s : Int := isqrt v
  let d : Int := dec * accUnit
  let peak : Int := max (-a) (isqrt (u * u * j * s + a * a / 2).toNat)
  let p := min peak d
  let ramps := 6 * s * j * (a + p) * (u * u) + 3 * a * (a + p) * (a + p) - (a + p) * (a + p) * (a + p) + p * p * p
  let hold : Int :=
    if peak ≤ d then 0
    else (2 * j * u * u * s + a * a - 2 * (d * d)) * (2 * j * u * u * s + a * a) / (8 * (j * j) * (u * u * u) * d)
  (ramps / (6 * (j * j) * (u * u * u)) + hold + 1).toNat

/-- Squared speed after a microstep from acceleration `a` to `b`. -/
def paceNext (v : Nat) (a b : Int) : Nat := (v + (a + b) / 65536).toNat

/-- Acceleration changes by no more than JERK in the time of the microstep (R284). -/
def jerkHeld (jerk v : Nat) (a b : Int) : Bool :=
  decide ((b - a).natAbs * (isqrt v + isqrt (paceNext v a b)) ≤ 2 * (jerk * accUnit))

/-- The hardest braking a microstep allows: acceleration falls at JERK, to −`dec` at the lowest. -/
def hardest (dec jerk v : Nat) (a : Int) : Int :=
  a - greatest (fun n => decide (-((dec * accUnit : Nat) : Int) ≤ a - n) && jerkHeld jerk v a (a - n)) 48 0

/-- The bounds of a microstep with PROFILE 1 toward a target `rest` microsteps further on: V_MAX, ACC, DEC and JERK hold, and the
target can still be reached at rest with no acceleration (R284). -/
def paceHeld (acc dec jerk vmax v : Nat) (rest : Option Nat) (a b : Int) : Bool :=
  let w := paceNext v a b
  decide (b ≤ ((acc * accUnit : Nat) : Int)) && jerkHeld jerk v a b && decide (w ≤ vmax * vmax)
    && (decide (b ≤ 0) || decide (2 * jerk * 256 * 65536 * 65536 * isqrt w + b.natAbs * b.natAbs ≤ 2 * jerk * 256 * 65536 * 65536 * vmax))
    && match rest with
      | some d => decide (stopDistance dec jerk w b ≤ d)
      | none => true

/-- Pace after a microstep toward a target `rest` microsteps further on, at no more than `vmax`. PROFILE 1 leaves the trajectory
open within its bounds (free value, log 12). -/
def speedUp (jerky : Bool) (acc dec jerk vmax : Nat) (v : Pace) (rest : Option Nat) (free : Nat) : Pace :=
  if jerky then
    if rest = some 0 then (0, 0)
    else
      let a := if v.1 = 0 then 0 else v.2
      let lo := if v.1 = 0 then 0 else hardest dec jerk v.1 a
      let hi := lo + greatest (fun n => paceHeld acc dec jerk vmax v.1 rest a (lo + n)) 48 0
      let b := clampInt lo hi (Config.jerkAccel free)
      let w := paceNext v.1 a b
      if w = 0 then (min 1 (vmax * vmax), 0) else (w, b)
  else
    let lo := v.1 - 512 * dec
    let cap := min (v.1 + 512 * acc) (vmax * vmax)
    (max lo (match rest with
      | some d => min cap (512 * dec * d)
      | none => cap), 0)

/-- Pace after a microstep of a stop: at DEC, with JERK for PROFILE 1 (acceleration returns to 0 with the speed), or at 1,000,000
full steps/s² without jerk limiting (R287). (DEDUCED, log 12) -/
def speedDown (jerky quick : Bool) (dec jerk : Nat) (v : Pace) : Pace :=
  if quick then (v.1 - 512 * 1000000, 0)
  else if jerky then
    let s := isqrt v.1
    if s * s * s ≤ 2 * jerk * 256 then (0, 0)
    else
      let lo := hardest dec jerk v.1 v.2
      let top := max v.2 (min 0 (v.2 + greatest (fun n => jerkHeld jerk v.1 v.2 (v.2 + n)) 48 0))
      let ends (b : Int) : Bool :=
        decide (0 ≤ b) || decide (b.natAbs * b.natAbs ≤ 2 * jerk * 256 * 65536 * 65536 * isqrt (paceNext v.1 v.2 b))
      let b := top - greatest (fun n => decide (lo ≤ top - n) && ends (top - n)) 48 0
      let w := paceNext v.1 v.2 b
      if w = 0 then (0, 0) else (w, b)
  else (v.1 - 512 * dec, 0)

/-- The distance in which an axis stops at DEC (R286). -/
def Axis.stopsWithin (x : Axis) (d : Nat) : Bool :=
  if acJerky x.cfg then x.vSq == 0 || decide (stopDistance (acDec x.cfg) (acJerk x.cfg) x.vSq x.accel ≤ d)
  else decide (x.vSq ≤ 512 * acDec x.cfg * d)

/-- A microstep of an axis on its own toward a target or a seek; V_HARD clamps the speed asked for, and none is left when it is 0
(R295). (DEDUCED, log 12) -/
def State.stepUp (a : Fin 8) (d : Int) (v : Nat) (rest : Option Nat) (s : State) : State :=
  let x := s.ax a
  let top := min v x.vHard
  let w := speedUp (acJerky x.cfg) (acAcc x.cfg) (acDec x.cfg) (acJerk x.cfg) top (x.vSq, x.accel) rest s.rst.free
  let s1 := if top = 0 && x.vSq == 0 then s else s.tickFree.stepAxis a d w
  if x.vHard < v && x.vHard * x.vHard < x.vSq + 512 * acAcc x.cfg then s1.hardClamp a 0 else s1

/-- A microstep of a stop. (DEDUCED, log 12) -/
def State.stepDown (a : Fin 8) (quick : Bool) (s : State) : State :=
  let x := s.ax a
  s.stepAxis a x.dir (speedDown (acJerky x.cfg) quick (acDec x.cfg) (acJerk x.cfg) (x.vSq, x.accel))

/-- The sign of a travel; a travel of 0 has direction +1. -/
def signOf (i : Int) : Int := if i < 0 then -1 else 1

/-- The axis becomes IDLE: its IDLE_TIMEOUT runs from now on (R293). -/
def Axis.enterIdle (now : Nat) (x : Axis) : Axis :=
  { x with
    state := .idle
    idleAt := now }

/-- A stop ends at rest: IDLE, and the target becomes the position (R287). -/
def Axis.rested (now : Nat) (x : Axis) : Axis :=
  if x.state = .stopping && x.vSq == 0 then
    { x.enterIdle now with
      target := x.pos
      quick := false }
  else x

/-- Where the present motion of an axis points: 0 at rest without a way to go. -/
def Axis.motionDir (x : Axis) : Int :=
  if x.vSq ≠ 0 then x.dir
  else if x.state = .moving && x.target ≠ x.pos then signOf (x.target - x.pos)
  else 0

/-! ### Linear moves (R288) -/

/-- A stopped linear move is over once at rest: its members enter IDLE. -/
def State.settleLinear (s : State) : State :=
  let ended := s.linear.filter fun l => l.stopping && l.vSq == 0
  let s1 := forAll (fun (m : Fin 8 × Int × Int) t => t.updAx m.1 fun x => ({ x with vSq := 0 } : Axis).rested s.now)
    (ended.flatMap Linear.members) s
  { s1 with linear := s1.linear.filter fun l => !(l.stopping && l.vSq == 0) }

/-- A member follows the lead's progress `p`, the squared speed in the ratio of the travels (R288 item 3). -/
def State.follow (l : Linear) (p : Int) (v : Nat) (m : Fin 8 × Int × Int) (s : State) : State :=
  let goal := wrap32 (m.2.1 + divRound (m.2.2 * p) l.travel.natAbs)
  let x := s.ax m.1
  let w := v * (m.2.2.natAbs * m.2.2.natAbs) / (l.travel.natAbs * l.travel.natAbs)
  let s1 := s.stepAxis m.1 (clampInt (-1) 1 (wrap32 (goal - x.pos))) (w, 0)
  if (s1.ax m.1).state = .fault then s1 else s1.updAx m.1 fun y => { y with dir := signOf m.2.2 }

/-- A limit of the lead's profile: the least of x_i × |Δ_L| / |Δ_i| over the axes that move (R288 item 2), rounded down, and no more
than `own`. -/
def leadLimit (f : Fin 8 → Nat) (travel : Nat) (ms : List (Fin 8 × Int × Int)) (own : Nat) : Nat :=
  (ms.filter fun m => m.2.2 != 0).foldl (fun acc m => min acc (f m.1 * travel / m.2.2.natAbs)) own

/-- V_HARD clamps a member's part of the path: 0x0A09 as for a move on its own (R295). -/
def State.clampMember (l : Linear) (m : Fin 8 × Int × Int) (s : State) : State :=
  let x := s.ax m.1
  let top := leadLimit (fun a => (s.ax a).vHard) l.travel.natAbs [m] l.vMax
  if x.vHard < acVmax x.cfg && top < l.vMax && top * top < l.vSq + 512 * l.acc then s.hardClamp m.1 0 else s

/-- One microstep of the lead along the path, within the V_HARD in force of every member (R295, R354), or the rest of a stop.
(DEDUCED, log 41) -/
def State.stepLinear (l : Linear) (s : State) : State :=
  let jerky := acJerky (s.ax l.lead).cfg
  let left := l.travel.natAbs - l.prog.toNat
  if left = 0 then
    if l.stopping then
      ({ s with linear := s.linear.map fun k => if k.lead = l.lead then { k with vSq := 0 } else k } : State).settleLinear
    else s
  else if l.stopping && l.vSq == 0 then s.settleLinear
  else
    let top := leadLimit (fun a => (s.ax a).vHard) l.travel.natAbs l.members l.vMax
    let v := if l.stopping then speedDown jerky l.quick l.dec l.jerk (l.vSq, l.accel)
      else speedUp jerky l.acc l.dec l.jerk top (l.vSq, l.accel) (some (left - 1)) s.rst.free
    let s1 := if l.stopping then s else forAll (State.clampMember l) l.members s
    if !l.stopping && top == 0 && l.vSq == 0 then s1
    else
      let s2 : State := { s1.tickFree with
        linear := s1.linear.map fun k =>
          if k.lead = l.lead then { k with vSq := v.1, accel := v.2, prog := l.prog + 1 } else k }
      (forAll (fun m t => if (t.linearWith m.1).isEmpty then t else t.follow l (l.prog + 1) v.1 m) l.members s2).settleLinear

/-! ### Homing (R291, R292) -/

def hmDir (b : Block) : Int := if bitAt b 0 4 then -1 else 1
def hmMethod (b : Block) : Nat := fieldAt b 0 1 0
def hmFast (b : Block) : Nat := natAt b 4
def hmSlow (b : Block) : Nat := natAt b 8
def hmBackoff (b : Block) : Nat := natAt b 0xC
def hmOffset (b : Block) : Int := intAt b 0x10
def hmTravel (b : Block) : Nat := natAt b 0x14

/-- The phase and what it begins with. -/
def Homing.go (p : HomePhase) (h : Homing) : Homing :=
  { h with
    phase := p
    travel := 0
    stallRun := 0 }

/-- Direction and speed of a moving phase. -/
def Homing.course (h : Homing) : Option (Int × Nat) :=
  let d := hmDir h.cmd
  match h.phase with
  | .seek => some (d, hmFast h.cmd)
  | .seekRev => some (-d, hmFast h.cmd)
  | .back => some (-d, hmSlow h.cmd)
  | .backoff => some (-d, hmSlow h.cmd)
  | .approach => some (d, hmSlow h.cmd)
  | .toIndex => some (d, hmSlow h.cmd)
  | .stall => some (d, hmSlow h.cmd)
  | _ => none

/-- A seek of MAX_TRAVEL without its edge or stall fails with reason 2. -/
def Homing.spent (h : Homing) : Homing :=
  if hmTravel h.cmd ≤ h.travel then h.go (.failStop 2 false) else h

/-- What the levels of the switches and the travel make of a homing phase (R291, R292, R297). (DEDUCED, log 41) -/
def Homing.judge (x : Axis) (h : Homing) : Homing :=
  let d := hmDir h.cmd
  match h.phase with
  | .seek =>
    if x.homeAct then h.go (.brake false 0)
    else if x.limitIn d then { h.go (.brake true 1) with reversed := true }
    else h.spent
  | .seekRev =>
    if x.homeAct then h.go (.brake false 0)
    else if x.limitIn (-d) then h.go (.failStop 1 true)
    else h.spent
  | .back =>
    if !x.homeAct then h.go .backoff
    else if x.limitIn (-d) then h.go (.failStop 1 true)
    else h.spent
  | .backoff =>
    if hmBackoff h.cmd ≤ h.travel then h.go (if hmMethod h.cmd = 2 then .final false else .brake false 3)
    else if x.limitIn (-d) then h.go (.failStop 1 true)
    else h
  | .approach =>
    if x.homeAct then
      if hmMethod h.cmd = 1 then h.go .toIndex
      else { h.go (.final (x.limitIn d)) with origin := some x.home.edgePos }
    else if x.limitIn d then h.go (.failStop 1 true)
    else h.spent
  | .toIndex => if x.limitIn d then h.go (.failStop 1 true) else h.spent
  | .stall =>
    if acStallN x.cfg ≤ h.stallRun then { h.go (.brake false 2) with origin := some x.pos }
    else if x.limitIn d then h.go (.failStop 4 true)
    else h.spent
  | _ => h

/-- The homing sequence is judged; the stall seek's current ends with it (R281). -/
def Axis.homeJudge (now : Nat) (x : Axis) : Axis :=
  match x.homing with
  | none => x
  | some h =>
    let k := h.judge x
    let y := { x with homing := some k }
    if h.phase = .stall && k.phase ≠ .stall then y.rampTo now (acIrun x.cfg) else y

/-- A decelerating phase at rest goes on (R291). -/
def Homing.atRest (h : Homing) : Homing :=
  match h.phase with
  | .brake _ 0 => h.go .back
  | .brake _ 1 => h.go .seekRev
  | .brake _ 2 => h.go .backoff
  | .brake _ _ => h.go .approach
  | .final _ => h.go .finished
  | .failStop r _ => h.go (.failed r)
  | _ => h

/-- QUICK of a decelerating phase. -/
def Homing.quick (h : Homing) : Option Bool :=
  match h.phase with
  | .brake q _ => some q
  | .final q => some q
  | .failStop _ q => some q
  | _ => none

/-- A limit reached in a decelerating phase makes it QUICK (R292, R297). -/
def Homing.hurry (h : Homing) : Homing :=
  match h.phase with
  | .brake _ n => { h with phase := .brake true n }
  | .final _ => { h with phase := .final true }
  | .failStop r _ => { h with phase := .failStop r true }
  | _ => h

/-- After a microstep of a homing phase: its travel, and the stall run at the end of a full step past STALL_SKIP. -/
def Homing.moved (x : Axis) (h : Homing) : Homing :=
  let t := h.travel + 1
  { h with
    travel := t
    stallRun :=
      if h.phase ≠ .stall || (x.pos - x.phaseOff) % 256 ≠ 0 || t < 256 * (acStallSkip x.cfg + 1) then h.stallRun
      else if acStallThr x.cfg < x.stall then h.stallRun + 1
      else 0 }

/-- One update of a homing axis. (DEDUCED, log 41) -/
def State.stepHoming (a : Fin 8) (h : Homing) (s : State) : State :=
  let x := s.ax a
  let y := x.homeJudge s.now
  if (y.homing.map Homing.phase) ≠ some h.phase then s.updAx a fun _ => y
  else match h.quick with
    | some q =>
      if x.vSq = 0 then s.updAx a fun x => { x with homing := some h.atRest }
      else s.stepDown a q
    | none =>
      match h.course with
      | none => s
      | some (d, v) =>
        let rest := if h.phase = .backoff then some (hmBackoff h.cmd - h.travel - 1) else none
        (s.stepUp a d v rest).updAx a fun x => { x with homing := x.homing.map (Homing.moved x) }

/-- The step generator's update of one axis (R284). -/
def State.stepGenerator (a : Fin 8) (s : State) : State :=
  let x := s.ax a
  match s.linear.find? (Linear.has a) with
  | some l =>
    let driver := if l.has l.lead then l.lead else ((l.members.map fun m => m.1).headD l.lead)
    if driver ≠ a || l.members.any (fun m => (s.ax m.1).waitRamp) then s else s.stepLinear l
  | none =>
    if x.waitRamp then s
    else match x.state with
      | .moving =>
        if x.target = x.pos then s
        else
          let d := if x.vSq = 0 then signOf (x.target - x.pos) else x.dir
          s.stepUp a d (min x.vMove (acVmax x.cfg)) (some ((x.target - x.pos).natAbs - 1))
      | .reversing =>
        if x.vSq = 0 then s.updAx a fun x => { x with state := .moving } else s.stepDown a false
      | .stopping =>
        if x.vSq = 0 then s.updAx a (Axis.rested s.now) else (s.stepDown a x.quick).updAx a (Axis.rested s.now)
      | .homing =>
        match x.homing with
        | some h => s.stepHoming a h
        | none => s
      | _ => s

/-! ### Stops, standstill, energising -/

/-- A homing sequence is abandoned with reason 3 (R292, R317). -/
def State.homeAbandon (a : Fin 8) (s : State) : State :=
  if (s.ax a).homing.isSome then
    (s.updAx a fun x => { x with homing := none }).raise 0x0A04 NOTICE a.val 3
  else s

/-- A moving, homing or stopping axis decelerates to rest (R287). -/
def State.stopAxis (a : Fin 8) (quick : Bool) (s : State) : State :=
  if (s.linear.any (Linear.has a)) then (s.stopLinear a quick).settleLinear
  else match (s.ax a).state with
    | .moving | .reversing | .homing | .stopping =>
      (s.homeAbandon a).updAx a fun x =>
        ({ x.rampTo s.now (acIrun x.cfg) with
          state := .stopping
          quick := quick || (x.state == .stopping && x.quick)
          waitRamp := false } : Axis).rested s.now
    | _ => s

/-- The coils of an axis are energised again: the tap of each Margin channel that uses its encoder is aligned to it (R316). -/
def State.alignTaps (a : Fin 8) (s : State) : State := s.bothChannels (MChan.alignTap a)

/-- STANDSTILL in a mode (R293). -/
def State.standstill (a : Fin 8) (mode : Nat) (s : State) : State :=
  s.updAx a fun x =>
    let y := { x with
      state := .standstill
      ssMode := mode
      vSq := 0
      waitRamp := false
      posUncertain := x.posUncertain || (mode != 0 && !acEnc x.cfg) }
    if mode = 0 then y.rampTo s.now (acIhold x.cfg) else y.dark

/-- The coils of an axis in OFF or SHORT are energised again: the Margin's taps are aligned to the encoder (R316), and POSITION is
compared with the encoder (R293). -/
def State.energise (a : Fin 8) (was : Axis) (s : State) : State :=
  if was.state = .standstill && was.ssMode != 0 then
    let s1 := s.alignTaps a
    if (s.ax a).encBad then s1.axisFault a 2 else s1
  else s

/-- Axes of a safety reaction enter STANDSTILL in OFF at once; moves and homing are abandoned (R317). -/
def State.axisOff (a : Fin 8) (s : State) : State :=
  match (s.ax a).state with
  | .disabled | .fault => s
  | _ => ((((s.homeAbandon a).stopLinear a false).leaveLinear a).standstill a 1).answerStops a

/-! ### Coil references (R278, R281, R295) -/

/-- T[k] with T[256] = 65,535 (R277). -/
def tableEntry (t : List Nat) (k : Nat) : Int := if k = 256 then 65535 else (t.getD k 0 : Int)

/-- Electrical phase, 0 to 1,023 (R278). -/
def Axis.phase (x : Axis) : Nat :=
  let p := x.pos - x.phaseOff
  ((if acDirInv x.cfg then -p else p) % 1024).toNat

/-- References of coils A and B at a current level, before the hard clamp. -/
def Axis.coilRefs (level : Int) (x : Axis) : Int × Int :=
  let k := x.phase % 256
  let up := divRound (level * tableEntry x.table k) 65535
  let dn := divRound (level * tableEntry x.table (256 - k)) 65535
  match x.phase / 256 with
  | 0 => (dn, up)
  | 1 => (-up, dn)
  | 2 => (-dn, -up)
  | _ => (up, -dn)

/-- Bridge states of R272. -/
inductive Bridge where
  | plus | minus | off | short
deriving DecidableEq, Repr

/-- Levels of the two command pins of a coil (R272). -/
def Bridge.pins : Bridge → Bool × Bool
  | .plus => (true, false)
  | .minus => (false, true)
  | .off => (false, false)
  | .short => (true, true)

/-- The drive interval of an on-time in a motion period, in coarse ticks from the period's start: centred on the period centre, a
remainder of one tick behind it (R273). (DEDUCED, log 41) -/
def driveInterval (period on : Nat) : Nat × Nat := ((period - on) / 2, (period - on) / 2 + on)

/-- A coil drives at a coarse tick of its motion period: the tick lies in the drive interval of its latched on-time (R273, R276). -/
def Axis.drives (x : Axis) (c : Coil) (tick : Nat) : Bool :=
  let w := driveInterval (acPeriod x.cfg) c.latched.natAbs
  decide (w.1 ≤ tick) && decide (tick < w.2)

/-- The bridge state of a coil at a coarse tick of its motion period (R272, R273, R276, R280, R293, R294, R476). -/
def Axis.bridge (x : Axis) (c : Coil) (tick : Nat) : Bridge :=
  if x.shorted then .short
  else match x.state with
    | .disabled => .off
    | .fault => if x.faultCause = 2 || x.faultCause = 3 then .short else .off
    | _ =>
      if x.state = .standstill && x.ssMode = 1 then .off
      else if x.state = .standstill && x.ssMode = 2 then .short
      else if !c.live then .off
      else if x.drives c tick && 0 < c.latched then .plus
      else if x.drives c tick && c.latched < 0 then .minus
      else if acDecayOff x.cfg then .off
      else .short

end Sys2Proof.Machine
end

