-- ==== Sys2Proof/Machine/Inkwell.lean ====
section
/-! DEFINITION. The Inkwell rows (09): record options, streams, status, storing, thinning, scrubbing, delivery. -/

namespace Sys2Proof.Machine

/-! ### Streams -/

/-- The stream's descriptor ring is set up: EN = 1 and ENTRIES a power of two, 4 to 4,096 (R349). -/
def Stream.ringSet (st : Stream) : Bool :=
  bit st.ctl 31 && (List.range 11).any fun i => bits st.ctl 15 0 == 2 ^ (i + 2)

/-- Records the stream still has to send, in SEQ order (R263, R264). -/
def State.toSend (s : State) (k : Fin 4) : List Stored :=
  s.ink.store.filter fun x => x.owed.contains k.val &&
    match (s.stream k).sent with
    | some q => !seqLe x.seq q
    | none => true

/-- The SEQ of the first record the stream will deliver (R262). -/
def State.firstOwed (s : State) (k : Fin 4) : Nat :=
  match s.ink.store.find? fun x => x.owed.contains k.val with
  | some x => x.seq
  | none => s.ink.nextSeq

def hRecStreamOpen : Hdr :=
  { opcode := 0x0702, lenOk := lenIs 40, minLen := 40, auth := fun _ => 1 }

/-! ### Filling PCIe buffers (R263, R349) -/

/-- The buffer takes a record. -/
def StreamBuf.put (x : Stored) (b : StreamBuf) : StreamBuf :=
  { b with
    seqs := b.seqs ++ [x.seq]
    words := b.words ++ x.words }

/-- A record fits into the rest of the buffer. -/
def StreamBuf.room (x : Stored) (b : StreamBuf) : Bool := decide (4 * b.words.length + x.rec_.bytes ≤ b.size)

/-- A descriptor that the device takes: OWN = 1, an aligned address, a legal SIZE. One with another SIZE or address is left, and
delivery waits. (DEDUCED, log 38) -/
def RingDesc.takes (d : RingDesc) : Bool :=
  d.own && d.addr.toNat % 8 == 0 && d.size % 8 == 0 && decide (1024 ≤ d.size) && decide (d.size ≤ 1048576)

/-- ENTRIES. -/
def Stream.entries (r : Stream) : Nat := bits r.ctl 15 0

/-- The descriptor at RING_HEAD mod ENTRIES, when the device may take it. -/
def Stream.nextDesc (r : Stream) : Option RingDesc :=
  if !r.ringSet || r.ringHead == r.ringTail then none
  else ((r.ring.find? fun e => e.1 == r.ringHead % r.entries).map fun e => e.2).filter RingDesc.takes

/-- A PCIe stream places its next record in the buffer that it fills, or in that of the next descriptor; none where it cannot. -/
def State.fillOne (k : Fin 4) (s : State) : Option State :=
  let r := s.stream k
  if !r.open_ || r.fabric || s.hostOut then none
  else match (s.toSend k).head?, r.buf with
    | none, _ => none
    | some x, some b =>
      if b.room x then some (s.updStream k fun r => { r with
        buf := some (b.put x)
        sent := some x.seq })
      else none
    | some x, none => r.nextDesc.map fun d =>
      let b : StreamBuf := { desc := r.ringHead % r.entries, addr := d.addr, size := d.size, since := s.now }
      s.updStream k fun r => { r with
        ringHead := (r.ringHead + 1) % 65536
        buf := some (b.put x)
        sent := some x.seq }

/-- A PCIe stream places records while it can, at most `n`. -/
def State.fillBuffer (k : Fin 4) : Nat → State → State
  | 0, s => s
  | n + 1, s => match s.fillOne k with
    | some t => t.fillBuffer k n
    | none => s

/-- Every stream places what it can. -/
def State.fillBuffers (s : State) : State := forAll (fun k t => t.fillBuffer k t.ink.store.length) (List.finRange 4) s

/-- The stream has sent records up to `q`. -/
def State.sentTo (k : Fin 4) (q : Nat) (s : State) : State :=
  s.updStream k fun st =>
    { st with sent := some q, sentSeq := q,
              progress := if st.top.all fun t => decide (st.ackSeq = t) then s.now else st.progress,
              top := match st.top with
                | some t => if seqLe q t then some t else some q
                | none => some q }

/-- The buffer is returned: BYTES is written, OWN cleared, and the stream's vector signals (R263). -/
def State.returnBuffer (k : Fin 4) (s : State) : State :=
  match (s.stream k).buf with
  | none => s
  | some b =>
    ((s.updStream k fun r => { r with
      buf := none
      ring := r.ring.map fun e => if e.1 = b.desc then (e.1, { e.2 with own := false }) else e
      returned := r.returned ++ [b] }).sentTo k (b.seqs.getLastD 0)).irq (8 + k.val)

/-- The buffer is to be returned: the next record would not fit, or FLUSH_US have passed since the first (R263). -/
def State.bufferDue (s : State) (k : Fin 4) : Bool :=
  match (s.stream k).buf with
  | none => false
  | some b => ((s.toSend k).head?.any fun x => !b.room x) || decide (b.since + 250 * s.ink.flushUs ≤ s.now)

/-- The device reads the descriptor that host memory now holds at an entry of a stream's ring: the host may have set OWN since (R263). -/
def State.readDesc (k : Fin 4) (entry : Nat) (d : RingDesc) (s : State) : State :=
  s.updStream k fun r => { r with ring := (entry, d) :: r.ring.filter fun e => e.1 != entry }

/-- STREAM_BUFFER_RETURN (R263, R349); `desc` is what host memory holds at `entry` of the ring. (DEDUCED, log 38) -/
def execStreamBufferReturn (st : Fin 4) (entry : Nat) (desc : RingDesc) (s0 : State) : Host.Outcome State Fault Refusal :=
  let s := s0.readDesc st entry desc
  let t := s.fillBuffer st s.ink.store.length
  .next (if t.bufferDue st && !t.hostOut then (t.returnBuffer st).fillBuffer st s.ink.store.length else t)

/-! ### Opening and closing (R262) -/

/-- Close a stream (R262, R265, R269): a partly filled buffer is returned; it owes no more, and its records stay in the store unowned
(log 18). -/
def State.closeStream (k : Fin 4) (s0 : State) : State :=
  let s := s0.returnBuffer k
  let t := s.updStream k fun st => { st with open_ := false, sent := none, top := none }
  let u : State := { t with ink := { t.ink with
    store := t.ink.store.map fun x => { x with owed := x.owed.filter fun i => i != k.val } } }
  u.system 5 [w32 (k.val + 16 * b2n (s.stream k).fabric), w32 (s.firstOwed k)]

/-- Open a stream (R262, R265). (DEDUCED, log 18) -/
def State.openStream (k : Fin 4) (p : Block) (s : State) : State :=
  let t := s.updStream k fun st =>
    { st with open_ := true, fabric := bitAt p 0 4, typeMask := natAt p 4, groupMask := natAt p 8, unitMask := natAt p 12,
              addr := BitVec.ofNat 16 (natAt p 16), retx := fieldAt p 20 15 0, sent := none, top := none }
  let st := t.stream k
  let u : State := if bitAt p 20 16 then t else
    { t with ink := { t.ink with
      store := t.ink.store.map fun x =>
        if st.selects x.rec_ && !x.owed.contains k.val then { x with owed := x.owed ++ [k.val] } else x } }
  let first := u.firstOwed k
  ((u.updStream k fun st => { st with firstSeq := first }).system 5
    [w32 (k.val + 16 * b2n (bitAt p 0 4) + 256), w32 first]).fillBuffer k u.ink.store.length

/-- REC_STREAM_OPEN's own checks, in the table's order, and its effect (R262; R448 for a DRAM left in reset). (DEDUCED, log 18) -/
def ownRecStreamOpen (m : MbCmd) (s : State) : Verdict :=
  let p := m.params
  let k : Fin 4 := Fin.ofNat 4 (fieldAt p 0 1 0)
  let st := s.stream k
  if !s.ink.dramOk then .refuse RC_HW_FAULT 0 []
  else if bitAt p 0 8 then
    reserved m [(0, 0xFFFFFEEC)] <|
    if !st.open_ then .refuse RC_STATE 0 []
    else .done (s.closeStream k) 0 [w32 (s.firstOwed k)]
  else
    reserved m [(0, 0xFFFFFEEC), (4, 0xFFFFFF81), (8, 0xFFFF0000), (16, 0xFFFF0000), (20, 0xFFFE0000)] <|
    if st.open_ then .refuse RC_STATE 1 []
    else if natAt p 4 = 0 then .refuse RC_CFG_CONFLICT 4 []
    else if bitAt p 0 4 && (natAt p 16 < 1 || 0x0FFF < natAt p 16) then .refuse RC_CFG_RANGE 16 []
    else if fieldAt p 20 15 0 < 10 || 10000 < fieldAt p 20 15 0 then .refuse RC_CFG_RANGE 20 []
    else if !bitAt p 0 4 && !st.ringSet then .refuse RC_CFG_CONFLICT 0 []
    else
      let t := s.openStream k p
      .done t 0 [w32 (t.firstOwed k)]

/-- REC_STREAM_OPEN opens or closes a record stream (R262). -/
def execRecStreamOpen (m : MbCmd) (s : State) : Host.Outcome State Fault Refusal :=
  .next (hRecStreamOpen.run ownRecStreamOpen m s)

/-! ### REC_STATUS (R268) -/

def hRecStatus : Hdr :=
  { opcode := 0x0703, lenOk := lenIs 16, minLen := 16, auth := fun _ => 0 }

/-- The REC_STATUS payload (R268). -/
def State.recStatusWords (s : State) : Block :=
  let k := s.ink
  let st := fun i => vgetD k.streams i {}
  [w32 k.recordPages, w32 k.freePages, w32 k.oldest, w32 k.nextSeq]
    ++ (List.range 4).flatMap (fun i => [w32 (st i).sentSeq, w32 (st i).ackSeq])
    ++ [w32 (((List.range 4).map fun i => 2 ^ i * b2n (st i).open_ + 2 ^ (i + 4) * b2n (st i).fabric).sum),
        w32 k.thinned, w32 k.dropped, w32 k.dropIngest, w32 k.innerCorr, w32 k.innerUncorr, w32 k.outerCorr,
        w32 k.outerUncorr, w32 s.vel.pagesRetired]

def ownRecStatus (_ : MbCmd) (s : State) : Verdict :=
  if !s.ink.dramOk then .refuse RC_HW_FAULT 0 [] else .done s 0 s.recStatusWords

/-- REC_STATUS returns the store's pages, sequence numbers, stream positions and counters (R268). -/
def execRecStatus (m : MbCmd) (s : State) : Host.Outcome State Fault Refusal := .next (hRecStatus.run ownRecStatus m s)

/-! ### Acknowledgement (R265, R349) -/

/-- A REC_ACK value is taken: behind the present one it is ignored, beyond the last record sent it counts as that one; with none sent it
acknowledges nothing (R265, R349). (DEDUCED, log 38) -/
def State.recAck (k : Fin 4) (v : Word) (s : State) : State :=
  let st := s.stream k
  if !seqLe st.recAck.toNat v.toNat then s
  else
    match st.top with
    | none => s
    | some q =>
      let a := if seqLe v.toNat q then v.toNat else q
      let t := s.updStream k fun st => { st with recAck := w32 a, ackSeq := a,
                                                 progress := if a = st.ackSeq then st.progress else s.now }
      let store := t.ink.store.map fun x => x.ackBy k.val a
      { t with ink := { t.ink with store := freeAcked t.ink.store store } }

/-! ### RECORD_STORE (R247, R257, R260) -/

/-- Where the next record goes: the page being filled, or a fresh one (R257). -/
def Inkwell.place (k : Inkwell) (n : Nat) : Option (Nat × Nat) :=
  if k.pageUsed + n ≤ 8192 && !k.retired.contains k.page then some (k.page, k.pageUsed)
  else (k.findPage storePages (k.page + 1)).map fun p => (p, 0)

/-- FREE_PAGES first below one quarter of RECORD_PAGES raises 0x0908 (R270). -/
def State.fillCheck (s : State) : State :=
  if !s.ink.fillHigh && s.ink.freePages * 4 < s.ink.recordPages then
    ({ s with ink := { s.ink with fillHigh := true } } : State).raise 0x0908 NOTICE 0 s.ink.freePages
  else s

/-- A record enters the store: SEQ, page, owing (R247, R257, R265). (DEDUCED, log 38) -/
def State.store (r : Rec) (s : State) : State :=
  match s.ink.place r.bytes with
  | none => s.dropped 0 s.ink.nextSeq s.ink.nextSeq [r]
  | some (p, off) =>
    let x : Stored := { seq := s.ink.nextSeq, page := p, owed := s.owing r, thin := 0, off := off, rec_ := r }
    State.fillCheck { s with ink := { s.ink with
      store := s.ink.store ++ [x]
      nextSeq := (s.ink.nextSeq + 1) % 2 ^ 32
      page := p
      pageUsed := off + r.bytes } }

/-- Records of a producer that wait in its buffer. -/
def Inkwell.buffered (k : Inkwell) (p : Nat) : Nat := (k.waiting.filter fun x => x.producer == p).length

/-- A unit's buffer of eight takes the next record of the unit's oldest delivery (R260). -/
def Inkwell.drawOne (u : Fin 32) (k : Inkwell) : Inkwell :=
  let mine (d : Incoming) : Bool := d.unit == u && !d.recs.isEmpty
  match k.incoming.find? mine with
  | some d =>
    match d.recs with
    | r :: l =>
      if 8 ≤ k.buffered (256 + u.val) then k
      else { k with
        waiting := k.waiting ++ [r]
        incoming := replaceFirst mine { d with recs := l } k.incoming }
    | [] => k
  | none => k

/-- A unit hands records over while its buffer has room. -/
def Inkwell.draw (u : Fin 32) : Nat → Inkwell → Inkwell
  | 0, k => k
  | n + 1, k => (k.drawOne u).draw u n

/-- Deliveries whose records the controller holds are over; an ACQ_READ that waits for one is answered (R238). -/
def State.endDeliveries (s : State) : State :=
  forAll (fun (d : Incoming) t => match d.ans with
      | some (m, st) => t.respondLate m (answerTo m RC_OK st 0 [])
      | none => t)
    (s.ink.incoming.filter fun d => d.recs.isEmpty)
    { s with ink := { s.ink with incoming := s.ink.incoming.filter fun d => !d.recs.isEmpty } }

/-- The records of a delivery are drawn from their unit as its buffer of eight has room: none of them finds it full (R238, R260).
(DEDUCED, log 37) -/
def State.drawRecords (u : Fin 32) (s : State) : State := State.endDeliveries { s with ink := s.ink.draw u 8 }

/-- RECORD_STORE: the record that has waited longest enters the store (R247), and streams go on with it; nothing while the DRAM is not
usable, in self-refresh (R476), or while the controller is asked to take no new work (R454). -/
def execRecordStore (s : State) : Host.Outcome State Fault Refusal :=
  match s.ink.waiting with
  | r :: l =>
    if s.ink.dramOk && !s.rst.pfailSeq && !s.rst.block.contains (3, 0) then
      let t := State.store r { s with ink := { s.ink with waiting := l } }
      let u := if r.typ = tCAPTURE then t.drawRecords (Fin.ofNat 32 r.source) else t
      .next u.fillBuffers
    else .next s
  | [] => .next s

/-! ### THINNING_PASS (R266) -/

/-- Remove records that satisfy `p`, oldest first, until FREE_PAGES reaches the target. -/
def reclaim (p : Stored → Bool) (target : Nat) : List Stored → Inkwell → List Stored × Inkwell
  | [], k => ([], k)
  | x :: l, k =>
    if target ≤ k.freePages then ([], k)
    else if p x then
      let r := reclaim p target l { k with store := k.store.filter fun y => y.seq != x.seq }
      (x :: r.1, r.2)
    else reclaim p target l k

/-- The pairs of one channel's records: the first keeps, with THIN one more, the second goes. -/
def thinPairs : List Stored → List (Nat × Nat)
  | a :: b :: l => (a.seq, b.seq) :: thinPairs l
  | _ => []

/-- PERIODIC with THIN below 8. -/
def Stored.thinnable (x : Stored) : Bool := x.rec_.typ == tPERIODIC && decide (x.thin < 8)

/-- The pages that hold PERIODIC records with THIN below 8, oldest first. -/
def Inkwell.thinPages (k : Inkwell) : List Nat := ((k.store.filter Stored.thinnable).map fun x => x.page).eraseDups

/-- The records that stage 2 looks at: those of the oldest `n` such pages. -/
def Inkwell.thinSet (k : Inkwell) (n : Nat) : List Stored :=
  (k.store.filter Stored.thinnable).filter fun x => (k.thinPages.take n).contains x.page

/-- The pairs among them, channel by channel. -/
def Inkwell.thinPairsOf (k : Inkwell) (n : Nat) : List (Nat × Nat) :=
  (List.range 256).flatMap fun c => thinPairs ((k.thinSet n).filter fun x => x.rec_.source == c)

/-- The pairs of stage 2: of the oldest 64 pages; where these hold none, of as many more as it takes (R266). (DEDUCED, log 38) -/
def Inkwell.thinPlan (k : Inkwell) : List (Nat × Nat) :=
  (((List.range (k.thinPages.length / 64 + 1)).map fun i => k.thinPairsOf (64 * (i + 1))).find? fun l => !l.isEmpty).getD []

/-- Highest THIN held. -/
def Inkwell.highThin (k : Inkwell) : Nat := (k.store.map fun x => x.thin).foldl max 0

/-- Stage 2 of R266. (DEDUCED, log 38) -/
def State.thin (s : State) : State :=
  let plan := s.ink.thinPlan
  let gone := plan.map fun e => e.2
  let kept := plan.map fun e => e.1
  let store := (s.ink.store.filter fun x => !gone.contains x.seq).map fun x =>
    if kept.contains x.seq then { x with thin := x.thin + 1 } else x
  let t : State := { s with ink := { s.ink with store := store, thinned := satAdd s.ink.thinned gone.length } }
  let seqs := (s.ink.store.filter fun x => gone.contains x.seq).map fun x => x.seq
  (t.system 3 [w32 (seqs.headD 0), w32 (seqs.getLastD 0), w32 gone.length, w32 t.ink.highThin]).raise
    0x0901 NOTICE 0 (gone.length + 2 ^ 32 * t.ink.highThin)

/-- A dropping stage of R266: records that satisfy `p`, oldest first. (DEDUCED, log 38) -/
def State.reclaimStage (p : Stored → Bool) (s : State) : State :=
  let r := reclaim p (s.ink.thinReserve + 64) s.ink.store s.ink
  let seqs := r.1.map fun x => x.seq
  ({ s with ink := r.2 } : State).dropped 0 (seqs.headD 0) (seqs.getLastD 0) (r.1.map fun x => x.rec_)

/-- The records of stage 1: unowned PERIODIC and CAPTURE. -/
def Stored.loose (x : Stored) : Bool := x.owed.isEmpty && (x.rec_.typ == tPERIODIC || x.rec_.typ == tCAPTURE)

/-- One pass of the lowest stage that has something to reclaim (R266). (DEDUCED, log 38) -/
def State.thinPass (s : State) : State :=
  let k := s.ink
  if k.store.any Stored.loose then s.reclaimStage Stored.loose
  else if !k.thinPlan.isEmpty then s.thin
  else if k.store.any (fun x => x.rec_.typ == tCAPTURE) then s.reclaimStage fun x => x.rec_.typ == tCAPTURE
  else if k.store.isEmpty then s
  else s.reclaimStage fun _ => true

/-- THINNING_PASS: from FREE_PAGES below THIN_RESERVE on, passes reclaim until it reaches THIN_RESERVE + 64 (R266). -/
def execThinningPass (s : State) : Host.Outcome State Fault Refusal :=
  if s.ink.freePages < s.ink.thinReserve || (s.ink.thinning && s.ink.freePages < s.ink.thinReserve + 64) then
    let t := s.thinPass
    .next { t with ink := { t.ink with thinning := decide (t.ink.freePages < t.ink.thinReserve + 64) } }
  else .next { s with ink := { s.ink with thinning := false } }

/-! ### DRAM_SCRUB (R258, R259) -/

/-- A record touches a codeword of its page (R258, R259). -/
def Stored.touches (x : Stored) (cw : Nat) : Bool :=
  decide (x.off < 128 * cw + 128) && decide (128 * cw < x.off + x.rec_.bytes)

/-- A page is retired: its readable records are moved to another page first (R259). -/
def State.retirePage (page : Nat) (s : State) : State :=
  if s.ink.retired.contains page then s
  else
    let k := { s.ink with retired := s.ink.retired ++ [page] }
    let moved := match k.findPage storePages (k.page + 1) with
      | some q => k.store.map fun x => if x.page = page then { x with page := q } else x
      | none => k.store.filter fun x => x.page != page
    let k1 := { k with store := moved, pageUsed := if k.page = page then 8192 else k.pageUsed }
    let t : State := { s with ink := k1, vel := { s.vel with pagesRetired := satAdd s.vel.pagesRetired 1 } }
    (t.system 6 [w32 page, w32 k1.recordPages]).raise 0x0905 NOTICE 0 (page + 2 ^ 32 * k1.recordPages)

/-- Bytes corrected by the outer code, with the 5-byte rule of R259. -/
def State.outerCorrect (page cw n : Nat) (s : State) : State :=
  if n = 0 then s
  else
    let t := ({ s with ink := { s.ink with outerCorr := satAdd s.ink.outerCorr n } } : State).raise 0x0903 INFO 0
      (page + 2 ^ 24 * n)
    if n < 5 then t
    else if t.ink.fiveTwice.contains (page, cw) then t.retirePage page
    else { t with ink := { t.ink with fiveTwice := t.ink.fiveTwice ++ [(page, cw)] } }

/-! #### The outer code (R258) -/

/-- Double in GF(2^8) of x^8 + x^4 + x^3 + x^2 + 1. -/
def gfDouble (a : Nat) : Nat := if 128 ≤ a then (2 * a) ^^^ 0x11D else 2 * a

/-- Product in GF(2^8), over the low `k` bits of `b`. -/
def gfMulBits : Nat → Nat → Nat → Nat
  | 0, _, _ => 0
  | k + 1, a, b => (if b % 2 = 1 then a else 0) ^^^ gfMulBits k (gfDouble a) (b / 2)

/-- Product in GF(2^8). -/
def gfMul (a b : Nat) : Nat := gfMulBits 8 a b

/-- α^i. -/
def gfPow : Nat → Nat
  | 0 => 1
  | i + 1 => gfDouble (gfPow i)

/-- A polynomial (highest coefficient first) times x + r. -/
def polyTimes (r : Nat) (p : List Nat) : List Nat :=
  ((p ++ [0]).zip (0 :: p)).map fun (x : Nat × Nat) => x.1 ^^^ gfMul r x.2

/-- The generator polynomial with the roots α^0 to α^15, its leading 1 left out. -/
def rsGen : List Nat := ((List.range 16).foldl (fun p i => polyTimes (gfPow i) p) [1]).drop 1

/-- One step of the division by the generator. -/
def rsStep (rem : List Nat) (d : Nat) : List Nat :=
  let f := d ^^^ rem.headD 0
  ((rem.drop 1 ++ [0]).zip rsGen).map fun (x : Nat × Nat) => x.1 ^^^ gfMul f x.2

/-- The 16 check bytes of 128 data bytes. -/
def rsParity (data : List Nat) : List Nat := data.foldl rsStep (List.replicate 16 0)

/-- The codeword of 128 data bytes: 144 symbols. -/
def rsCodeword (data : List Nat) : List Nat := data ++ rsParity data

/-- Value of a codeword at α^i; all of i = 0 to 15 are 0 for a good one. -/
def rsSyndrome (i : Nat) (word : List Nat) : Nat := word.foldl (fun a x => gfMul a (gfPow i) ^^^ x) 0

/-- The data bytes of a page: its records, packed whole (R257). -/
def Inkwell.pageBytes (k : Inkwell) (page : Nat) : List Nat :=
  ((k.store.filter fun x => x.page == page).foldl (fun (a : List Nat) x =>
    a ++ List.replicate (x.off - a.length) 0 ++ (blockBytes x.words).map fun b => b.toNat) [])

/-- Codeword `cw` of a page as the DRAM holds it; bytes that hold no record count as 0. (DESIGN CHOICE, log 38) -/
def Inkwell.codeword (k : Inkwell) (page cw : Nat) : List Nat :=
  let d := ((k.pageBytes page).drop (128 * cw)).take 128
  rsCodeword (d ++ List.replicate (128 - d.length) 0)

/-- How many bytes of a codeword are in error. -/
def wrongBytes (data : List (Fin 128)) (check : List (Fin 16)) : Nat := data.eraseDups.length + check.eraseDups.length

/-- Inner correction flags of a read are counted (R258, R268). -/
def State.innerFlags (x : InnerFlag) (s : State) : State :=
  { s with
    ink := match x with
      | .clean => s.ink
      | .corrected => { s.ink with innerCorr := satAdd s.ink.innerCorr 1 }
      | .uncorrectable => { s.ink with innerUncorr := satAdd s.ink.innerUncorr 1 } }

/-- DRAM_SCRUB: one codeword is read, of which the data bytes `data` and the check bytes `check` are in error; the outer code corrects
any 8 (R258, R259). -/
def execDramScrub (page : Nat) (codeword : Fin 64) (data : List (Fin 128)) (inner : InnerFlag) (check : List (Fin 16)) (s0 : State) :
    Host.Outcome State Fault Refusal :=
  if !s0.ink.dramOk || storePages ≤ page then .next s0
  else
    let s := s0.innerFlags inner
    let n := wrongBytes data check
    if n ≤ 8 then
      let t := if inner = .uncorrectable then s.raise 0x0904 ALARM 0 (page + 2 ^ 20) else s
      .next (t.outerCorrect page codeword n)
    else
      let lost := s.ink.store.filter fun x => x.page == page && x.touches codeword
      let t := ({ s with ink := { s.ink with
        outerUncorr := satAdd s.ink.outerUncorr 1
        store := s.ink.store.filter fun x => !(x.page == page && x.touches codeword) } } : State).raise 0x0904 ALARM 0 page
      let seqs := lost.map fun x => x.seq
      let u := if lost.isEmpty then t else t.dropped 1 (seqs.headD 0) (seqs.getLastD 0) (lost.map fun x => x.rec_)
      .next (u.retirePage page)

/-! ### Delivery to the fabric (R264) -/

/-- The prefix of records that fits in `n` bytes. -/
def fitting : Nat → List Stored → List Stored
  | _, [] => []
  | n, x :: l => if x.rec_.bytes ≤ n then x :: fitting (n - x.rec_.bytes) l else []

/-- STREAM_FRAME_SEND: a fabric stream sends up to `count` whole records in one STREAM frame (R264, R395). (DEDUCED, log 38) -/
def execStreamFrameSend (st : Fin 4) (count : Nat) (s : State) : Host.Outcome State Fault Refusal :=
  let r := s.stream st
  let fill := fitting 1464 ((s.toSend st).take (min count 255))
  match fill.head?, fill.getLast? with
  | some x, some y =>
    if r.open_ && r.fabric then
      let body := fill.flatMap Stored.words
      let f := s.ownFrame tSTREAM r.addr false false ([w32 (st.val + 256 * fill.length), w32 x.seq] ++ body)
        (8 + 4 * body.length)
      .next ((s.sendUnicast f none).sentTo st y.seq)
    else .next s
  | _, _ => .next s

/-- REC_STREAM_RESEND: the stream sends again from its first unacknowledged record (R264). -/
def execRecStreamResend (st : Fin 4) (s : State) : Host.Outcome State Fault Refusal :=
  let r := s.stream st
  match s.ink.store.find? fun x => x.owed.contains st.val with
  | some x =>
    if r.open_ && r.fabric && r.sent.isSome && !(s.toSend st).any (fun y => y.seq == x.seq)
        && decide (r.progress + r.retx * 250000 ≤ s.now) then
      .next ((s.updStream st fun r => { r with
        sent := none
        progress := s.now }).raise 0x0907 NOTICE st.val x.seq)
    else .next s
  | none => .next s

end Sys2Proof.Machine
end

