-- ==== Sys2Proof/Machine/Pounce.lean ====
section
/-! DEFINITION. The Pounce units (08): ACQ_CONFIG and the checks of ACQ_ARM, ticks with the trigger sequencer and the two kinds
of storage, measurements, delivery to the Inkwell. -/

namespace Sys2Proof.Machine

/-! ### The ACQ_CONFIG block (R224 to R226, R234) -/

def aqDec0 (c : Block) : Nat := fieldAt c 0 23 20
def aqNsig (c : Block) : Nat := fieldAt c 0 19 16
def aqDeliver (c : Block) : Bool := bitAt c 0 12
def aqEval (c : Block) : Bool := bitAt c 0 8
def aqMode (c : Block) : Nat := fieldAt c 0 1 0
def aqEvalCh (c : Block) : Fin 256 := Fin.ofNat 256 (fieldAt c 4 27 20)
def aqTickUs (c : Block) : Nat := fieldAt c 4 19 0
def aqPre (c : Block) : Nat := natAt c 8
def aqPost (c : Block) : Nat := natAt c 0xC
def aqPages (c : Block) : Nat := fieldAt c 0x10 8 0
def aqSig (c : Block) (i : Nat) : Word := wordAt c (0x14 + 4 * i)
def aqTerm (c : Block) (t : Nat) : Word := wordAt c (0x34 + 12 * t)
def aqTermA (c : Block) (t : Nat) : Int := intAt c (0x38 + 12 * t)
def aqTermB (c : Block) (t : Nat) : Int := intAt c (0x3C + 12 * t)
def aqTrans (c : Block) (s k : Nat) : Word := wordAt c (0x94 + 8 * s + 4 * k)
def aqTmr (c : Block) (j : Nat) : Nat := natAt c (0xD4 + 4 * j)
def aqMeasSig (c : Block) : Nat := fieldAt c 0xDC 2 0
def aqLevel (c : Block) : Int := intAt c 0xE0
def aqHyst (c : Block) : Int := intAt c 0xE4
def aqBand (c : Block) : Int := intAt c 0xE8

/-- Reserved bits of the block (R234, R235). -/
def aqReserved : List (Nat × Nat) :=
  [(0, 0xFF00EEFC), (4, 0xF0000000), (0x10, 0xFFFFFE00)]
    ++ (List.range 8).map (fun i => (0x14 + 4 * i, 0x0FFFEC00))
    ++ (List.range 8).map (fun t => (0x34 + 12 * t, 0xFFFFFE80))
    ++ (List.range 16).map (fun k => (0x94 + 4 * k, 0x7880FF00))
    ++ [(0xDC, 0xFFFFFFF8), (0xEC, 0xFFFFFFFF)]

/-- Sets in `pages` pages (R221). -/
def capSets (pages nsig : Nat) : Nat := pages * 65536 / (4 * nsig)
def aqCap (c : Block) : Nat := capSets (aqPages c) (aqNsig c)

/-- ceil(a / 2^e). -/
def ceilPow (a e : Nat) : Nat := (a + 2 ^ e - 1) / 2 ^ e

/-- An enabled slot of a state: its word. -/
def aqSlots (c : Block) (s : Nat) : List Word := [aqTrans c s 0, aqTrans c s 1].filter fun w => bit w 31
def aqAllSlots (c : Block) : List Word := (List.range 8).flatMap (aqSlots c)

/-- Terms a slot names: TB only when its OP uses it (R226). -/
def slotTerms (w : Word) : List Nat := bits w 2 0 :: (if bits w 7 6 = 0 then [] else [bits w 5 3])

def termKind (c : Block) (t : Nat) : Nat := bits (aqTerm c t) 3 0

/-! ### QK01 to QK17 (R236) -/

/-- KIND and INDEX of a signal are in range (QK06). -/
def sigOk (w : Word) : Bool :=
  let i := bits w 9 0
  match bits w 31 28 with
  | 9 => decide (i < 288)
  | 11 => decide (i < 16)
  | 12 => decide (i < 8)
  | 13 => decide (i < 16)
  | 14 => i == 0
  | 15 => false
  | _ => decide (i < 256)

/-- QK08 for one term. -/
def termOk (c : Block) (t : Nat) : Bool :=
  let k := termKind c t
  let a := aqTermA c t
  let b := aqTermB c t
  let sigs := decide (bits (aqTerm c t) 6 4 < aqNsig c)
  if k = 15 then false
  else if k = 2 || k = 3 then sigs
  else if k = 4 || k = 5 then sigs && decide (0 ≤ b)
  else if k = 6 || k = 7 then sigs && decide (a ≤ b)
  else if k = 9 then decide (0 ≤ a) && decide (a < 16)
  else if k = 10 then decide (0 ≤ a) && decide (a < 4)
  else if k = 11 || k = 12 then decide (0 ≤ a) && decide (a < 2)
  else if k = 13 then decide (0 ≤ a) && decide (a < 256) && decide (0 ≤ b) && decide (b < 10)
  else if k = 14 then decide (0 ≤ a) && decide (a < 256)
  else true

/-- States that enabled slots reach from a work list. -/
def seqReach (c : Block) : Nat → List Nat → List Nat → List Nat
  | 0, _, seen => seen
  | _, [], seen => seen
  | fuel + 1, s :: l, seen =>
    if seen.contains s then seqReach c fuel l seen
    else seqReach c fuel ((aqSlots c s).map (fun w => bits w 26 24) ++ l) (s :: seen)

/-- States that an enabled slot of S0 can reach (QK09). -/
def reachedStates (c : Block) : List Nat := seqReach c 40 ((aqSlots c 0).map fun w => bits w 26 24) []

/-- Timer `j` is started or tested by an enabled slot (QK11). -/
def timerUsed (c : Block) (j : Nat) : Bool :=
  (aqAllSlots c).any fun w => bit w (21 + j) || (slotTerms w).any fun t => termKind c t == 12 && aqTermA c t == (j : Int)

/-- Pages of the pool in use. -/
def State.poolUsed (s : State) : Nat := (s.pounce.toList.map fun p => p.pages).foldl (· + ·) 0

/-- QK01 to QK17 in order (R236). -/
def State.armChecks (s : State) (u : Fin 32) : List (Bool × Nat) :=
  let p := s.unit u
  let c := p.cfg
  let n := aqNsig c
  let circ := aqMode c == 0
  let stream := aqMode c == 1
  let sigs := (List.range (min n 8)).map (aqSig c)
  [(decide (aqMode c ≤ 1), RC_CFG_RANGE),
   (!stream || s.folio.service, RC_MODE),
   (decide (1 ≤ n) && decide (n ≤ 8), RC_CFG_RANGE),
   (aqEval c || (decide (1 ≤ aqTickUs c) && decide (aqTickUs c ≤ 1000000)), RC_CFG_RANGE),
   (!aqEval c || (s.grp (groupOf (aqEvalCh c))).seated, RC_CFG_ABSENT),
   (sigs.all sigOk, RC_CFG_RANGE),
   (sigs.all fun w => !bit w 12 || (bits w 31 28 == 9 && !aqEval c && decide (2 ≤ aqTickUs c)), RC_CFG_TIMING),
   ((aqAllSlots c).all fun w => (slotTerms w).all (termOk c), RC_CFG_RANGE),
   ((reachedStates c).all fun st => (aqSlots c st).all fun w => (slotTerms w).all fun t => termKind c t != 0, RC_CFG_CONFLICT),
   (!circ || (aqAllSlots c).any fun w => bit w 16, RC_CFG_CONFLICT),
   ((List.range 2).all fun j => !timerUsed c j || decide (1 ≤ aqTmr c j), RC_CFG_RANGE),
   (decide (1 ≤ aqPages c) && decide (aqPages c ≤ 256), RC_CFG_RANGE),
   (!circ || (decide (1 ≤ aqPost c) && decide (aqPre c < aqCap c)
      && decide (ceilPow (aqPost c) 15 ≤ aqCap c - aqPre c)), RC_CFG_RANGE),
   (!stream || (aqPre c == 0 && aqPost c == 0 && !aqDeliver c), RC_CFG_CONFLICT),
   (decide (aqMeasSig c < n) && decide (0 ≤ aqHyst c) && decide (0 ≤ aqBand c), RC_CFG_RANGE),
   (p.holder.isNone, RC_CFG_CONFLICT),
   (decide (s.poolUsed - p.pages + aqPages c ≤ 256), RC_NO_SPACE)]

/-- The first failing check from number `k` on. -/
def armFail (k : Nat) : List (Bool × Nat) → Option (Nat × Nat)
  | [] => none
  | (ok, rc) :: l => if ok then armFail (k + 1) l else some (k, rc)

/-! ### Commands (R234 to R238) -/

/-- The command's unit, when its TARGET names one. -/
def unitVerdict (f : Fin 32 → State → Verdict) (m : MbCmd) (s : State) : Verdict :=
  match tgtOf m.target with
  | .unit u => f u s
  | _ => .refuse RC_BAD_TARGET m.target.toNat []

def unitHdr (op len auth : Nat) : Hdr :=
  { opcode := op, forms := [5], lenOk := lenIs len, minLen := len, auth := fun _ => auth }

/-- The capture and its pages are released (R221). -/
def Pounce.empty (p : Pounce) : Pounce :=
  { p with
    state := .configured
    pages := 0
    ring := []
    post := []
    stored := 0
    marks := []
    stream := []
    handed := 0
    smarks := []
    measured := false
    force := false
    forced := false
    stopped := false
    eccUncorr := false
    aborted := false
    tune := false }

/-- ACQ_CONFIG on a unit. -/
def State.acqConfig (m : MbCmd) (u : Fin 32) (s : State) : Verdict :=
  let p := s.unit u
  if p.state ≠ .idle && p.state ≠ .configured && p.state ≠ .complete then .refuse RC_STATE p.state.code []
  else if p.holder.isSome then .refuse RC_CFG_CONFLICT 16 []
  else reserved m aqReserved <|
    .done (s.updUnit u fun p =>
      let q := p.empty
      { q with cfg := blockFit 60 m.params }) 0 []

/-- ACQ_CONFIG. -/
def execAcqConfig (m : MbCmd) (s : State) : Host.Outcome State Fault Refusal :=
  .next ((unitHdr 0x0601 256 1).run (unitVerdict (State.acqConfig m)) m s)

/-- The unit is armed with its configuration at TIME cycle `now`, when its EVAL channel has had `evals` evaluations (R222, R227, R230,
R236). (DEDUCED, log 37) -/
def Pounce.arm (evalTicks now evals : Nat) (p : Pounce) : Pounce :=
  let c := p.cfg
  let q := p.empty
  { q with
    state := if aqMode c = 1 then .streaming else .armed
    pages := aqPages c
    armedAt := now
    tickAt := none
    evalSeen := evals
    ticks := 0
    j := 0
    d := aqDec0 c
    free := aqCap c - aqPre c
    seq := 0
    ctr := [0, 0]
    tmr := [none, none]
    tmrDone := [false, false]
    termArm := List.replicate 8 false
    seen := {}
    trigTime := 0
    trigEra := 0
    tickNs := if aqEval c then (divFree (evalTicks * 5 : Nat) 64).toNat else aqTickUs c * 1000
    drops := 0
    gap := false
    captureId := (p.captureId + 1) % 2 ^ 32 }

/-- ACQ_ARM on a unit. -/
def State.acqArm (u : Fin 32) (s : State) : Verdict :=
  let p := s.unit u
  if p.state ≠ .configured && p.state ≠ .complete then .refuse RC_STATE p.state.code []
  else match armFail 1 (s.armChecks u) with
    | some (k, rc) => .refuseIn (s.raise 0x0806 INFO u.val (k + 2 ^ 8 * rc)) rc k []
    | none => .done (s.updUnit u (Pounce.arm (loopTicks (s.ch (aqEvalCh p.cfg)).cfg) s.now (s.ch (aqEvalCh p.cfg)).meas.evals)) 0 []

/-- ACQ_ARM. -/
def execAcqArm (m : MbCmd) (s : State) : Host.Outcome State Fault Refusal :=
  .next ((unitHdr 0x0602 16 1).run (unitVerdict State.acqArm) m s)

/-- ACQ_FORCE on a unit: it acts at the next tick (R237). -/
def State.acqForce (u : Fin 32) (s : State) : Verdict :=
  let p := s.unit u
  if p.state ≠ .armed && p.state ≠ .streaming then .refuse RC_STATE p.state.code []
  else .done (s.updUnit u fun p => { p with force := true }) 0 []

/-- ACQ_FORCE. -/
def execAcqForce (m : MbCmd) (s : State) : Host.Outcome State Fault Refusal :=
  .next ((unitHdr 0x0603 16 1).run (unitVerdict State.acqForce) m s)


/-- Number of sets that lie wholly in the pages up to the one in which set `k` ends. -/
def pageLast (nsig k : Nat) : Nat := ((4 * nsig * (k + 1) - 1) / 65536 + 1) * 65536 / (4 * nsig)

/-- Index of the oldest set not yet drained. -/
def Pounce.firstIndex (p : Pounce) : Nat := p.stored - p.stream.length

/-- A STREAMING unit stops: only full pages still go to the Inkwell, then the pages are free (R237). -/
def Pounce.endStream (p : Pounce) : Pounce :=
  let n := aqNsig p.cfg
  let full := 4 * n * p.stored / 65536 * 65536 / (4 * n)
  let keep := max (full - p.firstIndex) p.handed
  let left := p.stream.take keep
  { p with
    state := .configured
    stored := p.firstIndex + left.length
    stream := left
    force := false
    pages := if left.isEmpty then 0 else p.pages }

/-- ACQ_STOP on a unit, in any state (R237, R243). -/
def Pounce.stop (p : Pounce) : Pounce :=
  match p.state with
  | .armed => p.empty
  | .streaming => p.endStream
  | .triggered => { p with
      state := .complete
      stopped := true }
  | _ => p

/-- ACQ_STOP. -/
def execAcqStop (m : MbCmd) (s : State) : Host.Outcome State Fault Refusal :=
  .next ((unitHdr 0x0604 16 1).run (unitVerdict fun u t => .done (t.updUnit u Pounce.stop) 0 []) m s)

/-! ### Values at a tick (R222 to R224) -/

/-- The value of a signal, an int32, at a tick whose time of day is `t` (R224). (DEDUCED, log 37) -/
def State.sigValue (s : State) (t : Nat) (w : Word) : Int :=
  let i := bits w 9 0
  let c := s.ch (Fin.ofNat 256 i)
  let x := s.ax (Fin.ofNat 8 i)
  match bits w 31 28 with
  | 0 => c.meas.vLast
  | 1 => c.meas.iLast.getD (-2147483648)
  | 2 => c.meas.loopV
  | 3 => if cfShuntOk c.cfg then c.meas.loopI else -2147483648
  | 4 => normV c.meas.loopV
  | 5 => normI (cfScale c.cfg) c.meas.loopI
  | 6 => c.loop.dLast
  | 7 => c.loop.iref
  | 8 => if c.state = .tune then c.loop.inj else 0
  | 9 => vgetD (s.dieOf (Fin.ofNat 4 (i / 72))).aux (i % 72) 0
  | 10 => (s.tempOf (Fin.ofNat 256 i)).getD (-32768)
  | 11 => divFree (s.grp (Fin.ofNat 16 i)).power 10000000
  | 12 => x.pos
  | 13 => (if i / 8 % 2 = 0 then x.coilA else x.coilB).sample
  | _ => signed 32 (t % 2 ^ 32)

/-- The set of a tick: values, time of day, instant. An EVAL tick falls on the instant S of its channel (R222). -/
def State.takeSet (s : State) (p : Pounce) : AcqSet :=
  let c := p.cfg
  let m := (s.ch (aqEvalCh c)).meas
  let t := if aqEval c then m.loopS else s.tb.time
  { vals := (List.range (aqNsig c)).map fun i => clampInt (-2147483648) 2147483647 (s.sigValue t (aqSig c i)),
    t := t, era := if aqEval c then m.loopEra else s.tb.era,
    at64 := if aqEval c then 5 * m.loopTick else 256 * s.now, d := p.d, j := p.j }

/-! ### The sequencer (R225 to R229) -/

/-- A term's own result at a tick, before NEG (R225). -/
def Pounce.termRaw (p : Pounce) (x : Int) (t : Nat) : Bool :=
  let c := p.cfg
  let a := aqTermA c t
  let b := aqTermB c t
  let ua := wordAt c (0x38 + 12 * t)
  let ub := wordAt c (0x3C + 12 * t)
  let armed := p.termArm.getD t false
  match termKind c t with
  | 1 => true
  | 2 => decide (a < x)
  | 3 => decide (x < a)
  | 4 => armed && decide (a < x)
  | 5 => armed && decide (x < a)
  | 6 => decide (a ≤ x) && decide (x ≤ b)
  | 7 => decide (x < a) || decide (b < x)
  | 8 => p.seen.events.any fun e =>
      ((e.1.toNat ^^^ bits ua 15 0) &&& bits ua 31 16) == 0 && (bit ub 16 || e.2.toNat == bits ub 15 0)
  | 9 => p.seen.slots.contains (bits ua 3 0)
  | 10 => p.seen.tins.contains (bits ua 1 0)
  | 11 => decide (b ≤ signed 32 (p.ctr.getD (bits ua 0 0) 0))
  | 12 => p.tmrDone.getD (bits ua 0 0) false
  | 13 => p.seen.states.contains (bits ua 7 0, bits ub 3 0)
  | 14 => p.seen.bounds.contains (bits ua 7 0)
  | _ => false

/-- Value of the signal a term names. -/
def termX (c : Block) (vals : List Int) (t : Nat) : Int := vals.getD (bits (aqTerm c t) 6 4) 0

/-- Arming of a RISE or FALL term after the tick (R225). -/
def Pounce.rearm (p : Pounce) (vals : List Int) (t : Nat) : Bool :=
  let c := p.cfg
  let x := termX c vals t
  let a := aqTermA c t
  let b := aqTermB c t
  if p.termRaw x t then false
  else p.termArm.getD t false || (termKind c t == 4 && decide (x < a - b)) || (termKind c t == 5 && decide (a + b < x))

/-- The condition of a slot on the terms' results (R226). -/
def slotTrue (res : List Bool) (w : Word) : Bool :=
  let a := res.getD (bits w 2 0) false
  let b := res.getD (bits w 5 3) false
  match bits w 7 6 with
  | 0 => a
  | 1 => a && b
  | 2 => a || b
  | _ => a && !b

/-- The slot that fires at a tick: its number and word (R227). -/
def Pounce.fires (p : Pounce) (vals : List Int) : Option (Nat × Word) :=
  let res := (List.range 8).map fun t => p.termRaw (termX p.cfg vals t) t != bit (aqTerm p.cfg t) 8
  ((List.range 2).map fun k => (k, aqTrans p.cfg p.seq k)).find? fun x => bit x.2 31 && slotTrue res x.2

/-- One counter after the actions of a slot: CLR after INC. -/
def ctrAct (w : Word) (inc clr n : Nat) : Nat := if bit w clr then 0 else if bit w inc then satAdd n 1 else n

/-- Timer `j` runs and has reached its duration at instant `t`, in 1/64 ns (R228). -/
def Pounce.ripe (t : Nat) (p : Pounce) (j : Nat) : Bool :=
  match p.tmr.getD j none with
  | some a => decide (a + 64000 * aqTmr p.cfg j ≤ t)
  | none => false

/-- Timer `j` expires where it is ripe (R228). -/
def Pounce.expire (t j : Nat) (p : Pounce) : Pounce :=
  if p.ripe t j then { p with
    tmr := p.tmr.set j none
    tmrDone := p.tmrDone.set j true }
  else p

/-- Both timers at a tick: an expiry is seen at the first tick at or after it (R228). -/
def Pounce.ripen (t : Nat) (p : Pounce) : Pounce := (p.expire t 0).expire t 1

/-- The sequencer after a tick at instant `now`, in 1/64 ns, and the slot that fired. (DEDUCED, log 37) -/
def Pounce.sequence (p0 : Pounce) (vals : List Int) (now : Nat) : Pounce × Option (Nat × Word) :=
  let p := p0.ripen now
  let f := p.fires vals
  let arm := (List.range 8).map (p.rearm vals)
  let q : Pounce := { p with
    termArm := arm
    seen := {} }
  match f with
  | none => (q, none)
  | some (k, w) =>
    let st (j : Nat) : Bool := bit w (21 + j)
    ({ q with
        seq := bits w 26 24
        ctr := [ctrAct w 17 19 (p.ctr.getD 0 0), ctrAct w 18 20 (p.ctr.getD 1 0)]
        tmr := (List.range 2).map fun j => if st j then some now else p.tmr.getD j none
        tmrDone := (List.range 2).map fun j => !st j && p.tmrDone.getD j false }, some (k, w))

/-! ### Storing (R230, R231, R233) -/

/-- need(e, j) of R231. -/
def acqNeed (post e j : Nat) : Nat := ceilPow post e - ceilPow j e

/-- The exponent the tick j goes on with (R231); with no space left the comparison is with -1. -/
def raiseD (post free j : Nat) : Nat → Nat → Nat
  | 0, d => d
  | fuel + 1, d => if d < 15 && decide ((free : Int) - 1 < acqNeed post (d + 1) (j + 1)) then raiseD post free j fuel (d + 1) else d

/-- One post-trigger tick of a CIRCULAR capture: the unit after it and the mark added (R231). -/
def Pounce.postTick (x : AcqSet) (p : Pounce) : Pounce × Option (Nat × Nat) :=
  let post := aqPost p.cfg
  let next (q : Pounce) : Pounce := { q with
    j := q.j + 1
    state := if post ≤ q.j + 1 then .complete else .triggered }
  if p.j % 2 ^ p.d ≠ 0 then (next p, none)
  else
    let d := raiseD post p.free p.j 16 p.d
    let idx := p.ring.length + p.post.length
    let mark : Option (Nat × Nat) := if d = p.d then none else some (idx, d)
    let q : Pounce := { p with
      d := d
      marks := p.marks ++ mark.toList }
    if p.j % 2 ^ d = 0 && decide (0 < p.free) then
      (next { q with
        post := q.post ++ [{ x with d := d, j := p.j }]
        stored := q.stored + 1
        free := q.free - 1 }, mark)
    else (next q, mark)

/-- A tick of an ARMED unit without a trigger: the ring (R230). -/
def Pounce.ringTick (x : AcqSet) (p : Pounce) : Pounce :=
  let pre := aqPre p.cfg
  let ring := if p.ticks % 2 ^ aqDec0 p.cfg = 0 then (p.ring ++ [x]).drop (p.ring.length + 1 - pre) else p.ring
  { p with
    ring := ring
    ticks := p.ticks + 1 }

/-- The fill of a stream's ring reaches `num` quarters of its pages with `n` sets (R233). -/
def Pounce.quarters (p : Pounce) (num n : Nat) : Bool := decide (num * p.pages * 65536 ≤ 4 * (4 * aqNsig p.cfg * n))

/-- A set joins the stream or is dropped: the unit, whether d rose, whether the set was dropped (R233). -/
def Pounce.streamSet (x : AcqSet) (p : Pounce) : Pounce × Bool × Bool :=
  if capSets p.pages (aqNsig p.cfg) ≤ p.stream.length then
    ({ p with
      drops := satAdd p.drops 1
      gap := true }, false, true)
  else
    let gapMark : List AcqMark := if p.gap then [{ index := p.stored, trigger := false, d := 15, drops := p.drops }] else []
    let n := p.stream.length + 1
    let rise := !p.quarters 3 (n - 1) && p.quarters 3 n && decide (p.d < 15)
    let up : List AcqMark := if rise then [{ index := p.stored + 1, trigger := false, d := p.d + 1, drops := 0 }] else []
    ({ p with
      stream := p.stream ++ [x]
      stored := p.stored + 1
      gap := false
      d := if rise then p.d + 1 else p.d
      smarks := p.smarks ++ gapMark ++ up }, rise, false)

/-- A trigger mark at the set of this tick (R233). -/
def Pounce.triggerMark (p : Pounce) : Pounce :=
  { p with smarks := p.smarks ++ [{ index := p.stored, trigger := true, d := p.d, drops := 0 }] }

/-- The capture is complete at its last tick; measurements follow (R230, R240). -/
def State.putUnit (u : Fin 32) (p : Pounce) (s : State) : State := s.updUnit u fun _ => p

/-- A post-trigger tick of unit `u` with the state `p`. -/
def State.postStep (u : Fin 32) (x : AcqSet) (p : Pounce) (s : State) : State :=
  let (q, mark) := p.postTick x
  let s1 := s.putUnit u q
  match mark with
  | some (i, d) => s1.raise 0x0803 NOTICE u.val (d + 2 ^ 32 * i)
  | none => s1

/-- A tick of an ARMED unit (R227, R230, R237, R243). (DEDUCED, log 37) -/
def State.armedTick (u : Fin 32) (s : State) : State :=
  let p := s.unit u
  let x := s.takeSet p
  let (q, f) := p.sequence x.vals x.at64
  let trig : Option (Nat × Bool) := match f with
    | some (k, w) => if bit w 16 then some (k, false) else if p.force then some (0, true) else none
    | none => if p.force then some (0, true) else none
  match trig with
  | none => s.putUnit u (q.ringTick x)
  | some (k, forced) =>
    let q1 : Pounce := { q with
      state := .triggered
      force := false
      forced := forced
      j := 0
      trigTime := x.t
      trigEra := x.era }
    let st := if forced then 0 else p.seq
    let s1 := (s.putUnit u q1).postStep u x q1
    s1.raise 0x0801 INFO u.val (st + 8 * k + 16 * b2n forced + 2 ^ 32 * (x.t % 2 ^ 32))

/-- A tick of a STREAMING unit (R233). (DEDUCED, log 37) -/
def State.streamTick (u : Fin 32) (s : State) : State :=
  let p := s.unit u
  let x := s.takeSet p
  let (q, f) := p.sequence x.vals x.at64
  let trig := p.force || (match f with
    | some (_, w) => bit w 16
    | none => false)
  let q1 : Pounce := { (if trig then q.triggerMark else q) with
    force := false
    ticks := p.ticks + 1 }
  if p.ticks % 2 ^ p.d ≠ 0 then s.putUnit u q1
  else
    let (q2, rise, drop) := q1.streamSet x
    let s1 := s.putUnit u q2
    let s2 := if rise then s1.raise 0x0803 NOTICE u.val (q2.d + 2 ^ 32 * q2.stored) else s1
    if drop then s2.raise 0x0804 ALARM u.val q2.drops else s2

/-- A unit takes ticks. -/
def AcqState.runs (st : AcqState) : Bool := st == .armed || st == .triggered || st == .streaming

/-- A tick of the unit's clock is due (R222): for EVAL, an evaluation of its channel has not had its tick; for PERIODIC, the first one
falls on the first timebase value after ACQ_ARM that is a multiple of TICK_US x 1,000 ns, and later ones count TIME cycles. -/
def State.tickDue (s : State) (u : Fin 32) : Bool :=
  let p := s.unit u
  if aqEval p.cfg then decide (p.evalSeen < (s.ch (aqEvalCh p.cfg)).meas.evals)
  else match p.tickAt with
    | none => decide (p.armedAt < s.now) && s.tb.time % (1000 * aqTickUs p.cfg) == 0
    | some t => decide (t ≤ s.now)

/-- The unit's clock goes on to its next tick. -/
def Pounce.ticked (now : Nat) (p : Pounce) : Pounce :=
  { p with
    evalSeen := p.evalSeen + 1
    tickAt := some (p.tickAt.getD now + 250 * aqTickUs p.cfg) }

/-- Unit `u` has an URGENT signal on an auxiliary input (R224). -/
def Pounce.urgentOn (p : Pounce) (input : Nat) : Bool :=
  (List.range (aqNsig p.cfg)).any fun i =>
    bit (aqSig p.cfg i) 12 && bits (aqSig p.cfg i) 31 28 == 9 && bits (aqSig p.cfg i) 9 0 == input

/-- An urgent request of unit `u` joins those of its die, where none of it waits for the input (R95). -/
def State.urgent (u : Fin 32) (input : Nat) (s : State) : State :=
  let f : Fin 4 := Fin.ofNat 4 (input / 72)
  let r := (u.val, input % 72)
  if (s.dieOf f).urgent.contains r then s else s.updDie f fun d => { d with urgent := d.urgent ++ [r] }

/-- The urgent requests of a tick (R95, R224). -/
def State.urgents (u : Fin 32) (s : State) : State :=
  forAll (State.urgent u) ((List.range 288).filter fun i => (s.unit u).urgentOn i) s

/-- AUX_URGENT_REQUEST: a running unit requests a conversion of an input that an URGENT signal of its names (R95, R224). -/
def execAuxUrgentRequest (u : Fin 32) (input : Fin 288) (s : State) : Host.Outcome State Fault Refusal :=
  if (s.unit u).state.runs && (s.unit u).urgentOn input.val then .next (s.urgent u input.val) else .next s

/-- ACQ_TICK: one tick of a unit that runs, when its clock has one due (R222, R227); the power-fail sequence stops sampling (R476). -/
def execAcqTick (u : Fin 32) (s0 : State) : Host.Outcome State Fault Refusal :=
  if s0.rst.pfailSeq || !s0.tickDue u then .next s0
  else
    let s := (s0.updUnit u (Pounce.ticked s0.now)).urgents u
    let p := s.unit u
    match p.state with
    | .armed => .next (s.armedTick u)
    | .triggered => .next (s.postStep u (s.takeSet p) p)
    | .streaming => .next (s.streamTick u)
    | _ => .next s0

/-- The present instant on the clock that a unit's ticks are dated by, in 1/64 ns. -/
def State.unitNow (s : State) (u : Fin 32) : Nat :=
  if aqEval (s.unit u).cfg then 256 * (s.now - s.rst.phaseAt.getD 0) else 256 * s.now

/-- ACQ_TIMER_EXPIRY: a timer that has run for its duration has expired, which the next tick sees (R228). -/
def execAcqTimerExpiry (u : Fin 32) (j : Fin 2) (s : State) : Host.Outcome State Fault Refusal :=
  .next (s.updUnit u (Pounce.expire (s.unitNow u) j.val))

/-! ### Measurements (R240, R241) -/

/-- Weight of a set. -/
def AcqSet.w (x : AcqSet) : Int := 2 ^ x.d

/-- Σ w f over the sets. -/
def wsum (f : AcqSet → Int) (l : List AcqSet) : Int := l.foldl (fun a x => a + x.w * f x) 0

/-- Weighted mean, none of no sets. -/
def wmean (f : AcqSet → Int) (l : List AcqSet) : Option Int :=
  if l.isEmpty then none else some (divRound (wsum f l) (wsum (fun _ => 1) l).toNat)

/-- A rational rounded to nearest. -/
def ratRound (q : Rat) : Int := divRound q.num q.den

/-- Where the segment from (t0, x0) to (t1, x1) meets `lv`. -/
def meetAt (t0 t1 : Nat) (x0 x1 lv : Rat) : Rat :=
  if x1 = x0 then (t0 : Rat) else (t0 : Rat) + (lv - x0) / (x1 - x0) * ((t1 : Rat) - t0)

/-- Rising crossings of LEVEL with hysteresis, in 1/64 ns (R240). -/
def risings (level hyst : Int) : Bool → Option (Nat × Int) → List (Nat × Int) → List Rat
  | _, _, [] => []
  | armed, prev, (t, x) :: l =>
    let hit := armed && decide (level ≤ x)
    let next := risings level hyst ((armed && !hit) || decide (x ≤ level - hyst)) (some (t, x)) l
    match hit, prev with
    | true, some (t0, x0) => meetAt t0 t x0 x level :: next
    | true, none => (t : Rat) :: next
    | false, _ => next

/-- Crossings of `lv` upward (or downward) between consecutive points from time `from_` on. -/
def crossings (up : Bool) (lv : Rat) : List (Nat × Int) → List Rat
  | (t0, x0) :: (t1, x1) :: l =>
    let rest := crossings up lv ((t1, x1) :: l)
    let hit : Bool := if up then decide ((x0 : Rat) < lv) && decide (lv ≤ x1) else decide (lv < (x0 : Rat)) && decide ((x1 : Rat) ≤ lv)
    if hit then meetAt t0 t1 x0 x1 lv :: rest else rest
  | _ => []

/-- Time between the first crossing of L10 and the first later crossing of L90 (R240). -/
def edgeTime (up : Bool) (init ext : Int) (pts : List (Nat × Int)) : Option Int :=
  let l10 : Rat := init + (ext - init) / 10
  let l90 : Rat := init + (ext - init) * 9 / 10
  match crossings up l10 pts with
  | [] => none
  | t10 :: _ =>
    match (crossings up l90 pts).find? fun t => decide (t10 ≤ t) with
    | some t90 => some (ratRound ((t90 - t10) / 64))
    | none => none

/-- The fourteen values of R241 for signal `i`. (DEDUCED, log 37) -/
def Pounce.measure (p : Pounce) (i : Nat) : List (Option Int) :=
  let f (x : AcqSet) : Int := x.vals.getD i 0
  let sets := p.ring ++ p.post
  let xs := sets.map f
  let mn := xs.min?
  let mx := xs.max?
  let init := if p.ring.isEmpty then sets.head?.map f else wmean f p.ring
  let fin := wmean f (p.post.filter fun x => decide (9 * p.j ≤ 10 * x.j))
  let ext := p.post.foldl (fun (e : Option Int) x => match e, init with
    | some y, some a => if (y - a).natAbs < (f x - a).natAbs then some (f x) else some y
    | none, _ => some (f x)
    | e, none => e) none
  let common := [mn, mx, do some ((← mx) - (← mn)), wmean f sets,
    if sets.isEmpty then none
    else some (rootNear (divRound (wsum (fun x => f x * f x) sets) (wsum (fun _ => 1) sets).toNat).toNat), init, fin]
  if i ≠ aqMeasSig p.cfg then common ++ List.replicate 7 none
  else
    let pts := sets.map fun x => (x.at64, f x)
    let postPts := (p.ring.getLast?.toList ++ p.post).map fun x => (x.at64, f x)
    let cross := risings (aqLevel p.cfg) (aqHyst p.cfg) false none pts
    let period : Option Int := match cross with
      | a :: b :: l => some (ratRound (((b :: l).getLastD b - a) / (64 * ((l.length + 1 : Nat) : Rat))))
      | _ => none
    let freq := period.bind fun t => if t = 0 then none else some (divRound (10 ^ 12) t.toNat)
    let edge (up : Bool) : Option Int := do
      let a ← init
      let e ← ext
      if (up && decide (a < e)) || (!up && decide (e < a)) then edgeTime up a e postPts else none
    let beyond : Option Int := do
      let a ← init
      let z ← fin
      if a = z then none
      else
        let s : Int := if a < z then 1 else -1
        let top ← (p.post.map fun x => s * (f x - z)).max?
        some (divRound (top * 10000) (z - a).natAbs)
    let settle : Option Int := do
      let z ← fin
      let last ← p.post.getLast?
      let out (x : AcqSet) : Bool := decide (aqBand p.cfg < ((f x - z).natAbs : Int))
      if out last then none
      else match (p.post.filter out).getLast?, p.post.head? with
        | some x, some t0 => some (divRound ((x.at64 : Int) - t0.at64) 64)
        | _, _ => some 0
    let slope : Option Int :=
      let t0 := (p.post.headD { vals := [], t := 0, era := 0, at64 := 0, d := 0, j := 0 }).at64
      let t (x : AcqSet) : Int := (x.at64 : Int) - t0
      let w := wsum (fun _ => 1) p.post
      let den := w * wsum (fun x => t x * t x) p.post - wsum t p.post * wsum t p.post
      if den ≤ 0 then none
      else some (divRound ((w * wsum (fun x => t x * f x) p.post - wsum t p.post * wsum f p.post) * 64000000000) den.toNat)
    common ++ [period, freq, edge true, edge false, beyond, settle, slope]

/-- The OP 1 payload: int32 saturated, all ones where a value cannot be formed (R240, R241). -/
def Pounce.measWords (p : Pounce) (i : Nat) : Block :=
  if aqNsig p.cfg ≤ i then List.replicate 14 allOnes
  else (p.measure i).map fun v => match v with
    | some x => wInt (clampInt (-2147483648) 2147483647 x)
    | none => allOnes

/-- FLAGS of R239. -/
def Pounce.flags (p : Pounce) : Nat :=
  b2n p.forced + 2 * b2n p.stopped + 4 * b2n p.eccUncorr + 8 * b2n p.aborted + 16 * b2n p.tune

/-- The OP 0 payload (R239). -/
def Pounce.summary (p : Pounce) : Block :=
  let stored := if aqMode p.cfg = 1 then p.stored else p.post.length
  [w32 (aqNsig p.cfg * 2 ^ 20 + p.d * 2 ^ 16 + p.marks.length * 2 ^ 8 + p.state.code), w32 p.ring.length, w32 stored]
    ++ words64 p.trigTime ++ [w32 (p.trigEra % 256 * 2 ^ 24 + p.flags), w32 p.tickNs, w32 p.drops]
    ++ blockFit 15 (p.marks.map fun x => w32 (x.2 * 2 ^ 28 + x.1 % 2 ^ 28))

/-! ### CAPTURE records (R256) -/

/-- One CAPTURE record of unit `u`. -/
def captureRec (u : Fin 32) (p : Pounce) (era time index nsets trig kind d drops : Nat) (data : Block) : Rec :=
  { typ := tCAPTURE, source := u.val, era := era, time := time, len := (32 + 4 * data.length + 7) / 8,
    body := [w32 index, w32 (nsets * 2 ^ 16 + trig * 2 ^ 10 + kind * 2 ^ 8 + d * 2 ^ 4 + aqNsig p.cfg), w32 p.captureId,
      w32 drops] ++ data }

/-- Groups of sets for DATA records: at most `mx`, none past a mark. -/
def groupSets (mx : Nat) (isMark : Nat → Bool) : List (Nat × AcqSet) → List (Nat × AcqSet) → List (List (Nat × AcqSet))
  | [], [] => []
  | cur, [] => [cur.reverse]
  | cur, x :: l =>
    if !cur.isEmpty && (cur.length == mx || isMark x.1) then cur.reverse :: groupSets mx isMark [x] l
    else groupSets mx isMark (x :: cur) l

/-- The records of consecutive sets from index `first`, each group behind the marks that name its first set. -/
def Pounce.captureRecs (u : Fin 32) (p : Pounce) (first : Nat) (sets : List AcqSet) (marks : List AcqMark) (trigs : List Nat) :
    List Rec :=
  let numbered := (List.range sets.length).map (fun i => first + i) |>.zip sets
  let groups := groupSets (248 / aqNsig p.cfg) (fun i => marks.any fun m => m.index == i) [] numbered
  groups.flatMap fun g =>
    match g with
    | [] => []
    | (i, x) :: _ =>
      ((marks.filter fun m => m.index == i).map fun m =>
        captureRec u p x.era x.t i 0 0 (if m.trigger then 2 else 1) m.d m.drops [])
      ++ [captureRec u p x.era x.t i g.length (b2n (g.any fun y => trigs.contains y.1)) 0 x.d 0
          (g.flatMap fun y => y.2.vals.map wInt)]

/-- Records of a CIRCULAR capture: SUMMARY, then the sets `first` to `first + count - 1`. -/
def Pounce.deliver (u : Fin 32) (p : Pounce) (first count : Nat) : List Rec :=
  let sets := ((p.ring ++ p.post).drop first).take count
  captureRec u p p.trigEra p.trigTime 0 0 0 3 p.d 0 p.summary
    :: p.captureRecs u first sets (p.marks.map fun m => { index := m.1, trigger := false, d := m.2, drops := 0 })
      [p.ring.length]

/-- The Inkwell drains `n` sets of a stream: the unit after it, whether d fell (R233). -/
def Pounce.drainStream (n : Nat) (p : Pounce) : Pounce × Bool :=
  let left := p.stream.drop n
  let fall := p.quarters 1 p.stream.length && !p.quarters 1 left.length && decide (aqDec0 p.cfg < p.d) && p.state == .streaming
  let first := p.firstIndex + n
  ({ p with
    stream := left
    handed := p.handed - n
    d := if fall then p.d - 1 else p.d
    smarks := (p.smarks.filter fun m => decide (first ≤ m.index)) ++
      (if fall then [{ index := p.stored, trigger := false, d := p.d - 1, drops := 0 }] else [])
    pages := if left.isEmpty && p.state == .configured then 0 else p.pages }, fall)

/-- The Inkwell controller serves a delivery item: it draws the records as the unit's buffer has room (R233, R238, R240, R260). A capture
released meanwhile has none. (DEDUCED, log 37) -/
def State.serveDelivery (u : Fin 32) (dv : Delivery) (s : State) : State :=
  let p := s.unit u
  let give (a : Option (MbCmd × Nat)) (l : List Rec) (t : State) : State :=
    State.drawRecords u { t with ink := { t.ink with incoming := t.ink.incoming ++ [{ unit := u, recs := l, ans := a }] } }
  let held (l : List Rec) : List Rec := if p.state = .complete then l else []
  match dv with
  | .whole => give none (held (p.deliver u 0 (p.ring.length + p.post.length))) s
  | .range first count m => give (some (m, p.state.code)) (held (p.deliver u first count)) s
  | .stream n =>
    let sets := p.stream.take n
    let first := p.firstIndex
    let ms := p.smarks.filter fun m => decide (m.index < first + n)
    let recs := p.captureRecs u first sets ms ((ms.filter fun m => m.trigger).map fun m => m.index)
    let (q, fall) := p.drainStream n
    let s1 := give none recs (s.putUnit u q)
    if fall then s1.raise 0x0803 NOTICE u.val (q.d + 2 ^ 32 * q.stored) else s1

/-! ### ACQ_READ, completion, page hand-over -/

/-- ACQ_READ on a unit (R238). -/
def State.acqRead (m : MbCmd) (u : Fin 32) (s : State) : Verdict :=
  let p := s.unit u
  let op := fieldAt m.params 0 1 0
  if op ≠ 0 && p.state ≠ .complete then .refuse RC_STATE p.state.code []
  else reserved m [(0, 0xFFFFF8FC)] <|
    match op with
    | 0 => .done s 0 p.summary
    | 1 => .done s 0 (p.measWords (fieldAt m.params 0 10 8))
    | 2 =>
      let n := p.ring.length + p.post.length
      let first := natAt m.params 4
      let count := if natAt m.params 8 = 0 then n - first else natAt m.params 8
      if n < first || n < first + count then .refuse RC_BAD_FIELD 4 []
      else .hold (s.post (272 + u.val) .inkwell 2 (.delivery u (.range first count m)) 0 (.mailbox m.mb))
    | _ => .done (s.updUnit u Pounce.empty) 0 []

/-- ACQ_READ. -/
def execAcqRead (m : MbCmd) (s : State) : Host.Outcome State Fault Refusal :=
  .next (({ unitHdr 0x0605 28 0 with
    auth := fun m => b2n (decide (2 ≤ fieldAt m.params 0 1 0))
    items := fun m _ => b2n (fieldAt m.params 0 1 0 == 2) }).run (unitVerdict (State.acqRead m)) m s)

/-- Sets a unit holds, with the index of the first. -/
def Pounce.heldSets (p : Pounce) : Nat × Nat :=
  if p.state = .complete then (0, p.ring.length + p.post.length) else (p.firstIndex, p.stream.length)

/-- The value that a set with an error reads as. -/
def putError (e : SetError) (k : Nat) (l : List AcqSet) : List AcqSet :=
  l.modify k fun x => { x with vals := x.vals.set e.signal.val (signed 32 e.value.toNat) }

/-- An uncorrectable error in a held set: it reads as stored with the error, ECC_UNCORR, 0x0805 (R243). (DEDUCED, log 37) -/
def State.setError (u : Fin 32) (e : SetError) (s : State) : State :=
  let p := s.unit u
  let (first, n) := p.heldSets
  if e.index < first || first + n ≤ e.index || aqNsig p.cfg ≤ e.signal.val then s
  else
    let k := e.index - first
    (s.updUnit u fun p =>
      if p.state = .complete then { p with
        ring := putError e k p.ring
        post := if p.ring.length ≤ k then putError e (k - p.ring.length) p.post else p.post
        eccUncorr := true }
      else { p with
        stream := putError e k p.stream
        eccUncorr := true }).raise 0x0805 ALARM u.val e.page.val

/-- ACQ_COMPLETE: the measurements are formed; with DELIVER the whole capture goes to the Inkwell (R240, R256). -/
def execAcqComplete (u : Fin 32) (error : Option SetError) (s : State) : Host.Outcome State Fault Refusal :=
  if (s.unit u).state ≠ .complete || (s.unit u).measured then .next s
  else
    let s0 := error.elim s fun e => s.setError u e
    let p := s0.unit u
    let s1 := (s0.updUnit u fun p => { p with measured := true }).raise 0x0802 INFO u.val
      (p.ring.length + p.post.length + 2 ^ 32 * p.d + 2 ^ 36 * b2n p.stopped)
    .next (if aqDeliver p.cfg then s1.post (272 + u.val) .inkwell 2 (.delivery u .whole) 0 (.pounce u) else s1)

/-- ACQ_PAGE_HANDOVER: the next page with sets not yet handed over, full or not (R233). -/
def execAcqPageHandover (u : Fin 32) (error : Option SetError) (s : State) : Host.Outcome State Fault Refusal :=
  let p := s.unit u
  let first := p.firstIndex + p.handed
  let n := min (pageLast (aqNsig p.cfg) first - first) (p.stream.length - p.handed)
  if n = 0 then .next s
  else
    let s0 := error.elim s fun e => s.setError u e
    .next ((s0.updUnit u fun p => { p with handed := p.handed + n }).post (272 + u.val) .inkwell 2 (.delivery u (.stream n)) 0
      (.pounce u))

end Sys2Proof.Machine
end

