-- ==== Sys2Proof/Machine/Tune.lean ====
section
/-! DEFINITION. TUNE_INJECT and TUNE_STOP (R121 to R128) and the capture unit they hold (R242). -/

namespace Sys2Proof.Machine

/-- Fields of the TUNE_INJECT block (R122). -/
def tnUnit (p : Block) : Fin 32 := Fin.ofNat 32 (fieldAt p 0 28 24)
def tnSet (p : Block) : Nat := fieldAt p 0 21 20
def tnMode (p : Block) : Nat := fieldAt p 0 17 16
def tnPoint (p : Block) : Nat := fieldAt p 0 9 8
def tnSignal (p : Block) : Nat := fieldAt p 0 1 0
def tnAmp (p : Block) : Nat := natAt p 0xC
def tnSpan (p : Block) : Nat := natAt p 0x1C + natAt p 0x20

/-- The first field of a TUNE_INJECT block that is reserved or unknown (R123). -/
def tuneField (p : Block) : Option Nat :=
  match firstReserved p [(0, 0xE0CCFCFC)] with
  | some o => some o
  | none =>
    if tnMode p = 3 || tnPoint p = 3 || tnSignal p = 3 || (tnPoint p = 1 && tnMode p ≠ 1) then some 0
    else if tnSignal p ≠ 2 && natAt p 0x14 ≠ 0 then some 0x14
    else if reservedSet p 0x18 0xFF00FFF0 || (tnSignal p = 0 && (fieldAt p 0x18 3 0 < 7))
      then some 0x18
    else if natAt p 0x20 < 1 || 16777216 < natAt p 0x20 then some 0x20
    else if tnSignal p = 1 && natAt p 0x24 ≠ 0 && natAt p 0x24 ≠ natAt p 0x10 then some 0x24
    else none

/-- AMPLITUDE is within its cap (R123). -/
def ampOk (cfg p : Block) : Bool :=
  match tnPoint p with
  | 0 => withinFs (cfScale cfg) (8 * tnAmp p)
  | 1 => decide (tnAmp p ≤ 5000)
  | _ => decide (tnAmp p ≤ 0x03333333)

/-- A frequency in mHz that is used: above 0 and at most one quarter of the loop rate (R123). -/
def freqOk (cfg : Block) (f : Nat) : Bool := decide (0 < f) && decide (f * 4 * loopTicks cfg ≤ 12800000000000)

/-- The offset of the first frequency out of range. -/
def freqFault (cfg p : Block) : Option Nat :=
  if tnSignal p ≠ 0 && !freqOk cfg (natAt p 0x10) then some 0x10
  else if tnSignal p = 2 && !freqOk cfg (natAt p 0x14) then some 0x14
  else if !(tnSignal p = 1 && natAt p 0x24 = 0) && !freqOk cfg (natAt p 0x24) then some 0x24
  else none

/-- OP_VALUE with the injection on it stays inside the hard limits (R123); an injection at another point moves it by nothing. -/
def opOk (h p : Block) : Bool :=
  let x := intAt p 4
  let a : Int := tnAmp p
  if tnMode p = 0 then
    let b := if tnPoint p = 0 then a else 0
    decide (-(hlIdis h : Int) ≤ x - b) && decide (x + b ≤ hlIchg h)
  else if tnMode p = 1 then
    let b := if tnPoint p = 1 then a else 0
    decide (hlVmin h ≤ x - b) && decide (x + b ≤ hlVmax h)
  else true

/-- The configuration of the held unit (R242): every evaluation of the channel, no pre-trigger sets, the trigger at the first
tick. -/
def tuneCfg (n : Fin 256) (p : Block) (pages : Nat) : Block :=
  [w32 (2 * 2 ^ 16 + 2 ^ 8), w32 (n.val * 2 ^ 20), 0, w32 (tnSpan p), w32 pages,
   w32 (8 * 2 ^ 28 + n.val), w32 ((if tnPoint p = 1 then 4 else 5) * 2 ^ 28 + n.val)]
    ++ List.replicate 6 0 ++ [1] ++ List.replicate 23 0 ++ [0x80010000#32] ++ List.replicate 22 0

/-- Pages a TUNE capture takes (R242). -/
def Pounce.tunePages (u : Pounce) : Nat := if u.state = .idle then 16 else aqPages u.cfg

/-- The unit runs for the channel. (DEDUCED, log 33) -/
def Pounce.forTune (n : Fin 256) (p : Block) (ticks now evals : Nat) (u : Pounce) : Pounce :=
  let q : Pounce := { u with cfg := tuneCfg n p u.tunePages }
  let r := q.arm ticks now evals
  { r with
    captureId := u.captureId
    tune := true
    holder := some n }

/-- TUNE_INJECT on a channel. (DEDUCED, log 33) -/
def State.tuneInject (m : MbCmd) (n : Fin 256) (s : State) : Verdict :=
  let p := m.params
  let c := s.ch n
  let u := s.unit (tnUnit p)
  let h := (s.hlimOf n).getD []
  let busy : Bool := u.state == .armed || u.state == .triggered || u.state == .streaming || u.holder.isSome
  orElse (s.chanCheck n fun st => st == .configured || st == .held) <|
  orElse ((tuneField p).map fun o => (RC_BAD_FIELD, o)) <|
  orElse (safetyRefusal (s.channelLock n)) <|
    if !ampOk c.cfg p then .refuse RC_CFG_RANGE 0xC []
    else orElse ((freqFault c.cfg p).map fun o => (RC_CFG_RANGE, o)) <|
      if !opOk h p then .refuse RC_HARD_LIMIT 4 []
      else if !cfFixed c.cfg || (c.sets.getD (tnSet p) none).isNone || busy then .refuse RC_CFG_CONFLICT 0 []
      else if 256 < s.poolUsed - u.pages + u.tunePages then .refuse RC_NO_SPACE u.tunePages []
      else
        let lim := intAt p 8
        let t : Tune := { cmd := blockFit 10 p, from_ := c.state, k := 0, prbs := 2 ^ fieldAt p 0x18 3 0 - 1, analysed := [],
                          n := 0, aborted := false, injecting := true, finished := false }
        let s1 := (s.updUnit (tnUnit p) (Pounce.forTune n p (loopTicks c.cfg) s.now c.meas.evals)).updCh n fun c => { c with tune := some t }
        let mode := if tnMode p = 2 then 4 else tnMode p
        let s2 := s1.enterLoop n (tnSet p) (outerLimits mode (decide (0 ≤ lim)) (lim.natAbs : Int) (cfScale c.cfg))
        .done ((s2.toState n .tune).raise 0x0405 INFO n.val (tnSignal p + 2 ^ 8 * tnPoint p + 2 ^ 32 * natAt p 0x24)) 0 []

/-- TUNE_INJECT. -/
def execTuneInject (m : MbCmd) (s : State) : Host.Outcome State Fault Refusal :=
  .next ((chanHdr 0x0503 56 2).run (chanVerdict (State.tuneInject m)) m s)

/-- The TUNE_STOP payload (R127). -/
def Tune.words (t : Tune) (cfg : Block) : Block :=
  let (g, p) := t.estimate cfg
  [wInt g, wInt p, w32 t.n, w32 (b2n t.aborted * 2 + b2n (t.n == natAt t.cmd 0x20))]

/-- The channel leaves TUNE for the state it came from; the held unit is free (R121, R127, R242). (DEDUCED, log 33) -/
def State.leaveTune (n : Fin 256) (s : State) : State :=
  match (s.ch n).tune with
  | some t => (s.toState n t.from_).updCh n fun c => { c with
      tune := none
      loop := { c.loop with inj := 0 } }
  | none => s.toState n .held

/-- TUNE_STOP on a channel. (DEDUCED, log 33) -/
def State.tuneStop (n : Fin 256) (s : State) : Verdict :=
  orElse (s.chanCheck n fun st => st == .tune) <|
    let c := s.ch n
    .done (s.leaveTune n) 0 (match c.tune with
      | some t => t.words c.cfg
      | none => [])

/-- TUNE_STOP. -/
def execTuneStop (m : MbCmd) (s : State) : Host.Outcome State Fault Refusal :=
  .next ((chanHdr 0x0504 16 2).run (chanVerdict State.tuneStop) m s)

end Sys2Proof.Machine
end

