-- ==== Sys2Proof/Machine/MarginOps.lean ====
section
/-! DEFINITION. The Margin: its configuration (R324), one channel's evaluation at a tick (R304 to R318), its states and
outputs (R302, R303, R310 to R313), the effects of a reaction on axes and channels (R317), its log (R328). -/

namespace Sys2Proof.Machine

/-! ### Configuration fields (R324) -/

def pairOff (p : Nat) : Nat := 0x10 + 8 * p
def prType (c : Block) (p : Nat) : Nat := fieldAt c (pairOff p) 1 0
def prFilter (c : Block) (p : Nat) : Nat := fieldAt c (pairOff p) 7 3
def prTest (c : Block) (p : Nat) (b : Bool) : Bool := bitAt c (pairOff p) (if b then 13 else 10)
def prSource (c : Block) (p : Nat) (b : Bool) : Nat := if b then fieldAt c (pairOff p) 12 11 else fieldAt c (pairOff p) 9 8
def prDisc (c : Block) (p : Nat) : Nat := fieldAt c (pairOff p + 4) 13 0
def sfResetForFault (c : Block) : Bool := bitAt c 8 5
def sfResetEn (c : Block) : Bool := bitAt c 8 4
def sfResetPair (c : Block) : Nat := fieldAt c 8 3 0
def axEncUse (c : Block) (a : Nat) : Bool := bitAt c (0x290 + 8 * a) 16
def axEncTol (c : Block) (a : Nat) : Nat := natAt c (0x294 + 8 * a)
def outSettle (c : Block) (k : Nat) : Nat := fieldAt c (0x2D0 + 4 * k) 15 8
def outTest (c : Block) (k : Nat) : Bool := bitAt c (0x2D0 + 4 * k) 1
def outUsed (c : Block) (k : Nat) : Bool := bitAt c (0x2D0 + 4 * k) 0

/-- A mask over `n` places. -/
def maskOf (n : Nat) (g : Nat → Bool) : Nat := ((List.range n).map fun i => if g i then 2 ^ i else 0).foldl (· + ·) 0

/-! ### Input filters (R304). A tick interval is 1,000 µs (R300); FILTER counts 0.5 ms. (DEDUCED, log 43) -/

/-- The raw level has been stable `dt` µs longer: for FILTER, and the filtered level follows it. -/
def PinIn.settle (need dt : Nat) (p : PinIn) : PinIn :=
  { p with
    stable := min 10000 (p.stable + dt)
    level := if need ≤ p.stable + dt then p.raw else p.level }

/-- A tick interval of a pin: its raw edges at the given µs, ascending, from `last` on. -/
def PinIn.run (need : Nat) : List Nat → Nat → PinIn → PinIn
  | [], last, p => p.settle need (1000 - last)
  | t :: r, last, p =>
    let q := p.settle need (t - last)
    PinIn.run need r t { q with raw := !q.raw, stable := 0 }

/-- A channel filters its pins over the interval before its tick. -/
def MChan.filter (edges : List (Nat × Fin 32)) (m : MChan) : MChan :=
  { m with
    pins := Vector.ofFn fun i : Fin 32 =>
      (vget m.pins i).run (500 * prFilter m.conf (i.val / 2)) ((edges.filter fun e => e.2 == i).map fun e => e.1) 0 }

/-- The filtered levels, bit 2p pin A and bit 2p + 1 pin B of pair p. -/
def MChan.si (m : MChan) : BitVec 32 := BitVec.ofNat 32 (maskOf 32 fun i => (vgetD m.pins i {}).level)

/-! ### A channel's own copy of the configuration (R299, R321 code 8) -/

/-- A bit of a block turned over. -/
def flipBit (b : Block) (i : Nat) : Block := lset b (i / 32) (b.getD (i / 32) 0 ^^^ w32 (2 ^ (i % 32)))

/-- Bits of the channel's copy turn over in its memory. -/
def MChan.upset (flips : List (Fin 6048)) (m : MChan) : MChan :=
  { m with cfg := m.cfg.map fun c => flips.foldl (fun b i => flipBit b i.val) c }

/-- The copy passes its CRC and has the CRC asked for (R299, R321). -/
def MChan.copyOk (want : Option Word) (m : MChan) : Bool :=
  match m.cfg with
  | some c => crcOk 189 c && decide (want = some (wordAt c 0x2F0))
  | none => false

/-! ### One channel at a tick -/

/-- The pins of a pair are at their OK levels (R304): pin A at 1; pin B at 1 for EQUIV, at 0 for ANTIV. -/
def okPins (c : Block) (p : Nat) (si : BitVec 32) : Bool × Bool :=
  (si.getLsbD (2 * p), if prType c p = 2 then !si.getLsbD (2 * p + 1) else si.getLsbD (2 * p + 1))

/-- A pair counts as FAULT: a discrepancy or a test-pulse fault is latched (R306, R308). -/
def PairSt.fault (q : PairSt) : Bool := q.discFault || q.tpFaultA || q.tpFaultB

/-- A used pair at a tick (R304 to R306). `act`: a reset actuation has occurred at this tick. (DEDUCED, log 43) -/
def PairSt.tick (c : Block) (p : Nat) (si : BitVec 32) (act : Bool) (q : PairSt) : PairSt :=
  let (a, b) : Bool × Bool := okPins c p si
  let disc := if a == b then 0 else q.disc + 1
  let newFault := decide (prDisc c p + 1 ≤ disc)
  let back := q.discFault && q.sawDemand && a && b
  let cleared := q.discFault && (if sfResetForFault c then q.sawOk && act else back)
  { q with
    ok := a && b
    demand := !(a && b)
    disc := disc
    discFault := newFault || (q.discFault && !cleared)
    sawDemand := q.discFault && !cleared && (q.sawDemand || (!a && !b))
    sawOk := q.discFault && !cleared && (q.sawOk || back)
    okTicks := if a && b then q.okTicks + 1 else 0 }

/-- A reset actuation at this tick: the reset pair, OK for 50 ms to 5 s, returns to DEMAND without a discrepancy (R315). -/
def MChan.actuation (c : Block) (si : BitVec 32) (m : MChan) : Bool :=
  let p := sfResetPair c
  let q := vgetD m.pairs p {}
  let (a, b) : Bool × Bool := okPins c p si
  sfResetEn c && !q.fault && q.ok && decide (50 ≤ q.okTicks) && decide (q.okTicks ≤ 5000) && !a && !b

/-- The function is demanded: some pair of IN_MASK is in DEMAND or FAULT (R314). -/
def MChan.demands (c : Block) (f : Nat) (m : MChan) : Bool :=
  (List.range 16).any fun p => (fnInMask c f).testBit p && ((vgetD m.pairs p {}).demand || (vgetD m.pairs p {}).fault)

/-- Axes a function names. -/
def fnAxes (c : Block) (f : Nat) : List Nat := (List.range 8).filter fun a => (fnAxMask c f).testBit a

/-- Speed of a history of positions: the change over the last 8 ms × 125 (R316). -/
def histSpeed (h : List Int) : Int :=
  match h.head?, h[8]? with
  | some x, some y => wrap32 (x - y) * 125
  | _, _ => 0

/-- The axis and value that violate a monitoring function, if any (R314, R316). -/
def MChan.violation (c : Block) (referenced encFault : BitVec 8) (f : Nat) (monitors : Bool) (start : List Int) (m : MChan) :
    Option (Nat × Int) :=
  let pos (a : Nat) : Int := (vgetD m.hist a []).headD 0
  let enc (a : Nat) : Int := (vgetD m.encHist a []).headD 0
  let spd (a : Nat) : Int := vgetD m.speed a 0
  let espd (a : Nat) : Int := histSpeed (vgetD m.encHist a [])
  let lo := fnLimitA c f
  let hi := fnLimitB c f
  (fnAxes c f).findSome? fun a =>
    if encFault.getLsbD a then some (a, pos a - enc a)
    else if !monitors then none
    else match fnKind c f with
      | 2 =>
        if lo < (spd a).natAbs then some (a, spd a)
        else if axEncUse c a && lo < (espd a).natAbs then some (a, espd a) else none
      | 3 =>
        if !referenced.getLsbD a || pos a < lo || hi < pos a then some (a, pos a)
        else if axEncUse c a && (enc a < lo || hi < enc a) then some (a, enc a) else none
      | 4 =>
        let d := wrap32 (pos a - start.getD a 0)
        if hi < (if lo = 0 then -d else d) then some (a, d) else none
      | _ => none

/-- A function at a tick (R314, R317, R318). (DEDUCED, log 43) -/
def FnSt.tick (c : Block) (referenced encFault : BitVec 8) (act : Bool) (m : MChan) (f : Nat) (x : FnSt) : FnSt :=
  if fnKind c f = 0 then {}
  else
    let dem := m.demands c f
    let mon := fnKind c f != 1 && (dem || fnInMask c f == 0)
    let was := fnKind c f != 1 && (x.demanded || fnInMask c f == 0) && !x.startPos.isEmpty
    let start := if was then x.startPos else (List.range 8).map fun a => (vgetD m.hist a []).headD 0
    let vio := (m.violation c referenced encFault f mon start).isSome
    let cause := vio || (fnKind c f == 1 && dem)
    let decide_ := cause && !x.inForce
    let y : FnSt := { x with
      demanded := dem
      violated := vio
      startPos := if mon then start else [] }
    if decide_ then { y with
      inForce := true
      powerOff := !fnStop1 c f
      timer := fnStop1 c f
      waiting := false }
    else if !x.inForce then y
    else if cause || x.timer then { y with waiting := false }
    else if !fnManual c f || (x.waiting && act) then { y with
      inForce := false
      powerOff := false
      waiting := false }
    else { y with waiting := true }

/-- PERMIT of the outputs (R313). -/
def MChan.grant (run : Bool) (soFault : BitVec 8) (m : MChan) : BitVec 8 :=
  let c := m.conf
  BitVec.ofNat 8 (((List.range 8).map fun k =>
    if run && outUsed c k && !soFault.getLsbD k
        && !((List.range 16).any fun f => (fnSoMask c f).testBit k && (vgetD m.fns f {}).powerOff)
    then 2 ^ k else 0).foldl (· + ·) 0)

/-- A channel samples positions: its own tap and encoder counts (R316). -/
def MChan.sample (m : MChan) : MChan :=
  let hist : Vector (List Int) 8 := Vector.ofFn fun a => (vget m.tap a :: vget m.hist a).take 9
  { m with
    hist := hist
    encHist := Vector.ofFn fun a => (m.encPos a :: vget m.encHist a).take 9
    speed := hist.map histSpeed }

/-- A channel samples its inputs and evaluates every function (R300). (DEDUCED, log 43) -/
def MChan.tick (run : Bool) (referenced encFault soFault : BitVec 8) (m : MChan) : MChan :=
  let c := m.conf
  let act := m.actuation c m.si
  let m1 := { m with
    pairs := Vector.ofFn fun p => if prType c p.val = 0 then {} else (vget m.pairs p).tick c p.val m.si act }
  let m2 := if !run then m1
    else { m1 with fns := Vector.ofFn fun f => (vget m.fns f).tick c referenced encFault act m1 f.val }
  { m2 with permit := m2.grant run soFault }

/-! ### Outputs (R310, R311, R313) -/

/-- Levels of SOk_H and SOk_L (R312, R313). -/
def State.soPins (s : State) (k : Nat) : Bool × Bool :=
  (s.host.soReq.getLsbD k && s.margin.a.permit.getLsbD k && !s.margin.testHigh.getLsbD k,
   s.host.soReq.getLsbD k && s.margin.b.permit.getLsbD k && !s.margin.testLow.getLsbD k)

/-- The band SOk_FB must show (R310). -/
def expectedBand : Bool × Bool → FbBand
  | (true, true) => .mid
  | (true, false) => .high
  | _ => .low

def bandCode : FbBand → Nat
  | .low => 0 | .mid => 1 | .high => 2 | .none => 3

/-- Outputs whose command differs from what it was in `o` wait FB_SETTLE for their judgement (R311). -/
def State.commandFrom (o : State) (s : State) : State :=
  let changed := (List.range 8).filter fun k => o.soPins k != s.soPins k
  forAll (fun k t => t.startTimer (.fbSettle k) (outSettle s.margin.conf k * 10 * microsecond)) changed { s with
    margin := { s.margin with settling := s.margin.settling ||| BitVec.ofNat 8 ((changed.map fun k => 2 ^ k).foldl (· + ·) 0) } }

/-- The PERMITs follow from the functions, the state and the output faults (R302, R313). -/
def Margin.regrant (m : Margin) : Margin :=
  { m with
    a := { m.a with permit := m.a.grant (m.state == .run) m.soFault }
    b := { m.b with permit := m.b.grant (m.state == .run) m.soFault } }

/-- The Margin enters a state: vector 13 on a change; outputs are permitted in RUN only (R302, R341). -/
def State.setMargin (st : MState) (s : State) : State :=
  let s1 : State := { s with margin := ({ s.margin with state := st } : Margin).regrant }
  State.commandFrom s (if s.margin.state = st then s1 else s1.irq 13)

/-- An internal fault (R303). -/
def State.marginFault (code : Nat) (s : State) : State :=
  if s.margin.state = .safeFault || s.margin.inReset then s
  else
    let s1 : State := { s with margin := { s.margin with intFault := code } }
    (s1.setMargin .safeFault).raise 0x0B07 FATAL 0 code

/-- An output fault drives the output off and latches (R311). -/
def State.outputFault (k : Nat) (seen : FbBand) (s : State) : State :=
  let s1 : State := { s with
    margin := ({ s.margin with soFault := s.margin.soFault ||| BitVec.ofNat 8 (2 ^ k) } : Margin).regrant }
  (State.commandFrom s s1).raise 0x0B05 ALARM k (bandCode seen + 4 * bandCode (expectedBand (s.soPins k)))

/-- Judge the readback of an output against its expected band (R311). (DEDUCED, log 43) -/
def State.judgeOutput (k : Nat) (seen : FbBand) (s : State) : State :=
  if outUsed s.margin.conf k && !s.margin.soFault.getLsbD k && seen != expectedBand (s.soPins k) then s.outputFault k seen
  else s

/-! ### Reactions on axes and channels (R317) -/

/-- Channels of GRP_MASK: RUNNING ones go HELD as by CH_HOLD, TUNE ones leave TUNE as by TUNE_STOP. -/
def State.reactChannels (c : Block) (f : Nat) (s : State) : State :=
  forAll (fun n t =>
      match (t.ch n).state with
      | .running => t.holdChannel n
      | .tune => t.leaveTune n
      | _ => t)
    (allChannels.filter fun n => (fnGrpMask c f).testBit (n.val / 16)) s

/-- The functional part of a decided reaction: vector 13; STOP0 turns the axes off at once, STOP1 stops them QUICK. -/
def State.react (c : Block) (f : Nat) (s : State) : State :=
  let axes := allAxes.filter fun a => (fnAxMask c f).testBit a.val
  let s1 := forAll (fun a t => if fnStop1 c f then t.stopAxis a true else t.axisOff a) axes (s.irq 13)
  s1.reactChannels c f

/-! ### The log (R328) -/

/-- The bit mask of the regions of a given size and start that differ. -/
def changedMask (n off words : Nat) (a b : Block) : Nat :=
  ((List.range n).map fun i =>
    if (List.range words).all fun w => wordAt a (off + 4 * (words * i + w)) == wordAt b (off + 4 * (words * i + w)) then 0
    else 2 ^ i).foldl (· + ·) 0

/-- An entry joins the ring of 256. What changed is stated for a COMMIT. (DEDUCED, log 44) -/
def State.safeLog (kind : Nat) (session new : Word) (old_ new_ : Block) (s : State) : State :=
  let m := s.margin
  let hdr := (List.range 4).any fun w => wordAt old_ (4 * w) != wordAt new_ (4 * w)
  let e : Block := words64 s.tb.time ++
    [w32 (kind * 2 ^ 24 + s.tb.era % 256 * 2 ^ 16 + m.logSeq % 65536), session, m.accepted.getD 0, new,
     w32 (changedMask 16 0x90 8 old_ new_ * 2 ^ 16 + changedMask 16 0x10 2 old_ new_),
     w32 (b2n hdr * 2 ^ 16 + changedMask 8 0x2D0 1 old_ new_ * 2 ^ 8 + changedMask 8 0x290 2 old_ new_)]
  ({ s with
    margin := { m with
      log := (m.log ++ [e]).drop (m.log.length + 1 - 256)
      logSeq := m.logSeq + 1 } } : State).wearRow (0x00E000 / 2048 + m.logSeq % 256 / 64) 4

/-- Seconds left to a deadline; how a part of a second counts is free (log 19). -/
def State.secondsTo (s : State) (t : Option Nat) : Nat :=
  match t with
  | some d => (divFree ((d - s.now : Nat) : Int) 250000000).toNat
  | none => 0

/-- 600 s in TIME cycles (R326, R348, R352). -/
def lockCycles : Nat := 600 * 250000000

end Sys2Proof.Machine
end

