-- ==== Sys2Proof/Machine/Margin.lean ====
section
/-! DEFINITION. The rows of the Margin safety island (11): its tick, test pulses, output tests, timers, and its commands. -/

namespace Sys2Proof.Machine

/-! ### The tick (R300 to R318) -/

/-- The Margin's encoder check of an axis is suspended: DISABLED, or STANDSTILL in OFF or SHORT (R316). -/
def Axis.unheld (x : Axis) : Bool := x.state == .disabled || (x.state == .standstill && x.ssMode != 0)

/-- The difference of tap and encoder of an axis in a channel (R316). -/
def MChan.encDiff (a : Fin 8) (m : MChan) : Int := wrap32 (vget m.tap a - m.encPos a)

/-- The difference is above ENC_TOL. -/
def MChan.encOff (a : Fin 8) (m : MChan) : Bool := decide (axEncTol m.conf a.val < (m.encDiff a).natAbs)

/-- The difference a report shows: that of Margin-A, or Margin-B's where only it sees a fault (R316). -/
def Margin.encDiff (a : Fin 8) (m : Margin) : Int := if m.a.encOff a then m.a.encDiff a else m.b.encDiff a

/-- Either channel sees the difference above ENC_TOL. -/
def Margin.encOff (a : Fin 8) (m : Margin) : Bool := m.a.encOff a || m.b.encOff a

/-- Encoder faults latch, each with 0x0B06 (R316). -/
def State.encFaults (s : State) : State :=
  forAll (fun a t =>
      if axEncUse t.margin.conf a.val && !(t.ax a).unheld && !t.margin.encFault.getLsbD a.val
          && t.margin.encOff a then
        ({ t with margin := { t.margin with encFault := t.margin.encFault ||| BitVec.ofNat 8 (2 ^ a.val) } } : State).raise
          0x0B06 ALARM a.val (2 ^ 32 * p32 (t.margin.encDiff a))
      else t)
    allAxes s

/-- The CRC of a channel's copy, computed over it (R301). -/
def MChan.crcWord (m : MChan) : Word := crcBlock (m.conf.take 188)

/-- What the channels compare at a tick (R301): inputs, pair states, function flags, positions within 4 microsteps, speeds
within 1 %, commands, readback bands, the configuration's CRC. -/
def channelsAgree (x y : MarginIn) (a b : MChan) : Bool :=
  a.si == b.si && x.fb == y.fb && a.crcWord == b.crcWord && a.permit == b.permit
    && decide (a.pairs.map (fun p => { p with disc := 0, okTicks := 0 }) = b.pairs.map fun p => { p with disc := 0, okTicks := 0 })
    && decide (a.fns.map (fun f => { f with startPos := [] }) = b.fns.map fun f => { f with startPos := [] })
    && (List.range 8).all fun i =>
      decide ((wrap32 ((vgetD a.hist i []).headD 0 - (vgetD b.hist i []).headD 0)).natAbs ≤ 4)
        && decide (100 * (vgetD a.speed i 0 - vgetD b.speed i 0).natAbs ≤ max (vgetD a.speed i 0).natAbs (vgetD b.speed i 0).natAbs)

/-- The CRC a copy must have: none is asked for without a configuration in use (R302, R321 code 8). (DEDUCED, log 43) -/
def Margin.crcBad (m : Margin) : Bool :=
  match m.state with
  | .run => !m.a.copyOk m.accepted || !m.b.copyOk m.accepted
  | .awaitAccept => !m.a.copyOk m.committed || !m.b.copyOk m.committed
  | _ => false

/-- Diagnostic codes that a channel's own checks give (R321). -/
def Margin.diagCode (x y : MarginIn) (m : Margin) : Option Nat :=
  if !x.supplyOk then some 4
  else if !y.supplyOk then some 5
  else if !x.memOk then some 6
  else if !y.memOk then some 7
  else if m.crcBad then some 8
  else if !x.tpOk || !y.tpOk then some 9
  else none

/-- Either channel holds a flag of function `f`. -/
def Margin.fnAny (m : Margin) (g : FnSt → Bool) (f : Nat) : Bool := g (vgetD m.a.fns f {}) || g (vgetD m.b.fns f {})

/-- Either channel holds a flag of pair `p`. -/
def Margin.pairAny (m : Margin) (g : PairSt → Bool) (p : Nat) : Bool := g (vgetD m.a.pairs p {}) || g (vgetD m.b.pairs p {})

/-- The axis and value of a violation, as either channel sees it. -/
def Margin.violation (m : Margin) (f : Nat) : Nat × Int :=
  let look (x : MChan) : Option (Nat × Int) :=
    if (vgetD x.fns f {}).violated then x.violation x.conf m.referenced m.encFault f true (vgetD x.fns f {}).startPos else none
  match look m.a with
  | some v => v
  | none => (look m.b).getD (0, 0)

/-- What function `f` brings about at a tick: the events of R333 and, when a reaction is decided, its functional part. -/
def State.fnEffects (o : Margin) (f : Nat) (s : State) : State :=
  let c := s.margin.conf
  let newly (g : FnSt → Bool) : Bool := s.margin.fnAny g f && !o.fnAny g f
  let s1 := if newly FnSt.violated then
      let v := s.margin.violation f
      s.raise 0x0B02 ALARM f (v.1 + 2 ^ 32 * p32 v.2)
    else s
  let s2 := if newly FnSt.inForce then
      let s2 := if s1.margin.fnAny FnSt.violated f then s1 else s1.raise 0x0B01 NOTICE f (b2n (fnStop1 c f) + 2 ^ 8 * fnSoMask c f)
      s2.react c f
    else s1
  if o.fnAny FnSt.inForce f && !s.margin.fnAny FnSt.inForce f then s2.raise 0x0B0C INFO f (fnSoMask c f) else s2

/-- New discrepancy faults, each with 0x0B03. -/
def State.pairEffects (o : Margin) (p : Nat) (s : State) : State :=
  if s.margin.pairAny PairSt.discFault p && !o.pairAny PairSt.discFault p then
    s.raise 0x0B03 ALARM p (prDisc s.margin.conf p)
  else s

/-- The readbacks of a tick are judged while the command is steady (R311). (DEDUCED, log 43) -/
def State.judgeAll (fb : List FbBand) (s : State) : State :=
  forAll (fun k t =>
      match fb[k]? with
      | some band => if t.margin.settling.getLsbD k then t else t.judgeOutput k band
      | none => t)
    (List.range 8) s

/-- The evaluation of a tick outside STARTING and SAFE_FAULT. (DEDUCED, log 43) -/
def State.marginEval (x y : MarginIn) (s : State) : State :=
  let s1 := (({ s with margin := { s.margin with fb := x.fb } } : State).judgeAll x.fb).judgeAll y.fb
  let s2 := s1.encFaults
  let m := s2.margin
  let run := m.state == .run
  let m1 : Margin := { m with
    a := m.a.sample.tick run m.referenced m.encFault m.soFault
    b := m.b.sample.tick run m.referenced m.encFault m.soFault }
  let same := channelsAgree x y m1.a m1.b
  let m2 : Margin := { m1 with
    mismatch := if same then m1.mismatch else satAdd m1.mismatch 1
    diffRun := if same then 0 else m1.diffRun + 1 }
  let s3 := State.commandFrom s2 { s2 with margin := m2 }
  let began := (List.range 16).filter fun f => m1.fnAny FnSt.timer f && !m.fnAny FnSt.timer f
  let s3 := forAll (fun f t => t.startTimer (.stop1 f) (fnStop1Ms m.conf f * millisecond)) began s3
  let s4 := forAll (State.pairEffects m) (List.range 16) s3
  let s5 := forAll (State.fnEffects m) (List.range 16) s4
  if 3 ≤ m2.diffRun then s5.marginFault 1 else s5

/-- Each channel filters its pins, and its memory is as the tick finds it. -/
def Margin.read (x y : MarginIn) (m : Margin) : Margin :=
  { m with
    a := (m.a.upset x.flips).filter x.edges
    b := (m.b.upset y.flips).filter y.edges }

/-- MARGIN_TICK. -/
def execMarginTick (a b : MarginIn) (s : State) : Host.Outcome State Fault Refusal :=
  if s.margin.inReset || s.margin.state = .safeFault then .next s
  else
    let t : State := { s with margin := s.margin.read a b }
    match t.margin.diagCode a b with
    | some code => .next (t.marginFault code)
    | none => if s.margin.state = .starting then .next t else .next (t.marginEval a b)

/-- TICK_WATCH_EXPIRY: the tick interval left 0.9 to 1.1 ms (R300). -/
def execTickWatchExpiry (s : State) : Host.Outcome State Fault Refusal := .next (s.marginFault 2)

/-- SAFE_CLOCK_CHECK (R300). -/
def execSafeClockCheck (withinOnePercent : Bool) (s : State) : Host.Outcome State Fault Refusal :=
  .next (if withinOnePercent then s else s.marginFault 3)

/-- Every used function starts with its restart pending (R318, R327). -/
def pendingFns (c : Block) : Vector FnSt 16 :=
  Vector.ofFn fun f => if fnKind c f.val = 0 then {} else { inForce := true, powerOff := true }

/-- RUN with every function's restart pending. -/
def State.marginRun (s : State) : State :=
  let m := s.margin
  ({ s with
    margin := { m with
      committed := none
      a := { m.a with fns := pendingFns m.a.conf }
      b := { m.b with fns := pendingFns m.b.conf } } } : State).setMargin .run

/-- The CRC of the configuration that both channels have loaded: each half passes its own CRC, and they agree (R299, R302, R324).
(DEDUCED, log 43) -/
def Margin.storedCrc (m : Margin) : Option Word :=
  match m.a.cfg, m.b.cfg with
  | some c, some d => if wordAt c 0x2F0 = wordAt d 0x2F0 then some (wordAt c 0x2F0) else none
  | _, _ => none

/-- MARGIN_STARTED (R302). (DEDUCED, log 43) -/
def execMarginStarted (s : State) : Host.Outcome State Fault Refusal :=
  let m := s.margin
  if m.inReset || m.state ≠ .starting then .next s
  else match m.storedCrc with
    | none => .next (s.setMargin .unconfigured)
    | some crc =>
      if m.committed = some crc then .next (s.setMargin .awaitAccept)
      else if m.accepted = some crc then .next s.marginRun
      else .next (s.setMargin .unconfigured)

/-! ### Test pulses (R307, R308) -/

/-- TEST_PULSE: TPk goes low. -/
def execTestPulse (k : Fin 4) (s : State) : Host.Outcome State Fault Refusal :=
  .next (State.startTimer (.testPulse k) (200 * microsecond)
    { s with margin := { s.margin with tpOff := s.margin.tpOff ||| BitVec.ofNat 4 (2 ^ k.val) } })

/-- TEST_PULSE_END: TPk drives high again after 200 µs. -/
def execTestPulseEnd (k : Fin 4) (s : State) : Host.Outcome State Fault Refusal :=
  .next (if s.ranOut (.testPulse k) then
      { s with margin := { s.margin with tpOff := s.margin.tpOff &&& ~~~(BitVec.ofNat 4 (2 ^ k.val)) } }
    else s)

/-- One tested pin of a pair after its source's off-pulse. -/
def PairSt.pulse (pinB pass : Bool) (q : PairSt) : PairSt :=
  if pinB then
    let n := if pass then 0 else q.tpFailB + 1
    { q with
      tpFailB := n
      tpFaultB := q.tpFaultB || decide (2 ≤ n)
      tpPassB := if decide (2 ≤ n) then false else q.tpPassB || (q.tpFaultB && pass) }
  else
    let n := if pass then 0 else q.tpFailA + 1
    { q with
      tpFailA := n
      tpFaultA := q.tpFaultA || decide (2 ≤ n)
      tpPassA := if decide (2 ≤ n) then false else q.tpPassA || (q.tpFaultA && pass) }

/-- A cycle in which the pin is not tested breaks the run of failed cycles (R308). -/
def PairSt.untested (pinB : Bool) (q : PairSt) : PairSt :=
  if pinB then { q with tpFailB := 0 } else { q with tpFailA := 0 }

/-- The test of one pin, in both channels; a new fault raises 0x0B04. -/
def State.pulsePin (k : Fin 4) (before during after : BitVec 32) (i : Nat) (s : State) : State :=
  let p := i / 2
  let pinB := i % 2 == 1
  let c := s.margin.conf
  if prType c p = 0 || !prTest c p pinB || prSource c p pinB ≠ k.val then s
  else if !before.getLsbD i then s.bothChannels fun m => { m with pairs := vsetD m.pairs p ((vgetD m.pairs p {}).untested pinB) }
  else
    let pass := !during.getLsbD i && after.getLsbD i
    let had (m : Margin) : Bool := m.pairAny (fun q => if pinB then q.tpFaultB else q.tpFaultA) p
    let s1 := s.bothChannels fun m => { m with pairs := vsetD m.pairs p ((vgetD m.pairs p {}).pulse pinB pass) }
    if had s1.margin && !had s.margin then s1.raise 0x0B04 ALARM p (b2n pinB + 2 * k.val) else s1

/-- TEST_PULSE_CHECK. -/
def execTestPulseCheck (k : Fin 4) (before during after : BitVec 32) (s : State) : Host.Outcome State Fault Refusal :=
  if s.margin.inReset || s.margin.state = .starting || s.margin.state = .safeFault then .next s
  else .next (forAll (State.pulsePin k before during after) (List.range 32) s)

/-! ### Output tests (R311, R312) and the STOP1 timer (R317) -/

/-- A reaction affecting the output is in force. -/
def Margin.reactsOn (m : Margin) (k : Nat) : Bool :=
  (List.range 16).any fun f => (fnSoMask m.conf f).testBit k && m.fnAny FnSt.inForce f

/-- OUTPUT_OFF_PULSE_TEST: a switch of an on output is turned off, unless a reaction affecting the output is in force. -/
def execOutputOffPulseTest (k : Fin 8) (low : Bool) (s : State) : Host.Outcome State Fault Refusal :=
  let m := s.margin
  let b := BitVec.ofNat 8 (2 ^ k.val)
  if m.state = .run && outTest m.conf k.val && s.soPins k.val == (true, true) && !m.reactsOn k.val then
    .next (State.commandFrom s (State.startTimer (.switchTest k.val low) (300 * microsecond) { s with
      margin := if low then { m with testLow := m.testLow ||| b } else { m with testHigh := m.testHigh ||| b } }))
  else .next s

/-- SWITCH_TEST_END: the switch is turned on again after 300 µs. -/
def execSwitchTestEnd (k : Fin 8) (low : Bool) (s : State) : Host.Outcome State Fault Refusal :=
  let m := s.margin
  let b := ~~~(BitVec.ofNat 8 (2 ^ k.val))
  .next (if !s.ranOut (.switchTest k.val low) then s else State.commandFrom s { s with
    margin := if low then { m with testLow := m.testLow &&& b } else { m with testHigh := m.testHigh &&& b } })

/-- SO_FB_SETTLE: FB_SETTLE after a change of command the readback is judged. -/
def execSoFbSettle (k : Fin 8) (band : FbBand) (s : State) : Host.Outcome State Fault Refusal :=
  if s.margin.inReset || s.margin.state = .starting || s.margin.state = .safeFault || !s.ranOut (.fbSettle k.val) then .next s
  else
    let s1 : State := { s with
      margin := { s.margin with
        settling := s.margin.settling &&& ~~~(BitVec.ofNat 8 (2 ^ k.val))
        fb := lset (s.margin.fb ++ List.replicate (8 - s.margin.fb.length) .low) k.val band } }
    .next (s1.judgeOutput k.val band)

/-- The timer of a function ends in a channel. -/
def MChan.endTimer (f : Fin 16) (m : MChan) : MChan :=
  let x := vget m.fns f
  if x.timer then { m with fns := vset m.fns f { x with timer := false, powerOff := true } } else m

/-- STOP1_TIMER_EXPIRY: PERMIT of SO_MASK removed, the axes in STANDSTILL OFF (R317). -/
def execStop1TimerExpiry (f : Fin 16) (s : State) : Host.Outcome State Fault Refusal :=
  if !s.margin.fnAny FnSt.timer f.val || !s.ranOut (.stop1 f.val) then .next s
  else
    let m := s.margin
    let s1 := State.commandFrom s { s with
      margin := ({ m with
        a := m.a.endTimer f
        b := m.b.endTimer f } : Margin).regrant }
    .next (forAll (fun a t => t.axisOff a) (allAxes.filter fun a => (fnAxMask m.conf f.val).testBit a.val) s1)

/-! ### Commands (R325 to R330) -/

/-- Password characters of a parameter block from byte offset `off`. -/
def pwBytes (b : Block) (off len : Nat) : List Byte := (blockBytes ((List.range 4).map fun i => wordAt b (off + 4 * i))).take len

/-- Reserved words of the safety configuration: (byte offset, reserved bits) (R324). -/
def sfReserved : List (Nat × Nat) :=
  [(0, 0xFFFFFF00), (8, 0xFFFFFFC0), (0xC, 0xFFFFFFFF)]
    ++ (List.range 16).flatMap (fun p => [(pairOff p, 0xFFFFC004), (pairOff p + 4, 0xFFFFC000)])
    ++ (List.range 16).flatMap (fun f =>
      [(fnOff f, 0x00FFFEE8), (fnOff f + 8, 0xFFFFFF00), (fnOff f + 0xC, 0xFFFFC000), (fnOff f + 0x18, 0xFFFFFFFF),
       (fnOff f + 0x1C, 0xFFFFFFFF)])
    ++ (List.range 8).map (fun a => (0x290 + 8 * a, 0xFFFC0000))
    ++ (List.range 8).map fun k => (0x2D0 + 4 * k, 0xFFFF00FC)

/-- A check of R325: for each place it looks at, the byte offset of its word and whether it holds. -/
abbrev SafeCheck := List (Nat × Bool)

/-- LIMIT_A in range for the kind (R324). -/
def limitAok (c : Block) (f : Nat) : Bool :=
  match fnKind c f with
  | 1 => fnLimitA c f == 0
  | 2 => decide (1 ≤ fnLimitA c f) && decide (fnLimitA c f ≤ 1280000)
  | 3 => true
  | 4 => fnLimitA c f == 0 || fnLimitA c f == 1
  | _ => true

/-- LIMIT_B in range for the kind. -/
def limitBok (c : Block) (f : Nat) : Bool :=
  match fnKind c f with
  | 3 => decide (fnLimitA c f < fnLimitB c f)
  | 4 => decide (0 ≤ fnLimitB c f) && decide (fnLimitB c f ≤ 65536)
  | _ => fnLimitB c f == 0

/-- Every IN_MASK bit set of any function. -/
def inMaskAny (c : Block) (p : Nat) : Bool := (List.range 16).any fun f => (fnInMask c f).testBit p

/-- SK01 to SK12 in order, each with its reason (R325). (DEDUCED, log 44) -/
def safeChecks (c : Block) : List (SafeCheck × Nat) :=
  let pairs := (List.range 16).filter fun p => prType c p != 0
  let fns := (List.range 16).filter fun f => fnKind c f != 0
  let used (p : Nat) : Bool := prType c p != 0
  [((0, natAt c 0 % 256 == 1) :: sfReserved.map (fun r => (r.1, !reservedSet c r.1 r.2)), RC_CFG_RANGE),
   (pairs.flatMap (fun p => [(pairOff p, decide (1 ≤ prFilter c p) && decide (prFilter c p ≤ 20)),
      (pairOff p + 4, decide (10 ≤ prDisc c p) && decide (prDisc c p ≤ 10000))]), RC_CFG_RANGE),
   ((List.range 16).map (fun p => (pairOff p,
      !(prTest c p false && prTest c p true) || prSource c p false != prSource c p true)), RC_CFG_CONFLICT),
   ([(8, !sfResetEn c || (prType c (sfResetPair c) == 1 && !inMaskAny c (sfResetPair c)))], RC_CFG_CONFLICT),
   (fns.flatMap (fun f => [(fnOff f, decide (fnKind c f ≤ 4)),
      (fnOff f + 4, (List.range 16).all fun p => !(fnInMask c f).testBit p || used p)]), RC_CFG_CONFLICT),
   ((List.range 16).map (fun f => (fnOff f, !fnManual c f || sfResetEn c)), RC_CFG_CONFLICT),
   ((List.range 16).map (fun f => (fnOff f + 0xC,
      if fnStop1 c f then decide (10 ≤ fnStop1Ms c f) && decide (fnStop1Ms c f ≤ 10000) else fnStop1Ms c f == 0)), RC_CFG_RANGE),
   (fns.flatMap (fun f => [(fnOff f + 0x10, limitAok c f), (fnOff f + 0x14, limitBok c f),
      (fnOff f + 8, fnKind c f == 1 || fnAxMask c f != 0)]), RC_CFG_RANGE),
   ((fns.filter fun f => fnKind c f == 3).map (fun f => (fnOff f + 8, (fnAxes c f).all fun a => axEncUse c a)), RC_CFG_CONFLICT),
   ((List.range 8).flatMap (fun a =>
      [(0x290 + 8 * a, !axEncUse c a || (decide (1 ≤ fieldAt c (0x290 + 8 * a) 15 0) && decide (fieldAt c (0x290 + 8 * a) 15 0 ≤ 1024))),
       (0x294 + 8 * a, !axEncUse c a || (decide (256 ≤ axEncTol c a) && decide (axEncTol c a ≤ 65536)))]), RC_CFG_RANGE),
   ((List.range 16).map (fun f => (fnOff f, (List.range 8).all fun k => !(fnSoMask c f).testBit k || outUsed c k))
      ++ (List.range 8).map (fun k => (0x2D0 + 4 * k,
        !outUsed c k || (decide (1 ≤ outSettle c k) && decide (outSettle c k ≤ 25)))), RC_CFG_CONFLICT),
   ([(0x2F0, crcOk 189 c)], RC_CFG_CONFLICT)]

/-- The first failing check: reason and DETAIL (R325). -/
def safeFail (k : Nat) : List (SafeCheck × Nat) → Option (Nat × Nat)
  | [] => none
  | (places, why) :: l =>
    match places.find? (fun p => !p.2) with
    | some (off, _) => some (why, off * 2 ^ 16 + k)
    | none => safeFail (k + 1) l

/-- The identifier of a mailbox's session. -/
def State.sessionId (s : State) (k : Fin 8) : Word :=
  match (s.mbox k).session with
  | some (i, _) => i
  | none => 0

/-- A wrong safety password is counted; the fifth locks for 600 s (R326). -/
def State.safeWrong (m : MbCmd) (s : State) : Verdict :=
  let n := s.margin.fails + 1
  let s1 := ({ s with margin := { s.margin with fails := n } } : State).raise 0x0B0A NOTICE 0 (n % 8)
  if n < 5 then .refuseIn s1 RC_PASSWORD n []
  else
    let s2 : State := { s1 with margin := { s1.margin with lockUntil := some (s.now + lockCycles) } }
    .refuseIn ((s2.raise 0x0B0B ALARM 0 600).safeLog 4 (s.sessionId m.mb) (s.margin.accepted.getD 0) [] []) RC_PASSWORD n []

/-- The safety password is checked before the command acts (R326): a lock refuses; a right password ends the count. (DEDUCED, log 44) -/
def State.withSafePassword (m : MbCmd) (none_ : Bool) (s : State) (k : State → Verdict) : Verdict :=
  let len := fieldAt m.params 0 8 4
  if s.margin.lockUntil.isSome then .refuse RC_SAFETY_LOCK (0x10000 + s.secondsTo s.margin.lockUntil) []
  else if s.margin.password.isNone && none_ && len = 0 then k s
  else if len < 4 || 16 < len then .refuse RC_BAD_FIELD 0 []
  else if s.margin.password = some (pwBytes m.params 4 len) then
    let t : State := { s with margin := { s.margin with fails := 0 } }
    match k t with
    | .refuse st d p => .refuseIn t st d p
    | v => v
  else s.safeWrong m

/-- OP of SAFE_CFG_LOAD and its COUNT. -/
def safeOp (m : MbCmd) : Nat := fieldAt m.params 0 1 0
def safeCount (m : MbCmd) : Nat := fieldAt m.params 0x14 31 16

/-- LENGTH of SAFE_CFG_LOAD (R326). -/
def safeLenOk (m : MbCmd) : Bool :=
  match safeOp m with
  | 0 => m.length.toNat == 48 + safeCount m
  | 2 => m.length.toNat == 64
  | _ => m.length.toNat == 48

/-- OP 0: a chunk joins the staging block. -/
def State.safeChunk (m : MbCmd) (s : State) : Verdict :=
  let n := safeCount m
  let off := fieldAt m.params 0x14 15 0
  if n % 4 ≠ 0 || n < 4 || 192 < n || off % 4 ≠ 0 || 756 < off + n then .refuse RC_BAD_FIELD 0x14 []
  else
    let ws := (List.range (n / 4)).map fun i => (off / 4 + i, wordAt m.params (0x20 + 4 * i))
    .done (State.startTimer .staging (60 * second) { s with
      margin := { s.margin with
        staged := (s.margin.staged.filter fun e => !(decide (off / 4 ≤ e.1) && decide (e.1 < off / 4 + n / 4))) ++ ws } }) 0 []

/-- The staged block, when every word of it has been staged. -/
def Margin.stagedBlock (m : Margin) : Option Block :=
  (List.range 189).mapM fun i => (m.staged.find? fun e => e.1 == i).map fun e => e.2

/-- OP 1: the staged block is checked and committed; each channel writes its half of SAFETY_CFG and takes its copy. (DEDUCED, log 44) -/
def State.safeCommit (m : MbCmd) (s : State) : Verdict :=
  match s.margin.stagedBlock with
  | none => .refuse RC_STATE 0xFFFF []
  | some c =>
    if wordAt m.params 0x18 ≠ crcBlock (c.take 188) then .refuse RC_BAD_FIELD 0x18 []
    else orElse (safeFail 1 (safeChecks c)) <|
      let crc := wordAt c 0x2F0
      let s1 := s.safeLog 1 (s.sessionId m.mb) crc s.margin.conf c
      let mg := s1.margin
      let s2 : State := { s1 with
        margin := { mg with
          committed := some crc
          staged := []
          a := { mg.a with stored := some c, cfg := some c, fns := Vector.replicate 16 {} }
          b := { mg.b with stored := some c, cfg := some c, fns := Vector.replicate 16 {} } } }
      .done (((s2.persist 2 189).setMargin .awaitAccept).raise 0x0B08 NOTICE 0 crc.toNat) 0 []

/-- OP 2: a new password. -/
def State.safeSetPassword (m : MbCmd) (s : State) : Verdict :=
  let n := fieldAt m.params 0x1C 4 0
  if n < 4 || 16 < n then .refuse RC_BAD_FIELD 0x1C []
  else
    let s1 : State := { s with margin := { s.margin with password := some (pwBytes m.params 0x20 n) } }
    .done ((s1.persist 9 1).safeLog 3 (s.sessionId m.mb) (s.margin.accepted.getD 0) [] []) 0 []

/-- SAFE_CFG_LOAD (R326). (DEDUCED, log 44) -/
def execSafeCfgLoad (m : MbCmd) (s : State) : Host.Outcome State Fault Refusal :=
  .next (({ opcode := 0x0901, lenOk := safeLenOk, minLen := 48, auth := fun _ => 3 } : Hdr).run (fun m t =>
    let st := t.margin.state
    if safeOp m ≠ 0 && safeOp m ≠ 3 && (st == .starting || st == .safeFault) then .refuse RC_STATE st.code []
    else reserved m [(0, 0xFFFFFE0C), (0x1C, 0xFFFFFFE0)] <|
      if safeOp m = 3 then .refuse RC_BAD_FIELD 0 []
      else t.withSafePassword m (safeOp m == 2) fun u =>
        match safeOp m with
        | 0 => u.safeChunk m
        | 1 => u.safeCommit m
        | _ => u.safeSetPassword m) m s)

/-- SAFE_CFG_ACCEPT (R327). -/
def execSafeCfgAccept (m : MbCmd) (s : State) : Host.Outcome State Fault Refusal :=
  .next (({ opcode := 0x0902, lenOk := lenIs 40, minLen := 40, auth := fun _ => 3 } : Hdr).run (fun m t =>
    if t.margin.state ≠ .awaitAccept then .refuse RC_STATE t.margin.state.code []
    else reserved m [(0, 0xFFFFFE0F)] <|
      t.withSafePassword m false fun u =>
        let crc := wordAt m.params 0x14
        if u.margin.committed ≠ some crc then .refuseIn u RC_BAD_FIELD 0x14 []
        else
          let u1 := u.safeLog 2 (u.sessionId m.mb) crc [] []
          let u2 : State := { u1 with margin := { u1.margin with accepted := some crc } }
          .done ((u2.persist 2 2).marginRun.raise 0x0B09 NOTICE 0 crc.toNat) 0 []) m s)

/-- The SAFE_STATUS payload (R329). -/
def State.safeStatus (s : State) : Block :=
  let m := s.margin
  [w32 (m.intFault % 256 * 2 ^ 8 + m.state.code), m.accepted.getD 0, if m.state = .awaitAccept then m.committed.getD 0 else 0,
   w32 (maskOf 16 (m.pairAny PairSt.fault) * 2 ^ 16 + maskOf 16 (m.pairAny PairSt.demand)),
   w32 (maskOf 16 (m.pairAny fun p => p.disc != 0)),
   w32 (maskOf 16 (m.fnAny FnSt.inForce) * 2 ^ 16 + maskOf 16 (m.fnAny FnSt.demanded)),
   w32 (maskOf 16 (m.fnAny FnSt.violated) * 2 ^ 16 + maskOf 16 (m.fnAny FnSt.waiting)),
   w32 (m.soFault.toNat * 2 ^ 24 + (m.a.permit &&& m.b.permit).toNat * 2 ^ 16 + s.host.soReq.toNat * 2 ^ 8 + m.referenced.toNat)]
  ++ (List.range 8).map (fun a => wInt (vgetD m.a.speed a 0))
  ++ [w32 m.mismatch, w32 (s.secondsTo m.lockUntil % 65536)]

/-- SAFE_STATUS. -/
def execSafeStatus (m : MbCmd) (s : State) : Host.Outcome State Fault Refusal :=
  .next (({ opcode := 0x0903, lenOk := lenIs 16, minLen := 16, auth := fun _ => 0 } : Hdr).run
    (fun _ t => .done t 0 t.safeStatus) m s)

/-- The SAFE_LOG_READ payload (R328). With no entry the newest SEQ is a free value (log 14). -/
def State.safeLogWords (first : Nat) (s : State) : Block :=
  let m := s.margin
  let newest := if m.logSeq = 0 then (Config.unstated 91).toNat % 65536 else (m.logSeq - 1) % 65536
  let ahead := (m.logSeq % 65536 + 65536 - first) % 65536
  let n := if m.logSeq = 0 || 32768 < ahead then 0 else min 7 ahead
  w32 (n * 2 ^ 16 + newest) :: (List.range n).flatMap fun e =>
    blockFit 8 ((m.log.find? fun x => fieldAt x 8 15 0 == (first + e) % 65536).getD [])

/-- SAFE_LOG_READ. -/
def execSafeLogRead (m : MbCmd) (s : State) : Host.Outcome State Fault Refusal :=
  .next (({ opcode := 0x0904, lenOk := lenIs 20, minLen := 20, auth := fun _ => 0 } : Hdr).run (fun m t =>
    reserved m [(0, 0xFFFF0000)] <| .done t 0 (t.safeLogWords (fieldAt m.params 0 15 0))) m s)

/-- A pair whose tested pins have passed since loses their faults. -/
def PairSt.release (q : PairSt) : PairSt :=
  { q with
    tpFaultA := q.tpFaultA && !q.tpPassA
    tpFaultB := q.tpFaultB && !q.tpPassB
    tpPassA := false
    tpPassB := false }

/-- SAFE_RESET (R330). -/
def execSafeReset (m : MbCmd) (s : State) : Host.Outcome State Fault Refusal :=
  .next (({ opcode := 0x0905, lenOk := lenIs 16, minLen := 16, auth := fun _ => 1 } : Hdr).run (fun _ t =>
    if t.margin.state ≠ .run then .refuse RC_STATE t.margin.state.code []
    else
      let mg := t.margin
      let gone (k : Nat) : Bool := mg.soFault.getLsbD k && t.soPins k == (false, false) && mg.fb[k]? == some .low
      let left := maskOf 8 fun k => mg.soFault.getLsbD k && !gone k
      let enc := maskOf 8 fun a => mg.encFault.getLsbD a
        && mg.encOff (Fin.ofNat 8 a)
      let t1 : State := { t with
        margin := ({ mg with
          soFault := BitVec.ofNat 8 left
          encFault := BitVec.ofNat 8 enc
          a := { mg.a with pairs := mg.a.pairs.map PairSt.release }
          b := { mg.b with pairs := mg.b.pairs.map PairSt.release } } : Margin).regrant }
      .done ((State.commandFrom t t1).raise 0x0B0D INFO 0 left) left []) m s)

/-- SAFE_STAGING_EXPIRY (R326). -/
def execSafeStagingExpiry (s : State) : Host.Outcome State Fault Refusal :=
  .next (if s.ranOut .staging then { s with margin := { s.margin with staged := [] } } else s)

/-- SAFE_LOCK_END (R326). -/
def execSafeLockEnd (s : State) : Host.Outcome State Fault Refusal :=
  if s.margin.lockUntil.isNone || !due s.margin.lockUntil 0 s.now then .next s
  else .next { s with
    margin := { s.margin with
      lockUntil := none
      fails := 0 } }

end Sys2Proof.Machine
end

