-- ==== Sys2Proof/Machine/HostOps.lean ====
section
/-! DEFINITION. The register window (R336 to R355): what a write of each register does, on which path, and what each register
reads as. The rows of chapter 12 and the WINDOW frames of chapter 14 both use it. -/

namespace Sys2Proof.Machine

/-! ### Paths (R335, R355, R448) -/

/-- WIN_CFG lets a fabric address write (R355). -/
def HostIf.winWrites (h : HostIf) (a : BitVec 16) : Bool :=
  bit h.winCfg 0 && (bits h.winCfg 31 16 == 0 || bits h.winCfg 31 16 == a.toNat)

/-- A write of a path reaches the registers. A PCIe endpoint in reset or in D3hot takes none; a refused WINDOW write is counted (R355).
(PRESUMED, log 15) -/
def State.write (p : Path) (f : State → State) (s : State) : State :=
  match p with
  | .pcie => if s.host.pcieReset || s.host.d3hot then s else f s
  | .fabric a => if s.host.winWrites a then f s else s.accessErr

/-! ### The endpoint (R334) -/

/-- Maximum payload and maximum read request in bytes. -/
def maxPayload : Nat := 256
def maxReadRequest : Nat := 512

/-- The words of the configuration space that identify the function: Device and Vendor ID, class code and Revision ID, Subsystem and
Subsystem Vendor ID, at the offsets of the PCI header. (PRESUMED, log 15) -/
def configWord : Nat → Option Word
  | 0x00 => some 0x02561F6C
  | 0x08 => some 0x118000A1
  | 0x2C => some 0x00001F6C
  | _ => none

/-! ### Mailboxes (R342 to R346) -/

/-- Mailbox registers ignore writes until MB_READY = 1; the ignored access is counted (R337, R356). (DEDUCED, log 22) -/
def State.whenReady (f : State → State) (s : State) : State := if s.folio.mbReady then f s else s.accessErr

/-- A doorbell value is accepted (R345). -/
def Mailbox.doorbellOk (b : Mailbox) (d : BitVec 16) : Bool :=
  decide (diff16 d b.cmdHead ≤ 32) && decide (diff16 d b.cmdTail ≤ 32)

/-- A doorbell is refused: DB_ERR, vector 16, event 0x0C05 (R345, R357). -/
def State.doorbellRefused (k : Fin 8) (v : Word) (s : State) : State :=
  ((s.updMb k fun b => { b with dbErr := true }).irq 16).raise 0x0C05 NOTICE k.val
    (bits v 15 0 + 2 ^ 16 * (s.mbox k).cmdHead.toNat)

/-- A doorbell is applied or refused by its value. -/
def State.ringDoorbell (k : Fin 8) (v : Word) (s : State) : State :=
  let d := BitVec.ofNat 16 v.toNat
  if (s.mbox k).doorbellOk d then s.updMb k fun b => { b with cmdTail := d } else s.doorbellRefused k v

/-- A register write of MBk_DOORBELL: a mailbox with PATH = 1 takes doorbells only from the receiving port (R345, R394). -/
def State.doorbell (k : Fin 8) (v : Word) (s : State) : State :=
  s.whenReady fun t => if bit (t.mbox k).cfg 0 then t.doorbellRefused k v else t.ringDoorbell k v

/-- A register write of MBk_RSP_HEAD (R345, R346). -/
def State.rspHeadWrite (k : Fin 8) (v : Word) (s : State) : State :=
  s.whenReady fun t =>
    let b := t.mbox k
    let h := BitVec.ofNat 16 v.toNat
    if bit b.cfg 0 || diff16 b.rspTail b.rspHead < diff16 h b.rspHead then t.accessErr
    else t.updMb k fun b => { b with rspHead := h }

/-- A write of MBk_CFG (R342). (DEDUCED, log 22) -/
def State.mbCfgWrite (k : Fin 8) (v : Word) (s : State) : State :=
  s.whenReady fun t =>
    let b := t.mbox k
    if b.session.isNone && b.cmdHead == b.cmdTail && b.rspHead == b.rspTail then
      t.updMb k fun b => { b with cfg := v &&& 0xFFFF0001#32 }
    else (t.updMb k fun b => { b with cfgErr := true }).irq 16

/-- A write of MBk_STAT clears CFG_ERR and DB_ERR where 1 is written (R342). -/
def State.mbStatWrite (k : Fin 8) (v : Word) (s : State) : State :=
  s.whenReady fun t => t.updMb k fun b => { b with
    cfgErr := b.cfgErr && !bit v 2
    dbErr := b.dbErr && !bit v 1 }

/-! ### Direct registers (R337 to R341, R355) -/

/-- A write of RESET_CAUSE clears source bits; REACH stays (R339). -/
def State.resetCauseWrite (v : Word) (s : State) : State :=
  { s with host := { s.host with resetCause := s.host.resetCause &&& ~~~(v &&& 0x0001FFFF#32) } }

/-- Instances of a block that reach B may name; none where the request is refused (R340, R187, R303). -/
def blockInstances : Nat → Nat
  | 1 => 8
  | 2 => 32
  | 3 => 1
  | 4 => 1
  | 5 => 1
  | 6 => 4
  | _ => 0

/-- A write of RESET_CTL (R340): a wrong KEY, and a WINDOW frame, are ignored and counted. (DEDUCED, log 54) -/
def State.resetCtlWrite (p : Path) (v : Word) (s : State) : State :=
  if p ≠ .pcie || bits v 31 16 ≠ 0xA5C3 then s.accessErr
  else
    let i := bits v 15 11
    let b := bits v 10 4
    let reach := bits v 1 0
    let refused := reach == 3 && (!decide (i < blockInstances b) || !s.folio.readyOnce)
    let s1 : State := { s with host := { s.host with resetCtl := (v &&& 0x0000FFF3#32) ||| w32 (8 * b2n refused) } }
    match reach with
    | 1 => s1.assert .ctlF
    | 2 => s1.assert .ctlC
    | 3 => if refused then s1 else (State.startTimer (.block b i) (s1.folio.bTimeout * microsecond)
        { s1 with rst := { s1.rst with block := s1.rst.block ++ [(b, i)] } })
    | _ => s1

/-- A write of IRQ_STAT clears pending bits (R341). -/
def State.irqStatWrite (v : Word) (s : State) : State :=
  { s with host := { s.host with irqStat := s.host.irqStat &&& ~~~v } }

/-- A write of IRQ_EN: a pending bit that becomes enabled sends its message (R341). (DEDUCED, log 22) -/
def State.irqEnWrite (v : Word) (s : State) : State :=
  let h := s.host
  let new := v &&& ~~~h.irqEn &&& h.irqStat
  { s with host := (List.range 19).foldl (fun x i => if bit new i then x.message i else x) { h with irqEn := v &&& 0x0007FFFF#32 } }

/-- A read of TIME_LO latches TIME_HI and TIME_ERA for its path (R404). -/
def State.latchTime (p : Path) (s : State) : State :=
  let l : Word × Word := (w32 (s.tb.time / 2 ^ 32), w32 (s.tb.era % 256))
  match p with
  | .pcie => { s with host := { s.host with latchP := l } }
  | .fabric _ => { s with host := { s.host with latchF := l } }

/-- SO_REQ takes a value; outputs whose command changes await FB_SETTLE (R311, R313, R337). -/
def State.soReqPut (x : BitVec 8) (s : State) : State :=
  State.commandFrom s { s with host := { s.host with soReq := x } }

/-- A write of SO_REQ, SO_REQ_SET or SO_REQ_CLR. -/
def State.soReqAll (v : Word) (s : State) : State := s.soReqPut (v.setWidth 8)
def State.soReqOr (v : Word) (s : State) : State := s.soReqPut (s.host.soReq ||| v.setWidth 8)
def State.soReqAnd (v : Word) (s : State) : State := s.soReqPut (s.host.soReq &&& ~~~(v.setWidth 8))

/-- A request reaches SO_REQ: a path's write of a register, or the firmware's own once the Folio has booted (R331, R337). -/
def State.soWrite (w : SoWriter) (f : State → State) (s : State) : State :=
  match w with
  | .host p => s.write p f
  | .folio => if s.folio.mbReady then f s else s

/-- A write of BLOT_CURSOR fills the path's window (R438). -/
def State.blotCursor (p : Path) (v : Word) (s : State) : State :=
  let (w, t) : List Block × State := s.fillWindow v.toNat
  match p with
  | .pcie => { t with host := { t.host with cursorP := v, windowP := w } }
  | .fabric _ => { t with host := { t.host with cursorF := v, windowF := w } }

/-- A write of a stream's RING_TAIL: delivery that waits goes on (R263, R349). -/
def State.ringTail (k : Fin 4) (v : Word) (s : State) : State :=
  (s.updStream k fun st => { st with ringTail := bits v 15 0 }).fillBuffer k s.ink.store.length

/-- The host has written descriptors from the one at RING_TAIL on, before it gives them with RING_TAIL (R263). -/
def State.giveDescs (k : Fin 4) (descs : List RingDesc) (s : State) : State :=
  s.updStream k fun st =>
    let at_ (i : Nat) : Nat := (st.ringTail + i) % max 1 st.entries
    let new := (List.range descs.length).zip descs |>.map fun e => (at_ e.1, e.2)
    { st with ring := new ++ st.ring.filter fun e => !(new.any fun x => x.1 == e.1) }

/-- A write of a stream's RING_BASE or EN and ENTRIES, ignored while it is open to PCIe (R349). -/
def State.ringSetup (k : Fin 4) (i : Nat) (v : Word) (s : State) : State :=
  let st := s.stream k
  if st.open_ && !st.fabric then s.accessErr
  else s.updStream k fun st => match i with
    | 0 => { st with baseLo := v }
    | 1 => { st with baseHi := v }
    | _ => { st with ctl := v &&& 0x8000FFFF#32 }

/-- A write of the MSI-X table: an entry that becomes unmasked sends its held message (R341, the PCIe specification; log 15). -/
def State.msixWrite (i : Nat) (v : Word) (s : State) : State :=
  let h := { s.host with msix := (i, v) :: s.host.msix.filter fun e => e.1 != i }
  let n := i / 4
  { s with
    host := if i % 4 = 3 && !bit v 0 && bit h.pba n then
        { h with
          pba := h.pba &&& ~~~(w32 (2 ^ n))
          sentIrq := h.sentIrq ++ [n] }
      else h }

/-! ### The HLIM window (R350 to R354) -/

/-- The path holds the unlock. -/
def Hlim.heldBy (p : Path) (h : Hlim) : Bool := h.unlock == some p

/-- The window's state changes. -/
def State.updHlim (f : Hlim → Hlim) (s : State) : State := { s with host := { s.host with hlim := f s.host.hlim } }

/-- LAST_RESULT (R353). -/
def State.hlimResult (r : Nat) (s : State) : State := s.updHlim fun h => { h with result := r }

/-- A write of HLIM_UNLOCK with LOCK and SETPW 0 starts the check of the password (R352). -/
def State.hlimUnlock (p : Path) (v : Word) (s : State) : State :=
  let h := s.host.hlim
  if h.lockUntil.isSome then (s.hlimResult 6)
  else if (h.unlock.any fun q => q != p) || (h.checking.any fun c => c.1 != p) then s.hlimResult 7
  else s.updHlim fun h => { h with checking := some (p, bits v 4 0) }

/-- The characters of HLIM_PW. -/
def Hlim.pwBytes (h : Hlim) (n : Nat) : List Byte := (blockBytes (blockFit 4 h.pw)).take n

/-- An unlock holds for 300 s after it, or after the latest HLIM write of its path (R352). -/
def hlimHold : Nat := 300 * second

/-- An HLIM write of the path that holds the unlock: the 300 s begin anew (R352). -/
def State.hlimTouch (p : Path) (s : State) : State := if s.host.hlim.heldBy p then s.startTimer .hlimUnlock hlimHold else s

/-- The check ends: an unlock, a counted failure, or a lockout (R352, R357, R341). (DEDUCED, log 23) -/
def State.hlimChecked (s : State) : State :=
  match s.host.hlim.checking with
  | none => s
  | some (p, n) =>
    let h := s.host.hlim
    let right := match h.password with
      | none => n == 0
      | some w => decide (4 ≤ n) && decide (n ≤ 16) && h.pwBytes n == w
    if right then
      let par := match p with
        | .pcie => 0
        | .fabric a => 1 + 2 ^ 16 * a.toNat
      (((s.startTimer .hlimUnlock hlimHold).updHlim fun h => { h with
        checking := none
        unlock := some p
        fails := 0
        result := 0 }).irq 14).raise 0x0C01 NOTICE 0 par
    else
      let k := h.fails + 1
      let s1 := ((s.updHlim fun h => { h with
        checking := none
        fails := k
        result := 6 }).irq 14).raise 0x0C02 NOTICE 0 (k % 8)
      if k < 5 then s1
      else (s1.updHlim fun h => { h with lockUntil := some (s.now + lockCycles) }).raise 0x0C04 ALARM 0 600

/-- A write of HLIM_UNLOCK with LOCK = 1 ends the unlock of its path (R350, R352). -/
def State.hlimLock (p : Path) (s : State) : State :=
  s.updHlim fun h => if h.heldBy p then { h with unlock := none } else h

/-- A write of HLIM_UNLOCK with SETPW = 1: while unlocked, HLIM_PW becomes the password (R350). (DEDUCED, log 23) -/
def State.hlimSetpw (p : Path) (v : Word) (s : State) : State :=
  let n := bits v 4 0
  if !s.host.hlim.heldBy p then s.hlimResult 1
  else if n < 4 || 16 < n then (s.hlimTouch p).hlimResult 4
  else ((s.hlimTouch p).updHlim fun h => { h with
    password := some (h.pwBytes n)
    result := 0 }).persist 9 1

/-- A write of HLIM_UNLOCK by its bits (R350). (DEDUCED, log 23) -/
def State.hlimUnlockWrite (p : Path) (v : Word) (s : State) : State :=
  if bit v 8 then s.hlimLock p else if bit v 9 then s.hlimSetpw p v else s.hlimUnlock p v

/-- A write of a word of HLIM_STAGE (R352). -/
def State.hlimStage (p : Path) (i : Nat) (v : Word) (s : State) : State :=
  if s.host.hlim.heldBy p then (s.hlimTouch p).updHlim fun h => { h with stage := lset (blockFit 16 h.stage) i v } else s.hlimResult 1

/-- A channel record is in the ranges of R351 and R353. -/
def chanRecordOk (n : Nat) (b : Block) : Bool :=
  decide (0 ≤ hlVmin b) && decide (hlVmin b < hlVmax b) && decide (hlVmax b ≤ 512000) && decide (hlDuty b ≤ 2 ^ 30)
    && decide (hlMinOff b ≤ 256000)
    && (hlTaux b == 0x1FF || (decide (72 * (n / 64) ≤ hlTaux b) && decide (hlTaux b ≤ 72 * (n / 64) + 71)))

/-- The checks of a commit: 0, or the LAST_RESULT of the first that fails (R353). (DEDUCED, log 23) -/
def commitCheck (n : Nat) (b : Block) : Nat :=
  if 279 < n then 2
  else if n < 256 then
    if !crcOk 16 b then 3
    else if !chanRecordOk n b then 4
    else if (firstReserved b ([(0x14, 0xFFF00000), (0x20, 0xFFFFFE00)] ++ (List.range 6).map fun i => (0x24 + 4 * i, 0xFFFFFFFF))).isSome
      then 5
    else 0
  else if !crcOk 4 b then 3
  else if n < 264 then
    if natAt b 0 < 1 || 1280000 < natAt b 0 || natAt b 4 < 1 then 4 else if wordAt b 8 ≠ 0 then 5 else 0
  else if natAt b 0 < 1 then 4
  else if wordAt b 8 ≠ 0 then 5
  else 0

/-- A live record by index; one never committed reads as erased (R350, R351). -/
def State.hlimRecord (s : State) (n : Nat) : Block :=
  (if n < 256 then (s.chv (Fin.ofNat 256 n)).hlim
    else if n < 264 then (s.ax (Fin.ofNat 8 (n - 256))).hlim
    else (s.grp (Fin.ofNat 16 (n - 264))).hlim).getD []

/-- The record of an index becomes `b`. (DEDUCED, log 23) -/
def State.putRecord (n : Nat) (b : Block) (s : State) : State :=
  if n < 256 then s.updChv (Fin.ofNat 256 n) fun v => { v with hlim := some (blockFit 16 b) }
  else if n < 264 then s.updAx (Fin.ofNat 8 (n - 256)) fun x => { x with hlim := some (blockFit 4 b) }
  else s.updGrp (Fin.ofNat 16 (n - 264)) fun g => { g with hlim := some (blockFit 4 b) }

/-- A write of HLIM_COMMIT (R353): the staged record becomes live, is counted and reported, and a Blotter flush is requested.
(DEDUCED, log 23) -/
def State.hlimCommit (p : Path) (v : Word) (s : State) : State :=
  let n := bits v 8 0
  let b := s.host.hlim.stage
  if !s.host.hlim.heldBy p then s.hlimResult 1
  else if commitCheck n b ≠ 0 then (s.hlimTouch p).hlimResult (commitCheck n b)
  else if s.vel.failed.contains 1 then (s.hlimTouch p).hlimResult 8
  else
    let last := if n < 256 then 15 else 3
    let old_ := ((s.hlimRecord n).getD last 0).toNat
    let s1 := ((((s.hlimTouch p).putRecord n b).updHlim fun h => { h with
      writes := satAdd h.writes 1
      result := 0 }).persist 1 ((last + 1) / 2 + 1)).irq 14
    ({ s1 with blot := { s1.blot with flushReq := true } } : State).raise 0x0C03 NOTICE n (old_ + 2 ^ 32 * (b.getD last 0).toNat)

/-! ### The map (R336, R337, R350) -/

/-- A write of an aligned word of BAR0. Registers that are read-only and addresses without a register ignore it, and the access
is counted (R336, R337). (DEDUCED, log 22) -/
def State.bar0Write (p : Path) (off : Nat) (v : Word) (s : State) : State :=
  if 0x100 ≤ off && off < 0x200 then
    let k : Fin 8 := Fin.ofNat 8 ((off - 0x100) / 0x20)
    match (off - 0x100) % 0x20 with
    | 0x08 => s.doorbell k v
    | 0x10 => s.rspHeadWrite k v
    | 0x14 => s.mbCfgWrite k v
    | 0x18 => s.mbStatWrite k v
    | _ => s.accessErr
  else if 0x200 ≤ off && off < 0x280 then
    let k : Fin 4 := Fin.ofNat 4 ((off - 0x200) / 0x20)
    match (off - 0x200) % 0x20 with
    | 0x00 => s.ringSetup k 0 v
    | 0x04 => s.ringSetup k 1 v
    | 0x08 => s.ringSetup k 2 v
    | 0x10 => s.ringTail k v
    | 0x14 => s.recAck k v
    | _ => s.accessErr
  else if 0x2000 ≤ off && off < 0x2200 then s.msixWrite ((off - 0x2000) / 4) v
  else match off with
    | 0x10 => s.resetCauseWrite v
    | 0x14 => s.resetCtlWrite p v
    | 0x20 => s.irqStatWrite v
    | 0x24 => s.irqEnWrite v
    | 0x40 => { s with host := { s.host with winCfg := v &&& 0xFFFF0001#32 } }
    | 0x400 => s.soReqAll v
    | 0x404 => s.soReqOr v
    | 0x408 => s.soReqAnd v
    | 0x800 => s.blotCursor p v
    | _ => s.accessErr

/-- A write of an aligned word of BAR4 (R350). (DEDUCED, log 22) -/
def State.bar4Write (p : Path) (off : Nat) (v : Word) (s : State) : State :=
  if 0x10 ≤ off && off < 0x20 then (s.hlimTouch p).updHlim fun h => { h with pw := lset (blockFit 4 h.pw) ((off - 0x10) / 4) v }
  else if 0x40 ≤ off && off < 0x80 then s.hlimStage p ((off - 0x40) / 4) v
  else if off = 4 then s.hlimUnlockWrite p v
  else if off = 8 then s.hlimCommit p v
  else s.accessErr

/-- A write of BAR2: bytes of the mailbox rings, at most a payload (R336). Rings of a mailbox with PATH = 1 and the part without storage
ignore it, and the access is counted (R343, R345). -/
def State.bar2Write (off : Nat) (data : List Byte) (s : State) : State :=
  if ringBytes < off + data.length || data.isEmpty || maxPayload < data.length then s.accessErr
  else
    let first := off / 0x4000
    let last := (off + data.length - 1) / 0x4000
    if (List.range 8).any fun k => decide (first ≤ k) && decide (k ≤ last) && bit (s.mbox (Fin.ofNat 8 k)).cfg 0 then s.accessErr
    else { s with rings := memWriteBytes off data s.rings }

/-- MBk_STAT (R342). -/
def State.mbStat (s : State) (k : Fin 8) : Word :=
  let b := s.mbox k
  w32 (s.quire.mbItems k % 1024 * 2 ^ 16
    + (match b.session with
      | some (_, a) => authCode a * 16 + 8
      | none => 0)
    + b2n b.cfgErr * 4 + b2n b.dbErr * 2 + b2n (!b.done.isEmpty && diff16 b.rspTail b.rspHead == 32))

/-- What a word of BAR0 reads as. TIME_LO is the present time; TIME_HI and TIME_ERA are the path's latch (R404). -/
def State.bar0Read (p : Path) (off : Nat) (s : State) : Word :=
  let h := s.host
  let q := s.quire
  let (latch, cursor, window) : (Word × Word) × Word × List Block := match p with
    | .pcie => (h.latchP, h.cursorP, h.windowP)
    | .fabric _ => (h.latchF, h.cursorF, h.windowF)
  if 0x100 ≤ off && off < 0x200 then
    let k : Fin 8 := Fin.ofNat 8 ((off - 0x100) / 0x20)
    let b := s.mbox k
    match (off - 0x100) % 0x20 with
    | 0x00 => b.cmdHead.setWidth 32
    | 0x04 => b.cmdTail.setWidth 32
    | 0x0C => b.rspTail.setWidth 32
    | 0x10 => b.rspHead.setWidth 32
    | 0x14 => b.cfg
    | 0x18 => s.mbStat k
    | 0x1C => w32 b.lost
    | _ => 0
  else if 0x200 ≤ off && off < 0x280 then
    let st := s.stream (Fin.ofNat 4 ((off - 0x200) / 0x20))
    match (off - 0x200) % 0x20 with
    | 0x00 => st.baseLo
    | 0x04 => st.baseHi
    | 0x08 => st.ctl
    | 0x0C => w32 st.ringHead
    | 0x10 => w32 st.ringTail
    | 0x14 => st.recAck
    | _ => 0
  else if 0x900 ≤ off && off < 0xA00 then (window.getD ((off - 0x900) / 32) []).getD ((off - 0x900) % 32 / 4) 0
  else if 0x2000 ≤ off && off < 0x2200 then msixWord h.msix ((off - 0x2000) / 4)
  else match off with
    | 0x00 => Config.ident
    | 0x04 => Config.revision
    | 0x08 => Config.ifLevel
    | 0x0C => s.devState
    | 0x10 => h.resetCause
    | 0x14 => h.resetCtl
    | 0x20 => h.irqStat
    | 0x24 => h.irqEn
    | 0x30 => w32 s.tb.time
    | 0x34 => latch.1
    | 0x38 => latch.2
    | 0x40 => h.winCfg
    | 0x44 => w32 h.accessErr
    | 0x300 => w32 (q.itemsUsed * 2 ^ 16 + q.nibUsed)
    | 0x304 => w32 q.backpressure
    | 0x308 => w32 q.cancelled
    | 0x30C => w32 q.tooLate
    | 0x310 => w32 q.delayLate
    | 0x314 => w32 q.requeue
    | 0x318 => w32 q.dropped
    | 0x31C => w32 q.eccCorr
    | 0x320 => w32 q.dispatched
    | 0x400 => h.soReq.setWidth 32
    | 0x800 => cursor
    | 0x3000 => h.pba
    | _ => 0

/-- HLIM_STATUS (R350). -/
def State.hlimStatus (s : State) : Word :=
  let h := s.host.hlim
  w32 (s.secondsTo h.lockUntil % 65536 * 2 ^ 16 + h.result % 256 * 2 ^ 8 + h.fails % 8 * 32 + b2n h.checking.isSome * 16
    + b2n h.lockUntil.isSome * 8
    + (match h.unlock with
      | some (.fabric _) => 4
      | some .pcie => 2
      | none => 0)
    + b2n h.password.isSome)

/-- What a word of BAR4 reads as (R350). -/
def State.bar4Read (off : Nat) (s : State) : Word :=
  let h := s.host.hlim
  if 0x40 ≤ off && off < 0x80 then h.stage.getD ((off - 0x40) / 4) 0
  else if 0x1000 ≤ off && off < 0x5000 then (s.hlimRecord ((off - 0x1000) / 64)).getD ((off - 0x1000) % 64 / 4) 0
  else if 0x5000 ≤ off && off < 0x5080 then (s.hlimRecord (256 + (off - 0x5000) / 16)).getD ((off - 0x5000) % 16 / 4) 0
  else if 0x5100 ≤ off && off < 0x5200 then (s.hlimRecord (264 + (off - 0x5100) / 16)).getD ((off - 0x5100) % 16 / 4) 0
  else match off with
    | 0x00 => s.hlimStatus
    | 0x0C => w32 h.writes
    | 0x20 => match h.unlock with
      | some (.fabric a) => a.setWidth 32
      | _ => 0
    | _ => 0

/-- What a read of `n` bytes at any offset of a BAR returns: in BAR0 and BAR4 the bytes of the aligned words that contain them, in BAR2
the bytes of the rings, up to a payload, and 0 where there is no storage (R336, R343). -/
def State.barRead (p : Path) (bar : Bar) (off n : Nat) (s : State) : List Byte :=
  let ofWord (f : Nat → Word) (i : Nat) : Byte := (wordBytes (f (i / 4 * 4))).getD (i % 4) 0
  (List.range n).map fun i =>
    match bar with
    | .bar0 => ofWord (fun o => s.bar0Read p o) (off + i)
    | .bar4 => ofWord (fun o => s.bar4Read o) (off + i)
    | .bar2 => if off + i < ringBytes && i < maxPayload then memRead (off + i) s.rings else 0

/-! ### Entries of the rings (R343, R344, R358) -/

/-- The opcodes of R361. -/
def opcodes : List Nat :=
  [0x0100, 0x0101, 0x0102, 0x0103, 0x0104, 0x0105] ++ [0x0201, 0x0202, 0x0203, 0x0204, 0x0205]
    ++ [0x0301, 0x0302, 0x0303, 0x0304, 0x0305, 0x0306] ++ [0x0401, 0x0402, 0x0403, 0x0404]
    ++ [0x0501, 0x0502, 0x0503, 0x0504] ++ [0x0601, 0x0602, 0x0603, 0x0604, 0x0605] ++ [0x0701, 0x0702, 0x0703]
    ++ [0x0801, 0x0802, 0x0803, 0x0804, 0x0805, 0x0806, 0x0807, 0x0808] ++ [0x0901, 0x0902, 0x0903, 0x0904, 0x0905]
    ++ [0x0A01, 0x0A02, 0x0A03, 0x0A04] ++ [0x0B01, 0x0B02, 0x0B03, 0x0B04, 0x0B05, 0x0B06] ++ [0x0C01, 0x0C02, 0x0C03, 0x0C04]
    ++ [0x0D01, 0x0D02] ++ [0x0E01, 0x0E02, 0x0E03, 0x0E04] ++ [0x0F01, 0x0F02]

/-- A command entry as its words give it: opcode and command (R358). -/
def entryCmd (k : Fin 8) (w : Block) : Nat × MbCmd :=
  let len := fieldAt w 0xC 15 0
  (fieldAt w 0 15 0,
   { mb := k, flags := BitVec.ofNat 16 (fieldAt w 0 31 16), tag := wordAt w 4, target := wordAt w 8,
     rsvd := BitVec.ofNat 16 (fieldAt w 0xC 31 16), length := BitVec.ofNat 16 len,
     params := (w.drop 4).take ((min len 256 - 16 + 3) / 4) })

/-- The 64 words of a response entry (R344). -/
def Response.words (r : Response) : Block :=
  blockFit 64 ([r.tag, w32 (r.state.toNat * 2 ^ 16 + r.status.toNat), r.detail] ++ r.payload)

/-- The head of a MAILBOX frame (R394). -/
def mailboxHead (k : Fin 8) (kind : Nat) (fseq : Word) (status : Nat) : Block := [w32 (kind * 2 ^ 8 + k.val), fseq, w32 status, 0]

/-- A response of a fabric mailbox leaves as a MAILBOX frame (R385, R394). -/
def State.sendResponse (k : Fin 8) (w : Block) (s : State) : State :=
  let b := s.mbox k
  let f := s.ownFrame tMAILBOX (BitVec.ofNat 16 (bits b.cfg 31 16)) true false (mailboxHead k 1 0 0 ++ w) 272
  (s.updMb k fun b => { b with unacked := b.unacked ++ [{ slot := b.rspTail, fseq := s.fab.fseq, sends := 1, ended := false, at_ := s.now }] }).sendUnicast f b.lastPort

/-- The oldest completed response is written to the ring: entry, RSP_TAIL, vector; then the frame of a fabric mailbox (R346,
R358, R394). -/
def State.writeResponse (k : Fin 8) (s : State) : State :=
  let b := s.mbox k
  match b.done with
  | [] => s
  | r :: rest =>
    if 32 ≤ diff16 b.rspTail b.rspHead then s
    else
      let s1 : State := { s with rings := memWriteBytes (rspSlot k b.rspTail) (blockBytes r.words) s.rings }
      let s2 := if bit b.cfg 0 then s1.sendResponse k r.words else s1
      let s3 := s2.updMb k fun b => { b with
        done := rest
        kept := none
        rspTail := b.rspTail + 1 }
      let s4 := match b.kept with
        | some uid => s3.finish uid
        | none => s3
      { s4 with host := s4.host.irq k.val r.quiet }

/-- The Folio takes the next command of a mailbox: it copies the entry, CMD_HEAD advances, and the command has its Quire item; an
opcode that is not defined is answered at once, so it is taken once the commands before it are done (R346, R171, R183). (DEDUCED, log 16) -/
def State.takeCommand (k : Fin 8) (s : State) : State :=
  let b := s.mbox k
  if !s.serves k || b.cmdHead == b.cmdTail || 32 ≤ b.taken.length then s
  else
    let (op, m) : Nat × MbCmd := entryCmd k (memReadWords (cmdSlot k b.cmdHead) 64 s.rings)
    if opcodes.contains op then
      (s.updMb k fun b => { b with
        cmdHead := b.cmdHead + 1
        taken := b.taken ++ [(m, BitVec.ofNat 16 op)] }).post (264 + k.val) .folio 2 (.command k) 0 (.mailbox k)
    else if !b.taken.isEmpty || b.heldUp then s
    else (s.updMb k fun b => { b with cmdHead := b.cmdHead + 1 }).respond k (answerTo m RC_BAD_OPCODE 0 op [])

end Sys2Proof.Machine
end

