-- ==== Sys2Proof/Machine/RestartOps.lean ====
section
/-! DEFINITION. What waits for its command's response: the restart into a staged image (R374) and the entry into STANDBY (R473). -/

namespace Sys2Proof.Machine

/-- Every pending checkpoint is written (R194). -/
def State.writePending (s : State) : State :=
  forAll (fun n t =>
      match (t.ch n).ckptReq with
      | some w => (t.writeCkpt n w).updCh n fun c => { c with ckptReq := none }
      | none => t)
    allChannels s

/-- The Folio restarts into the staged image by a reset of reach C (R374). No bit of RESET_CAUSE names this source. -/
def State.restartImage (k : Fin 8) (crc : Word) (flash : Bool) (s : State) : State :=
  (s.cause 0 2).reachC.raise 0x0C0B NOTICE k.val (crc.toNat + 2 ^ 32 * b2n flash)

/-- STANDBY entry (R473, R474): event and flush, TIME_MARK and row counts, then everything but the AON domain loses its supply
and PWR_REQ goes low for at least 10 ms. (DEDUCED, log 45) -/
def State.enterStandby (k : Fin 8) (s : State) : State :=
  let s1 := (s.raise 0x1011 INFO 0 k.val).drainRaises
  let t := (s1.writePending.flushBlotter.markTime.flushWear).blocksReset false
  State.startTimer .standbyHold (10 * millisecond) { t with
    rst := { t.rst with
      power := .standby
      pwrReq := false
      pgood := false
      holdLow := true
      wakePending := false
      pgoodLate := false } }

/-- Once the response that it waits for is written, the restart or the STANDBY entry takes place. (DEDUCED, log 28) -/
def State.settleRestart (s : State) : State :=
  match s.folio.restart with
  | some (.image k crc flash) => if (s.mbox k).done.isEmpty then s.restartImage k crc flash else s
  | some (.standby k) => if (s.mbox k).done.isEmpty then s.enterStandby k else s
  | none => s

/-- Responses of a mailbox are written while there is room, at most `n`. -/
def State.writeResponses (k : Fin 8) : Nat → State → State
  | 0, s => s
  | n + 1, s => if (s.mbox k).done.isEmpty then s else State.writeResponses k n (s.writeResponse k)

/-- After a command that asked for a restart: its response is written first (R366, R374). -/
def State.respondFirst (k : Fin 8) (s : State) : State :=
  match s.folio.restart with
  | some _ => (s.writeResponses k (s.mbox k).done.length).settleRestart
  | none => s

end Sys2Proof.Machine
end

