-- ==== Sys2Proof/Machine/Device.lean ====
section
/-! DEFINITION. The device commands of chapter 13: sessions, modes, options, the Blotter's limits and mark, maintenance, firmware. -/

namespace Sys2Proof.Machine

/-- A header without a target, of a fixed LENGTH. -/
def devHdr (op len auth : Nat) (loader : Bool) : Hdr :=
  { opcode := op, lenOk := lenIs len, minLen := len, auth := fun _ => auth, loader := loader }

/-- NOP. -/
def execNop (m : MbCmd) (s : State) : Host.Outcome State Fault Refusal :=
  .next ((devHdr 0x0100 16 0 true).run (fun _ t => .done t 0 []) m s)

/-! ### DEV_INFO and sessions (R347, R348, R364, R365) -/

/-- The payload of DEV_INFO (R364). -/
def State.infoWords (s : State) : Block :=
  [Config.ident, Config.revision, Config.ifLevel] ++ words64 Config.uid.toNat
    ++ [w32 (s.rst.clkMode * 2 ^ 10 + s.rst.bootSrc * 2 ^ 8 + (if Config.gradeI then 0x49 else 0x45)),
      s.folio.fwVersion, s.folio.fwCrc, s.fab.addr.setWidth 32, s.devState]

/-- DEV_INFO. -/
def execDevInfo (m : MbCmd) (s : State) : Host.Outcome State Fault Refusal :=
  .next ((devHdr 0x0101 16 0 true).run (fun _ t => .done t 0 t.infoWords) m s)

/-- The session password, the failures and the lock of a level. -/
def HostIf.levelPw (l : Nat) (h : HostIf) : Option (List Byte) := if l = 2 then h.pwEng else if l = 3 then h.pwSaf else none
def HostIf.levelFails (l : Nat) (h : HostIf) : Nat := if l = 2 then h.failEng else h.failSaf
def HostIf.levelLock (l : Nat) (h : HostIf) : Option Nat := if l = 2 then h.lockEng else if l = 3 then h.lockSaf else none

def HostIf.setFails (l n : Nat) (h : HostIf) : HostIf :=
  if l = 2 then { h with failEng := n } else if l = 3 then { h with failSaf := n } else h

def HostIf.setLock (l t : Nat) (h : HostIf) : HostIf :=
  if l = 2 then { h with lockEng := some t } else if l = 3 then { h with lockSaf := some t } else h

def HostIf.setPw (l : Nat) (w : List Byte) (h : HostIf) : HostIf :=
  if l = 2 then { h with pwEng := some w } else if l = 3 then { h with pwSaf := some w } else h

/-- A wrong session password: counted and reported; the fifth in a row locks the level for 600 s (R348). -/
def State.sessionWrong (m : MbCmd) (l : Nat) (s : State) : Verdict :=
  let n := s.host.levelFails l + 1
  let t : State := { s with
    host := if n < 5 then s.host.setFails l n else (s.host.setFails l n).setLock l (s.now + lockCycles) }
  .refuseIn (t.raise 0x0C08 NOTICE m.mb.val (l + 4 * (n % 8))) RC_PASSWORD n []

/-- The session opens in place of any of its mailbox (R348, R365). -/
def State.openSession (m : MbCmd) (l : Nat) (s : State) : Verdict :=
  let id := s.host.sessions + 1
  let t : State := { s with host := { s.host.setFails l 0 with sessions := id } }
  let u := (t.updMb m.mb fun b => { b with session := some (id, authOfCode l) }).raise 0x0C07 INFO m.mb.val l
  .done u 0 [id, w32 l]

/-- SESSION_OPEN's own part. (DEDUCED, log 23) -/
def State.sessionOpen (m : MbCmd) (s : State) : Verdict :=
  let p := m.params
  let l := fieldAt p 0 1 0
  let n := fieldAt p 0 8 4
  let new := fieldAt p 0 20 16
  let setPw := bitAt p 0 12
  let h := s.host
  reserved m [(0, 0xFFE0EE0C)] <|
    if setPw && l < 2 then .refuse RC_BAD_FIELD 0 []
    else if (h.levelPw l).isNone && n ≠ 0 then .refuse RC_BAD_FIELD 0 []
    else if (if setPw then new < 4 || 16 < new else new ≠ 0) then .refuse RC_BAD_FIELD 0 []
    else if (h.levelLock l).isSome then .refuse RC_PASSWORD (0x10000 + s.secondsTo (h.levelLock l)) []
    else
      let go (t : State) : Verdict :=
        State.openSession m l (if setPw then { t with host := t.host.setPw l (pwBytes p 0x14 new) } else t)
      match h.levelPw l with
      | none => go s
      | some w => if 4 ≤ n && n ≤ 16 && pwBytes p 4 n = w then go s else s.sessionWrong m l

/-- SESSION_OPEN. -/
def execSessionOpen (m : MbCmd) (s : State) : Host.Outcome State Fault Refusal :=
  .next ((devHdr 0x0102 52 0 false).run (fun m t => t.sessionOpen m) m s)

/-- SESSION_CLOSE. -/
def execSessionClose (m : MbCmd) (s : State) : Host.Outcome State Fault Refusal :=
  .next ((devHdr 0x0103 16 0 false).run (fun m t => .done (t.updMb m.mb fun b => { b with session := none }) 0 []) m s)

/-! ### Mode and STANDBY (R366) -/

/-- Leaving SERVICE stops the streaming units and ends the self-tests (R366, R232, R371). -/
def State.leaveService (s : State) : State :=
  let t : State := { s with pounce := s.pounce.map fun p => if p.state = .streaming then p.stop else p }
  forAll (fun x u => u.answerSelftest RC_MODE 0 [] x) t.folio.selftests t

/-- DEV_MODE_SET's own part. -/
def State.modeSet (m : MbCmd) (s : State) : Verdict :=
  reserved m [(0, 0xFFFFFFFE)] <|
    let on := bitAt m.params 0 0
    if on = s.folio.service then .done s 0 []
    else
      let t := (s.setFolio { s.folio with service := on }).raise 0x0C0D NOTICE m.mb.val (b2n on)
      .done (if on then t else t.leaveService) 0 []

/-- DEV_MODE_SET. -/
def execDevModeSet (m : MbCmd) (s : State) : Host.Outcome State Fault Refusal :=
  .next ((devHdr 0x0104 20 2 false).run (fun m t => t.modeSet m) m s)

/-- A channel state in which STANDBY may be entered. -/
def ChState.restful (c : ChState) : Bool := c == .off || c == .configured || c == .done || c == .absent

/-- The first channel or axis that forbids STANDBY: its DETAIL (R366). -/
def State.standbyBar (s : State) : Option Nat :=
  match allChannels.find? fun n => !(s.ch n).state.restful with
  | some n => some ((s.ch n).state.code + 2 ^ 8 * n.val)
  | none => match allAxes.find? fun a => (s.ax a).state != .disabled with
    | some a => some ((s.ax a).state.code + 2 ^ 8 * a.val + 2 ^ 16)
    | none => none

/-- DEV_STANDBY's own part: the entry follows its response. -/
def State.devStandby (m : MbCmd) (s : State) : Verdict :=
  match s.standbyBar with
  | some d => .refuse RC_STATE d []
  | none => .done { s with folio := { s.folio with restart := some (.standby m.mb) } } 0 []

/-- DEV_STANDBY. -/
def execDevStandby (m : MbCmd) (s : State) : Host.Outcome State Fault Refusal :=
  .next (((devHdr 0x0105 16 2 false).run (fun m t => t.devStandby m) m s).respondFirst m.mb)

/-! ### Options (R369) -/

/-- The options by code: INDEX and value ranges. -/
def optIndexOk (o i : Nat) : Bool :=
  match o with
  | 1 => decide (i < 256)
  | 2 => decide (i < 4)
  | 3 => decide (i < 16)
  | 4 => decide (i < 16)
  | _ => i == 0

/-- A TRIP_CFG value has no reserved bit set and no FILTER 0b11 (R55). -/
def tripCfgOk (v : Nat) : Bool := (List.range 8).all fun k => v / 2 ^ (4 * k) % 16 < 6

/-- A value is in its option's range. -/
def optValueOk (o v : Nat) : Bool :=
  match o with
  | 1 => decide (v < 256)
  | 2 => decide (v < 2 ^ 32) && tripCfgOk v
  | 3 => decide (v < 288) || v == 0x1FF
  | 4 => decide (1 ≤ v) && decide (v < 2 ^ 32)
  | 5 => decide (10 ≤ v) && decide (v ≤ 1000)
  | _ => decide (1 ≤ v) && decide (v ≤ 3600)

/-- The present value of an option. -/
def State.optRead (s : State) (o i : Nat) : Nat :=
  match o with
  | 1 => (s.chv (Fin.ofNat 256 i)).minPulse
  | 2 => (s.dieOf (Fin.ofNat 4 i)).tripCfg.toNat
  | 3 => (s.grp (Fin.ofNat 16 i)).busAux
  | 4 => (s.grp (Fin.ofNat 16 i)).busDiv
  | 5 => s.vel.ckptInterval
  | _ => s.vel.revertHold

/-- A new TRIP_CFG value acts at once: an input that it enables while its filtered level is high trips the channels that select it
(R54, R55). (DEDUCED, log 26) -/
def State.setTripCfg (f : Fin 4) (v : Word) (s : State) : State :=
  let t := s.updDie f fun d => { d with tripCfg := v }
  let new := (t.dieOf f).activePins &&& (255 - (s.dieOf f).activePins)
  if new = 0 then t else forAll (fun n u => if new &&& cfTripSel (u.ch n).cfg = 0 then u else u.trip n 1) (dieChannels f) t

/-- The option takes a value. -/
def State.optWrite (o i v : Nat) (s : State) : State :=
  match o with
  | 1 => s.updChv (Fin.ofNat 256 i) fun c => { c with minPulse := v }
  | 2 => s.setTripCfg (Fin.ofNat 4 i) (w32 v)
  | 3 => s.updGrp (Fin.ofNat 16 i) fun g => { g with
      busAux := v
      bus := if v = 0x1FF then 0 else g.bus }
  | 4 => s.updGrp (Fin.ofNat 16 i) fun g => { g with busDiv := v }
  | 5 => { s with vel := { s.vel with ckptInterval := v } }
  | _ => { s with vel := { s.vel with revertHold := v } }

/-- An option's conflict (R369): TRIP_CFG that disables an input which a channel in use selects; BUS_AUX of another die. -/
def State.optConflict (s : State) (o i v : Nat) : Option Nat :=
  if o = 2 then
    let f := Fin.ofNat 4 i
    let off (k : Nat) : Bool := tripEnabled (s.dieOf f).tripCfg k && !tripEnabled (w32 v) k
    ((dieChannels f).find? fun n =>
      (s.ch n).state != .off && (s.ch n).state != .absent
        && (List.range 8).any fun k => (cfTripSel (s.ch n).cfg).testBit k && off k).map fun n => n.val
  else if o = 3 && v ≠ 0x1FF && v / 72 ≠ i / 4 then some 8
  else none

/-- OPT_SET's own part. -/
def State.optSet (m : MbCmd) (s : State) : Verdict :=
  let p := m.params
  let o := fieldAt p 0 15 0
  let i := fieldAt p 4 15 0
  let v := natAt64 p 8
  reserved m [(0, 0x7FFF0000), (4, 0xFFFF0000)] <|
    if o < 1 || 6 < o then .refuse RC_BAD_FIELD 0 []
    else if !optIndexOk o i then .refuse RC_BAD_FIELD 4 []
    else if bitAt p 0 31 then .done s 0 (words64 (s.optRead o i))
    else if !optValueOk o v then .refuse RC_CFG_RANGE 8 []
    else match s.optConflict o i v with
      | some d => .refuse RC_CFG_CONFLICT d []
      | none =>
        if s.vel.failed.contains 0 then .refuse RC_HW_FAULT 0 []
        else .done (((s.optWrite o i v).persist 0 1).raise 0x0C0E INFO m.mb.val (o + 2 ^ 16 * i + 2 ^ 32 * (v % 2 ^ 32))) 0
          (words64 (s.optRead o i))

/-- OPT_SET. -/
def execOptSet (m : MbCmd) (s : State) : Host.Outcome State Fault Refusal :=
  .next (({ opcode := 0x0C04, lenOk := lenIs 32, minLen := 32, auth := fun m => if bitAt m.params 0 31 then 0 else 2 } : Hdr).run
    (fun m t => t.optSet m) m s)

/-! ### The Blotter's commands (R370, R439) -/

/-- The event codes that the device defines: first and last code of each range (R440 and the event tables of the chapters). -/
def eventRanges : List (Nat × Nat) :=
  [(0x0201, 0x0209), (0x0301, 0x0307), (0x0401, 0x0407), (0x0501, 0x0509), (0x0601, 0x0607), (0x0701, 0x070C), (0x070E, 0x070F)]
    ++ [(0x0801, 0x0807), (0x0901, 0x0908), (0x0A01, 0x0A05), (0x0A08, 0x0A0A), (0x0B01, 0x0B0D), (0x0C01, 0x0C0E)]
    ++ [(0x0D01, 0x0D0B), (0x0E01, 0x0E09), (0x0F01, 0x0F0A), (0x1001, 0x100A), (0x1011, 0x1015)]

def eventDefined (c : Nat) : Bool := eventRanges.any fun r => decide (r.1 ≤ c) && decide (c ≤ r.2)

/-- A limiter with a new limit: tokens above BURST are cut (R441). -/
def Limiter.limit (rate burst now : Nat) (l : Limiter) : Limiter :=
  let x := l.refill now
  { x with
    rate := rate
    burst := burst
    tokens := min x.tokens (burst * token) }

/-- EVT_CONFIG's own part; a flush has written every entry before the response (R362). -/
def State.evtConfig (m : MbCmd) (s : State) : Verdict :=
  let p := m.params
  let code := fieldAt p 0 15 0
  let burst := fieldAt p 4 31 16
  let rate := fieldAt p 4 15 0
  reserved m [(0, 0xFFFC0000)] <|
    if bitAt p 0 16 then
      .done ({ s with blot := { s.blot with flushTold := some m.mb.val } } : State).flushBlotter 0 []
    else if !eventDefined code then .refuse RC_BAD_FIELD 0 []
    else
      let l := s.blot.limiter (BitVec.ofNat 16 code) s.now
      if bitAt p 0 17 then .done { s with blot := s.blot.setLimiter (l.limit 10 32 s.now) } 0 []
      else if burst < 1 || 1024 < burst || rate < 1 || 1000 < rate then .refuse RC_CFG_RANGE 4 []
      else .done { s with blot := s.blot.setLimiter (l.limit rate burst s.now) } 0 []

/-- EVT_CONFIG. -/
def execEvtConfig (m : MbCmd) (s : State) : Host.Outcome State Fault Refusal :=
  .next ((devHdr 0x0D01 24 2 false).run (fun m t => t.evtConfig m) m s)

/-- EVT_CLEAR's own part: the mark moves to UP_TO_SEQ + 1, at most to the next SEQ; behind the retained range nothing changes.
(DEDUCED, log 45) -/
def State.evtClear (m : MbCmd) (s : State) : Verdict :=
  let old := s.oldestKept
  let up := (natAt m.params 0 + 1) % 2 ^ 32
  let aim := if seqLe s.blot.nextSeq up then s.blot.nextSeq else up
  let moves := !seqLe aim old
  let oldMark := s.vel.mark.getD old
  let newMark := if moves then aim else oldMark
  let t : State := if moves then ({ s with vel := { s.vel with mark := some aim } } : State).persist 0 1 else s
  .done (t.raise 0x0F02 INFO m.mb.val (oldMark + 2 ^ 32 * newMark)) 0 [w32 t.oldestKept]

/-- EVT_CLEAR. -/
def execEvtClear (m : MbCmd) (s : State) : Host.Outcome State Fault Refusal :=
  .next ((devHdr 0x0D02 20 2 false).run (fun m t => t.evtClear m) m s)

/-! ### Maintenance (R371) -/

def NibRole.code : NibRole → Nat
  | .spare => 0 | .active => 1 | .fenced => 2 | .retired => 3

/-- A Nib's byte of SPARE_STATUS. -/
def Nib.byte (n : Nib) : Nat :=
  n.role.code * 64 + (match n.group with
    | some g => g.val
    | none => 31)

/-- A mask of the cores with a role. -/
def coreMask (r : CoreRole → Bool) (l : List CoreRole) : Nat :=
  ((List.range 4).map fun i => if r (l.getD i .retired) then 2 ^ i else 0).foldl (· + ·) 0

/-- Healthy idle spare converters: bit 4f + s for converter 136 + s of die f. -/
def State.convSpares (s : State) : Nat :=
  ((List.range 16).map fun i => if (s.dieOf (Fin.ofNat 4 (i / 4))).spares.contains (136 + i % 4) then 2 ^ i else 0).foldl (· + ·) 0

/-- The payload of SPARE_STATUS. -/
def State.spareWords (s : State) : Block :=
  let l := s.folio.cores
  let row (w : Nat) : Word :=
    w32 (((List.range 4).map fun i => (s.nibOf (Fin.ofNat 20 (4 * w + i))).byte * 2 ^ (8 * i)).foldl (· + ·) 0)
  (List.range 5).map row
    ++ [w32 (coreMask (fun r => r == .retired) l * 2 ^ 8 + coreMask (fun r => r == .spare) l * 2 ^ 4 + coreMask (fun r => r == .vote) l),
      w32 s.convSpares, w32 (s.vel.sramBanksOut * 2 ^ 16 + s.vel.sramRowsMin), w32 s.vel.rowsLeft, w32 s.ink.retired.length]

/-- SPARE_STATUS. -/
def execSpareStatus (m : MbCmd) (s : State) : Host.Outcome State Fault Refusal :=
  .next ((devHdr 0x0E01 16 0 false).run (fun _ t => .done t 0 t.spareWords) m s)

/-- KIND, INDEX and DIE of SPARE_RETIRE and SELFTEST. -/
def spKind (m : MbCmd) : Nat := fieldAt m.params 0 1 0
def spIndex (m : MbCmd) : Nat := fieldAt m.params 0 15 8
def spDie (m : MbCmd) : Nat := fieldAt m.params 0 23 16

/-- Nib `k` is retired by command. 0x0705 has no code for this cause (log 14). An active Nib first hands its group to the lowest
idle spare in the planned manner of R213, and the command holds its mailbox until then. (DEDUCED, log 40) -/
def State.retireByCommand (m : MbCmd) (k : Fin 20) (s : State) : Verdict :=
  let why := (Config.unstated 92).toNat % 2
  match (s.nibOf k).role, (s.nibOf k).group with
  | .retired, _ => .done s 0 []
  | .active, some g =>
    match s.nibs.handovers.find? fun h => h.group == g && !h.cmds.isEmpty with
    | some h => .hold { s with
        nibs := { s.nibs with handovers := s.nibs.handovers.map fun x => if x = h then { x with cmds := x.cmds ++ [m] } else x } }
    | none => if s.nextSpare.isNone then .refuse RC_NO_SPARE 1 [] else .hold (s.startPlanned g [m])
  | _, _ =>
    match s.nibs.takeovers.find? (fun t => t.spare == k) with
    | some t => .done ((s.retireNib k why).startTakeover t.group t.old t.since) 0 []
    | none => .done ((s.retireNib k why).abandonHandover k) 0 []

/-- A spare converter is retired (R371). -/
def State.retireConv (f : Fin 4) (c : Nat) (s : State) : Verdict :=
  if (s.dieOf f).steered.any fun e => e.2.1 == c then .refuse RC_STATE 1 []
  else .done (s.updDie f fun d => { d with spares := d.spares.filter fun x => x != c }) 0 []

/-- A Folio core is retired (R371, R216): a voting one leaves the vote and the cold spare boots. (DEDUCED, log 27) -/
def State.retireCore (i : Nat) (s : State) : Verdict :=
  let tell (t : State) : State := t.raise 0x070F ALARM i (coresLeft t.folio.cores)
  match s.folio.cores.getD i .retired with
  | .retired => .done s 0 []
  | .vote =>
    match s.folio.spareCore with
    | none => .refuse RC_NO_SPARE 3 []
    | some _ => .done (tell (s.setFolio (s.folio.isolate s.now i .retired))) 0 []
  | _ =>
    let l := setCore i .retired s.folio.cores
    .done (tell (s.setFolio { s.folio with
      cores := l
      code := if s.folio.settled then votingCode l else s.folio.code })) 0 []

/-- SPARE_RETIRE's own part. -/
def State.spareRetire (m : MbCmd) (s : State) : Verdict :=
  let i := spIndex m
  reserved m [(0, 0xFF0000FC)] <|
    match spKind m with
    | 1 => if i < 20 then s.retireByCommand m (Fin.ofNat 20 i) else .refuse RC_BAD_FIELD 0 []
    | 2 => if 136 ≤ i && i < 140 && spDie m < 4 then s.retireConv (Fin.ofNat 4 (spDie m)) i else .refuse RC_BAD_FIELD 0 []
    | 3 => if i < 4 then s.retireCore i else .refuse RC_BAD_FIELD 0 []
    | _ => .refuse RC_BAD_FIELD 0 []

/-- SPARE_RETIRE. -/
def execSpareRetire (m : MbCmd) (s : State) : Host.Outcome State Fault Refusal :=
  .next ((devHdr 0x0E02 20 2 false).run (fun m t => t.spareRetire m) m s)

/-- SELFTEST begins and holds its mailbox (R362). -/
def State.startSelftest (m : MbCmd) (s : State) : Verdict :=
  let t : SelfTest := { mb := m.mb, tag := m.tag, quiet := m.flags.getLsbD 0, kind := spKind m, index := spIndex m, die := spDie m }
  .hold { s with folio := { s.folio with selftests := s.folio.selftests ++ [t] } }

/-- SELFTEST's own part. (DEDUCED, log 45) -/
def State.selftest (m : MbCmd) (s : State) : Verdict :=
  let i := spIndex m
  if !s.folio.service then .refuse RC_MODE 0 []
  else reserved m [(0, 0xFF0000FC)] <|
    match spKind m with
    | 1 =>
      if 20 ≤ i then .refuse RC_BAD_FIELD 0 []
      else if s.idleSpare (Fin.ofNat 20 i) && !(s.folio.selftests.any fun t => t.kind == 1 && t.index == i) then s.startSelftest m
      else .refuse RC_STATE 1 []
    | 2 =>
      if i ≠ 0 || 4 ≤ spDie m then .refuse RC_BAD_FIELD 0 []
      else match (dieChannels (Fin.ofNat 4 (spDie m))).find? fun n => (s.ch n).state != .off && (s.ch n).state != .absent with
        | some n => .refuse RC_STATE (s.ch n).state.code []
        | none => s.startSelftest m
    | 3 =>
      if 4 ≤ i then .refuse RC_BAD_FIELD 0 []
      else if s.folio.cores.getD i .retired = .spare && !(s.folio.selftests.any fun t => t.kind == 3) then s.startSelftest m
      else .refuse RC_STATE 1 []
    | _ => .refuse RC_BAD_FIELD 0 []

/-- SELFTEST. -/
def execSelftest (m : MbCmd) (s : State) : Host.Outcome State Fault Refusal :=
  .next ((devHdr 0x0E03 20 2 false).run (fun m t => t.selftest m) m s)

/-- A failed SELFTEST of a spare Nib that has faulted before counts as its second fault (R214). -/
def State.testFault (t : SelfTest) (s : State) : State :=
  let k : Fin 20 := Fin.ofNat 20 t.index
  if t.kind = 1 && s.nibRetires k && (s.nibOf k).role == .spare then s.retireNib k 1 else s

/-- SELFTEST_DONE: the oldest running self-test is answered (R371). (DEDUCED, log 45) -/
def execSelftestDone (pass : Bool) (duration failCode : Word) (s : State) : Host.Outcome State Fault Refusal :=
  match s.folio.selftests with
  | [] => .next s
  | t :: _ =>
    let s1 := if pass then s else s.testFault t
    .next (s1.answerSelftest RC_OK 0 [w32 (b2n pass), duration, if pass then 0 else failCode] t)

/-- The row with the greatest count; among equal ones the spec names none (log 14). -/
def Vellum.worstRow (v : Vellum) : Nat × Nat :=
  let top := (v.wear.map fun e => e.2).foldl max 0
  let l := v.wear.filter fun e => e.2 == top
  l.getD ((Config.unstated 93).toNat % l.length) (0, 0)

/-- The payload of WEAR_REPORT. -/
def State.wearWords (s : State) : Block :=
  let w := s.vel.worstRow
  words64 w.2 ++ [w32 ((regionOf (256 * w.1)).getD 0), w32 s.vel.retired.length, w32 s.vel.sramRowsUsed, w32 s.ink.retired.length,
    w32 s.vel.convSteered, w32 s.nibs.faults, w32 s.host.hlim.writes]

/-- WEAR_REPORT. -/
def execWearReport (m : MbCmd) (s : State) : Host.Outcome State Fault Refusal :=
  .next ((devHdr 0x0E04 16 0 false).run (fun _ t => .done t 0 t.wearWords) m s)

/-! ### Firmware (R374, R463) and the watchdog (R465) -/

/-- LENGTH of FW_STAGE: 32 + COUNT, COUNT 4 to 224. -/
def stageLenOk (m : MbCmd) : Bool :=
  let n := fieldAt m.params 4 7 0
  decide (4 ≤ n) && decide (n ≤ 224) && m.length.toNat == 32 + n

/-- FW_STAGE's own part. (DEDUCED, log 45) -/
def State.fwStage (m : MbCmd) (s : State) : Verdict :=
  let p := m.params
  let off := natAt p 0
  let n := fieldAt p 4 7 0
  let total := natAt p 8
  reserved m [(4, 0xFFFFFF00), (0xC, 0xFFFFFFFF)] <|
    if off % 4 ≠ 0 then .refuse RC_BAD_FIELD 0 []
    else if n % 4 ≠ 0 then .refuse RC_BAD_FIELD 4 []
    else if total < 4 || 8388608 < total then .refuse RC_BAD_FIELD 8 []
    else if total < off + n then .refuse RC_BAD_FIELD 0 []
    else
      let (clash, held) : Bool × List (Nat × Word) := match s.folio.staged with
        | some (t, l) => (t != total && off != 0, if t = total then l else [])
        | none => (false, [])
      if clash then .refuse RC_BAD_FIELD 8 []
      else
        let ws := (List.range (n / 4)).map fun i => (off / 4 + i, wordAt p (0x10 + 4 * i))
        let l := (held.filter fun e => !(decide (off / 4 ≤ e.1) && decide (e.1 < off / 4 + n / 4))) ++ ws
        .done { s with folio := { s.folio with staged := some (total, l) } } 0 []

/-- FW_STAGE. -/
def execFwStage (m : MbCmd) (s : State) : Host.Outcome State Fault Refusal :=
  .next (({ opcode := 0x0F01, lenOk := stageLenOk, minLen := 36, auth := fun _ => 2, loader := true } : Hdr).run
    (fun m t => t.fwStage m) m s)

/-- The staged words in order, none while a byte is unstaged. -/
def Folio.image (f : Folio) : Option Block :=
  match f.staged with
  | some (total, l) =>
    if total % 4 ≠ 0 then none
    else (List.range (total / 4)).mapM fun i => (l.find? fun e => e.1 == i).map fun e => e.2
  | none => none

/-- Checks 1 and 2 of R463 on a staged image. -/
def imageHeaderOk (b : Block) : Bool :=
  decide (80 ≤ b.length) && wordAt b 0 == 0x57465856#32 && wordAt b 4 == 1#32 && natAt b 0x10 == 4 * b.length
    && (natAt b 0x18 &&& 0x8888) == 0 && (List.range 56).all fun i => wordAt b (0x20 + 4 * i) == 0

/-- Check 3 of R463. -/
def imageBodyOk (b : Block) : Bool := wordAt b 0x14 == crcBlock ((b.drop 64).take (b.length - 80))

/-- FW_ACTIVATE's own part; the reason of a header that R463 refuses has no code (log 14). (DEDUCED, log 45) -/
def State.fwActivate (m : MbCmd) (s : State) : Verdict :=
  let crc := wordAt m.params 0
  let flash := bitAt m.params 4 0
  let no (d : Nat) : Verdict := .refuseIn (s.raise 0x0C0C ALARM m.mb.val (d % 4)) RC_SIGNATURE d []
  reserved m [(4, 0xFFFFFFFE)] <|
    match s.folio.image with
    | none => .refuse RC_STATE 0 []
    | some b =>
      if crcBlock b ≠ crc then no 2
      else if !imageHeaderOk b then no (Config.unstated 94).toNat
      else if !imageBodyOk b then no 2
      else if !Config.signatureOk b then no 1
      else if flash && s.rst.bootSrc ≠ 0 then .refuse RC_CFG_CONFLICT 4 []
      else .done { s with folio := { s.folio with restart := some (.image m.mb crc flash) } } 0 []

/-- FW_ACTIVATE: the response is written before the restart. -/
def execFwActivate (m : MbCmd) (s : State) : Host.Outcome State Fault Refusal :=
  .next (((devHdr 0x0F02 24 2 true).run (fun m t => t.fwActivate m) m s).respondFirst m.mb)

/-- WATCHDOG_RESTART (R465): a voted write restarts the watchdog while the Folio runs. -/
def execWatchdogRestart (s : State) : Host.Outcome State Fault Refusal :=
  .next (if s.folio.voters.length < 2 then s else { s with folio := { s.folio with watchdog := s.now } })

end Sys2Proof.Machine
end

