-- ==== Sys2Proof/Machine/Fabric.lean ====
section
/-! DEFINITION. The rows of the Ligature fabric (14): links, forwarding, discovery and assignment, WINDOW, MAILBOX, SYNC and
NOTICE frames, and the fabric commands of R372. -/

namespace Sys2Proof.Machine

/-! ### Links (R379, R382, R384, R386) -/

/-- FEC of a port, from PORT_CFG of the image (R378, R462). -/
def State.fecOn (s : State) (p : Fin 4) : Bool := s.folio.portCfg.getLsbD (4 * p.val + 2)

/-- Own address with another UID: event 0x0D05 and an ADDR_CONFLICT notice (R391, R397). -/
def State.conflict (addr : BitVec 16) (uid : BitVec 64) (s : State) : State :=
  if addr = s.fab.addr && addr ≠ 0 && uid ≠ Config.uid then
    (s.raise 0x0D05 ALARM 0 uid.toNat).notice 5 addr (uid.toNat % 2 ^ 32)
  else s

/-- The payload of a HELLO (R382). -/
def State.helloWords (s : State) (p : Fin 4) : Block :=
  words64 Config.uid.toNat
    ++ [w32 (b2n (s.fecOn p) * 2 ^ 24 + s.folio.code * 2 ^ 20 + p.val * 2 ^ 16 + s.fab.addr.toNat)]

/-- The HELLO interval and the silence after which a port goes DOWN (R379). -/
def helloEvery : Nat := 100 * millisecond
def helloSilence : Nat := 300 * millisecond

/-- A HELLO was received within the last 300 ms (R379). -/
def Port.hears (q : Port) (now : Nat) : Bool :=
  match q.heard with
  | some t => decide (now < t + helloSilence)
  | none => false

/-- HELLO_SEND: a port that holds block lock sends a HELLO every 100 ms, in hi_ber too. -/
def execHelloSend (p : Fin 4) (s : State) : Host.Outcome State Fault Refusal :=
  .next (if (s.port p).lock && due (s.port p).helloAt helloEvery s.now then
      ((s.updPort p fun q => { q with helloAt := some s.now }).sendOn p
        (s.ownFrame tHELLO aFLOOD false false (s.helloWords p) 12)).countFrame
    else s)

/-- HELLO_RECEIVE. -/
def execHelloReceive (p : Fin 4) (f : Frame) (s : State) : Host.Outcome State Fault Refusal :=
  let (ok, t) : Bool × State := s.receive p f
  if !ok || f.typ ≠ tHELLO || f.len ≠ 12 then .next t
  else
    let uid := BitVec.ofNat 64 (natAt64 f.payload 0)
    let addr := BitVec.ofNat 16 (fieldAt f.payload 8 15 0)
    .next ((t.updPort p fun q => { q with
      heard := some s.now
      peer := addr
      peerUid := uid }).conflict addr uid)

/-- BLOCK_LOCK_GAINED: the HELLO interval begins anew. -/
def execBlockLockGained (p : Fin 4) (s : State) : Host.Outcome State Fault Refusal :=
  .next (s.updPort p fun q => { q with
    lock := true
    helloAt := if q.lock then q.helloAt else none })

/-- LINK_UP: block lock, no hi_ber and a HELLO of the last 300 ms make the port UP (R379); the hold of R384 begins. The row says that
hi_ber is left. (DEDUCED, log 46) -/
def execLinkUp (p : Fin 4) (s : State) : Host.Outcome State Fault Refusal :=
  let q := s.port p
  if !q.lock || !q.hears s.now || q.up then .next s
  else
    let t := s.updPort p fun q => { q with
      hiBer := false
      up := true
      upAt := s.now
      usable := false }
    .next (((t.raise 0x0D01 INFO p.val (q.peer.toNat + 2 ^ 16 * b2n (s.fecOn p))).irq 17).notice 2 q.peer p.val)

/-- PRIM_HOLD_END: the port has been UP for 1 s (R384). -/
def execPrimHoldEnd (p : Fin 4) (s : State) : Host.Outcome State Fault Refusal :=
  .next (s.updPort p fun q => { q with usable := q.usable || (q.up && decide (q.upAt + second ≤ s.now)) })

/-- A port goes DOWN (R379, R386, R397): its queues are dropped and the switch-over is counted. (DEDUCED, log 46) -/
def State.goDown (p : Fin 4) (silent : Bool) (s : State) : State :=
  let q := s.port p
  let n := satAdd q.switchovers 1
  let t := s.updPort p fun q => { q with
    up := false
    usable := false
    q0 := []
    q1 := []
    q2 := []
    switchovers := n }
  let u := (((t.raise 0x0D02 NOTICE p.val (b2n silent)).raise 0x0D03 NOTICE p.val n).irq 17).notice 1 q.peer p.val
  if silent then u.notice 3 q.peer p.val else u

/-- LINK_DOWN: block lock is lost, or hi_ber entered with block lock held. (DEDUCED, log 46) -/
def execLinkDown (p : LinkLoss) (s : State) : Host.Outcome State Fault Refusal :=
  let (k, hiBer) := match p with
    | .lock k => (k, false)
    | .hiBer k => (k, true)
  let t := s.updPort k fun q => { q with
    lock := q.lock && hiBer
    hiBer := q.lock && hiBer }
  .next (if (s.port k).up then t.goDown k false else t)

/-- PEER_SILENT: 300 ms without a HELLO. -/
def execPeerSilent (p : Fin 4) (s : State) : Host.Outcome State Fault Refusal :=
  .next (if (s.port p).up && !(s.port p).hears s.now then s.goDown p true else s)

/-! ### Forwarding (R384, R387) -/

/-- A unicast frame that is not for this device leaves by its route; a HELLO never leaves (R382). -/
def State.forward (p : Fin 4) (f : Frame) (s : State) : State :=
  if f.hopLimit ≤ f.hops || f.typ = tHELLO then s
  else match s.routePort f.dst (some p) with
    | some q => s.sendOn q (hop f)
    | none => s.unreachable f.dst f.typ

/-- A frame to a group or to 0xFFFF: once per (SRC, FSEQ), and never one of WINDOW, MAILBOX or STREAM (R387). The answer tells
whether the frame is new. -/
def State.spread (p : Fin 4) (f : Frame) (s : State) : Bool × State :=
  if neverSpread f.typ || s.seenFlood f then (false, s)
  else (true, (s.markFlood f).passOn p f)

/-- A NOTICE to 0xFFFE, once per (SRC, FSEQ): it is admitted and passed on, or dropped and counted (R398). -/
def State.takeNotice (p : Fin 4) (f : Frame) (s : State) : State :=
  if f.len ≠ 20 || s.seenFlood f then s
  else
    let u := s.markFlood f
    if u.noticeAdmitted (ntSubject f) (ntCode f) then (u.noticeCache (ntSubject f) (ntCode f)).passNotice f (some p)
    else { u with fab := { u.fab with suppressed := satAdd u.fab.suppressed 1 } }

/-- FRAME_FORWARD. -/
def execFrameForward (p : Fin 4) (f : Frame) (s : State) : Host.Outcome State Fault Refusal :=
  let (ok, t) : Bool × State := s.receive p f
  if !ok then .next t
  else if f.typ = tNOTICE && f.dst = aNOTICE then .next (t.takeNotice p f)
  else if isGroup f.dst then .next (t.spread p f).2
  else if f.dst = s.fab.addr && f.dst ≠ 0 then .next t
  else .next (t.forward p f)

/-! ### Discovery and assignment (R389 to R391) -/

/-- The payload of a DISCOVER frame (R389). -/
def discWords (id : BitVec 16) (kind : Nat) (origin uid : BitVec 64) (hops : Nat) (addr : BitVec 16) : Block :=
  w32 (id.toNat * 2 ^ 16 + kind) :: (words64 origin.toNat ++ words64 uid.toNat ++ [w32 (hops % 256 * 2 ^ 16 + addr.toNat), 0])

/-- Fields of a DISCOVER payload. -/
def dcId (f : Frame) : BitVec 16 := BitVec.ofNat 16 (fieldAt f.payload 0 31 16)
def dcKind (f : Frame) : Nat := fieldAt f.payload 0 1 0
def dcOrigin (f : Frame) : BitVec 64 := BitVec.ofNat 64 (natAt64 f.payload 4)
def dcUid (f : Frame) : BitVec 64 := BitVec.ofNat 64 (natAt64 f.payload 0xC)
def dcHops (f : Frame) : Nat := fieldAt f.payload 0x14 23 16
def dcAddr (f : Frame) : BitVec 16 := BitVec.ofNat 16 (fieldAt f.payload 0x14 15 0)

/-- A DISCOVER frame of a kind, well formed. -/
def isDisc (kind : Nat) (f : Frame) : Bool := f.typ == tDISCOVER && f.len == 28 && dcKind f == kind

/-- The control plane answers (R383, R464): the image runs, or the loader on a path that takes in the fabric. -/
def State.control (s : State) : Bool :=
  match s.folio.loader with
  | some (_, fabric) => s.folio.mbReady && fabric
  | none => s.folio.mbReady

/-- The ingress port is recorded for 10 s (R390). -/
def State.recordPort (p : Fin 4) (f : Frame) (s : State) : State :=
  let live := s.fab.recorded.filter fun e =>
    decide (s.now < e.2.2.2 + 10 * second) && !(e.1 == dcOrigin f && e.2.1 == dcId f)
  { s with fab := { s.fab with recorded := live ++ [(dcOrigin f, dcId f, p, s.now)] } }

/-- One REPLY leaves on the recorded port (R390). (DEDUCED, log 46) -/
def State.sendReply (p : Fin 4) (f : Frame) (s : State) : State :=
  let w := discWords (dcId f) 1 (dcOrigin f) Config.uid (f.hops + 1) s.fab.addr
  (s.sendOn p (s.ownFrame tDISCOVER f.src true false w 28)).countFrame

/-- The device takes an address and keeps it in FOLIO_CKPT (R383, R391). -/
def State.takeAddr (a : BitVec 16) (s : State) : State :=
  (({ s with
    fab := { s.fab with addr := a }
    vel := { s.vel with fabAddr := a } } : State).persist 7 1).raise 0x0D04 NOTICE 0 (a.toNat + 2 ^ 16 * s.fab.addr.toNat)

/-- An address that names a device (R383). -/
def addrOk (a : BitVec 16) : Bool := decide (1 ≤ a.toNat) && decide (a.toNat ≤ 0xFFF)

/-- DISCOVER_REQUEST. A device does not answer its own request. -/
def execDiscoverRequest (p : Fin 4) (f : Frame) (s : State) : Host.Outcome State Fault Refusal :=
  let (ok, t) : Bool × State := s.receive p f
  if !ok || !isDisc 0 f || f.dst ≠ aFLOOD then .next t
  else
    let (fresh, u) : Bool × State := t.spread p f
    if !fresh || dcOrigin f = Config.uid then .next u
    else
      let v := u.recordPort p f
      .next (if v.control then v.sendReply p f else v)

/-- An assignment in flight ends with a response (R391). -/
def State.endAssign (a : Assign) (status detail : Nat) (s : State) : State :=
  ({ s with fab := { s.fab with assigns := eraseFirst (fun x => x == a) s.fab.assigns } } : State).respondHeld a.mb
    { tag := a.tag, quiet := a.quiet, status := BitVec.ofNat 16 status, state := 0, detail := w32 detail, payload := [] }

/-- A REPLY at its origin: a result of the running discovery, and the end of the assignment it answers (R390, R391). (DEDUCED, log 46) -/
def State.takeReply (p : Fin 4) (f : Frame) (s : State) : State :=
  let s1 : State := if s.fab.discRun && dcId f = s.fab.discNow then
      { s with
        fab := { s.fab with
          found := s.fab.found + 1
          discLast := s.now
          results := if s.fab.results.length < 4096 then s.fab.results ++ [(dcUid f, dcAddr f, dcHops f, p.val)] else s.fab.results } }
    else s
  match s1.fab.assigns.find? (fun a => !a.ring && a.uid == dcUid f && a.id == dcId f) with
  | some a => s1.endAssign a 0 0
  | none => s1

/-- DISCOVER_REPLY. -/
def execDiscoverReply (p : Fin 4) (f : Frame) (s : State) : Host.Outcome State Fault Refusal :=
  let (ok, t) : Bool × State := s.receive p f
  if !ok || !isDisc 1 f then .next t
  else
    let u := t.conflict (dcAddr f) (dcUid f)
    if dcOrigin f = Config.uid then .next (if u.control then u.takeReply p f else u)
    else match u.fab.recorded.find? (fun e => e.1 == dcOrigin f && e.2.1 == dcId f && decide (u.now < e.2.2.2 + 10 * second)) with
      | some e => .next (if f.hops < f.hopLimit then u.sendOn e.2.2.1 (hop f) else u)
      | none => .next u

/-- ASSIGN_UID. -/
def execAssignUid (p : Fin 4) (f : Frame) (s : State) : Host.Outcome State Fault Refusal :=
  let (ok, t) : Bool × State := s.receive p f
  if !ok || !isDisc 2 f || f.dst ≠ aFLOOD then .next t
  else
    let (fresh, u) : Bool × State := t.spread p f
    if !fresh then .next u
    else
      let v := u.recordPort p f
      if dcUid f = Config.uid && v.control && addrOk (dcAddr f) then .next ((v.takeAddr (dcAddr f)).sendReply p f) else .next v

/-- ASSIGN_RING with the next address leaves on a port; one above 0x0FFF is dropped (R391). The DST of the frame is unstated
(log 14). -/
def State.sendRing (p : Fin 4) (id : BitVec 16) (origin : BitVec 64) (next : Nat) (s : State) : State :=
  if 0xFFF < next then s
  else
    let w := discWords id 3 origin 0 0 (BitVec.ofNat 16 next)
    (s.sendOn p (s.ownFrame tDISCOVER (BitVec.ofInt 16 (Config.unstated 95)) false false w 28)).countFrame

/-- ASSIGN_RING. -/
def execAssignRing (p : Fin 4) (f : Frame) (s : State) : Host.Outcome State Fault Refusal :=
  let (ok, t) : Bool × State := s.receive p f
  if !ok || !isDisc 3 f || 2 ≤ p.val || !t.control then .next t
  else if dcOrigin f = Config.uid then
    match t.fab.assigns.find? (fun a => a.ring && a.id == dcId f) with
    | some a => .next (t.endAssign a 0 0)
    | none => .next t
  else if !addrOk (dcAddr f) then .next t
  else .next ((t.takeAddr (dcAddr f)).sendRing (if p = 0 then 1 else 0) (dcId f) (dcOrigin f) ((dcAddr f).toNat + 1))

/-- The results of a discovery from FIRST on (R372). -/
def State.discPayload (s : State) (first : Nat) : Block :=
  w32 (b2n s.fab.discDone * 2 ^ 16 + min s.fab.found 0xFFFF)
    :: ((s.fab.results.drop first).take 14).flatMap fun e =>
      words64 e.1.toNat ++ [w32 (e.2.1.toNat * 2 ^ 16 + e.2.2.1 * 2 ^ 8 + e.2.2.2), 0]

/-- FAB_DISCOVER's own part. -/
def State.fabDiscover (m : MbCmd) (s : State) : Verdict :=
  let p := m.params
  if !bitAt p 0 8 && s.fab.discRun then .refuse RC_STATE 1 []
  else reserved m [(0, 0xFFFFFEF0)] <|
    if bitAt p 0 8 then .done s 0 (s.discPayload (natAt p 4))
    else
      let id := s.fab.discId + 1
      let t : State := { s with
        fab := { s.fab with
          discId := id
          discRun := true
          discStart := s.now
          discLast := s.now
          discNow := id
          discDone := false
          found := 0
          results := [] } }
      let f := t.ownFrame tDISCOVER aFLOOD false false (discWords id 0 Config.uid 0 0 t.fab.addr) 28
      let ports := (t.floodPorts none).filter fun q => (fieldAt p 0 3 0).testBit q.val
      .accepted ((t.markFlood f).countFrame.sendAll ports f) 0 (t.discPayload 0)

/-- FAB_DISCOVER. -/
def execFabDiscover (m : MbCmd) (s : State) : Host.Outcome State Fault Refusal :=
  .next (({ opcode := 0x0A01, lenOk := lenIs 24, minLen := 24, auth := fun _ => 2 } : Hdr).run (fun m t => t.fabDiscover m) m s)

/-- 500 ms have passed without a new REPLY, or 5 s since the start (R390). -/
def State.discOver (s : State) : Bool :=
  decide (s.fab.discLast + 500 * millisecond ≤ s.now) || decide (s.fab.discStart + 5 * second ≤ s.now)

/-- DISCOVERY_DONE. -/
def execDiscoveryDone (s : State) : Host.Outcome State Fault Refusal :=
  if !s.fab.discRun || !s.discOver then .next s
  else .next { s with
    fab := { s.fab with
      discRun := false
      discDone := true } }

/-- An assignment goes into flight: its frame leaves on the ports given, and its mailbox is held. (DEDUCED, log 46) -/
def State.startAssign (m : MbCmd) (ring : Bool) (uid : BitVec 64) (s : State) : BitVec 16 × State :=
  let id := s.fab.discId + 1
  (id, { s with
    fab := { s.fab with
      discId := id
      assigns := s.fab.assigns ++ [{ mb := m.mb, tag := m.tag, quiet := m.flags.getLsbD 0, ring := ring, uid := uid, id := id,
                                      since := s.now }] } })

/-- FAB_ADDR_SET's own part. -/
def State.fabAddrSet (m : MbCmd) (s : State) : Verdict :=
  let p := m.params
  let addr := BitVec.ofNat 16 (fieldAt p 0 31 16)
  let mode := fieldAt p 0 1 0
  let uid := BitVec.ofNat 64 (natAt64 p 4)
  let port := fieldAt p 0xC 3 0
  reserved m [(0, 0x0000FFFC)] <|
    if 2 ≤ mode then .refuse RC_BAD_FIELD 0 []
    else if !addrOk addr then .refuse RC_CFG_RANGE 0 []
    else if mode = 1 && 2 ≤ port then .refuse RC_CFG_RANGE 0xC []
    else if mode = 0 && uid = Config.uid then .done (s.takeAddr addr) 0 []
    else if mode = 0 then
      let (id, t) : BitVec 16 × State := s.startAssign m false uid
      let f := t.ownFrame tDISCOVER aFLOOD false false (discWords id 2 Config.uid uid 0 addr) 28
      .hold (((t.markFlood f).countFrame).sendAll (t.floodPorts none) f)
    else
      let (id, t) : BitVec 16 × State := (s.takeAddr addr).startAssign m true 0
      .hold (t.sendRing (Fin.ofNat 4 port) id Config.uid (addr.toNat + 1))

/-- FAB_ADDR_SET. -/
def execFabAddrSet (m : MbCmd) (s : State) : Host.Outcome State Fault Refusal :=
  .next (({ opcode := 0x0A02, lenOk := lenIs 32, minLen := 32, auth := fun _ => 2 } : Hdr).run (fun m t => t.fabAddrSet m) m s)

/-- FAB_ASSIGN_TIMEOUT: the oldest assignment has waited 1 s. (DEDUCED, log 46) -/
def execFabAssignTimeout (s : State) : Host.Outcome State Fault Refusal :=
  match s.fab.assigns with
  | [] => .next s
  | a :: _ => .next (if a.since + second ≤ s.now then s.endAssign a RC_TIMEOUT 1000 else s)

/-! ### Routes and status (R372) -/

/-- LENGTH of FAB_ROUTE_LOAD. -/
def routeLenOk (m : MbCmd) : Bool :=
  let n := fieldAt m.params 0 23 16
  decide (1 ≤ n) && decide (n ≤ 28) && m.length.toNat == 20 + 8 * n

/-- Entry `i` becomes what words `a` and `b` give. -/
def putRoute (i : Nat) (a b : Word) (l : List (Nat × Route)) : List (Nat × Route) :=
  let rest := l.filter fun e => e.1 != i
  if bit b 8 then rest ++ [(i, { dest := BitVec.ofNat 16 a.toNat, prim := bits b 3 0, alt := bits b 7 4 })] else rest

/-- FAB_ROUTE_LOAD's own part: the table is kept in FOLIO_CKPT (R383). -/
def State.routeLoad (m : MbCmd) (s : State) : Verdict :=
  let p := m.params
  let n := fieldAt p 0 23 16
  let first := fieldAt p 0 15 0
  reserved m [(0, 0xFF000000)] <|
    if 4096 < first + n then .refuse RC_CFG_RANGE 0 []
    else
      let l := (List.range n).foldl (fun l e => putRoute (first + e) (wordAt p (4 + 8 * e)) (wordAt p (8 + 8 * e)) l) s.fab.routes
      .done (({ s with
        fab := { s.fab with
          routes := l
          loaded := true }
        vel := { s.vel with fabRoutes := l } } : State).persist 7 n) 0 []

/-- FAB_ROUTE_LOAD. -/
def execFabRouteLoad (m : MbCmd) (s : State) : Host.Outcome State Fault Refusal :=
  .next (({ opcode := 0x0A03, lenOk := routeLenOk, minLen := 28, auth := fun _ => 2 } : Hdr).run (fun m t => t.routeLoad m) m s)

/-- A mask with a bit per port. -/
def portMask (f : Fin 4 → Bool) : Nat := ((List.finRange 4).map fun p => if f p then 2 ^ p.val else 0).foldl (· + ·) 0

/-- The payload of FAB_STATUS. -/
def State.fabWords (s : State) : Block :=
  [w32 (portMask s.fecOn * 2 ^ 20 + portMask (fun p => (s.port p).up) * 2 ^ 16 + s.fab.addr.toNat)] ++ words64 Config.uid.toNat
    ++ (List.finRange 4).flatMap (fun p =>
      let q := s.port p
      [w32 q.rx, w32 q.tx, w32 q.crcErr, w32 (q.switchovers % 65536)])
    ++ [w32 s.fab.suppressed, w32 s.fab.routes.length]

/-- FAB_STATUS. -/
def execFabStatus (m : MbCmd) (s : State) : Host.Outcome State Fault Refusal :=
  .next (({ opcode := 0x0A04, lenOk := lenIs 16, minLen := 16, auth := fun _ => 0 } : Hdr).run (fun _ t => .done t 0 t.fabWords) m s)

/-! ### WINDOW frames (R385, R392, R393) -/

/-- A unicast frame of a type for this device (R384). -/
def State.forMe (s : State) (typ : Nat) (f : Frame) : Bool := f.typ == typ && f.dst == s.fab.addr && f.dst != 0 && !f.resp

/-- Fields of a WINDOW request. -/
def wiCount (f : Frame) : Nat := fieldAt f.payload 0 15 8
def wiBar4 (f : Frame) : Bool := bitAt f.payload 0 2
def wiOp (f : Frame) : Nat := fieldAt f.payload 0 1 0
def wiOff (f : Frame) : Nat := natAt f.payload 4

/-- A READ or WRITE is well formed. -/
def wiOk (f : Frame) (len : Nat) : Bool :=
  decide (1 ≤ wiCount f) && decide (wiCount f ≤ 64) && wiOff f % 4 == 0 && f.len == len && wordAt f.payload 0 &&& 0xFFFF00F8#32 == 0

/-- An offset lies in the reach of R355. -/
def wiReach (bar4 : Bool) (off : Nat) : Bool := if bar4 then decide (off < 0x10000) else decide (off < 0x1000)

/-- The response of a WINDOW request. (DEDUCED, log 47) -/
def State.windowReply (p : Fin 4) (f : Frame) (fail status : Nat) (data : Block) (s : State) : State :=
  let w := [wordAt f.payload 0, f.fseq, w32 (fail * 2 ^ 16 + status)] ++ data
  s.sendUnicast (s.ownFrame tWINDOW f.src true (status != 0) w (4 * w.length)) (some p)

/-- Words read in ascending order, until the reach ends: the words, the number not read, the state. -/
def State.windowWords (src : BitVec 16) (bar4 : Bool) : Nat → Nat → Block → State → Block × Bool × State
  | 0, _, acc, s => (acc, true, s)
  | n + 1, off, acc, s =>
    if !wiReach bar4 off then (acc, false, s)
    else
      let t := if !bar4 && off = 0x30 then s.latchTime (.fabric src) else s
      let w := if bar4 then s.bar4Read off else s.bar0Read (.fabric src) off
      State.windowWords src bar4 n (off + 4) (acc ++ [w]) t

/-- WINDOW_READ; an OP that is none of the three is malformed. -/
def execWindowRead (p : Fin 4) (f : Frame) (s : State) : Host.Outcome State Fault Refusal :=
  let (ok, t) : Bool × State := s.receive p f
  if !ok || !t.forMe tWINDOW f || (wiOp f ≠ 0 && wiOp f ≠ 3) then .next t
  else if wiOp f = 3 || !wiOk f 8 then .next (t.windowReply p f 0 3 [])
  else
    let (data, all, u) : Block × Bool × State := t.windowWords f.src (wiBar4 f) (wiCount f) (wiOff f) []
    .next (if all then u.windowReply p f 0 0 data else u.windowReply p f data.length 1 data)

/-- Words written in ascending order until one is refused: FAIL_WORD, STATUS and the state (R340, R355). (DEDUCED, log 47) -/
def State.windowPut (src : BitVec 16) (bar4 : Bool) : Nat → Nat → Block → State → Nat × Nat × State
  | _, _, [], s => (0, 0, s)
  | i, off, w :: ws, s =>
    if !wiReach bar4 off then (i, 1, s.accessErr)
    else if !s.host.winWrites src then (i, 2, s.accessErr)
    else if !bar4 && off = 0x14 then (i, 2, s.accessErr)
    else State.windowPut src bar4 (i + 1) (off + 4) ws (if bar4 then s.bar4Write (.fabric src) off w else s.bar0Write (.fabric src) off w)

/-- WINDOW_WRITE. -/
def execWindowWrite (p : Fin 4) (f : Frame) (s : State) : Host.Outcome State Fault Refusal :=
  let (ok, t) : Bool × State := s.receive p f
  if !ok || !t.forMe tWINDOW f || wiOp f ≠ 1 then .next t
  else if !wiOk f (8 + 4 * wiCount f) then .next (t.windowReply p f 0 3 [])
  else
    let (fail, status, u) : Nat × Nat × State := t.windowPut f.src (wiBar4 f) 0 (wiOff f) ((f.payload.drop 2).take (wiCount f))
    .next (u.windowReply p f fail status [])

/-- WINDOW_RESET (R393): a wrong key drops the frame; a right one is acknowledged, and the reset follows. (DEDUCED, log 47) -/
def execWindowReset (p : Fin 4) (f : Frame) (s : State) : Host.Outcome State Fault Refusal :=
  let (ok, t) : Bool × State := s.receive p f
  if !ok || !t.forMe tWINDOW f || wiOp f ≠ 2 then .next t
  else if BitVec.ofNat 128 (natAt64 f.payload 8 + 2 ^ 64 * natAt64 f.payload 0x10) ≠ Config.deviceKey || f.len ≠ 24 then
    .next (t.raise 0x0D06 ALARM 0 f.src.toNat)
  else match wiOff f % 4 with
    | 1 => .next ((t.windowReply p f 0 0 []).assert .fabricF)
    | 2 => .next ((t.windowReply p f 0 0 []).assert .fabricC)
    | _ => .next (t.windowReply p f 0 3 [])

/-! ### MAILBOX frames (R394) -/

/-- Mailbox and KIND of a MAILBOX frame. -/
def mfBox (f : Frame) : Fin 8 := Fin.ofNat 8 (fieldAt f.payload 0 2 0)
def mfKind (f : Frame) : Nat := fieldAt f.payload 0 9 8

/-- The loader takes frames for MB0 from the first source that sends one: its MBk_CFG names that source (R464). (DEDUCED, log 47) -/
def State.loaderTakes (k : Fin 8) (src : BitVec 16) (s : State) : State :=
  match s.folio.loader with
  | some (_, true) =>
    if k = 0 && s.folio.loaderSrc.isNone && (s.mbox 0).cmdHead == (s.mbox 0).cmdTail && (s.mbox 0).rspHead == (s.mbox 0).rspTail then
      ({ s with folio := { s.folio with loaderSrc := some src } } : State).updMb 0 fun b => { b with
        cfg := w32 (src.toNat * 2 ^ 16 + 1) }
    else s
  | _ => s

/-- The ACK of a COMMAND. -/
def State.ackCommand (k : Fin 8) (f : Frame) (status : Nat) (s : State) : State :=
  s.sendUnicast (s.ownFrame tMAILBOX f.src true false (mailboxHead k 2 f.fseq status) 16) (s.mbox k).lastPort

/-- A COMMAND from the mailbox's source (R394). (DEDUCED, log 47) -/
def State.fabricCommand (p : Fin 4) (k : Fin 8) (f : Frame) (s : State) : State :=
  let b := s.mbox k
  if b.lastFseq = some (f.src, f.fseq) then s.ackCommand k f 2
  else if 32 ≤ diff16 b.cmdTail b.cmdHead then s.ackCommand k f 1
  else
    let t : State := { s with rings := memWriteBytes (cmdSlot k b.cmdTail) (blockBytes (blockFit 64 (f.payload.drop 4))) s.rings }
    let u := t.updMb k fun b => { b with
      lastFseq := some (f.src, f.fseq)
      lastPort := some p }
    (u.ringDoorbell k (w32 (b.cmdTail.toNat + 1))).ackCommand k f 0

/-- MAILBOX_COMMAND: with MB_READY = 0 its doorbell is ignored and counted (R356). -/
def execMailboxCommand (p : Fin 4) (f : Frame) (s : State) : Host.Outcome State Fault Refusal :=
  let (ok, t) : Bool × State := s.receive p f
  if !ok || !t.forMe tMAILBOX f || mfKind f ≠ 0 || f.len ≠ 272 then .next t
  else if !t.folio.mbReady then .next t.accessErr
  else
    let k := mfBox f
    let u := t.loaderTakes k f.src
    if bit (u.mbox k).cfg 0 && bits (u.mbox k).cfg 31 16 = f.src.toNat then .next (u.fabricCommand p k f)
    else .next (u.raise 0x0C0A NOTICE k.val f.src.toNat)

/-- RSP_HEAD advances over the oldest responses that are acknowledged or given up (R394). -/
def advanceHead : List Unacked → BitVec 16 → List Unacked × BitVec 16
  | [], h => ([], h)
  | e :: l, h => if e.ended then advanceHead l (h + 1) else (e :: l, h)

def Mailbox.advance (b : Mailbox) : Mailbox :=
  let r := advanceHead b.unacked b.rspHead
  { b with
    unacked := r.1
    rspHead := r.2 }

/-- MAILBOX_ACK. -/
def execMailboxAck (p : Fin 4) (f : Frame) (s : State) : Host.Outcome State Fault Refusal :=
  let (ok, t) : Bool × State := s.receive p f
  if !ok || f.typ ≠ tMAILBOX || f.dst ≠ s.fab.addr || f.dst = 0 || mfKind f ≠ 2 || f.len ≠ 16 then .next t
  else
    let k := mfBox f
    let b := t.mbox k
    if !bit b.cfg 0 || bits b.cfg 31 16 ≠ f.src.toNat then .next (t.raise 0x0C0A NOTICE k.val f.src.toNat)
    else .next (t.updMb k fun b =>
      ({ b with unacked := b.unacked.map fun e => if e.fseq = wordAt f.payload 4 then { e with ended := true } else e } :
        Mailbox).advance)

/-- The oldest response that no ACK has named, 20 ms after it was sent last (R394). -/
def Mailbox.firstUnacked (b : Mailbox) (now : Nat) : Option Unacked :=
  b.unacked.find? fun e => !e.ended && decide (e.at_ + 20 * millisecond ≤ now)

/-- A response sent becomes `x`. -/
def Mailbox.setUnacked (x : Unacked) (b : Mailbox) : Mailbox :=
  { b with unacked := b.unacked.map fun e => if e.slot = x.slot then x else e }

/-- MAILBOX_RESPONSE_RESEND: 20 ms without an ACK; after the fifth send the response is given up. (DEDUCED, log 47) -/
def execMailboxResponseResend (k : Fin 8) (s : State) : Host.Outcome State Fault Refusal :=
  let b := s.mbox k
  match b.firstUnacked s.now with
  | none => .next s
  | some e =>
    if 5 ≤ e.sends then
      let lost := satAdd b.lost 1
      .next ((s.updMb k fun b => (({ b with lost := lost } : Mailbox).setUnacked { e with ended := true }).advance).raise 0x0C06 NOTICE
        k.val lost)
    else
      let w := mailboxHead k 1 0 0 ++ memReadWords (rspSlot k e.slot) 64 s.rings
      let f := ({ s.ownFrame tMAILBOX (BitVec.ofNat 16 (bits b.cfg 31 16)) true false w 272 with fseq := e.fseq } : Frame).seal
      let t := s.updMb k fun b => b.setUnacked { e with
        sends := e.sends + 1
        at_ := s.now }
      match (t.routePort f.dst none), b.lastPort with
      | some q, _ => .next (t.sendOn q f)
      | none, some q => .next (t.sendOn q f)
      | none, none => .next (t.unreachable f.dst f.typ)

/-! ### SYNC and NOTICE (R396, R398) -/

/-- A SYNC entry joins the table: it replaces the entry of its ID, or, in a full table, the one with the earliest T_EFF. -/
def putSync (id : BitVec 16) (era t : Nat) (l : List (BitVec 16 × Nat × Nat)) : List (BitVec 16 × Nat × Nat) :=
  let rest := l.filter fun e => e.1 != id
  if rest.length < 64 then rest ++ [(id, era, t)]
  else
    let first := (rest.map fun e => e.2.2).foldl min (rest.headD (0, 0, 0)).2.2
    eraseFirst (fun e => e.2.2 == first) rest ++ [(id, era, t)]

/-- A SYNC frame is taken. -/
def State.takeSync (f : Frame) (s : State) : State :=
  let id := BitVec.ofNat 16 (fieldAt f.payload 0 15 0)
  let t := natAt64 f.payload 4
  ({ s with fab := { s.fab with sync := putSync id (fieldAt f.payload 0 23 16) t s.fab.sync } } : State).raise 0x0D0B INFO 0
    (id.toNat + 2 ^ 32 * (t % 2 ^ 32))

/-- SYNC_FRAME: unicast, or to a group with a valid entry, or to 0xFFFF. -/
def execSyncFrame (p : Fin 4) (f : Frame) (s : State) : Host.Outcome State Fault Refusal :=
  let (ok, t) : Bool × State := s.receive p f
  if !ok || f.typ ≠ tSYNC || f.len ≠ 12 then .next t
  else if isGroup f.dst then
    let (fresh, u) : Bool × State := t.spread p f
    let here := f.dst = aFLOOD || (f.dst ≠ aNOTICE && (u.fab.route f.dst).isSome)
    .next (if fresh && here then u.takeSync f else u)
  else if f.dst = s.fab.addr && f.dst ≠ 0 then .next (t.takeSync f)
  else .next (t.forward p f)

/-- SYNC_ENTRY_EXPIRY: 60 s after the entry's T_EFF, by TIME; ERA is not compared, as in R147. (DEDUCED, log 46) -/
def execSyncEntryExpiry (id : BitVec 16) (s : State) : Host.Outcome State Fault Refusal :=
  .next { s with fab := { s.fab with sync := s.fab.sync.filter fun e => e.1 != id || decide (s.tb.time < e.2.2 + 60000000000) } }

/-- NOTICE_RECEIVE. -/
def execNoticeReceive (p : Fin 4) (f : Frame) (s : State) : Host.Outcome State Fault Refusal :=
  let (ok, t) : Bool × State := s.receive p f
  .next (if !ok || f.typ ≠ tNOTICE || f.dst ≠ aNOTICE then t else t.takeNotice p f)

end Sys2Proof.Machine
end

