-- ==== Sys2Proof/Machine/Host.lean ====
section
/-! DEFINITION. The rows of the host interface (12): register writes, the mailbox rings, the HLIM window, locks. -/

namespace Sys2Proof.Machine

/-- MB_DOORBELL (R345). -/
def execMbDoorbell (p : Path) (k : Fin 8) (v : Word) (s : State) : Host.Outcome State Fault Refusal :=
  .next (s.write p (State.doorbell k v))

/-- MB_COMMAND_TAKE (R346). -/
def execMbCommandTake (k : Fin 8) (s : State) : Host.Outcome State Fault Refusal := .next (s.takeCommand k)

/-- MB_RESPONSE_WRITE (R346); a restart or a STANDBY entry that waits for this response follows (R366, R374). -/
def execMbResponseWrite (k : Fin 8) (s : State) : Host.Outcome State Fault Refusal :=
  .next (if s.serves k then (s.writeResponse k).settleRestart else s)

/-- MB_RSP_HEAD_WRITE (R346). -/
def execMbRspHeadWrite (p : Path) (k : Fin 8) (v : Word) (s : State) : Host.Outcome State Fault Refusal :=
  .next (s.write p (State.rspHeadWrite k v))

/-- MB_CFG_WRITE (R342). -/
def execMbCfgWrite (p : Path) (k : Fin 8) (v : Word) (s : State) : Host.Outcome State Fault Refusal :=
  .next (s.write p (State.mbCfgWrite k v))

/-- MB_STAT_CLEAR (R342). -/
def execMbStatClear (p : Path) (k : Fin 8) (v : Word) (s : State) : Host.Outcome State Fault Refusal :=
  .next (s.write p (State.mbStatWrite k v))

/-- RESET_CAUSE_CLEAR (R339). -/
def execResetCauseClear (p : Path) (v : Word) (s : State) : Host.Outcome State Fault Refusal :=
  .next (s.write p (State.resetCauseWrite v))

/-- RESET_CTL_F (R340). -/
def execResetCtlF (p : Path) (v : Word) (s : State) : Host.Outcome State Fault Refusal :=
  .next (s.write p (State.resetCtlWrite p v))

/-- RESET_CTL_C (R340). -/
def execResetCtlC (p : Path) (v : Word) (s : State) : Host.Outcome State Fault Refusal :=
  .next (s.write p (State.resetCtlWrite p v))

/-- RESET_CTL_B (R340). -/
def execResetCtlB (p : Path) (v : Word) (s : State) : Host.Outcome State Fault Refusal :=
  .next (s.write p (State.resetCtlWrite p v))

/-- IRQ_STAT_CLEAR (R341). -/
def execIrqStatClear (p : Path) (v : Word) (s : State) : Host.Outcome State Fault Refusal :=
  .next (s.write p (State.irqStatWrite v))

/-- IRQ_EN_WRITE (R341). -/
def execIrqEnWrite (p : Path) (v : Word) (s : State) : Host.Outcome State Fault Refusal :=
  .next (s.write p (State.irqEnWrite v))

/-- TIME_LO_READ (R404): reads are accepted from any address (R355); an endpoint in reset or in D3hot answers none. (PRESUMED, log 15) -/
def execTimeLoRead (p : Path) (s : State) : Host.Outcome State Fault Refusal :=
  .next (if p = .pcie && (s.host.pcieReset || s.host.d3hot) then s else s.latchTime p)

/-- SO_REQ_WRITE (R337). -/
def execSoReqWrite (p : SoWriter) (v : Word) (s : State) : Host.Outcome State Fault Refusal :=
  .next (s.soWrite p (State.soReqAll v))

/-- SO_REQ_SET (R337). -/
def execSoReqSet (p : SoWriter) (v : Word) (s : State) : Host.Outcome State Fault Refusal :=
  .next (s.soWrite p (State.soReqOr v))

/-- SO_REQ_CLR (R337). -/
def execSoReqClr (p : SoWriter) (v : Word) (s : State) : Host.Outcome State Fault Refusal :=
  .next (s.soWrite p (State.soReqAnd v))

/-- BLOT_CURSOR_WRITE (R438). -/
def execBlotCursorWrite (p : Path) (v : Word) (s : State) : Host.Outcome State Fault Refusal :=
  .next (s.write p (State.blotCursor p v))

/-- REC_ACK_WRITE (R265). -/
def execRecAckWrite (p : Path) (st : Fin 4) (v : Word) (s : State) : Host.Outcome State Fault Refusal :=
  .next (s.write p (State.recAck st v))

/-- RING_TAIL_WRITE (R349), with the descriptors that the host has put into its ring in host memory. -/
def execRingTailWrite (p : Path) (st : Fin 4) (v : TailWrite) (s : State) : Host.Outcome State Fault Refusal :=
  .next ((s.giveDescs st v.descs).write p (State.ringTail st v.tail))

/-- HLIM_UNLOCK (R352). -/
def execHlimUnlock (p : Path) (v : Word) (s : State) : Host.Outcome State Fault Refusal :=
  .next (s.write p (State.hlimUnlockWrite p v))

/-- HLIM_PASSWORD_CHECKED (R352). -/
def execHlimPasswordChecked (s : State) : Host.Outcome State Fault Refusal := .next s.hlimChecked

/-- HLIM_LOCK (R352): HLIM_UNLOCK written with LOCK = 1. -/
def execHlimLock (p : Path) (v : Word) (s : State) : Host.Outcome State Fault Refusal :=
  .next (s.write p (State.hlimUnlockWrite p v))

/-- HLIM_SETPW (R350): HLIM_UNLOCK written with SETPW = 1. -/
def execHlimSetpw (p : Path) (v : Word) (s : State) : Host.Outcome State Fault Refusal :=
  .next (s.write p (State.hlimUnlockWrite p v))

/-- HLIM_STAGE_WRITE (R352). -/
def execHlimStageWrite (p : Path) (i : Fin 16) (v : Word) (s : State) : Host.Outcome State Fault Refusal :=
  .next (s.write p (State.hlimStage p i.val v))

/-- HLIM_COMMIT (R353). -/
def execHlimCommit (p : Path) (v : Word) (s : State) : Host.Outcome State Fault Refusal :=
  .next (s.write p (State.hlimCommit p v))

/-- HLIM_UNLOCK_EXPIRY (R352). -/
def execHlimUnlockExpiry (s : State) : Host.Outcome State Fault Refusal :=
  .next (if s.ranOut .hlimUnlock then s.updHlim fun h => { h with unlock := none } else s)

/-- HLIM_LOCKOUT_END (R352). -/
def execHlimLockoutEnd (s : State) : Host.Outcome State Fault Refusal :=
  if s.host.hlim.lockUntil.isNone || !due s.host.hlim.lockUntil 0 s.now then .next s
  else .next (s.updHlim fun h => { h with
    lockUntil := none
    fails := 0 })

/-- SESSION_LOCK_END (R348). -/
def execSessionLockEnd (level : Authority) (s : State) : Host.Outcome State Fault Refusal :=
  match level with
  | .engineer =>
    if s.host.lockEng.isNone || !due s.host.lockEng 0 s.now then .next s else .next { s with host := { s.host with lockEng := none, failEng := 0 } }
  | .safety =>
    if s.host.lockSaf.isNone || !due s.host.lockSaf 0 s.now then .next s else .next { s with host := { s.host with lockSaf := none, failSaf := 0 } }
  | _ => .next s

/-- REGISTER_WRITE (R336): a write of any size to a BAR. BAR2 lies outside the reach of WINDOW frames, as do the offsets of BAR0
from 0x1000 on (R355). -/
def execRegisterWrite (p : Path) (bar : Bar) (offset : Nat) (data : List Byte) (s : State) : Host.Outcome State Fault Refusal :=
  .next (s.write p fun t =>
    match bar with
    | .bar2 => if p = .pcie then t.bar2Write offset data else t.accessErr
    | .bar0 =>
      if data.length ≠ 4 || offset % 4 ≠ 0 || (p ≠ .pcie && 0x1000 ≤ offset) then t.accessErr
      else t.bar0Write p offset (bytesWord data)
    | .bar4 =>
      if data.length ≠ 4 || offset % 4 ≠ 0 then t.accessErr else t.bar4Write p offset (bytesWord data))

end Sys2Proof.Machine
end

