-- ==== Sys2Proof/Machine/Measure.lean ====
section
/-! DEFINITION. Conversions, averages, limit comparison, calibration, self-test and auxiliary inputs (03), and the PERIODIC
record at the end of an interval (09 R249). -/

namespace Sys2Proof.Machine

/-! ### From code to calibrated value (R70, R71, R74, R513) -/

/-- u = 256 x code − 256 x d in 1/256 LSB, the dither in 1/16 LSB (R71). -/
def uncoded (code dither : Int) : Int := 256 * code - 16 * dither

/-- x = GAIN x (u − OFFSET), to nearest, ties away from zero; GAIN 1.0 and OFFSET 0 without a record (R74, R75). -/
def calibrate (rec_ : Option Block) (u : Int) : Int :=
  match rec_ with
  | some b => divNear (calGain b * (u - calOffset b)) (2 ^ 30)
  | none => u

/-- A voltage in 10 µV (R74). -/
def toVolt (x : Int) : Int := divNear (x * 125) 256

/-- A current in µA for G x SHUNT, saturated (R74, R513). -/
def toCurrent (scale : Nat) (x : Int) : Int :=
  clampInt (-2147483647) 2147483647 (divNear (x * 625000000) (256 * scale))

/-- The current range switched in: that of a current CAL_POINT while it averages, else the configured one (R84). -/
def Channel.range (c : Channel) : Nat :=
  match c.calRun with
  | some r => if r.current then r.range else cfGain c.cfg
  | none => cfGain c.cfg

/-- The set of records that the next conversion uses: a new set from the start of a loop window, or at once while the converters
run free (R75). -/
def Channel.calUsed (c : Channel) : List Block :=
  if c.state.active && !c.meas.burst.isEmpty then c.meas.cal else c.meas.calRead

/-- The calibrated voltage and current of a pair (none while no current is formed). With a gain code of 6 or 7 the range is
undefined: a free value. -/
def State.calibrated (s : State) (n : Fin 256) (cv ci : Int) (k : Conversion) : Int × Option Int :=
  let c := s.ch n
  let g := c.range
  let v := toVolt (calibrate (c.recordIn c.calUsed false 0) (uncoded cv k.ditherV))
  let i := if !cfShuntOk c.cfg then none
    else if 5 < g then some (Config.unstated 41)
    else some (toCurrent (2 ^ g * cfShunt c.cfg) (calibrate (c.recordIn c.calUsed true g) (uncoded ci k.ditherI)))
  (v, i)

/-! ### Averages (R76, R77) -/

/-- Widen a least-and-greatest pair. -/
def widen (r : Option (Int × Int)) (x : Int) : Option (Int × Int) :=
  match r with
  | some (lo, hi) => some (min lo x, max hi x)
  | none => some (x, x)

/-- Conversions enter the record means, each quantity that is not the self-test's; outside RUNNING and TUNE also the
record's least and greatest. -/
def Meas.count (free : Bool) (v : Option Int) (i : Option Int) (m : Meas) : Meas :=
  let m1 := match v with
    | some x => { m with
      recN := m.recN + 1
      recSumV := m.recSumV + x
      recRangeV := if free then widen m.recRangeV x else m.recRangeV }
    | none => m
  match i with
  | some x => { m1 with
    recNI := m1.recNI + 1
    recSumI := m1.recSumI + x
    recRangeI := if free then widen m1.recRangeI x else m1.recRangeI }
  | none => m1

/-- A burst takes its next pair; the last one makes the loop sample (R72, R76), which is told. -/
def Meas.pair (n : Nat) (time era tick : Nat) (p : Int × Int) (m : Meas) : Meas × Option LoopSample :=
  let b := m.burst ++ [p]
  if b.length < n then ({ m with burst := b }, none)
  else
    let v := mean (b.foldl (fun a x => a + x.1) 0) b.length
    let i := mean (b.foldl (fun a x => a + x.2) 0) b.length
    ({ m with
      burst := []
      prevBurst := b
      recRangeV := widen m.recRangeV v
      recRangeI := widen m.recRangeI i
      pwrSum := m.pwrSum + (v * i).natAbs
      pwrN := m.pwrN + 1 }, some { v := v, i := i, time := time, era := era, tick := tick })

/-- A loop sample takes its place in the order of service: after those accepted before it, samples of the same instant by ascending
channel (R111). (DEDUCED, log 32) -/
def joinSamples (x : Fin 256 × LoopSample) : List (Fin 256 × LoopSample) → List (Fin 256 × LoopSample)
  | [] => [x]
  | y :: l => if y.2.tick = x.2.tick && decide (x.1 < y.1) then x :: y :: l else y :: joinSamples x l

/-- A loop sample is accepted by the group's Nib, and its update is in flight (R48, R111); in a takeover gap no Nib accepts it (R211).
(DEDUCED, log 40) -/
def State.acceptSample (n : Fin 256) (x : Option LoopSample) (s : State) : State :=
  match x with
  | none => s
  | some x => if (s.servingNib (groupOf n).val).isNone then s else (s.updGrp (groupOf n) fun g => { g with accepted := joinSamples (n, x) g.accepted }).updCh n fun c => { c with
      drive := { c.drive with flights := c.drive.flights ++ [(x.tick, false)] } }

/-- A CAL_POINT takes a conversion u of its quantity, or leaves the self-test's out; 1,000 pairs make a 1 ms sub-mean. -/
def CalRun.take (u : Option Int) (over_ : Bool) (r : CalRun) : CalRun :=
  let r1 := match u with
    | some x => { r with
      sum := r.sum + x
      count := r.count + 1
      subSum := r.subSum + x
      subC := r.subC + 1
      overRange := r.overRange || over_ }
    | none => r
  if r1.subN + 1 < 1000 then { r1 with subN := r1.subN + 1 }
  else
    let sub := mean r1.subSum r1.subC
    { r1 with
      subN := 0
      subC := 0
      subSum := 0
      subMin := some (min (r1.subMin.getD sub) sub)
      subMax := some (max (r1.subMax.getD sub) sub) }

/-- One pair of conversions of a channel (R69 to R78). (DEDUCED, log 35) -/
def State.convert (n : Fin 256) (k : Conversion) (s : State) : State :=
  let c := s.ch n
  let cv := clampInt (-128) 4224 k.codeV
  let ci := clampInt (-2176) 2176 k.codeI
  let ov := decide (cv < 0) || decide (4096 < cv)
  let oi := decide (ci < -2048) || decide (2048 < ci)
  let (v, i) := s.calibrated n cv ci k
  let vx := if c.meas.skipV then none else some v
  let ix := if c.meas.skipI then none else i
  let m0 := { c.meas with
    skipV := false
    skipI := false
    cal := c.calUsed
    calNext := if c.state.active && !c.meas.burst.isEmpty then c.meas.calNext else none
    vLast := if c.meas.skipV then c.meas.vLast else v
    iLast := if c.meas.skipI then c.meas.iLast else i
    ovrV := if c.meas.skipV then c.meas.ovrV else ov
    ovrI := if c.meas.skipI then c.meas.ovrI else oi
    recOvrV := c.meas.recOvrV || (ov && !c.meas.skipV)
    recOvrI := c.meas.recOvrI || (oi && !c.meas.skipI) }
  let m1 := m0.count (!c.state.active) vx ix
  let old := c.meas.prevBurst.getD c.meas.burst.length (Config.unstated 42, Config.unstated 43)
  let (m2, sample) := if c.state.active then m1.pair (cfAvgN c.cfg) s.tb.time s.tb.era k.tick (vx.getD old.1, ix.getD old.2)
    else (m1, none)
  let run := c.calRun.map fun r =>
    if r.current then r.take (if c.meas.skipI then none else some (uncoded ci k.ditherI)) oi
    else r.take (if c.meas.skipV then none else some (uncoded cv k.ditherV)) ov
  let s1 := (s.updCh n fun c => { c with
    meas := m2
    calRun := run }).acceptSample n sample
  let s2 := if ov && !c.meas.skipV then s1.raise 0x0307 NOTICE n.val (2 ^ 16 * p16 cv) else s1
  let s3 := if oi && !c.meas.skipI then s2.raise 0x0307 NOTICE n.val (1 + 2 ^ 16 * p16 ci) else s2
  if c.state = .off then s3
  else match s.hlimOf n with
    | some h => let m := limitCauses h vx ix
                if m = 0 then s3 else s3.trip n m
    | none => s3

/-- CHANNEL_CONVERSION: readings of an ABSENT channel are neither compared nor recorded (R98). -/
def execChannelConversion (n : Fin 256) (k : Conversion) (s : State) : Host.Outcome State Fault Refusal :=
  if (s.ch n).state = .absent then .next s else .next (s.convert n k)

/-! ### Group power and record intervals -/

/-- GROUP_POWER_WINDOW: channel and group powers of the window that ends, compared with P_GRP_MAX (R56, R76); the 1 ms power of a channel
without a loop sample in the window is 0. (DESIGN CHOICE, log 56) -/
def execGroupPowerWindow (g : Fin 16) (s : State) : Host.Outcome State Fault Refusal :=
  let s1 := forAll (fun n t => t.updCh n fun c => { c with
    meas := { c.meas with
      power := if c.meas.pwrN = 0 then 0 else (mean c.meas.pwrSum c.meas.pwrN).toNat
      pwrSum := 0
      pwrN := 0 } }) (groupChannels g) s
  let act := (groupChannels g).filter fun n => (s.ch n).state.active
  let total := (act.map fun n => (s1.ch n).meas.power).foldl (· + ·) 0
  let s2 := s1.updGrp g fun x => { x with power := total }
  if s2.groupOver g then .next (forAll (fun n t => t.trip n 64) act s2) else .next s2

/-- The latest boundary of the channel's record interval, where the timebase has come to it in the present TIME cycle and the running
interval began before it: a slewed timebase may pass a multiple between two readings (R249). (DEDUCED, log 31) -/
def State.boundaryDue (s : State) (n : Fin 256) : Option Nat :=
  let iv := cfRecInterval (s.ch n).cfg
  if iv ≠ 0 && decide (s.tb.time % iv < 5) && decide ((s.ch n).meas.recFrom < s.tb.time - s.tb.time % iv) then some (s.tb.time - s.tb.time % iv)
  else none

/-- PERIODIC_RECORD: a record interval ends at its boundary (R249). -/
def execPeriodicRecord (n : Fin 256) (s : State) : Host.Outcome State Fault Refusal :=
  match s.boundaryDue n with
  | some b =>
    if s.ink.writes (s.ch n).state then
      .next ((s.record (s.periodicRec n b (s.ch n).meas.recPartial)).updCh n fun c => { c with meas := c.meas.newInterval b false })
    else .next s
  | none => .next s

/-! ### REC_CONFIG (R267) -/

def hRecConfig : Hdr :=
  { opcode := 0x0701, lenOk := lenIs 28, minLen := 28, auth := fun _ => 2 }

/-- REC_CONFIG's own checks and effect (R267). It takes effect at once: a channel that stops or begins to write PERIODIC records closes
or opens its interval (R249). -/
def ownRecConfig (m : MbCmd) (s : State) : Verdict :=
  let p := m.params
  reserved m [(0, 0xFFFFFEFC)] <|
  if natAt p 4 < 256 || 65536 < natAt p 4 then .refuse RC_CFG_RANGE 4 []
  else if natAt p 8 < 100 || 100000 < natAt p 8 then .refuse RC_CFG_RANGE 8 []
  else
    let t : State := { s with ink := { s.ink with
      periodicIdle := bitAt p 0 8
      evtMin := fieldAt p 0 1 0
      thinReserve := natAt p 4
      flushUs := natAt p 8 } }
    .done (forAll (fun n u => (u.rewrite n (s.ink.writes (s.ch n).state) (t.ink.writes (s.ch n).state))) allChannels t) 0 []

/-- REC_CONFIG sets the device-wide record options (R267). -/
def execRecConfig (m : MbCmd) (s : State) : Host.Outcome State Fault Refusal := .next (hRecConfig.run ownRecConfig m s)

/-! ### Auxiliary inputs (R94 to R97) -/

/-- A temperature sample reaches the channels that read the input: record mean and comparison (R76, R78). -/
def State.tempSample (f : Fin 4) (i : Nat) (s : State) : State :=
  forAll (fun n t =>
    match t.hlimOf n with
    | none => t
    | some h =>
      if hlTaux h ≠ 72 * f.val + i || (t.ch n).state = .absent then t
      else match t.tempOf n with
        | none => t
        | some x =>
          let t1 := t.updCh n fun c => { c with
            meas := { c.meas with
              recTemp := c.meas.recTemp + x
              recTempN := c.meas.recTempN + 1 } }
          if tempCause h (some x) = 0 || (t.ch n).state = .off then t1 else t1.trip n 32) (dieChannels f) s

/-- A bus sample of the groups that read the input (R97). -/
def State.busSample (f : Fin 4) (i : Nat) (a : Int) (s : State) : State :=
  forAll (fun g t =>
    if (t.grp g).busAux ≠ 72 * f.val + i then t
    else
      let b := divRound (a * (t.grp g).busDiv) 655360
      let t1 := t.updGrp g fun x => { x with bus := b }
      if b < 100000 then
        forAll (fun n u => u.updCh n fun c => { c with meas := { c.meas with recBusLow := true } }) (groupChannels g) t1
      else t1) ((List.range 4).map fun k => Fin.ofNat 16 (4 * f.val + k)) s

/-- AUX_CONVERSION: the converter serves an urgent request, at most every second slot, else the next input of its scan. -/
def execAuxConversion (f : Fin 4) (j : Fin 8) (code dither : Int) (s : State) : Host.Outcome State Fault Refusal :=
  let d := s.dieOf f
  let mine := d.urgent.filter fun r => r.2 / 9 == j.val
  let pick := if d.lastUrgent.contains j.val then none
    else mine.foldl (fun (a : Option (Nat × Nat)) r => match a with
      | some b => if r.1 < b.1 then some r else some b
      | none => some r) none
  let i := match pick with
    | some r => r.2
    | none => 9 * j.val + vget d.scan j % 9
  let a := divRound ((16 * code - dither) * 3300000) 65536
  let s1 := s.updDie f fun d => { d with
    aux := vsetD d.aux i a
    scan := match pick with
      | some _ => d.scan
      | none => vset d.scan j ((vget d.scan j + 1) % 9)
    urgent := match pick with
      | some r => eraseFirst (fun x => x == r) d.urgent
      | none => d.urgent
    lastUrgent := match pick with
      | some _ => j.val :: d.lastUrgent
      | none => d.lastUrgent.filter fun x => x != j.val }
  .next ((s1.busSample f i a).tempSample f i)

/-- CAL_TEMP_DRIFT: the die temperature changes; each crossing of 5 K from a record in use is reported (R98). -/
def execCalTempDrift (f : Fin 4) (temp : Int) (s : State) : Host.Outcome State Fault Refusal :=
  let old := (s.dieOf f).temp
  let one (n : Fin 256) (r : Option Block) (t : State) : State := match r with
    | some b => if drifted old b == drifted temp b then t
      else t.raise 0x0305 NOTICE n.val (p16 (temp - calTemp b) + 2 ^ 16 * (calQr b % 32))
    | none => t
  .next (forAll (fun n t => one n (s.calOf n true (cfGain (s.ch n).cfg)) (one n (s.calOf n false 0) t)) (dieChannels f)
    (s.updDie f fun d => { d with temp := temp }))

/-! ### Self-test and spare steering (R91 to R93, R274) -/

/-- The channel of converter `c` of a die, below 128. -/
def convChannel (f : Fin 4) (c : Nat) : Fin 256 := Fin.ofNat 256 (64 * f.val + c / 2)

/-- REF_CODE of a converter: that of its calibration record, a current converter's in the configured range, whatever the record's
SHUNT; else the factory code. A spare that has taken a converter's place has a record of its own once the record is no longer STALE
(R91, R92). (DEDUCED, log 35) -/
def State.refCode (s : State) (f : Fin 4) (c : Nat) : Int :=
  let served := match (s.dieOf f).steered.find? fun x => x.1 == c with
    | some x => x.2.1
    | none => c
  let factory := Config.factoryRef (140 * f.val + served)
  if c < 128 then
    let n := convChannel f c
    let b := (s.ch n).meas.calRead.getD (if c % 2 = 1 then 1 + cfGain (s.ch n).cfg else 0) []
    if calValid b && (served == c || !calStale b) then calRefCode b else factory
  else factory

/-- A record is marked stale; its CRC follows. -/
def staleRec (b : Block) : Block :=
  if calValid b then
    let w := (blockFit 7 b).set 4 (wordAt b 0x10 ||| w32 (2 ^ 25))
    w ++ [crcBlock w]
  else b

/-- A CAL_POINT ends; one orphaned by a reset of reach C (FLAGS [15] marks it) has no response. -/
def State.endCal (n : Fin 256) (status detail : Nat) (payload : Block) (s : State) : State :=
  match (s.ch n).calRun with
  | some r =>
    let t := s.updCh n fun c => { c with calRun := none }
    if r.flags.getLsbD 15 then t else t.respondHeld r.mb
      { tag := r.tag, quiet := r.flags.getLsbD 0, status := BitVec.ofNat 16 status,
        state := BitVec.ofNat 16 (s.ch n).state.code, detail := w32 detail, payload := payload }
  | none => s

/-- The voltage record, or all current records of a set get STALE = 1. -/
def staleSet (c : Nat) (l : List Block) : List Block :=
  if c % 2 = 0 then staleRec (l.getD 0 []) :: l.drop 1 else l.getD 0 [] :: (l.drop 1).map staleRec

/-- The calibration records of a replaced channel converter get STALE = 1, in the Vellum and in its die (R92). (DEDUCED, log 35) -/
def State.markStale (f : Fin 4) (c : Nat) (s : State) : State :=
  ((s.updChv (convChannel f c) fun v => { v with calib := staleSet c v.calib }).persistCal (convChannel f c)).updCh (convChannel f c) fun x => { x with
    meas := { x.meas with
      cal := staleSet c x.meas.cal
      calNext := x.meas.calNext.map (staleSet c) } }

/-- Channels of a die that are RUNNING or TUNE, read their temperature from converter `c` and have T_MAX enabled go to HELD
at their next loop update (R93). -/
def State.holdTemps (f : Fin 4) (c : Nat) (s : State) : State :=
  forAll (fun n t => match t.hlimOf n with
    | some h =>
      if 72 * f.val + 9 * (c - 128) ≤ hlTaux h && hlTaux h < 72 * f.val + 9 * (c - 128) + 9 && hlTmax h != 0x7FFF
          && (t.ch n).state.active then
        t.updCh n fun x => { x with meas := { x.meas with holdDue := true } }
      else t
    | none => t) (dieChannels f) s

/-- The second failed test in a row: a spare is steered in, or none is left (R92, R93). (DEDUCED, log 35) -/
def State.steer (f : Fin 4) (c : Nat) (s : State) : State :=
  match (s.dieOf f).spares with
  | sp :: rest =>
    let s1 := (s.startTimer (.spare f c) 25000).updDie f fun d => { d with
      spares := rest
      steered := (c, sp, false) :: d.steered.filter fun x => x.1 != c
      fails := d.fails.filter fun x => x.1 != c }
    let s2 : State := { s1 with vel := { s1.vel with convSteered := satAdd s1.vel.convSteered 1 } }
    let s3 := if c < 128 then (s2.markStale f c).endCal (convChannel f c) RC_HW_FAULT (Config.unstated 44).toNat [] else s2
    s3.raise 0x0302 NOTICE f.val (c + 2 ^ 8 * sp)
  | [] =>
    if (s.dieOf f).dead.contains c then s
    else
      let s1 := (s.updDie f fun d => { d with dead := d.dead ++ [c] }).raise 0x0303 ALARM f.val c
      if c < 128 then
        s1.updCh (convChannel f c) fun x => { x with
          meas := { x.meas with
            convFault := true
            holdDue := x.meas.holdDue || x.state.active } }
      else (s1.holdTemps f c).raise 0x0306 ALARM f.val (72 * f.val + 9 * (c - 128) + 2 ^ 12 * (c - 128))

/-- The self-test of converter `c` of a die with the result `code`, in 1/256 LSB. (DEDUCED, log 35) -/
def State.convTest (f : Fin 4) (c : Nat) (code : Int) (s : State) : State :=
  let err := code - s.refCode f c
  let s1 := s.updDie f fun d => { d with codes := (c, code) :: d.codes.filter fun x => x.1 != c }
  let s2 := if c < 128 then s1.updCh (convChannel f c) fun x => { x with
      meas := { x.meas with
        skipV := x.meas.skipV || c % 2 == 0
        skipI := x.meas.skipI || c % 2 == 1 } }
    else s1
  if 136 ≤ c && !(s.dieOf f).spares.contains c then s
  else if err.natAbs ≤ 2048 then s2.updDie f fun d => { d with fails := d.fails.filter fun x => x.1 != c }
  else if (s.dieOf f).fails.any fun x => x.1 == c then
    if c < 136 then s2.steer f c
    else s2.updDie f fun d => { d with spares := d.spares.filter fun x => x != c }
  else (s2.updDie f fun d => { d with fails := (c, 1) :: d.fails }).raise 0x0301 NOTICE f.val
    (c + 2 ^ 16 * p16 (divFree err 16))

/-- The self-test of a coil converter: it has no spare, so a second failure is FAULT cause 4 (R274, R294). -/
def State.coilTest (a : Fin 8) (b : Bool) (code : Int) (s : State) : State :=
  let bad := decide (2048 < (code - Config.factoryRef (1000 + 2 * a.val + b2n b)).natAbs)
  let upd (c : Coil) : Coil := { c with
    testFails := if bad then c.testFails + 1 else 0
    testOk := !bad }
  let s1 := s.updAx a fun x => if b then { x with coilB := upd x.coilB } else { x with coilA := upd x.coilA }
  let fails := if b then (s1.ax a).coilB.testFails else (s1.ax a).coilA.testFails
  if fails = 2 then s1.axisFault a 4 else s1

/-- CONV_SELFTEST. -/
def execConvSelftest (c : ConvRef) (code : Int) (s : State) : Host.Outcome State Fault Refusal :=
  match c with
  | .fe f k => .next (s.convTest f k.val code)
  | .coil a b => .next (s.coilTest a b code)

/-- The self-test code of a spare goes with it to the converter it replaces. -/
def Die.moveCode (c sp : Nat) (d : Die) : Die :=
  { d with codes := ((d.codes.filter fun x => x.1 == sp).map fun x => (c, x.2)) ++ d.codes.filter fun x => x.1 != c && x.1 != sp }

/-- SPARE_SETTLED: the spare replaces the converter (R92). -/
def execSpareSettled (f : Fin 4) (c : Fin 140) (s : State) : Host.Outcome State Fault Refusal :=
  .next (if !s.ranOut (.spare f c.val) then s else s.updDie f fun d =>
    let e := { d with steered := d.steered.map fun x => if x.1 = c.val then (x.1, x.2.1, true) else x }
    match d.steered.find? fun x => x.1 == c.val && !x.2.2 with
    | some x => e.moveCode c.val x.2.1
    | none => e)

/-! ### Calibration (R83 to R90) -/

/-- States in which CAL_POINT and CAL_COMMIT are legal (R83). -/
def calLegal (st : ChState) : Bool := st == .off || st == .configured || st == .done

/-- QUANTITY and RANGE of a parameter word: range 0 to 5, and 0 for voltage. -/
def calSel (m : MbCmd) : Option (Bool × Nat) :=
  let cur := bitAt m.params 0 4
  let r := fieldAt m.params 0 2 0
  if cur then (if r ≤ 5 then some (true, r) else none) else if r = 0 then some (false, 0) else none

/-- |REF_VALUE| over the full scale of R80 or 5.12 V, as a fraction: numerator and denominator. -/
def refOfFs (c : Channel) (cur : Bool) (r : Nat) (ref : Int) : Nat × Nat :=
  if cur then (ref.natAbs * 2 ^ r * cfShunt c.cfg, 1280000000000) else (ref.natAbs, 512000)

/-- CAL_POINT on a channel (R84, R88). (DEDUCED, log 34) -/
def State.startCal (m : MbCmd) (n : Fin 256) (s : State) : Verdict :=
  orElse (s.chanCheck n calLegal) <| reserved m [(0, 0xFFFFFFC8)] <|
    match calSel m with
    | none => .refuse RC_BAD_FIELD 0 []
    | some (cur, r) =>
      let full := bitAt m.params 0 5
      let ref := intAt m.params 4
      let avg := natAt m.params 8
      let (a, b) := refOfFs (s.ch n) cur r ref
      if avg < 100 || 10000 < avg then .refuse RC_CFG_RANGE 8 []
      else if !full && b < 200 * a then .refuse RC_CAL_SPAN 1 []
      else if full && (2 * a < b || b < a) then .refuse RC_CAL_SPAN 2 []
      else .hold (s.updCh n fun c => { c with
        calRun := some { mb := m.mb, tag := m.tag, flags := m.flags, current := cur, range := r, full := full, ref := ref,
                         avgMs := avg, start := s.now, sum := 0, count := 0, subSum := 0, subN := 0, subC := 0,
                         subMin := none, subMax := none, overRange := false } })

/-- CAL_POINT. -/
def execCalPoint (m : MbCmd) (s : State) : Host.Outcome State Fault Refusal :=
  .next ((chanHdr 0x0C01 28 2).run (chanVerdict (State.startCal m)) m s)

/-- CAL_POINT_DONE: the point is kept and answered, or failed by an over-range conversion (R84, R88). (DEDUCED, log 34) -/
def execCalPointDone (n : Fin 256) (s : State) : Host.Outcome State Fault Refusal :=
  match (s.ch n).calRun with
  | none => .next s
  | some r =>
    if r.overRange then .next (s.endCal n RC_CAL_SPAN 3 [])
    else
      let u := meanOr 45 r.sum r.count
      let spread := match r.subMin, r.subMax with
        | some lo, some hi => hi - lo
        | _, _ => Config.unstated 46
      let s1 := s.updCh n fun c => { c with
        calPoints := { current := r.current, range := r.range, full := r.full, ref := r.ref, meanU := u }
          :: c.calPoints.filter fun p => !(p.current == r.current && p.range == r.range && p.full == r.full) }
      .next ((s1.startTimer (.calPoint n r.current r.range r.full) (3600 * 250000000)).endCal n RC_OK 0
        [wInt u, w32 r.count, wInt spread])

/-- CAL_POINT_EXPIRY: a point is discarded after 1 h (R85). (DEDUCED, log 34) -/
def execCalPointExpiry (n : Fin 256) (cur : Bool) (r : Fin 6) (full : Bool) (s : State) : Host.Outcome State Fault Refusal :=
  .next (if !s.ranOut (.calPoint n cur r.val full) then s else s.updCh n fun c => { c with
    calPoints := c.calPoints.filter fun p => !(p.current == cur && p.range == r.val && p.full == full) })

/-- GAIN and OFFSET from two points, none while GAIN cannot be formed (R87): r = REF x `rn` / `rd`. -/
def calSolve (rn rd : Nat) (p0 p1 : CalPoint) : Option (Int × Int) :=
  let du := p1.meanU - p0.meanU
  let dr := (p1.ref - p0.ref) * rn * 2 ^ 30
  if du = 0 then none
  else
    let g := if du < 0 then divRound (-dr) (rd * du.natAbs) else divRound dr (rd * du.natAbs)
    if g ≤ 0 then none
    else
      let den := (rd : Int) * g
      some (g, divRound (p0.meanU * den - p0.ref * rn * 2 ^ 30) den.toNat)

/-- Present self-test code of the converter of a quantity (R87). Before the first test it is not stated: a free value. -/
def State.selfCode (s : State) (n : Fin 256) (cur : Bool) : Int :=
  let c := 2 * (n.val % 64) + b2n cur
  match (s.dieOf (dieOfCh n)).codes.find? fun x => x.1 == c with
  | some x => x.2
  | none => Config.unstated (1000 + 2 * n.val + b2n cur)

/-- The points of a channel are discarded at CAL_COMMIT, whether or not it succeeds (R85). (DEDUCED, log 34) -/
def State.dropPoints (n : Fin 256) (s : State) : State := s.updCh n fun c => { c with calPoints := [] }

/-- CAL_COMMIT on a channel (R86 to R90). (DEDUCED, log 34) -/
def State.commitCal (m : MbCmd) (n : Fin 256) (s : State) : Verdict :=
  orElse (s.chanCheck n calLegal) <| reserved m [(0, 0xFFFFFFE8)] <|
    match calSel m with
    | none => .refuse RC_BAD_FIELD 0 []
    | some (cur, r) =>
      let c := s.ch n
      let pt (full : Bool) := c.calPoints.find? fun p => p.current == cur && p.range == r && p.full == full
      match pt false, pt true with
      | none, _ => .refuseIn (s.dropPoints n) RC_CAL_SPAN 4 []
      | _, none => .refuseIn (s.dropPoints n) RC_CAL_SPAN 5 []
      | some p0, some p1 =>
        if crcBlock [wInt p0.ref, wInt p1.ref] ≠ wordAt m.params 4 then .refuseIn (s.dropPoints n) RC_BAD_FIELD 4 []
        else match calSolve (if cur then 256 * 2 ^ r * cfShunt c.cfg else 256) (if cur then 625000000 else 125) p0 p1 with
          | none => .refuseIn (s.dropPoints n) RC_CAL_SPAN 6 []
          | some (g, o) =>
            if g * 100 < 97 * qOne || 103 * qOne < g * 100 then .refuseIn (s.dropPoints n) RC_CAL_SPAN 6 []
            else if 16384 < o.natAbs then .refuseIn (s.dropPoints n) RC_CAL_SPAN 7 []
            else
              let qr := b2n cur * 16 + r
              let w := [wInt g, wInt o, w32 (if cur then cfShunt c.cfg else 0), wInt (s.selfCode n cur),
                  w32 (2 ^ 24 + qr * 2 ^ 16 + p16 (s.dieOf (dieOfCh n)).temp)] ++ words64 s.tb.time
              let rec_ := w ++ [crcBlock w]
              let s1 := (s.updChv n fun v => { v with calib := v.calib.set (if cur then 1 + r else 0) rec_ }).persistCal n
              let s2 := (s1.dropPoints n).updCh n fun c => { c with
                meas := { c.meas with
                  calNext := some (s1.chv n).calib
                  calLost := if cur then c.meas.calLost.filter fun x => x != r else c.meas.calLost } }
              .done (s2.raise 0x0304 INFO n.val ((crcBlock w).toNat + 2 ^ 32 * qr)) 0 rec_

/-- CAL_COMMIT. -/
def execCalCommit (m : MbCmd) (s : State) : Host.Outcome State Fault Refusal :=
  .next ((chanHdr 0x0C02 24 2).run (chanVerdict (State.commitCal m)) m s)

/-- CAL_READ (R90). -/
def execCalRead (m : MbCmd) (s : State) : Host.Outcome State Fault Refusal :=
  .next ((chanHdr 0x0C03 20 0).run (chanVerdict fun n t => reserved m [(0, 0xFFFFFFE8)] <|
    match calSel m with
    | none => .refuse RC_BAD_FIELD 0 []
    | some (cur, r) => .done t 0 (blockFit 8 ((t.chv n).calib.getD (if cur then 1 + r else 0) []))) m s)

end Sys2Proof.Machine
end

