-- ==== Sys2Proof/Machine/Release.lean ====
section
/-! DEFINITION. The release sequence after reach W or F and the boot of the Folio: what each stage releases (R447, R448, R450, R451,
R460, R461, R464), and clocks that are not good (R449). -/

namespace Sys2Proof.Machine

/-- Domain codes of R467. -/
def domainCode : ClkDomain → Nat
  | .aon => 0 | .ref => 1 | .pwm => 2 | .dram => 3 | .time => 4 | .fabtx => 5 | .fabrx => 6 | .host => 7 | .safe => 8

/-- The release goes on with the next stage (R447). -/
def State.toStage (k : Nat) (s : State) : State :=
  { s with
    rst := { s.rst with
      stage := k
      doneStage := k - 1 } }

/-- A reset of reach W or F is being released: channels are not yet restored (R447). -/
def State.releasing (s : State) : Bool := decide (s.rst.stage < 12) && !s.folio.restored

/-! ### Stages -/

/-- Stage 1: the AON logic runs and PGOOD_IN is high; the time of 0x1001 counts from the start of stage 2 (R447, R467). -/
def State.releaseAon (s : State) : State :=
  if s.rst.pgood then { s.toStage 2 with
    rst := { (s.toStage 2).rst with since := s.now } }
  else s

/-- Stage 2: the PLLs have locked on the reference that CLK_MODE selects; 3 has no reference (R452). -/
def State.releasePlls (mode : Nat) (s : State) : State :=
  if mode = 3 then s else { s.toStage 3 with
    rst := { (s.toStage 3).rst with clkMode := mode } }

/-- The timebase starts one second after TIME_MARK, or at 0 (R403). (DEDUCED, log 48) -/
def State.startTime (s : State) : State :=
  let (ms, era) : Nat × Nat := s.vel.timeMark.getD (0, 0)
  { s with
    tb := { s.tb with
      time := if s.vel.timeMark.isSome then ms * 1000000 + 1000000000 else 0
      era := era
      running := true } }

/-- Stage 3: the straps are sampled; another CLK_MODE than at lock returns to stage 2 (R451). -/
def State.releaseOptions (x : StageIn) (s : State) : State :=
  if x.clkMode % 4 ≠ s.rst.clkMode then s.toStage 2
  else { s.startTime.toStage 4 with
    rst := { (s.startTime.toStage 4).rst with bootSrc := x.bootSrc % 4 } }

/-- The store is lost: SEQ restarts at 0; the records that have waited since the reset stay in their buffers (R254, R261). -/
def State.loseStore (s : State) : State :=
  ({ s with ink := { s.ink.lose with
      waiting := s.ink.waiting
      closed := s.ink.closed } } : State).raise 0x0906 ALARM 0 s.host.resetCause.toNat

/-- STORE_START, the first record after the release: KEPT or LOST, RESET_CAUSE, the oldest SEQ held; then the streams that the reset
has closed (R255, R261). -/
def State.storeStart (kept : Bool) (s : State) : State :=
  let t : State := { s with ink := { s.ink with
    dramOk := true
    kept := kept
    closed := []
    waiting := s.sysRec 1 [if kept then 1 else 2, s.host.resetCause, w32 s.ink.oldest] :: s.ink.waiting } }
  forAll (fun (e : Fin 4 × Bool) x => x.system 5 [w32 (e.1.val + 16 * b2n e.2), w32 (x.firstOwed e.1)]) s.ink.closed t

/-- Stage 5: a DRAM die that fails training leaves no store (R448); a kept store needs its index check (R261). (DEDUCED, log 53) -/
def State.releaseDram (x : StageIn) (s : State) : State :=
  match x.dramFailed with
  | some d => (s.loseStore.raise 0x1008 ALARM 0 d.val).toStage 6
  | none =>
    if s.rst.keepStore && x.indexOk then (s.storeStart true).toStage 6 else (s.loseStore.storeStart false).toStage 6

/-- Groups in the order of takeovers: GM first (R210). -/
def groupsGmFirst : List (Fin 17) := 16 :: (List.finRange 17).filter fun g => g.val < 16

/-- Stage 6: failed Nibs are retired, and a spare takes over each group whose Nib of R17 is retired (R214). The delay counter of
the Quire starts (R179). (DEDUCED, log 53) -/
def State.releaseQuill (x : StageIn) (s : State) : State :=
  let s1 := forAll (fun k t => if (t.nibOf k).role = .retired then t else t.retireNib k 1) x.nibsFailed s
  let s2 := forAll (fun g t =>
      let home : Fin 20 := ⟨g.val, by omega⟩
      if (t.nibOf home).role = .retired then t.startTakeover g home t.now else t)
    groupsGmFirst s1
  ({ s2 with quire := { s2.quire with epoch := s2.now } } : State).toStage 7

/-- The first calibration of a die's delay lines: 0x0207 names the lowest line that failed (R37, R68). (DEDUCED, log 53) -/
def State.calibrateDie (bad : List (Fin 4 × Fin 128 × Int)) (f : Fin 4) (s : State) : State :=
  let mine := bad.filter fun e => e.1 == f
  let t := s.updDie f fun d => { d with
    dlineOk := mine.isEmpty
    dlineBad := mine.map fun e => e.2.1.val }
  let low := mine.foldl (fun (b : Option (Nat × Int)) e => match b with
    | some y => if e.2.1.val < y.1 then some (e.2.1.val, e.2.2) else b
    | none => some (e.2.1.val, e.2.2)) none
  match low with
  | some (l, err) => t.raise 0x0207 ALARM f.val (l + 2 ^ 8 * (err % (256 : Int)).toNat)
  | none => t

/-- The FE die reads the calibration records of a channel at its release (R75). -/
def State.readCal (n : Fin 256) (s : State) : State :=
  s.updCh n fun c => { c with
    meas := { c.meas with
      cal := (s.chv n).calib
      calNext := none } }

/-- Stage 7: the FE dies read their coefficients, calibrate their delay lines, their phase reference starts at 0, and the delays of the
presence pins count from here (R37, R44, R63, R75). -/
def State.releaseDies (x : StageIn) (s : State) : State :=
  let w := forAll (fun g y => (y.startTimer (.boardOut g) 2500000).startTimer (.boardIn g) 25000000) (List.finRange 16) s
  let t := forAll State.readCal allChannels (forAll (State.calibrateDie x.dlineFailed) (List.finRange 4) w)
  ({ t with rst := { t.rst with phaseAt := some t.now } } : State).toStage 8

/-- The Margin leaves reset (R302). -/
def State.releaseMargin (s : State) : State := { s with margin := { s.margin with inReset := false } }

/-- The PCIe endpoint leaves reset. -/
def State.releasePcie (s : State) : State := { s with host := { s.host with pcieReset := false } }

/-! ### Stage 11: the boot of the Folio -/

/-- 0x1006 of an image that failed a check of R463. -/
def State.imageRejected (slot check : Nat) (seq : Word) (s : State) : State :=
  if check = 0 then s else s.raise 0x1006 ALARM slot (check + 2 ^ 32 * seq.toNat)

/-- The loader starts on the paths that BOOT_SRC allows (R460, R464). (DEDUCED, log 53) -/
def State.startLoader (bothFailed : Bool) (s : State) : State :=
  let b := s.rst.bootSrc
  ((s.setFolio { s.folio with
    mbReady := true
    readyOnce := true
    watchdog := s.now
    copyOk := false
    loader := some (b != 1, b != 2)
    loaderSrc := none }).raise 0x1007 NOTICE 0 (b + 2 ^ 8 * b2n bothFailed))

/-- The image of a flash slot has been read and authenticated: its header's values are in use (R450, R462). -/
def State.imageLoaded (x : StageIn) (s : State) : State :=
  { s with
    folio := { s.folio with
      fwVersion := x.fwVersion
      fwCrc := x.fwCrc
      copyOk := true
      bTimeout := if x.bTimeoutUs = 0 then 100 else x.bTimeoutUs.toNat
      etherType := if bits x.ethPort 31 16 = 0 then 0x88B5 else BitVec.ofNat 16 (bits x.ethPort 31 16)
      portCfg := BitVec.ofNat 16 (bits x.ethPort 15 0) } }

/-- The boot from QSPI: the slot tried first, then the other (R461). -/
def State.bootFlash (x : StageIn) (s : State) : State :=
  let s1 := s.imageRejected x.firstSlot.val x.firstFail.val x.firstSeq
  if x.firstFail = 0 then s1.imageLoaded x
  else
    let s2 := s1.imageRejected (1 - x.firstSlot.val) x.otherFail.val x.otherSeq
    if x.otherFail = 0 then s2.imageLoaded x else s2.startLoader true

/-- Stage 11: the Folio restarts from the protected copy, or boots from its source; FOLIO_BOOT_DONE follows an image. It waits for
the sources of reach C, and with fewer than two cores it does not boot (R217, R446, R450, R460). (DEDUCED, log 53) -/
def State.bootFolio (x : StageIn) (s : State) : State :=
  if s.rst.coverC || s.folio.loader.isSome || s.folio.mbReady || s.folio.voters.length < 2 then s
  else if s.folio.copyOk && x.copyGood then s
  else if s.rst.bootSrc = 0 then ({ s with folio := { s.folio with copyOk := false } } : State).bootFlash x
  else s.startLoader false

/-- One stage of the release completes. -/
def State.completeStage (x : StageIn) (s : State) : State :=
  match s.rst.stage with
  | 1 => s.releaseAon
  | 2 => s.releasePlls (x.clkMode % 4)
  | 3 => s.releaseOptions x
  | 4 => s.toStage 5
  | 5 => s.releaseDram x
  | 6 => s.releaseQuill x
  | 7 => s.releaseDies x
  | 8 => s.releaseMargin.toStage 9
  | 9 => s.toStage 10
  | 10 => s.releasePcie.toStage 11
  | 11 => s.bootFolio x
  | _ => s

/-- RELEASE_STAGE: the stage in progress completes. The sequence holds while PFAIL_N is low (R466) and while a source of reach W or F
is asserted. (DEDUCED, log 53) -/
def execReleaseStage (x : StageIn) (s : State) : Host.Outcome State Fault Refusal :=
  if s.rst.coverF || s.rst.flushing.isSome || (s.rst.pfailLow && s.releasing) then .next s else .next (s.completeStage x)

/-! ### Clocks (R448, R449) -/

/-- The stage that waits for a domain's clock. -/
def clockStage : ClkDomain → Nat
  | .ref => 2 | .pwm => 2 | .dram => 2 | .time => 2 | .fabtx => 2
  | .safe => 8 | .host => 10
  | .aon => 0 | .fabrx => 0

/-- CLK_NOT_GOOD: CLK_TIMEOUT and 0x1002. Stage 2 keeps waiting; stages 8 and 10 go on without their block, which stays in reset.
(DEDUCED, log 53) -/
def execClkNotGood (d : ClkDomain) (s : State) : Host.Outcome State Fault Refusal :=
  let k := s.rst.stage
  if k = 0 || clockStage d ≠ k then .next s
  else
    let t := (s.causeBit 15).raise 0x1002 ALARM 0 (domainCode d + 2 ^ 8 * k)
    if k = 2 then .next t
    else .next (({ t with rst := { t.rst with badClocks := d :: t.rst.badClocks } } : State).toStage (k + 1))

/-- CLK_GOOD: the block that was left in reset for its clock is released. -/
def execClkGood (d : ClkDomain) (s : State) : Host.Outcome State Fault Refusal :=
  if !s.rst.badClocks.contains d then .next s
  else
    let t : State := { s with rst := { s.rst with badClocks := s.rst.badClocks.filter fun x => x != d } }
    .next (match d with
      | .safe => t.releaseMargin
      | .host => t.releasePcie
      | _ => t)

end Sys2Proof.Machine
end

