-- ==== Sys2Proof/Machine/Power.lean ====
section
/-! DEFINITION. The rows of reset sources (R444, R445, R465, R494), block resets (R454, R455), crossings (R458) and power (R469 to
R479). In STANDBY only the wake logic acts (R474). -/

namespace Sys2Proof.Machine

/-- The device is in RUN: its monitors and pins act (R473, R474). (DEDUCED, log 55) -/
def State.awake (s : State) : Bool := s.rst.power == .run

/-- An event that is raised after the restart (R467, R480); one of each code. -/
def State.afterRestart (code : BitVec 16) (param : Nat) (s : State) : State :=
  { s with rst := { s.rst with after := (s.rst.after.filter fun e => e.1 != code) ++ [(code, BitVec.ofNat 64 param)] } }

/-! ### Sources (R444) -/

/-- POWER_ON: VAON has risen. PGOOD_IN is low until the board's rails stand. -/
def execPowerOn (s : State) : Host.Outcome State Fault Refusal :=
  .next (({ s with rst := { s.rst with pgood := false } } : State).assert .powerOn)

/-- SUPPLY_OUT_OF_RANGE: the first rail out of its window is reported (R444, R469, R480). Rail 12 is VAON (R468). (DEDUCED, log 55) -/
def execSupplyOutOfRange (rail : Fin 13) (above pgood : Bool) (s : State) : Host.Outcome State Fault Refusal :=
  if !s.awake then .next s
  else
    let s1 : State := { s with rst := { s.rst with pgood := pgood } }
    let t := s1.assert (if rail = 12 || !pgood then .supplyW else .supplyF)
    if s.rst.sources.contains .supplyW || s.rst.sources.contains .supplyF then .next { t with rst := { t.rst with after := s.rst.after } }
    else .next (({ t with rst := { t.rst with after := s.rst.after } } : State).afterRestart 0x1014 (rail.val + 2 ^ 4 * b2n above))

/-- A pin or monitor asserts its source, unless the device is in STANDBY. -/
def State.assertAwake (src : ResetSrc) (s : State) : State := if s.awake then s.assert src else s

/-- RESET_N_LOW: a low pulse that the pad filter takes. The filter ignores one below 100 ns, which has no row; whether it takes one below
1 µs is left to the sender (R445). (DESIGN CHOICE, log 55) -/
def execResetNLow (s : State) : Host.Outcome State Fault Refusal := .next (s.assertAwake .resetN)

/-- RESET_N_STUCK: STUCK is set, and 0x1009 is raised after the release (R445). -/
def execResetNStuck (seconds : Nat) (s : State) : Host.Outcome State Fault Refusal :=
  if s.rst.sources.contains .resetN then .next ((s.causeBit 16).afterRestart 0x1009 (min seconds 0xFFFFFFFF)) else .next s

/-- WARM_N_LOW, with the same pad filter. (DESIGN CHOICE, log 55) -/
def execWarmNLow (s : State) : Host.Outcome State Fault Refusal := .next (s.assertAwake .warmN)

/-- TEST_MODE_RISE (R494). -/
def execTestModeRise (s : State) : Host.Outcome State Fault Refusal := .next (s.assertAwake .testMode)

/-- WATCHDOG_EXPIRED: while the loader or the image runs, a reset of reach C (R465). -/
def execWatchdogExpired (s : State) : Host.Outcome State Fault Refusal :=
  if !s.awake || !s.folio.mbReady || s.now < s.folio.watchdog + second then .next s else .next ((s.afterRestart 0x100A s.folio.voteMask).assert .watchdog)

/-- THERMAL_SHUTDOWN (R444, R467). -/
def execThermalShutdown (die : Fin 3) (temp : Int) (s : State) : Host.Outcome State Fault Refusal :=
  if !s.awake || s.rst.sources.contains .thermal then .next s
  else .next ((s.afterRestart 0x1005 (die.val + 2 ^ 16 * p16 temp)).assert .thermal)

/-- REF_LOSS. -/
def execRefLoss (s : State) : Host.Outcome State Fault Refusal := .next (s.assertAwake .refLoss)

/-- A source releases. The release sequence starts when the last source of reach W or F is gone; the Folio's restart counts from the
end of reach C (R446, R467). -/
def State.releaseSource (src : ResetSrc) (s : State) : State :=
  if !s.rst.sources.contains src then s
  else
    let t : State := { s with rst := { s.rst with sources := s.rst.sources.filter fun x => x != src } }
    if !s.awake then t
    else if srcReach src ≤ 1 then (if t.rst.stage = 0 && t.rst.flushing.isNone then t.startRelease else t)
    else if srcReach src = 2 && !t.releasing && !t.rst.coverC then { t with rst := { t.rst with since := t.now } }
    else t

/-- RESET_RELEASE: the supply sources also need PGOOD_IN high (R444). -/
def execResetRelease (src : ResetSrc) (s : State) : Host.Outcome State Fault Refusal :=
  if (src = .powerOn || src = .supplyW || src = .supplyF) && !s.rst.pgood then .next s else .next (s.releaseSource src)

/-- THERMAL_RECOVERY. -/
def execThermalRecovery (s : State) : Host.Outcome State Fault Refusal := .next (s.releaseSource .thermal)

/-- REF_RETURN. -/
def execRefReturn (s : State) : Host.Outcome State Fault Refusal := .next (s.releaseSource .refLoss)

/-- PCIE_HOT_RESET: reach B of the host interface, absorbed by a wider reset in progress, not by the boot after it (R356, R466). (DEDUCED,
log 55) -/
def execPcieHotReset (ends : Bool) (s : State) : Host.Outcome State Fault Refusal :=
  if ends then .next (s.releaseSource .pcie)
  else if !s.awake then .next s
  else
    let t := s.assert .pcie
    .next (if s.hostAlone then t.hotReset else t)

/-- PCIE_LINK: the link's speed and width, 0 when it goes down, and the power state that the host has set; a change of the power state
alone is no link event (R334, R357, R459). (PRESUMED, log 15) -/
def execPcieLink (speed : Fin 16) (width : PcieWidth) (s : State) : Host.Outcome State Fault Refusal :=
  if s.host.pcieReset then .next s
  else
    let h : HostIf := { s.host with
      linkSpeed := speed.val
      linkWidth := width.lanes.val
      d3hot := width.d3hot }
    let t : State := { s with host := if width.d3hot then h else h.sendHeld }
    .next (if width.d3hot != s.host.d3hot && speed.val = s.host.linkSpeed && width.lanes.val = s.host.linkWidth then t
      else t.raise 0x0C09 INFO 0 (speed.val + 2 ^ 4 * width.lanes.val))

/-- FINAL_FLUSH_TIMEOUT: the reset proceeds although final checkpoints are incomplete (R197). -/
def execFinalFlushTimeout (s : State) : Host.Outcome State Fault Refusal :=
  if s.rst.flushing.isSome && s.ranOut .flush then .next s.endFlush else .next s

/-! ### Block resets (R454, R455) -/

/-- A Pounce unit after its reset: the capture is lost (R243, R455). A unit without a configuration stays IDLE. (DEDUCED, log 54) -/
def State.resetUnit (u : Fin 32) (s : State) : State :=
  let p := s.unit u
  let t := if p.state = .idle then s else s.updUnit u Pounce.empty
  t.raise 0x0807 NOTICE u.val p.state.code

/-- The Inkwell controller after its reset: records inside it are dropped with reason 2, streams resend (R261, R455). (DEDUCED, log 54) -/
def State.resetInkwell (dropped : Nat) (s : State) : State :=
  let gone := s.ink.waiting.take dropped
  let s1 : State := { s with
    ink := { s.ink with
      waiting := s.ink.waiting.drop dropped
      streams := s.ink.streams.map fun st => if st.open_ then st.rewind else st } }
  if gone.isEmpty then s1 else s1.dropped 2 (Config.unstated 10).toNat (Config.unstated 11).toNat gone

/-- An axis after a reset of the stroke unit: DISABLED, POSITION kept, HOMED 0 (R455). Its configuration and table stay (R277, R282).
(DEDUCED, log 54) -/
def Axis.blockReset (x : Axis) : Axis :=
  { cfg := x.cfg, table := x.table, hlim := x.hlim, pos := x.pos, phaseOff := x.phaseOff, limp := x.limp, limn := x.limn,
    home := x.home, encCount := x.encCount, encAlign := x.encAlign, stops := x.stops }

/-- The stroke unit after its reset: moves are abandoned, references lost (R316, R455). -/
def State.resetStroke (s : State) : State :=
  forAll State.answerStops allAxes { s with
    axis := s.axis.map Axis.blockReset
    linear := []
    margin := { s.margin with referenced := 0 } }

/-- A Ligature port after its reset: the link drops, the queues are lost (R399, R455). -/
def State.resetPort (p : Fin 4) (s : State) : State :=
  let t := s.updPort p fun q => { q with
    lock := false
    hiBer := false
    heard := none
    helloAt := none
    onWire := [] }
  if (s.port p).up then t.goDown p false
  else t.updPort p fun q => { q with
    q0 := []
    q1 := []
    q2 := [] }

/-- The block's state after its reset, by the codes of R340. -/
def State.resetBlock (block index dropped : Nat) (s : State) : State :=
  match block with
  | 1 => s.requeue 1 fun i => i.target == .ductus && i.block == index
  | 2 => s.resetUnit (Fin.ofNat 32 index)
  | 3 => (s.requeue 1 fun i => i.target == .inkwell).resetInkwell dropped
  | 4 => (s.requeue 1 fun i => i.target == .stroke).resetStroke
  | 5 => s.hotReset
  | 6 => s.resetPort (Fin.ofNat 4 index)
  | _ => s

/-- The first reset of reach B that waits acts. Reach C of a host interface covers its own (R466). (DEDUCED, log 54) -/
def State.blockReset (forced : Bool) (dropped : Nat) (s : State) : State :=
  match s.rst.block with
  | [] => s
  | (b, i) :: l =>
    let t : State := { s with rst := { s.rst with block := l } }
    if b = 5 && !s.hostAlone then t
    else ((t.cause (2 ^ 7) 3).resetBlock b i dropped).raise 0x1003 NOTICE b (i + 2 ^ 8 * b2n forced + 2 ^ 32 * (dropped % 2 ^ 32))

/-- An axis at rest, DISABLED or FAULT (R455). -/
def Axis.atRest (x : Axis) : Bool :=
  x.state == .disabled || x.state == .idle || x.state == .standstill || x.state == .fault

/-- The first block asked has no work in hand (R455). (DEDUCED, log 54) -/
def State.blockIdle (s : State) : Bool :=
  match s.rst.block with
  | (1, i) :: _ => !s.quire.items.any fun x => x.state == .inService && x.target == .ductus && x.block == i
  | (2, u) :: _ => !(s.quire.items.any fun x => x.live && x.producer == .pounce (Fin.ofNat 32 u))
      && !(s.ink.incoming.any fun d => d.unit.val == u % 32)
  | (3, _) :: _ => s.ink.waiting.isEmpty && s.ink.incoming.isEmpty
  | (4, _) :: _ => s.axis.all Axis.atRest
  | (6, p) :: _ => (s.port (Fin.ofNat 4 p)).onWire.isEmpty
  | _ => true

/-- BLOCK_RESET_IDLE. -/
def execBlockResetIdle (s : State) : Host.Outcome State Fault Refusal :=
  if s.blockIdle then .next (s.blockReset false 0) else .next s

/-- BLOCK_RESET_FORCED: B_TIMEOUT has passed. -/
def execBlockResetForced (dropped : Nat) (s : State) : Host.Outcome State Fault Refusal :=
  .next (if s.rst.block.head?.all fun b => s.ranOut (.block b.1 b.2) then s.blockReset true dropped else s)

/-- CROSSING_FLUSHED: a non-zero count raises 0x1004 (R458). -/
def execCrossingFlushed (crossing : Nat) (d : ClkDomain) (count : Nat) (s : State) : Host.Outcome State Fault Refusal :=
  if count = 0 then .next s else .next (s.raise 0x1004 NOTICE crossing (domainCode d + 2 ^ 32 * (count % 2 ^ 32)))

/-! ### Power failure (R476 to R479) -/

/-- A channel under way ramps down; with no period latched its gates are low at once, and its checkpoint is due (R61, R476). -/
def State.pfailChannel (n : Fin 256) (s : State) : State :=
  let t := s.rampDown n true
  if (t.ch n).drive.ramp.isNone then t.ckpt n 4 else t

/-- An enabled axis: coils in SHORT, POS_UNCERTAIN without an encoder, motion abandoned (R476). -/
def Axis.powerFail (now : Nat) (x : Axis) : Axis :=
  if x.state = .disabled then x
  else { x with
    shorted := true
    posUncertain := x.posUncertain || !acEnc x.cfg
    vSq := 0
    waitRamp := false
    homing := none
    state := if x.atRest then x.state else .idle
    idleAt := if x.atRest then x.idleAt else now }

/-- Steps 1 to 3 of R476. Steps 4 and 5 follow the last PFAIL checkpoint. (DEDUCED, log 55) -/
def State.powerFail (s : State) : State :=
  let chs := allChannels.filter fun n => (s.ch n).state.active
  let axes := s.axis.toList.filter fun x => x.state != .disabled
  let s1 := forAll State.pfailChannel chs s
  let t : State := { s1 with
    axis := s1.axis.map (Axis.powerFail s.now)
    linear := []
    host := { s1.host with txOff := true }
    rst := { s1.rst with pfailSeq := true } }
  let t := t.startTimer .pfail (5 * millisecond)
  let u := (forAll State.answerStops allAxes t).afterRestart 0x1013 (chs.length + 2 ^ 16 * axes.length)
  if u.pfailPending then u else u.endPfail

/-- PFAIL_SEQUENCE: PFAIL_N has fallen. It acts in RUN; during a release it holds the sequence (R466, R476, R479). -/
def execPfailSequence (s : State) : Host.Outcome State Fault Refusal :=
  let t : State := { s with rst := { s.rst with pfailLow := true } }
  if !s.awake || s.releasing || s.rst.pfailSeq then .next t else .next t.powerFail

/-- PFAIL_N_RISE: a release held by it goes on; a sequence that has started runs to its end (R476, R479). -/
def execPfailNRise (s : State) : Host.Outcome State Fault Refusal := .next { s with rst := { s.rst with pfailLow := false } }

/-- PFAIL_SELF_RESET (R478). -/
def execPfailSelfReset (level : Bool) (s : State) : Host.Outcome State Fault Refusal :=
  if s.rst.pfailSeq && s.ranOut .pfail then .next ((s.afterRestart 0x1015 (b2n level)).assert .pfailSelf) else .next s

/-! ### STANDBY (R473 to R475) -/

/-- PWR_REQ rises. -/
def State.wake (s : State) : State :=
  State.startTimer .standbyExit second { s with
    rst := { s.rst with
      power := .waking
      pwrReq := true
      wakePending := false } }

/-- WAKE_N: in STANDBY PWR_REQ rises, not before its 10 ms low are over (R474, R475, R479). (DEDUCED, log 55) -/
def execWakeN (s : State) : Host.Outcome State Fault Refusal :=
  if s.rst.power ≠ .standby then .next s
  else
    let t : State := { s with rst := { s.rst with wakeAt := s.now } }
    .next (if s.rst.holdLow then { t with rst := { t.rst with wakePending := true } } else t.wake)

/-- STANDBY_HOLD_END. -/
def execStandbyHoldEnd (s : State) : Host.Outcome State Fault Refusal :=
  if !s.ranOut .standbyHold then .next s
  else
  let t : State := { s with rst := { s.rst with holdLow := false } }
  .next (if s.rst.power = .standby && s.rst.wakePending then t.wake else t)

/-- PGOOD_IN_RISE: the exit from STANDBY runs as after reach F with SUPPLY; else power-on releases (R444, R475). (DEDUCED, log 55) -/
def execPgoodInRise (s : State) : Host.Outcome State Fault Refusal :=
  let t : State := { s with rst := { s.rst with pgood := true } }
  match s.rst.power with
  | .standby => .next s
  | .waking =>
    let u := (t.afterRestart 0x1012 (b2n s.rst.pgoodLate)).assert .standbyExit
    .next { u with rst := { u.rst with pgoodLate := false } }
  | .run => .next (t.releaseSource .powerOn)

/-- STANDBY_EXIT_TIMEOUT: PWR_REQ falls again, and the next exit reports PGOOD_LATE (R475). -/
def execStandbyExitTimeout (s : State) : Host.Outcome State Fault Refusal :=
  if s.rst.power ≠ .waking || !s.ranOut .standbyExit then .next s
  else .next { s with
    rst := { s.rst with
      power := .standby
      pwrReq := false
      pgoodLate := true } }

/-! ### Output pins by power condition (R493, R494) -/

/-- What an output ball shows: driven low, driven high, or high impedance. -/
inductive PinLevel where
  | low | high | open_
deriving DecidableEq, Repr

/-- A ball of the gate, motion and safe outputs whose function gives `own`: low while TEST_MODE is high and in reach W or F, where
`own` is low; floating in STANDBY (R493, R494). -/
def State.outBall (s : State) (own : Bool) : PinLevel :=
  if s.rst.power ≠ .run then .open_ else if own && !s.rst.sources.contains .testMode then .high else .low

/-- CHn_GH and CHn_GL. -/
def State.ballGH (s : State) (n : Fin 256) : PinLevel := s.outBall (s.pinGH n)
def State.ballGL (s : State) (n : Fin 256) : PinLevel := s.outBall (s.pinGL n)

/-- SOk_H and SOk_L. -/
def State.ballSO (s : State) (k : Fin 8) (low : Bool) : PinLevel :=
  s.outBall (if low then (s.soPins k.val).2 else (s.soPins k.val).1)

/-- TPk: high but for its off-pulse, in reset too (R307). -/
def State.ballTP (s : State) (k : Fin 4) : PinLevel :=
  if s.rst.power ≠ .run then .open_
  else if s.rst.sources.contains .testMode || s.margin.tpOff.getLsbD k.val then .low else .high

/-- PWR_REQ (R471). -/
def State.ballPwrReq (s : State) : PinLevel := if s.rst.pwrReq then .high else .low

end Sys2Proof.Machine
end

