-- ==== Sys2Proof/Machine/Clock.lean ====
section
/-! DEFINITION. What one cycle of the TIME domain does when no command waits: the timebase advances (R401) and each port
that is UP sends the head frame of its highest class with one (R388). -/

namespace Sys2Proof.Machine

/-- One cycle of the timebase adds 4 ns and the slew's part (R401, R412): the rate that the servo steers is that of the TIME clock
itself. The fraction is in 1/2^32 ns. -/
def Timebase.advance (t : Timebase) : Timebase :=
  if !t.running then t
  else
    let base : Int := 4 * 2 ^ 32
    match t.slew with
    | none =>
      let sum := (t.time : Int) * 2 ^ 32 + t.frac + base
      { t with time := (sum / 2 ^ 32).toNat % 2 ^ 64, frac := (sum % 2 ^ 32).toNat }
    | some sl =>
      let part := min sl.left (divFree ((4 * 2 ^ 32 * sl.ppb : Nat) : Int) 1000000000).toNat
      let sum := (t.time : Int) * 2 ^ 32 + t.frac + base + (if sl.neg then -(part : Int) else (part : Int))
      { t with time := (sum / 2 ^ 32).toNat % 2 ^ 64, frac := (sum % 2 ^ 32).toNat,
               slew := some { sl with left := sl.left - part } }

/-- The head packet of the highest class that has one goes to the transmitter (R388). -/
def Port.takeHead (p : Port) : Port :=
  match p.q0, p.q1, p.q2 with
  | x :: l, _, _ => { p with q0 := l, onWire := x.wire, tx := satAdd p.tx 1 }
  | [], x :: l, _ => { p with q1 := l, onWire := x.wire, tx := satAdd p.tx 1 }
  | [], [], x :: l => { p with q2 := l, onWire := x.wire, tx := satAdd p.tx 1 }
  | [], [], [] => p

/-- One cycle of a port's transmitter at 10 Gbit/s: five bytes of the packet in transmission, which nothing pre-empts, leave; a free
transmitter takes the next packet (R378, R388). (DEDUCED, log 46) -/
def Port.drain (p : Port) : Port :=
  match p.onWire with
  | _ :: _ => { p with onWire := p.onWire.drop 5 }
  | [] => if p.lock then p.takeHead else p

/-- One cycle of the TIME domain.  The power-fail sequence stops the transmitters (R476). -/
def State.cycle (s : State) : State :=
  { s with now := s.now + 1, tb := s.tb.advance, fab := if s.host.txOff then s.fab else { s.fab with port := s.fab.port.map Port.drain } }

end Sys2Proof.Machine
end

