-- ==== Sys2Proof/Machine/QuireRows.lean ====
section
/-! DEFINITION. The Quire's own rows (06): a held post is acknowledged, a delayed item comes due, a free block is given an item. -/

namespace Sys2Proof.Machine

/-- QUIRE_POST_ACK: the oldest held post of the producer's share is acknowledged when the share has a free entry (R182). -/
def execQuirePostAck (p : Producer) (s : State) : Host.Outcome State Fault Refusal :=
  let q := s.quire
  match q.items.find? fun i => !i.live && shareKey i.producer == shareKey p with
  | none => .next s
  | some it =>
    if shareSize p ≤ q.used p then .next s
    else
      let q1 : Quire := { q with items := q.items.filter fun i => i.uid != it.uid }
      let q2 := q1.acknowledge it it.due s.now
      .next { s with
        quire := { q2 with
          pressed := if q2.holds p || shareSize p ≤ q2.used p then q2.pressed
            else q2.pressed.filter fun r => shareKey r != shareKey p } }

/-- The item is the first of its target's delay list, which is sorted by due tick and then by post (R179, R180). -/
def Quire.nextDue (q : Quire) (it : Item) : Bool :=
  q.items.all fun i => i.state != .delayed || i.target != it.target || decide (it.due < i.due)
    || (it.due == i.due && decide (it.uid ≤ i.uid))

/-- QUIRE_ITEM_DUE: the first item of a delay list, when its due tick has come, becomes WAITING, or READY at the head of its flow; one
that reaches READY more than one tick late is counted and reported (R173, R179, R180). -/
def execQuireItemDue (uid : Nat) (s : State) : Host.Outcome State Fault Refusal :=
  let q := s.quire
  match q.items.find? fun i => i.uid == uid && i.state == .delayed with
  | none => .next s
  | some it =>
    if !q.nextDue it || q.tick s.now < it.due then .next s
    else
      .next (({ s with quire := Quire.promote it.flow { q with
        items := q.items.map fun i => if i.uid = uid then { i with state := .waiting } else i } } : State).tellLate q)

/-- Items a target may hold in service at once (R175). -/
def serviceSlots : QTarget → Nat
  | .ductus => 8 | .folio => 64 | .stroke => 8 | .inkwell => 4

/-- The head of the ready list of a target at a priority: the longest READY (R177). -/
def Quire.readyHead (q : Quire) (t : QTarget) (prio : Nat) : Option Item :=
  (q.items.filter fun i => i.state == .ready && i.target == t && i.prio == prio).foldl
    (fun (b : Option Item) i => match b with
      | some x => if i.readyNo < x.readyNo then some i else some x
      | none => some i) none

/-- The item dispatched next, and whether it comes from a higher list while a lower one is non-empty (R177). (DEDUCED, log 39) -/
def Quire.choose (q : Quire) (t : QTarget) : Option (Item × Bool) :=
  match (List.range 4).filterMap fun p => q.readyHead t p with
  | [] => none
  | [a] => some (a, false)
  | a :: b :: _ => if vgetD q.streak (targetCode t) 0 < 63 then some (a, true) else some (b, false)

/-- The block is asked to take no new work before its reset of reach B (R454, codes of R340). (DEDUCED, log 39) -/
def State.asked (s : State) (t : QTarget) (i : Nat) : Bool :=
  match t with
  | .ductus => s.rst.block.contains (1, i)
  | .inkwell => s.rst.block.contains (3, 0)
  | .stroke => s.rst.block.contains (4, 0)
  | .folio => false

/-- An uncorrectable error in an item's entry: the item is DROPPED and 0x0607 raised (R187). A mailbox's command goes with its
item. (DEDUCED, log 39) -/
def State.loseEntry (it : Item) (s : State) : State :=
  let s1 := (s.raise 0x0607 ALARM it.flow (it.handle % 16384)).dropItem 2 it
  match it.work with
  | .command k => if (s1.mbox k).kept = some it.uid then s1 else s1.updMb k fun b => { b with taken := b.taken.drop 1 }
  | _ => s1

/-- QUIRE_DISPATCH: a free block of the target receives an item, whose entry is read; a corrected error is counted, an
uncorrectable one drops the item. The Inkwell controller serves a delivery in a cycle without a command; the other targets' rows serve
theirs. Items for the Folio wait until it has booted (R175, R177, R187). -/
def execQuireDispatch (t : QTarget) (block : Fin 64) (entry : ReadOutcome) (s : State) : Host.Outcome State Fault Refusal :=
  let q := s.quire
  let busy := q.items.any fun i => i.state == .inService && i.target == t && i.block == block.val
  if serviceSlots t ≤ block.val || busy || (t == .folio && !s.folio.mbReady) || s.asked t block.val then .next s
  else match q.choose t with
    | none => .next s
    | some (it, higher) =>
      if entry = .uncorrectable then .next (s.loseEntry it)
      else
      .next { s with
        quire := { q.enter it block.val higher with
          eccCorr := if entry = .corrected then satAdd q.eccCorr 1 else q.eccCorr } }

/-- The Inkwell controller completes the delivery it has served longest, if it serves one (R174). A cycle of the TIME domain without
a command is when it does so. (DESIGN CHOICE, log 39) -/
def State.inkwellServes (s : State) : State :=
  match s.quire.items.find? fun i => i.state == .inService && i.target == .inkwell with
  | some it => match it.work with
    | .delivery u d => (s.finish it.uid).serveDelivery u d
    | _ => s.finish it.uid
  | none => s

/-- What happens while no command waits: one cycle of the TIME domain, in which the ports send and the Inkwell serves. -/
def State.idle (s : State) : State := s.cycle.inkwellServes

end Sys2Proof.Machine
end

