-- ==== Sys2Proof/Machine/Stroke.lean ====
section
/-! DEFINITION. The stroke axes (10): their commands, the step generator, the coil loops, switches and encoders. -/

namespace Sys2Proof.Machine

/-- The header facts of an AXIS command. -/
def axHdr (op len auth : Nat) : Hdr :=
  { opcode := op, forms := [3], lenOk := lenIs len, minLen := len, auth := fun _ => auth }

/-- The verdict of a command with an AXIS target. -/
def axVerdict (f : Fin 8 → State → Verdict) (m : MbCmd) (s : State) : Verdict :=
  match tgtOf m.target with
  | .axis a => f a s
  | _ => .refuse RC_BAD_TARGET m.target.toNat []

/-- The refusal of a command that is not legal in the axis's state. -/
def Axis.notLegal (x : Axis) : Verdict := .refuse RC_STATE x.state.code []

/-! ### AX_CONFIG and AX_TABLE_LOAD (R279, R282, R283) -/

/-- A table is valid (R277); the first failing index. -/
def tableFault (t : List Nat) : Option Nat :=
  if t.getD 0 0 ≠ 0 then some 0
  else (List.range 255).find? fun k => t.getD (k + 1) 0 < t.getD k 0

/-- AK01 to AK17 in order: the condition and its reason. -/
def State.axChecks (s : State) (a : Fin 8) : List Check :=
  let x := s.ax a
  let c := x.cfg
  [(decide (4000 ≤ acPeriod c) && decide (acPeriod c ≤ 20000), RC_CFG_RANGE),
   (decide (8000 ≤ acK c * acPeriod c) && decide (acK c * acPeriod c ≤ 20000), RC_CFG_TIMING),
   (decide (10000 ≤ acShunt c) && decide (acShunt c ≤ 1000000), RC_CFG_RANGE),
   (decide (acSsMode c ≤ 2), RC_CFG_RANGE),
   (match x.hlim with
    | some h => crcOk 4 h
    | none => false, RC_HARD_LIMIT),
   (decide (1 ≤ acIrun c) && decide (acIrun c ≤ x.iHard) && decide (10 * (acIrun c * acShunt c) ≤ 9 * 320000000000), RC_HARD_LIMIT),
   (decide (acIhold c ≤ acIrun c) && decide (acIhome c ≤ acIrun c) && (acSsMode c != 0 || decide (1 ≤ acIhold c)), RC_CFG_CONFLICT),
   (decide (1 ≤ acVmax c) && decide (acVmax c ≤ min x.vHard 1280000), RC_HARD_LIMIT),
   (decide (1 ≤ acAcc c) && decide (acAcc c ≤ 1000000) && decide (1 ≤ acDec c) && decide (acDec c ≤ 1000000), RC_CFG_RANGE),
   (!acJerky c || (decide (1 ≤ acJerk c) && decide (acJerk c ≤ 1000000000)), RC_CFG_RANGE),
   (decide (1 ≤ acHomeDb c) && decide (acHomeDb c ≤ 100) && decide (1 ≤ acLimnDb c) && decide (acLimnDb c ≤ 100)
      && decide (1 ≤ acLimpDb c) && decide (acLimpDb c ≤ 100), RC_CFG_RANGE),
   (decide (0 < acDlim c) && decide (100 * acDlim c ≤ 95 * qOne) && decide (0 ≤ acKp c) && decide (0 ≤ acKi c), RC_CFG_RANGE),
   ((tableFault x.table).isNone, RC_CFG_CONFLICT),
   (!acEnc c || (decide (1 ≤ acCpfs c) && decide (acCpfs c ≤ 1024) && decide (256 ≤ acEncTol c)), RC_CFG_RANGE),
   (decide (1 ≤ acStallN c), RC_CFG_RANGE),
   ((s.servingNib 16).isSome, RC_HW_FAULT),
   (x.coilA.testOk && x.coilB.testOk, RC_HW_FAULT)]

/-- AX_CONFIG from DISABLED: the block is stored; with ENABLE the checks run and the axis enters IDLE, its coils ramping to
I_RUN, its encoder aligned to POSITION and the Margin's taps to the encoder (R282, R294, R316). -/
def State.axEnable (a : Fin 8) (b : Block) (s : State) : Verdict :=
  let s1 := s.updAx a fun x => { x.newCommand with cfg := b }
  if !acEnable b then .done s1 0 []
  else match firstFail 1 (s1.axChecks a) with
    | some (k, why) => .refuseIn (s1.raise 0x0A0A INFO a.val (k + 2 ^ 8 * why)) why k []
    | none =>
      .done ((s1.updAx a fun x => ((x.rampTo s.now (acIrun b)).alignEnc).enterIdle s.now).alignTaps a) 0 []

/-- AX_CONFIG with ENABLE = 0 from IDLE, STANDSTILL or FAULT: DISABLED with the coils OFF (R282, R316). -/
def State.axDisable (a : Fin 8) (b : Block) (s : State) : State :=
  (s.updAx a fun x => { x.newCommand.dark with
    cfg := b
    state := .disabled
    faultCause := 0
    waitRamp := false }).dropReference a

/-- Words of AX_CONFIG with their reserved bits. -/
def acReserved : List (Nat × Nat) := [(0, 0xFFFF70C2), (4, 0xFFF00000), (0x2C, 0xFF000000), (0x44, 0xFF000000)]

/-- AX_CONFIG (R282). -/
def execAxConfig (m : MbCmd) (s : State) : Host.Outcome State Fault Refusal :=
  .next ((axHdr 0x0801 96 2).run (axVerdict fun a t =>
    let x := t.ax a
    let b := blockFit 20 m.params
    if x.state = .disabled then reserved m acReserved <| t.axEnable a b
    else if (x.state == .idle || x.state == .standstill || x.state == .fault) && !acEnable b then
      reserved m acReserved <| .done (t.axDisable a b) 0 []
    else x.notLegal) m s)

/-- The 64 entries of a chunk. -/
def chunkEntries (p : Block) : List Nat := (List.range 64).map fun i => natAt p (4 + 4 * (i / 2)) / 2 ^ (16 * (i % 2)) % 65536

/-- A quarter of the table in use. -/
def Axis.quarter (x : Axis) (c : Nat) : List Nat := (x.chunks.getD c none).getD ((x.table.drop (64 * c)).take 64)

/-- AX_TABLE_LOAD (R279). A chunk that was not written keeps the quarter in use. (DEDUCED, log 41) -/
def execAxTableLoad (m : MbCmd) (s : State) : Host.Outcome State Fault Refusal :=
  .next ((axHdr 0x0802 148 2).run (axVerdict fun a t =>
    let x := t.ax a
    if x.state ≠ .disabled then x.notLegal
    else reserved m [(0, 0xFFFFFFFC)] <|
      let c := fieldAt m.params 0 1 0
      let e := chunkEntries m.params
      if c < 3 then .done (t.updAx a fun x => { x with chunks := lset x.chunks c (some e) }) 0 []
      else
        let whole := x.quarter 0 ++ x.quarter 1 ++ x.quarter 2 ++ e
        match tableFault whole with
        | some k => .refuse RC_CFG_RANGE k []
        | none =>
          .done (t.updAx a fun x => { x with
            table := whole
            chunks := [none, none, none] }) 0 []) m s)

/-! ### Moves (R285, R286, R288, R290) -/

/-- The soft limits are on and the target lies outside them (R285). -/
def Axis.softOut (x : Axis) (target : Int) : Bool :=
  decide (acSoftMin x.cfg < acSoftMax x.cfg) && x.homed
    && (decide (target < acSoftMin x.cfg) || decide (acSoftMax x.cfg < target))

/-- A move toward an active limit is refused (R290). -/
def Axis.limitRefusal (x : Axis) (target : Int) : Option (Nat × Nat) :=
  if x.pos < target && x.limpAct then some (RC_CFG_CONFLICT, 1)
  else if target < x.pos && x.limnAct then some (RC_CFG_CONFLICT, 2)
  else none

/-- A new target of a moving axis lies ahead by at least the stopping distance at DEC, jerk-limited with PROFILE 1 (R286). (DEDUCED,
log 12) -/
def Axis.ahead (x : Axis) (target : Int) : Bool :=
  decide (0 ≤ (target - x.pos) * x.dir) && x.stopsWithin (target - x.pos).natAbs

/-- The axis takes a move: from STANDSTILL its profile waits for the coils (R286); from rest no full step is under way (R289). -/
def Axis.takeMove (now : Nat) (target : Int) (v : Nat) (x : Axis) : Axis :=
  let y := { (if x.vSq = 0 then x.clearStall else x).newCommand.rampTo now (acIrun x.cfg) with
    target := target
    vMove := v }
  match x.state with
  | .standstill => { y with state := .moving, waitRamp := true }
  | .reversing => y
  | _ => { y with state := if x.vSq = 0 || x.ahead target then .moving else .reversing }

/-- AX_MOVE (R285, R286, R290, R319). -/
def execAxMove (m : MbCmd) (s : State) : Host.Outcome State Fault Refusal :=
  .next ((axHdr 0x0804 28 1).run (axVerdict fun a t =>
    let x := t.ax a
    let p := m.params
    let target := if bitAt p 0 0 then wrap32 (x.target + intAt p 4) else intAt p 4
    let v := natAt p 8
    if !(x.state == .idle || x.state == .standstill || x.state == .moving || x.state == .reversing)
        || t.linear.any (Linear.has a) then x.notLegal
    else reserved m [(0, 0xFFFFFFFE)] <|
      orElse (safetyRefusal (t.axisLock a)) <|
      orElse (if acVmax x.cfg < v then some (RC_CFG_RANGE, 8) else none) <|
      orElse (if x.softOut target then some (RC_CFG_RANGE, 4) else none) <|
      orElse (x.limitRefusal target) <|
      let t1 := t.updAx a (Axis.takeMove t.now target (if v = 0 then acVmax x.cfg else v))
      .accepted (t1.energise a x) (t1.ax a).state.code []) m s)

/-- AX_MOVE_DONE: the axis is at its target at rest (R285, R288). -/
def execAxMoveDone (a : Fin 8) (s : State) : Host.Outcome State Fault Refusal :=
  let x := s.ax a
  let lin := s.linear.find? (Linear.has a)
  let arrived := match lin with
    | some l => decide (l.travel.natAbs ≤ l.prog.toNat) && !l.stopping
    | none => decide (x.pos = x.target)
  if x.state = .moving && arrived && !x.waitRamp then
    .next (((s.updAx a fun x => { x.enterIdle s.now with vSq := 0 }).leaveLinear a).raise 0x0A01 INFO a.val (p32 x.pos))
  else .next s

/-- The axes of an AXIS_MASK target. -/
def axisMask (w : Word) : List (Fin 8) :=
  match tgtOf w with
  | .axes m => allAxes.filter fun a => m.testBit a.val
  | _ => []

/-- The first refusal over a list of axes. -/
def firstRefusal (f : Fin 8 → Option (Nat × Nat)) (l : List (Fin 8)) : Option (Nat × Nat) := (l.filterMap f).head?

/-- The start of a linear move: the lead is the axis of largest travel, the lowest-numbered on a tie (R288 item 1); JERK counts of the
axes with PROFILE 1 (R282). (DEDUCED, log 41) -/
def State.startLinear (l : List (Fin 8)) (dest : Fin 8 → Int) (s : State) : State :=
  let ms := l.map fun a => (a, (s.ax a).pos, dest a - (s.ax a).pos)
  match ms with
  | [] => s
  | m0 :: rest =>
    let ld := rest.foldl (fun b m => if b.2.2.natAbs < m.2.2.natAbs then m else b) m0
    let tr := ld.2.2.natAbs
    let lim (f : Axis → Nat) : Nat := leadLimit (fun a => f (s.ax a)) tr ms (f (s.ax ld.1))
    let lin : Linear :=
      { lead := ld.1, travel := ld.2.2, members := ms, prog := 0, vSq := 0,
        vMax := lim fun x => acVmax x.cfg,
        acc := lim fun x => acAcc x.cfg, dec := lim fun x => acDec x.cfg,
        jerk := leadLimit (fun a => acJerk (s.ax a).cfg) tr (ms.filter fun m => acJerky (s.ax m.1).cfg) (acJerk (s.ax ld.1).cfg),
        stopping := false, quick := false }
    let s1 := forAll (fun a t => t.updAx a (Axis.takeMove s.now (dest a) (acVmax (s.ax a).cfg))) l s
    { s1 with linear := s1.linear ++ [lin] }

/-- AX_MOVE_LINEAR (R288, R290, R319). -/
def execAxMoveLinear (m : MbCmd) (s : State) : Host.Outcome State Fault Refusal :=
  .next (({ opcode := 0x0805, forms := [4], lenOk := lenIs 48, minLen := 48, auth := fun _ => 1 } : Hdr).run (fun m t =>
    let l := axisMask m.target
    let dest (a : Fin 8) : Int := intAt m.params (4 * a.val)
    orElse (firstRefusal (fun a =>
        if (t.ax a).state == .idle || (t.ax a).state == .standstill then none else some (RC_STATE, (t.ax a).state.code)) l) <|
    orElse (firstRefusal (fun a => safetyRefusal (t.axisLock a)) l) <|
    orElse (firstRefusal (fun a => if (t.ax a).softOut (dest a) then some (RC_CFG_RANGE, 4 * a.val) else none) l) <|
    orElse (firstRefusal (fun a => (t.ax a).limitRefusal (dest a)) l) <|
    .accepted (forAll (fun a u => u.energise a (t.ax a)) l (t.startLinear l dest)) 0 []) m s)

/-- AX_STOP (R287): its response follows when the axis is at rest (R362). -/
def execAxStop (m : MbCmd) (s : State) : Host.Outcome State Fault Refusal :=
  .next ((axHdr 0x0806 20 1).run (axVerdict fun a t =>
    let x := t.ax a
    if x.state = .disabled || x.state = .fault then x.notLegal
    else reserved m [(0, 0xFFFFFFFE)] <|
      let u := (t.updAx a Axis.newCommand).stopAxis a (bitAt m.params 0 0)
      if (u.ax a).state = .stopping then .hold (u.updAx a fun x => { x with stops := x.stops ++ [m] })
      else .done u 0 []) m s)

/-! ### Homing (R291, R292) -/

/-- AX_HOME starts a sequence: HOME_SET needs no motion, HOME_HARDSTOP first ramps to I_HOME. -/
def Axis.startHoming (now : Nat) (b : Block) (x : Axis) : Axis :=
  let method := hmMethod b
  let phase : HomePhase := if method = 3 then .finished else if method = 2 then .ramp else .seek
  let h : Homing :=
    { cmd := b, phase := phase, travel := 0, reversed := false, origin := if method = 3 then some x.pos else none, stallRun := 0 }
  { x.clearStall.newCommand.rampTo now (if method = 2 then acIhome x.cfg else acIrun x.cfg) with
    state := .homing
    homing := some h
    waitRamp := x.state == .standstill || method == 2 }

/-- AX_HOME (R291, R319). (DEDUCED, log 41) -/
def execAxHome (m : MbCmd) (s : State) : Host.Outcome State Fault Refusal :=
  .next ((axHdr 0x0803 40 1).run (axVerdict fun a t =>
    let x := t.ax a
    let b := blockFit 6 m.params
    if !(x.state == .idle || x.state == .standstill) then x.notLegal
    else reserved m [(0, 0xFFFFFFEC)] <|
      orElse (safetyRefusal (t.axisLock a)) <|
      orElse (if acVmax x.cfg < hmFast b then some (RC_CFG_RANGE, 4) else none) <|
      orElse (if hmSlow b < 1 || hmFast b < hmSlow b then some (RC_CFG_RANGE, 8) else none) <|
      orElse (if intAt b 0xC < 0 then some (RC_CFG_RANGE, 0xC) else none) <|
      orElse (if hmTravel b < 1 then some (RC_CFG_RANGE, 0x14) else none) <|
      orElse (if hmMethod b = 1 && !acEnc x.cfg then some (RC_CFG_CONFLICT, 0) else none) <|
      let t1 := t.updAx a (Axis.startHoming t.now b)
      .accepted (t1.energise a x) (t1.ax a).state.code []) m s)

/-- An SLP function that names the axis is demanded, in either Margin channel (R316). -/
def State.slpDemanded (s : State) (a : Fin 8) : Bool :=
  (List.range 16).any fun f =>
    fnKind s.margin.conf f == 3 && (fnAxMask s.margin.conf f).testBit a.val
      && ((vgetD s.margin.a.fns f {}).demanded || (vgetD s.margin.b.fns f {}).demanded)

/-- The stroke unit passes a homing's shift to both Margin channels, for both of their position sources: the axis becomes referenced,
or the old reference is kept (R316). (DEDUCED, log 42) -/
def State.reference (a : Fin 8) (shift : Int) (s : State) : State :=
  if s.slpDemanded a then s
  else
    let s1 := s.bothChannels fun c => (c.shiftTap a shift).shiftEnc a shift
    { s1 with margin := { s1.margin with referenced := s1.margin.referenced ||| BitVec.ofNat 8 (2 ^ a.val) } }

/-- AX_HOME_DONE: the origin reads HOME_OFFSET, the target moves with it, the phase stays; or the sequence has failed (R291,
R292, R294). -/
def execAxHomeDone (a : Fin 8) (s : State) : Host.Outcome State Fault Refusal :=
  let x := s.ax a
  match x.homing with
  | none => .next s
  | some h =>
    match h.phase with
    | .finished =>
      let shift := wrap32 (hmOffset h.cmd - h.origin.getD x.pos)
      let s1 := s.updAx a fun x => { x.enterIdle s.now with
        homing := none
        pos := wrap32 (x.pos + shift)
        target := wrap32 (x.target + shift)
        phaseOff := x.phaseOff + (wrap32 (x.pos + shift) - x.pos)
        homed := true
        posUncertain := false
        encCount := 0
        encAlign := wrap32 (x.pos + shift) }
      .next ((s1.reference a shift).raise 0x0A02 INFO a.val (hmMethod h.cmd + 2 ^ 32 * p32 shift))
    | .failed r =>
      .next ((s.updAx a fun x => { x.enterIdle s.now with homing := none }).raise 0x0A04 NOTICE a.val r)
    | _ => .next s

/-! ### Standstill (R293) and the level ramp (R281, R286) -/

/-- AX_STANDSTILL (R293). MODE 3 is not a mode. -/
def execAxStandstill (m : MbCmd) (s : State) : Host.Outcome State Fault Refusal :=
  .next ((axHdr 0x0808 20 1).run (axVerdict fun a t =>
    let x := t.ax a
    let mode := fieldAt m.params 0 1 0
    if !(x.state == .idle || x.state == .standstill) then x.notLegal
    else reserved m [(0, 0xFFFFFFFC)] <|
      if mode = 3 then .refuse RC_BAD_FIELD 0 []
      else
        let t1 := (t.updAx a Axis.newCommand).standstill a mode
        .done (if mode = 0 then t1.energise a x else t1) 0 []) m s)

/-- AX_IDLE_TIMEOUT: the axis has been IDLE for IDLE_TIMEOUT (R293). -/
def execAxIdleTimeout (a : Fin 8) (s : State) : Host.Outcome State Fault Refusal :=
  let x := s.ax a
  if x.state = .idle && acIdle x.cfg != 0 && decide (x.idleAt + acIdle x.cfg * msCycles ≤ s.now) then .next (s.standstill a (acSsMode x.cfg)) else .next s

/-- COIL_RAMP_DONE: the coils have their level; a waiting profile starts, the stall seek among them (R281, R286, R291). -/
def execCoilRampDone (a : Fin 8) (s : State) : Host.Outcome State Fault Refusal :=
  .next (if s.now < (s.ax a).rampAt + msCycles then s else s.updAx a fun x => { (if x.vSq = 0 then x.clearStall else x) with
    level := x.levelTo
    waitRamp := false
    homing := x.homing.map fun h => if h.phase = .ramp then h.go .stall else h })

/-! ### The step generator and the coil loops -/

/-- STEP_GENERATOR_UPDATE (R284); a stop that has come to rest is answered (R362). -/
def execStepGeneratorUpdate (a : Fin 8) (s : State) : Host.Outcome State Fault Refusal :=
  .next (forAll State.answerStops allAxes (s.stepGenerator a))

/-- One coil's loop (R275): the loop sample `i`, the reference already clamped. -/
def coilEvaluate (c : Block) (claim : BitVec 4) (ref i : Int) (x : Coil) : Coil :=
  let eX := divRound ((ref - i) * 2 ^ 30 * acShunt c) 320000000000
  let e := sat eX
  let preX := roundQ (acKp c * e + x.integ * 2 ^ 30)
  let pre := sat preX
  let free := decide (-(acDlim c) < pre) && decide (pre < acDlim c)
  let inX := roundQ (acKi c * e + x.integ * 2 ^ 30)
  let integ := if free then sat inX else x.integ
  let outX := roundQ (acKp c * e + integ * 2 ^ 30)
  let u := clampInt (-(acDlim c)) (acDlim c) (sat outX)
  let on := divRound (u * acPeriod c) (2 ^ 30)
  { x with
    integ := integ
    sample := i
    heldWord := BitVec.ofNat 64 (claim.toNat * 2 ^ 60 + (on % 2 ^ 20).toNat * 2 ^ 20 + acPeriod c)
    fresh := true
    absE := x.absE + e.natAbs
    absN := x.absN + 1
    sat := x.sat || atBound eX || atBound preX || (free && atBound inX) || atBound outX }

/-- Overcurrent evaluations in a row (R294 cause 1). (DEDUCED, log 42) -/
def Coil.judge (iHard : Nat) (x : Coil) : Coil :=
  { x with overCnt := if 9 * iHard < 8 * x.sample.natAbs then x.overCnt + 1 else 0 }

/-- The loop sample: the mean of K codes of a 12-bit converter of ±320 mV (R274, R275), in µA. -/
def coilSample (c : Block) (codes : List Int) : Int :=
  divFree (codes.foldl (· + ·) 0 * 320000000000) (2048 * acShunt c * codes.length)

/-- COIL_EVALUATION: the serving Nib of GM takes the K samples of both coils and writes their words (R275, R276, R294, R295); a
bad residue is a Nib fault and no word is written (R208). (DEDUCED, log 42) -/
def execCoilEvaluation (a : Fin 8) (codes : List (Int × Int)) (residueOk : Bool) (s : State) : Host.Outcome State Fault Refusal :=
  let x := s.ax a
  let c := x.cfg
  match s.servingNib 16 with
  | none => .next s
  | some k =>
    if !x.looping || acShunt c = 0 || codes.length ≠ acK c then .next s
    else if !residueOk then .next (s.nibFault k false)
    else
      let (ra, rb) : Int × Int := x.coilRefs (x.levelAt s.now)
      let hard : Int := x.iHard
      let claim := s.nibs.writeClaim
      let ia := coilSample c (codes.map fun p => p.1)
      let ib := coilSample c (codes.map fun p => p.2)
      let s1 := s.updAx a fun x => { x with
        coilA := (coilEvaluate c claim (clampInt (-hard) hard ra) ia x.coilA).judge x.iHard
        coilB := (coilEvaluate c claim (clampInt (-hard) hard rb) ib x.coilB).judge x.iHard
        wordNew := x.wordNew || x.overdue == 0
        overdue := x.overdue - 1 }
      let s2 := if x.iHard < ra.natAbs || x.iHard < rb.natAbs then s1.hardClamp a 1 else s1
      let y := s2.ax a
      .next (if 4 ≤ y.coilA.overCnt || 4 ≤ y.coilB.overCnt then s2.axisFault a 1 else s2)

/-! ### Switches and encoders (R289, R290, R294) -/

def Axis.switch (x : Axis) : Switch → SwitchIn
  | .limp => x.limp
  | .limn => x.limn
  | .home => x.home

def Axis.setSwitch (sw : Switch) (i : SwitchIn) (x : Axis) : Axis :=
  match sw with
  | .limp => { x with limp := i }
  | .limn => { x with limn := i }
  | .home => { x with home := i }

def switchCode : Switch → Nat
  | .limp => 0
  | .limn => 1
  | .home => 2

/-- The debounce time of a switch, in 0.1 ms (R282). -/
def Axis.debounceOf (sw : Switch) (x : Axis) : Nat :=
  match sw with
  | .limp => acLimpDb x.cfg
  | .limn => acLimnDb x.cfg
  | .home => acHomeDb x.cfg

/-- SWITCH_RAW_EDGE: an edge away from the debounced level begins a run and records POSITION; one back to it before the
debounce time counts in CHATTER (R289, R298). -/
def execSwitchRawEdge (a : Fin 8) (sw : Switch) (level : Bool) (s : State) : Host.Outcome State Fault Refusal :=
  let x := s.ax a
  let i := x.switch sw
  if i.raw = level then .next s
  else if level ≠ i.level then
    .next ((s.startTimer (.switch a sw) (x.debounceOf sw * 25000)).updAx a
      (Axis.setSwitch sw { i with raw := level, edgePos := x.pos, pendingEdge := true }))
  else
    let n := satAdd x.chatter 1
    let s1 := s.updAx a fun x => { x.setSwitch sw { i with raw := level, pendingEdge := false } with
      chatter := n
      chatterSeen := true }
    .next (if x.chatterSeen then s1 else s1.raise 0x0A08 INFO a.val (switchCode sw + 2 ^ 32 * n))

/-- A limit has become active while the axis moves toward it: QUICK stop and 0x0A03; a homing sequence judges it (R290, R292,
R297). -/
def State.limitHit (a : Fin 8) (which : Nat) (s : State) : State :=
  let s1 := s.raise 0x0A03 NOTICE a.val (which + 2 ^ 32 * p32 (s.ax a).pos)
  if (s.ax a).state = .homing then
    s1.updAx a fun x => let y := x.homeJudge s.now
      { y with homing := y.homing.map Homing.hurry }
  else s1.stopAxis a true

/-- SWITCH_DEBOUNCED: the raw level has been stable for the debounce time (R289). -/
def execSwitchDebounced (a : Fin 8) (sw : Switch) (s : State) : Host.Outcome State Fault Refusal :=
  let i := (s.ax a).switch sw
  if !i.pendingEdge || !s.ranOut (.switch a sw) then .next s
  else
    let toward := (s.ax a).motionDir
    let s1 := s.updAx a (Axis.setSwitch sw { i with level := i.raw, pendingEdge := false })
    let x := s1.ax a
    .next (match sw with
      | .limp => if x.limpAct && 0 < toward then s1.limitHit a 0 else s1
      | .limn => if x.limnAct && toward < 0 then s1.limitHit a 1 else s1
      | .home => if x.state = .homing then s1.updAx a (Axis.homeJudge s.now) else s1)

/-- ENCODER_EDGE: a quadrature count of the axis and of the Margin (R294, R316), or the index edge that a homing awaits (R291,
R297). -/
def execEncoderEdge (a : Fin 8) (e : EncEdge) (s : State) : Host.Outcome State Fault Refusal :=
  match e with
  | .index =>
    .next (s.updAx a fun x => { x with
      homing := x.homing.map fun h =>
        if h.phase = .toIndex then { h.go (.final (x.limitIn (hmDir h.cmd))) with origin := some x.pos } else h })
  | _ =>
    let d : Int := if e = .up then 1 else -1
    let s1 := s.updAx a fun x => { x with encCount := x.encCount + d }
    .next ((s1.bothChannels (MChan.edge a d)).encCheck a)

/-! ### AX_STATUS (R296) -/

/-- The payload. -/
def State.axStatus (s : State) (a : Fin 8) : Block :=
  let x := s.ax a
  [w32 (x.faultCause * 2 ^ 16 + b2n (x.coilA.sat || x.coilB.sat) * 2 ^ 13 + b2n (s.linear.any (Linear.has a)) * 2 ^ 12
      + b2n x.home.level * 2 ^ 11 + b2n x.limn.level * 2 ^ 10 + b2n x.limp.level * 2 ^ 9 + b2n x.posUncertain * 2 ^ 8
      + b2n x.homed * 2 ^ 7 + x.state.code),
   wInt x.pos, wInt x.target, wInt (x.dir * rootNear x.vSq),
   wInt (if acEnc x.cfg && acCpfs x.cfg != 0 then divFree (x.encCount * 256) (acCpfs x.cfg) + x.encAlign else 0),
   wInt x.coilA.sample, wInt x.coilB.sample, wInt x.stall, w32 x.chatter, w32 x.claimRefused]

/-- AX_STATUS. -/
def execAxStatus (m : MbCmd) (s : State) : Host.Outcome State Fault Refusal :=
  .next ((axHdr 0x0807 16 0).run (axVerdict fun a t => .done t 0 (t.axStatus a)) m s)

end Sys2Proof.Machine
end

