-- ==== Sys2Proof/Machine/Time.lean ====
section
/-! DEFINITION. The rows of the timebase (15): steps and slews, the servo and its PTP messages, time outputs, slots and captures. -/

namespace Sys2Proof.Machine

/-! ### Configuration (R373) -/

/-- Fields of TIME_CONFIG. -/
def tcPri2 (c : Block) : Nat := fieldAt c 0 31 24
def tcPri1 (c : Block) : Nat := fieldAt c 0 23 16
def tcDomain (c : Block) : Nat := fieldAt c 0 15 8
def tcPortEn (c : Block) (p : Fin 4) : Bool := bitAt c 0 (4 + p.val)
def tcP2p (c : Block) : Bool := bitAt c 0 2
def tcRole (c : Block) : Nat := fieldAt c 0 1 0
def tcRxLat (c : Block) (p : Fin 4) : Nat := fieldAt c (4 + 4 * p.val) 31 16
def tcTxLat (c : Block) (p : Fin 4) : Nat := fieldAt c (4 + 4 * p.val) 15 0
def tcThresh (c : Block) : Nat := natAt c 0x14

/-- The timebase with a part changed. -/
def State.updTb (f : Timebase → Timebase) (s : State) : State := { s with tb := f s.tb }

/-! ### Compare entries (R415 to R417) -/

/-- Output 0 to 3 or slot 4 to 19 of the entries. -/
def State.entry (s : State) (i : Nat) : TimeOut := if i < 4 then vgetD s.tb.tout i {} else vgetD s.tb.slot (i - 4) {}
def State.setEntry (i : Nat) (x : TimeOut) (s : State) : State :=
  s.updTb fun t => if i < 4 then { t with tout := vsetD t.tout i x } else { t with slot := vsetD t.slot (i - 4) x }

/-- INDEX of an entry. -/
def entryIndex (i : Nat) : Nat := if i < 4 then i else 12 + i

/-- The first compare time of an entry after `t`, none when it has no more. (DEDUCED, log 49) -/
def TimeOut.after (x : TimeOut) (t : Nat) : Option Nat :=
  if t < x.start then some x.start
  else if x.periodic && x.period ≠ 0 then some (x.start + ((t - x.start) / x.period + 1) * x.period)
  else none

/-- A unit that has its sequencer at work. -/
def Pounce.watching (p : Pounce) : Bool := p.state == .armed || p.state == .triggered || p.state == .streaming

/-- A slot raises its signal for the units' terms (R225). -/
def State.slotSignal (k : Nat) (s : State) : State :=
  { s with pounce := s.pounce.map fun p =>
      if p.watching then { p with seen := { p.seen with slots := p.seen.slots ++ [k] } } else p }

/-- An entry fires once: an output's pulse or change of level, or a slot's signal. (DEDUCED, log 49) -/
def State.fire (i : Nat) (s : State) : State :=
  let x := s.entry i
  let y := { x with next := x.after s.tb.time }
  if i < 4 then
    s.setEntry i (if x.toggle then { y with level := !x.level } else { y with
      level := true
      pulse := some (s.now + (x.width + 3) / 4) })
  else State.slotSignal (i - 4) (s.setEntry i y)

/-- COMPARE_FIRE: TIME is at or past the entry's compare time. -/
def execCompareFire (i : Fin 20) (s : State) : Host.Outcome State Fault Refusal :=
  match (s.entry i.val).en, (s.entry i.val).next with
  | true, some t => .next (if t ≤ s.tb.time then s.fire i.val else s)
  | _, _ => .next s

/-- TOUT_PULSE_END: WIDTH_NS in TIME cycles, rounded up, have passed (R415). -/
def execToutPulseEnd (i : Fin 4) (s : State) : Host.Outcome State Fault Refusal :=
  let x := vget s.tb.tout i
  match x.pulse with
  | some e =>
    .next (if e ≤ s.now then s.setEntry i.val { x with
      level := false
      pulse := none } else s)
  | none => .next s

/-- Compare times of an entry in the range from its next one up to `t`. -/
def TimeOut.passed (x : TimeOut) (t : Nat) : Nat :=
  match x.en, x.next with
  | true, some n => if t < n then 0 else if x.periodic && x.period ≠ 0 then (t - n) / x.period + 1 else 1
  | _, _ => 0

/-- A forward step passes compare times of entry `i`: it fires once (R417). -/
def State.missed (i : Nat) (s : State) : State :=
  let n := (s.entry i).passed s.tb.time
  if n = 0 then s else (s.fire i).raise 0x0E07 NOTICE (entryIndex i) (min n 0xFFFFFFFF)

/-! ### Steps and slews (R411 to R413) -/

/-- The servo changes state: vector 18 on entry into or exit from LOCKED and on entry into HOLDOVER (R341). -/
def State.setServo (v : Servo) (s : State) : State :=
  let t := s.updTb fun b => { b with servo := v }
  if (s.tb.servo == .locked) != (v == .locked) || (v == .holdover && s.tb.servo != .holdover) then t.irq 18 else t

/-- The PERIODIC interval of a channel that writes records is closed by a step (R249). (DEDUCED, log 31) -/
def State.stepInterval (n : Fin 256) (s : State) : State := if s.ink.writes (s.ch n).state then s.closeInterval n else s

/-- Its next interval starts at the step (R249). -/
def State.stepOpen (n : Fin 256) (s : State) : State := if s.ink.writes (s.ch n).state then s.openInterval n else s

/-- A signed value clipped to `n` bits, as it stands in a PARAM. -/
def clipBits (n : Nat) (x : Int) : Nat := (clampInt (-(2 ^ (n - 1) : Nat)) ((2 ^ (n - 1) : Nat) - 1) x % (2 ^ n : Nat)).toNat

/-- A step to a new TIME; `own`: 1 a TIME_SET, 0 the servo. A step of zero is not a step (R411, R417). -/
def State.stepTo (own new : Nat) (s : State) : State :=
  let old := s.tb.time
  if new = old then s
  else
    let era := if new < old then (s.tb.era + 1) % 256 else s.tb.era
    let source := if s.tb.valid then own else 2
    let s1 := forAll State.stepOpen allChannels ((forAll State.stepInterval allChannels s).updTb fun t => { t with
      time := new
      frac := 0
      era := era
      slew := none })
    let s2 := (s1.eraStep s.tb.era old).markTime
    let s3 := (s2.raise 0x0E03 NOTICE 0 (clipBits 48 ((new : Int) - old) + 2 ^ 48 * era + 2 ^ 56 * source)).irq 18
    if old < new then forAll State.missed (List.range 20) s3 else s3

/-- TIME_SET and TIME_SLEW are legal in FREE and HOLDOVER only (R373). -/
def State.whileFree (s : State) (k : Verdict) : Verdict :=
  if s.tb.servo = .free || s.tb.servo = .holdover then k else .refuse RC_STATE s.tb.servo.code []

/-- A header of the time commands. -/
def timeHdr (op len auth : Nat) : Hdr := { opcode := op, lenOk := lenIs len, minLen := len, auth := fun _ => auth }

/-- TIME_SET. -/
def execTimeSet (m : MbCmd) (s : State) : Host.Outcome State Fault Refusal :=
  .next ((timeHdr 0x0B02 24 2).run (fun m t => t.whileFree <|
    let v := natAt64 m.params 0
    let u := (State.stepTo 1 v (t.updTb fun b => { b with slew := none })).updTb fun b => { b with valid := true }
    .done (u.raise 0x0E09 NOTICE 0 v) 0 []) m s)

/-- TIME_SLEW's own part: it replaces a slew in progress. (DEDUCED, log 48) -/
def State.timeSlew (m : MbCmd) (s : State) : Verdict :=
  let off := intAt64 m.params 0
  let ppb := natAt m.params 8
  s.whileFree <|
    if ppb < 1 || 500000 < ppb then .refuse RC_CFG_RANGE 8 []
    else
      .done (s.updTb fun t => { t with
        slew := some { left := off.natAbs * 2 ^ 32, neg := decide (off < 0), ppb := ppb, total := off } }) 0
        (words64 ((off.natAbs * 1000000000 + ppb - 1) / ppb))

/-- TIME_SLEW. -/
def execTimeSlew (m : MbCmd) (s : State) : Host.Outcome State Fault Refusal :=
  .next ((timeHdr 0x0B03 28 2).run (fun m t => t.timeSlew m) m s)

/-- TIME_SLEW_DONE: the offset is removed. (DEDUCED, log 48) -/
def execTimeSlewDone (s : State) : Host.Outcome State Fault Refusal :=
  match s.tb.slew with
  | some x =>
    .next (if x.left = 0 then (s.updTb fun t => { t with slew := none }).raise 0x0E06 INFO 0 (x.total % 2 ^ 64).toNat else s)
  | none => .next s

/-- TIME_MARK_WRITE: once a second (R403). -/
def execTimeMarkWrite (s : State) : Host.Outcome State Fault Refusal :=
  .next (if s.tb.running && decide (s.tb.markAt + second ≤ s.now) then (s.updTb fun t => { t with markAt := s.now }).markTime else s)

/-! ### TIME_CONFIG (R406) -/

/-- ROLE = 2, or a role that cannot be master, puts the servo in FREE, at the nominal rate; a change of DOMAIN or P2P sends LOCKED back to LOCKING.
(DEDUCED, log 48) -/
def State.applyTimeConfig (old new : Block) (s : State) : State :=
  let changed := tcDomain old != tcDomain new || tcP2p old != tcP2p new
  let drop (t : State) : State := (t.setServo .free).updTb fun b => { b with
    rate := 0
    master := none
    foreign := []
    pendSync := none
    goodSyncs := 0 }
  if tcRole new = 2 then drop s
  else if tcRole new = 0 && s.tb.servo = .master then drop s
  else if changed && s.tb.servo = .locked then (s.setServo .locking).updTb fun b => { b with
    goodSyncs := 0
    pendSync := none
    slew := none }
  else s

/-- TIME_CONFIG. -/
def execTimeConfig (m : MbCmd) (s : State) : Host.Outcome State Fault Refusal :=
  .next ((timeHdr 0x0B01 40 2).run (fun m t => reserved m [(0, 8)] <|
    if tcRole m.params = 3 then .refuse RC_BAD_FIELD 0 []
    else
      let c := blockFit 6 m.params
      let u := ({ t with
        tb := { t.tb with cfg := c }
        vel := { t.vel with timeCfg := some c } } : State).persist 7 3
      .done (u.applyTimeConfig t.tb.cfg c) 0 []) m s)

/-! ### TIME_OUT_CONFIG (R415, R419) -/

/-- The entry that an INDEX names. -/
def outEntry (i : Nat) : Option Nat := if i < 4 then some i else if 16 ≤ i ∧ i < 32 then some (i - 12) else none

/-- TK01 to TK05 in order: each check and its reason. -/
def State.outChecks (s : State) (p : Block) (slot : Bool) : List (Bool × Nat) :=
  let toggle := bitAt p 0 2
  let periodic := bitAt p 0 1
  let period := natAt p 0xC
  let width := natAt p 0x10
  [(natAt p 0 < 8, RC_BAD_FIELD),
   (!periodic || (1000 ≤ period && period ≤ 4000000000), RC_CFG_RANGE),
   (!slot || (!toggle && width == 0), RC_CFG_CONFLICT),
   (slot || toggle || (8 ≤ width && (!periodic || width + 8 ≤ period)), RC_CFG_TIMING),
   (periodic || s.tb.time + 10000 ≤ natAt64 p 4, RC_CFG_TIMING)]

/-- The first failing check: its reason and number. -/
def outFail (k : Nat) : List (Bool × Nat) → Option (Nat × Nat)
  | [] => none
  | (ok, why) :: l => if ok then outFail (k + 1) l else some (why, k)

/-- TIME_OUT_CONFIG's own part. (DEDUCED, log 49) -/
def State.timeOut (m : MbCmd) (s : State) : Verdict :=
  let p := m.params
  match outEntry (bits m.target 7 0) with
  | none => .refuse RC_BAD_TARGET m.target.toNat []
  | some i =>
    if !bitAt p 0 0 then
      reserved m [(0, 0xFFFFFFF8)] <| .done (s.setEntry i { s.entry i with
        en := false
        next := none
        level := false
        pulse := none }) 0 []
    else orElse (outFail 1 (s.outChecks p (decide (4 ≤ i)))) <|
      .done (s.setEntry i { en := true, toggle := bitAt p 0 2, periodic := bitAt p 0 1, start := natAt64 p 4, period := natAt p 0xC,
                            width := natAt p 0x10, next := some (natAt64 p 4) }) 0 []

/-- TIME_OUT_CONFIG. -/
def execTimeOutConfig (m : MbCmd) (s : State) : Host.Outcome State Fault Refusal :=
  .next (({ opcode := 0x0B04, forms := [7], index := fun i => (outEntry i).isSome, lenOk := lenIs 36, minLen := 36,
            auth := fun _ => 1 } : Hdr).run (fun m t => t.timeOut m) m s)

/-! ### Captures (R418) -/

/-- TIN_CAPTURE: an edge on an input; the value is TIME at the edge. A level held for less than 12 ns,
and an edge to the level that the input has, are not seen. (DEDUCED, log 49) -/
def execTinCapture (i : Fin 4) (e : TinEdge) (s0 : State) : Host.Outcome State Fault Refusal :=
  let falling := e.falling
  if e.held < 12 || (vget s0.tb.tin i).level != falling then .next s0
  else
  let s := s0.updTb fun t => { t with tin := vset t.tin i { vget t.tin i with level := !falling } }
  let x := vget s.tb.tin i
  let seen (t : State) : State := { t with pounce := t.pounce.map fun p =>
      if p.watching then { p with seen := { p.seen with tins := p.seen.tins ++ [i.val] } } else p }
  if x.queue.length < 64 then
    .next (seen (s.updTb fun t => { t with tin := vset t.tin i { x with queue := x.queue ++ [(s.tb.time, s.tb.era, falling)] } }))
  else
    let n := min (x.lost + 1) 0xFFFF
    let t := s.updTb fun t => { t with tin := vset t.tin i { x with
      lost := n
      told := true } }
    .next (seen (if x.told then t else t.raise 0x0E08 NOTICE i.val n))

/-- TIME_CAPTURE_READ's own part. -/
def State.captureRead (m : MbCmd) (s : State) : Verdict :=
  let i := Fin.ofNat 4 (bits m.target 7 0)
  let x := vget s.tb.tin i
  let l := x.queue.take 14
  .done (s.updTb fun t => { t with tin := vset t.tin i { level := x.level, queue := x.queue.drop 14 } }) 0
    (w32 (x.lost * 2 ^ 16 + l.length) :: l.flatMap fun e => words64 e.1 ++ [w32 (e.2.1 % 256 + 256 * b2n e.2.2), 0])

/-- TIME_CAPTURE_READ. -/
def execTimeCaptureRead (m : MbCmd) (s : State) : Host.Outcome State Fault Refusal :=
  .next (({ opcode := 0x0B05, forms := [7], index := fun i => decide (i < 4), lenOk := lenIs 16, minLen := 16,
            auth := fun _ => 1 } : Hdr).run (fun m t => t.captureRead m) m s)

/-! ### TIME_STATUS -/

/-- The payload of TIME_STATUS; the quotients that give ns and ppb round as the part rounds them (log 19). -/
def State.timeWords (s : State) : Block :=
  let t := s.tb
  let (id, port) : Nat × Nat := match t.master with
    | some (c, p) => (c, p.val)
    | none => (0, 0)
  [w32 (port * 2 ^ 16 + t.era % 256 * 2 ^ 8 + t.servo.code)] ++ words64 id
    ++ [wInt (divFree t.offset 655360), wInt (divFree t.pathDelay 655360), wInt (divFree t.rate 100), w32 (t.stepsRemoved % 256)]
    ++ words64 t.time

/-- TIME_STATUS. -/
def execTimeStatus (m : MbCmd) (s : State) : Host.Outcome State Fault Refusal :=
  .next ((timeHdr 0x0B06 16 0).run (fun _ t => .done t 0 t.timeWords) m s)

/-! ### PTP messages on their way (R388, R407 to R410) -/

/-- The port takes part in PTP (R408). -/
def State.ptpPort (s : State) (p : Fin 4) : Bool := tcPortEn s.tb.cfg p && (s.port p).up

/-- The servo takes messages: the Folio runs its image and ROLE is not 2 (R405, R406). -/
def State.servoRuns (s : State) : Bool := s.folio.mbReady && s.folio.loader.isNone && !s.tb.suspended && tcRole s.tb.cfg != 2

/-- A PTP message joins class 0 of a port, or is dropped (R388). -/
def State.sendPtp (p : Fin 4) (m : PtpMsg) (s : State) : State := s.sendPacket p 0 (.ptp m)

/-- Timestamps referred to the port's plane, in 0.1 ns (R409). -/
def State.rxTime (s : State) (p : Fin 4) (t : Nat) : Int := (t : Int) - tcRxLat s.tb.cfg p
def State.txTime (s : State) (p : Fin 4) (t : Nat) : Int := (t : Int) + tcTxLat s.tb.cfg p

/-- The own clock identity and offsetScaledLogVariance: the spec gives neither (free, log 14). -/
def ownClock : Nat := (Config.unstated 97).toNat % 2 ^ 64
def ownVariance : Nat := (Config.unstated 96).toNat % 2 ^ 16

/-- The own data set in the order of the default comparison (R407). (PRESUMED, log 20) -/
def State.ownKey (s : State) : List Nat := [tcPri1 s.tb.cfg, 248, 0xFE, ownVariance, tcPri2 s.tb.cfg, ownClock]

/-- PTP_TRANSPARENT_FORWARD (R408, R410): the residence time joins the correction, with P2P the ingress link's delay for a Sync. A
Pdelay message is never forwarded. -/
def execPtpTransparentForward (p q : Fin 4) (m : PtpMsg) (tOut : Nat) (s : State) : Host.Outcome State Fault Refusal :=
  if p = q || !s.ptpPort p || !s.ptpPort q || m.kind.peer then .next s
  else
    let r := s.txTime q tOut - s.rxTime p m.tMac
    let link : Int := if tcP2p s.tb.cfg && m.kind = .sync then divRound (s.port p).linkDelay 10 else 0
    .next (s.sendPtp q (if m.kind.event then { m with correction := m.correction + divRound (r * 65536) 10 + link } else m))

/-- An interval of 2^log seconds in TIME cycles (R407). -/
def logCycles (log : Int) : Nat := if log < 0 then second / 2 ^ (-log).toNat else second * 2 ^ log.toNat

/-- announceReceiptTimeout, and the Sync intervals after which a master is lost (R405, R407). -/
def announceTimeout : Nat := 3
def syncTimeout : Nat := 3

/-- A foreign master whose latest Announce is not older than announceReceiptTimeout (R405, R407). -/
def Foreign.live (now : Nat) (f : Foreign) : Bool := decide (now < f.at_ + announceTimeout * logCycles f.log)

/-- A message of the device: its own MAC, domain, clock and port (R407; port numbers from 1, log 20). -/
def State.ownPtp (s : State) (kind : PtpKind) (p : Fin 4) (seq : Nat) : PtpMsg :=
  { kind := kind, srcMac := ownMac, domain := tcDomain s.tb.cfg, clockId := ownClock, portNo := p.val + 1, seqId := seq % 65536 }

/-! ### The servo (R405) -/

/-- Mean of the rates steered in LOCKED over the last 16 s: the sum of rate × cycles from the newest to the oldest.
(DESIGN CHOICE, log 13) -/
def rateSum (from_ upto : Nat) : List (Nat × Int) → Int × Nat
  | [] => (0, 0)
  | (at_, r) :: l =>
    let a := max at_ from_
    let d := upto - a
    let rest := if at_ ≤ from_ then (0, 0) else rateSum from_ at_ l
    (r * d + rest.1, d + rest.2)

/-- The rate of HOLDOVER: the mean after LOCKED, the present rate after LOCKING (R405, R420). (DESIGN CHOICE, log 13) -/
def State.holdRate (s : State) : Int :=
  if s.tb.servo = .locked then
    let m := rateSum (s.now - 16 * second) s.now s.tb.rates
    if m.2 = 0 then s.tb.rate else divFree m.1 m.2
  else s.tb.rate

/-- The master is lost (R405): 0 no Announce for announceReceiptTimeout, 1 no Sync for 3 Sync intervals, 2 every PORT_EN port DOWN. -/
def State.masterLost (s : State) : Fin 3 → Bool
  | 0 => !s.tb.foreign.any fun f => s.tb.master == some (f.clockId, f.port) && f.live s.now
  | 1 => decide (s.tb.syncAt + syncTimeout * logCycles s.tb.syncLog ≤ s.now)
  | 2 => (List.finRange 4).all fun p => !s.ptpPort p

/-- PTP_MASTER_LOSS: HOLDOVER. -/
def execPtpMasterLoss (cause : Fin 3) (s : State) : Host.Outcome State Fault Refusal :=
  if !s.servoRuns || (s.tb.servo ≠ .locked && s.tb.servo ≠ .locking) || !s.masterLost cause then .next s
  else
    let gone (f : Foreign) : Bool := s.tb.master == some (f.clockId, f.port)
    let t := s.updTb fun b => { b with
      rate := s.holdRate
      master := none
      foreign := b.foreign.filter fun f => !gone f
      goodSyncs := 0
      pendSync := none
      delayT3 := none }
    .next ((t.setServo .holdover).raise 0x0E02 ALARM 0 cause.val)

/-- Lexicographic order of data sets: the lesser is the better. (PRESUMED, log 20) -/
def keyLess : List Nat → List Nat → Bool
  | [], _ => false
  | _ :: _, [] => false
  | a :: x, b :: y => decide (a < b) || (a == b && keyLess x y)

/-- The grandmaster of a data set. -/
def Foreign.grandmaster (f : Foreign) : Nat := f.key.getD 5 0

/-- The default data set comparison: two sets of one grandmaster by steps removed and identities, else by their attributes, the
grandmaster's identity last (R407, R420; PRESUMED, log 20). -/
def Foreign.better (f g : Foreign) : Bool :=
  if f.grandmaster = g.grandmaster then keyLess [f.steps, f.clockId, f.port.val] [g.steps, g.clockId, g.port.val]
  else keyLess f.key g.key

/-- The best foreign master announced. (PRESUMED, log 20) -/
def bestForeign (l : List Foreign) : Option Foreign :=
  l.foldl (fun b f =>
    match b with
    | some g => if f.better g then some f else some g
    | none => some f) none

/-- The BMCA selects a foreign master: LOCKING, and 0x0E04 when its grandmaster is new (R405). (PRESUMED, log 20) -/
def State.selectMaster (f : Foreign) (s : State) : State :=
  let same := s.tb.master == some (f.clockId, f.port)
  let oldGm := (s.tb.foreign.find? fun g => s.tb.master == some (g.clockId, g.port)).map Foreign.grandmaster
  let t := s.updTb fun b => { b with
    master := some (f.clockId, f.port)
    stepsRemoved := f.steps + 1 }
  let u := if same && s.tb.servo ≠ .holdover then t
    else (t.setServo .locking).updTb fun b => { b with
      goodSyncs := 0
      pendSync := none
      lastSync := none
      syncAt := s.now
      syncLog := 0
      slew := none }
  if oldGm = some f.grandmaster then u else u.raise 0x0E04 NOTICE 0 f.grandmaster

/-- PTP_ANNOUNCE_RECEIVE. -/
def execPtpAnnounceReceive (p : Fin 4) (m : PtpMsg) (s : State) : Host.Outcome State Fault Refusal :=
  if !s.servoRuns || !s.ptpPort p || m.kind ≠ .announce || m.domain ≠ tcDomain s.tb.cfg then .next s
  else
    let f : Foreign := { clockId := m.clockId, port := p, steps := m.stepsRemoved, at_ := s.now, log := m.logInterval,
                         key := [m.priority1, m.clockClass, m.accuracy, m.variance, m.priority2, m.grandmaster] }
    let l := f :: s.tb.foreign.filter fun g => !(g.clockId == m.clockId && g.port == p) && g.live s.now
    match bestForeign l with
    | none => .next s
    | some g =>
      let sel := if tcRole s.tb.cfg = 1 && !keyLess g.key s.ownKey then s else s.selectMaster g
      .next (sel.updTb fun b => { b with foreign := l })

/-- A foreign master better than the own clock was announced within announceReceiptTimeout (R405, R407). -/
def State.betterForeign (s : State) : Bool := s.tb.foreign.any fun f => f.live s.now && keyLess f.key s.ownKey

/-- TIME_BECAME_MASTER: no better foreign master is announced, and the BMCA selects the own clock. -/
def execTimeBecameMaster (s : State) : Host.Outcome State Fault Refusal :=
  if !s.servoRuns || tcRole s.tb.cfg ≠ 1 || s.tb.servo = .master || s.betterForeign then .next s
  else
    let t := s.updTb fun b => { b with
      master := none
      pendSync := none
      goodSyncs := 0
      foreign := b.foreign.filter fun f => f.live s.now
      stepsRemoved := 0 }
    .next ((t.setServo .master).raise 0x0E05 NOTICE 0 (tcPri1 s.tb.cfg))

/-- The rate that the servo steers: free within ±500 ppm (R405, log 13). -/
def State.steer405 (s : State) : State :=
  let r := clampInt (-50000000) 50000000 (Config.servoRate s.rst.free)
  let keep := s.tb.rates.filter fun e => decide (s.now < e.1 + 32 * second)
  { s with
    tb := { s.tb with
      rate := r
      rates := if s.tb.servo = .locked then (s.now, r) :: keep else [] }
    rst := { s.rst with free := s.rst.free + 1 } }

/-- An offset measured by a Sync, in 1/655,360 ns (R405). -/
def State.servoOffset (x : Int) (s : State) : State :=
  let ns : Nat := 655360
  let s1 := s.updTb fun b => { b with offset := x }
  if s.tb.servo = .locked then
    if 1000 * ns < x.natAbs then State.steer405 ((s1.setServo .locking).updTb fun b => { b with goodSyncs := 0 }) else s1.steer405
  else if tcThresh s.tb.cfg * 1000 * ns < x.natAbs then
    (State.stepTo 0 ((s1.tb.time : Int) - divFree x ns).toNat s1).updTb fun b => { b with
      goodSyncs := 0
      lastSync := none
      slew := none }
  else
    let n := if x.natAbs ≤ 100 * ns then s.tb.goodSyncs + 1 else 0
    let s2 := s1.updTb fun b => { b with goodSyncs := n }
    if n < 16 then s2.steer405
    else
      let s3 := (s2.setServo .locked).updTb fun b => { b with
        valid := true
        goodSyncs := 0 }
      (s3.raise 0x0E01 INFO 0 (p32 (divFree x ns))).steer405

/-- The time that a Sync carried arrives: ingress less corrected origin is offset plus path delay (R407, R410). -/
def State.useSync (p : Fin 4) (t2 : Int) (origin : Nat) (corr : Int) (s : State) : State :=
  let d := (t2 - origin) * 65536 - corr * 10
  let delay := if tcP2p s.tb.cfg then (s.port p).linkDelay else s.tb.pathDelay
  let t := s.updTb fun b => { b with
    lastSync := some d
    pathDelay := delay
    pendSync := none }
  t.servoOffset (d - delay)

/-- A message of the selected master that the servo uses. -/
def State.fromMaster (s : State) (p : Fin 4) (m : PtpMsg) : Bool :=
  s.servoRuns && s.ptpPort p && m.domain == tcDomain s.tb.cfg && s.tb.master == some (m.clockId, p)
    && (s.tb.servo == .locking || s.tb.servo == .locked)

/-- PTP_SYNC_RECEIVE: one-step at once; two-step waits for its Follow_Up. -/
def execPtpSyncReceive (p : Fin 4) (m : PtpMsg) (s : State) : Host.Outcome State Fault Refusal :=
  if !s.fromMaster p m || m.kind ≠ .sync then .next s
  else
    let t := s.updTb fun b => { b with
      syncAt := s.now
      syncLog := m.logInterval }
    .next (if m.twoStep then t.updTb fun b => { b with pendSync := some (m.seqId, s.rxTime p m.tMac, m.correction, p) }
      else t.useSync p (s.rxTime p m.tMac) m.originTime m.correction)

/-- PTP_FOLLOW_UP_RECEIVE. -/
def execPtpFollowUpReceive (p : Fin 4) (m : PtpMsg) (s : State) : Host.Outcome State Fault Refusal :=
  if !s.fromMaster p m || m.kind ≠ .followUp then .next s
  else match s.tb.pendSync with
    | some (q, t2, c, port) =>
      if q = m.seqId && port = p then .next (s.useSync p t2 m.originTime (c + m.correction)) else .next s
    | none => .next s

/-- PTP_DELAY_REQ_SEND: a slave in end-to-end mode. -/
def execPtpDelayReqSend (p : Fin 4) (t : Nat) (s : State) : Host.Outcome State Fault Refusal :=
  let slave := match s.tb.master with
    | some (_, q) => q == p
    | none => false
  if !s.servoRuns || !s.ptpPort p || tcP2p s.tb.cfg || !slave then .next s
  else
    let q := s.port p
    let m : PtpMsg := { s.ownPtp .delayReq p q.seqDelay with
      originTime := (s.txTime p t).toNat
      tMac := t }
    .next (((s.updTb fun b => { b with
      delayT3 := some (s.txTime p t)
      delaySeq := m.seqId }).updPort p fun q => { q with seqDelay := (q.seqDelay + 1) % 65536 }).sendPtp p m)

/-- PTP_DELAY_REQ_RECEIVE: the master answers with the referred receive time; the answer names the port that asked. -/
def execPtpDelayReqReceive (p : Fin 4) (m : PtpMsg) (s : State) : Host.Outcome State Fault Refusal :=
  if !s.servoRuns || !s.ptpPort p || m.kind ≠ .delayReq || s.tb.servo ≠ .master || tcP2p s.tb.cfg
      || m.domain ≠ tcDomain s.tb.cfg then .next s
  else .next (s.sendPtp p { s.ownPtp .delayResp p m.seqId with
    correction := m.correction
    originTime := (s.rxTime p m.tMac).toNat
    reqId := m.clockId
    reqPort := m.portNo })

/-- The answer names this device's port and the request that awaits it (R407). -/
def answersTo (m : PtpMsg) (p : Fin 4) (seq : Nat) : Bool := m.reqId == ownClock && m.reqPort == p.val + 1 && m.seqId == seq

/-- PTP_DELAY_RESP_RECEIVE: the mean path delay. -/
def execPtpDelayRespReceive (p : Fin 4) (m : PtpMsg) (s : State) : Host.Outcome State Fault Refusal :=
  match s.tb.delayT3, s.tb.lastSync with
  | some t3, some d =>
    if !s.fromMaster p m || m.kind ≠ .delayResp || tcP2p s.tb.cfg || !answersTo m p s.tb.delaySeq then .next s
    else
      let back := ((m.originTime : Int) - t3) * 65536 - m.correction * 10
      .next (s.updTb fun b => { b with
        pathDelay := divFree (d + back) 2
        delayT3 := none })
  | _, _ => .next s

/-- PTP_PDELAY_REQ_SEND: every PORT_EN port every second, in peer-to-peer mode. -/
def execPtpPdelayReqSend (p : Fin 4) (t : Nat) (s : State) : Host.Outcome State Fault Refusal :=
  if !s.servoRuns || !s.ptpPort p || !tcP2p s.tb.cfg || !due (s.port p).pdelayAt second s.now then .next s
  else
    let m : PtpMsg := { s.ownPtp .pdelayReq p (s.port p).seqPdelay with tMac := t }
    .next ((s.updPort p fun q => { q with
      pdelayT1 := some (s.txTime p t)
      pdelaySeq := m.seqId
      seqPdelay := (q.seqPdelay + 1) % 65536
      pdelayAt := some s.now }).sendPtp p m)

/-- PTP_PDELAY_RECEIVE: a request is answered on its port at the time of its operand; an answer gives the mean link delay. The turnaround stands in the
correction of a one-step answer, in two times of a two-step one. (DEDUCED, log 47) -/
def execPtpPdelayReceive (p : Fin 4) (i : PdelayIn) (s : State) : Host.Outcome State Fault Refusal :=
  let m := i.msg
  if !s.ptpPort p || !tcP2p s.tb.cfg || m.domain ≠ tcDomain s.tb.cfg || !m.kind.peer then .next s
  else if m.kind = .pdelayReq then
    .next (s.sendPtp p { s.ownPtp .pdelayResp p m.seqId with
      correction := m.correction + divRound ((s.txTime p i.tOut - s.rxTime p m.tMac) * 65536) 10
      tMac := i.tOut
      reqId := m.clockId
      reqPort := m.portNo })
  else match (s.port p).pdelayT1 with
    | some t1 =>
      if !answersTo m p (s.port p).pdelaySeq then .next s
      else
      let trip := (s.rxTime p m.tMac - t1) * 65536
      let turn := (if m.twoStep then ((m.originTime2 : Int) - m.originTime) * 65536 else 0) + m.correction * 10
      .next (s.updPort p fun q => { q with
        linkDelay := divFree (trip - turn) 2
        pdelayT1 := none })
    | none => .next s

/-- logSyncInterval and logAnnounceInterval of the device as master (R407). -/
def ownLog (announce : Bool) : Int := if announce then 0 else -3

/-- PTP_MASTER_SEND: one-step Sync and Announce of a master, at their intervals. -/
def execPtpMasterSend (p : Fin 4) (announce : Bool) (t : Nat) (s : State) : Host.Outcome State Fault Refusal :=
  let q := s.port p
  if !s.servoRuns || !s.ptpPort p || s.tb.servo ≠ .master
      || !due (if announce then q.annAt else q.syncAt) (logCycles (ownLog announce)) s.now then .next s
  else
    let m : PtpMsg :=
      { s.ownPtp (if announce then .announce else .sync) p (if announce then q.seqAnn else q.seqSync) with
        logInterval := ownLog announce
        originTime := (s.txTime p t).toNat
        tMac := t
        priority1 := tcPri1 s.tb.cfg
        clockClass := 248
        accuracy := 0xFE
        variance := ownVariance
        priority2 := tcPri2 s.tb.cfg
        grandmaster := ownClock }
    .next ((s.updPort p fun q =>
      if announce then { q with
        annAt := some s.now
        seqAnn := (q.seqAnn + 1) % 65536 }
      else { q with
        syncAt := some s.now
        seqSync := (q.seqSync + 1) % 65536 }).sendPtp p m)

end Sys2Proof.Machine
end

