-- ==== Sys2Proof/Machine/Dispatch.lean ====
section
/-! DEFINITION. One arm per command: each calls the command's meaning. -/

namespace Sys2Proof.Machine

def exec (i : Instr) (s : State) : Host.Outcome State Fault Refusal :=
  match i with
  | .nop m => Sys2Proof.Machine.execNop m s
  | .devInfo m => Sys2Proof.Machine.execDevInfo m s
  | .sessionOpen m => Sys2Proof.Machine.execSessionOpen m s
  | .sessionClose m => Sys2Proof.Machine.execSessionClose m s
  | .devModeSet m => Sys2Proof.Machine.execDevModeSet m s
  | .devStandby m => Sys2Proof.Machine.execDevStandby m s
  | .chConfig m => Sys2Proof.Machine.execChConfig m s
  | .chEnable m => Sys2Proof.Machine.execChEnable m s
  | .chDisable m => Sys2Proof.Machine.execChDisable m s
  | .chStatus m => Sys2Proof.Machine.execChStatus m s
  | .chClear m => Sys2Proof.Machine.execChClear m s
  | .chArm m => Sys2Proof.Machine.execChArm m s
  | .chStart m => Sys2Proof.Machine.execChStart m s
  | .startAtReached n => Sys2Proof.Machine.execStartAtReached n s
  | .chHold m => Sys2Proof.Machine.execChHold m s
  | .chResume m => Sys2Proof.Machine.execChResume m s
  | .chAbort m => Sys2Proof.Machine.execChAbort m s
  | .chStepJump m => Sys2Proof.Machine.execChStepJump m s
  | .rcpLoad m => Sys2Proof.Machine.execRcpLoad m s
  | .rcpVerify m => Sys2Proof.Machine.execRcpVerify m s
  | .rcpVerifyPiece mb steps => Sys2Proof.Machine.execRcpVerifyPiece mb steps s
  | .rcpDelete m => Sys2Proof.Machine.execRcpDelete m s
  | .rcpList m => Sys2Proof.Machine.execRcpList m s
  | .loopSet m => Sys2Proof.Machine.execLoopSet m s
  | .loopGet m => Sys2Proof.Machine.execLoopGet m s
  | .tuneInject m => Sys2Proof.Machine.execTuneInject m s
  | .tuneStop m => Sys2Proof.Machine.execTuneStop m s
  | .acqConfig m => Sys2Proof.Machine.execAcqConfig m s
  | .acqArm m => Sys2Proof.Machine.execAcqArm m s
  | .acqForce m => Sys2Proof.Machine.execAcqForce m s
  | .acqStop m => Sys2Proof.Machine.execAcqStop m s
  | .acqRead m => Sys2Proof.Machine.execAcqRead m s
  | .recConfig m => Sys2Proof.Machine.execRecConfig m s
  | .recStreamOpen m => Sys2Proof.Machine.execRecStreamOpen m s
  | .recStatus m => Sys2Proof.Machine.execRecStatus m s
  | .axConfig m => Sys2Proof.Machine.execAxConfig m s
  | .axTableLoad m => Sys2Proof.Machine.execAxTableLoad m s
  | .axHome m => Sys2Proof.Machine.execAxHome m s
  | .axHomeDone a => Sys2Proof.Machine.execAxHomeDone a s
  | .axMove m => Sys2Proof.Machine.execAxMove m s
  | .axMoveLinear m => Sys2Proof.Machine.execAxMoveLinear m s
  | .axMoveDone a => Sys2Proof.Machine.execAxMoveDone a s
  | .axStop m => Sys2Proof.Machine.execAxStop m s
  | .axStatus m => Sys2Proof.Machine.execAxStatus m s
  | .axStandstill m => Sys2Proof.Machine.execAxStandstill m s
  | .coilRampDone a => Sys2Proof.Machine.execCoilRampDone a s
  | .axIdleTimeout a => Sys2Proof.Machine.execAxIdleTimeout a s
  | .stepGeneratorUpdate a => Sys2Proof.Machine.execStepGeneratorUpdate a s
  | .coilEvaluation a codes residueOk => Sys2Proof.Machine.execCoilEvaluation a codes residueOk s
  | .switchDebounced a sw => Sys2Proof.Machine.execSwitchDebounced a sw s
  | .encoderEdge a e => Sys2Proof.Machine.execEncoderEdge a e s
  | .safeCfgLoad m => Sys2Proof.Machine.execSafeCfgLoad m s
  | .safeCfgAccept m => Sys2Proof.Machine.execSafeCfgAccept m s
  | .safeStatus m => Sys2Proof.Machine.execSafeStatus m s
  | .safeLogRead m => Sys2Proof.Machine.execSafeLogRead m s
  | .safeReset m => Sys2Proof.Machine.execSafeReset m s
  | .fabDiscover m => Sys2Proof.Machine.execFabDiscover m s
  | .discoveryDone => Sys2Proof.Machine.execDiscoveryDone s
  | .fabAddrSet m => Sys2Proof.Machine.execFabAddrSet m s
  | .fabAssignTimeout => Sys2Proof.Machine.execFabAssignTimeout s
  | .fabRouteLoad m => Sys2Proof.Machine.execFabRouteLoad m s
  | .fabStatus m => Sys2Proof.Machine.execFabStatus m s
  | .timeConfig m => Sys2Proof.Machine.execTimeConfig m s
  | .timeSet m => Sys2Proof.Machine.execTimeSet m s
  | .timeSlew m => Sys2Proof.Machine.execTimeSlew m s
  | .timeSlewDone => Sys2Proof.Machine.execTimeSlewDone s
  | .timeOutConfig m => Sys2Proof.Machine.execTimeOutConfig m s
  | .timeCaptureRead m => Sys2Proof.Machine.execTimeCaptureRead m s
  | .timeStatus m => Sys2Proof.Machine.execTimeStatus m s
  | .calPoint m => Sys2Proof.Machine.execCalPoint m s
  | .calPointDone n => Sys2Proof.Machine.execCalPointDone n s
  | .calPointExpiry n current range full => Sys2Proof.Machine.execCalPointExpiry n current range full s
  | .calCommit m => Sys2Proof.Machine.execCalCommit m s
  | .calRead m => Sys2Proof.Machine.execCalRead m s
  | .optSet m => Sys2Proof.Machine.execOptSet m s
  | .evtConfig m => Sys2Proof.Machine.execEvtConfig m s
  | .evtClear m => Sys2Proof.Machine.execEvtClear m s
  | .spareStatus m => Sys2Proof.Machine.execSpareStatus m s
  | .spareRetire m => Sys2Proof.Machine.execSpareRetire m s
  | .selftest m => Sys2Proof.Machine.execSelftest m s
  | .selftestDone pass duration failCode => Sys2Proof.Machine.execSelftestDone pass duration failCode s
  | .wearReport m => Sys2Proof.Machine.execWearReport m s
  | .fwStage m => Sys2Proof.Machine.execFwStage m s
  | .fwActivate m => Sys2Proof.Machine.execFwActivate m s
  | .mbDoorbell p k v => Sys2Proof.Machine.execMbDoorbell p k v s
  | .mbCommandTake k => Sys2Proof.Machine.execMbCommandTake k s
  | .mbResponseWrite k => Sys2Proof.Machine.execMbResponseWrite k s
  | .mbRspHeadWrite p k v => Sys2Proof.Machine.execMbRspHeadWrite p k v s
  | .mbCfgWrite p k v => Sys2Proof.Machine.execMbCfgWrite p k v s
  | .mbStatClear p k v => Sys2Proof.Machine.execMbStatClear p k v s
  | .resetCauseClear p v => Sys2Proof.Machine.execResetCauseClear p v s
  | .resetCtlF p v => Sys2Proof.Machine.execResetCtlF p v s
  | .resetCtlC p v => Sys2Proof.Machine.execResetCtlC p v s
  | .resetCtlB p v => Sys2Proof.Machine.execResetCtlB p v s
  | .irqStatClear p v => Sys2Proof.Machine.execIrqStatClear p v s
  | .irqEnWrite p v => Sys2Proof.Machine.execIrqEnWrite p v s
  | .timeLoRead p => Sys2Proof.Machine.execTimeLoRead p s
  | .soReqWrite p v => Sys2Proof.Machine.execSoReqWrite p v s
  | .soReqSet p v => Sys2Proof.Machine.execSoReqSet p v s
  | .soReqClr p v => Sys2Proof.Machine.execSoReqClr p v s
  | .blotCursorWrite p v => Sys2Proof.Machine.execBlotCursorWrite p v s
  | .recAckWrite p st v => Sys2Proof.Machine.execRecAckWrite p st v s
  | .ringTailWrite p st v => Sys2Proof.Machine.execRingTailWrite p st v s
  | .hlimUnlock p v => Sys2Proof.Machine.execHlimUnlock p v s
  | .hlimPasswordChecked => Sys2Proof.Machine.execHlimPasswordChecked s
  | .hlimLock p v => Sys2Proof.Machine.execHlimLock p v s
  | .hlimSetpw p v => Sys2Proof.Machine.execHlimSetpw p v s
  | .hlimStageWrite p word v => Sys2Proof.Machine.execHlimStageWrite p word v s
  | .hlimCommit p v => Sys2Proof.Machine.execHlimCommit p v s
  | .hlimUnlockExpiry => Sys2Proof.Machine.execHlimUnlockExpiry s
  | .hlimLockoutEnd => Sys2Proof.Machine.execHlimLockoutEnd s
  | .sessionLockEnd level => Sys2Proof.Machine.execSessionLockEnd level s
  | .safeLockEnd => Sys2Proof.Machine.execSafeLockEnd s
  | .watchdogRestart => Sys2Proof.Machine.execWatchdogRestart s
  | .registerWrite p bar offset data => Sys2Proof.Machine.execRegisterWrite p bar offset data s
  | .channelConversion n c => Sys2Proof.Machine.execChannelConversion n c s
  | .tripPin die k level => Sys2Proof.Machine.execTripPin die k level s
  | .groupPowerWindow g => Sys2Proof.Machine.execGroupPowerWindow g s
  | .gpReleased g => Sys2Proof.Machine.execGpReleased g s
  | .gpSeated g => Sys2Proof.Machine.execGpSeated g s
  | .chBoardRemoved g => Sys2Proof.Machine.execChBoardRemoved g s
  | .chBoardInserted g => Sys2Proof.Machine.execChBoardInserted g s
  | .reloadCapture w late => Sys2Proof.Machine.execReloadCapture w late s
  | .dlineCalibration die line err => Sys2Proof.Machine.execDlineCalibration die line err s
  | .convSelftest c code => Sys2Proof.Machine.execConvSelftest c code s
  | .spareSettled die c => Sys2Proof.Machine.execSpareSettled die c s
  | .auxConversion die j code dither => Sys2Proof.Machine.execAuxConversion die j code dither s
  | .auxUrgentRequest u input => Sys2Proof.Machine.execAuxUrgentRequest u input s
  | .calTempDrift die temp => Sys2Proof.Machine.execCalTempDrift die temp s
  | .nibEvaluation n residueOk => Sys2Proof.Machine.execNibEvaluation n residueOk s
  | .checkpointWrite n => Sys2Proof.Machine.execCheckpointWrite n s
  | .ckptIntervalDue n => Sys2Proof.Machine.execCkptIntervalDue n s
  | .quirePostAck p => Sys2Proof.Machine.execQuirePostAck p s
  | .quireItemDue uid => Sys2Proof.Machine.execQuireItemDue uid s
  | .quireDispatch t block entry => Sys2Proof.Machine.execQuireDispatch t block entry s
  | .ductusMediatedItem e => Sys2Proof.Machine.execDuctusMediatedItem e s
  | .ductusPreloadItem e => Sys2Proof.Machine.execDuctusPreloadItem e s
  | .nibTakeover g pass => Sys2Proof.Machine.execNibTakeover g pass s
  | .nibFencedSelftest k pass => Sys2Proof.Machine.execNibFencedSelftest k pass s
  | .nibRevert g pass => Sys2Proof.Machine.execNibRevert g pass s
  | .folioTransactionVote cls tx => Sys2Proof.Machine.execFolioTransactionVote cls tx s
  | .folioVoteTimeout core => Sys2Proof.Machine.execFolioVoteTimeout core s
  | .folioSpareJoined => Sys2Proof.Machine.execFolioSpareJoined s
  | .folioBootDone => Sys2Proof.Machine.execFolioBootDone s
  | .acqTick u => Sys2Proof.Machine.execAcqTick u s
  | .acqTimerExpiry u j => Sys2Proof.Machine.execAcqTimerExpiry u j s
  | .acqComplete u error => Sys2Proof.Machine.execAcqComplete u error s
  | .acqPageHandover u error => Sys2Proof.Machine.execAcqPageHandover u error s
  | .periodicRecord n => Sys2Proof.Machine.execPeriodicRecord n s
  | .recordStore => Sys2Proof.Machine.execRecordStore s
  | .thinningPass => Sys2Proof.Machine.execThinningPass s
  | .dramScrub page codeword data inner check => Sys2Proof.Machine.execDramScrub page codeword data inner check s
  | .streamBufferReturn st entry desc => Sys2Proof.Machine.execStreamBufferReturn st entry desc s
  | .streamFrameSend st count => Sys2Proof.Machine.execStreamFrameSend st count s
  | .recStreamResend st => Sys2Proof.Machine.execRecStreamResend st s
  | .helloSend p => Sys2Proof.Machine.execHelloSend p s
  | .helloReceive p f => Sys2Proof.Machine.execHelloReceive p f s
  | .linkUp p => Sys2Proof.Machine.execLinkUp p s
  | .linkDown p => Sys2Proof.Machine.execLinkDown p s
  | .peerSilent p => Sys2Proof.Machine.execPeerSilent p s
  | .primHoldEnd p => Sys2Proof.Machine.execPrimHoldEnd p s
  | .frameForward p f => Sys2Proof.Machine.execFrameForward p f s
  | .discoverRequest p f => Sys2Proof.Machine.execDiscoverRequest p f s
  | .discoverReply p f => Sys2Proof.Machine.execDiscoverReply p f s
  | .assignUid p f => Sys2Proof.Machine.execAssignUid p f s
  | .assignRing p f => Sys2Proof.Machine.execAssignRing p f s
  | .windowRead p f => Sys2Proof.Machine.execWindowRead p f s
  | .windowWrite p f => Sys2Proof.Machine.execWindowWrite p f s
  | .windowReset p f => Sys2Proof.Machine.execWindowReset p f s
  | .mailboxCommand p f => Sys2Proof.Machine.execMailboxCommand p f s
  | .mailboxAck p f => Sys2Proof.Machine.execMailboxAck p f s
  | .mailboxResponseResend k => Sys2Proof.Machine.execMailboxResponseResend k s
  | .syncFrame p f => Sys2Proof.Machine.execSyncFrame p f s
  | .syncEntryExpiry id => Sys2Proof.Machine.execSyncEntryExpiry id s
  | .noticeReceive p f => Sys2Proof.Machine.execNoticeReceive p f s
  | .ptpSyncReceive p m => Sys2Proof.Machine.execPtpSyncReceive p m s
  | .ptpAnnounceReceive p m => Sys2Proof.Machine.execPtpAnnounceReceive p m s
  | .ptpMasterLoss cause => Sys2Proof.Machine.execPtpMasterLoss cause s
  | .ptpPdelayReqSend p t => Sys2Proof.Machine.execPtpPdelayReqSend p t s
  | .ptpPdelayReceive p m => Sys2Proof.Machine.execPtpPdelayReceive p m s
  | .ptpMasterSend p announce t => Sys2Proof.Machine.execPtpMasterSend p announce t s
  | .ptpTransparentForward p q m tOut => Sys2Proof.Machine.execPtpTransparentForward p q m tOut s
  | .timeMarkWrite => Sys2Proof.Machine.execTimeMarkWrite s
  | .compareFire k => Sys2Proof.Machine.execCompareFire k s
  | .toutPulseEnd k => Sys2Proof.Machine.execToutPulseEnd k s
  | .tinCapture k e => Sys2Proof.Machine.execTinCapture k e s
  | .marginTick a b => Sys2Proof.Machine.execMarginTick a b s
  | .testPulse k => Sys2Proof.Machine.execTestPulse k s
  | .testPulseCheck k before during after => Sys2Proof.Machine.execTestPulseCheck k before during after s
  | .outputOffPulseTest k low => Sys2Proof.Machine.execOutputOffPulseTest k low s
  | .soFbSettle k band => Sys2Proof.Machine.execSoFbSettle k band s
  | .stop1TimerExpiry f => Sys2Proof.Machine.execStop1TimerExpiry f s
  | .safeClockCheck withinOnePercent => Sys2Proof.Machine.execSafeClockCheck withinOnePercent s
  | .marginStarted => Sys2Proof.Machine.execMarginStarted s
  | .safeStagingExpiry => Sys2Proof.Machine.execSafeStagingExpiry s
  | .vellumWordWrite w region index data ok retryOk => Sys2Proof.Machine.execVellumWordWrite w region index data ok retryOk s
  | .vellumScrub index r => Sys2Proof.Machine.execVellumScrub index r s
  | .wearMapFlush => Sys2Proof.Machine.execWearMapFlush s
  | .eventRaise => Sys2Proof.Machine.execEventRaise s
  | .blotterSummary code => Sys2Proof.Machine.execBlotterSummary code s
  | .blotterFlush => Sys2Proof.Machine.execBlotterFlush s
  | .blotterRingScan => Sys2Proof.Machine.execBlotterRingScan s
  | .powerOn => Sys2Proof.Machine.execPowerOn s
  | .supplyOutOfRange rail above pgood => Sys2Proof.Machine.execSupplyOutOfRange rail above pgood s
  | .resetNLow => Sys2Proof.Machine.execResetNLow s
  | .resetNStuck seconds => Sys2Proof.Machine.execResetNStuck seconds s
  | .warmNLow => Sys2Proof.Machine.execWarmNLow s
  | .resetRelease src => Sys2Proof.Machine.execResetRelease src s
  | .pcieHotReset ends => Sys2Proof.Machine.execPcieHotReset ends s
  | .pcieLink speed width => Sys2Proof.Machine.execPcieLink speed width s
  | .watchdogExpired => Sys2Proof.Machine.execWatchdogExpired s
  | .thermalShutdown die temp => Sys2Proof.Machine.execThermalShutdown die temp s
  | .thermalRecovery => Sys2Proof.Machine.execThermalRecovery s
  | .refLoss => Sys2Proof.Machine.execRefLoss s
  | .refReturn => Sys2Proof.Machine.execRefReturn s
  | .releaseStage x => Sys2Proof.Machine.execReleaseStage x s
  | .clkNotGood d => Sys2Proof.Machine.execClkNotGood d s
  | .blockResetIdle => Sys2Proof.Machine.execBlockResetIdle s
  | .blockResetForced dropped => Sys2Proof.Machine.execBlockResetForced dropped s
  | .crossingFlushed crossing d count => Sys2Proof.Machine.execCrossingFlushed crossing d count s
  | .testModeRise => Sys2Proof.Machine.execTestModeRise s
  | .pfailSequence => Sys2Proof.Machine.execPfailSequence s
  | .pfailSelfReset level => Sys2Proof.Machine.execPfailSelfReset level s
  | .wakeN => Sys2Proof.Machine.execWakeN s
  | .pgoodInRise => Sys2Proof.Machine.execPgoodInRise s
  | .standbyExitTimeout => Sys2Proof.Machine.execStandbyExitTimeout s
  | .pfailNRise => Sys2Proof.Machine.execPfailNRise s
  | .standbyHoldEnd => Sys2Proof.Machine.execStandbyHoldEnd s
  | .clkGood d => Sys2Proof.Machine.execClkGood d s
  | .tickWatchExpiry => Sys2Proof.Machine.execTickWatchExpiry s
  | .switchRawEdge a sw level => Sys2Proof.Machine.execSwitchRawEdge a sw level s
  | .folioCoreSelftestDone core pass => Sys2Proof.Machine.execFolioCoreSelftestDone core pass s
  | .ductusLoadItem e => Sys2Proof.Machine.execDuctusLoadItem e s
  | .finalFlushTimeout => Sys2Proof.Machine.execFinalFlushTimeout s
  | .blockLockGained p => Sys2Proof.Machine.execBlockLockGained p s
  | .ptpFollowUpReceive p m => Sys2Proof.Machine.execPtpFollowUpReceive p m s
  | .ptpDelayReqSend p t => Sys2Proof.Machine.execPtpDelayReqSend p t s
  | .ptpDelayReqReceive p m => Sys2Proof.Machine.execPtpDelayReqReceive p m s
  | .ptpDelayRespReceive p m => Sys2Proof.Machine.execPtpDelayRespReceive p m s
  | .timeBecameMaster => Sys2Proof.Machine.execTimeBecameMaster s
  | .switchTestEnd k low => Sys2Proof.Machine.execSwitchTestEnd k low s
  | .testPulseEnd k => Sys2Proof.Machine.execTestPulseEnd k s

end Sys2Proof.Machine
end

