-- ==== Sys2Proof/Safety.lean ====
section
/-! DEFINITION. The terms in which the statements speak: a command that completes, a mailbox command whose turn it is, a
state whose rings are in canonical form. -/

namespace Sys2Proof.Safety

open Sys2Proof.Machine

/-- The command completes in state `s`: exec answers a next state, and it satisfies `P`. -/
def Completes (i : Instr) (s : State) (P : State → Prop) : Prop := ∃ t, exec i s = .next t ∧ P t

/-- The Folio carries out command `m` of opcode `op` now (R171, R346, R358, R464): it serves the mailbox, whose flow is free and whose
oldest taken command, if any is taken, is this one; FLAGS[15:1] and the reserved header bits are 0. -/
abbrev Turn (op : Nat) (m : MbCmd) (s : State) : Prop :=
  s.serves m.mb = true ∧ (s.mbox m.mb).heldUp = false ∧ (s.mbox m.mb).turn op m = true ∧ m.flags.toNat / 2 = 0 ∧ m.rsvd = 0

/-- `Turn` for a command that the ROM loader does not serve, with the authority `a` that the opcode needs (R346, R347, R464). -/
abbrev Granted (op a : Nat) (m : MbCmd) (s : State) : Prop :=
  Turn op m s ∧ s.folio.loader = none ∧ a ≤ (s.mbox m.mb).authority

/-- The response of a command that was carried out (RC_OK). -/
def okAnswer (m : MbCmd) (state detail : Nat) (payload : Block) : Response := answerTo m RC_OK state detail payload

/-- The command completes: it leaves the taken commands, has the effect `eff` on the rest and answers RC_OK. -/
def CompletesBy (i : Instr) (op : Nat) (m : MbCmd) (s : State) (eff : State → State) (state detail : Nat) (payload : Block) : Prop :=
  exec i s = .next (((eff (s.takeOff op m)).passItems op m).respond m.mb (okAnswer m state detail payload))

/-- TARGETs of R359: CHANNEL, GROUP_MASK, AXIS, UNIT, SLOT and INDEX. -/
def chTarget (n : Fin 256) : Word := BitVec.ofNat 32 (0x10000000 + n.val)
def axTarget (a : Fin 8) : Word := BitVec.ofNat 32 (0x30000000 + a.val)
def unitTarget (u : Fin 32) : Word := BitVec.ofNat 32 (0x50000000 + u.val)
def slotTarget (k : Fin 1024) : Word := BitVec.ofNat 32 (0x60000000 + k.val)
def indexTarget (i : Fin 256) : Word := BitVec.ofNat 32 (0x70000000 + i.val)

/-- No reserved bit of the parameters is set (R346 step 8). -/
abbrev NoReserved (m : MbCmd) (masks : List (Nat × Nat)) : Prop := firstReserved m.params masks = none

/-- A write of the path reaches the registers (R334, R335, R355, R448): the endpoint is out of reset and not in D3hot, or WIN_CFG lets the
address write. -/
def Reaches (p : Path) (s : State) : Prop :=
  match p with
  | .pcie => s.host.pcieReset = false ∧ s.host.d3hot = false
  | .fabric a => s.host.winWrites a = true

/-- The response of a CAL_POINT at its end. -/
def calAnswer (r : CalRun) (status state detail : Nat) (payload : Block) : Response where
  tag := r.tag
  quiet := r.flags.getLsbD 0
  status := BitVec.ofNat 16 status
  state := BitVec.ofNat 16 state
  detail := w32 detail
  payload := payload

/-- A received frame passes the checks of R380 and R381. -/
abbrev FrameOk (s : State) (f : Frame) : Prop :=
  f.etherType = s.folio.etherType ∧ f.fcs = .good ∧ f.hcrcOk = true ∧ f.lenOk = true ∧ f.len ≤ 1472 ∧ f.known = true

/-- The port has counted a received frame (R372, R381). -/
abbrev counted (p : Fin 4) (s : State) : State := s.updPort p fun q => { q with rx := satAdd q.rx 1 }

/-- The class buffer of port `q` has room for the frame (R388). -/
abbrev Room (s : State) (q : Fin 4) (f : Frame) : Prop :=
  (s.port q).waiting (frameClass f.typ) + frameBytes f ≤ classBytes (frameClass f.typ)

/-- The frame is the newest in the class queue of port `q`, behind those that waited there in `s` (R388). -/
abbrev Queued (s t : State) (q : Fin 4) (f : Frame) : Prop :=
  (t.port q).queue (frameClass f.typ) = (s.port q).queue (frameClass f.typ) ++ [.frame f]

/-- Class 0 of port `q` has room for the PTP message (R388). -/
abbrev RoomPtp (s : State) (q : Fin 4) (m : PtpMsg) : Prop := (s.port q).waiting 0 + m.wire.length ≤ 16384

/-- The PTP message is the newest in class 0 of port `q` (R388). -/
abbrev QueuedPtp (s t : State) (q : Fin 4) (m : PtpMsg) : Prop := (t.port q).q0 = (s.port q).q0 ++ [.ptp m]

/-- Reach W or F has acted: the blocks are in their starting state, and the Vellum keeps what no checkpoint write under way tears
(R218, R443). -/
abbrev Restarted (s t : State) : Prop :=
  t.chan = State.reset.chan ∧ t.slot = State.reset.slot ∧ t.quire = State.reset.quire ∧ t.pounce = State.reset.pounce ∧ t.rings = [] ∧
  t.linear = [] ∧ t.tb = State.reset.tb ∧ t.fab = State.reset.fab ∧ t.host.mb = State.reset.host.mb ∧ t.host.pcieReset = true ∧
  t.folio.mbReady = false ∧ t.margin.inReset = true ∧ t.vel.words = s.vel.words ∧ t.pending = s.pending ∧
  (∀ n, (s.ch n).ckptReq = none → t.chv n = s.chv n) ∧
  t.now = s.now ∧ t.rst.power = .run

/-- The mailbox memory is in canonical form, and nothing is stored outside the implemented part of BAR2 (R343). -/
abbrev RingsOk (s : State) : Prop := s.rings.wf = true ∧ ∀ c ∈ s.rings, c.1 < 0x20000

/-- The block goes on: a step that neither faults nor refuses. -/
def Runs (s : State) : Prop := ∃ t, step s = .next t

end Sys2Proof.Safety
end

