-- ==== Sys2Proof/Certificates/Slice0/Obligations.lean ====
section
/-! DEFINITION. The statements for the provers, in the order of the spec's parts: the step, the commands of the catalogue, the host
interface, channels, recipes and loops, continuity, Pounce, the Inkwell store, the stroke unit, the Margin, the fabric, time, the
Vellum, reset and power, and the invariant of the mailbox memory. -/

open Sys2Proof Sys2Proof.Machine Sys2Proof.Safety

/-- A step takes the command at the front of the queue and carries it out with the queue's rest (R346, R376: rows are whole). -/
def Obligations.StepRunsFrontCommand : Prop :=
  ∀ (c : Instr) (rest : List Instr) (s : State), step { s with pending := c :: rest } = exec c { s with pending := rest }

/-- With no command waiting one TIME cycle passes (the model's choice, log 2): the model's clock counts one; a running timebase without
a slew gains 4 ns (R401), and one that is stopped stays; while no item is in service at the Inkwell everything but the clock, the timebase
and the ports is as before; and in any case the channels, the dies, the axes and the Margin are. -/
def Obligations.IdleStepPassesOneTimeCycle : Prop :=
  ∀ s : State, s.pending = [] →
    ∃ t, step s = .next t ∧ t.now = s.now + 1 ∧ t.chan = s.chan ∧ t.die = s.die ∧ t.axis = s.axis ∧ t.margin = s.margin ∧
      ((∀ i ∈ s.quire.items, i.state = .inService → i.target ≠ .inkwell) → { t with now := s.now, tb := s.tb, fab := s.fab } = s) ∧
      (s.tb.running = false → t.tb = s.tb) ∧
      (s.tb.running = true → s.tb.slew = none → s.tb.frac < 2 ^ 32 →
        t.tb = { s.tb with time := (s.tb.time + 4) % 2 ^ 64 }) ∧
      (s.host.txOff = true → t.fab = s.fab)

/-- No queue of commands ever stops the block: from every state, every number of steps answers a next state. -/
def Obligations.EveryRunGoesOn : Prop := ∀ (n : Nat) (s : State), ∃ t, core.run n s = .next t

/-- Device and session commands of R361 complete (R347, R348, R364, R365, R366): NOP; DEV_INFO with the payload of R364; SESSION_OPEN of a
level without a password, which replaces the session of its mailbox and answers the next identifier; SESSION_CLOSE; DEV_MODE_SET into
SERVICE, and DEV_MODE_SET of the present mode; DEV_STANDBY with every channel and axis at rest and room for its response. Completes: nop,
devInfo, sessionOpen, sessionClose, devModeSet, devStandby. -/
def Obligations.DeviceCommandsComplete : Prop :=
  (∀ m s, Turn 0x0100 m s → m.target = 0 → m.length = 16 → CompletesBy (.nop m) 0x0100 m s id 0 0 []) ∧
  (∀ m s, Turn 0x0101 m s → m.target = 0 → m.length = 16 →
    CompletesBy (.devInfo m) 0x0101 m s id 0 0
      ([0x56580256, 0x000000A1, 3] ++ words64 Config.uid.toNat
        ++ [w32 (s.rst.clkMode * 2 ^ 10 + s.rst.bootSrc * 2 ^ 8 + (if Config.gradeI then 0x49 else 0x45)), s.folio.fwVersion, s.folio.fwCrc,
          s.fab.addr.setWidth 32, s.devState])) ∧
  (∀ m s l, Granted 0x0102 0 m s → m.target = 0 → m.length = 52 → m.params.getD 0 0 = BitVec.ofNat 32 l → l < 4 →
    s.host.levelPw l = none → s.host.levelLock l = none →
    CompletesBy (.sessionOpen m) 0x0102 m s
      (fun t => ({ t with host := { t.host.setFails l 0 with sessions := t.host.sessions + 1 } } : State).updMb m.mb
        (fun b => { b with session := some (s.host.sessions + 1, authOfCode l) }) |>.raise 0x0C07 INFO m.mb.val l)
      0 0 [s.host.sessions + 1, BitVec.ofNat 32 l]) ∧
  (∀ m s, Granted 0x0103 0 m s → m.target = 0 → m.length = 16 →
    CompletesBy (.sessionClose m) 0x0103 m s (fun t => t.updMb m.mb fun b => { b with session := none }) 0 0 []) ∧
  (∀ m s, Granted 0x0104 2 m s → m.target = 0 → m.length = 20 → m.params = [1] → s.folio.service = false →
    CompletesBy (.devModeSet m) 0x0104 m s (fun t => (t.setFolio { t.folio with service := true }).raise 0x0C0D NOTICE m.mb.val 1) 0 0 []) ∧
  (∀ m s, Granted 0x0104 2 m s → m.target = 0 → m.length = 20 → m.params = [w32 (b2n s.folio.service)] →
    CompletesBy (.devModeSet m) 0x0104 m s id 0 0 []) ∧
  (∀ m s, Granted 0x0105 2 m s → m.target = 0 → m.length = 16 →
    (∀ n, (s.ch n).state = .off ∨ (s.ch n).state = .configured ∨ (s.ch n).state = .done ∨ (s.ch n).state = .absent) →
    (∀ a, (s.ax a).state = .disabled) → (s.mbox m.mb).done = [] → (s.mbox m.mb).discard = 0 →
    diff16 (s.mbox m.mb).rspTail (s.mbox m.mb).rspHead < 32 →
    Completes (.devStandby m) s fun t =>
      t.rst.power = .standby ∧ t.rst.pwrReq = false ∧ t.rst.holdLow = true ∧ t.rst.wakePending = false)

/-- OPT_SET (R369) completes: with READ it answers the option's value and changes nothing; else a value in its range, with no conflict and a
Vellum that takes it, becomes the option's value, in one write of the OPTIONS region, and event 0x0C0E carries it. Completes: optSet. -/
def Obligations.OptSetCompletes : Prop :=
  (∀ m s, Granted 0x0C04 0 m s → m.target = 0 → m.length = 32 → NoReserved m [(0, 0x7FFF0000), (4, 0xFFFF0000)] →
    bitAt m.params 0 31 = true → 1 ≤ fieldAt m.params 0 15 0 → fieldAt m.params 0 15 0 ≤ 6 →
    optIndexOk (fieldAt m.params 0 15 0) (fieldAt m.params 4 15 0) = true →
    CompletesBy (.optSet m) 0x0C04 m s id 0 0 (words64 (s.optRead (fieldAt m.params 0 15 0) (fieldAt m.params 4 15 0)))) ∧
  (∀ m s o i v, Granted 0x0C04 2 m s → m.target = 0 → m.length = 32 → NoReserved m [(0, 0x7FFF0000), (4, 0xFFFF0000)] →
    bitAt m.params 0 31 = false → fieldAt m.params 0 15 0 = o → fieldAt m.params 4 15 0 = i → natAt64 m.params 8 = v → 1 ≤ o → o ≤ 6 →
    optIndexOk o i = true → optValueOk o v = true → s.optConflict o i v = none → s.vel.failed.contains 0 = false →
    CompletesBy (.optSet m) 0x0C04 m s
      (fun t => ((t.optWrite o i v).persist 0 1).raise 0x0C0E INFO m.mb.val (o + 2 ^ 16 * i + 2 ^ 32 * (v % 2 ^ 32))) 0 0 (words64 (s.optRead o i)))

/-- An option in its range reads back as it was written, and no other option changes with it, whatever channels a new TRIP_CFG trips
(R55, R369). -/
def Obligations.OptionReadsBackAsWritten : Prop :=
  ∀ (s : State) (o i v o' i' : Nat), 1 ≤ o → o ≤ 6 → optIndexOk o i = true → optValueOk o v = true →
    1 ≤ o' → o' ≤ 6 → optIndexOk o' i' = true →
    (s.optWrite o i v).optRead o' i' = if o' = o ∧ i' = i then v else s.optRead o' i'

/-- The Blotter's commands complete (R370, R434, R439, R441): EVT_CONFIG gives the limiter of a code its rate and burst, tokens above
the burst being cut, or the default 10 per second and 32; with FLUSH every unpersisted entry is written before the response. EVT_CLEAR moves
the retained mark to UP_TO_SEQ + 1 when that lies ahead of the oldest retained entry and not past the next SEQ, in one write of the Vellum,
and reports both marks by 0x0F02. Completes: evtConfig, evtClear. -/
def Obligations.BlotterCommandsComplete : Prop :=
  (∀ m s code rate burst, Granted 0x0D01 2 m s → m.target = 0 → m.length = 24 → NoReserved m [(0, 0xFFFC0000)] →
    bitAt m.params 0 16 = false → bitAt m.params 0 17 = false → fieldAt m.params 0 15 0 = code → fieldAt m.params 4 15 0 = rate →
    fieldAt m.params 4 31 16 = burst → eventDefined code = true → 1 ≤ rate → rate ≤ 1000 → 1 ≤ burst → burst ≤ 1024 →
    CompletesBy (.evtConfig m) 0x0D01 m s
      (fun t => { t with
        blot := t.blot.setLimiter
          (let l := (t.blot.limiter (BitVec.ofNat 16 code) t.now).refill t.now
           { l with
             rate := rate
             burst := burst
             tokens := min l.tokens (burst * token) }) }) 0 0 []) ∧
  (∀ m s code, Granted 0x0D01 2 m s → m.target = 0 → m.length = 24 → NoReserved m [(0, 0xFFFC0000)] →
    bitAt m.params 0 16 = false → bitAt m.params 0 17 = true → fieldAt m.params 0 15 0 = code → eventDefined code = true →
    CompletesBy (.evtConfig m) 0x0D01 m s
      (fun t => { t with
        blot := t.blot.setLimiter
          (let l := (t.blot.limiter (BitVec.ofNat 16 code) t.now).refill t.now
           { l with
             rate := 10
             burst := 32
             tokens := min l.tokens (32 * token) }) }) 0 0 []) ∧
  (∀ m s, Granted 0x0D01 2 m s → m.target = 0 → m.length = 24 → NoReserved m [(0, 0xFFFC0000)] → bitAt m.params 0 16 = true →
    CompletesBy (.evtConfig m) 0x0D01 m s
      (fun t => ({ t with blot := { t.blot with flushTold := some m.mb.val } } : State).flushBlotter) 0 0 []) ∧
  (∀ s : State, ∀ e ∈ s.flushBlotter.blot.buffer, e.persisted = true) ∧
  (∀ m s up, Granted 0x0D02 2 m s → m.target = 0 → m.length = 20 → natAt m.params 0 = up → up + 1 < 2 ^ 32 →
    seqLe s.blot.nextSeq (up + 1) = false → seqLe (up + 1) s.oldestKept = false →
    CompletesBy (.evtClear m) 0x0D02 m s
      (fun t => (({ t with vel := { t.vel with mark := some (up + 1) } } : State).persist 0 1).raise 0x0F02 INFO m.mb.val
        (t.vel.mark.getD t.oldestKept + 2 ^ 32 * (up + 1))) 0 0
      [w32 ({ s with vel := { s.vel with mark := some (up + 1) } } : State).oldestKept])

/-- Maintenance commands complete (R362, R371, R465): SPARE_STATUS and WEAR_REPORT answer and change nothing; SPARE_RETIRE of an idle spare
Nib, of a spare converter that carries no channel, and of the cold spare core; SELFTEST in SERVICE mode of an idle spare Nib, which holds
its mailbox; SELFTEST_DONE, which answers the oldest self-test with PASS, DURATION and FAIL_CODE, and retires a spare Nib whose failure is
its second fault (R214); WATCHDOG_RESTART while two cores vote, which does nothing else. The cause that SPARE_RETIRE's 0x0705 names is a free
value (log 14). Completes: spareStatus, wearReport, spareRetire, selftest, selftestDone, watchdogRestart. -/
def Obligations.MaintenanceCommandsComplete : Prop :=
  (∀ m s, Granted 0x0E01 0 m s → m.target = 0 → m.length = 16 → CompletesBy (.spareStatus m) 0x0E01 m s id 0 0 s.spareWords) ∧
  (∀ m s, Granted 0x0E04 0 m s → m.target = 0 → m.length = 16 → CompletesBy (.wearReport m) 0x0E04 m s id 0 0 s.wearWords) ∧
  (∀ m s (k : Fin 20), Granted 0x0E02 2 m s → m.target = 0 → m.length = 20 → NoReserved m [(0, 0xFF0000FC)] →
    spKind m = 1 → spIndex m = k.val → s.idleSpare k = true →
    CompletesBy (.spareRetire m) 0x0E02 m s
      (fun t => (t.updNib k fun x => { x with
        role := .retired
        group := none
        revertTo := none }).raise 0x0705 ALARM k.val ((Config.unstated 92).toNat % 2)) 0 0 []) ∧
  (∀ m s (f : Fin 4) c, Granted 0x0E02 2 m s → m.target = 0 → m.length = 20 → 136 ≤ c → c < 140 → NoReserved m [(0, 0xFF0000FC)] →
    spKind m = 2 → spIndex m = c → spDie m = f.val → (s.dieOf f).steered.all (fun e => e.2.1 != c) = true →
    CompletesBy (.spareRetire m) 0x0E02 m s (fun t => t.updDie f fun d => { d with spares := d.spares.filter fun x => x != c }) 0 0 []) ∧
  (∀ m s, Granted 0x0E02 2 m s → m.target = 0 → m.length = 20 → NoReserved m [(0, 0xFF0000FC)] → spKind m = 3 → spIndex m = 3 →
    s.folio.cores = [.vote, .vote, .vote, .spare] → s.folio.code = 2 →
    Completes (.spareRetire m) s fun t => t.folio.cores = [.vote, .vote, .vote, .retired]) ∧
  (∀ m s (k : Fin 20), Granted 0x0E03 2 m s → m.target = 0 → m.length = 20 → NoReserved m [(0, 0xFF0000FC)] →
    spKind m = 1 → spIndex m = k.val → s.folio.service = true →
    s.idleSpare k = true → s.folio.selftests = [] →
    exec (.selftest m) s =
      .next (({ s.takeOff 0x0E03 m with
        folio := { s.folio with selftests := [{ mb := m.mb, tag := m.tag, quiet := m.flags.getLsbD 0, kind := 1, index := k.val, die := spDie m }] } } :
        State).updMb m.mb fun b => { b with working := b.working + 1 })) ∧
  (∀ s x l pass duration code, s.folio.selftests = x :: l → (s.mbox x.mb).working ≠ 0 → (s.mbox x.mb).discard = 0 →
    (pass = true ∨ x.kind ≠ 1 ∨ s.nibRetires (Fin.ofNat 20 x.index) = false) →
    exec (.selftestDone pass duration code) s =
      .next (({ s with folio := { s.folio with selftests := l } } : State).updMb x.mb fun b => { b with
        working := b.working - 1
        done := b.done ++ [{ tag := x.tag, quiet := x.quiet, status := 0, state := 0, detail := 0,
                             payload := [w32 (b2n pass), duration, if pass then 0 else code] }] })) ∧
  (∀ s x l duration code (k : Fin 20), s.folio.selftests = x :: l → x.kind = 1 → x.index = k.val → s.nibRetires k = true →
    (s.nibOf k).role = .spare →
    Completes (.selftestDone false duration code) s fun t =>
      (t.nibOf k).role = .retired ∧ s.event 0x0705 ALARM k.val 1 ∈ t.blot.raised ∧ t.folio.selftests = l ∧ t.chan = s.chan) ∧
  (∀ s, s.folio.selftests = [] → ∀ pass duration code, exec (.selftestDone pass duration code) s = .next s) ∧
  (∀ s, s.folio.voters.length < 2 → exec .watchdogRestart s = .next s) ∧
  (∀ s, 2 ≤ s.folio.voters.length → exec .watchdogRestart s = .next { s with folio := { s.folio with watchdog := s.now } })

/-- Firmware commands complete (R362, R374, R463, R464): FW_STAGE of a chunk within TOTAL holds its words in place of any staged there, and
begins anew at another TOTAL with OFFSET 0; FW_ACTIVATE of a staged image that passes its checks, its response written at once, restarts
the Folio by a reset of reach C and raises 0x0C0B. Completes: fwStage, fwActivate. -/
def Obligations.FirmwareCommandsComplete : Prop :=
  (∀ m s off n total, Turn 0x0F01 m s → (s.folio.loader = none → 2 ≤ (s.mbox m.mb).authority) → m.target = 0 →
    m.length = BitVec.ofNat 16 (32 + 4 * n) → 1 ≤ n → n ≤ 56 →
    natAt m.params 0 = 4 * off → natAt m.params 4 = 4 * n → natAt m.params 8 = total → natAt m.params 0xC = 0 →
    4 ≤ total → total ≤ 8388608 → 4 * off + 4 * n ≤ total → (∀ u l, s.folio.staged = some (u, l) → u = total ∨ off = 0) →
    CompletesBy (.fwStage m) 0x0F01 m s
      (fun t => { t with
        folio := { t.folio with
          staged := some (total,
            ((match t.folio.staged with
              | some (u, l) => if u = total then l else []
              | none => []).filter fun e => !(decide (off ≤ e.1) && decide (e.1 < off + n)))
              ++ (List.range n).map fun i => (off + i, wordAt m.params (0x10 + 4 * i))) } }) 0 0 []) ∧
  (∀ m s b, Turn 0x0F02 m s → (s.folio.loader = none → 2 ≤ (s.mbox m.mb).authority) → m.target = 0 → m.length = 24 →
    m.params = [crcBlock b, 0] → s.folio.image = some b → imageHeaderOk b = true → imageBodyOk b = true →
    Config.signatureOk b = true → (s.mbox m.mb).done = [] → (s.mbox m.mb).discard = 0 →
    diff16 (s.mbox m.mb).rspTail (s.mbox m.mb).rspHead < 32 → s.rst.stage = 12 → s.rst.power = .run → s.rst.sources = [] →
    Completes (.fwActivate m) s fun t =>
      bits t.host.resetCause 25 24 = 2 ∧ t.folio.mbReady = false ∧ t.folio.staged = none ∧ t.rst.stage = 11 ∧ ∃ u, t.blot.raised = u ++ [t.event 0x0C0B NOTICE m.mb.val (crcBlock b).toNat])

/-- R345: a doorbell value d is accepted when 0 ≤ d − CMD_HEAD ≤ 32 and d − CMD_TAIL ≤ 32, both modulo 2^16, and becomes CMD_TAIL; otherwise, and
at a register write of a mailbox with PATH = 1, DB_ERR is set with vector 16, event 0x0C05 is raised and every counter stays. PCIe writes to the
rings of such a mailbox and to its MBk_RSP_HEAD change nothing and count in ACCESS_ERR. Completes: mbDoorbell. -/
def Obligations.DoorbellAppliedOrRefused : Prop :=
  (∀ (p : Path) (k : Fin 8) (v : Word) (s : State), Reaches p s → s.folio.mbReady = true →
    let d := BitVec.ofNat 16 v.toNat
    let b := s.mbox k
    if bit b.cfg 0 = false ∧ diff16 d b.cmdHead ≤ 32 ∧ diff16 d b.cmdTail ≤ 32 then
      exec (.mbDoorbell p k v) s = .next (s.updMb k fun b => { b with cmdTail := d })
    else
      Completes (.mbDoorbell p k v) s fun t =>
        t.mbox k = { b with dbErr := true } ∧ (∀ j, j ≠ k → t.mbox j = s.mbox j) ∧ bit t.host.irqStat 16 = true ∧
        t.blot.raised = s.blot.raised ++ [s.event 0x0C05 NOTICE k.val (bits v 15 0 + 2 ^ 16 * b.cmdHead.toNat)] ∧
        { t with host := s.host, blot := s.blot } = s) ∧
  (∀ (k : Fin 8) (v : Word) (s : State), Reaches .pcie s → s.folio.mbReady = true → bit (s.mbox k).cfg 0 = true →
    exec (.mbRspHeadWrite .pcie k v) s = .next s.accessErr) ∧
  (∀ (k : Fin 8) off (data : List Byte) (s : State), Reaches .pcie s → bit (s.mbox k).cfg 0 = true → data ≠ [] → data.length ≤ 256 →
    off + data.length ≤ 0x20000 → off < 0x4000 * (k.val + 1) → 0x4000 * k.val < off + data.length →
    exec (.registerWrite .pcie .bar2 off data) s = .next s.accessErr)

/-- R346: the Folio takes the commands of a mailbox in ring order: of a mailbox with a command published and a free flow it copies the entry in the
slot CMD_HEAD mod 32 and advances CMD_HEAD. A defined opcode joins the taken commands with its Quire item; any other is answered with
RC_BAD_OPCODE. Completes: mbCommandTake. -/
def Obligations.CommandTakenInRingOrder : Prop :=
  ∀ (k : Fin 8) (s : State) (op : Nat) (m : MbCmd), s.folio.mbReady = true → s.folio.loader = none →
    (s.mbox k).cmdHead ≠ (s.mbox k).cmdTail → (s.mbox k).taken.length < 32 →
    entryCmd k (memReadWords (0x4000 * k.val + 256 * ((s.mbox k).cmdHead.toNat % 32)) 64 s.rings) = (op, m) →
    (op ∈ opcodes →
      exec (.mbCommandTake k) s =
        .next ((s.updMb k fun b => { b with
          cmdHead := b.cmdHead + 1
          taken := b.taken ++ [(m, BitVec.ofNat 16 op)] }).post (264 + k.val) .folio 2 (.command k) 0 (.mailbox k))) ∧
    (op ∉ opcodes → (s.mbox k).taken = [] → (s.mbox k).heldUp = false →
      exec (.mbCommandTake k) s =
        .next ((s.updMb k fun b => { b with cmdHead := b.cmdHead + 1 }).respond k (answerTo m RC_BAD_OPCODE 0 op [])))

/-- R346, R343, R344: with room in the response ring the oldest completed response of a PCIe mailbox is written whole in the slot RSP_TAIL mod 32,
RSP_TAIL advances and the mailbox's vector gets its cause, without a message for a QUIET command (R358); the rest of the ring area is as it
was. With RSP_TAIL − RSP_HEAD = 32 the response waits and nothing changes. Completes: mbResponseWrite. -/
def Obligations.ResponseWrittenWhenRoom : Prop :=
  (∀ (k : Fin 8) (s : State) (r : Response) (l : List Response), s.folio.mbReady = true → s.folio.loader = none → s.folio.restart = none →
    (s.mbox k).done = r :: l → (s.mbox k).kept = none → bit (s.mbox k).cfg 0 = false →
    diff16 (s.mbox k).rspTail (s.mbox k).rspHead < 32 →
    exec (.mbResponseWrite k) s = .next
      (let t := ({ s with
          rings := memWriteBytes (0x4000 * k.val + 0x2000 + 256 * ((s.mbox k).rspTail.toNat % 32)) (blockBytes r.words) s.rings } : State).updMb k
          fun b => { b with
            done := l
            rspTail := b.rspTail + 1 }
       { t with host := t.host.irq k.val r.quiet })) ∧
  (∀ (k : Fin 8) (s : State), s.folio.mbReady = true → s.folio.restart = none →
    diff16 (s.mbox k).rspTail (s.mbox k).rspHead = 32 → exec (.mbResponseWrite k) s = .next s)

/-- R342, R346: an accepted write of RSP_HEAD takes it; one beyond RSP_TAIL or behind RSP_HEAD, or of a mailbox with PATH = 1, only counts in
ACCESS_ERR. A write of MBk_CFG takes SRC_ADDR and PATH of a mailbox without a session whose rings are empty, else sets CFG_ERR with vector
16. Ones written to MBk_STAT clear CFG_ERR and DB_ERR. The count of the ignored write is the model's reading (log 22). Completes:
mbRspHeadWrite, mbCfgWrite, mbStatClear. -/
def Obligations.MailboxRegistersWritten : Prop :=
  (∀ p (k : Fin 8) (v : Word) s, Reaches p s → s.folio.mbReady = true → bit (s.mbox k).cfg 0 = false →
    diff16 (BitVec.ofNat 16 v.toNat) (s.mbox k).rspHead ≤ diff16 (s.mbox k).rspTail (s.mbox k).rspHead →
    exec (.mbRspHeadWrite p k v) s = .next (s.updMb k fun b => { b with rspHead := BitVec.ofNat 16 v.toNat })) ∧
  (∀ p (k : Fin 8) (v : Word) s, Reaches p s → s.folio.mbReady = true →
    (bit (s.mbox k).cfg 0 = true ∨
      diff16 (s.mbox k).rspTail (s.mbox k).rspHead < diff16 (BitVec.ofNat 16 v.toNat) (s.mbox k).rspHead) →
    exec (.mbRspHeadWrite p k v) s = .next s.accessErr) ∧
  (∀ p (k : Fin 8) (v : Word) s, Reaches p s → s.folio.mbReady = true →
    (s.mbox k).session = none → (s.mbox k).cmdHead = (s.mbox k).cmdTail → (s.mbox k).rspHead = (s.mbox k).rspTail →
    exec (.mbCfgWrite p k v) s = .next (s.updMb k fun b => { b with cfg := v &&& 0xFFFF0001 })) ∧
  (∀ p (k : Fin 8) (v : Word) s, Reaches p s → s.folio.mbReady = true →
    ¬ ((s.mbox k).session = none ∧ (s.mbox k).cmdHead = (s.mbox k).cmdTail ∧ (s.mbox k).rspHead = (s.mbox k).rspTail) →
    exec (.mbCfgWrite p k v) s = .next ((s.updMb k fun b => { b with cfgErr := true }).irq 16)) ∧
  (∀ p (k : Fin 8) (v : Word) s, Reaches p s → s.folio.mbReady = true →
    exec (.mbStatClear p k v) s = .next (s.updMb k fun b => { b with
      cfgErr := b.cfgErr && !bit v 2
      dbErr := b.dbErr && !bit v 1 }))

/-- R337, R356: while MB_READY = 0 a write of a mailbox register changes nothing and counts in ACCESS_ERR, and the Folio takes and answers
nothing.
The count of the ignored write is the model's reading (log 22). -/
def Obligations.MailboxesIgnoredUntilReady : Prop :=
  ∀ p (k : Fin 8) (v : Word) s, Reaches p s → s.folio.mbReady = false →
    exec (.mbDoorbell p k v) s = .next s.accessErr ∧ exec (.mbRspHeadWrite p k v) s = .next s.accessErr ∧
    exec (.mbCfgWrite p k v) s = .next s.accessErr ∧ exec (.mbStatClear p k v) s = .next s.accessErr ∧
    exec (.mbCommandTake k) s = .next s ∧ exec (.mbResponseWrite k) s = .next s

/-- Direct registers (R337, R339, R340, R341, R355, R404): ones written to RESET_CAUSE[16:0] and to IRQ_STAT clear those bits; RESET_CTL with
KEY 0xA5C3 over PCIe asks for a block reset of an instance that exists, in the order of the requests; IRQ_EN takes its 19 bits, and with
no pending bit newly enabled sends no message; a read of TIME_LO latches TIME_HI and TIME_ERA for its path. Nothing else changes but the delay of the block reset. Completes: resetCauseClear, irqStatClear,
irqEnWrite, resetCtlB, timeLoRead. -/
def Obligations.DirectRegistersWritten : Prop :=
  (∀ p (v : Word) s, Reaches p s →
    exec (.resetCauseClear p v) s =
      .next { s with host := { s.host with resetCause := s.host.resetCause &&& ~~~(v &&& 0x0001FFFF) } }) ∧
  (∀ p (v : Word) s, Reaches p s →
    exec (.irqStatClear p v) s = .next { s with host := { s.host with irqStat := s.host.irqStat &&& ~~~v } }) ∧
  (∀ p (v : Word) s, Reaches p s → v &&& ~~~s.host.irqEn &&& s.host.irqStat = 0 →
    exec (.irqEnWrite p v) s = .next { s with host := { s.host with irqEn := v &&& 0x0007FFFF } }) ∧
  (∀ (v : Word) s b i, Reaches .pcie s → bits v 31 16 = 0xA5C3 → bits v 1 0 = 3 → bits v 10 4 = b → bits v 15 11 = i →
    i < blockInstances b → s.folio.readyOnce = true →
    Completes (.resetCtlB .pcie v) s fun t =>
      t.host = { s.host with resetCtl := v &&& 0x0000FFF3 } ∧ t.rst = { s.rst with block := s.rst.block ++ [(b, i)] } ∧
      (∃ n, (Timer.block b i, n) ∈ t.timers) ∧ { t with host := s.host, rst := s.rst, timers := s.timers } = s) ∧
  (∀ s, Reaches .pcie s →
    exec (.timeLoRead .pcie) s = .next { s with host := { s.host with latchP := (w32 (s.tb.time / 2 ^ 32), w32 (s.tb.era % 256)) } }) ∧
  (∀ a s, exec (.timeLoRead (.fabric a)) s =
    .next { s with host := { s.host with latchF := (w32 (s.tb.time / 2 ^ 32), w32 (s.tb.era % 256)) } })

/-- R340, R444, R446: RESET_CTL with KEY 0xA5C3 over PCIe and REACH 2 applies a reset of reach C: CTL_C and REACH in RESET_CAUSE, every mailbox but
its MBk_CFG at its reset value, MB_READY 0 and the release at stage 11. REACH 1 begins the final flush of a reset of reach F. A WINDOW frame
or another KEY is ignored and counted. Completes: resetCtlC, resetCtlF. -/
def Obligations.ResetRequestsOfTheHost : Prop :=
  (∀ (v : Word) s, Reaches .pcie s → bits v 31 16 = 0xA5C3 → bits v 1 0 = 2 →
    s.rst.stage = 12 → s.rst.power = .run → s.rst.sources = [] → s.rst.flushing = none →
    Completes (.resetCtlC .pcie v) s fun t =>
      bit t.host.resetCause 6 = true ∧ bits t.host.resetCause 25 24 = 2 ∧ t.folio.mbReady = false ∧ t.rst.stage = 11 ∧
      (∀ k, t.mbox k = { cfg := (s.mbox k).cfg }) ∧ t.host.soReq = s.host.soReq ∧ t.vel.mark = s.vel.mark ∧ t.rings = s.rings) ∧
  (∀ (v : Word) s, Reaches .pcie s → bits v 31 16 = 0xA5C3 → bits v 1 0 = 1 →
    s.rst.stage = 12 → s.rst.power = .run → s.rst.sources = [] → s.rst.flushing = none →
    Completes (.resetCtlF .pcie v) s fun t =>
      bit t.host.resetCause 5 = true ∧ bits t.host.resetCause 25 24 = 1 ∧ (t.rst.flushing = some .ctlF ∨ t.rst.stage ≠ 12)) ∧
  (∀ p (v : Word) s, Reaches p s → (p ≠ .pcie ∨ bits v 31 16 ≠ 0xA5C3) →
    exec (.resetCtlC p v) s = .next s.accessErr ∧ exec (.resetCtlF p v) s = .next s.accessErr ∧ exec (.resetCtlB p v) s = .next s.accessErr)

/-- R313, R331, R337: SO_REQ takes the bits written, SO_REQ_SET sets and SO_REQ_CLR clears those written as 1, by a path that reaches the
registers or by the firmware of a Folio that has booted, which is ignored before; the register reads what it holds. Of the rest of the block
only the Margin changes, whose outputs with a new command await FB_SETTLE (R311). Completes: soReqWrite, soReqSet, soReqClr. -/
def Obligations.SoReqWritten : Prop :=
  (∀ (v : Word) s, s.folio.mbReady = false →
    exec (.soReqWrite .folio v) s = .next s ∧ exec (.soReqSet .folio v) s = .next s ∧ exec (.soReqClr .folio v) s = .next s) ∧
  ∀ p (v : Word) s, (match p with
      | SoWriter.host q => Reaches q s
      | SoWriter.folio => s.folio.mbReady = true) →
    (Completes (.soReqWrite p v) s fun t =>
      t.host = { s.host with soReq := v.setWidth 8 } ∧ { t with host := s.host, margin := s.margin, timers := s.timers } = s) ∧
    (Completes (.soReqSet p v) s fun t =>
      t.host = { s.host with soReq := s.host.soReq ||| v.setWidth 8 } ∧
        { t with host := s.host, margin := s.margin, timers := s.timers } = s) ∧
    (Completes (.soReqClr p v) s fun t =>
      t.host = { s.host with soReq := s.host.soReq &&& ~~~(v.setWidth 8) } ∧
        { t with host := s.host, margin := s.margin, timers := s.timers } = s) ∧
    (∀ q, State.bar0Read q 0x400 s = s.host.soReq.setWidth 32)

/-- Stream registers and the Blotter window (R263, R265, R349, R438): RING_TAIL takes bits [15:0], after which delivery goes on with the
descriptors that the host has put at RING_TAIL; of a stream that is closed or delivers to the fabric nothing but the register and its ring
changes. REC_ACK takes a value not behind the present one, and one beyond the last record sent counts as that record, which it then reads; a
value behind is ignored, and so is any while no record has been sent. BLOT_CURSOR takes the value and fills the eight slots of its path's window, leaving the other path's alone.
Completes: ringTailWrite, recAckWrite, blotCursorWrite. -/
def Obligations.StreamAndCursorRegistersWritten : Prop :=
  (∀ p (k : Fin 4) (v : Word) d s, Reaches p s →
    Completes (.ringTailWrite p k { tail := v, descs := d }) s fun t =>
      (t.stream k).ringTail = bits v 15 0 ∧ (∀ j, j ≠ k → t.stream j = s.stream j) ∧ t.ink.store = s.ink.store ∧ t.chan = s.chan ∧
      (d = [] → (s.stream k).open_ = false ∨ (s.stream k).fabric = true → t = s.updStream k fun st => { st with ringTail := bits v 15 0 })) ∧
  (∀ p (k : Fin 4) (v : Word) s q, Reaches p s → seqLe (s.stream k).recAck.toNat v.toNat = true → (s.stream k).top = some q →
    Completes (.recAckWrite p k v) s fun t =>
      (t.stream k).recAck = w32 (if seqLe v.toNat q then v.toNat else q) ∧ (t.stream k).ackSeq = (if seqLe v.toNat q then v.toNat else q) ∧
      (∀ j, j ≠ k → t.stream j = s.stream j) ∧ { t with ink := s.ink } = s) ∧
  (∀ p (k : Fin 4) (v : Word) s, Reaches p s → seqLe (s.stream k).recAck.toNat v.toNat = false →
    exec (.recAckWrite p k v) s = .next s) ∧
  (∀ p (k : Fin 4) (v : Word) s, (s.stream k).top = none → exec (.recAckWrite p k v) s = .next s) ∧
  (∀ (v : Word) s, Reaches .pcie s →
    Completes (.blotCursorWrite .pcie v) s fun t =>
      t.host.cursorP = v ∧ t.host.windowP = (List.range 8).map (fun k => s.windowSlot ((v.toNat + k) % 2 ^ 32)) ∧
      t.host.cursorF = s.host.cursorF ∧ t.host.windowF = s.host.windowF ∧ t.blot = s.blot) ∧
  (∀ a (v : Word) s, s.host.winWrites a = true →
    Completes (.blotCursorWrite (.fabric a) v) s fun t =>
      t.host.cursorF = v ∧ t.host.windowF = (List.range 8).map (fun k => s.windowSlot ((v.toNat + k) % 2 ^ 32)) ∧
      t.host.cursorP = s.host.cursorP ∧ t.host.windowP = s.host.windowP ∧ t.blot = s.blot)

/-- R352: one path at a time may hold the unlock. HLIM_UNLOCK of a free window starts the check of the password; the right one unlocks the path, clears
FAILS and raises 0x0C01, a wrong one counts in FAILS and raises 0x0C02, and the fifth in a row starts a lockout of 600 s and raises 0x0C04; under a
lockout, or while another path holds the unlock, the write only sets LAST_RESULT to 6 or 7. LOCK = 1 ends the unlock of its path.
Completes: hlimUnlock, hlimPasswordChecked, hlimLock. -/
def Obligations.HlimUnlockProtocol : Prop :=
  (∀ p (v : Word) s, Reaches p s → bit v 8 = false → bit v 9 = false → s.host.hlim.lockUntil = none →
    (∀ q, s.host.hlim.unlock = some q → q = p) → (∀ c, s.host.hlim.checking = some c → c.1 = p) →
    exec (.hlimUnlock p v) s = .next (s.updHlim fun h => { h with checking := some (p, bits v 4 0) })) ∧
  (∀ p (v : Word) s t, Reaches p s → bit v 8 = false → bit v 9 = false → s.host.hlim.lockUntil = some t →
    exec (.hlimUnlock p v) s = .next (s.updHlim fun h => { h with result := 6 })) ∧
  (∀ p q (v : Word) s, Reaches p s → bit v 8 = false → bit v 9 = false → s.host.hlim.lockUntil = none → s.host.hlim.unlock = some q → q ≠ p →
    exec (.hlimUnlock p v) s = .next (s.updHlim fun h => { h with result := 7 })) ∧
  (∀ p s n w, s.host.hlim.checking = some (p, n) → s.host.hlim.password = some w → 4 ≤ n → n ≤ 16 → s.host.hlim.pwBytes n = w →
    Completes .hlimPasswordChecked s fun t =>
      t.host.hlim = { s.host.hlim with
        checking := none
        unlock := some p
        fails := 0
        result := 0 } ∧ bit t.host.irqStat 14 = true ∧
      (∃ x, t.blot.raised = s.blot.raised ++ [s.event 0x0C01 NOTICE 0 x]) ∧ (Timer.hlimUnlock, s.now + 300 * 250000000) ∈ t.timers ∧
      { t with host := s.host, blot := s.blot, timers := s.timers } = s) ∧
  (∀ p s n w, s.host.hlim.checking = some (p, n) → s.host.hlim.password = some w → ¬ (4 ≤ n ∧ n ≤ 16 ∧ s.host.hlim.pwBytes n = w) →
    Completes .hlimPasswordChecked s fun t =>
      t.host.hlim.fails = s.host.hlim.fails + 1 ∧ t.host.hlim.unlock = s.host.hlim.unlock ∧ t.host.hlim.result = 6 ∧
      t.host.hlim.lockUntil = (if s.host.hlim.fails + 1 < 5 then s.host.hlim.lockUntil else some (s.now + 600 * 250000000)) ∧
      bit t.host.irqStat 14 = true ∧ { t with host := s.host, blot := s.blot } = s) ∧
  (∀ p (v : Word) s, Reaches p s → bit v 8 = true → s.host.hlim.unlock = some p →
    exec (.hlimLock p v) s = .next (s.updHlim fun h => { h with unlock := none }))

/-- R350, R352, R353: while its path holds the unlock, SETPW takes HLIM_PW as the password, HLIM_STAGE takes a word and HLIM_COMMIT of a channel
record that passes its checks makes the staged record live, counts one in HLIM_WRITES, requests a flush and raises 0x0C03; each begins the
300 s of the unlock anew. Completes: hlimSetpw, hlimStageWrite, hlimCommit. -/
def Obligations.HlimWritesOfTheHolder : Prop :=
  (∀ p (v : Word) s, Reaches p s → bit v 8 = false → bit v 9 = true → s.host.hlim.unlock = some p → 4 ≤ bits v 4 0 → bits v 4 0 ≤ 16 →
    Completes (.hlimSetpw p v) s fun t =>
      t.host = { s.host with hlim := { s.host.hlim with
        password := some (s.host.hlim.pwBytes (bits v 4 0))
        result := 0 } } ∧ (Timer.hlimUnlock, s.now + 300 * 250000000) ∈ t.timers ∧ t.chan = s.chan ∧ (∀ j, t.chv j = s.chv j)) ∧
  (∀ p (i : Fin 16) (v : Word) s, Reaches p s → s.host.hlim.unlock = some p →
    Completes (.hlimStageWrite p i v) s fun t =>
      t.host.hlim.stage.getD i.val 0 = v ∧ (∀ j, j ≠ i.val → j < 16 → t.host.hlim.stage.getD j 0 = s.host.hlim.stage.getD j 0) ∧
      (Timer.hlimUnlock, s.now + 300 * 250000000) ∈ t.timers ∧
      { t with host := { t.host with hlim := s.host.hlim }, timers := s.timers } = s) ∧
  (∀ p (v : Word) s (n : Fin 256), Reaches p s → s.host.hlim.unlock = some p → bits v 8 0 = n.val → commitCheck n.val s.host.hlim.stage = 0 →
    s.vel.failed.contains 1 = false →
    Completes (.hlimCommit p v) s fun t =>
      (t.chv n).hlim = some (blockFit 16 s.host.hlim.stage) ∧ (∀ j, j ≠ n → t.chv j = s.chv j) ∧ t.group = s.group ∧ t.axis = s.axis ∧
      t.host.hlim = { s.host.hlim with
        writes := satAdd s.host.hlim.writes 1
        result := 0 } ∧ t.blot.flushReq = true ∧
      (∃ u x, t.blot.raised = u ++ [s.event 0x0C03 NOTICE n.val x]) ∧ (Timer.hlimUnlock, s.now + 300 * 250000000) ∈ t.timers ∧
      t.chan = s.chan)

/-- R352, R353: nothing is written on any failure. A path that does not hold the unlock, and a staged record that a check of R353 refuses, change
LAST_RESULT alone, but that the holder's write begins the 300 s of its unlock anew. -/
def Obligations.HlimFailureWritesNothing : Prop :=
  (∀ p (v : Word) s, Reaches p s → s.host.hlim.unlock ≠ some p →
    exec (.hlimCommit p v) s = .next (s.updHlim fun h => { h with result := 1 })) ∧
  (∀ p i (v : Word) s, Reaches p s → s.host.hlim.unlock ≠ some p →
    exec (.hlimStageWrite p i v) s = .next (s.updHlim fun h => { h with result := 1 })) ∧
  (∀ p (v : Word) s, Reaches p s → s.host.hlim.unlock = some p → 279 < bits v 8 0 →
    exec (.hlimCommit p v) s = .next ((s.startTimer .hlimUnlock (300 * 250000000)).updHlim fun h => { h with result := 2 })) ∧
  (∀ p (v : Word) s, Reaches p s → s.host.hlim.unlock = some p → bits v 8 0 < 256 →
    (s.host.hlim.stage.getD 15 0 ≠ crcBlock (blockFit 15 s.host.hlim.stage)) →
    exec (.hlimCommit p v) s = .next ((s.startTimer .hlimUnlock (300 * 250000000)).updHlim fun h => { h with result := 3 })) ∧
  (∀ p (v : Word) s, Reaches p s → s.host.hlim.unlock = some p → bits v 8 0 < 256 → commitCheck (bits v 8 0) s.host.hlim.stage = 0 →
    s.vel.failed.contains 1 = true →
    exec (.hlimCommit p v) s = .next ((s.startTimer .hlimUnlock (300 * 250000000)).updHlim fun h => { h with result := 8 }))

/-- Locks and the unlock end in time (R326, R348, R352): the end of a lock, once its time is reached, clears it and its count of failures,
and touches no other level; before that nothing happens. Completes: hlimUnlockExpiry, hlimLockoutEnd, sessionLockEnd, safeLockEnd. -/
def Obligations.LocksEnd : Prop :=
  (∀ s, s.ranOut .hlimUnlock = true → exec .hlimUnlockExpiry s = .next (s.updHlim fun h => { h with unlock := none })) ∧
  (∀ s n, (Timer.hlimUnlock, n) ∈ s.timers → s.now < n → exec .hlimUnlockExpiry s = .next s) ∧
  (∀ s t, s.host.hlim.lockUntil = some t → s.now < t → exec .hlimLockoutEnd s = .next s) ∧
  (∀ s t, s.host.lockEng = some t → s.now < t → exec (.sessionLockEnd .engineer) s = .next s) ∧
  (∀ s t, s.host.lockSaf = some t → s.now < t → exec (.sessionLockEnd .safety) s = .next s) ∧
  (∀ s t, s.margin.lockUntil = some t → s.now < t → exec .safeLockEnd s = .next s) ∧
  (∀ s t, s.host.hlim.lockUntil = some t → t ≤ s.now →
    exec .hlimLockoutEnd s = .next (s.updHlim fun h => { h with
      lockUntil := none
      fails := 0 })) ∧
  (∀ s t, s.host.lockEng = some t → t ≤ s.now →
    exec (.sessionLockEnd .engineer) s = .next { s with
      host := { s.host with
        lockEng := none
        failEng := 0 } }) ∧
  (∀ s t, s.host.lockSaf = some t → t ≤ s.now →
    exec (.sessionLockEnd .safety) s = .next { s with
      host := { s.host with
        lockSaf := none
        failSaf := 0 } }) ∧
  (∀ s t, s.margin.lockUntil = some t → t ≤ s.now →
    exec .safeLockEnd s = .next { s with
      margin := { s.margin with
        lockUntil := none
        fails := 0 } })

/-- REGISTER_WRITE (R336, R337, R343, R345, R355): a PCIe write of BAR2 within the rings of PCIe mailboxes stores its bytes and nothing else, so that
every other address reads as before; one past 0x1FFFF, an access of BAR0 or BAR4 that is not an aligned word, and a write of a read-only
register change nothing but ACCESS_ERR, as does a write of BAR2 longer than the maximum payload of 256 bytes (R334); a word written to the
register of a row above does what that row does. The count of a write of a read-only register is the model's reading (log 22). Completes:
registerWrite. -/
def Obligations.RegisterWriteReachesItsRegister : Prop :=
  (∀ off (data : List Byte) s, Reaches .pcie s → data ≠ [] → data.length ≤ 256 → off + data.length ≤ 0x20000 → (∀ k, bit (s.mbox k).cfg 0 = false) →
    s.rings.wf = true →
    Completes (.registerWrite .pcie .bar2 off data) s fun t =>
      (∀ a, memRead a t.rings = if off ≤ a ∧ a < off + data.length then data.getD (a - off) 0 else memRead a s.rings) ∧
      { t with rings := s.rings } = s) ∧
  (∀ off (data : List Byte) s, Reaches .pcie s → (0x20000 < off + data.length ∨ 256 < data.length) →
    exec (.registerWrite .pcie .bar2 off data) s = .next s.accessErr) ∧
  (∀ p bar off (data : List Byte) s, Reaches p s → bar ≠ .bar2 → (data.length ≠ 4 ∨ off % 4 ≠ 0) →
    exec (.registerWrite p bar off data) s = .next s.accessErr) ∧
  (∀ p (data : List Byte) s, Reaches p s → data.length = 4 →
    exec (.registerWrite p .bar0 0x00 data) s = .next s.accessErr ∧ exec (.registerWrite p .bar0 0x0C data) s = .next s.accessErr) ∧
  (∀ p (k : Fin 8) (data : List Byte) s, Reaches p s → data.length = 4 →
    exec (.registerWrite p .bar0 (0x108 + 0x20 * k.val) data) s = exec (.mbDoorbell p k (bytesWord data)) s ∧
    exec (.registerWrite p .bar0 0x24 data) s = exec (.irqEnWrite p (bytesWord data)) s ∧
    exec (.registerWrite p .bar4 8 data) s = exec (.hlimCommit p (bytesWord data)) s)

/-- R156, R192: a change of a channel's state sets its state, requests a checkpoint of that state with cause STATE and touches nothing else of
the channel but its measurement record (averages, values held in ABSENT); of the rest, only the channel's recipe slot with a verification
that works on it, the Pounce units, the records and the events may change. -/
def Obligations.ChannelStateChange : Prop :=
  ∀ (s : State) (n : Fin 256) (st : ChState), (s.ch n).state ≠ st →
    ((s.toState n st).ch n).state = st ∧
    (∃ w, ((s.toState n st).ch n).ckptReq = some w ∧ fieldAt w 0 31 28 = st.code ∧ fieldAt w 0 27 24 = 2) ∧
    { (s.toState n st).ch n with
      state := (s.ch n).state
      meas := (s.ch n).meas
      ckptReq := (s.ch n).ckptReq
      ckptAt := (s.ch n).ckptAt
      ckptGap := (s.ch n).ckptGap } = s.ch n ∧
    (∀ j, j ≠ n → (s.toState n st).ch j = s.ch j) ∧
    (∀ k, k ≠ cfSlot (s.ch n).cfg → (s.toState n st).slotOf k = s.slotOf k) ∧
    { s.toState n st with
      chan := s.chan
      slot := s.slot
      pounce := s.pounce
      ink := s.ink
      blot := s.blot
      host := { (s.toState n st).host with mb := s.host.mb } } = s

/-- R56 to R59: a trip of a channel in CONFIGURED, ARMED, RUNNING, HELD, DONE or TUNE enters TRIPPED with both gates low, adds its cause and those
present, cancels a pending start, sets CLEAR_TO by the state it left and raises 0x0201; a TRIPPED channel only gains the cause; an
INTERRUPTED one gains it and stays; an OFF or ABSENT one is untouched. No other channel changes. -/
def Obligations.TripActs : Prop :=
  (∀ (s : State) (n : Fin 256) (m : Nat),
    (s.ch n).state = .configured ∨ (s.ch n).state = .armed ∨ (s.ch n).state = .running ∨ (s.ch n).state = .held ∨ (s.ch n).state = .done ∨
      (s.ch n).state = .tune →
    ((s.trip n m).ch n).state = .tripped ∧
    ((s.trip n m).ch n).tripCause = ((s.ch n).tripCause ||| BitVec.ofNat 16 (m ||| s.presentCauses n)) ∧
    ((s.trip n m).ch n).drive.driving = false ∧ ((s.trip n m).ch n).drive.ramp = none ∧
    (s.trip n m).pinGH n = false ∧ (s.trip n m).pinGL n = false ∧ ((s.trip n m).ch n).run.startAt = none ∧
    ((s.trip n m).ch n).clearTo = (match (s.ch n).state, (s.ch n).tune with
      | .running, _ => .held
      | .tune, some x => x.from_
      | .tune, none => .held
      | st, _ => st) ∧
    (∃ u, (s.trip n m).blot.raised = u ++ [s.event 0x0201 ALARM n.val
      (s.tripParam n ((s.ch n).tripCause ||| BitVec.ofNat 16 (m ||| s.presentCauses n)).toNat)]) ∧
    (∀ j, j ≠ n → (s.trip n m).ch j = s.ch j)) ∧
  (∀ (s : State) (n : Fin 256) (m : Nat), (s.ch n).state = .tripped →
    s.trip n m = s.updCh n fun c => { c with tripCause := c.tripCause ||| BitVec.ofNat 16 m }) ∧
  (∀ (s : State) (n : Fin 256) (m : Nat), (s.ch n).state = .interrupted →
    ((s.trip n m).ch n).state = .interrupted ∧ ((s.trip n m).ch n).tripCause = ((s.ch n).tripCause ||| BitVec.ofNat 16 m) ∧
    (∀ j, j ≠ n → (s.trip n m).ch j = s.ch j)) ∧
  (∀ (s : State) (n : Fin 256) (m : Nat), (s.ch n).state = .off ∨ (s.ch n).state = .absent → s.trip n m = s)

/-- Drive commands of R363 complete (R59, R64 to R68, R157, R196, R368): CH_CONFIG of an OFF or ABSENT channel stores the block, for a group mask
in every named channel, and a current record of another SHUNT counts as absent from then on (R89); CH_ENABLE of an OFF channel that passes
CK01 to CK32 enters CONFIGURED with cleared counters and flags and both configuration images written, each good where its region takes
writes; CH_DISABLE goes to OFF with both gates low; CH_STATUS answers its payload; CH_CLEAR with no live cause goes to CLEAR_TO. Completes:
chConfig, chEnable, chDisable, chStatus, chClear. -/
def Obligations.DriveCommandsComplete : Prop :=
  (∀ m s (n : Fin 256), Granted 0x0201 2 m s → m.target = chTarget n → m.length = 80 → NoReserved m cfReserved →
    (s.ch n).calRun = none → (s.ch n).state = .off ∨ (s.ch n).state = .absent →
    CompletesBy (.chConfig m) 0x0201 m s (fun t => t.updCh n fun c => c.takeConfig (blockFit 16 m.params)) (s.ch n).state.code 0 []) ∧
  (∀ (c : Channel) b b', (c.takeConfig b).cfg = b ∧ { c.takeConfig b with cfg := c.cfg, meas := c.meas } = c ∧
    (∀ r < 6, calValid (c.meas.calRead.getD (1 + r) []) = true → calShunt (c.meas.calRead.getD (1 + r) []) ≠ cfShunt b →
      ((c.takeConfig b).takeConfig b').recordIn ((c.takeConfig b).takeConfig b').meas.calRead true r = none)) ∧
  (∀ m s g, Granted 0x0201 2 m s → 0 < g → g < 65536 → m.target = BitVec.ofNat 32 (0x20000000 + g) → m.length = 80 → NoReserved m cfReserved →
    (maskChannels g).length ≤ (s.takeOff 0x0201 m).quire.quotaFree m.mb →
    (∀ n ∈ maskChannels g, (s.ch n).calRun = none ∧ ((s.ch n).state = .off ∨ (s.ch n).state = .absent)) →
    CompletesBy (.chConfig m) 0x0201 m s
      (fun t => forAll (fun n u => u.updCh n fun c => c.takeConfig (blockFit 16 m.params)) (maskChannels g) t) 0 0
      (maskPayload 0xFFFF (maskChannels g))) ∧
  (∀ m s (n : Fin 256), Granted 0x0202 1 m s → m.target = chTarget n → m.length = 16 → (s.ch n).calRun = none → (s.ch n).state = .off →
    s.enableFail n (s.chv n).minPulse = none → (s.ch n).meas.convFault = false →
    (s.dieOf (dieOfCh n)).activePins &&& cfTripSel (s.ch n).cfg = 0 →
    CompletesBy (.chEnable m) 0x0202 m s
      (fun t => ((t.updCh n fun c =>
        let d := c.clearCounts
        { d with
          drive := { d.drive with minPulse := (s.chv n).minPulse }
          run := { d.run with
            runValid := false
            restored := none
            copy := none
            hasRun := false } }).writeImages n).toState n .configured) 1 0 []) ∧
  (∀ (s : State) (n : Fin 256), s.regionFails 5 = false → s.regionFails 6 = false →
    ((s.writeImages n).chv n).imgA = .good (s.ch n).cfg (s.ch n).sets ∧ ((s.writeImages n).chv n).imgB = .good (s.ch n).cfg (s.ch n).sets ∧
    (∀ j, j ≠ n → (s.writeImages n).chv j = s.chv j) ∧ (s.writeImages n).chan = s.chan) ∧
  (∀ m s (n : Fin 256), Granted 0x0203 1 m s → m.target = chTarget n → m.length = 16 → (s.ch n).calRun = none →
    (s.ch n).state ≠ .running → (s.ch n).state ≠ .tripped → (s.ch n).state ≠ .tune → (s.ch n).state ≠ .absent →
    CompletesBy (.chDisable m) 0x0203 m s
      (fun t => (t.updCh n fun c => { c with
        drive := { c.drive with
          driving := false
          ramp := none
          gates := none }
        run := { c.run with
          startAt := none
          trans := none } }).toState n .off) 0 0 []) ∧
  (∀ m s (n : Fin 256), Granted 0x0204 0 m s → m.target = chTarget n → m.length = 16 →
    CompletesBy (.chStatus m) 0x0204 m s id (s.ch n).state.code 0 (s.statusWords n)) ∧
  (∀ m s (n : Fin 256), Granted 0x0205 1 m s → m.target = chTarget n → m.length = 16 → (s.ch n).calRun = none → (s.ch n).state = .tripped →
    s.activeCauses n &&& (s.ch n).tripCause.toNat = 0 →
    CompletesBy (.chClear m) 0x0205 m s
      (fun t => ((t.updCh n fun c => { c with tripCause := 0 }).toState n (s.ch n).clearTo).raise 0x0202 INFO n.val
        ((s.ch n).tripCause.toNat + 2 ^ 16 * (s.ch n).clearTo.code)) (s.ch n).clearTo.code 0 [])

/-- R60, R66, R363: CH_ENABLE with a failing check answers that check's code and number, raises 0x0208 and leaves the channel, so on
each channel of a mask too; CH_CLEAR with a live cause answers RC_TRIP_ACTIVE with the live causes and leaves the channel; a group mask
stops at the first channel that refuses. -/
def Obligations.DriveCommandsRefused : Prop :=
  (∀ m s (n : Fin 256) k rc, Granted 0x0202 1 m s → m.target = chTarget n → m.length = 16 → (s.ch n).calRun = none → (s.ch n).state = .off →
    s.enableFail n (s.chv n).minPulse = some (k, rc) → (s.dieOf (dieOfCh n)).activePins &&& cfTripSel (s.ch n).cfg = 0 →
    exec (.chEnable m) s =
      .next (((s.takeOff 0x0202 m).raise 0x0208 INFO n.val (k + 2 ^ 8 * rc)).respond m.mb (answerTo m rc 0 k []))) ∧
  (∀ (s : State) (n : Fin 256) k rc, (s.ch n).calRun = none → (s.ch n).state = .off ∨ (s.ch n).state = .absent →
    s.enableFail n (s.chv n).minPulse = some (k, rc) → s.enable n = (some (rc, k), s.raise 0x0208 INFO n.val (k + 2 ^ 8 * rc))) ∧
  (∀ m s (n : Fin 256), Granted 0x0205 1 m s → m.target = chTarget n → m.length = 16 → (s.ch n).calRun = none → (s.ch n).state = .tripped →
    s.activeCauses n &&& (s.ch n).tripCause.toNat ≠ 0 →
    exec (.chClear m) s = .next ((s.takeOff 0x0205 m).respond m.mb
      (answerTo m RC_TRIP_ACTIVE 6 (s.activeCauses n &&& (s.ch n).tripCause.toNat) []))) ∧
  (∀ (f : Fin 256 → State → Option (Nat × Nat) × State) (l r : List (Fin 256)) n (s t : State) st d,
    runMask f l [] s = (none, l, t) → (f n t).1 = some (st, d) →
    runMask f (l ++ n :: r) [] s = (some (n.val, st, d), l, (f n t).2))

/-- Pins of the FE dies (R54 to R58, R62, R63): a TRIP input that reaches its level trips the channels of its die that select it while it is
enabled, and no others; GPg_N going high trips the group; 10 ms later, and not before, the group's channels are ABSENT and 0x0205 is raised;
after 100 ms low, and not before, ABSENT channels are OFF and 0x0206 is raised. Completes: tripPin, gpReleased, gpSeated, chBoardRemoved,
chBoardInserted. -/
def Obligations.PinsOfTheFeDies : Prop :=
  (∀ s (f : Fin 4) (k : Fin 8), tripEnabled (s.dieOf f).tripCfg k.val = true →
    Completes (.tripPin f k true) s fun t =>
      (t.dieOf f).tripLevel = ((s.dieOf f).tripLevel ||| BitVec.ofNat 8 (2 ^ k.val)) ∧
      (∀ n, dieOfCh n = f → (cfTripSel (s.ch n).cfg).testBit k.val = true → (s.ch n).state = .held → (t.ch n).state = .tripped) ∧
      (∀ n, dieOfCh n ≠ f ∨ (cfTripSel (s.ch n).cfg).testBit k.val = false → t.ch n = s.ch n)) ∧
  (∀ s (f : Fin 4) (k : Fin 8), exec (.tripPin f k false) s =
    .next (s.updDie f fun d => { d with tripLevel := d.tripLevel &&& ~~~(BitVec.ofNat 8 (2 ^ k.val)) })) ∧
  (∀ s (g : Fin 16), Completes (.gpReleased g) s fun t =>
    (t.grp g).released = true ∧ (∀ n, groupOf n = g → (s.ch n).state = .armed → (t.ch n).state = .tripped) ∧
    (Timer.boardOut g, s.now + 10 * 250000) ∈ t.timers ∧ (∀ n, groupOf n ≠ g → t.ch n = s.ch n)) ∧
  (∀ s (g : Fin 16), exec (.gpSeated g) s = .next ((s.startTimer (.boardIn g) (100 * 250000)).updGrp g fun x => { x with
    released := false
    seated := false })) ∧
  (∀ s (g : Fin 16) n, (Timer.boardOut g, n) ∈ s.timers → s.now < n → exec (.chBoardRemoved g) s = .next s) ∧
  (∀ s (g : Fin 16) n, (Timer.boardIn g, n) ∈ s.timers → s.now < n → exec (.chBoardInserted g) s = .next s) ∧
  (∀ s (g : Fin 16), (s.grp g).released = true → s.ranOut (.boardOut g) = true → (s.ch (Fin.ofNat 256 (16 * g.val))).state ≠ .absent →
    Completes (.chBoardRemoved g) s fun t =>
      (∀ n, groupOf n = g → (t.ch n).state = .absent ∧ (t.ch n).drive.driving = false) ∧ (∀ n, groupOf n ≠ g → t.ch n = s.ch n) ∧
      (∃ u, t.blot.raised = u ++ [s.event 0x0205 ALARM g.val g.val])) ∧
  (∀ s (g : Fin 16), (s.grp g).released = false → s.ranOut (.boardIn g) = true → (s.ch (Fin.ofNat 256 (16 * g.val))).state = .absent →
    Completes (.chBoardInserted g) s fun t =>
      (t.grp g).seated = true ∧
      (∀ n, groupOf n = g → (t.ch n).state = if (s.ch n).state = .absent then .off else (s.ch n).state) ∧
      (∀ n, groupOf n ≠ g → t.ch n = s.ch n) ∧ (∃ u, t.blot.raised = u ++ [s.event 0x0206 NOTICE g.val g.val]))

/-- Measurement rows (R56, R70 to R77, R95, R97, R98, R249, R267): a pair of conversions within range of an OFF channel becomes its latest
readings and enters the record mean; the channel power of a window and the group's sum; an auxiliary reading of the scan; an urgent request
of a running unit; the record at a boundary of the interval, and none between boundaries; REC_CONFIG; the die temperature. The power of a
channel without a loop sample in the window is the model's choice (log 56). Completes: channelConversion, groupPowerWindow, auxConversion,
auxUrgentRequest, periodicRecord, recConfig, calTempDrift. -/
def Obligations.MeasurementCompletes : Prop :=
  (∀ s (n : Fin 256) (k : Conversion), (s.ch n).state = .off → (s.ch n).calRun = none → (s.ch n).meas.skipV = false → (s.ch n).meas.skipI = false →
    0 ≤ k.codeV → k.codeV ≤ 4096 → -2048 ≤ k.codeI → k.codeI ≤ 2048 →
    Completes (.channelConversion n k) s fun t =>
      (t.ch n).meas.vLast = (s.calibrated n k.codeV k.codeI k).1 ∧ (t.ch n).meas.iLast = (s.calibrated n k.codeV k.codeI k).2 ∧
      (t.ch n).meas.recN = (s.ch n).meas.recN + 1 ∧
      (t.ch n).meas.recSumV = (s.ch n).meas.recSumV + (s.calibrated n k.codeV k.codeI k).1 ∧
      { t.ch n with meas := (s.ch n).meas } = s.ch n ∧ (∀ j, j ≠ n → t.ch j = s.ch j) ∧ { t with chan := s.chan } = s) ∧
  (∀ s (n : Fin 256) (k : Conversion), (s.ch n).state = .absent → exec (.channelConversion n k) s = .next s) ∧
  (∀ s (g : Fin 16), s.groupMax g = none →
    Completes (.groupPowerWindow g) s fun t =>
      (∀ n, groupOf n = g → (t.ch n).meas.pwrN = 0 ∧ (t.ch n).meas.pwrSum = 0 ∧
        (t.ch n).meas.power = if (s.ch n).meas.pwrN = 0 then 0 else (mean (s.ch n).meas.pwrSum (s.ch n).meas.pwrN).toNat) ∧
      (∀ n, groupOf n ≠ g → t.ch n = s.ch n) ∧ (∀ h, h ≠ g → t.grp h = s.grp h) ∧
      (t.grp g).power = (((groupChannels g).filter fun n => (s.ch n).state.active).map fun n => (t.ch n).meas.power).foldl (· + ·) 0 ∧
      { t with
        chan := s.chan
        group := s.group } = s) ∧
  (∀ s (f : Fin 4) (j : Fin 8) code dither, (s.dieOf f).urgent = [] → (∀ n, s.hlimOf n = none) → (∀ g, (s.grp g).busAux = 0x1FF) →
    vget (s.dieOf f).scan j = 3 →
    Completes (.auxConversion f j code dither) s fun t =>
      vgetD (t.dieOf f).aux (9 * j.val + 3) 0 = divRound ((16 * code - dither) * 3300000) 65536 ∧
      vget (t.dieOf f).scan j = 4 ∧ (∀ i, i ≠ 9 * j.val + 3 → vgetD (t.dieOf f).aux i 0 = vgetD (s.dieOf f).aux i 0) ∧
      { t with die := s.die } = s) ∧
  (∀ s (u : Fin 32) (i : Fin 288), (s.unit u).state = .armed → (s.unit u).urgentOn i.val = true →
    ((s.dieOf (Fin.ofNat 4 (i.val / 72))).urgent.contains (u.val, i.val % 72)) = false →
    exec (.auxUrgentRequest u i) s = .next (s.updDie (Fin.ofNat 4 (i.val / 72)) fun d => { d with urgent := d.urgent ++ [(u.val, i.val % 72)] })) ∧
  (∀ s (n : Fin 256) b, (s.ch n).state = .running ∨ (s.ch n).state = .tune → s.boundaryDue n = some b → (s.ink.waiting.filter fun x => x.producer == n.val).length < 8 →
    Completes (.periodicRecord n) s fun t =>
      t.ink.waiting = s.ink.waiting ++ [s.periodicRec n b (s.ch n).meas.recPartial] ∧
      (s.periodicRec n b (s.ch n).meas.recPartial).time = b ∧ b % cfRecInterval (s.ch n).cfg = 0 ∧ s.tb.time < b + 5 ∧
      (t.ch n).meas = (s.ch n).meas.newInterval b false ∧ { t.ch n with meas := (s.ch n).meas } = s.ch n ∧ (∀ j, j ≠ n → t.ch j = s.ch j)) ∧
  (∀ s (n : Fin 256), (s.ch n).state = .off ∨ (s.ch n).state = .absent ∨ s.boundaryDue n = none →
    exec (.periodicRecord n) s = .next s) ∧
  (∀ m s, Granted 0x0701 2 m s → m.target = 0 → m.length = 28 → NoReserved m [(0, 0xFFFFFEFC)] → 256 ≤ natAt m.params 4 → natAt m.params 4 ≤ 65536 →
    100 ≤ natAt m.params 8 → natAt m.params 8 ≤ 100000 → bitAt m.params 0 8 = s.ink.periodicIdle →
    CompletesBy (.recConfig m) 0x0701 m s
      (fun t => { t with
        ink := { t.ink with
          evtMin := fieldAt m.params 0 1 0
          thinReserve := natAt m.params 4
          flushUs := natAt m.params 8 } }) 0 0 []) ∧
  (∀ m s, Granted 0x0701 2 m s → m.target = 0 → m.length = 28 → NoReserved m [(0, 0xFFFFFEFC)] → 256 ≤ natAt m.params 4 → natAt m.params 4 ≤ 65536 →
    100 ≤ natAt m.params 8 → natAt m.params 8 ≤ 100000 →
    Completes (.recConfig m) s fun t =>
      t.ink.periodicIdle = bitAt m.params 0 8 ∧ t.ink.evtMin = fieldAt m.params 0 1 0 ∧ t.ink.thinReserve = natAt m.params 4 ∧
      t.ink.flushUs = natAt m.params 8 ∧ (∀ n, { t.ch n with meas := (s.ch n).meas } = s.ch n)) ∧
  (∀ s (f : Fin 4) temp, (∀ n, s.calOf n false 0 = none ∧ s.calOf n true (cfGain (s.ch n).cfg) = none) →
    exec (.calTempDrift f temp) s = .next (s.updDie f fun d => { d with temp := temp })) ∧
  (∀ s (n : Fin 256) temp b, s.calOf n false 0 = some b → drifted (s.dieOf (dieOfCh n)).temp b ≠ drifted temp b →
    Completes (.calTempDrift (dieOfCh n) temp) s fun t =>
      (t.dieOf (dieOfCh n)).temp = temp ∧ s.event 0x0305 NOTICE n.val (p16 (temp - calTemp b) + 2 ^ 16 * (calQr b % 32)) ∈ t.blot.raised ∧
      t.chan = s.chan)

/-- Calibration (R84 to R90): CAL_POINT holds its mailbox and starts its averages; CAL_POINT_DONE keeps the point and answers MEAN_U, COUNT and
SPREAD, or RC_CAL_SPAN 3 after an over-range conversion, keeping none; a point is discarded after 1 h; CAL_COMMIT of two points within the
limits writes the record and answers it, and discards the channel's points, as it does with no point at the first value, which it
refuses; CAL_READ answers the record. Completes: calPoint, calPointDone, calPointExpiry, calCommit, calRead. -/
def Obligations.CalibrationCompletes : Prop :=
  (∀ m s (n : Fin 256) cur g a b, Granted 0x0C01 2 m s → m.target = chTarget n → m.length = 28 → (s.ch n).calRun = none →
    (s.ch n).state = .off ∨ (s.ch n).state = .configured ∨ (s.ch n).state = .done → NoReserved m [(0, 0xFFFFFFC8)] →
    calSel m = some (cur, g) → 100 ≤ natAt m.params 8 → natAt m.params 8 ≤ 10000 → refOfFs (s.ch n) cur g (intAt m.params 4) = (a, b) →
    (if bitAt m.params 0 5 = true then b ≤ 2 * a ∧ a ≤ b else 200 * a ≤ b) →
    Completes (.calPoint m) s fun t =>
      (∃ r, (t.ch n).calRun = some r ∧ r.mb = m.mb ∧ r.tag = m.tag ∧ r.current = cur ∧ r.range = g ∧ r.full = bitAt m.params 0 5 ∧
        r.ref = intAt m.params 4 ∧ r.avgMs = natAt m.params 8 ∧ r.sum = 0 ∧ r.count = 0 ∧ r.start = s.now) ∧
      { t.ch n with calRun := none } = s.ch n ∧ (∀ j, j ≠ n → t.ch j = s.ch j) ∧
      (t.mbox m.mb).working = (s.mbox m.mb).working + 1 ∧ (t.mbox m.mb).done = (s.mbox m.mb).done) ∧
  (∀ s (n : Fin 256) r lo hi, (s.ch n).calRun = some r → r.overRange = false → r.subMin = some lo → r.subMax = some hi → r.count ≠ 0 →
    r.flags.getLsbD 15 = false → (s.mbox r.mb).working ≠ 0 → (s.mbox r.mb).discard = 0 →
    Completes (.calPointDone n) s fun t =>
      (t.ch n).calRun = none ∧
      (∃ l, (t.ch n).calPoints = { current := r.current, range := r.range, full := r.full, ref := r.ref, meanU := mean r.sum r.count } :: l ∧
        l = (s.ch n).calPoints.filter fun p => !(p.current == r.current && p.range == r.range && p.full == r.full)) ∧
      (t.mbox r.mb).working = (s.mbox r.mb).working - 1 ∧
      (t.mbox r.mb).done = (s.mbox r.mb).done ++ [calAnswer r 0 (s.ch n).state.code 0 [wInt (mean r.sum r.count), w32 r.count, wInt (hi - lo)]] ∧
      (∀ j, j ≠ n → t.ch j = s.ch j) ∧
      { t with
        chan := s.chan
        host := s.host
        timers := s.timers } = s ∧ (Timer.calPoint n r.current r.range r.full, s.now + 3600 * 250000000) ∈ t.timers) ∧
  (∀ s (n : Fin 256) r, (s.ch n).calRun = some r → r.overRange = true →
    r.flags.getLsbD 15 = false → (s.mbox r.mb).working ≠ 0 → (s.mbox r.mb).discard = 0 →
    Completes (.calPointDone n) s fun t =>
      (t.ch n).calRun = none ∧ (t.ch n).calPoints = (s.ch n).calPoints ∧
      (t.mbox r.mb).done = (s.mbox r.mb).done ++ [calAnswer r RC_CAL_SPAN (s.ch n).state.code 3 []]) ∧
  (∀ s (n : Fin 256) cur (r : Fin 6) full x, (Timer.calPoint n cur r.val full, x) ∈ s.timers → s.now < x →
    exec (.calPointExpiry n cur r full) s = .next s) ∧
  (∀ m s (n : Fin 256) cur k, Granted 0x0C02 2 m s → m.target = chTarget n → m.length = 24 → (s.ch n).calRun = none →
    (s.ch n).state = .off ∨ (s.ch n).state = .configured ∨ (s.ch n).state = .done → NoReserved m [(0, 0xFFFFFFE8)] →
    calSel m = some (cur, k) → ((s.ch n).calPoints.find? fun p => p.current == cur && p.range == k && p.full == false) = none →
    exec (.calCommit m) s = .next (((s.takeOff 0x0C02 m).updCh n fun c => { c with calPoints := [] }).respond m.mb
      (answerTo m RC_CAL_SPAN (s.ch n).state.code 4 []))) ∧
  (∀ s (n : Fin 256) cur (r : Fin 6) full, s.ranOut (.calPoint n cur r.val full) = true → Completes (.calPointExpiry n cur r full) s fun t =>
    (∀ p, p ∈ (t.ch n).calPoints ↔ p ∈ (s.ch n).calPoints ∧ ¬ (p.current = cur ∧ p.range = r.val ∧ p.full = full)) ∧
    { t.ch n with calPoints := (s.ch n).calPoints } = s.ch n ∧ (∀ j, j ≠ n → t.ch j = s.ch j) ∧ { t with chan := s.chan } = s) ∧
  (∀ m s (n : Fin 256) cur k p0 p1 g o, Granted 0x0C02 2 m s → m.target = chTarget n → m.length = 24 → (s.ch n).calRun = none →
    (s.ch n).state = .off ∨ (s.ch n).state = .configured ∨ (s.ch n).state = .done → NoReserved m [(0, 0xFFFFFFE8)] →
    calSel m = some (cur, k) → (s.mbox m.mb).discard = 0 →
    ((s.ch n).calPoints.find? fun p => p.current == cur && p.range == k && p.full == false) = some p0 →
    ((s.ch n).calPoints.find? fun p => p.current == cur && p.range == k && p.full == true) = some p1 →
    crcBlock [wInt p0.ref, wInt p1.ref] = wordAt m.params 4 →
    calSolve (if cur then 256 * 2 ^ k * cfShunt (s.ch n).cfg else 256) (if cur then 625000000 else 125) p0 p1 = some (g, o) →
    97 * qOne ≤ g * 100 → g * 100 ≤ 103 * qOne → o.natAbs ≤ 16384 →
    Completes (.calCommit m) s fun t =>
      (∃ b, (t.chv n).calib = (s.chv n).calib.set (if cur then 1 + k else 0) b ∧ b.length = 8 ∧ calGain b = g ∧ calOffset b = o ∧
        calShunt b = (if cur then cfShunt (s.ch n).cfg else 0) ∧ calStale b = false ∧ calValid b = true ∧
        (t.mbox m.mb).done = (s.mbox m.mb).done ++ [okAnswer m (s.ch n).state.code 0 b]) ∧
      (t.ch n).calPoints = [] ∧ (t.ch n).meas.calRead = (t.chv n).calib ∧ (∀ j, j ≠ n → t.ch j = s.ch j)) ∧
  (∀ m s (n : Fin 256) cur k, Granted 0x0C03 0 m s → m.target = chTarget n → m.length = 20 → NoReserved m [(0, 0xFFFFFFE8)] →
    calSel m = some (cur, k) →
    CompletesBy (.calRead m) 0x0C03 m s id (s.ch n).state.code 0
      (blockFit 8 ((s.chv n).calib.getD (if cur then 1 + k else 0) [])))

/-- Reload capture, delay lines and self-tests (R36, R37, R46 to R48, R52, R91, R92, R113, R209, R276): a capture in RUNNING latches the held
word, forms its period and its gates' pulses up to the next reload boundary, and applies new tap calibrations; an update that is due with
its word held ends a run of overruns, and one without is an overrun; in a state that does not drive, no period follows; a coil latches its
word when CLAIM agrees; a calibrated line; a self-test that passes clears its failures, the first failure raises 0x0301, the second steers in
the lowest spare and raises 0x0302; the spare replaces the converter after its 100 µs, and not before. Completes: reloadCapture,
dlineCalibration, convSelftest, spareSettled. -/
def Obligations.CaptureAndSelfTests : Prop :=
  (∀ s (n : Fin 256) w, (s.ch n).state = .running → (s.ch n).drive.ramp = none → s.rst.flushing = none → s.rst.pfailSeq = false →
    (s.ch n).drive.late = none → (∀ x ∈ (s.ch n).drive.flights, dueAt (s.ch n).drive.reload x = true → x.2 = true) →
    Completes (.reloadCapture (.channel n) w) s fun t =>
      (t.ch n).drive.latched = (s.ch n).drive.heldWord ∧ (t.ch n).drive.driving = true ∧ (t.ch n).drive.first = false ∧
      (t.ch n).drive.period = (formPeriod (s.ch n).cfg (s.hlimOf n) (s.ch n).drive.first (s.ch n).drive.heldWord).1 ∧
      (t.ch n).drive.onTime = (formPeriod (s.ch n).cfg (s.hlimOf n) (s.ch n).drive.first (s.ch n).drive.heldWord).2.1 ∧
      (t.ch n).drive.reload = (s.ch n).drive.reload + (segment (s.ch n).cfg (s.ch n).drive.first (s.ch n).drive.reload
        (t.ch n).drive.period (t.ch n).drive.onTime).2 ∧
      ((t.ch n).drive.gates.map fun g => g.horizon) = some (t.ch n).drive.reload ∧
      (t.ch n).drive.tapsH = (s.ch n).drive.tapsH.apply ∧ (t.ch n).drive.tapsL = (s.ch n).drive.tapsL.apply ∧
      (t.ch n).drive.flights = (s.ch n).drive.flights.filter (fun x => !dueAt (s.ch n).drive.reload x) ∧
      ((t.ch n).drive.flights ≠ (s.ch n).drive.flights → (t.ch n).drive.consec = 0) ∧
      { t.ch n with drive := (s.ch n).drive } = s.ch n ∧ (∀ j, j ≠ n → t.ch j = s.ch j) ∧
      { t with
        chan := s.chan
        blot := s.blot } = s) ∧
  (∀ s (n : Fin 256) w, (s.ch n).state = .held → (s.ch n).drive.ramp = none → (s.ch n).drive.late = none →
    exec (.reloadCapture (.channel n) w) s = .next (s.updCh n fun c => { c with
      drive := { c.drive with
        driving := false
        tapsH := c.drive.tapsH.apply
        tapsL := c.drive.tapsL.apply } })) ∧
  (∀ s (n : Fin 256) w k x l, (s.ch n).state = .running → (s.ch n).drive.ramp = none → s.rst.flushing = none → s.rst.pfailSeq = false →
    (s.ch n).drive.late = none → s.evalNib n = some k → (s.ch n).drive.flights = (x, false) :: l →
    x + 35584 + 1280 ≤ (s.ch n).drive.reload → (∀ y ∈ l, (s.ch n).drive.reload < y.1 + 35584 + 1280) →
    Completes (.reloadCapture (.channel n) w) s fun t =>
      s.event 0x0401 NOTICE n.val (satAdd (s.ch n).drive.overrun 1 + 2 ^ 32 * (((s.ch n).drive.consec + 1) % 4)) ∈ t.blot.raised ∧
      ((s.ch n).drive.consec < 2 → (t.ch n).drive.latched = (s.ch n).drive.heldWord ∧
        (t.ch n).drive.overrun = satAdd (s.ch n).drive.overrun 1 ∧ (t.ch n).drive.consec = (s.ch n).drive.consec + 1 ∧
        (t.ch n).loop.overrun = true) ∧
      (2 ≤ (s.ch n).drive.consec → s.event 0x0402 ALARM k.val (n.val + 2 ^ 8 * (groupOf n).val) ∈ t.blot.raised)) ∧
  (∀ s (n : Fin 256) w an start total, (s.ch n).drive.ramp = some (0, an, start, total, false) → (s.ch n).drive.late = none →
    exec (.reloadCapture (.channel n) w) s = .next (s.updCh n fun c => { c with
      drive := { c.drive with
        ramp := none
        driving := false
        onTime := 0
        tapsH := c.drive.tapsH.apply
        tapsL := c.drive.tapsL.apply } })) ∧
  (∀ s (a : Fin 8), (s.ax a).coilA.fresh = true → (s.ax a).coilA.heldWord.toNat / 2 ^ 60 = s.nibs.acceptClaim.toNat →
    (s.ax a).coilB.fresh = false →
    Completes (.reloadCapture (.axis a) false) s fun t =>
      (t.ax a).coilA.latched = gmOn (s.ax a).coilA.heldWord ∧ (t.ax a).coilA.live = true ∧ (t.ax a).coilB = (s.ax a).coilB ∧
      (t.ax a).claimRefused = satAdd (s.ax a).claimRefused 0 ∧ (∀ b, b ≠ a → t.ax b = s.ax b) ∧ { t with axis := s.axis } = s) ∧
  (∀ s (f : Fin 4) (line : Fin 128) err, (s.dieOf f).dlineBad = [line.val] → err = 0 ∨ err = 1 ∨ err = -1 →
    exec (.dlineCalibration f line err) s = .next ((s.newTaps f line err).updDie f fun d => { d with
      dlineBad := []
      dlineOk := true })) ∧
  (∀ s (f : Fin 4) (line : Fin 128) (err : Int), 1 < err.natAbs → (s.dieOf f).dlineBad = [] →
    exec (.dlineCalibration f line err) s = .next (s.raise 0x0207 ALARM f.val (line.val + 2 ^ 8 * (err % (256 : Int)).toNat))) ∧
  (∀ s (f : Fin 4) (c : Fin 140) (code : Int), 128 ≤ c.val → c.val < 136 → (code - s.refCode f c.val).natAbs ≤ 2048 →
    exec (.convSelftest (.fe f c) code) s = .next (s.updDie f fun d => { d with
      codes := (c.val, code) :: d.codes.filter fun x => x.1 != c.val
      fails := d.fails.filter fun x => x.1 != c.val })) ∧
  (∀ s (f : Fin 4) (c : Fin 140) (code : Int), 128 ≤ c.val → c.val < 136 → 2048 < (code - s.refCode f c.val).natAbs →
    (∀ x ∈ (s.dieOf f).fails, x.1 ≠ c.val) →
    exec (.convSelftest (.fe f c) code) s = .next ((s.updDie f fun d => { d with
      codes := (c.val, code) :: d.codes.filter fun x => x.1 != c.val
      fails := (c.val, 1) :: d.fails }).raise 0x0301 NOTICE f.val (c.val + 2 ^ 16 * p16 (divFree (code - s.refCode f c.val) 16)))) ∧
  (∀ s (f : Fin 4) (c : Fin 140) (code : Int) sp rest, 128 ≤ c.val → c.val < 136 → 2048 < (code - s.refCode f c.val).natAbs →
    (∃ x ∈ (s.dieOf f).fails, x.1 = c.val) → (s.dieOf f).spares = sp :: rest →
    Completes (.convSelftest (.fe f c) code) s fun t =>
      (t.dieOf f).spares = rest ∧ (c.val, sp, false) ∈ (t.dieOf f).steered ∧ (Timer.spare f c.val, s.now + 25000) ∈ t.timers ∧ t.chan = s.chan ∧
      (∃ u, t.blot.raised = u ++ [s.event 0x0302 NOTICE f.val (c.val + 2 ^ 8 * sp)])) ∧
  (∀ s (f : Fin 4) (c : Fin 140) (code : Int), c.val < 128 → (code - s.refCode f c.val).natAbs ≤ 2048 →
    Completes (.convSelftest (.fe f c) code) s fun t =>
      (t.ch (convChannel f c.val)).meas.skipV = ((s.ch (convChannel f c.val)).meas.skipV || c.val % 2 == 0) ∧
      (t.ch (convChannel f c.val)).meas.skipI = ((s.ch (convChannel f c.val)).meas.skipI || c.val % 2 == 1) ∧
      (t.dieOf f).fails = (s.dieOf f).fails.filter (fun x => x.1 != c.val) ∧ t.blot = s.blot) ∧
  (∀ s (a : Fin 8) (code : Int), (code - Config.factoryRef (1000 + 2 * a.val)).natAbs ≤ 2048 →
    exec (.convSelftest (.coil a false) code) s = .next (s.updAx a fun x => { x with
      coilA := { x.coilA with
        testFails := 0
        testOk := true } })) ∧
  (∀ s (f : Fin 4) (c : Fin 140) x, (Timer.spare f c.val, x) ∈ s.timers → s.now < x → exec (.spareSettled f c) s = .next s) ∧
  (∀ s (f : Fin 4) (c : Fin 140), s.ranOut (.spare f c.val) = true → Completes (.spareSettled f c) s fun t =>
    (∀ sp b, (c.val, sp, b) ∈ (s.dieOf f).steered → (c.val, sp, true) ∈ (t.dieOf f).steered) ∧
    (∀ x ∈ (s.dieOf f).steered, x.1 ≠ c.val → x ∈ (t.dieOf f).steered) ∧ (∀ g, g ≠ f → t.dieOf g = s.dieOf g) ∧ { t with die := s.die } = s)

/-- Run commands of R157 complete (R157 to R162): CH_ARM and CH_STEP_JUMP post their load item and hold their mailbox; CH_START enters RUNNING at
once or arms its time; START_AT_REACHED starts the armed channel; CH_HOLD holds a RUNNING channel, cancels a pending start, leaves a HELD one;
CH_ABORT ends in DONE, with the STEP record of a step that has run; CH_RESUME of a HELD channel with its step loaded continues that step
with ST and accumulators kept. A start waits until START_TIME. Completes: chArm, chStart, startAtReached, chHold, chAbort, chResume,
chStepJump. -/
def Obligations.RunCommandsComplete : Prop :=
  (∀ m s (n : Fin 256), Granted 0x0301 1 m s → m.target = chTarget n → m.length = 16 → (s.ch n).calRun = none →
    (s.ch n).state = .configured ∨ (s.ch n).state = .done → s.restoredCheck n = none → (s.slotOf (cfSlot (s.ch n).cfg)).ok = true →
    1 ≤ (s.takeOff 0x0301 m).quire.quotaFree m.mb →
    Completes (.chArm m) s fun t =>
      (∃ it ∈ t.quire.items, it.work = .load n 0 m ∧ it.flow = n.val ∧ it.target = .ductus ∧ it.prio = 2 ∧ it.producer = .mailbox m.mb) ∧
      (t.mbox m.mb).working = (s.mbox m.mb).working + 1 ∧ (t.mbox m.mb).done = (s.mbox m.mb).done ∧ t.chan = s.chan ∧ t.slot = s.slot) ∧
  (∀ m s (n : Fin 256) k, Granted 0x0306 1 m s → m.target = chTarget n → m.length = 20 → (s.ch n).calRun = none →
    (s.ch n).state = .armed ∨ (s.ch n).state = .held → NoReserved m [(0, 0xFFFF0000)] → fieldAt m.params 0 15 0 = k →
    k < (s.slotOf (cfSlot (s.ch n).cfg)).total → 1 ≤ (s.takeOff 0x0306 m).quire.quotaFree m.mb →
    Completes (.chStepJump m) s fun t =>
      (∃ it ∈ t.quire.items, it.work = .load n k m ∧ it.flow = n.val ∧ it.target = .ductus ∧ it.prio = 2) ∧
      (t.mbox m.mb).working = (s.mbox m.mb).working + 1 ∧ t.chan = s.chan ∧ t.slot = s.slot) ∧
  (∀ m s (n : Fin 256) e, Granted 0x0302 1 m s → m.target = chTarget n → m.length = 36 → (s.ch n).calRun = none → (s.ch n).state = .armed →
    (s.ch n).run.startAt = none → NoReserved m [(0, 0xFFFFFFFC)] → s.channelLock n = none → s.needsSync n (bitAt m.params 0 1) = none →
    bitAt m.params 0 0 = false → (s.ch n).run.cur = some e →
    Completes (.chStart m) s fun t =>
      (t.ch n).state = .running ∧ (t.ch n).acc = (s.ch n).acc.freshRun ∧ (t.ch n).run.pos = (s.ch n).run.pos ∧ (t.ch n).run.cur = some e ∧
      (t.ch n).run.syncTime = (if bitAt m.params 0 1 = true then some (natAt64 m.params 0xC) else none) ∧
      (t.ch n).drive.first = true ∧ (∀ j, j ≠ n → t.ch j = s.ch j) ∧
      ((s.mbox m.mb).discard = 0 → (t.mbox m.mb).done = (s.mbox m.mb).done ++ [okAnswer m 3 0 []])) ∧
  (∀ m s (n : Fin 256), Granted 0x0302 1 m s → m.target = chTarget n → m.length = 36 → (s.ch n).calRun = none → (s.ch n).state = .armed →
    (s.ch n).run.startAt = none → NoReserved m [(0, 0xFFFFFFFC)] → s.channelLock n = none → s.needsSync n (bitAt m.params 0 1) = none →
    bitAt m.params 0 0 = true → s.tb.time < natAt64 m.params 4 →
    CompletesBy (.chStart m) 0x0302 m s (fun t => t.updCh n fun c => { c with
      acc := c.acc.freshRun
      run := { c.run with
        syncTime := if bitAt m.params 0 1 = true then some (natAt64 m.params 0xC) else none
        startAt := some (natAt64 m.params 4) } }) 2 0 []) ∧
  (∀ s (n : Fin 256) u, (s.ch n).state = .armed → (s.ch n).run.startAt = some u → s.tb.time < u → exec (.startAtReached n) s = .next s) ∧
  (∀ s (n : Fin 256) u e, (s.ch n).state = .armed → (s.ch n).run.startAt = some u → u ≤ s.tb.time → (s.ch n).run.cur = some e →
    Completes (.startAtReached n) s fun t =>
      (t.ch n).state = .running ∧ (t.ch n).run.startAt = none ∧ (t.ch n).run.cur = some e ∧ (∀ j, j ≠ n → t.ch j = s.ch j) ∧
      (∃ w, t.blot.raised = w ++ [s.event 0x0508 INFO n.val u])) ∧
  (∀ s (n : Fin 256) u, (s.ch n).state = .armed → (s.ch n).run.startAt = some u → u ≤ s.tb.time → (s.ch n).run.cur = none →
    Completes (.startAtReached n) s fun t =>
      (t.ch n).state = .done ∧ s.event 0x0506 INFO n.val ((s.ch n).run.pos % 65536) ∈ t.blot.raised ∧
      (∀ r ∈ t.ink.waiting, r.typ = tSTEP → r ∈ s.ink.waiting)) ∧
  (∀ m s (n : Fin 256), Granted 0x0303 1 m s → m.target = chTarget n → m.length = 16 → (s.ch n).calRun = none →
    ((s.ch n).state = .running →
      CompletesBy (.chHold m) 0x0303 m s
        (fun t => (t.updCh n fun c => { c with meas := { c.meas with holdDue := false } }).toState n .held) 4 0 []) ∧
    ((s.ch n).state = .armed → (s.ch n).run.startAt ≠ none →
      CompletesBy (.chHold m) 0x0303 m s (fun t => t.updCh n fun c => { c with run := { c.run with startAt := none } }) 2 0 []) ∧
    ((s.ch n).state = .held → CompletesBy (.chHold m) 0x0303 m s id 4 0 [])) ∧
  (∀ m s (n : Fin 256), Granted 0x0305 1 m s → m.target = chTarget n → m.length = 16 → (s.ch n).calRun = none →
    (s.ch n).state = .armed ∨ (s.ch n).state = .running ∨ (s.ch n).state = .held ∨ (s.ch n).state = .interrupted →
    Completes (.chAbort m) s fun t =>
      (t.ch n).state = .done ∧ (t.ch n).run.trans = none ∧ (t.ch n).run.startAt = none ∧ (t.ch n).acc = (s.ch n).acc ∧
      s.event 0x0506 INFO n.val ((s.ch n).run.pos % 65536 + 2 ^ 17) ∈ t.blot.raised ∧ (∀ j, j ≠ n → t.ch j = s.ch j) ∧
      ((s.ch n).run.trans = none → (s.ch n).run.stepRan = true → ((s.withStep n).ch n).run.cur ≠ none →
        (s.ink.waiting.filter fun x => x.producer == n.val).length < 8 →
        (s.withStep n).stepRec n s.tb.time { next := 0xFFFF, reason := 1 } ∈ t.ink.waiting)) ∧
  (∀ m s (n : Fin 256) e, Granted 0x0304 1 m s → m.target = chTarget n → m.length = 28 → (s.ch n).calRun = none → (s.ch n).state = .held →
    NoReserved m [(0, 0xFFFC)] → s.channelLock n = none → s.resumeCheck n (bitAt m.params 0 1) = none → (s.ch n).run.cur = some e →
    (s.ch n).run.trans = none → bitAt m.params 0 0 = false →
    Completes (.chResume m) s fun t =>
      (t.ch n).state = .running ∧ (t.ch n).run.cur = some e ∧ (t.ch n).run.pos = (s.ch n).run.pos ∧ (t.ch n).acc.st = (s.ch n).acc.st ∧
      (t.ch n).acc.stepQ = (s.ch n).acc.stepQ ∧ (t.ch n).acc.stepE = (s.ch n).acc.stepE ∧
      (t.ch n).run.settle = s.now + 250000 * max 1 (fieldAt m.params 0 31 16) ∧ (∀ j, j ≠ n → t.ch j = s.ch j) ∧
      ((s.mbox m.mb).discard = 0 → (t.mbox m.mb).done = (s.mbox m.mb).done ++ [okAnswer m 3 0 []])) ∧
  (∀ m s (n : Fin 256), Granted 0x0304 1 m s → m.target = chTarget n → m.length = 28 → (s.ch n).calRun = none →
    (s.ch n).state = .held ∨ (s.ch n).state = .interrupted → NoReserved m [(0, 0xFFFC)] → s.channelLock n = none →
    s.resumeCheck n (bitAt m.params 0 1) = none → (s.ch n).resumeLoads = true → 1 ≤ (s.takeOff 0x0304 m).quire.quotaFree m.mb →
    Completes (.chResume m) s fun t =>
      (∃ it ∈ t.quire.items, it.work = .load n 0 m ∧ it.flow = n.val ∧ it.target = .ductus) ∧
      (t.mbox m.mb).working = (s.mbox m.mb).working + 1 ∧ t.chan = s.chan)

/-- Items of the Ductus engines complete (R151 to R154, R157, R161, R162): the load of CH_ARM enters ARMED at the step that the target resolves
to, with ST, step accumulators and counters as the chain leaves them; that of CH_STEP_JUMP moves the position and keeps the state; that of
CH_RESUME runs; a mediated item loads the step it resolves to, or ends the run at END; a pre-load item fills primary-next once. Completes:
ductusLoadItem, ductusMediatedItem, ductusPreloadItem. -/
def Obligations.DuctusItemsComplete : Prop :=
  (∀ s (e : Fin 8) it (n : Fin 256) m i x k b, s.quire.onEngine e = some it → it.work = .load n 0 m → m.length = 16 →
    (s.ch n).state = .configured ∨ (s.ch n).state = .done →
    (s.slotOf (cfSlot (s.ch n).cfg)).resolve none { (s.ch n).acc with
      st := 0
      stepQ := 0
      stepE := 0 } 0 [0, 0, 0, 0] = some (i, x, k, b) → stType x ≠ tEND →
    m.rsvd = 0 → (s.mbox m.mb).working ≠ 0 → (s.mbox m.mb).discard = 0 →
    Completes (.ductusLoadItem e) s fun t =>
      (t.ch n).state = .armed ∧ (t.ch n).run.pos = i ∧ (t.ch n).run.cur = some x ∧ (t.ch n).run.ctrs = k ∧ (t.ch n).run.runValid = true ∧
      (t.ch n).run.nextDone = true ∧ (t.ch n).acc.st = 0 ∧ (t.ch n).acc.stepQ = 0 ∧ (t.ch n).acc.stepE = 0 ∧
      (∀ j, j ≠ n → t.ch j = s.ch j) ∧ t.quire.items = (s.quire.remove 0 it.uid).items ∧
      (t.mbox m.mb).done = (s.mbox m.mb).done ++ [okAnswer m 2 0 []] ∧ (t.mbox m.mb).working = (s.mbox m.mb).working - 1) ∧
  (∀ s (e : Fin 8) it (n : Fin 256) m u i x k b, s.quire.onEngine e = some it → it.work = .load n u m → m.length = 20 →
    (s.ch n).state = .armed ∨ (s.ch n).state = .held →
    (s.slotOf (cfSlot (s.ch n).cfg)).resolve none { (s.ch n).acc with
      st := 0
      stepQ := 0
      stepE := 0 } u (s.ch n).run.ctrs = some (i, x, k, b) → stType x ≠ tEND →
    m.rsvd = 0 → (s.mbox m.mb).working ≠ 0 → (s.mbox m.mb).discard = 0 →
    Completes (.ductusLoadItem e) s fun t =>
      (t.ch n).state = (s.ch n).state ∧ (t.ch n).run.pos = i ∧ (t.ch n).run.cur = some x ∧ (t.ch n).run.ctrs = k ∧
      (t.ch n).acc.st = 0 ∧ (t.ch n).acc.stepQ = 0 ∧ (t.ch n).acc.runQC = (s.ch n).acc.runQC ∧ (∀ j, j ≠ n → t.ch j = s.ch j) ∧
      (t.mbox m.mb).done = (s.mbox m.mb).done ++ [okAnswer m (s.ch n).state.code 0 []]) ∧
  (∀ s (e : Fin 8) it (n : Fin 256) m u i x k b, s.quire.onEngine e = some it → it.work = .load n u m → m.length = 28 →
    (s.ch n).state = .held → (s.ch n).run.cur = none → s.channelLock n = none →
    (s.slotOf (cfSlot (s.ch n).cfg)).resolve (s.ch n).run.prev (s.ch n).acc (s.ch n).run.pos (s.ch n).run.ctrs = some (i, x, k, b) →
    stType x ≠ tEND → m.rsvd = 0 → (s.mbox m.mb).working ≠ 0 → (s.mbox m.mb).discard = 0 →
    Completes (.ductusLoadItem e) s fun t =>
      (t.ch n).state = .running ∧ (t.ch n).run.pos = i ∧ (t.ch n).run.cur = some x ∧ (∀ j, j ≠ n → t.ch j = s.ch j) ∧
      (t.mbox m.mb).done = (s.mbox m.mb).done ++ [okAnswer m 3 0 []]) ∧
  (∀ s (e : Fin 8) it (n : Fin 256) u i x k b, s.quire.onEngine e = some it → it.work = .mediated n → (s.ch n).run.trans = some u →
    (s.slotOf (cfSlot (s.ch n).cfg)).resolve (s.ch n).run.prev (s.ch n).acc u (s.ch n).run.ctrs = some (i, x, k, b) → stType x ≠ tEND →
    (s.ch n).state = .running ∨ (s.ch n).state = .held →
    Completes (.ductusMediatedItem e) s fun t =>
      (t.ch n).state = (s.ch n).state ∧ (t.ch n).run.trans = none ∧ (t.ch n).run.pos = i ∧ (t.ch n).run.cur = some x ∧ (t.ch n).run.ctrs = k ∧
      (t.ch n).acc = (s.ch n).acc ∧ (t.ch n).run.nextDone = true ∧ (∀ j, j ≠ n → t.ch j = s.ch j) ∧
      t.quire.items = (s.quire.remove 0 it.uid).items) ∧
  (∀ s (e : Fin 8) it (n : Fin 256) u i x k b, s.quire.onEngine e = some it → it.work = .mediated n → (s.ch n).run.trans = some u →
    (s.slotOf (cfSlot (s.ch n).cfg)).resolve (s.ch n).run.prev (s.ch n).acc u (s.ch n).run.ctrs = some (i, x, k, b) → stType x = tEND →
    (s.ch n).state = .running ∨ (s.ch n).state = .held →
    Completes (.ductusMediatedItem e) s fun t =>
      (t.ch n).state = .done ∧ (t.ch n).run.trans = none ∧ (t.ch n).run.cur = none ∧ (∀ j, j ≠ n → t.ch j = s.ch j) ∧
      s.event 0x0506 INFO n.val ((s.ch n).run.idx % 65536) ∈ t.blot.raised) ∧
  (∀ s (e : Fin 8) it (n : Fin 256), s.quire.onEngine e = some it → it.work = .mediated n → (s.ch n).run.trans = none →
    exec (.ductusMediatedItem e) s = .next (s.finish it.uid)) ∧
  (∀ s (e : Fin 8) it (n : Fin 256), s.quire.onEngine e = some it → it.work = .preload n → (s.ch n).run.trans = none →
    (s.ch n).run.nextDone = false →
    exec (.ductusPreloadItem e) s = .next ((s.finish it.uid).updCh n fun c => { c with
      run := { c.run with
        next := (s.ch n).primaryNext (s.slotOf (cfSlot (s.ch n).cfg))
        nextDone := true } })) ∧
  (∀ s (e : Fin 8) it (n : Fin 256), s.quire.onEngine e = some it → it.work = .preload n →
    (s.ch n).run.trans ≠ none ∨ (s.ch n).run.nextDone = true → exec (.ductusPreloadItem e) s = .next (s.finish it.uid))

/-- The recipe store's commands complete (R130 to R132, R163 to R166): RCP_LOAD with FIRST 0 empties the slot, takes RCP_ID and TOTAL and writes its
COUNT entries, the slot LOADED once every entry is written; RCP_VERIFY starts its pieces and holds its mailbox; the last piece of a good
recipe verifies the slot with its CRC, a failing step leaves it LOADED; RCP_DELETE empties the slot; RCP_LIST answers 14 entries.
Completes: rcpLoad, rcpVerify, rcpVerifyPiece, rcpDelete, rcpList. -/
def Obligations.RecipeCommandsComplete : Prop :=
  (∀ m s (k : Fin 1024) total count, Granted 0x0401 1 m s → m.target = slotTarget k → fieldAt m.params 0 31 16 = total →
    fieldAt m.params 0 15 0 = 0 → fieldAt m.params 4 1 0 = count → 1 ≤ count → m.length.toNat = 32 + 64 * count →
    (s.slotOf k).state = .empty ∨ (s.slotOf k).state = .loaded ∨ (s.slotOf k).state = .verified →
    loadFault m.params (s.slotOf k) = none → stepBlocks total ≤ s.freeBlocks + (s.slotOf k).blocks →
    Completes (.rcpLoad m) s fun t =>
      (t.slotOf k).rcpId = wordAt m.params 8 ∧ (t.slotOf k).total = total ∧ (t.slotOf k).crc = 0 ∧
      (t.slotOf k).state = (if count = total then .loaded else .loading) ∧
      (∀ j, j < count → (t.slotOf k).step j = some (loadEntry m.params j)) ∧ (∀ j, count ≤ j → (t.slotOf k).step j = none) ∧
      (∀ j, j ≠ k → t.slotOf j = s.slotOf j) ∧ t.chan = s.chan) ∧
  (∀ m s (k : Fin 1024) first count, Granted 0x0401 1 m s → m.target = slotTarget k → fieldAt m.params 0 15 0 = first → first ≠ 0 →
    fieldAt m.params 4 1 0 = count → 1 ≤ count → m.length.toNat = 32 + 64 * count → (s.slotOf k).state = .loading →
    loadFault m.params (s.slotOf k) = none → (s.slotOf k).steps.length = (s.slotOf k).total →
    Completes (.rcpLoad m) s fun t =>
      (∀ j, j < count → (t.slotOf k).step (first + j) = some (loadEntry m.params j)) ∧
      (∀ j, j < first ∨ first + count ≤ j → (t.slotOf k).step j = (s.slotOf k).step j) ∧
      (t.slotOf k).rcpId = (s.slotOf k).rcpId ∧ (t.slotOf k).total = (s.slotOf k).total ∧
      ((t.slotOf k).state = .loaded ↔ (t.slotOf k).steps.all Option.isSome = true) ∧
      (∀ j, j ≠ k → t.slotOf j = s.slotOf j) ∧ t.chan = s.chan) ∧
  (∀ m s (k : Fin 1024), Granted 0x0402 1 m s → m.target = slotTarget k → m.length = 16 →
    (s.slotOf k).state = .loaded ∨ (s.slotOf k).state = .verified → 1 ≤ (s.takeOff 0x0402 m).quire.quotaFree m.mb →
    Completes (.rcpVerify m) s fun t =>
      (∃ v, (t.mbox m.mb).verify = some v ∧ v.slot = k ∧ v.next = 0 ∧ v.tag = m.tag) ∧ (t.mbox m.mb).working = (s.mbox m.mb).working + 1 ∧
      (∃ it ∈ t.quire.items, it.work = .verifyPiece m.mb ∧ it.flow = 304 + m.mb.val ∧ it.target = .ductus ∧ it.prio = 3) ∧ t.slot = s.slot) ∧
  (∀ s (mb : Fin 8) it v n, (s.quire.items.find? fun i => i.state == .inService && i.work == .verifyPiece mb) = some it →
    (s.mbox mb).verify = some v → v.spoiled = none → (s.slotOf v.slot).state = .loaded → v.next < (s.slotOf v.slot).entries.length →
    (s.slotOf v.slot).entries.length ≤ v.next + n →
    vkScan (s.slotOf v.slot).entries ((s.slotOf v.slot).entries.length - v.next) v.next = none → unreachable_ (s.slotOf v.slot).entries = none →
    s.slotUsers v.slot = 0 → (s.mbox mb).working ≠ 0 → (s.mbox mb).discard = 0 →
    Completes (.rcpVerifyPiece mb n) s fun t =>
      (t.slotOf v.slot).state = .verified ∧
      (t.slotOf v.slot).crc = crcBlock ((s.slotOf v.slot).entries.flatMap fun e => blockFit 16 e) ∧
      (t.slotOf v.slot).steps = (s.slotOf v.slot).steps ∧ (t.mbox mb).verify = none ∧
      (∃ r, (t.mbox mb).done = (s.mbox mb).done ++ [r] ∧ r.tag = v.tag ∧ r.status = 0 ∧ r.state = 3 ∧
        r.payload = [w32 (s.slotOf v.slot).entries.length, (t.slotOf v.slot).crc]) ∧ (∀ j, j ≠ v.slot → t.slotOf j = s.slotOf j)) ∧
  (∀ s (mb : Fin 8) it v n i c, (s.quire.items.find? fun i => i.state == .inService && i.work == .verifyPiece mb) = some it →
    (s.mbox mb).verify = some v → v.spoiled = none →
    vkScan (s.slotOf v.slot).entries (min n ((s.slotOf v.slot).entries.length - v.next)) v.next = some (i, c) →
    (s.mbox mb).working ≠ 0 → (s.mbox mb).discard = 0 →
    Completes (.rcpVerifyPiece mb n) s fun t =>
      (t.slotOf v.slot).state = .loaded ∧ (t.mbox mb).verify = none ∧ s.event 0x0502 INFO v.slot.val (c + 2 ^ 16 * i) ∈ t.blot.raised ∧
      (∃ r, (t.mbox mb).done = (s.mbox mb).done ++ [r] ∧ r.status = BitVec.ofNat 16 RC_CFG_RECIPE ∧ r.detail = w32 (i * 2 ^ 16 + c))) ∧
  (∀ m s (k : Fin 1024), Granted 0x0403 1 m s → m.target = slotTarget k → m.length = 16 →
    (s.slotOf k).state = .loading ∨ (s.slotOf k).state = .loaded ∨ (s.slotOf k).state = .verified →
    Completes (.rcpDelete m) s fun t =>
      t.slotOf k = {} ∧ (∀ j, j ≠ k → t.slotOf j = s.slotOf j) ∧ t.chan = s.chan ∧
      s.event 0x0509 INFO k.val (2 ^ 32 * (s.slotOf k).rcpId.toNat) ∈ t.blot.raised) ∧
  (∀ m s, Granted 0x0404 0 m s → m.target = 0 → m.length = 20 → NoReserved m [(0, 0xFFFFFC00)] →
    CompletesBy (.rcpList m) 0x0404 m s id 0 0
      (w32 s.freeBlocks :: (List.range 14).flatMap fun j => s.listEntry (fieldAt m.params 0 9 0 + j)))

/-- Loop commands complete (R116 to R122, R127, R242): LOOP_SET stores the coefficient set, writes both images and raises 0x0404; LOOP_GET answers
the set, LOOP_FLAGS and the loop state, and with CLEAR clears the sticky flags; TUNE_INJECT within its limits enters TUNE with its
injection running and holds its Pounce unit; TUNE_STOP returns to the state TUNE was entered from and answers the estimate. Completes:
loopSet, loopGet, tuneInject, tuneStop. -/
def Obligations.LoopCommandsComplete : Prop :=
  (∀ m s (n : Fin 256), Granted 0x0501 2 m s → m.target = chTarget n → m.length = 80 → (s.ch n).calRun = none →
    (s.ch n).state = .off ∨ (s.ch n).state = .configured ∨ (s.ch n).state = .held → badSet m.params = none →
    ((s.ch n).state = .off ∨ (s.slotOf (cfSlot (s.ch n).cfg)).setsNamed.contains (fieldAt m.params 0 1 0) = false ∨
      setBounds (s.ch n).cfg ((s.hlimOf n).getD []) (blockFit 16 m.params) = true) →
    CompletesBy (.loopSet m) 0x0501 m s
      (fun t => ((t.updCh n fun c => { c with sets := c.sets.set (fieldAt m.params 0 1 0) (some (blockFit 16 m.params)) }).writeImages n).raise
        0x0404 INFO n.val (fieldAt m.params 0 1 0 + 2 ^ 32 * (crcBlock (blockFit 16 m.params)).toNat)) (s.ch n).state.code 0 []) ∧
  (∀ m s (n : Fin 256), Granted 0x0502 (b2n (bitAt m.params 0 8)) m s → m.target = chTarget n → m.length = 20 → (s.ch n).calRun = none →
    NoReserved m [(0, 0xFFFFFEFC)] →
    Completes (.loopGet m) s fun t =>
      (t.ch n).loop = (if bitAt m.params 0 8 = true then (s.ch n).loop.clearSticky else (s.ch n).loop) ∧
      { t.ch n with loop := (s.ch n).loop } = s.ch n ∧ (∀ j, j ≠ n → t.ch j = s.ch j) ∧
      ((s.mbox m.mb).discard = 0 → ∃ r, (t.mbox m.mb).done = (s.mbox m.mb).done ++ [r] ∧ r.status = 0 ∧
        r.payload.take 16 = blockFit 16 ((s.ch n).setOf (fieldAt m.params 0 1 0)) ∧ r.payload.getD 16 0 = w32 (s.ch n).loop.flags ∧
        r.payload.getD 22 0 = wInt (s.ch n).loop.dLast ∧ r.payload.length = 25)) ∧
  (∀ m s (n : Fin 256), Granted 0x0503 2 m s → m.target = chTarget n → m.length = 56 → (s.ch n).calRun = none →
    (s.ch n).state = .configured ∨ (s.ch n).state = .held → tuneField m.params = none → s.channelLock n = none →
    ampOk (s.ch n).cfg m.params = true → freqFault (s.ch n).cfg m.params = none → opOk ((s.hlimOf n).getD []) m.params = true →
    cfFixed (s.ch n).cfg = true → (s.ch n).sets.getD (tnSet m.params) none ≠ none → (s.unit (tnUnit m.params)).state = .idle →
    (s.unit (tnUnit m.params)).holder = none → s.poolUsed - (s.unit (tnUnit m.params)).pages + (s.unit (tnUnit m.params)).tunePages ≤ 256 →
    Completes (.tuneInject m) s fun t =>
      (t.ch n).state = .tune ∧
      (∃ u, (t.ch n).tune = some u ∧ u.from_ = (s.ch n).state ∧ u.injecting = true ∧ u.k = 0 ∧ u.n = 0 ∧ u.cmd = blockFit 10 m.params) ∧
      (t.unit (tnUnit m.params)).holder = some n ∧ (t.unit (tnUnit m.params)).tune = true ∧
      (t.unit (tnUnit m.params)).captureId = (s.unit (tnUnit m.params)).captureId ∧ (t.ch n).drive.first = true ∧
      s.event 0x0405 INFO n.val (tnSignal m.params + 2 ^ 8 * tnPoint m.params + 2 ^ 32 * natAt m.params 0x24) ∈ t.blot.raised ∧
      (∀ j, j ≠ n → t.ch j = s.ch j)) ∧
  (∀ m s (n : Fin 256) u, Granted 0x0504 2 m s → m.target = chTarget n → m.length = 16 → (s.ch n).calRun = none → (s.ch n).state = .tune →
    (s.ch n).tune = some u → u.from_ = .configured ∨ u.from_ = .held →
    Completes (.tuneStop m) s fun t =>
      (t.ch n).state = u.from_ ∧ (t.ch n).tune = none ∧ (t.ch n).loop.inj = 0 ∧ (∀ k, (t.unit k).holder ≠ some n) ∧ (∀ j, j ≠ n → t.ch j = s.ch j) ∧
      ((s.mbox m.mb).discard = 0 → (t.mbox m.mb).done = (s.mbox m.mb).done ++ [okAnswer m u.from_.code 0 (u.words (s.ch n).cfg)]))

/-- R105, R107, R109: in every evaluation D lies in D_MIN to D_MAX, INNER_SAT tells whether it was clamped, the histories shift by one, a sticky
flag that was set stays set, and after a clamped evaluation the outer integrator does not move. -/
def Obligations.ControlLawBounds : Prop :=
  ∀ (cs : Block) (x : LawIn) (l : LoopSt), csDmin cs ≤ csDmax cs →
    csDmin cs ≤ (lawEval cs x l).1.dLast ∧ (lawEval cs x l).1.dLast ≤ csDmax cs ∧
    (lawEval cs x l).1.e2 = l.e1 ∧ (lawEval cs x l).1.y2 = l.y1 ∧
    (lawEval cs x l).1.innerPrev = (lawEval cs x l).1.innerNow ∧
    ((lawEval cs x l).1.innerNow = true → (lawEval cs x l).1.dLast = csDmin cs ∨ (lawEval cs x l).1.dLast = csDmax cs) ∧
    (l.innerPrev = true → (lawEval cs x l).1.integ = l.integ) ∧
    (l.arith = true → (lawEval cs x l).1.arith = true) ∧ (l.satLo = true → (lawEval cs x l).1.satLo = true) ∧
    (l.satHi = true → (lawEval cs x l).1.satHi = true) ∧ (l.outerLim = true → (lawEval cs x l).1.outerLim = true) ∧
    (l.busFloor = true → (lawEval cs x l).1.busFloor = true) ∧ (lawEval cs x l).1.overrun = l.overrun

/-- NIB_EVALUATION (R100, R105, R108, R110, R111, R121, R137, R190, R208, R213): the sample that the group's Nib serves next, of a FIXED channel in
the first millisecond of its step, adds its window to ST and the accumulators, and the word of D is written; a hold that is due (R93) comes
after it; a broken guard holds the channel at its position with ST and accumulators kept and raises 0x0503; in TUNE the step time stands
still and the injection goes on; a failing residue is a Nib fault; a Nib that skips the evaluation in a handover commits nothing; without a
sample of the channel next in service nothing. Completes: nibEvaluation. -/
def Obligations.NibEvaluationCompletes : Prop :=
  (∀ s (n : Fin 256) k x rest, s.servingNib (groupOf n).val = some k → s.nextSample n = some (x, rest) → s.skipsAt n = none →
    (s.ch n).state = .running → s.rst.flushing = none → s.rst.pfailSeq = false → cfFixed (s.ch n).cfg = true → (s.ch n).drive.owed = [] →
    brokenGuard ((s.ch n).run.cur.getD []) x.v x.i (s.tempOf n) = none → (s.ch n).acc.st + loopTicks (s.ch n).cfg < msTicks →
    Completes (.nibEvaluation n true) s fun t =>
      (t.ch n).state = (if (s.ch n).meas.holdDue = true then .held else .running) ∧
      (t.ch n).acc = (s.ch n).acc.add true (loopTicks (s.ch n).cfg) x.v x.i ∧
      (t.ch n).meas.evals = (s.ch n).meas.evals + 1 ∧ (t.ch n).run.pos = (s.ch n).run.pos ∧ (t.ch n).run.cur = (s.ch n).run.cur ∧
      (t.ch n).run.stepRan = (if (s.ch n).run.trans = none then true else (s.ch n).run.stepRan) ∧
      (t.ch n).drive.heldWord = packWord 0 (wordOf (s.ch n).cfg (t.ch n).loop.dLast).1 (wordOf (s.ch n).cfg (t.ch n).loop.dLast).2 ∧
      (t.ch n).loop.mirrorV = x.v ∧ (t.ch n).loop.mirrorI = x.i ∧ (t.grp (groupOf n)).accepted = rest ∧
      (∀ j, j ≠ n → t.ch j = s.ch j) ∧ (∀ g, g ≠ groupOf n → t.grp g = s.grp g) ∧
      ((s.ch n).meas.holdDue = false → s.nibs.takeovers = [] →
        { t with
          chan := s.chan
          group := s.group
          blot := s.blot } = s)) ∧
  (∀ s (n : Fin 256) k x rest g v, s.servingNib (groupOf n).val = some k → s.nextSample n = some (x, rest) → s.skipsAt n = none →
    (s.ch n).state = .running → s.rst.flushing = none → s.rst.pfailSeq = false → cfFixed (s.ch n).cfg = true → (s.ch n).drive.owed = [] →
    brokenGuard ((s.ch n).run.cur.getD []) x.v x.i (s.tempOf n) = some (g, v) →
    Completes (.nibEvaluation n true) s fun t =>
      (t.ch n).state = .held ∧ (t.ch n).acc = (s.ch n).acc.add true (loopTicks (s.ch n).cfg) x.v x.i ∧
      (t.ch n).run.pos = (s.ch n).run.pos ∧ (t.ch n).run.cur = (s.ch n).run.cur ∧ (t.ch n).ckptReq ≠ none ∧
      s.event 0x0503 ALARM n.val ((s.ch n).run.idx + 2 ^ 16 * g + 2 ^ 32 * p32 v) ∈ t.blot.raised ∧ (∀ j, j ≠ n → t.ch j = s.ch j)) ∧
  (∀ s (n : Fin 256) k x rest u, s.servingNib (groupOf n).val = some k → s.nextSample n = some (x, rest) → s.skipsAt n = none →
    (s.ch n).state = .tune → (s.ch n).tune = some u → s.rst.flushing = none → s.rst.pfailSeq = false → (s.ch n).meas.holdDue = false →
    cfFixed (s.ch n).cfg = true → (s.ch n).drive.owed = [] →
    Completes (.nibEvaluation n true) s fun t =>
      (t.ch n).state = .tune ∧ (t.ch n).acc.st = (s.ch n).acc.st ∧ (t.ch n).acc.stepQ = (s.ch n).acc.stepQ ∧
      (t.ch n).acc = (s.ch n).acc.add false (loopTicks (s.ch n).cfg) x.v x.i ∧
      (∃ a b, (t.ch n).tune = some (u.advance a b)) ∧ (t.grp (groupOf n)).accepted = rest ∧ (∀ j, j ≠ n → t.ch j = s.ch j)) ∧
  (∀ s (n : Fin 256) k x, s.servingNib (groupOf n).val = some k → s.nextSample n = some x → s.nibs.handovers = [] → s.rst.flushing = none →
    s.rst.pfailSeq = false → exec (.nibEvaluation n false) s = .next (s.nibFault k false)) ∧
  (∀ s (n : Fin 256) k x rest h b, s.servingNib (groupOf n).val = some k → s.nextSample n = some (x, rest) → s.skipsAt n = some h →
    s.rst.flushing = none → s.rst.pfailSeq = false →
    Completes (.nibEvaluation n b) s fun t =>
      { t.ch n with drive := (s.ch n).drive } = s.ch n ∧ (t.ch n).drive.heldWord = (s.ch n).drive.heldWord ∧
      (t.ch n).drive.overrun = (s.ch n).drive.overrun ∧ (t.grp (groupOf n)).accepted = rest ∧ (∀ j, j ≠ n → t.ch j = s.ch j)) ∧
  (∀ s (n : Fin 256) b, s.nextSample n = none → exec (.nibEvaluation n b) s = .next s)

/-- The step boundary (R102, R142, R151 to R153, R155): to the loaded primary-next in hardware, to END in DONE, else mediated; FINISH ends in DONE, HOLD in
HELD at its target with 0x0504. ST and the step accumulators start at 0, and the STEP record joins the channel's buffer. -/
def Obligations.StepBoundaryActs : Prop :=
  (∀ (s : State) (n : Fin 256) t cond also late ld, (s.ch n).run.next = some ld → ld.src = t → stType ld.entry ≠ tEND →
    let u := s.boundary n (.goto_ t cond also late)
    (u.ch n).state = (s.ch n).state ∧ (u.ch n).run.pos = ld.index ∧ (u.ch n).run.cur = some ld.entry ∧ (u.ch n).run.ctrs = ld.ctrs ∧
    (u.ch n).run.trans = none ∧ (u.ch n).run.nextDone = false ∧
    (u.ch n).acc = { (s.ch n).acc with
      st := 0
      stepQ := 0
      stepE := 0 } ∧
    (u.ch n).loop.integ = startInteg (stLimits ld.entry (cfScale (s.ch n).cfg)) (cfScale (s.ch n).cfg) (s.ch n).meas.loopI ∧
    (u.ch n).loop.e1 = (if stCset ld.entry = stCset ((s.ch n).run.cur.getD []) then (s.ch n).loop.e1 else 0) ∧
    (∀ j, j ≠ n → u.ch j = s.ch j)) ∧
  (∀ (s : State) (n : Fin 256) t cond also late ld, (s.ch n).run.next = some ld → ld.src = t → stType ld.entry = tEND →
    let u := s.boundary n (.goto_ t cond also late)
    (u.ch n).state = .done ∧ (u.ch n).run.cur = none ∧ (u.ch n).run.ctrs = ld.ctrs ∧ (u.ch n).acc.st = 0 ∧
    s.event 0x0506 INFO n.val ((s.ch n).run.idx % 65536) ∈ u.blot.raised ∧ (∀ j, j ≠ n → u.ch j = s.ch j)) ∧
  (∀ (s : State) (n : Fin 256) t cond also late, (∀ ld, (s.ch n).run.next = some ld → ld.src ≠ t) →
    let u := s.boundary n (.goto_ t cond also late)
    (u.ch n).state = (s.ch n).state ∧ (u.ch n).run.trans = some t ∧ (u.ch n).run.pos = t ∧ (u.ch n).run.cur = (s.ch n).run.cur ∧
    (u.ch n).run.prev = some (s.prevOf n cond) ∧ (u.ch n).loop = (s.ch n).loop ∧ (u.ch n).acc.st = 0 ∧ (u.ch n).acc.stepQ = 0 ∧
    (∀ j, j ≠ n → u.ch j = s.ch j)) ∧
  (∀ (s : State) (n : Fin 256) cond also,
    let u := s.boundary n (.finish cond also)
    (u.ch n).state = .done ∧ (u.ch n).acc.st = 0 ∧ (u.ch n).acc.stepQ = 0 ∧
    s.event 0x0506 INFO n.val ((s.ch n).run.idx % 65536 + 2 ^ 16) ∈ u.blot.raised ∧ (∀ j, j ≠ n → u.ch j = s.ch j)) ∧
  (∀ (s : State) (n : Fin 256) t cond also,
    let u := s.boundary n (.hold t cond also)
    (u.ch n).state = .held ∧ (u.ch n).run.pos = t ∧ (u.ch n).run.cur = none ∧ (u.ch n).acc.st = 0 ∧ (u.ch n).acc.stepE = 0 ∧
    s.event 0x0504 NOTICE n.val ((s.ch n).run.idx + 2 ^ 16 * cond + 2 ^ 32 * t) ∈ u.blot.raised ∧ (∀ j, j ≠ n → u.ch j = s.ch j)) ∧
  (∀ (s : State) (n : Fin 256) cond also, (s.ink.waiting.filter fun x => x.producer == n.val).length < 8 →
    s.stepRec n (s.ch n).meas.loopS { next := 0xFFFF, cond := cond, also := also, era := some (s.ch n).meas.loopEra } ∈ (s.boundary n (.finish cond also)).ink.waiting)

/-- The Quire's rows complete (R171, R173, R177, R179, R180, R182): a held post whose share has a free entry is acknowledged and keeps its flow;
a delayed item that is due becomes READY at the head of its flow, and more than one tick late is counted and reported; a free block takes the
longest-READY item of the highest priority, or, after 63 dispatches past a non-empty lower list, one of that list. A corrected error in the
item's entry only counts in ECC_CORR; an uncorrectable one drops the item, frees its entry and raises 0x0607 and 0x0606 (R187). Completes:
quirePostAck, quireItemDue, quireDispatch. -/
def Obligations.QuireActs : Prop :=
  (∀ s p it, (s.quire.items.find? fun i => !i.live && shareKey i.producer == shareKey p) = some it → s.quire.used p < shareSize p →
    Completes (.quirePostAck p) s fun t =>
      (∃ i ∈ t.quire.items, i.uid = it.uid ∧ i.live = true ∧ i.flow = it.flow ∧ i.work = it.work ∧ i.target = it.target ∧ i.prio = it.prio) ∧
      t.quire.items.length = (s.quire.items.filter fun i => i.uid != it.uid).length + 1 ∧ { t with quire := s.quire } = s) ∧
  (∀ s p, shareSize p ≤ s.quire.used p → exec (.quirePostAck p) s = .next s) ∧
  (∀ s uid it, (s.quire.items.find? fun i => i.uid == uid && i.state == .delayed) = some it → s.quire.nextDue it = true →
    it.due ≤ s.quire.tick s.now → it.late = true → (∀ i ∈ s.quire.items, i.uid = uid → i = it) →
    (s.quire.items.find? fun i => i.live && i.flow == it.flow) = some it →
    Completes (.quireItemDue uid) s fun t =>
      (∃ i ∈ t.quire.items, i.uid = uid ∧ i.state = .ready ∧ i.flow = it.flow ∧ i.work = it.work) ∧
      t.quire.delayLate = (if it.due + 1 < s.quire.tick s.now then satAdd s.quire.delayLate 1 else s.quire.delayLate) ∧
      t.blot.raised = (if it.due + 1 < s.quire.tick s.now then
        s.blot.raised ++ [s.event 0x0605 NOTICE it.flow (it.handle + 2 ^ 32 * (s.quire.tick s.now - it.due))] else s.blot.raised) ∧
      { t with
        quire := s.quire
        blot := s.blot } = s) ∧
  (∀ s uid it, (s.quire.items.find? fun i => i.uid == uid && i.state == .delayed) = some it →
    s.quire.nextDue it = false ∨ s.quire.tick s.now < it.due →
    exec (.quireItemDue uid) s = .next s) ∧
  (∀ s tg (b : Fin 64) e it h, (tg = .folio → s.folio.mbReady = true) → b.val < serviceSlots tg →
    (∀ i ∈ s.quire.items, ¬ (i.state = .inService ∧ i.target = tg ∧ i.block = b.val)) → s.asked tg b.val = false →
    s.quire.choose tg = some (it, h) →
    (e ≠ .uncorrectable → Completes (.quireDispatch tg b e) s fun t =>
      (∃ i ∈ t.quire.items, i.uid = it.uid ∧ i.state = .inService ∧ i.block = b.val ∧ i.work = it.work) ∧
      t.quire.dispatched = satAdd s.quire.dispatched 1 ∧ t.quire.items.length = s.quire.items.length ∧
      t.quire.eccCorr = (if e = .corrected then satAdd s.quire.eccCorr 1 else s.quire.eccCorr) ∧ { t with quire := s.quire } = s) ∧
    (e = .uncorrectable → Completes (.quireDispatch tg b e) s fun t =>
      (∀ i ∈ t.quire.items, i.uid ≠ it.uid) ∧ t.quire.dropped = satAdd s.quire.dropped 1 ∧ t.quire.dispatched = s.quire.dispatched ∧
      (∃ u, t.blot.raised = s.blot.raised ++ [s.event 0x0607 ALARM it.flow (it.handle % 16384),
        s.event 0x0606 ALARM it.flow (it.handle + 2 ^ 16 * targetCode it.target + 2 ^ 19)] ++ u) ∧ t.chan = s.chan)) ∧
  (∀ s tg (b : Fin 64) e, serviceSlots tg ≤ b.val ∨ s.quire.choose tg = none → exec (.quireDispatch tg b e) s = .next s) ∧
  (∀ (q : Quire) tg it h, q.choose tg = some (it, h) → (∀ i ∈ q.items, i.prio < 4) →
    it ∈ q.items ∧ it.state = .ready ∧ it.target = tg ∧
    (vgetD q.streak (targetCode tg) 0 < 63 → ∀ i ∈ q.items, i.state = .ready → i.target = tg →
      it.prio < i.prio ∨ (it.prio = i.prio ∧ it.readyNo ≤ i.readyNo)))

/-- Checkpoints and Nibs (R191 to R195, R197, R210 to R213, R218): the pending checkpoint whose turn it is at its bank goes to the older copy with
SEQ one above the newest and a good CRC; the interval requests one of a channel under way; a spare that passes serves its group, and the first
word of the last channel under way ends the gap with its TAKEOVER checkpoint; one that fails is retired; a fenced Nib that passes waits
REVERT_HOLD, then takes its group back once the Nib that serves has skipped an evaluation of each channel under way; the flush ends after
200 µs with reach F, which keeps the newest good copy of every channel. Completes: checkpointWrite, ckptIntervalDue, nibTakeover,
nibFencedSelftest, nibRevert, finalFlushTimeout. -/
def Obligations.CheckpointsAndTakeovers : Prop :=
  (∀ s (n : Fin 256), s.ckptTurn n = false → exec (.checkpointWrite n) s = .next s) ∧
  (∀ s (n : Fin 256) w a, (s.ch n).ckptReq = some w → s.ckptTurn n = true → newestCopy (s.chv n) = some (0, a) → s.rst.flushing = none → s.rst.pfailSeq = false →
    Completes (.checkpointWrite n) s fun t =>
      (∃ b, (t.chv n).ckB = .good b ∧ natAt b 0 = (natAt a 0 + 1) % 2 ^ 32 ∧ crcOk 16 b = true ∧ wordAt b 4 = w.getD 0 0 ∧
        wordAt b 0x18 = w.getD 5 0 ∧ b.length = 16) ∧ (t.chv n).ckA = (s.chv n).ckA ∧ (∀ j, j ≠ n → t.chv j = s.chv j) ∧
      (t.ch n).ckptReq = none ∧ { t.ch n with ckptReq := (s.ch n).ckptReq } = s.ch n ∧ (∀ j, j ≠ n → t.ch j = s.ch j)) ∧
  (∀ s (n : Fin 256) w b, (s.ch n).ckptReq = some w → s.ckptTurn n = true → newestCopy (s.chv n) = some (1, b) → s.rst.flushing = none → s.rst.pfailSeq = false →
    Completes (.checkpointWrite n) s fun t =>
      (∃ a, (t.chv n).ckA = .good a ∧ natAt a 0 = (natAt b 0 + 1) % 2 ^ 32 ∧ crcOk 16 a = true ∧ wordAt a 4 = w.getD 0 0) ∧
      (t.chv n).ckB = (s.chv n).ckB ∧ (t.ch n).ckptReq = none) ∧
  (∀ s (n : Fin 256), (s.ch n).ckptReq = none → exec (.checkpointWrite n) s = .next s) ∧
  (∀ s (n : Fin 256) k, (s.ch n).state.active = true → s.servingNib (groupOf n).val = some k → s.rst.flushing = none → s.rst.pfailSeq = false →
    exec (.ckptIntervalDue n) s = .next (s.ckpt n 1)) ∧
  (∀ s (n : Fin 256), (s.ch n).state.active = false → exec (.ckptIntervalDue n) s = .next s) ∧
  (∀ s (g : Fin 16) x, (s.nibs.takeovers.find? fun y => y.group == Fin.ofNat 17 g.val && y.waiting.isNone) = some x →
    Completes (.nibTakeover (Fin.ofNat 17 g.val) true) s fun t =>
      (t.nibOf x.spare).role = .active ∧ (t.nibOf x.spare).group = some (Fin.ofNat 17 g.val) ∧ (∀ k, k ≠ x.spare → t.nibOf k = s.nibOf k) ∧
      (∀ n, groupOf n = g → (t.ch n).state = (s.ch n).state ∧ (t.ch n).drive.latched = (s.ch n).drive.latched ∧
        ((s.ch n).state.active = true → (t.ch n).drive.overdue = 0 ∧ (t.ch n).drive.flights = [])) ∧
      (∀ n, groupOf n ≠ g → t.ch n = s.ch n) ∧
      (s.activeOf (Fin.ofNat 17 g.val) ≠ [] →
        ∀ y ∈ t.nibs.takeovers, y.group = Fin.ofNat 17 g.val → y.waiting = some (s.activeOf (Fin.ofNat 17 g.val))) ∧
      (s.activeOf (Fin.ofNat 17 g.val) = [] → (∀ y ∈ t.nibs.takeovers, y.group ≠ Fin.ofNat 17 g.val) ∧
        ∃ p, t.blot.raised = s.blot.raised ++ [s.event 0x0702 NOTICE x.spare.val p])) ∧
  (∀ (s : State) (n : Fin 256) y, s.nibs.takeovers = [y] → y.group = (groupOf n).castSucc → y.waiting = some [n] →
    (∃ w, ((s.firstWord n).ch n).ckptReq = some w ∧ fieldAt w 0 27 24 = 5) ∧ (s.firstWord n).nibs.takeovers = [] ∧
    (∃ p, (s.firstWord n).blot.raised = s.blot.raised ++ [s.event 0x0702 NOTICE y.spare.val p]) ∧
    (∀ j, j ≠ n → (s.firstWord n).ch j = s.ch j)) ∧
  (∀ s g x, (s.nibs.takeovers.find? fun y => y.group == g && y.waiting.isNone) = some x →
    Completes (.nibTakeover g false) s fun t =>
      (t.nibOf x.spare).role = .retired ∧ s.event 0x0703 ALARM x.spare.val x.group.val ∈ t.blot.raised) ∧
  (∀ s (k : Fin 20), (s.nibOf k).role = .fenced → (s.nibOf k).revertTo = none →
    (k.val < 17 → exec (.nibFencedSelftest k true) s = .next ((s.startTimer (.revert (Fin.ofNat 17 k.val))
      (s.vel.revertHold * 250000000)).updNib k fun x => { x with revertTo := some (Fin.ofNat 17 k.val) })) ∧
    (17 ≤ k.val → exec (.nibFencedSelftest k true) s = .next (s.updNib k fun x => { x with role := .spare })) ∧
    exec (.nibFencedSelftest k false) s = .next (s.retireNib k 1)) ∧
  (∀ s (g : Fin 17) k o, (List.finRange 20).find? (fun k => (s.nibOf k).role == .fenced && (s.nibOf k).revertTo == some g) = some k →
    (∀ y ∈ s.nibs.takeovers, y.group ≠ g) → (∀ y ∈ s.nibs.handovers, y.group ≠ g) → s.ranOut (.revert g) = true →
    s.servingNib g.val = some o → s.activeOf g = [] →
    Completes (.nibRevert g true) s fun t =>
      (t.nibOf k).role = .active ∧ (t.nibOf k).group = some g ∧ (t.nibOf k).revertTo = none ∧ (t.nibOf o).role = .spare ∧
      (t.nibOf o).group = none ∧ t.nibs.acceptClaim = (if g = 16 then s.nibs.acceptClaim + 1 else s.nibs.acceptClaim) ∧ t.chan = s.chan ∧
      t.blot.raised = s.blot.raised ++ [s.event 0x0704 INFO k.val (g.val + 2 ^ 8 * o.val)]) ∧
  (∀ s (g : Fin 17) k, (List.finRange 20).find? (fun k => (s.nibOf k).role == .fenced && (s.nibOf k).revertTo == some g) = some k →
    (∀ y ∈ s.nibs.takeovers, y.group ≠ g) → (∀ y ∈ s.nibs.handovers, y.group ≠ g) → s.ranOut (.revert g) = true →
    exec (.nibRevert g false) s = .next (s.retireNib k 1) ∧
    (s.activeOf g ≠ [] →
      Completes (.nibRevert g true) s fun t =>
        t.nibs.handovers = { group := g, nib := k, left := some (s.activeOf g) } :: s.nibs.handovers ∧ t.nibs.nib = s.nibs.nib ∧
        { t with nibs := s.nibs } = s)) ∧
  (∀ s (g : Fin 17) b x, (∀ y ∈ s.nibs.takeovers, y.group ≠ g) → (Timer.revert g, x) ∈ s.timers → s.now < x →
    exec (.nibRevert g b) s = .next s) ∧
  (∀ s x, (Timer.flush, x) ∈ s.timers → s.now < x → exec .finalFlushTimeout s = .next s) ∧
  (∀ s src, s.rst.flushing = some src → s.ranOut .flush = true →
    Completes .finalFlushTimeout s fun t =>
      t.rst.flushing = none ∧ t.folio.mbReady = false ∧ (∀ n, (t.ch n).state = .off ∧ (t.ch n).drive.driving = false) ∧
      (∀ n, newestCopy (t.chv n) = newestCopy (s.chv n)) ∧ t.pending = s.pending) ∧
  (∀ s, s.rst.flushing = none → exec .finalFlushTimeout s = .next s)

/-- Folio continuity (R199, R215, R216, R338, R450): agreeing voters change nothing; a minority core is isolated with 0x0707 and the cold spare boots; no
majority is a total loss with reach C; the booted spare votes again; an isolated core that passes becomes the spare, one that fails is retired;
at the end of the boot the channels are restored from their images and copies and MB_READY is set. Completes: folioTransactionVote,
folioVoteTimeout, folioSpareJoined, folioCoreSelftestDone, folioBootDone. -/
def Obligations.FolioContinuity : Prop :=
  (∀ s cls (x y : Nat), s.folio.cores = [.vote, .vote, .vote, .spare] → s.folio.code = 2 → x ≠ y →
    exec (.folioTransactionVote cls [x, x, x, y]) s = .next s ∧
    (Completes (.folioTransactionVote cls [x, x, y, y]) s fun t =>
      t.folio.cores = [.vote, .vote, .isolated, .booting] ∧ t.folio.code = 3 ∧
      t.blot.raised = s.blot.raised ++ [s.event 0x0707 ALARM 2 (7 + 2 ^ 8 * cls.val)] ∧ t.chan = s.chan) ∧
    (Completes (.folioTransactionVote cls [y, x, x, y]) s fun t => t.folio.cores = [.isolated, .vote, .vote, .booting])) ∧
  (∀ s cls (x y : Nat), s.folio.cores = [.vote, .vote, .isolated, .retired] → x ≠ y → s.folio.code = 3 → s.rst.stage = 12 → s.rst.power = .run →
    s.rst.sources = [] → s.rst.flushing = none →
    exec (.folioTransactionVote cls [x, x]) s = .next s ∧
    (Completes (.folioTransactionVote cls [x, y]) s fun t =>
      t.folio.mbReady = false ∧ bit t.host.resetCause 10 = true ∧ bits t.host.resetCause 25 24 = 2 ∧ t.rst.stage = 11)) ∧
  (∀ s (c : Fin 4), s.folio.cores = [.vote, .vote, .vote, .spare] → s.folio.code = 2 →
    (c.val < 3 → Completes (.folioVoteTimeout c) s fun t => t.folio.cores.getD c.val .retired = .isolated ∧ t.folio.cores.getD 3 .retired = .booting ∧
      t.chan = s.chan) ∧
    (c.val = 3 → exec (.folioVoteTimeout c) s = .next s)) ∧
  (∀ s (i : Fin 4), (List.range 4).find? (fun j => s.folio.cores.getD j .retired == .booting) = some i.val → 2 ≤ s.folio.code → s.folio.code ≤ 4 →
    s.folio.cores.length = 4 →
    Completes .folioSpareJoined s fun t =>
      t.folio.cores = s.folio.cores.set i.val .vote ∧ t.folio.code = votingCode (s.folio.cores.set i.val .vote) ∧ t.chan = s.chan ∧
      (∃ p, t.blot.raised = s.blot.raised ++ [s.event 0x0708 NOTICE i.val p])) ∧
  (∀ s (c : Fin 4), s.folio.cores.getD c.val .retired = .isolated → s.folio.voters.length = 3 →
    (Completes (.folioCoreSelftestDone c true) s fun t => t.folio.cores = s.folio.cores.set c.val .spare ∧ t.chan = s.chan) ∧
    (Completes (.folioCoreSelftestDone c false) s fun t =>
      t.folio.cores = s.folio.cores.set c.val .retired ∧
      t.blot.raised = s.blot.raised ++ [s.event 0x070F ALARM c.val (coresLeft (s.folio.cores.set c.val .retired))])) ∧
  (∀ s, s.rst.stage = 11 → s.folio.copyOk = true → s.folio.loader = none → s.rst.sources = [] → s.folio.mbReady = false → s.folio.restored = true →
    2 ≤ s.folio.voters.length → s.rst.after = [] →
    Completes .folioBootDone s fun t =>
      t.folio.mbReady = true ∧ t.rst.stage = 12 ∧ t.folio.code = votingCode s.folio.cores ∧ t.chan = s.chan ∧ t.vel = s.vel ∧
      (∃ p, t.blot.raised = s.blot.raised ++ [s.event 0x1001 INFO 0 p])) ∧
  (∀ s, s.rst.stage = 11 → s.folio.copyOk = true → s.folio.loader = none → s.rst.sources = [] → s.folio.mbReady = false → s.folio.restored = false →
    2 ≤ s.folio.voters.length → s.rst.pfailLow = false → (∀ f, (s.dieOf f).activePins = 0) →
    Completes .folioBootDone s fun t =>
      t.folio.mbReady = true ∧ t.folio.restored = true ∧ t.rst.stage = 12 ∧
      (∀ n, (s.ch n).state = .off → (t.ch n).state =
        (restoredState ((newestCopy (s.chv n)).map fun x => x.2) ((s.chv n).ckA.isBlank && (s.chv n).ckB.isBlank)
          (chooseImage (s.chv n).imgA (s.chv n).imgB).isSome).1) ∧
      (∀ n, (s.ch n).state = .absent → (t.ch n).state = .absent) ∧
      (∀ n cfg sets, chooseImage (s.chv n).imgA (s.chv n).imgB = some (cfg, sets) → (t.ch n).cfg = cfg ∧ (t.ch n).sets = sets))

/-- The Pounce commands and ticks complete (R221, R222, R227, R228, R230, R231, R233 to R240): ACQ_CONFIG stores its block and releases the pages;
ACQ_ARM starts a capture with its pages reserved and CAPTURE_ID advanced, or names the failed check in 0x0806; ACQ_FORCE acts at the next tick;
ACQ_STOP ends ARMED and TRIGGERED captures; ACQ_READ answers, delivers or releases; a tick that is due (none other acts) before the trigger keeps
the newest PRE sets and requests its URGENT inputs, the trigger tick is stored as tick 0 and raises 0x0801, the POST-th tick completes; a stream
stores or drops; a timer that has run its duration expires (none other does); 0x0802 follows once; an uncorrectable error in a held set sets
ECC_UNCORR and raises 0x0805 (R243); pages go to the Inkwell in order. Completes: acqConfig, acqArm, acqForce, acqStop, acqRead, acqTick,
acqTimerExpiry, acqComplete, acqPageHandover. -/
def Obligations.PounceComplete : Prop :=
  (∀ m s (u : Fin 32), Granted 0x0601 1 m s → m.target = unitTarget u → m.length = 256 →
    (s.unit u).state = .idle ∨ (s.unit u).state = .configured ∨ (s.unit u).state = .complete → (s.unit u).holder = none →
    NoReserved m aqReserved →
    Completes (.acqConfig m) s fun t =>
      (t.unit u).cfg = blockFit 60 m.params ∧ (t.unit u).state = .configured ∧ (t.unit u).pages = 0 ∧ (t.unit u).ring = [] ∧
      (t.unit u).post = [] ∧ (t.unit u).captureId = (s.unit u).captureId ∧ (∀ j, j ≠ u → t.unit j = s.unit j) ∧ t.chan = s.chan ∧
      ((s.mbox m.mb).discard = 0 → (t.mbox m.mb).done = (s.mbox m.mb).done ++ [okAnswer m 1 0 []])) ∧
  (∀ m s (u : Fin 32), Granted 0x0602 1 m s → m.target = unitTarget u → m.length = 16 →
    (s.unit u).state = .configured ∨ (s.unit u).state = .complete → armFail 1 (s.armChecks u) = none →
    Completes (.acqArm m) s fun t =>
      (t.unit u).state = (if aqMode (s.unit u).cfg = 1 then .streaming else .armed) ∧ (t.unit u).pages = aqPages (s.unit u).cfg ∧
      (t.unit u).cfg = (s.unit u).cfg ∧ (t.unit u).captureId = ((s.unit u).captureId + 1) % 2 ^ 32 ∧ (t.unit u).seq = 0 ∧
      (t.unit u).ctr = [0, 0] ∧ (t.unit u).tmr = [none, none] ∧ (t.unit u).ring = [] ∧ (t.unit u).post = [] ∧ (t.unit u).ticks = 0 ∧
      (t.unit u).drops = 0 ∧ (∀ j, j ≠ u → t.unit j = s.unit j) ∧ t.chan = s.chan) ∧
  (∀ m s (u : Fin 32) k rc, Granted 0x0602 1 m s → m.target = unitTarget u → m.length = 16 →
    (s.unit u).state = .configured ∨ (s.unit u).state = .complete → armFail 1 (s.armChecks u) = some (k, rc) →
    Completes (.acqArm m) s fun t =>
      t.pounce = s.pounce ∧ s.event 0x0806 INFO u.val (k + 2 ^ 8 * rc) ∈ t.blot.raised ∧
      ((s.mbox m.mb).discard = 0 →
        (t.mbox m.mb).done = (s.mbox m.mb).done ++ [answerTo m rc (s.unit u).state.code k []])) ∧
  (∀ m s (u : Fin 32), Granted 0x0603 1 m s → m.target = unitTarget u → m.length = 16 →
    (s.unit u).state = .armed ∨ (s.unit u).state = .streaming →
    CompletesBy (.acqForce m) 0x0603 m s (fun t => t.updUnit u fun p => { p with force := true }) (s.unit u).state.code 0 []) ∧
  (∀ m s (u : Fin 32), Granted 0x0604 1 m s → m.target = unitTarget u → m.length = 16 →
    Completes (.acqStop m) s fun t =>
      ((s.unit u).state = .armed → (t.unit u).state = .configured ∧ (t.unit u).pages = 0 ∧ (t.unit u).ring = []) ∧
      ((s.unit u).state = .streaming → (t.unit u).state = .configured ∧ (∃ l, (s.unit u).stream = (t.unit u).stream ++ l)) ∧
      ((s.unit u).state = .triggered → t.unit u = { s.unit u with
        state := .complete
        stopped := true }) ∧
      ((s.unit u).state = .idle ∨ (s.unit u).state = .configured ∨ (s.unit u).state = .complete → t.unit u = s.unit u) ∧
      (t.unit u).cfg = (s.unit u).cfg ∧ (∀ j, j ≠ u → t.unit j = s.unit j) ∧ t.chan = s.chan) ∧
  (∀ m s (u : Fin 32), Granted 0x0605 (b2n (decide (2 ≤ fieldAt m.params 0 1 0))) m s → m.target = unitTarget u → m.length = 28 →
    NoReserved m [(0, 0xFFFFF8FC)] → fieldAt m.params 0 1 0 = 0 ∨ (s.unit u).state = .complete →
    (fieldAt m.params 0 1 0 = 0 → CompletesBy (.acqRead m) 0x0605 m s id (s.unit u).state.code 0 (s.unit u).summary) ∧
    (fieldAt m.params 0 1 0 = 1 → CompletesBy (.acqRead m) 0x0605 m s id 4 0 ((s.unit u).measWords (fieldAt m.params 0 10 8))) ∧
    (fieldAt m.params 0 1 0 = 2 → 1 ≤ s.quire.quotaFree m.mb →
      natAt m.params 4 + natAt m.params 8 ≤ (s.unit u).ring.length + (s.unit u).post.length →
      Completes (.acqRead m) s fun t =>
        (t.mbox m.mb).working = (s.mbox m.mb).working + 1 ∧ t.pounce = s.pounce ∧
        ∃ it ∈ t.quire.items, it.flow = 272 + u.val ∧ it.target = .inkwell ∧ it.prio = 2 ∧ it.uid = s.quire.nextUid) ∧
    (fieldAt m.params 0 1 0 = 3 → CompletesBy (.acqRead m) 0x0605 m s (fun t => t.updUnit u Pounce.empty) 1 0 [])) ∧
  (∀ s (u : Fin 32), (s.unit u).state = .armed → s.rst.pfailSeq = false → s.tickDue u = true → (s.unit u).force = false →
    ((s.unit u).ripen (s.takeSet (s.unit u)).at64).fires (s.takeSet (s.unit u)).vals = none → (s.unit u).ticks % 2 ^ aqDec0 (s.unit u).cfg = 0 →
    (s.unit u).ring.length ≤ aqPre (s.unit u).cfg → 0 < aqPre (s.unit u).cfg →
    Completes (.acqTick u) s fun t =>
      (t.unit u).state = .armed ∧ (t.unit u).ticks = (s.unit u).ticks + 1 ∧
      (t.unit u).ring.getLast? = some (s.takeSet (s.unit u)) ∧
      (t.unit u).ring.length = min ((s.unit u).ring.length + 1) (aqPre (s.unit u).cfg) ∧
      (∀ j, j ≠ u → t.unit j = s.unit j) ∧ { t with
        pounce := s.pounce
        die := s.die } = s ∧
      (∀ f, { t.dieOf f with urgent := (s.dieOf f).urgent } = s.dieOf f) ∧
      (∀ i, i < 288 → (s.unit u).urgentOn i = true → (u.val, i % 72) ∈ (t.dieOf (Fin.ofNat 4 (i / 72))).urgent)) ∧
  (∀ s (u : Fin 32) k w, (s.unit u).state = .armed → s.rst.pfailSeq = false → s.tickDue u = true →
    ((s.unit u).ripen (s.takeSet (s.unit u)).at64).fires (s.takeSet (s.unit u)).vals = some (k, w) → bit w 16 = true → 1 < aqPost (s.unit u).cfg → 0 < (s.unit u).free →
    aqPost (s.unit u).cfg ≤ (s.unit u).free * 2 ^ (s.unit u).d →
    Completes (.acqTick u) s fun t =>
      (t.unit u).state = .triggered ∧ (t.unit u).seq = bits w 26 24 ∧ (t.unit u).j = 1 ∧ (t.unit u).forced = false ∧
      (t.unit u).post = (s.unit u).post ++ [{ s.takeSet (s.unit u) with
        d := (s.unit u).d
        j := 0 }] ∧ (t.unit u).ring = (s.unit u).ring ∧ (∀ j, j ≠ u → t.unit j = s.unit j) ∧
      t.blot.raised = s.blot.raised ++ [s.event 0x0801 INFO u.val
        ((s.unit u).seq + 8 * k + 2 ^ 32 * ((s.takeSet (s.unit u)).t % 2 ^ 32))]) ∧
  (∀ s (u : Fin 32), (s.unit u).state = .triggered → s.rst.pfailSeq = false → s.tickDue u = true →
    Completes (.acqTick u) s fun t =>
      (t.unit u).state = (if aqPost (s.unit u).cfg ≤ (s.unit u).j + 1 then .complete else .triggered) ∧
      (t.unit u).j = (s.unit u).j + 1 ∧ (s.unit u).d ≤ (t.unit u).d ∧ (t.unit u).ring = (s.unit u).ring ∧
      ((s.unit u).j % 2 ^ (s.unit u).d ≠ 0 → (t.unit u).post = (s.unit u).post ∧ t.blot.raised = s.blot.raised) ∧
      (∀ j, j ≠ u → t.unit j = s.unit j)) ∧
  (∀ s (u : Fin 32), (s.unit u).state = .streaming → s.rst.pfailSeq = false → s.tickDue u = true → (s.unit u).ticks % 2 ^ (s.unit u).d = 0 →
    (s.unit u).stream.length < capSets (s.unit u).pages (aqNsig (s.unit u).cfg) →
    Completes (.acqTick u) s fun t =>
      (t.unit u).stream = (s.unit u).stream ++ [s.takeSet (s.unit u)] ∧ (t.unit u).stored = (s.unit u).stored + 1 ∧
      (t.unit u).drops = (s.unit u).drops ∧ (t.unit u).gap = false) ∧
  (∀ s (u : Fin 32), (s.unit u).state = .streaming → s.rst.pfailSeq = false → s.tickDue u = true → (s.unit u).ticks % 2 ^ (s.unit u).d = 0 →
    capSets (s.unit u).pages (aqNsig (s.unit u).cfg) ≤ (s.unit u).stream.length →
    Completes (.acqTick u) s fun t =>
      (t.unit u).stream = (s.unit u).stream ∧ (t.unit u).drops = satAdd (s.unit u).drops 1 ∧ (t.unit u).gap = true ∧
      t.blot.raised = s.blot.raised ++ [s.event 0x0804 ALARM u.val (satAdd (s.unit u).drops 1)]) ∧
  (∀ s (u : Fin 32), (s.unit u).state = .idle ∨ (s.unit u).state = .configured ∨ (s.unit u).state = .complete ∨ s.tickDue u = false →
    exec (.acqTick u) s = .next s) ∧
  (∀ s (u : Fin 32) (j : Fin 2), (s.unit u).ripe (s.unitNow u) j.val = false → exec (.acqTimerExpiry u j) s = .next s) ∧
  (∀ s (u : Fin 32) (j : Fin 2), (s.unit u).ripe (s.unitNow u) j.val = true →
    exec (.acqTimerExpiry u j) s = .next (s.updUnit u fun p => { p with
      tmr := p.tmr.set j.val none
      tmrDone := p.tmrDone.set j.val true })) ∧
  (∀ s (u : Fin 32), (s.unit u).state = .complete → (s.unit u).measured = false →
    Completes (.acqComplete u none) s fun t =>
      t.unit u = { s.unit u with measured := true } ∧ (∀ j, j ≠ u → t.unit j = s.unit j) ∧ t.chan = s.chan ∧
      s.event 0x0802 INFO u.val ((s.unit u).ring.length + (s.unit u).post.length + 2 ^ 32 * (s.unit u).d + 2 ^ 36 * b2n (s.unit u).stopped)
        ∈ t.blot.raised ∧
      (aqDeliver (s.unit u).cfg = true → ∃ it ∈ t.quire.items, it.flow = 272 + u.val ∧ it.target = .inkwell ∧ it.uid = s.quire.nextUid) ∧
      (aqDeliver (s.unit u).cfg = false → t.quire = s.quire)) ∧
  (∀ s (u : Fin 32) e, (s.unit u).state = .complete → (s.unit u).measured = false →
    e.index < (s.unit u).ring.length + (s.unit u).post.length → e.signal.val < aqNsig (s.unit u).cfg →
    Completes (.acqComplete u (some e)) s fun t =>
      (t.unit u).eccUncorr = true ∧ (t.unit u).measured = true ∧ (t.unit u).ring.length = (s.unit u).ring.length ∧
      (t.unit u).post.length = (s.unit u).post.length ∧ s.event 0x0805 ALARM u.val e.page.val ∈ t.blot.raised ∧ t.chan = s.chan) ∧
  (∀ s (u : Fin 32) e, (s.unit u).state ≠ .complete ∨ (s.unit u).measured = true → exec (.acqComplete u e) s = .next s) ∧
  (∀ s (u : Fin 32), 0 < aqNsig (s.unit u).cfg → (s.unit u).handed < (s.unit u).stream.length →
    Completes (.acqPageHandover u none) s fun t =>
      (s.unit u).handed < (t.unit u).handed ∧ (t.unit u).handed ≤ (s.unit u).stream.length ∧
      { t.unit u with handed := (s.unit u).handed } = s.unit u ∧ (∀ j, j ≠ u → t.unit j = s.unit j) ∧
      ∃ it ∈ t.quire.items, it.flow = 272 + u.val ∧ it.target = .inkwell ∧ it.uid = s.quire.nextUid ∧
        it.work = .delivery u (.stream ((t.unit u).handed - (s.unit u).handed)))

/-- The Inkwell's rows complete (R245, R257 to R259, R262 to R266, R268, R349): REC_STREAM_OPEN opens a stream with its masks, marks the records it
selects as owed unless NEW_ONLY, and closes it; REC_STATUS answers the store's counters; RECORD_STORE gives the longest-waiting record the next
SEQ, or drops it where no page is free; a thinning pass takes the loose records first and thins next; the scrub corrects any eight bytes of a
codeword, counts, reports and retires; a buffer that is full or older than FLUSH_US is returned with its descriptor's OWN cleared; a STREAM frame takes
whole records in SEQ order; after RETX_MS without progress a fabric stream goes back to its first unacknowledged record. Completes: recStreamOpen,
recStatus, recordStore, thinningPass, dramScrub, streamBufferReturn, streamFrameSend, recStreamResend. -/
def Obligations.InkwellComplete : Prop :=
  (∀ m s (k : Fin 4), Granted 0x0702 1 m s → m.target = 0 → m.length = 40 → k.val = fieldAt m.params 0 1 0 → s.ink.dramOk = true →
    bitAt m.params 0 8 = false → NoReserved m [(0, 0xFFFFFEEC), (4, 0xFFFFFF81), (8, 0xFFFF0000), (16, 0xFFFF0000), (20, 0xFFFE0000)] →
    (s.stream k).open_ = false → natAt m.params 4 ≠ 0 → 10 ≤ fieldAt m.params 20 15 0 → fieldAt m.params 20 15 0 ≤ 10000 →
    (bitAt m.params 0 4 = true → 1 ≤ natAt m.params 16 ∧ natAt m.params 16 ≤ 0x0FFF) →
    (bitAt m.params 0 4 = false → (s.stream k).ringSet = true) →
    Completes (.recStreamOpen m) s fun t =>
      (t.stream k).open_ = true ∧ (t.stream k).fabric = bitAt m.params 0 4 ∧ (t.stream k).typeMask = natAt m.params 4 ∧
      (t.stream k).groupMask = natAt m.params 8 ∧ (t.stream k).unitMask = natAt m.params 12 ∧
      (bitAt m.params 0 4 = true ∨ s.hostOut = true ∨ (s.stream k).buf = none ∧ (s.stream k).nextDesc = none →
        (t.stream k).sent = none ∧ (t.stream k).ringHead = (s.stream k).ringHead ∧ (t.stream k).buf = (s.stream k).buf) ∧
      (∀ d, bitAt m.params 0 4 = false → s.hostOut = false → (s.stream k).buf = none → (s.stream k).nextDesc = some d →
        (∃ x ∈ t.ink.store, k.val ∈ x.owed) →
        (t.stream k).ringHead = ((s.stream k).ringHead + 1) % 65536 ∧
        ∃ b, (t.stream k).buf = some b ∧ b.addr = d.addr ∧ b.size = d.size ∧ b.desc = (s.stream k).ringHead % (s.stream k).entries) ∧
      (∀ j, j ≠ k → t.stream j = s.stream j) ∧
      (bitAt m.params 20 16 = true → t.ink.store = s.ink.store) ∧
      (bitAt m.params 20 16 = false → ∀ x ∈ t.ink.store, (t.stream k).selects x.rec_ = true → k.val ∈ x.owed) ∧
      t.ink.store.map (fun x => x.rec_) = s.ink.store.map (fun x => x.rec_) ∧ t.ink.waiting.length = s.ink.waiting.length + 1 ∧
      ((s.mbox m.mb).discard = 0 → (t.mbox m.mb).done = (s.mbox m.mb).done ++ [okAnswer m 0 0 [w32 (t.firstOwed k)]])) ∧
  (∀ m s (k : Fin 4), Granted 0x0702 1 m s → m.target = 0 → m.length = 40 → k.val = fieldAt m.params 0 1 0 → s.ink.dramOk = true →
    bitAt m.params 0 8 = true → NoReserved m [(0, 0xFFFFFEEC)] → (s.stream k).open_ = true →
    Completes (.recStreamOpen m) s fun t =>
      (t.stream k).open_ = false ∧ (t.stream k).buf = none ∧ (t.stream k).returned = (s.stream k).returned ++ (s.stream k).buf.toList ∧
      (∀ j, j ≠ k → t.stream j = s.stream j) ∧ (∀ x ∈ t.ink.store, k.val ∉ x.owed) ∧
      t.ink.store.map (fun x => x.rec_) = s.ink.store.map (fun x => x.rec_) ∧ t.chan = s.chan) ∧
  (∀ m s, Granted 0x0703 0 m s → m.target = 0 → m.length = 16 →
    (s.ink.dramOk = true → CompletesBy (.recStatus m) 0x0703 m s id 0 0 s.recStatusWords) ∧
    (s.ink.dramOk = false → exec (.recStatus m) s = .next ((s.takeOff 0x0703 m).respond m.mb (answerTo m 0x0701 0 0 [])))) ∧
  (∀ s r l p off, s.ink.waiting = r :: l → s.ink.dramOk = true → s.rst.pfailSeq = false → (3, 0) ∉ s.rst.block →
    s.ink.place r.bytes = some (p, off) →
    Completes .recordStore s fun t =>
      l <+: t.ink.waiting ∧ (r.typ ≠ tCAPTURE → t.ink.waiting = l) ∧ (∃ x, t.ink.store = s.ink.store ++ [x] ∧ x.seq = s.ink.nextSeq ∧ x.rec_ = r ∧ x.page = p ∧ x.off = off ∧
        x.thin = 0 ∧ ∀ i, i ∈ x.owed ↔ i < 4 ∧ (vgetD s.ink.streams i {}).open_ = true ∧ (vgetD s.ink.streams i {}).selects r = true) ∧
      t.ink.nextSeq = (s.ink.nextSeq + 1) % 2 ^ 32 ∧ t.chan = s.chan ∧
      (∀ k, s.hostOut = true ∨ (s.stream k).open_ = false ∨ (s.stream k).fabric = true → t.stream k = s.stream k)) ∧
  (∀ s r l, s.ink.waiting = r :: l → s.ink.dramOk = true → s.rst.pfailSeq = false → (3, 0) ∉ s.rst.block →
    s.ink.place r.bytes = none →
    Completes .recordStore s fun t => t.ink.store = s.ink.store ∧ t.ink.dropped = satAdd s.ink.dropped 1 ∧
      s.event 0x0902 ALARM 0 1 ∈ t.blot.raised) ∧
  (∀ s, s.ink.waiting = [] ∨ s.ink.dramOk = false ∨ s.rst.pfailSeq = true ∨ (3, 0) ∈ s.rst.block → exec .recordStore s = .next s) ∧
  (∀ s, s.ink.freePages < s.ink.thinReserve → s.ink.store.any Stored.loose = true →
    Completes .thinningPass s fun t =>
      t.ink.store.Sublist s.ink.store ∧ t.ink.store.length < s.ink.store.length ∧
      (∀ x ∈ s.ink.store, x ∉ t.ink.store → ∃ y ∈ s.ink.store, y.loose = true ∧ y.seq = x.seq) ∧
      (∃ p, s.event 0x0902 ALARM 0 p ∈ t.blot.raised) ∧ t.ink.streams = s.ink.streams ∧ t.chan = s.chan) ∧
  (∀ s, s.ink.freePages < s.ink.thinReserve → s.ink.store.any Stored.loose = false → s.ink.thinPlan ≠ [] →
    Completes .thinningPass s fun t =>
      t.ink.thinned = satAdd s.ink.thinned s.ink.thinPlan.length ∧ (∀ e ∈ s.ink.thinPlan, ∀ x ∈ t.ink.store, x.seq ≠ e.2) ∧
      (∀ x ∈ t.ink.store, ∃ y ∈ s.ink.store, y.rec_ = x.rec_ ∧ y.seq = x.seq ∧
        x.thin = if (s.ink.thinPlan.map fun e => e.1).contains x.seq then y.thin + 1 else y.thin) ∧
      t.ink.dropped = s.ink.dropped ∧
      s.event 0x0901 NOTICE 0 (s.ink.thinPlan.length + 2 ^ 32 * t.ink.highThin) ∈ t.blot.raised) ∧
  (∀ s, s.ink.thinReserve ≤ s.ink.freePages → s.ink.thinning = false → exec .thinningPass s = .next s) ∧
  (∀ s page cw, s.ink.dramOk = true → page < storePages → exec (.dramScrub page cw [] .clean []) s = .next s) ∧
  (∀ s page cw e x c, s.ink.dramOk = false ∨ storePages ≤ page → exec (.dramScrub page cw e x c) s = .next s) ∧
  (∀ s page cw (e : List (Fin 128)) (c : List (Fin 16)) (n : Nat), s.ink.dramOk = true → page < storePages → wrongBytes e c = n → 0 < n → n < 5 →
    exec (.dramScrub page cw e .clean c) s = .next (({ s with ink := { s.ink with outerCorr := satAdd s.ink.outerCorr n } } : State).raise
      0x0903 INFO 0 (page + 2 ^ 24 * n))) ∧
  (∀ s page (cw : Fin 64) (e : List (Fin 128)) (c : List (Fin 16)), s.ink.dramOk = true → page < storePages → 5 ≤ wrongBytes e c → wrongBytes e c ≤ 8 →
    page ∉ s.ink.retired →
    Completes (.dramScrub page cw e .clean c) s fun t =>
      t.ink.outerCorr = satAdd s.ink.outerCorr (wrongBytes e c) ∧ t.ink.outerUncorr = s.ink.outerUncorr ∧
      s.event 0x0903 INFO 0 (page + 2 ^ 24 * wrongBytes e c) ∈ t.blot.raised ∧
      ((page, cw.val) ∉ s.ink.fiveTwice → t.ink.retired = s.ink.retired ∧ (page, cw.val) ∈ t.ink.fiveTwice ∧ t.ink.store = s.ink.store) ∧
      ((page, cw.val) ∈ s.ink.fiveTwice → t.ink.retired = s.ink.retired ++ [page] ∧ (∀ x ∈ t.ink.store, x.page ≠ page))) ∧
  (∀ s page cw (e : List (Fin 128)) (c : List (Fin 16)), s.ink.dramOk = true → page < storePages →
    (Completes (.dramScrub page cw e .corrected c) s fun t => t.ink.innerCorr = satAdd s.ink.innerCorr 1 ∧ t.ink.innerUncorr = s.ink.innerUncorr) ∧
    (Completes (.dramScrub page cw e .uncorrectable c) s fun t => t.ink.innerUncorr = satAdd s.ink.innerUncorr 1 ∧ t.ink.innerCorr = s.ink.innerCorr ∧
      (wrongBytes e c ≤ 8 → s.event 0x0904 ALARM 0 (page + 2 ^ 20) ∈ t.blot.raised))) ∧
  (∀ s page (cw : Fin 64) (e : List (Fin 128)) (c : List (Fin 16)), s.ink.dramOk = true → page < storePages → 8 < wrongBytes e c → page ∉ s.ink.retired →
    Completes (.dramScrub page cw e .clean c) s fun t =>
      t.ink.outerUncorr = satAdd s.ink.outerUncorr 1 ∧ t.ink.retired = s.ink.retired ++ [page] ∧ (∀ x ∈ t.ink.store, x.page ≠ page) ∧
      t.vel.pagesRetired = satAdd s.vel.pagesRetired 1 ∧ s.event 0x0904 ALARM 0 page ∈ t.blot.raised ∧
      s.event 0x0905 NOTICE 0 (page + 2 ^ 32 * (storePages - (s.ink.retired.length + 1))) ∈ t.blot.raised) ∧
  (∀ u s (k : Fin 4) n d b, s = u.readDesc k n d → s.fillOne k = none → (s.stream k).buf = some b → s.bufferDue k = true → s.hostOut = false →
    Completes (.streamBufferReturn k n d) u fun t =>
      (t.stream k).returned = (s.stream k).returned ++ [b] ∧ (t.stream k).sentSeq = b.seqs.getLastD 0 ∧
      (∀ e ∈ (t.stream k).ring, e.1 = b.desc → e.2.own = false) ∧
      (t.stream k).ring.map (fun e => (e.1, e.2.addr, e.2.size)) = (s.stream k).ring.map (fun e => (e.1, e.2.addr, e.2.size)) ∧
      t.host = (s.irq (8 + k.val)).host ∧ (∀ j, j ≠ k → t.stream j = s.stream j) ∧ t.ink.store = s.ink.store ∧ t.chan = s.chan) ∧
  (∀ u s (k : Fin 4) n d, s = u.readDesc k n d → s.fillOne k = none → s.bufferDue k = false ∨ s.hostOut = true →
    exec (.streamBufferReturn k n d) u = .next s) ∧
  (∀ s (k : Fin 4) (n : Nat), (s.stream k).open_ = true → (s.stream k).fabric = true → 0 < n →
    (∃ y, (s.toSend k).head? = some y ∧ y.rec_.bytes ≤ 1464) →
    Completes (.streamFrameSend k n) s fun t =>
      (∃ l x, l ++ [x] <+: s.toSend k ∧ l.length < n ∧ ((l ++ [x]).map fun y => y.rec_.bytes).sum ≤ 1464 ∧ (t.stream k).sent = some x.seq) ∧
      (∀ p, s.routePort (s.stream k).addr none = some p → t.fab.fseq = s.fab.fseq + 1) ∧ t.ink.store = s.ink.store ∧ (∀ j, j ≠ k → t.stream j = s.stream j)) ∧
  (∀ s (k : Fin 4) x, (s.ink.store.find? fun x => x.owed.contains k.val) = some x → (s.stream k).open_ = true → (s.stream k).fabric = true →
    (s.stream k).sent.isSome = true → (∀ y ∈ s.toSend k, y.seq ≠ x.seq) →
    ((s.stream k).progress + (s.stream k).retx * 250000 ≤ s.now → exec (.recStreamResend k) s =
      .next ((s.updStream k fun r => { r with
        sent := none
        progress := s.now }).raise 0x0907 NOTICE k.val x.seq)) ∧
    (s.now < (s.stream k).progress + (s.stream k).retx * 250000 → exec (.recStreamResend k) s = .next s))

/-- The axis commands complete (R277, R279, R280, R282, R283, R285 to R288, R290 to R293, R296, R319): AX_CONFIG stores its block and enables,
disables, or names the failed check in 0x0A0A; AX_TABLE_LOAD takes a valid table over with chunk 3; AX_MOVE, AX_MOVE_LINEAR and AX_HOME begin
their motion with POSITION unchanged and the coils ramping; AX_STOP, which answers at rest, and AX_STANDSTILL change the state; AX_STATUS answers.
Completes: axConfig, axTableLoad, axMove, axMoveLinear, axHome, axStop, axStandstill, axStatus. -/
def Obligations.AxisCommandsComplete : Prop :=
  (∀ m s (a : Fin 8), Granted 0x0801 2 m s → m.target = axTarget a → m.length = 96 → (s.ax a).state = .disabled → NoReserved m acReserved →
    (acEnable (blockFit 20 m.params) = false →
      Completes (.axConfig m) s fun t => (t.ax a).state = .disabled ∧ (t.ax a).cfg = blockFit 20 m.params ∧ (t.ax a).pos = (s.ax a).pos ∧
        (∀ j, j ≠ a → t.ax j = s.ax j)) ∧
    (acEnable (blockFit 20 m.params) = true →
      firstFail 1 ((s.updAx a fun x => { x with cfg := blockFit 20 m.params }).axChecks a) = none →
      Completes (.axConfig m) s fun t => (t.ax a).state = .idle ∧ (t.ax a).cfg = blockFit 20 m.params ∧
        (t.ax a).levelTo = acIrun (blockFit 20 m.params) ∧ (t.ax a).pos = (s.ax a).pos ∧ (t.ax a).encErr = 0 ∧
        (∀ j, j ≠ a → t.ax j = s.ax j)) ∧
    (∀ k why, acEnable (blockFit 20 m.params) = true →
      firstFail 1 ((s.updAx a fun x => { x with cfg := blockFit 20 m.params }).axChecks a) = some (k, why) →
      Completes (.axConfig m) s fun t => (t.ax a).state = .disabled ∧ s.event 0x0A0A INFO a.val (k + 2 ^ 8 * why) ∈ t.blot.raised ∧
        ((s.mbox m.mb).discard = 0 → (t.mbox m.mb).done = (s.mbox m.mb).done ++ [answerTo m why 0 k []]))) ∧
  (∀ m s (a : Fin 8), Granted 0x0801 2 m s → m.target = axTarget a → m.length = 96 →
    (s.ax a).state = .idle ∨ (s.ax a).state = .standstill ∨ (s.ax a).state = .fault → acEnable (blockFit 20 m.params) = false →
    NoReserved m acReserved →
    Completes (.axConfig m) s fun t => (t.ax a).state = .disabled ∧ (t.ax a).cfg = blockFit 20 m.params ∧ (t.ax a).levelTo = 0 ∧
      t.margin.referenced.getLsbD a.val = false ∧ (∀ j, j ≠ a → t.ax j = s.ax j)) ∧
  (∀ m s (a : Fin 8), Granted 0x0802 2 m s → m.target = axTarget a → m.length = 148 → (s.ax a).state = .disabled →
    NoReserved m [(0, 0xFFFFFFFC)] →
    (fieldAt m.params 0 1 0 < 3 → CompletesBy (.axTableLoad m) 0x0802 m s
      (fun t => t.updAx a fun x => { x with chunks := lset x.chunks (fieldAt m.params 0 1 0) (some (chunkEntries m.params)) }) 0 0 []) ∧
    (fieldAt m.params 0 1 0 = 3 →
      tableFault ((s.ax a).quarter 0 ++ (s.ax a).quarter 1 ++ (s.ax a).quarter 2 ++ chunkEntries m.params) = none →
      Completes (.axTableLoad m) s fun t =>
        (t.ax a).table = (s.ax a).quarter 0 ++ (s.ax a).quarter 1 ++ (s.ax a).quarter 2 ++ chunkEntries m.params ∧
        (t.ax a).state = .disabled ∧ (∀ j, j ≠ a → t.ax j = s.ax j)) ∧
    (∀ k, fieldAt m.params 0 1 0 = 3 →
      tableFault ((s.ax a).quarter 0 ++ (s.ax a).quarter 1 ++ (s.ax a).quarter 2 ++ chunkEntries m.params) = some k →
      exec (.axTableLoad m) s = .next ((s.takeOff 0x0802 m).respond m.mb (answerTo m 0x0301 0 k [])))) ∧
  (∀ m s (a : Fin 8) tgt, Granted 0x0804 1 m s → m.target = axTarget a → m.length = 28 →
    (s.ax a).state = .idle ∨ (s.ax a).state = .standstill ∨ (s.ax a).state = .moving ∨ (s.ax a).state = .reversing →
    s.linear.any (Linear.has a) = false → NoReserved m [(0, 0xFFFFFFFE)] → s.axisLock a = none → natAt m.params 8 ≤ acVmax (s.ax a).cfg →
    tgt = (if bitAt m.params 0 0 = true then wrap32 ((s.ax a).target + intAt m.params 4) else intAt m.params 4) →
    (s.ax a).softOut tgt = false → (s.ax a).limitRefusal tgt = none → ¬ ((s.ax a).state = .standstill ∧ (s.ax a).ssMode ≠ 0 ∧ (s.ax a).encBad = true) →
    Completes (.axMove m) s fun t =>
      (t.ax a).target = tgt ∧ (t.ax a).vMove = (if natAt m.params 8 = 0 then acVmax (s.ax a).cfg else natAt m.params 8) ∧
      (t.ax a).pos = (s.ax a).pos ∧ (t.ax a).levelTo = acIrun (s.ax a).cfg ∧ (∀ j, j ≠ a → t.ax j = s.ax j) ∧ t.linear = s.linear ∧
      ((s.ax a).state = .standstill → (t.ax a).state = .moving ∧ (t.ax a).waitRamp = true) ∧
      ((s.ax a).state = .idle ∨ (s.ax a).state = .moving →
        (t.ax a).state = if (s.ax a).vSq = 0 ∨ (s.ax a).ahead tgt = true then .moving else .reversing) ∧
      ((s.ax a).state = .reversing → (t.ax a).state = .reversing)) ∧
  (∀ m s k, Granted 0x0805 1 m s → tgtOf m.target = .axes k → m.length = 48 →
    (∀ a ∈ axisMask m.target, ((s.ax a).state = .idle ∨ (s.ax a).state = .standstill) ∧ s.axisLock a = none ∧
      (s.ax a).softOut (intAt m.params (4 * a.val)) = false ∧ (s.ax a).limitRefusal (intAt m.params (4 * a.val)) = none ∧
      ¬ ((s.ax a).state = .standstill ∧ (s.ax a).ssMode ≠ 0 ∧ (s.ax a).encBad = true)) →
    Completes (.axMoveLinear m) s fun t =>
      (∀ a ∈ axisMask m.target, (t.ax a).target = intAt m.params (4 * a.val) ∧ (t.ax a).pos = (s.ax a).pos ∧
        ((s.ax a).vSq = 0 → (t.ax a).state = .moving)) ∧
      (∀ a, a ∉ axisMask m.target → t.ax a = s.ax a) ∧
      ∃ l, t.linear = s.linear ++ [l] ∧ l.members.map (fun x => x.1) = axisMask m.target ∧ l.prog = 0 ∧ l.stopping = false ∧
        (∀ a ∈ axisMask m.target, (intAt m.params (4 * a.val) - (s.ax a).pos).natAbs ≤ l.travel.natAbs)) ∧
  (∀ m s (a : Fin 8), Granted 0x0803 1 m s → m.target = axTarget a → m.length = 40 →
    (s.ax a).state = .idle ∨ (s.ax a).state = .standstill → NoReserved m [(0, 0xFFFFFFEC)] → s.axisLock a = none →
    natAt m.params 4 ≤ acVmax (s.ax a).cfg → 1 ≤ natAt m.params 8 → natAt m.params 8 ≤ natAt m.params 4 → 0 ≤ intAt m.params 0xC →
    1 ≤ natAt m.params 0x14 → fieldAt m.params 0 1 0 ≠ 1 ∨ acEnc (s.ax a).cfg = true → ¬ ((s.ax a).state = .standstill ∧ (s.ax a).ssMode ≠ 0 ∧ (s.ax a).encBad = true) →
    Completes (.axHome m) s fun t =>
      (t.ax a).state = .homing ∧ (t.ax a).pos = (s.ax a).pos ∧ (t.ax a).homed = (s.ax a).homed ∧ (∀ j, j ≠ a → t.ax j = s.ax j) ∧
      (t.ax a).levelTo = (if fieldAt m.params 0 1 0 = 2 then acIhome (s.ax a).cfg else acIrun (s.ax a).cfg) ∧
      (∃ h, (t.ax a).homing = some h ∧ h.cmd = blockFit 6 m.params ∧ h.travel = 0 ∧
        h.phase = (if fieldAt m.params 0 1 0 = 3 then .finished else if fieldAt m.params 0 1 0 = 2 then .ramp else .seek)) ∧
      ((s.mbox m.mb).discard = 0 → (t.mbox m.mb).done = (s.mbox m.mb).done ++ [okAnswer m 2 0 []])) ∧
  (∀ m s (a : Fin 8), Granted 0x0806 1 m s → m.target = axTarget a → m.length = 20 → (s.ax a).state ≠ .disabled → (s.ax a).state ≠ .fault →
    NoReserved m [(0, 0xFFFFFFFE)] →
    Completes (.axStop m) s fun t =>
      (∀ l ∈ t.linear, l.has a = true → l.stopping = true) ∧
      (s.linear.any (Linear.has a) = false →
        (∀ j, j ≠ a → t.ax j = s.ax j) ∧ (t.ax a).pos = (s.ax a).pos ∧ (t.ax a).vSq = (s.ax a).vSq ∧
        ((s.ax a).state = .idle ∨ (s.ax a).state = .standstill → (t.ax a).state = (s.ax a).state ∧ (t.ax a).target = (s.ax a).target) ∧
        ((s.ax a).state = .homing → (t.ax a).homing = none) ∧
        ((s.ax a).state = .moving ∨ (s.ax a).state = .reversing ∨ (s.ax a).state = .homing →
          (t.ax a).state = (if (s.ax a).vSq = 0 then .idle else .stopping) ∧
          ((s.ax a).vSq ≠ 0 → (t.ax a).quick = bitAt m.params 0 0) ∧ ((s.ax a).vSq = 0 → (t.ax a).target = (s.ax a).pos)) ∧
        ((t.ax a).state = .stopping → (t.ax a).stops = (s.ax a).stops ++ [m] ∧ (t.mbox m.mb).done = (s.mbox m.mb).done ∧
          (t.mbox m.mb).working = (s.mbox m.mb).working + 1) ∧
        ((t.ax a).state ≠ .stopping → (s.mbox m.mb).discard = 0 →
          (t.mbox m.mb).done = (s.mbox m.mb).done ++ [okAnswer m (t.ax a).state.code 0 []]))) ∧
  (∀ m s (a : Fin 8), Granted 0x0808 1 m s → m.target = axTarget a → m.length = 20 →
    (s.ax a).state = .idle ∨ (s.ax a).state = .standstill → NoReserved m [(0, 0xFFFFFFFC)] → fieldAt m.params 0 1 0 < 3 →
    ¬ ((s.ax a).state = .standstill ∧ (s.ax a).ssMode ≠ 0 ∧ (s.ax a).encBad = true) →
    Completes (.axStandstill m) s fun t =>
      (t.ax a).state = .standstill ∧ (t.ax a).ssMode = fieldAt m.params 0 1 0 ∧ (t.ax a).pos = (s.ax a).pos ∧
      (t.ax a).levelTo = (if fieldAt m.params 0 1 0 = 0 then (acIhold (s.ax a).cfg : Int) else 0) ∧
      (t.ax a).posUncertain = ((s.ax a).posUncertain || (fieldAt m.params 0 1 0 != 0 && !acEnc (s.ax a).cfg)) ∧
      (∀ j, j ≠ a → t.ax j = s.ax j)) ∧
  (∀ m s (a : Fin 8), Granted 0x0807 0 m s → m.target = axTarget a → m.length = 16 →
    CompletesBy (.axStatus m) 0x0807 m s id (s.ax a).state.code 0 (s.axStatus a))

/-- What happens to an axis by itself (R275, R276, R281, R284, R285, R289 to R295, R297, R316): a homing sequence ends with the origin at HOME_OFFSET or
with its reason; a move ends at its target; the end of the 1 ms ramp starts a waiting profile; an axis IDLE for IDLE_TIMEOUT goes to standstill; the step
generator moves at most one microstep, toward the target, and both Margin taps count it; a stop that has come to rest is answered (R362); a switch
level stable for its debounce time is taken, and a limit toward which the axis moves stops it and raises 0x0A03; edges are counted. Completes:
axHomeDone, axMoveDone, coilRampDone, axIdleTimeout, stepGeneratorUpdate, coilEvaluation, switchDebounced, switchRawEdge, encoderEdge. -/
def Obligations.AxisEventsComplete : Prop :=
  (∀ s (a : Fin 8) h, (s.ax a).homing = some h → h.phase = .finished →
    Completes (.axHomeDone a) s fun t =>
      (t.ax a).state = .idle ∧ (t.ax a).homing = none ∧ (t.ax a).homed = true ∧ (t.ax a).posUncertain = false ∧
      (t.ax a).pos = wrap32 ((s.ax a).pos + wrap32 (hmOffset h.cmd - h.origin.getD (s.ax a).pos)) ∧
      (t.ax a).phase = (s.ax a).phase ∧ (∀ j, j ≠ a → t.ax j = s.ax j) ∧
      (s.slpDemanded a = false → t.margin.referenced.getLsbD a.val = true) ∧
      t.blot.raised = s.blot.raised ++ [s.event 0x0A02 INFO a.val
        (hmMethod h.cmd + 2 ^ 32 * p32 (wrap32 (hmOffset h.cmd - h.origin.getD (s.ax a).pos)))]) ∧
  (∀ s (a : Fin 8) h r, (s.ax a).homing = some h → h.phase = .failed r →
    exec (.axHomeDone a) s = .next ((s.updAx a fun x => { x.enterIdle s.now with homing := none }).raise 0x0A04 NOTICE a.val r)) ∧
  (∀ s (a : Fin 8), (s.ax a).homing = none → exec (.axHomeDone a) s = .next s) ∧
  (∀ s (a : Fin 8), (s.ax a).state = .moving → s.linear.find? (Linear.has a) = none → (s.ax a).pos = (s.ax a).target → (s.ax a).waitRamp = false →
    Completes (.axMoveDone a) s fun t =>
      (t.ax a).state = .idle ∧ (t.ax a).vSq = 0 ∧ (t.ax a).pos = (s.ax a).pos ∧ (∀ j, j ≠ a → t.ax j = s.ax j) ∧
      t.blot.raised = s.blot.raised ++ [s.event 0x0A01 INFO a.val (p32 (s.ax a).pos)]) ∧
  (∀ s (a : Fin 8), (s.ax a).state ≠ .moving → exec (.axMoveDone a) s = .next s) ∧
  (∀ s (a : Fin 8), s.now < (s.ax a).rampAt + msCycles → exec (.coilRampDone a) s = .next s) ∧
  (∀ s (a : Fin 8), (s.ax a).rampAt + msCycles ≤ s.now → Completes (.coilRampDone a) s fun t =>
    (t.ax a).level = (s.ax a).levelTo ∧ (t.ax a).waitRamp = false ∧ (t.ax a).state = (s.ax a).state ∧ (t.ax a).pos = (s.ax a).pos ∧
    (∀ h, (s.ax a).homing = some h → h.phase = .ramp → ∃ k, (t.ax a).homing = some k ∧ k.phase = .stall ∧ k.travel = 0) ∧
    (∀ j, j ≠ a → t.ax j = s.ax j) ∧ { t with axis := s.axis } = s) ∧
  (∀ s (a : Fin 8), (s.ax a).state = .idle → acIdle (s.ax a).cfg ≠ 0 → (s.ax a).idleAt + acIdle (s.ax a).cfg * msCycles ≤ s.now →
    Completes (.axIdleTimeout a) s fun t => (t.ax a).state = .standstill ∧ (t.ax a).ssMode = acSsMode (s.ax a).cfg ∧
      (t.ax a).pos = (s.ax a).pos ∧ (∀ j, j ≠ a → t.ax j = s.ax j)) ∧
  (∀ s (a : Fin 8), (s.ax a).state ≠ .idle ∨ acIdle (s.ax a).cfg = 0 ∨ s.now < (s.ax a).idleAt + acIdle (s.ax a).cfg * msCycles →
    exec (.axIdleTimeout a) s = .next s) ∧
  (∀ s (a : Fin 8), (s.ax a).state = .moving → s.linear.find? (Linear.has a) = none → (s.ax a).waitRamp = false → (s.ax a).vSq = 0 →
    (s.ax a).target ≠ (s.ax a).pos → acEnc (s.ax a).cfg = false → 1 ≤ (s.ax a).vHard → 1 ≤ (s.ax a).vMove → 1 ≤ acVmax (s.ax a).cfg →
    (∀ j, (s.ax j).stops = []) →
    Completes (.stepGeneratorUpdate a) s fun t =>
      (t.ax a).pos = wrap32 ((s.ax a).pos + signOf ((s.ax a).target - (s.ax a).pos)) ∧ (t.ax a).state = .moving ∧
      vget t.margin.a.tap a = wrap32 (vget s.margin.a.tap a + signOf ((s.ax a).target - (s.ax a).pos)) ∧
      vget t.margin.b.tap a = wrap32 (vget s.margin.b.tap a + signOf ((s.ax a).target - (s.ax a).pos)) ∧
      (t.ax a).vSq ≤ (acVmax (s.ax a).cfg) * (acVmax (s.ax a).cfg) ∧ (t.ax a).vSq ≤ (s.ax a).vHard * (s.ax a).vHard ∧
      (∀ j, j ≠ a → t.ax j = s.ax j)) ∧
  (∀ s (a : Fin 8) m, (s.ax a).state = .stopping → s.linear.find? (Linear.has a) = none → (s.ax a).waitRamp = false → (s.ax a).vSq = 0 →
    (s.ax a).stops = [m] → m.rsvd = 0 → (∀ j, j ≠ a → (s.ax j).stops = []) → (s.mbox m.mb).working = 1 → (s.mbox m.mb).discard = 0 →
    Completes (.stepGeneratorUpdate a) s fun t =>
      (t.ax a).state = .idle ∧ (t.ax a).target = (s.ax a).pos ∧ (t.ax a).pos = (s.ax a).pos ∧ (t.ax a).stops = [] ∧
      (t.mbox m.mb).working = 0 ∧ (t.mbox m.mb).done = (s.mbox m.mb).done ++ [okAnswer m 1 0 []]) ∧
  (∀ s (a : Fin 8), s.linear.find? (Linear.has a) = none → (∀ j, (s.ax j).stops = []) → (s.ax a).state = .idle ∨ (s.ax a).state = .disabled ∨ (s.ax a).state = .standstill ∨
    (s.ax a).state = .fault ∨ (s.ax a).waitRamp = true → exec (.stepGeneratorUpdate a) s = .next s) ∧
  (∀ s (a : Fin 8) codes k, s.servingNib 16 = some k → (s.ax a).looping = true → acShunt (s.ax a).cfg ≠ 0 → codes.length = acK (s.ax a).cfg →
    Completes (.coilEvaluation a codes true) s fun t =>
      (t.ax a).coilA.sample = coilSample (s.ax a).cfg (codes.map fun p => p.1) ∧
      (t.ax a).coilB.sample = coilSample (s.ax a).cfg (codes.map fun p => p.2) ∧ (t.ax a).pos = (s.ax a).pos ∧
      (t.ax a).coilA.heldWord.toNat / 2 ^ 60 = s.nibs.writeClaim.toNat ∧ (t.ax a).coilA.heldWord.toNat % 2 ^ 20 = acPeriod (s.ax a).cfg % 2 ^ 20 ∧
      ((t.ax a).state = (s.ax a).state ∨ (t.ax a).state = .fault ∧ (t.ax a).faultCause = 1)) ∧
  (∀ s (a : Fin 8) codes k, s.servingNib 16 = some k → (s.ax a).looping = true → acShunt (s.ax a).cfg ≠ 0 → codes.length = acK (s.ax a).cfg →
    exec (.coilEvaluation a codes false) s = .next (s.nibFault k false)) ∧
  (∀ s (a : Fin 8) sw, ((s.ax a).switch sw).pendingEdge = true → s.ranOut (.switch a sw) = true →
    Completes (.switchDebounced a sw) s fun t =>
      ((t.ax a).switch sw).level = ((s.ax a).switch sw).raw ∧ ((t.ax a).switch sw).pendingEdge = false ∧ (t.ax a).pos = (s.ax a).pos) ∧
  (∀ s (a : Fin 8), (s.ax a).limp.pendingEdge = true → s.ranOut (.switch a .limp) = true → (s.ax a).limp.raw = acLimpPol (s.ax a).cfg → (s.ax a).state = .moving →
    s.linear.any (Linear.has a) = false → (s.ax a).vSq ≠ 0 → 0 < (s.ax a).dir →
    Completes (.switchDebounced a .limp) s fun t =>
      (t.ax a).state = .stopping ∧ (t.ax a).quick = true ∧ s.event 0x0A03 NOTICE a.val (2 ^ 32 * p32 (s.ax a).pos) ∈ t.blot.raised) ∧
  (∀ s (a : Fin 8) sw, ((s.ax a).switch sw).pendingEdge = false ∨ s.ranOut (.switch a sw) = false → exec (.switchDebounced a sw) s = .next s) ∧
  (∀ s (a : Fin 8) sw (l : Bool), ((s.ax a).switch sw).raw ≠ l →
    Completes (.switchRawEdge a sw l) s fun t =>
      ((t.ax a).switch sw).raw = l ∧ ((t.ax a).switch sw).level = ((s.ax a).switch sw).level ∧
      (l ≠ ((s.ax a).switch sw).level → ((t.ax a).switch sw).pendingEdge = true ∧ ((t.ax a).switch sw).edgePos = (s.ax a).pos ∧
        (t.ax a).chatter = (s.ax a).chatter ∧ (Timer.switch a sw, s.now + (s.ax a).debounceOf sw * 25000) ∈ t.timers) ∧
      (l = ((s.ax a).switch sw).level → ((t.ax a).switch sw).pendingEdge = false ∧ (t.ax a).chatter = satAdd (s.ax a).chatter 1) ∧
      (∀ j, j ≠ a → t.ax j = s.ax j)) ∧
  (∀ s (a : Fin 8), acEnc (s.ax a).cfg = false →
    Completes (.encoderEdge a .up) s fun t => (t.ax a).encCount = (s.ax a).encCount + 1 ∧ vget t.margin.a.enc a = vget s.margin.a.enc a + 1 ∧
      vget t.margin.b.enc a = vget s.margin.b.enc a + 1 ∧
      { t.ax a with encCount := (s.ax a).encCount } = s.ax a ∧ (∀ j, j ≠ a → t.ax j = s.ax j)) ∧
  (∀ s (a : Fin 8) h, (s.ax a).homing = some h → h.phase = .toIndex →
    Completes (.encoderEdge a .index) s fun t => (∃ k, (t.ax a).homing = some k ∧ k.origin = some (s.ax a).pos ∧
      k.phase = .final ((s.ax a).limitIn (hmDir h.cmd))) ∧ (t.ax a).pos = (s.ax a).pos ∧ { t with axis := s.axis } = s) ∧
  (∀ s (a : Fin 8), (s.ax a).encWatched = true → acEnc (s.ax a).cfg = true →
    acEncTol (s.ax a).cfg * acCpfs (s.ax a).cfg < ((s.ax a).encErr - 256).natAbs →
    Completes (.encoderEdge a .down) s fun t => (t.ax a).state = .fault ∧ (t.ax a).faultCause = 2 ∧ (t.ax a).homed = false ∧
      s.event 0x0A05 ALARM a.val (2 + 2 ^ 32 * p32 (s.ax a).pos) ∈ t.blot.raised)

/-- The Margin's commands complete (R325 to R330): with the right password SAFE_CFG_LOAD stages a chunk, commits a block that passes SK01 to SK12
(AWAIT_ACCEPT, every output without PERMIT, 0x0B08, a log entry) or sets a password; SAFE_CFG_ACCEPT with the committed CRC enters RUN with every
restart pending; a wrong password is counted and the fifth locks for 600 s; SAFE_STATUS and SAFE_LOG_READ answer; SAFE_RESET clears what has gone.
Completes: safeCfgLoad, safeCfgAccept, safeStatus, safeLogRead, safeReset. -/
def Obligations.MarginCommandsComplete : Prop :=
  (∀ m s pw (n off : Nat), Granted 0x0901 3 m s → m.target = 0 → safeLenOk m = true → safeOp m = 0 →
    NoReserved m [(0, 0xFFFFFE0C), (0x1C, 0xFFFFFFE0)] → s.margin.lockUntil = none → s.margin.password = some pw →
    4 ≤ fieldAt m.params 0 8 4 → fieldAt m.params 0 8 4 ≤ 16 → pwBytes m.params 4 (fieldAt m.params 0 8 4) = pw →
    safeCount m = 4 * n → 1 ≤ n → n ≤ 48 → fieldAt m.params 0x14 15 0 = 4 * off → off + n ≤ 189 →
    Completes (.safeCfgLoad m) s fun t =>
      (∀ i, i < n → (t.margin.staged.find? fun e => e.1 == off + i) = some (off + i, wordAt m.params (0x20 + 4 * i))) ∧
      (∀ j, j < off ∨ off + n ≤ j → (t.margin.staged.find? fun e => e.1 == j) = s.margin.staged.find? fun e => e.1 == j) ∧
      { t.margin with
        staged := s.margin.staged
        fails := s.margin.fails } = s.margin ∧ t.margin.fails = 0 ∧ (Timer.staging, s.now + 60 * second) ∈ t.timers ∧
      ((s.mbox m.mb).discard = 0 → (t.mbox m.mb).done = (s.mbox m.mb).done ++ [okAnswer m s.margin.state.code 0 []])) ∧
  (∀ m s pw c, Granted 0x0901 3 m s → m.target = 0 → safeLenOk m = true → safeOp m = 1 → s.margin.state ≠ .starting →
    s.margin.state ≠ .safeFault → NoReserved m [(0, 0xFFFFFE0C), (0x1C, 0xFFFFFFE0)] → s.margin.lockUntil = none →
    s.margin.password = some pw → 4 ≤ fieldAt m.params 0 8 4 → fieldAt m.params 0 8 4 ≤ 16 →
    pwBytes m.params 4 (fieldAt m.params 0 8 4) = pw → s.margin.stagedBlock = some c → wordAt m.params 0x18 = crcBlock (c.take 188) →
    safeFail 1 (safeChecks c) = none →
    Completes (.safeCfgLoad m) s fun t =>
      t.margin.state = .awaitAccept ∧ t.margin.a.stored = some c ∧ t.margin.b.stored = some c ∧ t.margin.a.cfg = some c ∧
      t.margin.b.cfg = some c ∧ t.margin.committed = some (wordAt c 0x2F0) ∧ t.margin.staged = [] ∧
      t.margin.accepted = s.margin.accepted ∧ t.margin.a.permit = 0 ∧ t.margin.b.permit = 0 ∧ t.margin.logSeq = s.margin.logSeq + 1 ∧
      s.event 0x0B08 NOTICE 0 (wordAt c 0x2F0).toNat ∈ t.blot.raised ∧ t.chan = s.chan ∧ t.axis = s.axis) ∧
  (∀ m s n, Granted 0x0901 3 m s → m.target = 0 → safeLenOk m = true → safeOp m = 2 → s.margin.state ≠ .starting →
    s.margin.state ≠ .safeFault → NoReserved m [(0, 0xFFFFFE0C), (0x1C, 0xFFFFFFE0)] → s.margin.lockUntil = none →
    s.margin.password = none → fieldAt m.params 0 8 4 = 0 → n = fieldAt m.params 0x1C 4 0 → 4 ≤ n → n ≤ 16 →
    Completes (.safeCfgLoad m) s fun t =>
      t.margin.password = some (pwBytes m.params 0x20 n) ∧ t.margin.logSeq = s.margin.logSeq + 1 ∧ t.margin.cfg = s.margin.cfg ∧
      t.margin.state = s.margin.state ∧ t.chan = s.chan) ∧
  (∀ m s pw, Granted 0x0901 3 m s → m.target = 0 → safeLenOk m = true → safeOp m = 0 →
    NoReserved m [(0, 0xFFFFFE0C), (0x1C, 0xFFFFFFE0)] → s.margin.lockUntil = none → s.margin.password = some pw →
    4 ≤ fieldAt m.params 0 8 4 → fieldAt m.params 0 8 4 ≤ 16 → pwBytes m.params 4 (fieldAt m.params 0 8 4) ≠ pw →
    Completes (.safeCfgLoad m) s fun t =>
      t.margin.fails = s.margin.fails + 1 ∧ t.margin.staged = s.margin.staged ∧ t.margin.cfg = s.margin.cfg ∧
      t.margin.lockUntil = (if s.margin.fails + 1 < 5 then none else some (s.now + 600 * 250000000)) ∧
      s.event 0x0B0A NOTICE 0 ((s.margin.fails + 1) % 8) ∈ t.blot.raised ∧
      (5 ≤ s.margin.fails + 1 → s.event 0x0B0B ALARM 0 600 ∈ t.blot.raised) ∧
      ((s.mbox m.mb).discard = 0 → (t.mbox m.mb).done =
        (s.mbox m.mb).done ++ [answerTo m 0x0602 s.margin.state.code (s.margin.fails + 1) []])) ∧
  (∀ m s pw crc, Granted 0x0902 3 m s → m.target = 0 → m.length = 40 → s.margin.state = .awaitAccept → NoReserved m [(0, 0xFFFFFE0F)] →
    s.margin.lockUntil = none → s.margin.password = some pw → 4 ≤ fieldAt m.params 0 8 4 → fieldAt m.params 0 8 4 ≤ 16 →
    pwBytes m.params 4 (fieldAt m.params 0 8 4) = pw → crc = wordAt m.params 0x14 →
    (s.margin.committed = some crc → Completes (.safeCfgAccept m) s fun t =>
      t.margin.state = .run ∧ t.margin.accepted = some crc ∧ t.margin.cfg = s.margin.cfg ∧ s.event 0x0B09 NOTICE 0 crc.toNat ∈ t.blot.raised ∧
      (∀ f : Fin 16, fnKind s.margin.a.conf f.val ≠ 0 → (vget t.margin.a.fns f).inForce = true ∧
        (∀ k, k < 8 → (fnSoMask s.margin.a.conf f.val).testBit k = true → t.margin.a.permit.getLsbD k = false)) ∧
      (∀ f : Fin 16, fnKind s.margin.b.conf f.val ≠ 0 → (vget t.margin.b.fns f).inForce = true ∧
        (∀ k, k < 8 → (fnSoMask s.margin.b.conf f.val).testBit k = true → t.margin.b.permit.getLsbD k = false))) ∧
    (s.margin.committed ≠ some crc → Completes (.safeCfgAccept m) s fun t =>
      t.margin.state = .awaitAccept ∧ t.margin.accepted = s.margin.accepted ∧
      ((s.mbox m.mb).discard = 0 → (t.mbox m.mb).done = (s.mbox m.mb).done ++ [answerTo m 0x0104 2 0x14 []]))) ∧
  (∀ m s, Granted 0x0903 0 m s → m.target = 0 → m.length = 16 →
    CompletesBy (.safeStatus m) 0x0903 m s id s.margin.state.code 0 s.safeStatus) ∧
  (∀ m s, Granted 0x0904 0 m s → m.target = 0 → m.length = 20 → NoReserved m [(0, 0xFFFF0000)] →
    CompletesBy (.safeLogRead m) 0x0904 m s id s.margin.state.code 0 (s.safeLogWords (fieldAt m.params 0 15 0))) ∧
  (∀ m s, Granted 0x0905 1 m s → m.target = 0 → m.length = 16 → s.margin.state = .run →
    Completes (.safeReset m) s fun t =>
      (∀ k : Fin 8, t.margin.soFault.getLsbD k.val = (s.margin.soFault.getLsbD k.val &&
        !(s.soPins k.val == (false, false) && s.margin.fb[k.val]? == some .low))) ∧
      (∀ p : Fin 16, (vget t.margin.a.pairs p).tpFaultA = ((vget s.margin.a.pairs p).tpFaultA && !(vget s.margin.a.pairs p).tpPassA) ∧
        (vget t.margin.a.pairs p).discFault = (vget s.margin.a.pairs p).discFault) ∧
      t.margin.a.fns = s.margin.a.fns ∧ t.margin.b.fns = s.margin.b.fns ∧ t.margin.state = .run ∧
      s.event 0x0B0D INFO 0 t.margin.soFault.toNat ∈ t.blot.raised ∧ t.chan = s.chan)

/-- The Margin's own rows complete (R300 to R303, R307, R308, R311 to R314, R317, R326, R327): a diagnostic failure latches SAFE_FAULT without any
PERMIT; a STOP function demanded by a pair whose filtered pin is low removes the PERMIT of its outputs at the tick; a tick outside RUN permits nothing;
the start-up chooses its state by the CRCs of the copies that both channels have loaded; an off-pulse ends after 200 µs and an output test after
300 µs; a pin that stays high through two off-pulses in a row is a test-pulse fault, and a pulse in which it is not tested ends the run; after
FB_SETTLE a wrong readback is an output fault; the STOP1 timer's end turns the outputs and axes off; staging ends after 60 s. Completes: marginTick,
tickWatchExpiry, safeClockCheck, marginStarted, testPulse, testPulseEnd, testPulseCheck, outputOffPulseTest, switchTestEnd, soFbSettle,
stop1TimerExpiry, safeStagingExpiry. -/
def Obligations.MarginEventsComplete : Prop :=
  (∀ s x y code, s.margin.inReset = false → s.margin.state ≠ .safeFault → (s.margin.read x y).diagCode x y = some code →
    Completes (.marginTick x y) s fun t =>
      t.margin.state = .safeFault ∧ t.margin.intFault = code ∧ t.margin.a.permit = 0 ∧ t.margin.b.permit = 0 ∧
      t.blot.raised = s.blot.raised ++ [s.event 0x0B07 FATAL 0 code] ∧ t.chan = s.chan ∧ t.axis = s.axis) ∧
  (∀ s x y, s.margin.inReset = false → s.margin.state = .unconfigured ∨ s.margin.state = .awaitAccept ∨ s.margin.state = .run →
    (s.margin.read x y).diagCode x y = none →
    Completes (.marginTick x y) s fun t =>
      (t.margin.state = s.margin.state ∨ t.margin.state = .safeFault ∧ t.margin.intFault = 1) ∧ t.margin.cfg = s.margin.cfg ∧
      t.margin.accepted = s.margin.accepted ∧ (t.margin.state ≠ .run → t.margin.a.permit = 0 ∧ t.margin.b.permit = 0)) ∧
  (∀ s x y (f p : Fin 16) c, s.margin.inReset = false → s.margin.state = .run → (s.margin.read x y).diagCode x y = none →
    (s.margin.read x y).a.conf = c → (s.margin.read x y).b.conf = c →
    fnKind c f.val = 1 → fnStop1 c f.val = false → (fnInMask c f.val).testBit p.val = true → prType c p.val = 1 →
    (s.margin.read x y).a.si.getLsbD (2 * p.val) = false → (s.margin.read x y).b.si.getLsbD (2 * p.val) = false →
    (vget s.margin.a.fns f).inForce = false → (vget s.margin.b.fns f).inForce = false →
    Completes (.marginTick x y) s fun t =>
      (vget t.margin.a.fns f).inForce = true ∧ (vget t.margin.b.fns f).inForce = true ∧
      (∀ k, k < 8 → (fnSoMask c f.val).testBit k = true →
        t.margin.a.permit.getLsbD k = false ∧ t.margin.b.permit.getLsbD k = false ∧ t.soPins k = (false, false)) ∧
      ((vget s.margin.a.fns f).violated = false → (vget s.margin.b.fns f).violated = false →
        ∃ e ∈ t.blot.raised, e = s.event 0x0B01 NOTICE f.val (2 ^ 8 * fnSoMask c f.val) ∨
        ∃ v, e = s.event 0x0B02 ALARM f.val v)) ∧
  (∀ s x y, s.margin.inReset = true ∨ s.margin.state = .safeFault → exec (.marginTick x y) s = .next s) ∧
  (∀ s, s.margin.inReset = false → s.margin.state ≠ .safeFault →
    (Completes .tickWatchExpiry s fun t => t.margin.state = .safeFault ∧ t.margin.intFault = 2 ∧ t.margin.a.permit = 0 ∧ t.margin.b.permit = 0) ∧
    (Completes (.safeClockCheck false) s fun t =>
      t.margin.state = .safeFault ∧ t.margin.intFault = 3 ∧ t.margin.a.permit = 0 ∧ t.margin.b.permit = 0) ∧
    exec (.safeClockCheck true) s = .next s) ∧
  (∀ s, s.margin.inReset = false → s.margin.state = .starting →
    (s.margin.storedCrc = none → Completes .marginStarted s fun t => t.margin.state = .unconfigured) ∧
    (∀ crc, s.margin.storedCrc = some crc →
      (s.margin.committed = some crc → Completes .marginStarted s fun t => t.margin.state = .awaitAccept) ∧
      (s.margin.committed ≠ some crc → s.margin.accepted = some crc → Completes .marginStarted s fun t =>
        t.margin.state = .run ∧ (∀ f : Fin 16, fnKind s.margin.conf f.val ≠ 0 → (vget t.margin.a.fns f).powerOff = true)) ∧
      (s.margin.committed ≠ some crc → s.margin.accepted ≠ some crc → Completes .marginStarted s fun t => t.margin.state = .unconfigured))) ∧
  (∀ s (k : Fin 4),
    (Completes (.testPulse k) s fun t => t.margin.tpOff.getLsbD k.val = true ∧ (Timer.testPulse k, s.now + 200 * microsecond) ∈ t.timers ∧
      { t.margin with tpOff := s.margin.tpOff } = s.margin ∧ { t with
        margin := s.margin
        timers := s.timers } = s) ∧
    (s.ranOut (.testPulse k) = false → exec (.testPulseEnd k) s = .next s) ∧
    (s.ranOut (.testPulse k) = true → Completes (.testPulseEnd k) s fun t => t.margin.tpOff.getLsbD k.val = false ∧ { t with margin := s.margin } = s ∧
      { t.margin with tpOff := s.margin.tpOff } = s.margin)) ∧
  (∀ s (k : Fin 4) bf du af (p : Fin 16), s.margin.inReset = false → s.margin.state ≠ .starting → s.margin.state ≠ .safeFault →
    prType s.margin.conf p.val ≠ 0 → prTest s.margin.conf p.val false = true → prSource s.margin.conf p.val false = k.val →
    bf.getLsbD (2 * p.val) = true → du.getLsbD (2 * p.val) = true →
    Completes (.testPulseCheck k bf du af) s fun t =>
      (vget t.margin.a.pairs p).tpFailA = (vget s.margin.a.pairs p).tpFailA + 1 ∧
      ((vget s.margin.a.pairs p).tpFailA = 1 → (vget t.margin.a.pairs p).tpFaultA = true) ∧
      ((vget s.margin.a.pairs p).tpFailA = 0 → (vget t.margin.a.pairs p).tpFaultA = (vget s.margin.a.pairs p).tpFaultA) ∧
      t.margin.a.fns = s.margin.a.fns ∧ t.margin.state = s.margin.state ∧ t.chan = s.chan) ∧
  (∀ s (k : Fin 4) bf du af (p : Fin 16), s.margin.inReset = false → s.margin.state ≠ .starting → s.margin.state ≠ .safeFault →
    prType s.margin.conf p.val ≠ 0 → prTest s.margin.conf p.val false = true → prSource s.margin.conf p.val false = k.val →
    bf.getLsbD (2 * p.val) = false →
    Completes (.testPulseCheck k bf du af) s fun t =>
      (vget t.margin.a.pairs p).tpFailA = 0 ∧ (vget t.margin.b.pairs p).tpFailA = 0 ∧
      (vget t.margin.a.pairs p).tpFaultA = (vget s.margin.a.pairs p).tpFaultA) ∧
  (∀ s (k : Fin 8) (low : Bool), s.margin.state = .run → outTest s.margin.conf k.val = true → s.soPins k.val = (true, true) →
    s.margin.reactsOn k.val = false →
    Completes (.outputOffPulseTest k low) s fun t =>
      t.soPins k.val = (low, !low) ∧ t.margin.settling.getLsbD k.val = true ∧ t.margin.soFault = s.margin.soFault ∧
      t.margin.a = s.margin.a ∧ t.margin.b = s.margin.b ∧ (Timer.switchTest k.val low, s.now + 300 * microsecond) ∈ t.timers ∧ { t with
        margin := s.margin
        timers := s.timers } = s) ∧
  (∀ s (k : Fin 8) (low : Bool), s.margin.reactsOn k.val = true ∨ s.soPins k.val ≠ (true, true) →
    exec (.outputOffPulseTest k low) s = .next s) ∧
  (∀ s (k : Fin 8) (low : Bool), s.ranOut (.switchTest k.val low) = false → exec (.switchTestEnd k low) s = .next s) ∧
  (∀ s (k : Fin 8) (low : Bool), s.ranOut (.switchTest k.val low) = true → Completes (.switchTestEnd k low) s fun t =>
    (if low = true then t.margin.testLow else t.margin.testHigh).getLsbD k.val = false ∧ t.margin.a = s.margin.a ∧ t.margin.b = s.margin.b ∧
    { t with
      margin := s.margin
      timers := s.timers } = s) ∧
  (∀ s (k : Fin 8) band, s.ranOut (.fbSettle k.val) = false → exec (.soFbSettle k band) s = .next s) ∧
  (∀ s (k : Fin 8) band, s.ranOut (.fbSettle k.val) = true → s.margin.inReset = false → s.margin.state = .unconfigured ∨ s.margin.state = .awaitAccept ∨ s.margin.state = .run →
    outUsed s.margin.conf k.val = true → s.margin.soFault.getLsbD k.val = false →
    (band = expectedBand (s.soPins k.val) → Completes (.soFbSettle k band) s fun t =>
      t.margin.soFault = s.margin.soFault ∧ t.margin.settling.getLsbD k.val = false ∧ t.blot = s.blot) ∧
    (band ≠ expectedBand (s.soPins k.val) → Completes (.soFbSettle k band) s fun t =>
      t.margin.soFault.getLsbD k.val = true ∧ t.soPins k.val = (false, false) ∧
      t.blot.raised = s.blot.raised ++ [s.event 0x0B05 ALARM k.val (bandCode band + 4 * bandCode (expectedBand (s.soPins k.val)))])) ∧
  (∀ s (f : Fin 16), s.margin.fnAny FnSt.timer f.val = true → s.ranOut (.stop1 f.val) = true →
    Completes (.stop1TimerExpiry f) s fun t =>
      (vget t.margin.a.fns f).timer = false ∧ (vget t.margin.b.fns f).timer = false ∧
      (∀ k, k < 8 → (fnSoMask s.margin.conf f.val).testBit k = true → (t.soPins k).1 = true → (vget s.margin.a.fns f).timer = false) ∧
      (∀ a : Fin 8, (fnAxMask s.margin.conf f.val).testBit a.val = true → (s.ax a).state ≠ .disabled → (s.ax a).state ≠ .fault →
        (t.ax a).state = .standstill ∧ (t.ax a).ssMode = 1)) ∧
  (∀ s (f : Fin 16), s.margin.fnAny FnSt.timer f.val = false ∨ s.ranOut (.stop1 f.val) = false → exec (.stop1TimerExpiry f) s = .next s) ∧
  (∀ s, s.ranOut .staging = true → exec .safeStagingExpiry s = .next { s with margin := { s.margin with staged := [] } }) ∧
  (∀ s, s.ranOut .staging = false → exec .safeStagingExpiry s = .next s)

/-- The fabric's links and its received frames of a bad header (R379 to R382, R384, R386, R388, R391, R397): a port with block lock sends a HELLO
every 100 ms and takes its peer's; lock, no hi_ber and a HELLO of the last 300 ms bring it UP (0x0D01), usable as PRIM after 1 s; the loss of
lock, hi_ber or silence takes it DOWN with its queues dropped, its switch-over counted and 0x0D02 and 0x0D03 raised; another UID with the
device's address raises 0x0D05; a bad header CRC only counts, and a frame of another EtherType does nothing. Completes: helloSend,
helloReceive, blockLockGained, linkUp, primHoldEnd, linkDown, peerSilent. -/
def Obligations.FabricLinks : Prop :=
  (∀ s (p : Fin 4), (s.port p).lock = true → due (s.port p).helloAt (100 * millisecond) s.now = true →
    Room s p (s.ownFrame 1 0xFFFF#16 false false (s.helloWords p) 12) →
    Completes (.helloSend p) s fun t =>
      Queued s t p (s.ownFrame 1 0xFFFF#16 false false (s.helloWords p) 12) ∧ (t.port p).helloAt = some s.now ∧
      t.fab.fseq = s.fab.fseq + 1 ∧ (∀ q, q ≠ p → t.port q = s.port q) ∧ { t with fab := s.fab } = s) ∧
  (∀ s (p : Fin 4), (s.port p).lock = false ∨ due (s.port p).helloAt (100 * millisecond) s.now = false →
    exec (.helloSend p) s = .next s) ∧
  (∀ s (p : Fin 4) f, FrameOk s f → f.typ = 1 → f.len = 12 →
    Completes (.helloReceive p f) s fun t =>
      (t.port p).heard = some s.now ∧ (t.port p).peer.toNat = fieldAt f.payload 8 15 0 ∧ (t.port p).peerUid.toNat = natAt64 f.payload 0 ∧
      (t.port p).rx = satAdd (s.port p).rx 1 ∧ (t.port p).up = (s.port p).up ∧ t.fab.addr = s.fab.addr ∧ t.chan = s.chan ∧
      (fieldAt f.payload 8 15 0 = s.fab.addr.toNat → s.fab.addr ≠ 0 → natAt64 f.payload 0 ≠ Config.uid.toNat →
        s.event 0x0D05 ALARM 0 (natAt64 f.payload 0) ∈ t.blot.raised)) ∧
  (∀ s (p : Fin 4), exec (.blockLockGained p) s = .next (s.updPort p fun q => { q with
      lock := true
      helloAt := if q.lock = true then q.helloAt else none })) ∧
  (∀ s (p : Fin 4), (s.port p).lock = true → (s.port p).hears s.now = true → (s.port p).up = false →
    Completes (.linkUp p) s fun t =>
      (t.port p).up = true ∧ (t.port p).usable = false ∧ (t.port p).hiBer = false ∧ (t.port p).upAt = s.now ∧
      (∀ q, q ≠ p → (t.port q).up = (s.port q).up ∧ (t.port q).lock = (s.port q).lock) ∧
      s.event 0x0D01 INFO p.val ((s.port p).peer.toNat + 2 ^ 16 * b2n (s.fecOn p)) ∈ t.blot.raised ∧ t.chan = s.chan) ∧
  (∀ s (p : Fin 4), (s.port p).lock = false ∨ (s.port p).hears s.now = false ∨ (s.port p).up = true → exec (.linkUp p) s = .next s) ∧
  (∀ s (p : Fin 4), (s.port p).up = true → (s.port p).upAt + second ≤ s.now →
    exec (.primHoldEnd p) s = .next (s.updPort p fun q => { q with usable := true })) ∧
  (∀ s (p : Fin 4), (s.port p).up = false ∨ s.now < (s.port p).upAt + second → exec (.primHoldEnd p) s = .next s) ∧
  (∀ s (p : Fin 4), (s.port p).up = true →
    (∀ h : Bool, Completes (.linkDown (if h then .hiBer p else .lock p)) s fun t =>
      (t.port p).lock = ((s.port p).lock && h) ∧ (t.port p).hiBer = ((s.port p).lock && h) ∧ (t.port p).up = false ∧
      (t.port p).usable = false ∧ (t.port p).q0 = [] ∧ (t.port p).q1 = [] ∧ (t.port p).q2 = [] ∧
      (t.port p).switchovers = satAdd (s.port p).switchovers 1 ∧
      s.event 0x0D02 NOTICE p.val 0 ∈ t.blot.raised ∧ s.event 0x0D03 NOTICE p.val (satAdd (s.port p).switchovers 1) ∈ t.blot.raised) ∧
    ((s.port p).hears s.now = false → Completes (.peerSilent p) s fun t =>
      (t.port p).lock = (s.port p).lock ∧ (t.port p).up = false ∧ (t.port p).usable = false ∧
      (t.port p).q0 = [] ∧ (t.port p).q1 = [] ∧ (t.port p).q2 = [] ∧ (t.port p).switchovers = satAdd (s.port p).switchovers 1 ∧
      s.event 0x0D02 NOTICE p.val 1 ∈ t.blot.raised)) ∧
  (∀ s (p : Fin 4) (h : Bool), (s.port p).up = false →
    exec (.linkDown (if h then .hiBer p else .lock p)) s = .next (s.updPort p fun q => { q with
      lock := q.lock && h
      hiBer := q.lock && h })) ∧
  (∀ s (p : Fin 4), (s.port p).up = false ∨ (s.port p).hears s.now = true → exec (.peerSilent p) s = .next s) ∧
  (∀ s (p : Fin 4) f, ∀ i ∈ ([.helloReceive p f, .frameForward p f, .discoverRequest p f, .discoverReply p f, .assignUid p f,
      .assignRing p f, .windowRead p f, .windowWrite p f, .windowReset p f, .mailboxCommand p f, .mailboxAck p f, .syncFrame p f,
      .noticeReceive p f] : List Instr),
    (f.etherType ≠ s.folio.etherType → exec i s = .next s) ∧
    (f.etherType = s.folio.etherType → f.fcs = .good → frameBytes f ≤ 1518 → f.hcrcOk = false →
      exec i s = .next (s.updPort p fun q => { q with crcErr := satAdd q.crcErr 1 })))

/-- The fabric commands complete (R372, R383, R389 to R391): FAB_DISCOVER answers the results, or starts a discovery with the next DISC_ID and floods
its REQUEST on the ports chosen; FAB_ADDR_SET takes an address, or holds its mailbox until the assignment's REPLY or 1,000 ms; FAB_ROUTE_LOAD
changes the entries it names and keeps the table; FAB_STATUS answers. Completes: fabDiscover, discoveryDone, fabAddrSet, fabAssignTimeout,
fabRouteLoad, fabStatus. -/
def Obligations.FabricCommandsComplete : Prop :=
  -- fabDiscover: results, a new discovery, a refusal
  (∀ m s, Granted 0x0A01 2 m s → m.target = 0 → m.length = 24 → NoReserved m [(0, 0xFFFFFEF0)] → bitAt m.params 0 8 = true →
    CompletesBy (.fabDiscover m) 0x0A01 m s id 0 0 (s.discPayload (natAt m.params 4))) ∧
  (∀ m s, Granted 0x0A01 2 m s → m.target = 0 → m.length = 24 → NoReserved m [(0, 0xFFFFFEF0)] → bitAt m.params 0 8 = false →
    s.fab.discRun = false →
    Completes (.fabDiscover m) s fun t =>
      t.fab.discRun = true ∧ t.fab.discNow = s.fab.discId + 1 ∧ t.fab.discId = s.fab.discId + 1 ∧ t.fab.discDone = false ∧
      t.fab.found = 0 ∧ t.fab.results = [] ∧ t.fab.fseq = s.fab.fseq + 1 ∧ t.chan = s.chan ∧
      (∀ q : Fin 4, ((s.port q).up = true ∧ (fieldAt m.params 0 3 0).testBit q.val = true →
          Room s q (s.ownFrame 2 0xFFFF#16 false false (discWords (s.fab.discId + 1) 0 Config.uid 0 0 s.fab.addr) 28) →
          Queued s t q (s.ownFrame 2 0xFFFF#16 false false (discWords (s.fab.discId + 1) 0 Config.uid 0 0 s.fab.addr) 28)) ∧
        ((s.port q).up = false ∨ (fieldAt m.params 0 3 0).testBit q.val = false → t.port q = s.port q))) ∧
  (∀ m s, Granted 0x0A01 2 m s → m.target = 0 → m.length = 24 → bitAt m.params 0 8 = false → s.fab.discRun = true →
    exec (.fabDiscover m) s = .next ((s.takeOff 0x0A01 m).respond m.mb (answerTo m 0x0201 0 1 []))) ∧
  -- discoveryDone
  (∀ s, s.fab.discRun = true → s.fab.discLast + 500 * millisecond ≤ s.now ∨ s.fab.discStart + 5 * second ≤ s.now →
    exec .discoveryDone s = .next { s with
      fab := { s.fab with
        discRun := false
        discDone := true } }) ∧
  (∀ s, s.fab.discRun = false ∨ (s.now < s.fab.discLast + 500 * millisecond ∧ s.now < s.fab.discStart + 5 * second) →
    exec .discoveryDone s = .next s) ∧
  -- fabAddrSet: the own address, another device's, a ring's
  (∀ m s (a : BitVec 16), Granted 0x0A02 2 m s → m.target = 0 → m.length = 32 → NoReserved m [(0, 0x0000FFFC)] →
    a.toNat = fieldAt m.params 0 31 16 → 1 ≤ a.toNat → a.toNat ≤ 0x0FFF → fieldAt m.params 0 1 0 = 0 →
    BitVec.ofNat 64 (natAt64 m.params 4) = Config.uid →
    Completes (.fabAddrSet m) s fun t => t.fab.addr = a ∧ t.vel.fabAddr = a ∧ t.fab.routes = s.fab.routes ∧
      s.event 0x0D04 NOTICE 0 (a.toNat + 2 ^ 16 * s.fab.addr.toNat) ∈ t.blot.raised ∧ t.chan = s.chan) ∧
  (∀ m s (a : BitVec 16), Granted 0x0A02 2 m s → m.target = 0 → m.length = 32 → NoReserved m [(0, 0x0000FFFC)] →
    a.toNat = fieldAt m.params 0 31 16 → 1 ≤ a.toNat → a.toNat ≤ 0x0FFF → fieldAt m.params 0 1 0 = 0 →
    BitVec.ofNat 64 (natAt64 m.params 4) ≠ Config.uid →
    Completes (.fabAddrSet m) s fun t =>
      t.fab.addr = s.fab.addr ∧ (t.mbox m.mb).working = (s.mbox m.mb).working + 1 ∧ (t.mbox m.mb).done = (s.mbox m.mb).done ∧
      (∃ x, t.fab.assigns = s.fab.assigns ++ [x] ∧ x.mb = m.mb ∧ x.tag = m.tag ∧ x.ring = false ∧ x.since = s.now ∧
        x.uid = BitVec.ofNat 64 (natAt64 m.params 4) ∧ x.id = s.fab.discId + 1) ∧
      (∀ q : Fin 4, (s.port q).up = true →
        Room s q (s.ownFrame 2 0xFFFF#16 false false (discWords (s.fab.discId + 1) 2 Config.uid (BitVec.ofNat 64 (natAt64 m.params 4)) 0 a) 28) →
        Queued s t q (s.ownFrame 2 0xFFFF#16 false false
          (discWords (s.fab.discId + 1) 2 Config.uid (BitVec.ofNat 64 (natAt64 m.params 4)) 0 a) 28))) ∧
  (∀ m s (a : BitVec 16), Granted 0x0A02 2 m s → m.target = 0 → m.length = 32 → NoReserved m [(0, 0x0000FFFC)] →
    a.toNat = fieldAt m.params 0 31 16 → 1 ≤ a.toNat → a.toNat ≤ 0x0FFF → fieldAt m.params 0 1 0 = 1 → fieldAt m.params 0xC 3 0 < 2 →
    Completes (.fabAddrSet m) s fun t =>
      t.fab.addr = a ∧ t.vel.fabAddr = a ∧ (t.mbox m.mb).working = (s.mbox m.mb).working + 1 ∧
      (∃ x, t.fab.assigns = s.fab.assigns ++ [x] ∧ x.mb = m.mb ∧ x.ring = true ∧ x.since = s.now ∧ x.id = s.fab.discId + 1)) ∧
  -- fabAssignTimeout
  (∀ s a l, s.fab.assigns = a :: l → a.since + second ≤ s.now → (s.mbox a.mb).working ≠ 0 → (s.mbox a.mb).discard = 0 →
    Completes .fabAssignTimeout s fun t =>
      t.fab.assigns = l ∧ (t.mbox a.mb).working = (s.mbox a.mb).working - 1 ∧
      ∃ r, (t.mbox a.mb).done = (s.mbox a.mb).done ++ [r] ∧ r.tag = a.tag ∧ r.status = 0x0702 ∧ r.detail = 1000) ∧
  (∀ s, (∀ a l, s.fab.assigns = a :: l → s.now < a.since + second) → exec .fabAssignTimeout s = .next s) ∧
  -- fabRouteLoad
  (∀ m s (n first : Nat), Granted 0x0A03 2 m s → m.target = 0 → n = fieldAt m.params 0 23 16 → first = fieldAt m.params 0 15 0 →
    1 ≤ n → n ≤ 28 → m.length.toNat = 20 + 8 * n → NoReserved m [(0, 0xFF000000)] → first + n ≤ 4096 →
    Completes (.fabRouteLoad m) s fun t =>
      t.fab.loaded = true ∧ t.vel.fabRoutes = t.fab.routes ∧ t.fab.addr = s.fab.addr ∧ t.chan = s.chan ∧
      (∀ i, i < first ∨ first + n ≤ i → (t.fab.routes.find? fun e => e.1 == i) = s.fab.routes.find? fun e => e.1 == i) ∧
      (∀ e, e < n → (t.fab.routes.find? fun x => x.1 == first + e) =
        if bitAt m.params (8 + 8 * e) 8 = true then
          some (first + e, {
            dest := BitVec.ofNat 16 (natAt m.params (4 + 8 * e))
            prim := fieldAt m.params (8 + 8 * e) 3 0
            alt := fieldAt m.params (8 + 8 * e) 7 4 })
        else none)) ∧
  -- fabStatus
  (∀ m s, Granted 0x0A04 0 m s → m.target = 0 → m.length = 16 → CompletesBy (.fabStatus m) 0x0A04 m s id 0 0 s.fabWords)

/-- Received frames act (R381 to R387, R389 to R398): a unicast frame leaves by its route with one hop more and its HCRC anew, a flood on the
other ports that are UP; a REQUEST is answered with a REPLY on its port, which is recorded; a REPLY joins the results or goes back; ASSIGN_UID
and ASSIGN_RING give addresses; WINDOW reads, writes and resets; a COMMAND enters the ring once and is acknowledged; an ACK frees
responses, a silence of 20 ms resends; SYNC and NOTICE frames are kept and deduplicated. Completes: frameForward, discoverRequest,
discoverReply, assignUid, assignRing, windowRead, windowWrite, windowReset, mailboxCommand, mailboxAck, mailboxResponseResend, syncFrame,
syncEntryExpiry, noticeReceive. -/
def Obligations.FabricFrames : Prop :=
  -- frameForward: by route, past its hops, flood
  (∀ s (p q : Fin 4) f, FrameOk s f → f.typ ≠ 1 → f.dst.toNat < 0xFF00 → f.dst ≠ s.fab.addr → f.hops < f.hopLimit →
    s.routePort f.dst (some p) = some q → Room s q f →
    Completes (.frameForward p f) s fun t => Queued s t q (hop f) ∧ (hop f).hops = f.hops + 1 ∧ (hop f).hcrcOk = true ∧
      (t.port p).rx = satAdd (s.port p).rx 1 ∧ t.blot = s.blot ∧ t.chan = s.chan) ∧
  (∀ s (p : Fin 4) f, FrameOk s f → f.dst.toNat < 0xFF00 → f.dst ≠ s.fab.addr → f.hopLimit ≤ f.hops ∨ f.typ = 1 →
    exec (.frameForward p f) s = .next (counted p s)) ∧
  (∀ s (p q : Fin 4) f, FrameOk s f → f.dst = 0xFFFF → neverSpread f.typ = false → s.seenFlood f = false → f.hops < f.hopLimit →
    q ≠ p → (s.port q).up = true → Room s q f →
    Completes (.frameForward p f) s fun t => Queued s t q (hop f) ∧ t.chan = s.chan) ∧
  -- discoverRequest
  (∀ s (p : Fin 4) f, FrameOk s f → isDisc 0 f = true → f.dst = 0xFFFF → s.seenFlood f = false → dcOrigin f ≠ Config.uid → s.control = true →
    Room s p f →
    Completes (.discoverRequest p f) s fun t =>
      Queued s t p (s.ownFrame 2 f.src true false (discWords (dcId f) 1 (dcOrigin f) Config.uid (f.hops + 1) s.fab.addr) 28) ∧
      (dcOrigin f, dcId f, p, s.now) ∈ t.fab.recorded ∧ t.fab.addr = s.fab.addr ∧ t.chan = s.chan) ∧
  (∀ s (p : Fin 4) f, FrameOk s f → isDisc 0 f = true → f.dst = 0xFFFF → s.seenFlood f = true →
    exec (.discoverRequest p f) s = .next (counted p s)) ∧
  -- discoverReply: at its origin, on its way
  (∀ s (p : Fin 4) f, FrameOk s f → isDisc 1 f = true → dcOrigin f = Config.uid → s.control = true → s.fab.discRun = true →
    dcId f = s.fab.discNow → dcAddr f ≠ s.fab.addr → s.fab.results.length < 4096 →
    Completes (.discoverReply p f) s fun t =>
      t.fab.found = s.fab.found + 1 ∧ t.fab.results = s.fab.results ++ [(dcUid f, dcAddr f, dcHops f, p.val)] ∧ t.chan = s.chan) ∧
  (∀ s (p q : Fin 4) f c, FrameOk s f → isDisc 1 f = true → dcOrigin f ≠ Config.uid → dcAddr f ≠ s.fab.addr →
    s.fab.recorded = [(dcOrigin f, dcId f, q, c)] → s.now < c + 10 * second → f.hops < f.hopLimit → Room s q f →
    Completes (.discoverReply p f) s fun t => Queued s t q (hop f) ∧ t.fab.results = s.fab.results) ∧
  -- assignUid: this device's, another's
  (∀ s (p : Fin 4) f, FrameOk s f → isDisc 2 f = true → f.dst = 0xFFFF → s.seenFlood f = false → dcUid f = Config.uid → s.control = true →
    1 ≤ (dcAddr f).toNat → (dcAddr f).toNat ≤ 0x0FFF → Room s p f →
    Completes (.assignUid p f) s fun t =>
      t.fab.addr = dcAddr f ∧ t.vel.fabAddr = dcAddr f ∧
      Queued s t p ({ s.ownFrame 2 f.src true false (discWords (dcId f) 1 (dcOrigin f) Config.uid (f.hops + 1) (dcAddr f)) 28 with
        src := dcAddr f } : Frame).seal) ∧
  (∀ s (p : Fin 4) f, FrameOk s f → isDisc 2 f = true → f.dst = 0xFFFF → dcUid f ≠ Config.uid →
    Completes (.assignUid p f) s fun t => t.fab.addr = s.fab.addr ∧ t.vel.fabAddr = s.vel.fabAddr) ∧
  -- assignRing
  (∀ s (p : Fin 4) f, FrameOk s f → isDisc 3 f = true → p.val < 2 → s.control = true → dcOrigin f ≠ Config.uid → 1 ≤ (dcAddr f).toNat →
    (dcAddr f).toNat ≤ 0x0FFF →
    Completes (.assignRing p f) s fun t =>
      t.fab.addr = dcAddr f ∧ t.vel.fabAddr = dcAddr f ∧
      ((dcAddr f).toNat < 0x0FFF → Room s (if p = 0 then 1 else 0) f →
        ∃ g, Queued s t (if p = 0 then 1 else 0) g ∧ g.typ = 2 ∧
          g.payload = discWords (dcId f) 3 (dcOrigin f) 0 0 (dcAddr f + 1))) ∧
  -- windowRead
  (∀ s (p q : Fin 4) f, FrameOk s f → s.forMe 3 f = true → wiOp f = 0 → wiOk f 8 = true →
    (∀ i, i < wiCount f → wiReach (wiBar4 f) (wiOff f + 4 * i) = true) →
    (s.routePort f.src none = some q ∨ s.routePort f.src none = none ∧ q = p) → (s.port q).waiting 1 + 34 + max 30 (12 + 4 * wiCount f) ≤ 32768 →
    Completes (.windowRead p f) s fun t => ∃ data : Block,
      data = ((counted p s).windowWords f.src (wiBar4 f) (wiCount f) (wiOff f) []).1 ∧ data.length = wiCount f ∧
      Queued s t q (s.ownFrame 3 f.src true false ([wordAt f.payload 0, f.fseq, 0] ++ data) (12 + 4 * data.length))) ∧
  -- windowWrite: carried out, refused
  (∀ s (p q : Fin 4) f fail st u, FrameOk s f → s.forMe 3 f = true → wiOp f = 1 → wiOk f (8 + 4 * wiCount f) = true →
    (counted p s).windowPut f.src (wiBar4 f) 0 (wiOff f) ((f.payload.drop 2).take (wiCount f)) = (fail, st, u) →
    (u.routePort f.src none = some q ∨ u.routePort f.src none = none ∧ q = p) → (u.port q).waiting 1 + 64 ≤ 32768 →
    Completes (.windowWrite p f) s fun t =>
      Queued u t q (u.ownFrame 3 f.src true (st != 0) [wordAt f.payload 0, f.fseq, w32 (fail * 2 ^ 16 + st)] 12) ∧
      { t with fab := u.fab } = u) ∧
  (∀ s (p : Fin 4) f, FrameOk s f → s.forMe 3 f = true → wiOp f = 1 → wiOk f (8 + 4 * wiCount f) = true → s.host.winWrites f.src = false →
    wiReach (wiBar4 f) (wiOff f) = true →
    Completes (.windowWrite p f) s fun t =>
      t.host = { s.host with accessErr := satAdd s.host.accessErr 1 } ∧ t.rings = s.rings ∧ t.blot.raised.length ≤ s.blot.raised.length + 1) ∧
  -- windowReset: a wrong key, reach F, reach C
  (∀ s (p : Fin 4) f, FrameOk s f → s.forMe 3 f = true → wiOp f = 2 →
    BitVec.ofNat 128 (natAt64 f.payload 8 + 2 ^ 64 * natAt64 f.payload 0x10) ≠ Config.deviceKey →
    exec (.windowReset p f) s = .next ((counted p s).raise 0x0D06 ALARM 0 f.src.toNat)) ∧
  (∀ s (p : Fin 4) f, FrameOk s f → s.forMe 3 f = true → wiOp f = 2 → f.len = 24 →
    BitVec.ofNat 128 (natAt64 f.payload 8 + 2 ^ 64 * natAt64 f.payload 0x10) = Config.deviceKey →
    (wiOff f % 4 = 1 → Completes (.windowReset p f) s fun t => bit t.host.resetCause 13 = true) ∧
    (wiOff f % 4 = 2 → Completes (.windowReset p f) s fun t => bit t.host.resetCause 12 = true)) ∧
  -- mailboxCommand: a duplicate, a new command, another source
  (∀ s (p q : Fin 4) f, FrameOk s f → s.forMe 4 f = true → mfKind f = 0 → f.len = 272 → s.folio.mbReady = true → s.folio.loader = none →
    bit (s.mbox (mfBox f)).cfg 0 = true → bits (s.mbox (mfBox f)).cfg 31 16 = f.src.toNat →
    (s.mbox (mfBox f)).lastFseq = some (f.src, f.fseq) → (s.mbox (mfBox f)).lastPort ≠ none →
    (s.routePort f.src none = some q ∨ s.routePort f.src none = none ∧ q = ((s.mbox (mfBox f)).lastPort.getD p)) →
    (s.port q).waiting 1 + 64 ≤ 32768 →
    Completes (.mailboxCommand p f) s fun t => t.rings = s.rings ∧ t.host = s.host ∧
      Queued s t q (s.ownFrame 4 f.src true false (mailboxHead (mfBox f) 2 f.fseq 2) 16)) ∧
  (∀ s (p : Fin 4) f, FrameOk s f → s.forMe 4 f = true → mfKind f = 0 → f.len = 272 → s.folio.mbReady = true → s.folio.loader = none →
    bit (s.mbox (mfBox f)).cfg 0 = true → bits (s.mbox (mfBox f)).cfg 31 16 = f.src.toNat →
    (s.mbox (mfBox f)).lastFseq ≠ some (f.src, f.fseq) → diff16 (s.mbox (mfBox f)).cmdTail (s.mbox (mfBox f)).cmdHead < 32 →
    Completes (.mailboxCommand p f) s fun t =>
      t.rings = memWriteBytes (cmdSlot (mfBox f) (s.mbox (mfBox f)).cmdTail) (blockBytes (blockFit 64 (f.payload.drop 4))) s.rings ∧
      (t.mbox (mfBox f)).cmdTail = (s.mbox (mfBox f)).cmdTail + 1 ∧ (t.mbox (mfBox f)).lastFseq = some (f.src, f.fseq) ∧
      (t.mbox (mfBox f)).lastPort = some p ∧ (∀ j, j ≠ mfBox f → t.mbox j = s.mbox j)) ∧
  (∀ s (p : Fin 4) f, FrameOk s f → s.forMe 4 f = true → mfKind f = 0 → f.len = 272 → s.folio.mbReady = true → s.folio.loader = none →
    bit (s.mbox (mfBox f)).cfg 0 = false ∨ bits (s.mbox (mfBox f)).cfg 31 16 ≠ f.src.toNat →
    exec (.mailboxCommand p f) s = .next ((counted p s).raise 0x0C0A NOTICE (mfBox f).val f.src.toNat)) ∧
  -- mailboxAck
  (∀ s (p : Fin 4) f e l, FrameOk s f → f.typ = 4 → f.dst = s.fab.addr → f.dst ≠ 0 → mfKind f = 2 → f.len = 16 →
    bit (s.mbox (mfBox f)).cfg 0 = true → bits (s.mbox (mfBox f)).cfg 31 16 = f.src.toNat →
    (s.mbox (mfBox f)).unacked = e :: l → e.fseq = wordAt f.payload 4 → (∀ x ∈ l, x.ended = false ∧ x.fseq ≠ wordAt f.payload 4) →
    Completes (.mailboxAck p f) s fun t =>
      (t.mbox (mfBox f)).rspHead = (s.mbox (mfBox f)).rspHead + 1 ∧ (t.mbox (mfBox f)).unacked = l ∧
      (∀ j, j ≠ mfBox f → t.mbox j = s.mbox j)) ∧
  -- mailboxResponseResend: given up, sent again, not due
  (∀ s (k : Fin 8) e, (s.mbox k).unacked = [e] → e.ended = false → e.at_ + 20 * millisecond ≤ s.now → 5 ≤ e.sends →
    Completes (.mailboxResponseResend k) s fun t =>
      (t.mbox k).lost = satAdd (s.mbox k).lost 1 ∧ (t.mbox k).rspHead = (s.mbox k).rspHead + 1 ∧ (t.mbox k).unacked = [] ∧
      s.event 0x0C06 NOTICE k.val (satAdd (s.mbox k).lost 1) ∈ t.blot.raised) ∧
  (∀ s (k : Fin 8) (q : Fin 4) e, (s.mbox k).unacked = [e] → e.ended = false → e.at_ + 20 * millisecond ≤ s.now → e.sends < 5 →
    s.routePort (BitVec.ofNat 16 (bits (s.mbox k).cfg 31 16)) none = some q → (s.port q).waiting 1 + 306 ≤ 32768 →
    Completes (.mailboxResponseResend k) s fun t =>
      (t.mbox k).unacked = [{ e with
        sends := e.sends + 1
        at_ := s.now }] ∧ (t.mbox k).rspHead = (s.mbox k).rspHead ∧
      ∃ g, Queued s t q g ∧ g.typ = 4 ∧ g.fseq = e.fseq ∧ g.payload = mailboxHead k 1 0 0 ++ memReadWords (rspSlot k e.slot) 64 s.rings) ∧
  (∀ s (k : Fin 8), (∀ e ∈ (s.mbox k).unacked, e.ended = true ∨ s.now < e.at_ + 20 * millisecond) →
    exec (.mailboxResponseResend k) s = .next s) ∧
  -- syncFrame, syncEntryExpiry
  (∀ s (p : Fin 4) f, FrameOk s f → f.typ = 6 → f.len = 12 → f.dst = s.fab.addr → f.dst ≠ 0 → f.dst.toNat < 0xFF00 →
    Completes (.syncFrame p f) s fun t =>
      (BitVec.ofNat 16 (fieldAt f.payload 0 15 0), fieldAt f.payload 0 23 16, natAt64 f.payload 4) ∈ t.fab.sync ∧
      t.fab.sync.length ≤ max 64 s.fab.sync.length ∧
      t.blot.raised = s.blot.raised ++ [s.event 0x0D0B INFO 0 (fieldAt f.payload 0 15 0 + 2 ^ 32 * (natAt64 f.payload 4 % 2 ^ 32))]) ∧
  (∀ s id, Completes (.syncEntryExpiry id) s fun t =>
    (∀ e, e ∈ t.fab.sync ↔ e ∈ s.fab.sync ∧ (e.1 ≠ id ∨ s.tb.time < e.2.2 + 60000000000)) ∧ { t with fab := s.fab } = s) ∧
  -- noticeReceive: suppressed, admitted, seen
  (∀ s (p : Fin 4) f, FrameOk s f → f.typ = 7 → f.dst = 0xFFFE → f.len = 20 → s.seenFlood f = false →
    s.noticeAdmitted (BitVec.ofNat 16 (fieldAt f.payload 0 15 0)) (BitVec.ofNat 16 (fieldAt f.payload 0 31 16)) = false →
    Completes (.noticeReceive p f) s fun t => t.fab.suppressed = satAdd s.fab.suppressed 1 ∧ t.fab.notices = s.fab.notices ∧ t.blot = s.blot) ∧
  (∀ s (p : Fin 4) f, FrameOk s f → f.typ = 7 → f.dst = 0xFFFE → f.len = 20 → s.seenFlood f = false →
    s.noticeAdmitted (BitVec.ofNat 16 (fieldAt f.payload 0 15 0)) (BitVec.ofNat 16 (fieldAt f.payload 0 31 16)) = true →
    Completes (.noticeReceive p f) s fun t => t.fab.suppressed = s.fab.suppressed ∧
      (BitVec.ofNat 16 (fieldAt f.payload 0 15 0), BitVec.ofNat 16 (fieldAt f.payload 0 31 16), s.now) ∈ t.fab.notices) ∧
  (∀ s (p : Fin 4) f, FrameOk s f → f.typ = 7 → s.seenFlood f = true → exec (.noticeReceive p f) s = .next (counted p s))

/-- The time commands complete (R373, R402, R403, R406, R411 to R413, R415, R418, R419): TIME_CONFIG stores its block and keeps it; TIME_SET sets TIME in
FREE or HOLDOVER, steps the era when TIME goes back, writes TIME_MARK and raises 0x0E03 and 0x0E09; TIME_SLEW replaces the slew and answers its
duration; TIME_OUT_CONFIG sets or clears the entry it names; TIME_CAPTURE_READ empties a queue; TIME_STATUS answers. Completes: timeConfig,
timeSet, timeSlew, timeSlewDone, timeStatus, timeOutConfig, timeCaptureRead. -/
def Obligations.TimeCommandsComplete : Prop :=
  -- timeConfig
  (∀ m s, Granted 0x0B01 2 m s → m.target = 0 → m.length = 40 → NoReserved m [(0, 8)] → tcRole m.params ≠ 3 →
    Completes (.timeConfig m) s fun t =>
      t.tb.cfg = blockFit 6 m.params ∧ t.vel.timeCfg = some (blockFit 6 m.params) ∧ t.tb.time = s.tb.time ∧ t.tb.era = s.tb.era ∧
      t.chan = s.chan ∧ (tcRole m.params = 2 → t.tb.servo = .free ∧ t.tb.master = none) ∧
      (tcRole m.params = 0 → s.tb.servo = .master → t.tb.servo = .free) ∧
      (tcRole m.params = 1 → tcDomain s.tb.cfg = tcDomain m.params → tcP2p s.tb.cfg = tcP2p m.params → t.tb.servo = s.tb.servo) ∧
      (tcRole m.params ≠ 2 → s.tb.servo = .locked → tcDomain s.tb.cfg ≠ tcDomain m.params → t.tb.servo = .locking)) ∧
  -- timeSet: legal, refused
  (∀ m s, Granted 0x0B02 2 m s → m.target = 0 → m.length = 24 → s.tb.servo = .free ∨ s.tb.servo = .holdover →
    Completes (.timeSet m) s fun t =>
      t.tb.time = natAt64 m.params 0 ∧ t.tb.valid = true ∧ t.tb.slew = none ∧ t.tb.servo = s.tb.servo ∧ t.now = s.now ∧
      t.tb.era = (if natAt64 m.params 0 < s.tb.time then (s.tb.era + 1) % 256 else s.tb.era) ∧
      t.event 0x0E09 NOTICE 0 (natAt64 m.params 0) ∈ t.blot.raised ∧
      (natAt64 m.params 0 ≠ s.tb.time → (∃ p, t.event 0x0E03 NOTICE 0 p ∈ t.blot.raised) ∧
        t.vel.timeMark = some (natAt64 m.params 0 / 1000000, t.tb.era) ∧ t.ink.waiting.length ≠ 0)) ∧
  (∀ m s, Granted 0x0B02 2 m s → m.target = 0 → m.length = 24 → s.tb.servo = .locking ∨ s.tb.servo = .locked ∨ s.tb.servo = .master →
    exec (.timeSet m) s = .next ((s.takeOff 0x0B02 m).respond m.mb (answerTo m 0x0201 0 s.tb.servo.code []))) ∧
  -- timeSlew, timeSlewDone
  (∀ m s (ppb : Nat), Granted 0x0B03 2 m s → m.target = 0 → m.length = 28 → s.tb.servo = .free ∨ s.tb.servo = .holdover →
    ppb = natAt m.params 8 → 1 ≤ ppb → ppb ≤ 500000 →
    Completes (.timeSlew m) s fun t =>
      (∃ x, t.tb.slew = some x ∧ x.left = (intAt64 m.params 0).natAbs * 2 ^ 32 ∧ x.ppb = ppb ∧ x.total = intAt64 m.params 0 ∧
        x.neg = decide (intAt64 m.params 0 < 0)) ∧
      { t.tb with slew := s.tb.slew } = s.tb ∧ t.chan = s.chan ∧
      ((s.mbox m.mb).discard = 0 → ∃ d : Nat, ppb * d < (intAt64 m.params 0).natAbs * 1000000000 + ppb ∧
        (intAt64 m.params 0).natAbs * 1000000000 ≤ ppb * d ∧ (t.mbox m.mb).done = (s.mbox m.mb).done ++ [okAnswer m 0 0 (words64 d)])) ∧
  (∀ s x, s.tb.slew = some x → x.left = 0 →
    exec .timeSlewDone s = .next (({ s with tb := { s.tb with slew := none } } : State).raise 0x0E06 INFO 0 (x.total % 2 ^ 64).toNat)) ∧
  (∀ s, (∀ x, s.tb.slew = some x → x.left ≠ 0) → exec .timeSlewDone s = .next s) ∧
  -- timeStatus
  (∀ m s, Granted 0x0B06 0 m s → m.target = 0 → m.length = 16 → CompletesBy (.timeStatus m) 0x0B06 m s id 0 0 s.timeWords) ∧
  -- timeOutConfig: set, cleared, refused
  (∀ m s (i : Fin 256) j, Granted 0x0B04 1 m s → m.target = indexTarget i → m.length = 36 → outEntry i.val = some j →
    bitAt m.params 0 0 = true → outFail 1 (s.outChecks m.params (decide (4 ≤ j))) = none →
    Completes (.timeOutConfig m) s fun t =>
      t.entry j = {
        en := true
        toggle := bitAt m.params 0 2
        periodic := bitAt m.params 0 1
        start := natAt64 m.params 4
        period := natAt m.params 0xC
        width := natAt m.params 0x10
        next := some (natAt64 m.params 4) } ∧
      (∀ k, k < 20 → k ≠ j → t.entry k = s.entry k) ∧ t.tb.time = s.tb.time ∧ t.chan = s.chan) ∧
  (∀ m s (i : Fin 256) j, Granted 0x0B04 1 m s → m.target = indexTarget i → m.length = 36 → outEntry i.val = some j →
    bitAt m.params 0 0 = false → NoReserved m [(0, 0xFFFFFFF8)] →
    Completes (.timeOutConfig m) s fun t =>
      (t.entry j).en = false ∧ (t.entry j).next = none ∧ (t.entry j).level = false ∧ (t.entry j).pulse = none ∧
      (∀ k, k < 20 → k ≠ j → t.entry k = s.entry k)) ∧
  (∀ m s (i : Fin 256) j why k, Granted 0x0B04 1 m s → m.target = indexTarget i → m.length = 36 → outEntry i.val = some j →
    bitAt m.params 0 0 = true → outFail 1 (s.outChecks m.params (decide (4 ≤ j))) = some (why, k) →
    exec (.timeOutConfig m) s = .next ((s.takeOff 0x0B04 m).respond m.mb (answerTo m why 0 k []))) ∧
  -- timeCaptureRead
  (∀ m s (i : Fin 4), Granted 0x0B05 1 m s → m.target = BitVec.ofNat 32 (0x70000000 + i.val) → m.length = 16 →
    Completes (.timeCaptureRead m) s fun t =>
      (vget t.tb.tin i).queue = (vget s.tb.tin i).queue.drop 14 ∧ (vget t.tb.tin i).lost = 0 ∧ (vget t.tb.tin i).level = (vget s.tb.tin i).level ∧
      (∀ j, j ≠ i → vget t.tb.tin j = vget s.tb.tin j) ∧ t.chan = s.chan ∧
      ((s.mbox m.mb).discard = 0 → ∃ r, (t.mbox m.mb).done = (s.mbox m.mb).done ++ [r] ∧ r.status = 0 ∧
        r.payload.length = 1 + 4 * min 14 (vget s.tb.tin i).queue.length ∧
        r.payload.getD 0 0 = w32 ((vget s.tb.tin i).lost * 2 ^ 16 + min 14 (vget s.tb.tin i).queue.length)))

/-- Time outputs, slots, captures and TIME_MARK act (R225, R403, R415, R416, R418): a due entry fires once and takes its next compare time; an output
changes its level or starts its pulse of WIDTH_NS, a slot signals the Pounce units at work; the pulse's end lowers the level; an edge to a level
that lasts 12 ns is captured with TIME, or counted as lost with 0x0E08; TIME_MARK is written once a second. Completes: compareFire,
toutPulseEnd, tinCapture, timeMarkWrite. -/
def Obligations.TimeOutputsAct : Prop :=
  -- compareFire
  (∀ s (i : Fin 20) n, (s.entry i.val).en = true → (s.entry i.val).next = some n → n ≤ s.tb.time →
    Completes (.compareFire i) s fun t =>
      (t.entry i.val).next = (s.entry i.val).after s.tb.time ∧ (t.entry i.val).en = true ∧
      (i.val < 4 → (t.entry i.val).level = (if (s.entry i.val).toggle = true then !(s.entry i.val).level else true) ∧
        ((s.entry i.val).toggle = false → (t.entry i.val).pulse = some (s.now + ((s.entry i.val).width + 3) / 4)) ∧ t.pounce = s.pounce) ∧
      (4 ≤ i.val → ∀ u, (t.unit u).seen.slots =
        if (s.unit u).watching = true then (s.unit u).seen.slots ++ [i.val - 4] else (s.unit u).seen.slots) ∧
      (∀ k, k < 20 → k ≠ i.val → t.entry k = s.entry k) ∧ t.blot = s.blot ∧ t.chan = s.chan) ∧
  (∀ s (i : Fin 20), (s.entry i.val).en = false ∨ (∀ n, (s.entry i.val).next = some n → s.tb.time < n) →
    exec (.compareFire i) s = .next s) ∧
  (∀ (x : TimeOut) (n time : Nat), x.periodic = true → 0 < x.period → x.start ≤ time → x.after time = some n →
    time < n ∧ n ≤ time + x.period ∧ (n - x.start) % x.period = 0) ∧
  -- toutPulseEnd
  (∀ s (i : Fin 4) e, (vget s.tb.tout i).pulse = some e → e ≤ s.now →
    Completes (.toutPulseEnd i) s fun t =>
      (t.entry i.val).level = false ∧ (t.entry i.val).pulse = none ∧ (∀ k, k < 20 → k ≠ i.val → t.entry k = s.entry k) ∧
      { t with tb := s.tb } = s) ∧
  (∀ s (i : Fin 4), (∀ e, (vget s.tb.tout i).pulse = some e → s.now < e) → exec (.toutPulseEnd i) s = .next s) ∧
  -- tinCapture: captured, lost, not seen
  (∀ s (i : Fin 4) (f : Bool) held, 12 ≤ held → (vget s.tb.tin i).level = f → (vget s.tb.tin i).queue.length < 64 →
    Completes (.tinCapture i { falling := f, held := held }) s fun t =>
      (vget t.tb.tin i).queue = (vget s.tb.tin i).queue ++ [(s.tb.time, s.tb.era, f)] ∧ (vget t.tb.tin i).lost = (vget s.tb.tin i).lost ∧
      (vget t.tb.tin i).level = (!f) ∧ (∀ j, j ≠ i → vget t.tb.tin j = vget s.tb.tin j) ∧ t.blot = s.blot ∧ t.chan = s.chan) ∧
  (∀ s (i : Fin 4) (f : Bool) held, 12 ≤ held → (vget s.tb.tin i).level = f → 64 ≤ (vget s.tb.tin i).queue.length →
    (vget s.tb.tin i).told = false →
    Completes (.tinCapture i { falling := f, held := held }) s fun t =>
      (vget t.tb.tin i).queue = (vget s.tb.tin i).queue ∧ (vget t.tb.tin i).lost = min ((vget s.tb.tin i).lost + 1) 0xFFFF ∧
      t.blot.raised = s.blot.raised ++ [s.event 0x0E08 NOTICE i.val (min ((vget s.tb.tin i).lost + 1) 0xFFFF)]) ∧
  (∀ s (i : Fin 4) (f : Bool) held, held < 12 ∨ (vget s.tb.tin i).level ≠ f → exec (.tinCapture i { falling := f, held := held }) s = .next s) ∧
  -- timeMarkWrite
  (∀ s, s.tb.running = true → s.tb.markAt + second ≤ s.now →
    Completes .timeMarkWrite s fun t =>
      t.vel.timeMark = some (s.tb.time / 1000000, s.tb.era) ∧ { t.tb with markAt := s.tb.markAt } = s.tb ∧ t.tb.markAt = s.now ∧
      t.chan = s.chan) ∧
  (∀ s, s.tb.running = false ∨ s.now < s.tb.markAt + second → exec .timeMarkWrite s = .next s)

/-- The servo and its messages act (R405 to R410, R420): the only announced master is selected (LOCKING); with none better the own clock becomes
MASTER; losing the master gives HOLDOVER and 0x0E02; the sixteenth Sync in a row within 100 ns gives LOCKED and 0x0E01; a large offset in
LOCKED goes back to LOCKING; the rate stays within ±500 ppm; delay requests are sent and answered, and the answers give the path and link
delays; a master sends Sync and Announce at their intervals; a message passes with its residence time; ports off PTP take no part.
Completes: ptpAnnounceReceive, timeBecameMaster, ptpMasterLoss, ptpSyncReceive, ptpFollowUpReceive, ptpDelayReqSend, ptpDelayReqReceive,
ptpDelayRespReceive, ptpPdelayReqSend, ptpPdelayReceive, ptpMasterSend, ptpTransparentForward. -/
def Obligations.PtpActs : Prop :=
  -- ptpAnnounceReceive
  (∀ s (p : Fin 4) m, s.servoRuns = true → s.ptpPort p = true → m.kind = .announce → m.domain = tcDomain s.tb.cfg → s.tb.foreign = [] →
    tcRole s.tb.cfg = 0 → s.tb.master = none →
    Completes (.ptpAnnounceReceive p m) s fun t =>
      t.tb.servo = .locking ∧ t.tb.master = some (m.clockId, p) ∧ t.tb.stepsRemoved = m.stepsRemoved + 1 ∧ t.tb.foreign.length = 1 ∧
      t.tb.time = s.tb.time ∧ s.event 0x0E04 NOTICE 0 m.grandmaster ∈ t.blot.raised ∧ t.chan = s.chan) ∧
  (∀ s (p : Fin 4) m n, s.ptpPort p = false →
    exec (.ptpAnnounceReceive p m) s = .next s ∧ exec (.ptpSyncReceive p m) s = .next s ∧ exec (.ptpPdelayReceive p { msg := m, tOut := n }) s = .next s ∧
    exec (.ptpDelayReqReceive p m) s = .next s) ∧
  -- timeBecameMaster
  (∀ s, s.servoRuns = true → tcRole s.tb.cfg = 1 → s.tb.servo ≠ .master → s.betterForeign = false →
    Completes .timeBecameMaster s fun t =>
      t.tb.servo = .master ∧ t.tb.master = none ∧ t.tb.stepsRemoved = 0 ∧ t.tb.time = s.tb.time ∧
      t.blot.raised = s.blot.raised ++ [s.event 0x0E05 NOTICE 0 (tcPri1 s.tb.cfg)]) ∧
  (∀ s, tcRole s.tb.cfg ≠ 1 ∨ s.betterForeign = true → exec .timeBecameMaster s = .next s) ∧
  -- ptpMasterLoss
  (∀ s (c : Fin 3), s.servoRuns = true → s.tb.servo = .locked ∨ s.tb.servo = .locking → s.masterLost c = true →
    Completes (.ptpMasterLoss c) s fun t =>
      t.tb.servo = .holdover ∧ t.tb.master = none ∧ t.tb.goodSyncs = 0 ∧ (s.tb.servo = .locking → t.tb.rate = s.tb.rate) ∧
      t.tb.time = s.tb.time ∧ t.blot.raised = s.blot.raised ++ [s.event 0x0E02 ALARM 0 c.val]) ∧
  (∀ s (c : Fin 3), s.tb.servo = .free ∨ s.tb.servo = .holdover ∨ s.tb.servo = .master ∨ s.masterLost c = false →
    exec (.ptpMasterLoss c) s = .next s) ∧
  -- ptpSyncReceive: one-step in LOCKING, in LOCKED; two-step
  (∀ s (p : Fin 4) m (x : Int), s.fromMaster p m = true → m.kind = .sync → m.twoStep = false →
    x = (s.rxTime p m.tMac - m.originTime) * 65536 - m.correction * 10
      - (if tcP2p s.tb.cfg = true then (s.port p).linkDelay else s.tb.pathDelay) →
    s.tb.servo = .locking → x.natAbs ≤ 100 * 655360 → x.natAbs ≤ tcThresh s.tb.cfg * 655360000 →
    Completes (.ptpSyncReceive p m) s fun t =>
      t.tb.offset = x ∧ -50000000 ≤ t.tb.rate ∧ t.tb.rate ≤ 50000000 ∧ t.tb.time = s.tb.time ∧ t.tb.syncAt = s.now ∧
      (s.tb.goodSyncs < 15 → t.tb.servo = .locking ∧ t.tb.goodSyncs = s.tb.goodSyncs + 1) ∧
      (s.tb.goodSyncs = 15 → t.tb.servo = .locked ∧ t.tb.valid = true ∧ ∃ q, s.event 0x0E01 INFO 0 q ∈ t.blot.raised)) ∧
  (∀ s (p : Fin 4) m (x : Int), s.fromMaster p m = true → m.kind = .sync → m.twoStep = false →
    x = (s.rxTime p m.tMac - m.originTime) * 65536 - m.correction * 10
      - (if tcP2p s.tb.cfg = true then (s.port p).linkDelay else s.tb.pathDelay) →
    s.tb.servo = .locked →
    Completes (.ptpSyncReceive p m) s fun t =>
      t.tb.offset = x ∧ t.tb.time = s.tb.time ∧ -50000000 ≤ t.tb.rate ∧ t.tb.rate ≤ 50000000 ∧
      t.tb.servo = (if 655360000 < x.natAbs then .locking else .locked)) ∧
  (∀ s (p : Fin 4) m, s.fromMaster p m = true → m.kind = .sync → m.twoStep = true →
    Completes (.ptpSyncReceive p m) s fun t =>
      t.tb = { s.tb with
        pendSync := some (m.seqId, s.rxTime p m.tMac, m.correction, p)
        syncAt := s.now
        syncLog := m.logInterval } ∧ { t with tb := s.tb } = s) ∧
  -- ptpFollowUpReceive
  (∀ s (p : Fin 4) m t2 c, s.fromMaster p m = true → m.kind = .followUp → s.tb.pendSync = some (m.seqId, t2, c, p) → s.tb.servo = .locked →
    Completes (.ptpFollowUpReceive p m) s fun t =>
      t.tb.pendSync = none ∧ t.tb.offset = (t2 - m.originTime) * 65536 - (c + m.correction) * 10
        - (if tcP2p s.tb.cfg = true then (s.port p).linkDelay else s.tb.pathDelay)) ∧
  (∀ s (p : Fin 4) m q t2 c, s.tb.pendSync = some (q, t2, c, p) → q ≠ m.seqId → exec (.ptpFollowUpReceive p m) s = .next s) ∧
  -- ptpDelayReqSend
  (∀ s (p : Fin 4) (n : Nat) c, s.servoRuns = true → s.ptpPort p = true → tcP2p s.tb.cfg = false → s.tb.master = some (c, p) →
    (s.port p).waiting 0 + 90 ≤ 16384 →
    Completes (.ptpDelayReqSend p n) s fun t =>
      t.tb.delayT3 = some (s.txTime p n) ∧ t.tb.delaySeq = (s.port p).seqDelay % 65536 ∧
      (∃ g, QueuedPtp s t p g ∧ g.kind = .delayReq ∧ g.srcMac = ownMac ∧ g.domain = tcDomain s.tb.cfg ∧
        g.seqId = (s.port p).seqDelay % 65536 ∧ g.tMac = n) ∧
      (∀ q, q ≠ p → t.port q = s.port q)) ∧
  -- ptpDelayReqReceive
  (∀ s (p : Fin 4) m, s.servoRuns = true → s.ptpPort p = true → m.kind = .delayReq → s.tb.servo = .master → tcP2p s.tb.cfg = false →
    m.domain = tcDomain s.tb.cfg → (s.port p).waiting 0 + 90 ≤ 16384 →
    Completes (.ptpDelayReqReceive p m) s fun t =>
      (∃ g, QueuedPtp s t p g ∧ g.kind = .delayResp ∧ g.seqId = m.seqId % 65536 ∧ g.originTime = (s.rxTime p m.tMac).toNat ∧
        g.correction = m.correction ∧ g.reqId = m.clockId ∧ g.reqPort = m.portNo) ∧ t.tb = s.tb ∧ (∀ q, q ≠ p → t.port q = s.port q)) ∧
  -- ptpDelayRespReceive
  (∀ s (p : Fin 4) m t3 d, s.tb.delayT3 = some t3 → s.tb.lastSync = some d → s.fromMaster p m = true → m.kind = .delayResp →
    tcP2p s.tb.cfg = false → answersTo m p s.tb.delaySeq = true →
    Completes (.ptpDelayRespReceive p m) s fun t =>
      t.tb.delayT3 = none ∧ 2 * t.tb.pathDelay - (d + ((m.originTime : Int) - t3) * 65536 - m.correction * 10) ≤ 1 ∧
      -1 ≤ 2 * t.tb.pathDelay - (d + ((m.originTime : Int) - t3) * 65536 - m.correction * 10) ∧
      { t.tb with
        pathDelay := s.tb.pathDelay
        delayT3 := s.tb.delayT3 } = s.tb ∧ { t with tb := s.tb } = s) ∧
  -- ptpPdelayReqSend
  (∀ s (p : Fin 4) (n : Nat), s.servoRuns = true → s.ptpPort p = true → tcP2p s.tb.cfg = true →
    due (s.port p).pdelayAt second s.now = true → (s.port p).waiting 0 + 90 ≤ 16384 →
    Completes (.ptpPdelayReqSend p n) s fun t =>
      (t.port p).pdelayT1 = some (s.txTime p n) ∧ (t.port p).pdelayAt = some s.now ∧
      (∃ g, QueuedPtp s t p g ∧ g.kind = .pdelayReq ∧ g.seqId = (t.port p).pdelaySeq) ∧ t.tb = s.tb) ∧
  (∀ s (p : Fin 4) (n : Nat), due (s.port p).pdelayAt second s.now = false → exec (.ptpPdelayReqSend p n) s = .next s) ∧
  -- ptpPdelayReceive: a request, an answer
  (∀ s (p : Fin 4) m (n : Nat), s.ptpPort p = true → tcP2p s.tb.cfg = true → m.domain = tcDomain s.tb.cfg → m.kind = .pdelayReq →
    (s.port p).waiting 0 + 90 ≤ 16384 →
    Completes (.ptpPdelayReceive p { msg := m, tOut := n }) s fun t =>
      ∃ g, QueuedPtp s t p g ∧ g.kind = .pdelayResp ∧ g.seqId = m.seqId % 65536 ∧ g.reqId = m.clockId ∧ g.reqPort = m.portNo ∧
        10 * (g.correction - m.correction) - (s.txTime p n - s.rxTime p m.tMac) * 65536 ≤ 5 ∧
        -5 ≤ 10 * (g.correction - m.correction) - (s.txTime p n - s.rxTime p m.tMac) * 65536) ∧
  (∀ s (p : Fin 4) m (n : Nat) t1, s.ptpPort p = true → tcP2p s.tb.cfg = true → m.domain = tcDomain s.tb.cfg → m.kind = .pdelayResp →
    m.twoStep = false → (s.port p).pdelayT1 = some t1 → answersTo m p (s.port p).pdelaySeq = true →
    Completes (.ptpPdelayReceive p { msg := m, tOut := n }) s fun t =>
      (t.port p).pdelayT1 = none ∧
      2 * (t.port p).linkDelay - ((s.rxTime p m.tMac - t1) * 65536 - m.correction * 10) ≤ 1 ∧
      -1 ≤ 2 * (t.port p).linkDelay - ((s.rxTime p m.tMac - t1) * 65536 - m.correction * 10) ∧ { t with fab := s.fab } = s) ∧
  -- ptpMasterSend: Announce every second, Sync every 125 ms
  (∀ s (p : Fin 4) (ann : Bool) (n : Nat), s.servoRuns = true → s.ptpPort p = true → s.tb.servo = .master →
    due (if ann = true then (s.port p).annAt else (s.port p).syncAt) (if ann = true then second else 125 * millisecond) s.now = true →
    (s.port p).waiting 0 + 90 ≤ 16384 →
    Completes (.ptpMasterSend p ann n) s fun t =>
      (∃ g, QueuedPtp s t p g ∧ g.kind = (if ann = true then .announce else .sync) ∧ g.domain = tcDomain s.tb.cfg ∧
        g.priority1 = tcPri1 s.tb.cfg ∧ g.priority2 = tcPri2 s.tb.cfg ∧ g.clockClass = 248 ∧ g.originTime = (s.txTime p n).toNat) ∧
      (if ann = true then (t.port p).annAt else (t.port p).syncAt) = some s.now ∧ t.tb = s.tb) ∧
  (∀ s (p : Fin 4) (ann : Bool) (n : Nat), s.tb.servo ≠ .master → exec (.ptpMasterSend p ann n) s = .next s) ∧
  -- ptpTransparentForward
  (∀ s (p q : Fin 4) m (n : Nat), p ≠ q → s.ptpPort p = true → s.ptpPort q = true → m.kind.peer = false →
    (s.port q).waiting 0 + 90 ≤ 16384 →
    Completes (.ptpTransparentForward p q m n) s fun t =>
      (m.kind.event = false → QueuedPtp s t q m) ∧
      (m.kind.event = true → tcP2p s.tb.cfg = false → ∃ g, QueuedPtp s t q g ∧ { g with correction := m.correction } = m ∧
        10 * (g.correction - m.correction) - (s.txTime q n - s.rxTime p m.tMac) * 65536 ≤ 5 ∧
        -5 ≤ 10 * (g.correction - m.correction) - (s.txTime q n - s.rxTime p m.tMac) * 65536) ∧
      (∀ j, j ≠ q → t.port j = s.port j) ∧ t.tb = s.tb) ∧
  (∀ s (p q : Fin 4) m (n : Nat), m.kind.peer = true → exec (.ptpTransparentForward p q m n) s = .next s)

/-- The Vellum and the Blotter act (R424 to R427, R429 to R437): a word write of an admitted writer stores the word, a second failure retires its row and writes to
the spare, an unadmitted one is refused with 0x0F09; the scrub counts, corrects and retires; an event takes a token and an entry with the next
SEQ, or counts as suppressed; a summary follows after 1 s; a flush persists every entry in the ring; the scan keeps the ring entries of a
good CRC and restores the next SEQ. Completes: vellumWordWrite, vellumScrub, wearMapFlush, eventRaise, blotterSummary, blotterFlush,
blotterRingScan. -/
def Obligations.VellumAndBlotterAct : Prop :=
  (∀ s w (r : Fin 11) i d (ok : Bool), i < (regionAt r.val).2 → writerOk w r.val i = true →
    s.vel.count (((regionAt r.val).1 + i) / 256) + 2 < 5 * 10 ^ 13 →
    Completes (.vellumWordWrite w r i d ok true) s fun t =>
      (t.vel.words.find? fun e => e.1 == (regionAt r.val).1 + i) = some ((regionAt r.val).1 + i, d) ∧
      (∀ j, j ≠ (regionAt r.val).1 + i → (t.vel.words.find? fun e => e.1 == j) = s.vel.words.find? fun e => e.1 == j) ∧
      r.val ∉ t.vel.failed ∧ t.vel.retired = s.vel.retired ∧
      t.vel.count (((regionAt r.val).1 + i) / 256) = s.vel.count (((regionAt r.val).1 + i) / 256) + (if ok = true then 1 else 2) ∧
      t.blot = s.blot ∧ { t with vel := s.vel } = s) ∧
  (∀ s w (r : Fin 11) i d, i < (regionAt r.val).2 → writerOk w r.val i = true →
    s.vel.count (((regionAt r.val).1 + i) / 256) + 2 < 5 * 10 ^ 13 →
    (s.vel.retired.length < 41 → Completes (.vellumWordWrite w r i d false false) s fun t =>
      t.vel.retired = s.vel.retired ++ [((regionAt r.val).1 + i) / 256] ∧
      (t.vel.words.find? fun e => e.1 == (regionAt r.val).1 + i) = some ((regionAt r.val).1 + i, d) ∧
      (∃ p, t.blot.raised = s.blot.raised ++ [s.event 0x0F06 NOTICE 0 p])) ∧
    (s.vel.retired.length = 41 → Completes (.vellumWordWrite w r i d false false) s fun t =>
      t.vel.words = s.vel.words ∧ r.val ∈ t.vel.failed ∧
      t.blot.raised = s.blot.raised ++ [s.event 0x0F07 ALARM 0 (((regionAt r.val).1 + i) / 256)])) ∧
  (∀ s w (r : Fin 11) i d (a b : Bool), i < (regionAt r.val).2 → writerOk w r.val i = false →
    Completes (.vellumWordWrite w r i d a b) s fun t =>
      t.vel.words = s.vel.words ∧ t.vel.refused = satAdd s.vel.refused 1 ∧ { t.vel with refused := s.vel.refused } = s.vel ∧
      ∃ p, t.blot.raised = s.blot.raised ++ [s.event 0x0F09 ALARM 0 p]) ∧
  (∀ s w (r : Fin 11) i d (a b : Bool), (regionAt r.val).2 ≤ i → exec (.vellumWordWrite w r i d a b) s = .next s) ∧
  (∀ s (i : Fin 524288) g, regionOf i.val = some g → s.vel.count (i.val / 256) + 2 < 5 * 10 ^ 13 →
    (Completes (.vellumScrub i .clean) s fun t =>
      t.vel.count (i.val / 256) = s.vel.count (i.val / 256) + 1 ∧ t.blot = s.blot ∧ { t with vel := s.vel } = s) ∧
    (i.val ∉ s.vel.correctedOnce → Completes (.vellumScrub i .corrected) s fun t =>
      t.vel.corrections = satAdd s.vel.corrections 1 ∧ i.val ∈ t.vel.correctedOnce ∧ t.vel.retired = s.vel.retired ∧
      t.blot.raised = s.blot.raised ++ [s.event 0x0F04 INFO 0 (i.val + 2 ^ 32 * g)]) ∧
    (i.val ∈ s.vel.correctedOnce → s.vel.retired.length < 41 → Completes (.vellumScrub i .corrected) s fun t =>
      t.vel.retired = s.vel.retired ++ [i.val / 256]) ∧
    (s.vel.retired.length < 41 → Completes (.vellumScrub i .uncorrectable) s fun t =>
      t.vel.retired = s.vel.retired ++ [i.val / 256] ∧ s.event 0x0F05 ALARM 0 (i.val + 2 ^ 32 * g) ∈ t.blot.raised)) ∧
  (∀ s, s.ranOut .wearMap = true → Completes .wearMapFlush s fun t => t.vel.wearMap = s.vel.wear ∧ t.vel.ch = s.vel.ch ∧
    t.vel.words = s.vel.words ∧ (Timer.wearMap, s.now + 60 * second) ∈ t.timers ∧ t.chan = s.chan) ∧
  (∀ s, s.ranOut .wearMap = false → exec .wearMapFlush s = .next s) ∧
  (∀ s e l, s.blot.raised = e :: l → s.blot.scanned = true → s.blot.unpersisted.length < 8192 →
    token ≤ ((s.blot.limiter e.code s.now).refill s.now).tokens →
    Completes .eventRaise s fun t =>
      (∃ x, t.blot.buffer.getLast? = some x ∧ x.ev = e ∧ x.seq = s.blot.nextSeq ∧ x.persisted = false ∧ x.summary = false ∧
        x.lostBefore = s.blot.lossMark ∧ x.count = (s.blot.limiter e.code s.now).suppressed) ∧
      t.blot.nextSeq = (s.blot.nextSeq + 1) % 2 ^ 32 ∧ t.blot.lossMark = false ∧ (∃ r, t.blot.raised = l ++ r) ∧
      (s.blot.lossMark = false → s.ink.evtMin > e.severity → e.severity < FATAL → t.blot.raised = l) ∧
      (ALARM ≤ e.severity → t.blot.flushReq = true) ∧ t.chan = s.chan) ∧
  (∀ s e l, s.blot.raised = e :: l → ((s.blot.limiter e.code s.now).refill s.now).tokens < token →
    Completes .eventRaise s fun t =>
      t.blot.raised = l ∧ t.blot.buffer = s.blot.buffer ∧ t.blot.nextSeq = s.blot.nextSeq ∧
      (t.blot.limiter e.code s.now).suppressed = (s.blot.limiter e.code s.now).suppressed + 1 ∧ t.chan = s.chan) ∧
  (∀ s, s.blot.raised = [] → exec .eventRaise s = .next s) ∧
  (∀ s c e, (s.blot.limiter c s.now).last = some e → (s.blot.limiter c s.now).suppressed ≠ 0 →
    (s.blot.limiter c s.now).at_ + second ≤ s.now → s.blot.scanned = true →
    s.blot.unpersisted.length < 8192 →
    Completes (.blotterSummary c) s fun t =>
      ∃ x, t.blot.buffer.getLast? = some x ∧ x.ev.code = e.code ∧ x.ev.param = e.param ∧ x.summary = true ∧
        x.count = (s.blot.limiter c s.now).suppressed ∧ x.seq = s.blot.nextSeq) ∧
  (∀ s c, (s.blot.limiter c s.now).last = none ∨ s.now < (s.blot.limiter c s.now).at_ + second →
    exec (.blotterSummary c) s = .next s) ∧
  (∀ s, s.blot.flushReq = true →
    Completes .blotterFlush s fun t =>
      t.blot.unpersisted = [] ∧ t.blot.flushReq = false ∧ t.blot.buffer.length = s.blot.buffer.length ∧ t.blot.nextSeq = s.blot.nextSeq ∧
      (∀ e, s.blot.unpersisted.getLast? = some e → (e.seq, e.ringWords) ∈ t.vel.ring) ∧ t.chan = s.chan) ∧
  (∀ s, s.blot.flushReq = false → exec .blotterFlush s = .next s) ∧
  (∀ s, s.blot.scanned = false → s.blot.early = [] →
    Completes .blotterRingScan s fun t =>
      t.blot.scanned = true ∧ t.vel.ring = s.vel.ring.filter (fun e => ringOk e.2) ∧
      (∀ e ∈ s.vel.ring, ringOk e.2 = true →
        (∀ x ∈ s.vel.ring, ringOk x.2 = true → x.1 = e.1 ∨ (seqLe x.1 e.1 = true ∧ seqLe e.1 x.1 = false)) →
        s.blot.unpersisted = [] → token ≤ ((s.blot.limiter 0x0F0A s.now).refill s.now).tokens →
        t.blot.restored = some e.1 ∧ t.blot.nextSeq = ((e.1 + 1) % 2 ^ 32 + 1) % 2 ^ 32)) ∧
  (∀ s, s.blot.scanned = true → exec .blotterRingScan s = .next s)

/-- The sources of reset act (R30, R339, R356, R443 to R446, R465, R466): POWER_ON is reach W and leaves only its own cause bit; RESET_N, the test
mode and a supply out of range reset every block and hold the release; loss of REF and thermal shutdown write final checkpoints of the
channels under way first; WARM_N and the watchdog restart the Folio and the mailboxes only, and are absorbed during a release; a PCIe hot
reset clears the PCIe path's host-interface state; in STANDBY every pin and monitor is ignored. Completes: powerOn,
resetNLow, testModeRise, supplyOutOfRange, refLoss, thermalShutdown, warmNLow, watchdogExpired, resetNStuck, pcieHotReset, pcieLink. -/
def Obligations.ResetSourcesAct : Prop :=
  (∀ s, Completes .powerOn s fun t => Restarted s t ∧ t.rst.stage = 0 ∧ ResetSrc.powerOn ∈ t.rst.sources ∧
    bit t.host.resetCause 0 = true ∧ bits t.host.resetCause 25 24 = 0 ∧ (s.resetting = false → t.host.resetCause = 1) ∧
    t.rst.pwrReq = true ∧ t.rst.keepStore = false) ∧
  (∀ s i src, (i, src) = (Instr.resetNLow, ResetSrc.resetN) ∨ (i, src) = (.testModeRise, .testMode) →
    s.awake = true →
    Completes i s fun t => Restarted s t ∧ t.rst.stage = 0 ∧ src ∈ t.rst.sources ∧ bit t.host.resetCause 3 = true ∧
      (∀ k, k < 24 → bit s.host.resetCause k = true → bit t.host.resetCause k = true) ∧ t.rst.keepStore = false ∧
      bits t.host.resetCause 25 24 ≤ 1 ∧ (s.rst.stage = 12 → s.rst.sources = [] → bits t.host.resetCause 25 24 = 1)) ∧
  (∀ s (rail : Fin 13) (above pg : Bool), s.awake = true →
    Completes (.supplyOutOfRange rail above pg) s fun t => Restarted s t ∧ t.rst.stage = 0 ∧ bit t.host.resetCause 1 = true ∧
      t.rst.pgood = pg ∧ (if rail = 12 ∨ pg = false then ResetSrc.supplyW else .supplyF) ∈ t.rst.sources ∧
      (rail = 12 ∨ pg = false → bits t.host.resetCause 25 24 = 0) ∧ (s.rst.pfailSeq = true → bit t.host.resetCause 2 = true)) ∧
  (∀ s i src k, (i, src, k) ∈ [(Instr.refLoss, ResetSrc.refLoss, 14)] ∨ (src = .thermal ∧ k = 11 ∧ (∃ d x, i = .thermalShutdown d x) ∧
      ResetSrc.thermal ∉ s.rst.sources) → s.awake = true → s.rst.flushing = none →
    ((∀ n, (s.ch n).state.active = false) → s.finalPending = false →
      Completes i s fun t => Restarted s t ∧ t.rst.stage = 0 ∧ src ∈ t.rst.sources ∧ bit t.host.resetCause k = true ∧
        t.rst.flushing = none ∧ (s.rst.stage = 12 → t.rst.keepStore = true)) ∧
    ((∃ n, (s.ch n).state.active = true) →
      Completes i s fun t => t.rst.flushing = some src ∧ src ∈ t.rst.sources ∧ bit t.host.resetCause k = true ∧
        (∀ n, (t.ch n).state = (s.ch n).state) ∧
        (∀ n, (s.ch n).state.active = true → (t.ch n).drive.ramp = none ∧ (t.ch n).finalDue = true) ∧
        (∀ n, (s.ch n).state.active = false → t.ch n = s.ch n))) ∧
  (∀ s i k, (k = 4 ∧ i = .warmNLow) ∨
      (k = 9 ∧ i = .watchdogExpired ∧ s.folio.watchdog + second ≤ s.now) → s.awake = true → s.folio.mbReady = true →
    (s.rst.stage = 12 → s.rst.flushing = none →
      Completes i s fun t => t.folio.mbReady = false ∧ bit t.host.resetCause k = true ∧ t.rst.stage = 11 ∧
        (∀ m, (t.mbox m).session = none ∧ (t.mbox m).cfg = (s.mbox m).cfg ∧ (t.mbox m).taken = []) ∧
        (∀ n, (t.ch n).state = (s.ch n).state ∧ (t.ch n).drive = (s.ch n).drive ∧ (t.ch n).run = (s.ch n).run) ∧
        t.pounce = s.pounce ∧ t.margin = s.margin ∧ t.tb.time = s.tb.time ∧ t.vel = s.vel ∧ t.linear = s.linear ∧ t.slot = s.slot ∧
        (∀ a, { t.ax a with
          chunks := (s.ax a).chunks
          stops := (s.ax a).stops } = s.ax a) ∧ (k = 4 → ResetSrc.warmN ∈ t.rst.sources)) ∧
    (s.rst.stage ≠ 12 → s.rst.stage ≠ 11 →
      Completes i s fun t => bit t.host.resetCause k = true ∧ t.rst.stage = s.rst.stage ∧
        { t with
          host := s.host
          rst := s.rst } = s)) ∧
  (∀ s, s.folio.mbReady = false ∨ s.now < s.folio.watchdog + second → exec .watchdogExpired s = .next s) ∧
  (∀ s i, i ∈ [Instr.resetNLow, .warmNLow, .testModeRise, .refLoss, .watchdogExpired, .pcieHotReset false] ∨
      (∃ r a b, i = .supplyOutOfRange r a b) ∨ (∃ d x, i = .thermalShutdown d x) → s.awake = false → exec i s = .next s) ∧
  (∀ s k, (ResetSrc.resetN ∉ s.rst.sources → exec (.resetNStuck k) s = .next s) ∧
    (ResetSrc.resetN ∈ s.rst.sources → Completes (.resetNStuck k) s fun t => bit t.host.resetCause 16 = true ∧
      (0x1009, BitVec.ofNat 64 (min k 0xFFFFFFFF)) ∈ t.rst.after ∧
      { t with
        host := s.host
        rst := s.rst } = s)) ∧
  (∀ s, s.awake = true → s.hostAlone = true →
    Completes (.pcieHotReset false) s fun t => bit t.host.resetCause 8 = true ∧ ResetSrc.pcie ∈ t.rst.sources ∧ t.host.irqEn = 0 ∧
      t.host.irqStat = 0 ∧ (∀ m, bit (s.mbox m).cfg 0 = true → t.mbox m = s.mbox m) ∧
      (∀ m, bit (s.mbox m).cfg 0 = false → (t.mbox m).session = none ∧ (t.mbox m).cfg = 0 ∧ (t.mbox m).done = [] ∧
        (t.mbox m).taken = (s.mbox m).taken) ∧ t.folio = s.folio ∧ t.chan = s.chan ∧ t.vel = s.vel) ∧
  (∀ s, s.awake = true → s.hostAlone = false →
    Completes (.pcieHotReset false) s fun t => bit t.host.resetCause 8 = true ∧ ResetSrc.pcie ∈ t.rst.sources ∧ t.host.mb = s.host.mb ∧
      t.folio = s.folio ∧ t.chan = s.chan) ∧
  (∀ s (a b : Fin 16) (d : Bool), (s.host.pcieReset = true → exec (.pcieLink a { lanes := b, d3hot := d }) s = .next s) ∧
    (s.host.pcieReset = false → Completes (.pcieLink a { lanes := b, d3hot := d }) s fun t => t.host.linkSpeed = a.val ∧ t.host.linkWidth = b.val ∧
      t.host.d3hot = d ∧ (d = s.host.d3hot → t.blot.raised = s.blot.raised ++ [s.event 0x0C09 INFO 0 (a.val + 16 * b.val)]) ∧
      t.chan = s.chan ∧ t.folio = s.folio))

/-- The release after reach W or F (R444, R446 to R449, R453): it starts when the last source of reach W or F releases, from stage 1 or 2; each stage
completes in its order, releases its blocks and reports what failed; it holds while PFAIL_N is low or a source is asserted; a clock that is
not good holds stage 2, and at stages 8 and 10 leaves its block in reset until the clock becomes good. Completes: resetRelease,
thermalRecovery, refReturn, releaseStage, clkNotGood, clkGood. -/
def Obligations.ReleaseSequence : Prop :=
  (∀ s src, src ∉ s.rst.sources → exec (.resetRelease src) s = .next s) ∧
  (∀ s src, src ∈ [ResetSrc.powerOn, .supplyW, .supplyF] → s.rst.pgood = false → exec (.resetRelease src) s = .next s) ∧
  (∀ s i src, (i = .resetRelease src ∧ (src ∈ [ResetSrc.powerOn, .supplyW, .supplyF] → s.rst.pgood = true)) ∨ (i = .thermalRecovery ∧ src = .thermal) ∨
      (i = .refReturn ∧ src = .refLoss) → src ∈ s.rst.sources → s.awake = true → srcReach src ≤ 1 →
    (s.rst.stage = 0 → s.rst.flushing = none → (∀ x ∈ s.rst.sources, x ≠ src → 2 ≤ srcReach x) →
      Completes i s fun t => src ∉ t.rst.sources ∧ t.rst.stage = (if bits s.host.resetCause 25 24 = 0 then 1 else 2) ∧
        (∀ x, x ≠ src → (x ∈ t.rst.sources ↔ x ∈ s.rst.sources)) ∧ { t with rst := s.rst } = s) ∧
    ((∃ x ∈ s.rst.sources, x ≠ src ∧ srcReach x ≤ 1) →
      Completes i s fun t => src ∉ t.rst.sources ∧ t.rst.stage = s.rst.stage ∧ { t with rst := s.rst } = s)) ∧
  (∀ s, ResetSrc.thermal ∉ s.rst.sources → exec .thermalRecovery s = .next s) ∧
  (∀ s, ResetSrc.refLoss ∉ s.rst.sources → exec .refReturn s = .next s) ∧
  (∀ s x, s.rst.coverF = true ∨ s.rst.flushing.isSome = true ∨ (s.rst.pfailLow = true ∧ s.releasing = true) ∨ s.rst.stage = 0 ∨ s.rst.stage = 12 →
    exec (.releaseStage x) s = .next s) ∧
  (∀ s x, s.rst.coverF = false → s.rst.flushing = none → s.rst.pfailLow = false →
    (s.rst.stage = 1 → s.rst.pgood = false → exec (.releaseStage x) s = .next s) ∧
    (s.rst.stage = 1 → s.rst.pgood = true → Completes (.releaseStage x) s fun t => t.rst.stage = 2 ∧ { t with rst := s.rst } = s) ∧
    (s.rst.stage = 2 → x.clkMode % 4 = 3 → exec (.releaseStage x) s = .next s) ∧
    (s.rst.stage = 2 → x.clkMode % 4 ≠ 3 → Completes (.releaseStage x) s fun t => t.rst.stage = 3 ∧ t.rst.clkMode = x.clkMode % 4 ∧
      { t with rst := s.rst } = s) ∧
    (s.rst.stage = 3 → x.clkMode % 4 ≠ s.rst.clkMode → Completes (.releaseStage x) s fun t => t.rst.stage = 2 ∧ { t with rst := s.rst } = s) ∧
    (s.rst.stage = 3 → x.clkMode % 4 = s.rst.clkMode → Completes (.releaseStage x) s fun t => t.rst.stage = 4 ∧
      t.rst.bootSrc = x.bootSrc % 4 ∧ t.tb.running = true ∧
      (s.vel.timeMark = none → t.tb.time = 0) ∧ (∀ ms era, s.vel.timeMark = some (ms, era) → t.tb.time = ms * 1000000 + 1000000000 ∧
        t.tb.era = era) ∧
      { t with
        rst := s.rst
        tb := s.tb } = s) ∧
    (s.rst.stage = 4 → Completes (.releaseStage x) s fun t => t.rst.stage = 5 ∧ { t with rst := s.rst } = s) ∧
    (s.rst.stage = 5 → Completes (.releaseStage x) s fun t => t.rst.stage = 6 ∧
      (x.dramFailed = none → s.rst.keepStore = true → x.indexOk = true → t.ink.kept = true ∧ t.ink.dramOk = true ∧
        t.ink.retired = s.ink.retired ∧ t.blot.raised = s.blot.raised) ∧
      (x.dramFailed = none → s.rst.keepStore = false ∨ x.indexOk = false → t.ink.kept = false ∧ t.ink.dramOk = true ∧
        t.blot.raised = s.blot.raised ++ [s.event 0x0906 ALARM 0 s.host.resetCause.toNat]) ∧
      (∀ d, x.dramFailed = some d → t.ink = { s.ink.lose with
          waiting := s.ink.waiting
          closed := s.ink.closed } ∧ t.ink.dramOk = false ∧
        t.blot.raised = s.blot.raised ++ [s.event 0x0906 ALARM 0 s.host.resetCause.toNat, s.event 0x1008 ALARM 0 d.val]) ∧
      t.chan = s.chan ∧ t.nibs = s.nibs) ∧
    (s.rst.stage = 6 → (Completes (.releaseStage x) s fun t => t.rst.stage = 7 ∧ t.quire.epoch = s.now ∧
        ∀ k, k ∈ x.nibsFailed → (t.nibOf k).role = .retired) ∧
      (x.nibsFailed = [] → (∀ g : Fin 17, (s.nibOf ⟨g.val, by omega⟩).role ≠ .retired) →
        Completes (.releaseStage x) s fun t => t.nibs = s.nibs ∧ t.blot = s.blot)) ∧
    (s.rst.stage = 7 → Completes (.releaseStage x) s fun t => t.rst.stage = 8 ∧
      (∀ f, (t.dieOf f).dlineOk = (x.dlineFailed.filter fun e => e.1 == f).isEmpty) ∧ (x.dlineFailed = [] → t.blot = s.blot) ∧
      t.rst.phaseAt = some s.now ∧
      (∀ n, t.ch n = { s.ch n with
        meas := { (s.ch n).meas with
          cal := (s.chv n).calib
          calNext := none } })) ∧
    (s.rst.stage = 8 → Completes (.releaseStage x) s fun t => t.rst.stage = 9 ∧ t.margin.inReset = false ∧
      { t.margin with inReset := s.margin.inReset } = s.margin ∧
      { t with
        rst := s.rst
        margin := s.margin } = s) ∧
    (s.rst.stage = 9 → Completes (.releaseStage x) s fun t => t.rst.stage = 10 ∧ { t with rst := s.rst } = s) ∧
    (s.rst.stage = 10 → Completes (.releaseStage x) s fun t => t.rst.stage = 11 ∧ t.host.pcieReset = false ∧
      { t with
        rst := s.rst
        host := s.host } = s) ∧
    (s.rst.stage = 11 → s.rst.coverC = true → exec (.releaseStage x) s = .next s) ∧
    (s.rst.stage = 11 → s.rst.coverC = false → s.folio.loader = none → s.folio.mbReady = false → 2 ≤ s.folio.voters.length → s.folio.copyOk = false →
      s.rst.bootSrc = 0 →
      (x.firstFail = 0 → Completes (.releaseStage x) s fun t => t.folio.copyOk = true ∧ t.folio.fwVersion = x.fwVersion ∧
        t.folio.fwCrc = x.fwCrc ∧ t.folio.mbReady = false ∧ t.blot = s.blot ∧ { t with folio := s.folio } = s) ∧
      (x.firstFail ≠ 0 → x.otherFail = 0 → Completes (.releaseStage x) s fun t => t.folio.copyOk = true ∧
        t.blot.raised = s.blot.raised ++ [s.event 0x1006 ALARM x.firstSlot.val (x.firstFail.val + 2 ^ 32 * x.firstSeq.toNat)]) ∧
      (x.firstFail ≠ 0 → x.otherFail ≠ 0 → Completes (.releaseStage x) s fun t => t.folio.copyOk = false ∧ t.folio.mbReady = true ∧
        t.folio.loader = some (true, true))) ∧
    (s.rst.stage = 11 → s.rst.coverC = false → s.folio.loader = none → s.folio.mbReady = false → 2 ≤ s.folio.voters.length → s.folio.copyOk = false →
      s.rst.bootSrc ≠ 0 → Completes (.releaseStage x) s fun t => t.folio.mbReady = true ∧
        t.folio.loader = some (s.rst.bootSrc != 1, s.rst.bootSrc != 2) ∧ s.event 0x1007 NOTICE 0 s.rst.bootSrc ∈ t.blot.raised)) ∧
  (∀ s d, s.rst.stage = 0 ∨ clockStage d ≠ s.rst.stage → exec (.clkNotGood d) s = .next s) ∧
  (∀ s d, clockStage d = 2 → s.rst.stage = 2 →
    Completes (.clkNotGood d) s fun t => t.rst = s.rst ∧ bit t.host.resetCause 15 = true ∧
      t.blot.raised = s.blot.raised ++ [s.event 0x1002 ALARM 0 (domainCode d + 512)]) ∧
  (∀ s d, (d = .safe ∧ s.rst.stage = 8) ∨ (d = .host ∧ s.rst.stage = 10) →
    Completes (.clkNotGood d) s fun t => t.rst.stage = s.rst.stage + 1 ∧ d ∈ t.rst.badClocks ∧ bit t.host.resetCause 15 = true ∧
      t.margin = s.margin ∧ t.host.pcieReset = s.host.pcieReset ∧
      t.blot.raised = s.blot.raised ++ [s.event 0x1002 ALARM 0 (domainCode d + 256 * s.rst.stage)]) ∧
  (∀ s d, d ∉ s.rst.badClocks → exec (.clkGood d) s = .next s) ∧
  (∀ s d, d ∈ s.rst.badClocks → Completes (.clkGood d) s fun t => d ∉ t.rst.badClocks ∧ t.rst.stage = s.rst.stage ∧
    (d = .safe → t.margin.inReset = false ∧ t.host = s.host) ∧ (d = .host → t.host.pcieReset = false ∧ t.margin = s.margin))

/-- Block resets and power (R187, R243, R261, R316, R399, R454, R455, R458, R471 to R479): a block reset acts when its block is idle or is forced, sets
CTL_B and reports 0x1003; a crossing that flushed reports its count; a falling PFAIL_N ramps the channels down, shorts the coils and
stops the transmitters, and 5 ms later the device resets itself; WAKE_N and PGOOD_IN end STANDBY. Completes: blockResetIdle,
blockResetForced, crossingFlushed, pfailSequence, pfailNRise, pfailSelfReset, wakeN, standbyHoldEnd, pgoodInRise, standbyExitTimeout. -/
def Obligations.BlockResetsAndPowerAct : Prop :=
  (∀ s, s.rst.block = [] → exec .blockResetIdle s = .next s ∧ ∀ k, exec (.blockResetForced k) s = .next s) ∧
  (∀ s, s.blockIdle = false → exec .blockResetIdle s = .next s) ∧
  (∀ s b j l i (f : Bool) k, (i = .blockResetIdle ∧ f = false ∧ k = 0 ∧ s.blockIdle = true) ∨ (i = .blockResetForced k ∧ f = true ∧
        s.ranOut (.block b j) = true) →
    s.rst.block = (b, j) :: l → (b = 5 → s.hostAlone = true) →
    (Completes i s fun t => t.rst.block = l ∧ bit t.host.resetCause 7 = true ∧
      (∃ e, t.blot.raised.getLast? = some e ∧ e.code = 0x1003 ∧ e.param = BitVec.ofNat 64 (j + 256 * (if f = true then 1 else 0) + 2 ^ 32 * (k % 2 ^ 32))) ∧
      t.chan = s.chan ∧ t.vel = s.vel) ∧
    (b = 2 → Completes i s fun t => ((s.unit (Fin.ofNat 32 j)).state ≠ .idle → (t.unit (Fin.ofNat 32 j)).state = .configured ∧
      (t.unit (Fin.ofNat 32 j)).stored = 0) ∧ (∀ u, u ≠ Fin.ofNat 32 j → t.unit u = s.unit u)) ∧
    (b = 3 → Completes i s fun t => t.ink.dramOk = s.ink.dramOk ∧ t.ink.retired = s.ink.retired ∧
      (k = 0 → t.ink.waiting = s.ink.waiting)) ∧
    (b = 4 → Completes i s fun t => t.linear = [] ∧ t.margin.referenced = 0 ∧
      ∀ a, (t.ax a).state = .disabled ∧ (t.ax a).pos = (s.ax a).pos ∧ (t.ax a).homed = false ∧ (t.ax a).cfg = (s.ax a).cfg) ∧
    (b = 6 → Completes i s fun t => (t.port (Fin.ofNat 4 j)).up = false ∧ (t.port (Fin.ofNat 4 j)).q0 = [] ∧
      (t.port (Fin.ofNat 4 j)).q1 = [] ∧ (t.port (Fin.ofNat 4 j)).q2 = [])) ∧
  (∀ s b j l k, s.rst.block = (b, j) :: l → s.ranOut (.block b j) = false → exec (.blockResetForced k) s = .next s) ∧
  (∀ s j l i, i = .blockResetIdle ∨ (s.ranOut (.block 5 j) = true ∧ ∃ k, i = .blockResetForced k) → s.rst.block = (5, j) :: l →
      s.hostAlone = false →
    Completes i s fun t => t.rst.block = l ∧ { t with rst := s.rst } = s) ∧
  (∀ s x d, exec (.crossingFlushed x d 0) s = .next s) ∧
  (∀ s x d k, k ≠ 0 → k < 2 ^ 32 → exec (.crossingFlushed x d k) s = .next (s.raise 0x1004 NOTICE x (domainCode d + 2 ^ 32 * k))) ∧
  (∀ s, s.awake = false ∨ s.releasing = true ∨ s.rst.pfailSeq = true →
    exec .pfailSequence s = .next { s with rst := { s.rst with pfailLow := true } }) ∧
  (∀ s, s.awake = true → s.releasing = false → s.rst.pfailSeq = false →
    Completes .pfailSequence s fun t => t.rst.pfailLow = true ∧ t.rst.pfailSeq = true ∧ t.host.txOff = true ∧ t.linear = [] ∧
      (∀ n, (t.ch n).state = (s.ch n).state) ∧
      (∀ n, (s.ch n).state.active = true → (s.ch n).drive.period ≠ 0 → (t.ch n).drive.ramp.isSome = true) ∧
      (∀ n, (s.ch n).state.active = true → (s.ch n).drive.period = 0 → (t.ch n).drive.driving = false ∧ (t.ch n).pfailDue = true) ∧
      (∀ n, (s.ch n).state.active = false → t.ch n = s.ch n) ∧
      (∀ a, (s.ax a).state ≠ .disabled → (t.ax a).shorted = true ∧ ((s.ax a).cfg = axCfgReset → (t.ax a).posUncertain = true) ∧
        (t.ax a).homing = none ∧ (t.ax a).vSq = 0 ∧ (t.ax a).pos = (s.ax a).pos) ∧
      (∀ a, (s.ax a).state = .disabled → { t.ax a with stops := (s.ax a).stops } = s.ax a) ∧ t.margin = s.margin) ∧
  (∀ s, exec .pfailNRise s = .next { s with rst := { s.rst with pfailLow := false } }) ∧
  (∀ s b, s.rst.pfailSeq = false ∨ s.ranOut .pfail = false → exec (.pfailSelfReset b) s = .next s) ∧
  (∀ s b, s.rst.pfailSeq = true → s.ranOut .pfail = true → Completes (.pfailSelfReset b) s fun t => Restarted s t ∧ bit t.host.resetCause 2 = true ∧
    t.rst.pfailSeq = false ∧ (s.rst.stage = 12 → t.rst.keepStore = true) ∧ (0x1015, BitVec.ofNat 64 (if b = true then 1 else 0)) ∈ t.rst.after ∧
    (s.rst.coverF = false → s.rst.stage = 12 → t.rst.stage = 2)) ∧
  (∀ s, s.rst.power ≠ .standby → exec .wakeN s = .next s) ∧
  (∀ s, s.rst.power = .standby →
    (s.rst.holdLow = true → Completes .wakeN s fun t => t.rst.power = .standby ∧ t.rst.wakePending = true ∧ t.rst.pwrReq = s.rst.pwrReq ∧
      { t with rst := s.rst } = s) ∧
    (s.rst.holdLow = false → Completes .wakeN s fun t => t.rst.power = .waking ∧ t.rst.pwrReq = true ∧
      (Timer.standbyExit, s.now + second) ∈ t.timers ∧ { t with
        rst := s.rst
        timers := s.timers } = s)) ∧
  (∀ s, s.ranOut .standbyHold = false → exec .standbyHoldEnd s = .next s) ∧
  (∀ s, s.ranOut .standbyHold = true → (s.rst.power = .standby → s.rst.wakePending = true → Completes .standbyHoldEnd s fun t => t.rst.power = .waking ∧ t.rst.pwrReq = true ∧
      t.rst.holdLow = false ∧ { t with
        rst := s.rst
        timers := s.timers } = s) ∧
    (s.rst.power ≠ .standby ∨ s.rst.wakePending = false →
      exec .standbyHoldEnd s = .next { s with rst := { s.rst with holdLow := false } })) ∧
  (∀ s, s.rst.power = .standby → exec .pgoodInRise s = .next s) ∧
  (∀ s, s.rst.power = .waking → Completes .pgoodInRise s fun t => Restarted s t ∧ t.rst.pgood = true ∧ bit t.host.resetCause 1 = true ∧
    (0x1012, BitVec.ofNat 64 (if s.rst.pgoodLate = true then 1 else 0)) ∈ t.rst.after ∧ (s.rst.sources = [] → t.rst.stage = 2 ∧
      bits t.host.resetCause 25 24 = 1) ∧ t.rst.pgoodLate = false) ∧
  (∀ s, s.rst.power = .run → ResetSrc.powerOn ∉ s.rst.sources → exec .pgoodInRise s = .next { s with rst := { s.rst with pgood := true } }) ∧
  (∀ s, s.rst.power = .run → s.rst.sources = [.powerOn] → s.rst.stage = 0 → s.rst.flushing = none → bits s.host.resetCause 25 24 = 0 →
    Completes .pgoodInRise s fun t => t.rst.stage = 1 ∧ t.rst.sources = [] ∧ t.rst.pgood = true ∧ { t with rst := s.rst } = s) ∧
  (∀ s, s.rst.power ≠ .waking ∨ s.ranOut .standbyExit = false → exec .standbyExitTimeout s = .next s) ∧
  (∀ s, s.rst.power = .waking → s.ranOut .standbyExit = true → Completes .standbyExitTimeout s fun t => t.rst.power = .standby ∧ t.rst.pwrReq = false ∧
    t.rst.pgoodLate = true ∧ { t with rst := s.rst } = s)

/-- What the spec gives for the state after power-on (R17, R339, R342, R356, R443, R444): only POWER_ON is asserted and set in RESET_CAUSE, REACH is W, nothing is
released, no session, doorbell or item exists, interrupts are disabled, no gate drives, and the Nibs serve their own groups. -/
def Obligations.ResetValues : Prop :=
  State.reset.rst.sources = [.powerOn] ∧ State.reset.rst.stage = 0 ∧ State.reset.host.resetCause = 1 ∧ State.reset.pending = [] ∧
  State.reset.rst.pwrReq = true ∧ State.reset.folio.mbReady = false ∧ State.reset.host.pcieReset = true ∧ State.reset.margin.inReset = true ∧
  State.reset.host.irqEn = 0 ∧ State.reset.host.irqStat = 0 ∧ State.reset.quire.items = [] ∧ State.reset.tb.running = false ∧
  State.reset.ink.dramOk = false ∧ State.reset.rings = [] ∧
  (∀ k, (State.reset.mbox k).session = none ∧ (State.reset.mbox k).cfg = 0 ∧ (State.reset.mbox k).cmdTail = 0 ∧
    (State.reset.mbox k).rspHead = 0) ∧
  (∀ n, (State.reset.ch n).drive.driving = false ∧ (State.reset.ch n).run.runValid = false ∧ (State.reset.ch n).state.active = false) ∧
  (∀ a, (State.reset.ax a).state = .disabled ∧ (State.reset.ax a).homed = false) ∧
  (∀ u, (State.reset.unit u).state = .idle) ∧ (∀ k, (State.reset.slotOf k).state = .empty) ∧ (∀ k, (State.reset.stream k).open_ = false) ∧
  (∀ p, (State.reset.port p).up = false) ∧
  (∀ k : Fin 20, (State.reset.nibOf k).group = if h : k.val < 17 then some ⟨k.val, h⟩ else none)

/-- The mailbox memory after power-on is well formed. -/
def Obligations.RingsOkAtReset : Prop := RingsOk State.reset

/-- Every step of the block, whatever command stands at the front of its queue, keeps the mailbox memory well formed and inside the
implemented part of BAR2 (R343, R345, R346, R394). -/
def Obligations.RingsOkKept : Prop := ∀ s t, RingsOk s → step s = .next t → RingsOk t
end

