-- ==== Sys2Proof/Laws/State.lean ====
section
/-! SUPPORT. What each update of one element of the state changes and leaves: one lemma per field and update, so that no later
proof unfolds a record update. -/

namespace Sys2Proof.Machine

/-! ### State vectors -/

@[simp] theorem vget_vset_self {α : Type} {n : Nat} (v : Vector α n) (i : Fin n) (x : α) : vget (vset v i x) i = x := by
  simp [vget, vset]

theorem vget_vset {α : Type} {n : Nat} (v : Vector α n) (i j : Fin n) (x : α) :
    vget (vset v i x) j = if i = j then x else vget v j := by
  simp only [vget, vset, Fin.getElem_fin, Vector.getElem_set, Fin.ext_iff]

theorem vget_vset_of_ne {α : Type} {n : Nat} (v : Vector α n) {i j : Fin n} (x : α) (h : i ≠ j) :
    vget (vset v i x) j = vget v j := by
  rw [vget_vset, if_neg h]

@[simp] theorem vset_vget_self {α : Type} {n : Nat} (v : Vector α n) (i : Fin n) : vset v i (vget v i) = v := by
  simp [vget, vset]

@[simp] theorem vget_replicate {α : Type} {n : Nat} (x : α) (i : Fin n) : vget (Vector.replicate n x) i = x := by
  simp [vget]

/-! ### updCh -/

@[simp] theorem State.updCh_ch (i : Fin 256) (f : Channel → Channel) (s : State) : (s.updCh i f).ch i = f (s.ch i) :=
  vget_vset_self _ _ _

theorem State.updCh_ch_of_ne {i j : Fin 256} (f : Channel → Channel) (s : State) (h : i ≠ j) : (s.updCh i f).ch j = s.ch j :=
  vget_vset_of_ne _ _ h

theorem State.updCh_self (i : Fin 256) (s : State) : s.updCh i (fun x => x) = s := by
  unfold State.updCh State.setCh State.ch; rw [vset_vget_self]

@[simp] theorem State.updCh_pending (i : Fin 256) (f : Channel → Channel) (s : State) : (s.updCh i f).pending = s.pending := rfl
@[simp] theorem State.updCh_now (i : Fin 256) (f : Channel → Channel) (s : State) : (s.updCh i f).now = s.now := rfl
@[simp] theorem State.updCh_timers (i : Fin 256) (f : Channel → Channel) (s : State) : (s.updCh i f).timers = s.timers := rfl
@[simp] theorem State.updCh_rings (i : Fin 256) (f : Channel → Channel) (s : State) : (s.updCh i f).rings = s.rings := rfl
@[simp] theorem State.updCh_group (i : Fin 256) (f : Channel → Channel) (s : State) : (s.updCh i f).group = s.group := rfl
@[simp] theorem State.updCh_die (i : Fin 256) (f : Channel → Channel) (s : State) : (s.updCh i f).die = s.die := rfl
@[simp] theorem State.updCh_nibs (i : Fin 256) (f : Channel → Channel) (s : State) : (s.updCh i f).nibs = s.nibs := rfl
@[simp] theorem State.updCh_slot (i : Fin 256) (f : Channel → Channel) (s : State) : (s.updCh i f).slot = s.slot := rfl
@[simp] theorem State.updCh_quire (i : Fin 256) (f : Channel → Channel) (s : State) : (s.updCh i f).quire = s.quire := rfl
@[simp] theorem State.updCh_pounce (i : Fin 256) (f : Channel → Channel) (s : State) : (s.updCh i f).pounce = s.pounce := rfl
@[simp] theorem State.updCh_ink (i : Fin 256) (f : Channel → Channel) (s : State) : (s.updCh i f).ink = s.ink := rfl
@[simp] theorem State.updCh_axis (i : Fin 256) (f : Channel → Channel) (s : State) : (s.updCh i f).axis = s.axis := rfl
@[simp] theorem State.updCh_linear (i : Fin 256) (f : Channel → Channel) (s : State) : (s.updCh i f).linear = s.linear := rfl
@[simp] theorem State.updCh_margin (i : Fin 256) (f : Channel → Channel) (s : State) : (s.updCh i f).margin = s.margin := rfl
@[simp] theorem State.updCh_host (i : Fin 256) (f : Channel → Channel) (s : State) : (s.updCh i f).host = s.host := rfl
@[simp] theorem State.updCh_folio (i : Fin 256) (f : Channel → Channel) (s : State) : (s.updCh i f).folio = s.folio := rfl
@[simp] theorem State.updCh_fab (i : Fin 256) (f : Channel → Channel) (s : State) : (s.updCh i f).fab = s.fab := rfl
@[simp] theorem State.updCh_tb (i : Fin 256) (f : Channel → Channel) (s : State) : (s.updCh i f).tb = s.tb := rfl
@[simp] theorem State.updCh_vel (i : Fin 256) (f : Channel → Channel) (s : State) : (s.updCh i f).vel = s.vel := rfl
@[simp] theorem State.updCh_blot (i : Fin 256) (f : Channel → Channel) (s : State) : (s.updCh i f).blot = s.blot := rfl
@[simp] theorem State.updCh_rst (i : Fin 256) (f : Channel → Channel) (s : State) : (s.updCh i f).rst = s.rst := rfl

@[simp] theorem State.updCh_grp (i : Fin 256) (f : Channel → Channel) (s : State) (j : Fin 16) : (s.updCh i f).grp j = s.grp j := rfl
@[simp] theorem State.updCh_dieOf (i : Fin 256) (f : Channel → Channel) (s : State) (j : Fin 4) : (s.updCh i f).dieOf j = s.dieOf j := rfl
@[simp] theorem State.updCh_unit (i : Fin 256) (f : Channel → Channel) (s : State) (j : Fin 32) : (s.updCh i f).unit j = s.unit j := rfl
@[simp] theorem State.updCh_ax (i : Fin 256) (f : Channel → Channel) (s : State) (j : Fin 8) : (s.updCh i f).ax j = s.ax j := rfl
@[simp] theorem State.updCh_slotOf (i : Fin 256) (f : Channel → Channel) (s : State) (j : Fin 1024) : (s.updCh i f).slotOf j = s.slotOf j := rfl
@[simp] theorem State.updCh_mbox (i : Fin 256) (f : Channel → Channel) (s : State) (j : Fin 8) : (s.updCh i f).mbox j = s.mbox j := rfl
@[simp] theorem State.updCh_port (i : Fin 256) (f : Channel → Channel) (s : State) (j : Fin 4) : (s.updCh i f).port j = s.port j := rfl
@[simp] theorem State.updCh_nibOf (i : Fin 256) (f : Channel → Channel) (s : State) (j : Fin 20) : (s.updCh i f).nibOf j = s.nibOf j := rfl
@[simp] theorem State.updCh_stream (i : Fin 256) (f : Channel → Channel) (s : State) (j : Fin 4) : (s.updCh i f).stream j = s.stream j := rfl
@[simp] theorem State.updCh_chv (i : Fin 256) (f : Channel → Channel) (s : State) (j : Fin 256) : (s.updCh i f).chv j = s.chv j := rfl

/-! ### updGrp -/

@[simp] theorem State.updGrp_grp (i : Fin 16) (f : Group → Group) (s : State) : (s.updGrp i f).grp i = f (s.grp i) :=
  vget_vset_self _ _ _

theorem State.updGrp_grp_of_ne {i j : Fin 16} (f : Group → Group) (s : State) (h : i ≠ j) : (s.updGrp i f).grp j = s.grp j :=
  vget_vset_of_ne _ _ h

theorem State.updGrp_self (i : Fin 16) (s : State) : s.updGrp i (fun x => x) = s := by
  unfold State.updGrp State.grp; rw [vset_vget_self]

@[simp] theorem State.updGrp_pending (i : Fin 16) (f : Group → Group) (s : State) : (s.updGrp i f).pending = s.pending := rfl
@[simp] theorem State.updGrp_now (i : Fin 16) (f : Group → Group) (s : State) : (s.updGrp i f).now = s.now := rfl
@[simp] theorem State.updGrp_timers (i : Fin 16) (f : Group → Group) (s : State) : (s.updGrp i f).timers = s.timers := rfl
@[simp] theorem State.updGrp_rings (i : Fin 16) (f : Group → Group) (s : State) : (s.updGrp i f).rings = s.rings := rfl
@[simp] theorem State.updGrp_chan (i : Fin 16) (f : Group → Group) (s : State) : (s.updGrp i f).chan = s.chan := rfl
@[simp] theorem State.updGrp_die (i : Fin 16) (f : Group → Group) (s : State) : (s.updGrp i f).die = s.die := rfl
@[simp] theorem State.updGrp_nibs (i : Fin 16) (f : Group → Group) (s : State) : (s.updGrp i f).nibs = s.nibs := rfl
@[simp] theorem State.updGrp_slot (i : Fin 16) (f : Group → Group) (s : State) : (s.updGrp i f).slot = s.slot := rfl
@[simp] theorem State.updGrp_quire (i : Fin 16) (f : Group → Group) (s : State) : (s.updGrp i f).quire = s.quire := rfl
@[simp] theorem State.updGrp_pounce (i : Fin 16) (f : Group → Group) (s : State) : (s.updGrp i f).pounce = s.pounce := rfl
@[simp] theorem State.updGrp_ink (i : Fin 16) (f : Group → Group) (s : State) : (s.updGrp i f).ink = s.ink := rfl
@[simp] theorem State.updGrp_axis (i : Fin 16) (f : Group → Group) (s : State) : (s.updGrp i f).axis = s.axis := rfl
@[simp] theorem State.updGrp_linear (i : Fin 16) (f : Group → Group) (s : State) : (s.updGrp i f).linear = s.linear := rfl
@[simp] theorem State.updGrp_margin (i : Fin 16) (f : Group → Group) (s : State) : (s.updGrp i f).margin = s.margin := rfl
@[simp] theorem State.updGrp_host (i : Fin 16) (f : Group → Group) (s : State) : (s.updGrp i f).host = s.host := rfl
@[simp] theorem State.updGrp_folio (i : Fin 16) (f : Group → Group) (s : State) : (s.updGrp i f).folio = s.folio := rfl
@[simp] theorem State.updGrp_fab (i : Fin 16) (f : Group → Group) (s : State) : (s.updGrp i f).fab = s.fab := rfl
@[simp] theorem State.updGrp_tb (i : Fin 16) (f : Group → Group) (s : State) : (s.updGrp i f).tb = s.tb := rfl
@[simp] theorem State.updGrp_vel (i : Fin 16) (f : Group → Group) (s : State) : (s.updGrp i f).vel = s.vel := rfl
@[simp] theorem State.updGrp_blot (i : Fin 16) (f : Group → Group) (s : State) : (s.updGrp i f).blot = s.blot := rfl
@[simp] theorem State.updGrp_rst (i : Fin 16) (f : Group → Group) (s : State) : (s.updGrp i f).rst = s.rst := rfl

@[simp] theorem State.updGrp_ch (i : Fin 16) (f : Group → Group) (s : State) (j : Fin 256) : (s.updGrp i f).ch j = s.ch j := rfl
@[simp] theorem State.updGrp_dieOf (i : Fin 16) (f : Group → Group) (s : State) (j : Fin 4) : (s.updGrp i f).dieOf j = s.dieOf j := rfl
@[simp] theorem State.updGrp_unit (i : Fin 16) (f : Group → Group) (s : State) (j : Fin 32) : (s.updGrp i f).unit j = s.unit j := rfl
@[simp] theorem State.updGrp_ax (i : Fin 16) (f : Group → Group) (s : State) (j : Fin 8) : (s.updGrp i f).ax j = s.ax j := rfl
@[simp] theorem State.updGrp_slotOf (i : Fin 16) (f : Group → Group) (s : State) (j : Fin 1024) : (s.updGrp i f).slotOf j = s.slotOf j := rfl
@[simp] theorem State.updGrp_mbox (i : Fin 16) (f : Group → Group) (s : State) (j : Fin 8) : (s.updGrp i f).mbox j = s.mbox j := rfl
@[simp] theorem State.updGrp_port (i : Fin 16) (f : Group → Group) (s : State) (j : Fin 4) : (s.updGrp i f).port j = s.port j := rfl
@[simp] theorem State.updGrp_nibOf (i : Fin 16) (f : Group → Group) (s : State) (j : Fin 20) : (s.updGrp i f).nibOf j = s.nibOf j := rfl
@[simp] theorem State.updGrp_stream (i : Fin 16) (f : Group → Group) (s : State) (j : Fin 4) : (s.updGrp i f).stream j = s.stream j := rfl
@[simp] theorem State.updGrp_chv (i : Fin 16) (f : Group → Group) (s : State) (j : Fin 256) : (s.updGrp i f).chv j = s.chv j := rfl

/-! ### updDie -/

@[simp] theorem State.updDie_dieOf (i : Fin 4) (f : Die → Die) (s : State) : (s.updDie i f).dieOf i = f (s.dieOf i) :=
  vget_vset_self _ _ _

theorem State.updDie_dieOf_of_ne {i j : Fin 4} (f : Die → Die) (s : State) (h : i ≠ j) : (s.updDie i f).dieOf j = s.dieOf j :=
  vget_vset_of_ne _ _ h

theorem State.updDie_self (i : Fin 4) (s : State) : s.updDie i (fun x => x) = s := by
  unfold State.updDie State.dieOf; rw [vset_vget_self]

@[simp] theorem State.updDie_pending (i : Fin 4) (f : Die → Die) (s : State) : (s.updDie i f).pending = s.pending := rfl
@[simp] theorem State.updDie_now (i : Fin 4) (f : Die → Die) (s : State) : (s.updDie i f).now = s.now := rfl
@[simp] theorem State.updDie_timers (i : Fin 4) (f : Die → Die) (s : State) : (s.updDie i f).timers = s.timers := rfl
@[simp] theorem State.updDie_rings (i : Fin 4) (f : Die → Die) (s : State) : (s.updDie i f).rings = s.rings := rfl
@[simp] theorem State.updDie_chan (i : Fin 4) (f : Die → Die) (s : State) : (s.updDie i f).chan = s.chan := rfl
@[simp] theorem State.updDie_group (i : Fin 4) (f : Die → Die) (s : State) : (s.updDie i f).group = s.group := rfl
@[simp] theorem State.updDie_nibs (i : Fin 4) (f : Die → Die) (s : State) : (s.updDie i f).nibs = s.nibs := rfl
@[simp] theorem State.updDie_slot (i : Fin 4) (f : Die → Die) (s : State) : (s.updDie i f).slot = s.slot := rfl
@[simp] theorem State.updDie_quire (i : Fin 4) (f : Die → Die) (s : State) : (s.updDie i f).quire = s.quire := rfl
@[simp] theorem State.updDie_pounce (i : Fin 4) (f : Die → Die) (s : State) : (s.updDie i f).pounce = s.pounce := rfl
@[simp] theorem State.updDie_ink (i : Fin 4) (f : Die → Die) (s : State) : (s.updDie i f).ink = s.ink := rfl
@[simp] theorem State.updDie_axis (i : Fin 4) (f : Die → Die) (s : State) : (s.updDie i f).axis = s.axis := rfl
@[simp] theorem State.updDie_linear (i : Fin 4) (f : Die → Die) (s : State) : (s.updDie i f).linear = s.linear := rfl
@[simp] theorem State.updDie_margin (i : Fin 4) (f : Die → Die) (s : State) : (s.updDie i f).margin = s.margin := rfl
@[simp] theorem State.updDie_host (i : Fin 4) (f : Die → Die) (s : State) : (s.updDie i f).host = s.host := rfl
@[simp] theorem State.updDie_folio (i : Fin 4) (f : Die → Die) (s : State) : (s.updDie i f).folio = s.folio := rfl
@[simp] theorem State.updDie_fab (i : Fin 4) (f : Die → Die) (s : State) : (s.updDie i f).fab = s.fab := rfl
@[simp] theorem State.updDie_tb (i : Fin 4) (f : Die → Die) (s : State) : (s.updDie i f).tb = s.tb := rfl
@[simp] theorem State.updDie_vel (i : Fin 4) (f : Die → Die) (s : State) : (s.updDie i f).vel = s.vel := rfl
@[simp] theorem State.updDie_blot (i : Fin 4) (f : Die → Die) (s : State) : (s.updDie i f).blot = s.blot := rfl
@[simp] theorem State.updDie_rst (i : Fin 4) (f : Die → Die) (s : State) : (s.updDie i f).rst = s.rst := rfl

@[simp] theorem State.updDie_ch (i : Fin 4) (f : Die → Die) (s : State) (j : Fin 256) : (s.updDie i f).ch j = s.ch j := rfl
@[simp] theorem State.updDie_grp (i : Fin 4) (f : Die → Die) (s : State) (j : Fin 16) : (s.updDie i f).grp j = s.grp j := rfl
@[simp] theorem State.updDie_unit (i : Fin 4) (f : Die → Die) (s : State) (j : Fin 32) : (s.updDie i f).unit j = s.unit j := rfl
@[simp] theorem State.updDie_ax (i : Fin 4) (f : Die → Die) (s : State) (j : Fin 8) : (s.updDie i f).ax j = s.ax j := rfl
@[simp] theorem State.updDie_slotOf (i : Fin 4) (f : Die → Die) (s : State) (j : Fin 1024) : (s.updDie i f).slotOf j = s.slotOf j := rfl
@[simp] theorem State.updDie_mbox (i : Fin 4) (f : Die → Die) (s : State) (j : Fin 8) : (s.updDie i f).mbox j = s.mbox j := rfl
@[simp] theorem State.updDie_port (i : Fin 4) (f : Die → Die) (s : State) (j : Fin 4) : (s.updDie i f).port j = s.port j := rfl
@[simp] theorem State.updDie_nibOf (i : Fin 4) (f : Die → Die) (s : State) (j : Fin 20) : (s.updDie i f).nibOf j = s.nibOf j := rfl
@[simp] theorem State.updDie_stream (i : Fin 4) (f : Die → Die) (s : State) (j : Fin 4) : (s.updDie i f).stream j = s.stream j := rfl
@[simp] theorem State.updDie_chv (i : Fin 4) (f : Die → Die) (s : State) (j : Fin 256) : (s.updDie i f).chv j = s.chv j := rfl

/-! ### updUnit -/

@[simp] theorem State.updUnit_unit (i : Fin 32) (f : Pounce → Pounce) (s : State) : (s.updUnit i f).unit i = f (s.unit i) :=
  vget_vset_self _ _ _

theorem State.updUnit_unit_of_ne {i j : Fin 32} (f : Pounce → Pounce) (s : State) (h : i ≠ j) : (s.updUnit i f).unit j = s.unit j :=
  vget_vset_of_ne _ _ h

theorem State.updUnit_self (i : Fin 32) (s : State) : s.updUnit i (fun x => x) = s := by
  unfold State.updUnit State.unit; rw [vset_vget_self]

@[simp] theorem State.updUnit_pending (i : Fin 32) (f : Pounce → Pounce) (s : State) : (s.updUnit i f).pending = s.pending := rfl
@[simp] theorem State.updUnit_now (i : Fin 32) (f : Pounce → Pounce) (s : State) : (s.updUnit i f).now = s.now := rfl
@[simp] theorem State.updUnit_timers (i : Fin 32) (f : Pounce → Pounce) (s : State) : (s.updUnit i f).timers = s.timers := rfl
@[simp] theorem State.updUnit_rings (i : Fin 32) (f : Pounce → Pounce) (s : State) : (s.updUnit i f).rings = s.rings := rfl
@[simp] theorem State.updUnit_chan (i : Fin 32) (f : Pounce → Pounce) (s : State) : (s.updUnit i f).chan = s.chan := rfl
@[simp] theorem State.updUnit_group (i : Fin 32) (f : Pounce → Pounce) (s : State) : (s.updUnit i f).group = s.group := rfl
@[simp] theorem State.updUnit_die (i : Fin 32) (f : Pounce → Pounce) (s : State) : (s.updUnit i f).die = s.die := rfl
@[simp] theorem State.updUnit_nibs (i : Fin 32) (f : Pounce → Pounce) (s : State) : (s.updUnit i f).nibs = s.nibs := rfl
@[simp] theorem State.updUnit_slot (i : Fin 32) (f : Pounce → Pounce) (s : State) : (s.updUnit i f).slot = s.slot := rfl
@[simp] theorem State.updUnit_quire (i : Fin 32) (f : Pounce → Pounce) (s : State) : (s.updUnit i f).quire = s.quire := rfl
@[simp] theorem State.updUnit_ink (i : Fin 32) (f : Pounce → Pounce) (s : State) : (s.updUnit i f).ink = s.ink := rfl
@[simp] theorem State.updUnit_axis (i : Fin 32) (f : Pounce → Pounce) (s : State) : (s.updUnit i f).axis = s.axis := rfl
@[simp] theorem State.updUnit_linear (i : Fin 32) (f : Pounce → Pounce) (s : State) : (s.updUnit i f).linear = s.linear := rfl
@[simp] theorem State.updUnit_margin (i : Fin 32) (f : Pounce → Pounce) (s : State) : (s.updUnit i f).margin = s.margin := rfl
@[simp] theorem State.updUnit_host (i : Fin 32) (f : Pounce → Pounce) (s : State) : (s.updUnit i f).host = s.host := rfl
@[simp] theorem State.updUnit_folio (i : Fin 32) (f : Pounce → Pounce) (s : State) : (s.updUnit i f).folio = s.folio := rfl
@[simp] theorem State.updUnit_fab (i : Fin 32) (f : Pounce → Pounce) (s : State) : (s.updUnit i f).fab = s.fab := rfl
@[simp] theorem State.updUnit_tb (i : Fin 32) (f : Pounce → Pounce) (s : State) : (s.updUnit i f).tb = s.tb := rfl
@[simp] theorem State.updUnit_vel (i : Fin 32) (f : Pounce → Pounce) (s : State) : (s.updUnit i f).vel = s.vel := rfl
@[simp] theorem State.updUnit_blot (i : Fin 32) (f : Pounce → Pounce) (s : State) : (s.updUnit i f).blot = s.blot := rfl
@[simp] theorem State.updUnit_rst (i : Fin 32) (f : Pounce → Pounce) (s : State) : (s.updUnit i f).rst = s.rst := rfl

@[simp] theorem State.updUnit_ch (i : Fin 32) (f : Pounce → Pounce) (s : State) (j : Fin 256) : (s.updUnit i f).ch j = s.ch j := rfl
@[simp] theorem State.updUnit_grp (i : Fin 32) (f : Pounce → Pounce) (s : State) (j : Fin 16) : (s.updUnit i f).grp j = s.grp j := rfl
@[simp] theorem State.updUnit_dieOf (i : Fin 32) (f : Pounce → Pounce) (s : State) (j : Fin 4) : (s.updUnit i f).dieOf j = s.dieOf j := rfl
@[simp] theorem State.updUnit_ax (i : Fin 32) (f : Pounce → Pounce) (s : State) (j : Fin 8) : (s.updUnit i f).ax j = s.ax j := rfl
@[simp] theorem State.updUnit_slotOf (i : Fin 32) (f : Pounce → Pounce) (s : State) (j : Fin 1024) : (s.updUnit i f).slotOf j = s.slotOf j := rfl
@[simp] theorem State.updUnit_mbox (i : Fin 32) (f : Pounce → Pounce) (s : State) (j : Fin 8) : (s.updUnit i f).mbox j = s.mbox j := rfl
@[simp] theorem State.updUnit_port (i : Fin 32) (f : Pounce → Pounce) (s : State) (j : Fin 4) : (s.updUnit i f).port j = s.port j := rfl
@[simp] theorem State.updUnit_nibOf (i : Fin 32) (f : Pounce → Pounce) (s : State) (j : Fin 20) : (s.updUnit i f).nibOf j = s.nibOf j := rfl
@[simp] theorem State.updUnit_stream (i : Fin 32) (f : Pounce → Pounce) (s : State) (j : Fin 4) : (s.updUnit i f).stream j = s.stream j := rfl
@[simp] theorem State.updUnit_chv (i : Fin 32) (f : Pounce → Pounce) (s : State) (j : Fin 256) : (s.updUnit i f).chv j = s.chv j := rfl

/-! ### updAx -/

@[simp] theorem State.updAx_ax (i : Fin 8) (f : Axis → Axis) (s : State) : (s.updAx i f).ax i = f (s.ax i) :=
  vget_vset_self _ _ _

theorem State.updAx_ax_of_ne {i j : Fin 8} (f : Axis → Axis) (s : State) (h : i ≠ j) : (s.updAx i f).ax j = s.ax j :=
  vget_vset_of_ne _ _ h

theorem State.updAx_self (i : Fin 8) (s : State) : s.updAx i (fun x => x) = s := by
  unfold State.updAx State.ax; rw [vset_vget_self]

@[simp] theorem State.updAx_pending (i : Fin 8) (f : Axis → Axis) (s : State) : (s.updAx i f).pending = s.pending := rfl
@[simp] theorem State.updAx_now (i : Fin 8) (f : Axis → Axis) (s : State) : (s.updAx i f).now = s.now := rfl
@[simp] theorem State.updAx_timers (i : Fin 8) (f : Axis → Axis) (s : State) : (s.updAx i f).timers = s.timers := rfl
@[simp] theorem State.updAx_rings (i : Fin 8) (f : Axis → Axis) (s : State) : (s.updAx i f).rings = s.rings := rfl
@[simp] theorem State.updAx_chan (i : Fin 8) (f : Axis → Axis) (s : State) : (s.updAx i f).chan = s.chan := rfl
@[simp] theorem State.updAx_group (i : Fin 8) (f : Axis → Axis) (s : State) : (s.updAx i f).group = s.group := rfl
@[simp] theorem State.updAx_die (i : Fin 8) (f : Axis → Axis) (s : State) : (s.updAx i f).die = s.die := rfl
@[simp] theorem State.updAx_nibs (i : Fin 8) (f : Axis → Axis) (s : State) : (s.updAx i f).nibs = s.nibs := rfl
@[simp] theorem State.updAx_slot (i : Fin 8) (f : Axis → Axis) (s : State) : (s.updAx i f).slot = s.slot := rfl
@[simp] theorem State.updAx_quire (i : Fin 8) (f : Axis → Axis) (s : State) : (s.updAx i f).quire = s.quire := rfl
@[simp] theorem State.updAx_pounce (i : Fin 8) (f : Axis → Axis) (s : State) : (s.updAx i f).pounce = s.pounce := rfl
@[simp] theorem State.updAx_ink (i : Fin 8) (f : Axis → Axis) (s : State) : (s.updAx i f).ink = s.ink := rfl
@[simp] theorem State.updAx_linear (i : Fin 8) (f : Axis → Axis) (s : State) : (s.updAx i f).linear = s.linear := rfl
@[simp] theorem State.updAx_margin (i : Fin 8) (f : Axis → Axis) (s : State) : (s.updAx i f).margin = s.margin := rfl
@[simp] theorem State.updAx_host (i : Fin 8) (f : Axis → Axis) (s : State) : (s.updAx i f).host = s.host := rfl
@[simp] theorem State.updAx_folio (i : Fin 8) (f : Axis → Axis) (s : State) : (s.updAx i f).folio = s.folio := rfl
@[simp] theorem State.updAx_fab (i : Fin 8) (f : Axis → Axis) (s : State) : (s.updAx i f).fab = s.fab := rfl
@[simp] theorem State.updAx_tb (i : Fin 8) (f : Axis → Axis) (s : State) : (s.updAx i f).tb = s.tb := rfl
@[simp] theorem State.updAx_vel (i : Fin 8) (f : Axis → Axis) (s : State) : (s.updAx i f).vel = s.vel := rfl
@[simp] theorem State.updAx_blot (i : Fin 8) (f : Axis → Axis) (s : State) : (s.updAx i f).blot = s.blot := rfl
@[simp] theorem State.updAx_rst (i : Fin 8) (f : Axis → Axis) (s : State) : (s.updAx i f).rst = s.rst := rfl

@[simp] theorem State.updAx_ch (i : Fin 8) (f : Axis → Axis) (s : State) (j : Fin 256) : (s.updAx i f).ch j = s.ch j := rfl
@[simp] theorem State.updAx_grp (i : Fin 8) (f : Axis → Axis) (s : State) (j : Fin 16) : (s.updAx i f).grp j = s.grp j := rfl
@[simp] theorem State.updAx_dieOf (i : Fin 8) (f : Axis → Axis) (s : State) (j : Fin 4) : (s.updAx i f).dieOf j = s.dieOf j := rfl
@[simp] theorem State.updAx_unit (i : Fin 8) (f : Axis → Axis) (s : State) (j : Fin 32) : (s.updAx i f).unit j = s.unit j := rfl
@[simp] theorem State.updAx_slotOf (i : Fin 8) (f : Axis → Axis) (s : State) (j : Fin 1024) : (s.updAx i f).slotOf j = s.slotOf j := rfl
@[simp] theorem State.updAx_mbox (i : Fin 8) (f : Axis → Axis) (s : State) (j : Fin 8) : (s.updAx i f).mbox j = s.mbox j := rfl
@[simp] theorem State.updAx_port (i : Fin 8) (f : Axis → Axis) (s : State) (j : Fin 4) : (s.updAx i f).port j = s.port j := rfl
@[simp] theorem State.updAx_nibOf (i : Fin 8) (f : Axis → Axis) (s : State) (j : Fin 20) : (s.updAx i f).nibOf j = s.nibOf j := rfl
@[simp] theorem State.updAx_stream (i : Fin 8) (f : Axis → Axis) (s : State) (j : Fin 4) : (s.updAx i f).stream j = s.stream j := rfl
@[simp] theorem State.updAx_chv (i : Fin 8) (f : Axis → Axis) (s : State) (j : Fin 256) : (s.updAx i f).chv j = s.chv j := rfl

/-! ### updSlot -/

@[simp] theorem State.updSlot_slotOf (i : Fin 1024) (f : Slot → Slot) (s : State) : (s.updSlot i f).slotOf i = f (s.slotOf i) :=
  vget_vset_self _ _ _

theorem State.updSlot_slotOf_of_ne {i j : Fin 1024} (f : Slot → Slot) (s : State) (h : i ≠ j) : (s.updSlot i f).slotOf j = s.slotOf j :=
  vget_vset_of_ne _ _ h

theorem State.updSlot_self (i : Fin 1024) (s : State) : s.updSlot i (fun x => x) = s := by
  unfold State.updSlot State.slotOf; rw [vset_vget_self]

@[simp] theorem State.updSlot_pending (i : Fin 1024) (f : Slot → Slot) (s : State) : (s.updSlot i f).pending = s.pending := rfl
@[simp] theorem State.updSlot_now (i : Fin 1024) (f : Slot → Slot) (s : State) : (s.updSlot i f).now = s.now := rfl
@[simp] theorem State.updSlot_timers (i : Fin 1024) (f : Slot → Slot) (s : State) : (s.updSlot i f).timers = s.timers := rfl
@[simp] theorem State.updSlot_rings (i : Fin 1024) (f : Slot → Slot) (s : State) : (s.updSlot i f).rings = s.rings := rfl
@[simp] theorem State.updSlot_chan (i : Fin 1024) (f : Slot → Slot) (s : State) : (s.updSlot i f).chan = s.chan := rfl
@[simp] theorem State.updSlot_group (i : Fin 1024) (f : Slot → Slot) (s : State) : (s.updSlot i f).group = s.group := rfl
@[simp] theorem State.updSlot_die (i : Fin 1024) (f : Slot → Slot) (s : State) : (s.updSlot i f).die = s.die := rfl
@[simp] theorem State.updSlot_nibs (i : Fin 1024) (f : Slot → Slot) (s : State) : (s.updSlot i f).nibs = s.nibs := rfl
@[simp] theorem State.updSlot_quire (i : Fin 1024) (f : Slot → Slot) (s : State) : (s.updSlot i f).quire = s.quire := rfl
@[simp] theorem State.updSlot_pounce (i : Fin 1024) (f : Slot → Slot) (s : State) : (s.updSlot i f).pounce = s.pounce := rfl
@[simp] theorem State.updSlot_ink (i : Fin 1024) (f : Slot → Slot) (s : State) : (s.updSlot i f).ink = s.ink := rfl
@[simp] theorem State.updSlot_axis (i : Fin 1024) (f : Slot → Slot) (s : State) : (s.updSlot i f).axis = s.axis := rfl
@[simp] theorem State.updSlot_linear (i : Fin 1024) (f : Slot → Slot) (s : State) : (s.updSlot i f).linear = s.linear := rfl
@[simp] theorem State.updSlot_margin (i : Fin 1024) (f : Slot → Slot) (s : State) : (s.updSlot i f).margin = s.margin := rfl
@[simp] theorem State.updSlot_host (i : Fin 1024) (f : Slot → Slot) (s : State) : (s.updSlot i f).host = s.host := rfl
@[simp] theorem State.updSlot_folio (i : Fin 1024) (f : Slot → Slot) (s : State) : (s.updSlot i f).folio = s.folio := rfl
@[simp] theorem State.updSlot_fab (i : Fin 1024) (f : Slot → Slot) (s : State) : (s.updSlot i f).fab = s.fab := rfl
@[simp] theorem State.updSlot_tb (i : Fin 1024) (f : Slot → Slot) (s : State) : (s.updSlot i f).tb = s.tb := rfl
@[simp] theorem State.updSlot_vel (i : Fin 1024) (f : Slot → Slot) (s : State) : (s.updSlot i f).vel = s.vel := rfl
@[simp] theorem State.updSlot_blot (i : Fin 1024) (f : Slot → Slot) (s : State) : (s.updSlot i f).blot = s.blot := rfl
@[simp] theorem State.updSlot_rst (i : Fin 1024) (f : Slot → Slot) (s : State) : (s.updSlot i f).rst = s.rst := rfl

@[simp] theorem State.updSlot_ch (i : Fin 1024) (f : Slot → Slot) (s : State) (j : Fin 256) : (s.updSlot i f).ch j = s.ch j := rfl
@[simp] theorem State.updSlot_grp (i : Fin 1024) (f : Slot → Slot) (s : State) (j : Fin 16) : (s.updSlot i f).grp j = s.grp j := rfl
@[simp] theorem State.updSlot_dieOf (i : Fin 1024) (f : Slot → Slot) (s : State) (j : Fin 4) : (s.updSlot i f).dieOf j = s.dieOf j := rfl
@[simp] theorem State.updSlot_unit (i : Fin 1024) (f : Slot → Slot) (s : State) (j : Fin 32) : (s.updSlot i f).unit j = s.unit j := rfl
@[simp] theorem State.updSlot_ax (i : Fin 1024) (f : Slot → Slot) (s : State) (j : Fin 8) : (s.updSlot i f).ax j = s.ax j := rfl
@[simp] theorem State.updSlot_mbox (i : Fin 1024) (f : Slot → Slot) (s : State) (j : Fin 8) : (s.updSlot i f).mbox j = s.mbox j := rfl
@[simp] theorem State.updSlot_port (i : Fin 1024) (f : Slot → Slot) (s : State) (j : Fin 4) : (s.updSlot i f).port j = s.port j := rfl
@[simp] theorem State.updSlot_nibOf (i : Fin 1024) (f : Slot → Slot) (s : State) (j : Fin 20) : (s.updSlot i f).nibOf j = s.nibOf j := rfl
@[simp] theorem State.updSlot_stream (i : Fin 1024) (f : Slot → Slot) (s : State) (j : Fin 4) : (s.updSlot i f).stream j = s.stream j := rfl
@[simp] theorem State.updSlot_chv (i : Fin 1024) (f : Slot → Slot) (s : State) (j : Fin 256) : (s.updSlot i f).chv j = s.chv j := rfl

/-! ### updMb -/

@[simp] theorem State.updMb_mbox (i : Fin 8) (f : Mailbox → Mailbox) (s : State) : (s.updMb i f).mbox i = f (s.mbox i) :=
  vget_vset_self _ _ _

theorem State.updMb_mbox_of_ne {i j : Fin 8} (f : Mailbox → Mailbox) (s : State) (h : i ≠ j) : (s.updMb i f).mbox j = s.mbox j :=
  vget_vset_of_ne _ _ h

theorem State.updMb_self (i : Fin 8) (s : State) : s.updMb i (fun x => x) = s := by
  unfold State.updMb State.mbox; rw [vset_vget_self]

@[simp] theorem State.updMb_pending (i : Fin 8) (f : Mailbox → Mailbox) (s : State) : (s.updMb i f).pending = s.pending := rfl
@[simp] theorem State.updMb_now (i : Fin 8) (f : Mailbox → Mailbox) (s : State) : (s.updMb i f).now = s.now := rfl
@[simp] theorem State.updMb_timers (i : Fin 8) (f : Mailbox → Mailbox) (s : State) : (s.updMb i f).timers = s.timers := rfl
@[simp] theorem State.updMb_rings (i : Fin 8) (f : Mailbox → Mailbox) (s : State) : (s.updMb i f).rings = s.rings := rfl
@[simp] theorem State.updMb_chan (i : Fin 8) (f : Mailbox → Mailbox) (s : State) : (s.updMb i f).chan = s.chan := rfl
@[simp] theorem State.updMb_group (i : Fin 8) (f : Mailbox → Mailbox) (s : State) : (s.updMb i f).group = s.group := rfl
@[simp] theorem State.updMb_die (i : Fin 8) (f : Mailbox → Mailbox) (s : State) : (s.updMb i f).die = s.die := rfl
@[simp] theorem State.updMb_nibs (i : Fin 8) (f : Mailbox → Mailbox) (s : State) : (s.updMb i f).nibs = s.nibs := rfl
@[simp] theorem State.updMb_slot (i : Fin 8) (f : Mailbox → Mailbox) (s : State) : (s.updMb i f).slot = s.slot := rfl
@[simp] theorem State.updMb_quire (i : Fin 8) (f : Mailbox → Mailbox) (s : State) : (s.updMb i f).quire = s.quire := rfl
@[simp] theorem State.updMb_pounce (i : Fin 8) (f : Mailbox → Mailbox) (s : State) : (s.updMb i f).pounce = s.pounce := rfl
@[simp] theorem State.updMb_ink (i : Fin 8) (f : Mailbox → Mailbox) (s : State) : (s.updMb i f).ink = s.ink := rfl
@[simp] theorem State.updMb_axis (i : Fin 8) (f : Mailbox → Mailbox) (s : State) : (s.updMb i f).axis = s.axis := rfl
@[simp] theorem State.updMb_linear (i : Fin 8) (f : Mailbox → Mailbox) (s : State) : (s.updMb i f).linear = s.linear := rfl
@[simp] theorem State.updMb_margin (i : Fin 8) (f : Mailbox → Mailbox) (s : State) : (s.updMb i f).margin = s.margin := rfl
@[simp] theorem State.updMb_folio (i : Fin 8) (f : Mailbox → Mailbox) (s : State) : (s.updMb i f).folio = s.folio := rfl
@[simp] theorem State.updMb_fab (i : Fin 8) (f : Mailbox → Mailbox) (s : State) : (s.updMb i f).fab = s.fab := rfl
@[simp] theorem State.updMb_tb (i : Fin 8) (f : Mailbox → Mailbox) (s : State) : (s.updMb i f).tb = s.tb := rfl
@[simp] theorem State.updMb_vel (i : Fin 8) (f : Mailbox → Mailbox) (s : State) : (s.updMb i f).vel = s.vel := rfl
@[simp] theorem State.updMb_blot (i : Fin 8) (f : Mailbox → Mailbox) (s : State) : (s.updMb i f).blot = s.blot := rfl
@[simp] theorem State.updMb_rst (i : Fin 8) (f : Mailbox → Mailbox) (s : State) : (s.updMb i f).rst = s.rst := rfl

@[simp] theorem State.updMb_ch (i : Fin 8) (f : Mailbox → Mailbox) (s : State) (j : Fin 256) : (s.updMb i f).ch j = s.ch j := rfl
@[simp] theorem State.updMb_grp (i : Fin 8) (f : Mailbox → Mailbox) (s : State) (j : Fin 16) : (s.updMb i f).grp j = s.grp j := rfl
@[simp] theorem State.updMb_dieOf (i : Fin 8) (f : Mailbox → Mailbox) (s : State) (j : Fin 4) : (s.updMb i f).dieOf j = s.dieOf j := rfl
@[simp] theorem State.updMb_unit (i : Fin 8) (f : Mailbox → Mailbox) (s : State) (j : Fin 32) : (s.updMb i f).unit j = s.unit j := rfl
@[simp] theorem State.updMb_ax (i : Fin 8) (f : Mailbox → Mailbox) (s : State) (j : Fin 8) : (s.updMb i f).ax j = s.ax j := rfl
@[simp] theorem State.updMb_slotOf (i : Fin 8) (f : Mailbox → Mailbox) (s : State) (j : Fin 1024) : (s.updMb i f).slotOf j = s.slotOf j := rfl
@[simp] theorem State.updMb_port (i : Fin 8) (f : Mailbox → Mailbox) (s : State) (j : Fin 4) : (s.updMb i f).port j = s.port j := rfl
@[simp] theorem State.updMb_nibOf (i : Fin 8) (f : Mailbox → Mailbox) (s : State) (j : Fin 20) : (s.updMb i f).nibOf j = s.nibOf j := rfl
@[simp] theorem State.updMb_stream (i : Fin 8) (f : Mailbox → Mailbox) (s : State) (j : Fin 4) : (s.updMb i f).stream j = s.stream j := rfl
@[simp] theorem State.updMb_chv (i : Fin 8) (f : Mailbox → Mailbox) (s : State) (j : Fin 256) : (s.updMb i f).chv j = s.chv j := rfl

/-! ### updPort -/

@[simp] theorem State.updPort_port (i : Fin 4) (f : Port → Port) (s : State) : (s.updPort i f).port i = f (s.port i) :=
  vget_vset_self _ _ _

theorem State.updPort_port_of_ne {i j : Fin 4} (f : Port → Port) (s : State) (h : i ≠ j) : (s.updPort i f).port j = s.port j :=
  vget_vset_of_ne _ _ h

theorem State.updPort_self (i : Fin 4) (s : State) : s.updPort i (fun x => x) = s := by
  unfold State.updPort State.port; rw [vset_vget_self]

@[simp] theorem State.updPort_pending (i : Fin 4) (f : Port → Port) (s : State) : (s.updPort i f).pending = s.pending := rfl
@[simp] theorem State.updPort_now (i : Fin 4) (f : Port → Port) (s : State) : (s.updPort i f).now = s.now := rfl
@[simp] theorem State.updPort_timers (i : Fin 4) (f : Port → Port) (s : State) : (s.updPort i f).timers = s.timers := rfl
@[simp] theorem State.updPort_rings (i : Fin 4) (f : Port → Port) (s : State) : (s.updPort i f).rings = s.rings := rfl
@[simp] theorem State.updPort_chan (i : Fin 4) (f : Port → Port) (s : State) : (s.updPort i f).chan = s.chan := rfl
@[simp] theorem State.updPort_group (i : Fin 4) (f : Port → Port) (s : State) : (s.updPort i f).group = s.group := rfl
@[simp] theorem State.updPort_die (i : Fin 4) (f : Port → Port) (s : State) : (s.updPort i f).die = s.die := rfl
@[simp] theorem State.updPort_nibs (i : Fin 4) (f : Port → Port) (s : State) : (s.updPort i f).nibs = s.nibs := rfl
@[simp] theorem State.updPort_slot (i : Fin 4) (f : Port → Port) (s : State) : (s.updPort i f).slot = s.slot := rfl
@[simp] theorem State.updPort_quire (i : Fin 4) (f : Port → Port) (s : State) : (s.updPort i f).quire = s.quire := rfl
@[simp] theorem State.updPort_pounce (i : Fin 4) (f : Port → Port) (s : State) : (s.updPort i f).pounce = s.pounce := rfl
@[simp] theorem State.updPort_ink (i : Fin 4) (f : Port → Port) (s : State) : (s.updPort i f).ink = s.ink := rfl
@[simp] theorem State.updPort_axis (i : Fin 4) (f : Port → Port) (s : State) : (s.updPort i f).axis = s.axis := rfl
@[simp] theorem State.updPort_linear (i : Fin 4) (f : Port → Port) (s : State) : (s.updPort i f).linear = s.linear := rfl
@[simp] theorem State.updPort_margin (i : Fin 4) (f : Port → Port) (s : State) : (s.updPort i f).margin = s.margin := rfl
@[simp] theorem State.updPort_host (i : Fin 4) (f : Port → Port) (s : State) : (s.updPort i f).host = s.host := rfl
@[simp] theorem State.updPort_folio (i : Fin 4) (f : Port → Port) (s : State) : (s.updPort i f).folio = s.folio := rfl
@[simp] theorem State.updPort_tb (i : Fin 4) (f : Port → Port) (s : State) : (s.updPort i f).tb = s.tb := rfl
@[simp] theorem State.updPort_vel (i : Fin 4) (f : Port → Port) (s : State) : (s.updPort i f).vel = s.vel := rfl
@[simp] theorem State.updPort_blot (i : Fin 4) (f : Port → Port) (s : State) : (s.updPort i f).blot = s.blot := rfl
@[simp] theorem State.updPort_rst (i : Fin 4) (f : Port → Port) (s : State) : (s.updPort i f).rst = s.rst := rfl

@[simp] theorem State.updPort_ch (i : Fin 4) (f : Port → Port) (s : State) (j : Fin 256) : (s.updPort i f).ch j = s.ch j := rfl
@[simp] theorem State.updPort_grp (i : Fin 4) (f : Port → Port) (s : State) (j : Fin 16) : (s.updPort i f).grp j = s.grp j := rfl
@[simp] theorem State.updPort_dieOf (i : Fin 4) (f : Port → Port) (s : State) (j : Fin 4) : (s.updPort i f).dieOf j = s.dieOf j := rfl
@[simp] theorem State.updPort_unit (i : Fin 4) (f : Port → Port) (s : State) (j : Fin 32) : (s.updPort i f).unit j = s.unit j := rfl
@[simp] theorem State.updPort_ax (i : Fin 4) (f : Port → Port) (s : State) (j : Fin 8) : (s.updPort i f).ax j = s.ax j := rfl
@[simp] theorem State.updPort_slotOf (i : Fin 4) (f : Port → Port) (s : State) (j : Fin 1024) : (s.updPort i f).slotOf j = s.slotOf j := rfl
@[simp] theorem State.updPort_mbox (i : Fin 4) (f : Port → Port) (s : State) (j : Fin 8) : (s.updPort i f).mbox j = s.mbox j := rfl
@[simp] theorem State.updPort_nibOf (i : Fin 4) (f : Port → Port) (s : State) (j : Fin 20) : (s.updPort i f).nibOf j = s.nibOf j := rfl
@[simp] theorem State.updPort_stream (i : Fin 4) (f : Port → Port) (s : State) (j : Fin 4) : (s.updPort i f).stream j = s.stream j := rfl
@[simp] theorem State.updPort_chv (i : Fin 4) (f : Port → Port) (s : State) (j : Fin 256) : (s.updPort i f).chv j = s.chv j := rfl

/-! ### updNib -/

@[simp] theorem State.updNib_nibOf (i : Fin 20) (f : Nib → Nib) (s : State) : (s.updNib i f).nibOf i = f (s.nibOf i) :=
  vget_vset_self _ _ _

theorem State.updNib_nibOf_of_ne {i j : Fin 20} (f : Nib → Nib) (s : State) (h : i ≠ j) : (s.updNib i f).nibOf j = s.nibOf j :=
  vget_vset_of_ne _ _ h

theorem State.updNib_self (i : Fin 20) (s : State) : s.updNib i (fun x => x) = s := by
  unfold State.updNib State.nibOf; rw [vset_vget_self]

@[simp] theorem State.updNib_pending (i : Fin 20) (f : Nib → Nib) (s : State) : (s.updNib i f).pending = s.pending := rfl
@[simp] theorem State.updNib_now (i : Fin 20) (f : Nib → Nib) (s : State) : (s.updNib i f).now = s.now := rfl
@[simp] theorem State.updNib_timers (i : Fin 20) (f : Nib → Nib) (s : State) : (s.updNib i f).timers = s.timers := rfl
@[simp] theorem State.updNib_rings (i : Fin 20) (f : Nib → Nib) (s : State) : (s.updNib i f).rings = s.rings := rfl
@[simp] theorem State.updNib_chan (i : Fin 20) (f : Nib → Nib) (s : State) : (s.updNib i f).chan = s.chan := rfl
@[simp] theorem State.updNib_group (i : Fin 20) (f : Nib → Nib) (s : State) : (s.updNib i f).group = s.group := rfl
@[simp] theorem State.updNib_die (i : Fin 20) (f : Nib → Nib) (s : State) : (s.updNib i f).die = s.die := rfl
@[simp] theorem State.updNib_slot (i : Fin 20) (f : Nib → Nib) (s : State) : (s.updNib i f).slot = s.slot := rfl
@[simp] theorem State.updNib_quire (i : Fin 20) (f : Nib → Nib) (s : State) : (s.updNib i f).quire = s.quire := rfl
@[simp] theorem State.updNib_pounce (i : Fin 20) (f : Nib → Nib) (s : State) : (s.updNib i f).pounce = s.pounce := rfl
@[simp] theorem State.updNib_ink (i : Fin 20) (f : Nib → Nib) (s : State) : (s.updNib i f).ink = s.ink := rfl
@[simp] theorem State.updNib_axis (i : Fin 20) (f : Nib → Nib) (s : State) : (s.updNib i f).axis = s.axis := rfl
@[simp] theorem State.updNib_linear (i : Fin 20) (f : Nib → Nib) (s : State) : (s.updNib i f).linear = s.linear := rfl
@[simp] theorem State.updNib_margin (i : Fin 20) (f : Nib → Nib) (s : State) : (s.updNib i f).margin = s.margin := rfl
@[simp] theorem State.updNib_host (i : Fin 20) (f : Nib → Nib) (s : State) : (s.updNib i f).host = s.host := rfl
@[simp] theorem State.updNib_folio (i : Fin 20) (f : Nib → Nib) (s : State) : (s.updNib i f).folio = s.folio := rfl
@[simp] theorem State.updNib_fab (i : Fin 20) (f : Nib → Nib) (s : State) : (s.updNib i f).fab = s.fab := rfl
@[simp] theorem State.updNib_tb (i : Fin 20) (f : Nib → Nib) (s : State) : (s.updNib i f).tb = s.tb := rfl
@[simp] theorem State.updNib_vel (i : Fin 20) (f : Nib → Nib) (s : State) : (s.updNib i f).vel = s.vel := rfl
@[simp] theorem State.updNib_blot (i : Fin 20) (f : Nib → Nib) (s : State) : (s.updNib i f).blot = s.blot := rfl
@[simp] theorem State.updNib_rst (i : Fin 20) (f : Nib → Nib) (s : State) : (s.updNib i f).rst = s.rst := rfl

@[simp] theorem State.updNib_ch (i : Fin 20) (f : Nib → Nib) (s : State) (j : Fin 256) : (s.updNib i f).ch j = s.ch j := rfl
@[simp] theorem State.updNib_grp (i : Fin 20) (f : Nib → Nib) (s : State) (j : Fin 16) : (s.updNib i f).grp j = s.grp j := rfl
@[simp] theorem State.updNib_dieOf (i : Fin 20) (f : Nib → Nib) (s : State) (j : Fin 4) : (s.updNib i f).dieOf j = s.dieOf j := rfl
@[simp] theorem State.updNib_unit (i : Fin 20) (f : Nib → Nib) (s : State) (j : Fin 32) : (s.updNib i f).unit j = s.unit j := rfl
@[simp] theorem State.updNib_ax (i : Fin 20) (f : Nib → Nib) (s : State) (j : Fin 8) : (s.updNib i f).ax j = s.ax j := rfl
@[simp] theorem State.updNib_slotOf (i : Fin 20) (f : Nib → Nib) (s : State) (j : Fin 1024) : (s.updNib i f).slotOf j = s.slotOf j := rfl
@[simp] theorem State.updNib_mbox (i : Fin 20) (f : Nib → Nib) (s : State) (j : Fin 8) : (s.updNib i f).mbox j = s.mbox j := rfl
@[simp] theorem State.updNib_port (i : Fin 20) (f : Nib → Nib) (s : State) (j : Fin 4) : (s.updNib i f).port j = s.port j := rfl
@[simp] theorem State.updNib_stream (i : Fin 20) (f : Nib → Nib) (s : State) (j : Fin 4) : (s.updNib i f).stream j = s.stream j := rfl
@[simp] theorem State.updNib_chv (i : Fin 20) (f : Nib → Nib) (s : State) (j : Fin 256) : (s.updNib i f).chv j = s.chv j := rfl

/-! ### updStream -/

@[simp] theorem State.updStream_stream (i : Fin 4) (f : Stream → Stream) (s : State) : (s.updStream i f).stream i = f (s.stream i) :=
  vget_vset_self _ _ _

theorem State.updStream_stream_of_ne {i j : Fin 4} (f : Stream → Stream) (s : State) (h : i ≠ j) : (s.updStream i f).stream j = s.stream j :=
  vget_vset_of_ne _ _ h

theorem State.updStream_self (i : Fin 4) (s : State) : s.updStream i (fun x => x) = s := by
  unfold State.updStream State.stream; rw [vset_vget_self]

@[simp] theorem State.updStream_pending (i : Fin 4) (f : Stream → Stream) (s : State) : (s.updStream i f).pending = s.pending := rfl
@[simp] theorem State.updStream_now (i : Fin 4) (f : Stream → Stream) (s : State) : (s.updStream i f).now = s.now := rfl
@[simp] theorem State.updStream_timers (i : Fin 4) (f : Stream → Stream) (s : State) : (s.updStream i f).timers = s.timers := rfl
@[simp] theorem State.updStream_rings (i : Fin 4) (f : Stream → Stream) (s : State) : (s.updStream i f).rings = s.rings := rfl
@[simp] theorem State.updStream_chan (i : Fin 4) (f : Stream → Stream) (s : State) : (s.updStream i f).chan = s.chan := rfl
@[simp] theorem State.updStream_group (i : Fin 4) (f : Stream → Stream) (s : State) : (s.updStream i f).group = s.group := rfl
@[simp] theorem State.updStream_die (i : Fin 4) (f : Stream → Stream) (s : State) : (s.updStream i f).die = s.die := rfl
@[simp] theorem State.updStream_nibs (i : Fin 4) (f : Stream → Stream) (s : State) : (s.updStream i f).nibs = s.nibs := rfl
@[simp] theorem State.updStream_slot (i : Fin 4) (f : Stream → Stream) (s : State) : (s.updStream i f).slot = s.slot := rfl
@[simp] theorem State.updStream_quire (i : Fin 4) (f : Stream → Stream) (s : State) : (s.updStream i f).quire = s.quire := rfl
@[simp] theorem State.updStream_pounce (i : Fin 4) (f : Stream → Stream) (s : State) : (s.updStream i f).pounce = s.pounce := rfl
@[simp] theorem State.updStream_axis (i : Fin 4) (f : Stream → Stream) (s : State) : (s.updStream i f).axis = s.axis := rfl
@[simp] theorem State.updStream_linear (i : Fin 4) (f : Stream → Stream) (s : State) : (s.updStream i f).linear = s.linear := rfl
@[simp] theorem State.updStream_margin (i : Fin 4) (f : Stream → Stream) (s : State) : (s.updStream i f).margin = s.margin := rfl
@[simp] theorem State.updStream_host (i : Fin 4) (f : Stream → Stream) (s : State) : (s.updStream i f).host = s.host := rfl
@[simp] theorem State.updStream_folio (i : Fin 4) (f : Stream → Stream) (s : State) : (s.updStream i f).folio = s.folio := rfl
@[simp] theorem State.updStream_fab (i : Fin 4) (f : Stream → Stream) (s : State) : (s.updStream i f).fab = s.fab := rfl
@[simp] theorem State.updStream_tb (i : Fin 4) (f : Stream → Stream) (s : State) : (s.updStream i f).tb = s.tb := rfl
@[simp] theorem State.updStream_vel (i : Fin 4) (f : Stream → Stream) (s : State) : (s.updStream i f).vel = s.vel := rfl
@[simp] theorem State.updStream_blot (i : Fin 4) (f : Stream → Stream) (s : State) : (s.updStream i f).blot = s.blot := rfl
@[simp] theorem State.updStream_rst (i : Fin 4) (f : Stream → Stream) (s : State) : (s.updStream i f).rst = s.rst := rfl

@[simp] theorem State.updStream_ch (i : Fin 4) (f : Stream → Stream) (s : State) (j : Fin 256) : (s.updStream i f).ch j = s.ch j := rfl
@[simp] theorem State.updStream_grp (i : Fin 4) (f : Stream → Stream) (s : State) (j : Fin 16) : (s.updStream i f).grp j = s.grp j := rfl
@[simp] theorem State.updStream_dieOf (i : Fin 4) (f : Stream → Stream) (s : State) (j : Fin 4) : (s.updStream i f).dieOf j = s.dieOf j := rfl
@[simp] theorem State.updStream_unit (i : Fin 4) (f : Stream → Stream) (s : State) (j : Fin 32) : (s.updStream i f).unit j = s.unit j := rfl
@[simp] theorem State.updStream_ax (i : Fin 4) (f : Stream → Stream) (s : State) (j : Fin 8) : (s.updStream i f).ax j = s.ax j := rfl
@[simp] theorem State.updStream_slotOf (i : Fin 4) (f : Stream → Stream) (s : State) (j : Fin 1024) : (s.updStream i f).slotOf j = s.slotOf j := rfl
@[simp] theorem State.updStream_mbox (i : Fin 4) (f : Stream → Stream) (s : State) (j : Fin 8) : (s.updStream i f).mbox j = s.mbox j := rfl
@[simp] theorem State.updStream_port (i : Fin 4) (f : Stream → Stream) (s : State) (j : Fin 4) : (s.updStream i f).port j = s.port j := rfl
@[simp] theorem State.updStream_nibOf (i : Fin 4) (f : Stream → Stream) (s : State) (j : Fin 20) : (s.updStream i f).nibOf j = s.nibOf j := rfl
@[simp] theorem State.updStream_chv (i : Fin 4) (f : Stream → Stream) (s : State) (j : Fin 256) : (s.updStream i f).chv j = s.chv j := rfl

/-! ### updChv -/

@[simp] theorem State.updChv_chv (i : Fin 256) (f : ChVellum → ChVellum) (s : State) : (s.updChv i f).chv i = f (s.chv i) :=
  vget_vset_self _ _ _

theorem State.updChv_chv_of_ne {i j : Fin 256} (f : ChVellum → ChVellum) (s : State) (h : i ≠ j) : (s.updChv i f).chv j = s.chv j :=
  vget_vset_of_ne _ _ h

theorem State.updChv_self (i : Fin 256) (s : State) : s.updChv i (fun x => x) = s := by
  unfold State.updChv State.chv; rw [vset_vget_self]

@[simp] theorem State.updChv_pending (i : Fin 256) (f : ChVellum → ChVellum) (s : State) : (s.updChv i f).pending = s.pending := rfl
@[simp] theorem State.updChv_now (i : Fin 256) (f : ChVellum → ChVellum) (s : State) : (s.updChv i f).now = s.now := rfl
@[simp] theorem State.updChv_timers (i : Fin 256) (f : ChVellum → ChVellum) (s : State) : (s.updChv i f).timers = s.timers := rfl
@[simp] theorem State.updChv_rings (i : Fin 256) (f : ChVellum → ChVellum) (s : State) : (s.updChv i f).rings = s.rings := rfl
@[simp] theorem State.updChv_chan (i : Fin 256) (f : ChVellum → ChVellum) (s : State) : (s.updChv i f).chan = s.chan := rfl
@[simp] theorem State.updChv_group (i : Fin 256) (f : ChVellum → ChVellum) (s : State) : (s.updChv i f).group = s.group := rfl
@[simp] theorem State.updChv_die (i : Fin 256) (f : ChVellum → ChVellum) (s : State) : (s.updChv i f).die = s.die := rfl
@[simp] theorem State.updChv_nibs (i : Fin 256) (f : ChVellum → ChVellum) (s : State) : (s.updChv i f).nibs = s.nibs := rfl
@[simp] theorem State.updChv_slot (i : Fin 256) (f : ChVellum → ChVellum) (s : State) : (s.updChv i f).slot = s.slot := rfl
@[simp] theorem State.updChv_quire (i : Fin 256) (f : ChVellum → ChVellum) (s : State) : (s.updChv i f).quire = s.quire := rfl
@[simp] theorem State.updChv_pounce (i : Fin 256) (f : ChVellum → ChVellum) (s : State) : (s.updChv i f).pounce = s.pounce := rfl
@[simp] theorem State.updChv_ink (i : Fin 256) (f : ChVellum → ChVellum) (s : State) : (s.updChv i f).ink = s.ink := rfl
@[simp] theorem State.updChv_axis (i : Fin 256) (f : ChVellum → ChVellum) (s : State) : (s.updChv i f).axis = s.axis := rfl
@[simp] theorem State.updChv_linear (i : Fin 256) (f : ChVellum → ChVellum) (s : State) : (s.updChv i f).linear = s.linear := rfl
@[simp] theorem State.updChv_margin (i : Fin 256) (f : ChVellum → ChVellum) (s : State) : (s.updChv i f).margin = s.margin := rfl
@[simp] theorem State.updChv_host (i : Fin 256) (f : ChVellum → ChVellum) (s : State) : (s.updChv i f).host = s.host := rfl
@[simp] theorem State.updChv_folio (i : Fin 256) (f : ChVellum → ChVellum) (s : State) : (s.updChv i f).folio = s.folio := rfl
@[simp] theorem State.updChv_fab (i : Fin 256) (f : ChVellum → ChVellum) (s : State) : (s.updChv i f).fab = s.fab := rfl
@[simp] theorem State.updChv_tb (i : Fin 256) (f : ChVellum → ChVellum) (s : State) : (s.updChv i f).tb = s.tb := rfl
@[simp] theorem State.updChv_blot (i : Fin 256) (f : ChVellum → ChVellum) (s : State) : (s.updChv i f).blot = s.blot := rfl
@[simp] theorem State.updChv_rst (i : Fin 256) (f : ChVellum → ChVellum) (s : State) : (s.updChv i f).rst = s.rst := rfl

@[simp] theorem State.updChv_ch (i : Fin 256) (f : ChVellum → ChVellum) (s : State) (j : Fin 256) : (s.updChv i f).ch j = s.ch j := rfl
@[simp] theorem State.updChv_grp (i : Fin 256) (f : ChVellum → ChVellum) (s : State) (j : Fin 16) : (s.updChv i f).grp j = s.grp j := rfl
@[simp] theorem State.updChv_dieOf (i : Fin 256) (f : ChVellum → ChVellum) (s : State) (j : Fin 4) : (s.updChv i f).dieOf j = s.dieOf j := rfl
@[simp] theorem State.updChv_unit (i : Fin 256) (f : ChVellum → ChVellum) (s : State) (j : Fin 32) : (s.updChv i f).unit j = s.unit j := rfl
@[simp] theorem State.updChv_ax (i : Fin 256) (f : ChVellum → ChVellum) (s : State) (j : Fin 8) : (s.updChv i f).ax j = s.ax j := rfl
@[simp] theorem State.updChv_slotOf (i : Fin 256) (f : ChVellum → ChVellum) (s : State) (j : Fin 1024) : (s.updChv i f).slotOf j = s.slotOf j := rfl
@[simp] theorem State.updChv_mbox (i : Fin 256) (f : ChVellum → ChVellum) (s : State) (j : Fin 8) : (s.updChv i f).mbox j = s.mbox j := rfl
@[simp] theorem State.updChv_port (i : Fin 256) (f : ChVellum → ChVellum) (s : State) (j : Fin 4) : (s.updChv i f).port j = s.port j := rfl
@[simp] theorem State.updChv_nibOf (i : Fin 256) (f : ChVellum → ChVellum) (s : State) (j : Fin 20) : (s.updChv i f).nibOf j = s.nibOf j := rfl
@[simp] theorem State.updChv_stream (i : Fin 256) (f : ChVellum → ChVellum) (s : State) (j : Fin 4) : (s.updChv i f).stream j = s.stream j := rfl

/-! ### raise -/

@[simp] theorem State.raise_pending (c v r p : Nat) (s : State) : (s.raise c v r p).pending = s.pending := rfl
@[simp] theorem State.raise_now (c v r p : Nat) (s : State) : (s.raise c v r p).now = s.now := rfl
@[simp] theorem State.raise_timers (c v r p : Nat) (s : State) : (s.raise c v r p).timers = s.timers := rfl
@[simp] theorem State.raise_rings (c v r p : Nat) (s : State) : (s.raise c v r p).rings = s.rings := rfl
@[simp] theorem State.raise_chan (c v r p : Nat) (s : State) : (s.raise c v r p).chan = s.chan := rfl
@[simp] theorem State.raise_group (c v r p : Nat) (s : State) : (s.raise c v r p).group = s.group := rfl
@[simp] theorem State.raise_die (c v r p : Nat) (s : State) : (s.raise c v r p).die = s.die := rfl
@[simp] theorem State.raise_nibs (c v r p : Nat) (s : State) : (s.raise c v r p).nibs = s.nibs := rfl
@[simp] theorem State.raise_slot (c v r p : Nat) (s : State) : (s.raise c v r p).slot = s.slot := rfl
@[simp] theorem State.raise_quire (c v r p : Nat) (s : State) : (s.raise c v r p).quire = s.quire := rfl
@[simp] theorem State.raise_pounce (c v r p : Nat) (s : State) : (s.raise c v r p).pounce = s.pounce := rfl
@[simp] theorem State.raise_ink (c v r p : Nat) (s : State) : (s.raise c v r p).ink = s.ink := rfl
@[simp] theorem State.raise_axis (c v r p : Nat) (s : State) : (s.raise c v r p).axis = s.axis := rfl
@[simp] theorem State.raise_linear (c v r p : Nat) (s : State) : (s.raise c v r p).linear = s.linear := rfl
@[simp] theorem State.raise_margin (c v r p : Nat) (s : State) : (s.raise c v r p).margin = s.margin := rfl
@[simp] theorem State.raise_host (c v r p : Nat) (s : State) : (s.raise c v r p).host = s.host := rfl
@[simp] theorem State.raise_folio (c v r p : Nat) (s : State) : (s.raise c v r p).folio = s.folio := rfl
@[simp] theorem State.raise_fab (c v r p : Nat) (s : State) : (s.raise c v r p).fab = s.fab := rfl
@[simp] theorem State.raise_tb (c v r p : Nat) (s : State) : (s.raise c v r p).tb = s.tb := rfl
@[simp] theorem State.raise_vel (c v r p : Nat) (s : State) : (s.raise c v r p).vel = s.vel := rfl
@[simp] theorem State.raise_rst (c v r p : Nat) (s : State) : (s.raise c v r p).rst = s.rst := rfl
@[simp] theorem State.raise_ch (c v r p : Nat) (s : State) (j : Fin 256) : (s.raise c v r p).ch j = s.ch j := rfl
@[simp] theorem State.raise_grp (c v r p : Nat) (s : State) (j : Fin 16) : (s.raise c v r p).grp j = s.grp j := rfl
@[simp] theorem State.raise_dieOf (c v r p : Nat) (s : State) (j : Fin 4) : (s.raise c v r p).dieOf j = s.dieOf j := rfl
@[simp] theorem State.raise_unit (c v r p : Nat) (s : State) (j : Fin 32) : (s.raise c v r p).unit j = s.unit j := rfl
@[simp] theorem State.raise_ax (c v r p : Nat) (s : State) (j : Fin 8) : (s.raise c v r p).ax j = s.ax j := rfl
@[simp] theorem State.raise_slotOf (c v r p : Nat) (s : State) (j : Fin 1024) : (s.raise c v r p).slotOf j = s.slotOf j := rfl
@[simp] theorem State.raise_mbox (c v r p : Nat) (s : State) (j : Fin 8) : (s.raise c v r p).mbox j = s.mbox j := rfl
@[simp] theorem State.raise_port (c v r p : Nat) (s : State) (j : Fin 4) : (s.raise c v r p).port j = s.port j := rfl
@[simp] theorem State.raise_nibOf (c v r p : Nat) (s : State) (j : Fin 20) : (s.raise c v r p).nibOf j = s.nibOf j := rfl
@[simp] theorem State.raise_stream (c v r p : Nat) (s : State) (j : Fin 4) : (s.raise c v r p).stream j = s.stream j := rfl
@[simp] theorem State.raise_chv (c v r p : Nat) (s : State) (j : Fin 256) : (s.raise c v r p).chv j = s.chv j := rfl

@[simp] theorem State.raise_raised (c v r p : Nat) (s : State) : (s.raise c v r p).blot.raised = s.blot.raised ++ [s.event c v r p] := rfl

end Sys2Proof.Machine
end

