-- ==== Sys2Proof/Laws/Ops.lean ====
section
/-! SUPPORT. What the shared operations of Machine/Ops.lean change and leave: interrupts, ignored accesses, the Folio's fields,
outcomes of Quire items. -/

namespace Sys2Proof.Machine

/-! ### irq -/

@[simp] theorem State.irq_pending (v : Nat) (s : State) : (s.irq v).pending = s.pending := by
  rfl
@[simp] theorem State.irq_now (v : Nat) (s : State) : (s.irq v).now = s.now := by
  rfl
@[simp] theorem State.irq_timers (v : Nat) (s : State) : (s.irq v).timers = s.timers := by
  rfl
@[simp] theorem State.irq_rings (v : Nat) (s : State) : (s.irq v).rings = s.rings := by
  rfl
@[simp] theorem State.irq_chan (v : Nat) (s : State) : (s.irq v).chan = s.chan := by
  rfl
@[simp] theorem State.irq_group (v : Nat) (s : State) : (s.irq v).group = s.group := by
  rfl
@[simp] theorem State.irq_die (v : Nat) (s : State) : (s.irq v).die = s.die := by
  rfl
@[simp] theorem State.irq_nibs (v : Nat) (s : State) : (s.irq v).nibs = s.nibs := by
  rfl
@[simp] theorem State.irq_slot (v : Nat) (s : State) : (s.irq v).slot = s.slot := by
  rfl
@[simp] theorem State.irq_quire (v : Nat) (s : State) : (s.irq v).quire = s.quire := by
  rfl
@[simp] theorem State.irq_pounce (v : Nat) (s : State) : (s.irq v).pounce = s.pounce := by
  rfl
@[simp] theorem State.irq_ink (v : Nat) (s : State) : (s.irq v).ink = s.ink := by
  rfl
@[simp] theorem State.irq_axis (v : Nat) (s : State) : (s.irq v).axis = s.axis := by
  rfl
@[simp] theorem State.irq_linear (v : Nat) (s : State) : (s.irq v).linear = s.linear := by
  rfl
@[simp] theorem State.irq_margin (v : Nat) (s : State) : (s.irq v).margin = s.margin := by
  rfl
@[simp] theorem State.irq_folio (v : Nat) (s : State) : (s.irq v).folio = s.folio := by
  rfl
@[simp] theorem State.irq_fab (v : Nat) (s : State) : (s.irq v).fab = s.fab := by
  rfl
@[simp] theorem State.irq_tb (v : Nat) (s : State) : (s.irq v).tb = s.tb := by
  rfl
@[simp] theorem State.irq_vel (v : Nat) (s : State) : (s.irq v).vel = s.vel := by
  rfl
@[simp] theorem State.irq_blot (v : Nat) (s : State) : (s.irq v).blot = s.blot := by
  rfl
@[simp] theorem State.irq_rst (v : Nat) (s : State) : (s.irq v).rst = s.rst := by
  rfl
@[simp] theorem State.irq_ch (v : Nat) (s : State) (i : Fin 256) : (s.irq v).ch i = s.ch i := by
  simp only [State.ch, State.irq_chan]
@[simp] theorem State.irq_grp (v : Nat) (s : State) (i : Fin 16) : (s.irq v).grp i = s.grp i := by
  simp only [State.grp, State.irq_group]
@[simp] theorem State.irq_dieOf (v : Nat) (s : State) (i : Fin 4) : (s.irq v).dieOf i = s.dieOf i := by
  simp only [State.dieOf, State.irq_die]
@[simp] theorem State.irq_unit (v : Nat) (s : State) (i : Fin 32) : (s.irq v).unit i = s.unit i := by
  simp only [State.unit, State.irq_pounce]
@[simp] theorem State.irq_ax (v : Nat) (s : State) (i : Fin 8) : (s.irq v).ax i = s.ax i := by
  simp only [State.ax, State.irq_axis]
@[simp] theorem State.irq_slotOf (v : Nat) (s : State) (i : Fin 1024) : (s.irq v).slotOf i = s.slotOf i := by
  simp only [State.slotOf, State.irq_slot]
@[simp] theorem State.irq_port (v : Nat) (s : State) (i : Fin 4) : (s.irq v).port i = s.port i := by
  simp only [State.port, State.irq_fab]
@[simp] theorem State.irq_nibOf (v : Nat) (s : State) (i : Fin 20) : (s.irq v).nibOf i = s.nibOf i := by
  simp only [State.nibOf, State.irq_nibs]
@[simp] theorem State.irq_stream (v : Nat) (s : State) (i : Fin 4) : (s.irq v).stream i = s.stream i := by
  simp only [State.stream, State.irq_ink]
@[simp] theorem State.irq_chv (v : Nat) (s : State) (i : Fin 256) : (s.irq v).chv i = s.chv i := by
  simp only [State.chv, State.irq_vel]

/-! ### accessErr -/

@[simp] theorem State.accessErr_pending  (s : State) : (s.accessErr).pending = s.pending := by
  rfl
@[simp] theorem State.accessErr_now  (s : State) : (s.accessErr).now = s.now := by
  rfl
@[simp] theorem State.accessErr_timers  (s : State) : (s.accessErr).timers = s.timers := by
  rfl
@[simp] theorem State.accessErr_rings  (s : State) : (s.accessErr).rings = s.rings := by
  rfl
@[simp] theorem State.accessErr_chan  (s : State) : (s.accessErr).chan = s.chan := by
  rfl
@[simp] theorem State.accessErr_group  (s : State) : (s.accessErr).group = s.group := by
  rfl
@[simp] theorem State.accessErr_die  (s : State) : (s.accessErr).die = s.die := by
  rfl
@[simp] theorem State.accessErr_nibs  (s : State) : (s.accessErr).nibs = s.nibs := by
  rfl
@[simp] theorem State.accessErr_slot  (s : State) : (s.accessErr).slot = s.slot := by
  rfl
@[simp] theorem State.accessErr_quire  (s : State) : (s.accessErr).quire = s.quire := by
  rfl
@[simp] theorem State.accessErr_pounce  (s : State) : (s.accessErr).pounce = s.pounce := by
  rfl
@[simp] theorem State.accessErr_ink  (s : State) : (s.accessErr).ink = s.ink := by
  rfl
@[simp] theorem State.accessErr_axis  (s : State) : (s.accessErr).axis = s.axis := by
  rfl
@[simp] theorem State.accessErr_linear  (s : State) : (s.accessErr).linear = s.linear := by
  rfl
@[simp] theorem State.accessErr_margin  (s : State) : (s.accessErr).margin = s.margin := by
  rfl
@[simp] theorem State.accessErr_folio  (s : State) : (s.accessErr).folio = s.folio := by
  rfl
@[simp] theorem State.accessErr_fab  (s : State) : (s.accessErr).fab = s.fab := by
  rfl
@[simp] theorem State.accessErr_tb  (s : State) : (s.accessErr).tb = s.tb := by
  rfl
@[simp] theorem State.accessErr_vel  (s : State) : (s.accessErr).vel = s.vel := by
  rfl
@[simp] theorem State.accessErr_blot  (s : State) : (s.accessErr).blot = s.blot := by
  rfl
@[simp] theorem State.accessErr_rst  (s : State) : (s.accessErr).rst = s.rst := by
  rfl
@[simp] theorem State.accessErr_ch  (s : State) (i : Fin 256) : (s.accessErr).ch i = s.ch i := by
  simp only [State.ch, State.accessErr_chan]
@[simp] theorem State.accessErr_grp  (s : State) (i : Fin 16) : (s.accessErr).grp i = s.grp i := by
  simp only [State.grp, State.accessErr_group]
@[simp] theorem State.accessErr_dieOf  (s : State) (i : Fin 4) : (s.accessErr).dieOf i = s.dieOf i := by
  simp only [State.dieOf, State.accessErr_die]
@[simp] theorem State.accessErr_unit  (s : State) (i : Fin 32) : (s.accessErr).unit i = s.unit i := by
  simp only [State.unit, State.accessErr_pounce]
@[simp] theorem State.accessErr_ax  (s : State) (i : Fin 8) : (s.accessErr).ax i = s.ax i := by
  simp only [State.ax, State.accessErr_axis]
@[simp] theorem State.accessErr_slotOf  (s : State) (i : Fin 1024) : (s.accessErr).slotOf i = s.slotOf i := by
  simp only [State.slotOf, State.accessErr_slot]
@[simp] theorem State.accessErr_port  (s : State) (i : Fin 4) : (s.accessErr).port i = s.port i := by
  simp only [State.port, State.accessErr_fab]
@[simp] theorem State.accessErr_nibOf  (s : State) (i : Fin 20) : (s.accessErr).nibOf i = s.nibOf i := by
  simp only [State.nibOf, State.accessErr_nibs]
@[simp] theorem State.accessErr_stream  (s : State) (i : Fin 4) : (s.accessErr).stream i = s.stream i := by
  simp only [State.stream, State.accessErr_ink]
@[simp] theorem State.accessErr_chv  (s : State) (i : Fin 256) : (s.accessErr).chv i = s.chv i := by
  simp only [State.chv, State.accessErr_vel]

/-! ### devIrq -/

@[simp] theorem State.devIrq_pending (q : State) (s : State) : (State.devIrq q s).pending = s.pending := by
  unfold State.devIrq; split <;> simp
@[simp] theorem State.devIrq_now (q : State) (s : State) : (State.devIrq q s).now = s.now := by
  unfold State.devIrq; split <;> simp
@[simp] theorem State.devIrq_timers (q : State) (s : State) : (State.devIrq q s).timers = s.timers := by
  unfold State.devIrq; split <;> simp
@[simp] theorem State.devIrq_rings (q : State) (s : State) : (State.devIrq q s).rings = s.rings := by
  unfold State.devIrq; split <;> simp
@[simp] theorem State.devIrq_chan (q : State) (s : State) : (State.devIrq q s).chan = s.chan := by
  unfold State.devIrq; split <;> simp
@[simp] theorem State.devIrq_group (q : State) (s : State) : (State.devIrq q s).group = s.group := by
  unfold State.devIrq; split <;> simp
@[simp] theorem State.devIrq_die (q : State) (s : State) : (State.devIrq q s).die = s.die := by
  unfold State.devIrq; split <;> simp
@[simp] theorem State.devIrq_nibs (q : State) (s : State) : (State.devIrq q s).nibs = s.nibs := by
  unfold State.devIrq; split <;> simp
@[simp] theorem State.devIrq_slot (q : State) (s : State) : (State.devIrq q s).slot = s.slot := by
  unfold State.devIrq; split <;> simp
@[simp] theorem State.devIrq_quire (q : State) (s : State) : (State.devIrq q s).quire = s.quire := by
  unfold State.devIrq; split <;> simp
@[simp] theorem State.devIrq_pounce (q : State) (s : State) : (State.devIrq q s).pounce = s.pounce := by
  unfold State.devIrq; split <;> simp
@[simp] theorem State.devIrq_ink (q : State) (s : State) : (State.devIrq q s).ink = s.ink := by
  unfold State.devIrq; split <;> simp
@[simp] theorem State.devIrq_axis (q : State) (s : State) : (State.devIrq q s).axis = s.axis := by
  unfold State.devIrq; split <;> simp
@[simp] theorem State.devIrq_linear (q : State) (s : State) : (State.devIrq q s).linear = s.linear := by
  unfold State.devIrq; split <;> simp
@[simp] theorem State.devIrq_margin (q : State) (s : State) : (State.devIrq q s).margin = s.margin := by
  unfold State.devIrq; split <;> simp
@[simp] theorem State.devIrq_folio (q : State) (s : State) : (State.devIrq q s).folio = s.folio := by
  unfold State.devIrq; split <;> simp
@[simp] theorem State.devIrq_fab (q : State) (s : State) : (State.devIrq q s).fab = s.fab := by
  unfold State.devIrq; split <;> simp
@[simp] theorem State.devIrq_tb (q : State) (s : State) : (State.devIrq q s).tb = s.tb := by
  unfold State.devIrq; split <;> simp
@[simp] theorem State.devIrq_vel (q : State) (s : State) : (State.devIrq q s).vel = s.vel := by
  unfold State.devIrq; split <;> simp
@[simp] theorem State.devIrq_blot (q : State) (s : State) : (State.devIrq q s).blot = s.blot := by
  unfold State.devIrq; split <;> simp
@[simp] theorem State.devIrq_rst (q : State) (s : State) : (State.devIrq q s).rst = s.rst := by
  unfold State.devIrq; split <;> simp
@[simp] theorem State.devIrq_ch (q : State) (s : State) (i : Fin 256) : (State.devIrq q s).ch i = s.ch i := by
  simp only [State.ch, State.devIrq_chan]
@[simp] theorem State.devIrq_grp (q : State) (s : State) (i : Fin 16) : (State.devIrq q s).grp i = s.grp i := by
  simp only [State.grp, State.devIrq_group]
@[simp] theorem State.devIrq_dieOf (q : State) (s : State) (i : Fin 4) : (State.devIrq q s).dieOf i = s.dieOf i := by
  simp only [State.dieOf, State.devIrq_die]
@[simp] theorem State.devIrq_unit (q : State) (s : State) (i : Fin 32) : (State.devIrq q s).unit i = s.unit i := by
  simp only [State.unit, State.devIrq_pounce]
@[simp] theorem State.devIrq_ax (q : State) (s : State) (i : Fin 8) : (State.devIrq q s).ax i = s.ax i := by
  simp only [State.ax, State.devIrq_axis]
@[simp] theorem State.devIrq_slotOf (q : State) (s : State) (i : Fin 1024) : (State.devIrq q s).slotOf i = s.slotOf i := by
  simp only [State.slotOf, State.devIrq_slot]
@[simp] theorem State.devIrq_port (q : State) (s : State) (i : Fin 4) : (State.devIrq q s).port i = s.port i := by
  simp only [State.port, State.devIrq_fab]
@[simp] theorem State.devIrq_nibOf (q : State) (s : State) (i : Fin 20) : (State.devIrq q s).nibOf i = s.nibOf i := by
  simp only [State.nibOf, State.devIrq_nibs]
@[simp] theorem State.devIrq_stream (q : State) (s : State) (i : Fin 4) : (State.devIrq q s).stream i = s.stream i := by
  simp only [State.stream, State.devIrq_ink]
@[simp] theorem State.devIrq_chv (q : State) (s : State) (i : Fin 256) : (State.devIrq q s).chv i = s.chv i := by
  simp only [State.chv, State.devIrq_vel]

/-! ### setFolio -/

@[simp] theorem State.setFolio_pending (f : Folio) (s : State) : (s.setFolio f).pending = s.pending := by
  simp [State.setFolio]
@[simp] theorem State.setFolio_now (f : Folio) (s : State) : (s.setFolio f).now = s.now := by
  simp [State.setFolio]
@[simp] theorem State.setFolio_timers (f : Folio) (s : State) : (s.setFolio f).timers = s.timers := by
  simp [State.setFolio]
@[simp] theorem State.setFolio_rings (f : Folio) (s : State) : (s.setFolio f).rings = s.rings := by
  simp [State.setFolio]
@[simp] theorem State.setFolio_chan (f : Folio) (s : State) : (s.setFolio f).chan = s.chan := by
  simp [State.setFolio]
@[simp] theorem State.setFolio_group (f : Folio) (s : State) : (s.setFolio f).group = s.group := by
  simp [State.setFolio]
@[simp] theorem State.setFolio_die (f : Folio) (s : State) : (s.setFolio f).die = s.die := by
  simp [State.setFolio]
@[simp] theorem State.setFolio_nibs (f : Folio) (s : State) : (s.setFolio f).nibs = s.nibs := by
  simp [State.setFolio]
@[simp] theorem State.setFolio_slot (f : Folio) (s : State) : (s.setFolio f).slot = s.slot := by
  simp [State.setFolio]
@[simp] theorem State.setFolio_quire (f : Folio) (s : State) : (s.setFolio f).quire = s.quire := by
  simp [State.setFolio]
@[simp] theorem State.setFolio_pounce (f : Folio) (s : State) : (s.setFolio f).pounce = s.pounce := by
  simp [State.setFolio]
@[simp] theorem State.setFolio_ink (f : Folio) (s : State) : (s.setFolio f).ink = s.ink := by
  simp [State.setFolio]
@[simp] theorem State.setFolio_axis (f : Folio) (s : State) : (s.setFolio f).axis = s.axis := by
  simp [State.setFolio]
@[simp] theorem State.setFolio_linear (f : Folio) (s : State) : (s.setFolio f).linear = s.linear := by
  simp [State.setFolio]
@[simp] theorem State.setFolio_margin (f : Folio) (s : State) : (s.setFolio f).margin = s.margin := by
  simp [State.setFolio]
@[simp] theorem State.setFolio_fab (f : Folio) (s : State) : (s.setFolio f).fab = s.fab := by
  simp [State.setFolio]
@[simp] theorem State.setFolio_tb (f : Folio) (s : State) : (s.setFolio f).tb = s.tb := by
  simp [State.setFolio]
@[simp] theorem State.setFolio_vel (f : Folio) (s : State) : (s.setFolio f).vel = s.vel := by
  simp [State.setFolio]
@[simp] theorem State.setFolio_blot (f : Folio) (s : State) : (s.setFolio f).blot = s.blot := by
  simp [State.setFolio]
@[simp] theorem State.setFolio_rst (f : Folio) (s : State) : (s.setFolio f).rst = s.rst := by
  simp [State.setFolio]
@[simp] theorem State.setFolio_ch (f : Folio) (s : State) (i : Fin 256) : (s.setFolio f).ch i = s.ch i := by
  simp only [State.ch, State.setFolio_chan]
@[simp] theorem State.setFolio_grp (f : Folio) (s : State) (i : Fin 16) : (s.setFolio f).grp i = s.grp i := by
  simp only [State.grp, State.setFolio_group]
@[simp] theorem State.setFolio_dieOf (f : Folio) (s : State) (i : Fin 4) : (s.setFolio f).dieOf i = s.dieOf i := by
  simp only [State.dieOf, State.setFolio_die]
@[simp] theorem State.setFolio_unit (f : Folio) (s : State) (i : Fin 32) : (s.setFolio f).unit i = s.unit i := by
  simp only [State.unit, State.setFolio_pounce]
@[simp] theorem State.setFolio_ax (f : Folio) (s : State) (i : Fin 8) : (s.setFolio f).ax i = s.ax i := by
  simp only [State.ax, State.setFolio_axis]
@[simp] theorem State.setFolio_slotOf (f : Folio) (s : State) (i : Fin 1024) : (s.setFolio f).slotOf i = s.slotOf i := by
  simp only [State.slotOf, State.setFolio_slot]
@[simp] theorem State.setFolio_port (f : Folio) (s : State) (i : Fin 4) : (s.setFolio f).port i = s.port i := by
  simp only [State.port, State.setFolio_fab]
@[simp] theorem State.setFolio_nibOf (f : Folio) (s : State) (i : Fin 20) : (s.setFolio f).nibOf i = s.nibOf i := by
  simp only [State.nibOf, State.setFolio_nibs]
@[simp] theorem State.setFolio_stream (f : Folio) (s : State) (i : Fin 4) : (s.setFolio f).stream i = s.stream i := by
  simp only [State.stream, State.setFolio_ink]
@[simp] theorem State.setFolio_chv (f : Folio) (s : State) (i : Fin 256) : (s.setFolio f).chv i = s.chv i := by
  simp only [State.chv, State.setFolio_vel]

@[simp] theorem State.setFolio_folio (f : Folio) (s : State) : (s.setFolio f).folio = f := by
  simp [State.setFolio]

/-! ### startTimer -/

@[simp] theorem State.startTimer_pending (k : Timer) (n : Nat) (s : State) : (s.startTimer k n).pending = s.pending := by
  rfl
@[simp] theorem State.startTimer_now (k : Timer) (n : Nat) (s : State) : (s.startTimer k n).now = s.now := by
  rfl
@[simp] theorem State.startTimer_rings (k : Timer) (n : Nat) (s : State) : (s.startTimer k n).rings = s.rings := by
  rfl
@[simp] theorem State.startTimer_chan (k : Timer) (n : Nat) (s : State) : (s.startTimer k n).chan = s.chan := by
  rfl
@[simp] theorem State.startTimer_group (k : Timer) (n : Nat) (s : State) : (s.startTimer k n).group = s.group := by
  rfl
@[simp] theorem State.startTimer_die (k : Timer) (n : Nat) (s : State) : (s.startTimer k n).die = s.die := by
  rfl
@[simp] theorem State.startTimer_nibs (k : Timer) (n : Nat) (s : State) : (s.startTimer k n).nibs = s.nibs := by
  rfl
@[simp] theorem State.startTimer_slot (k : Timer) (n : Nat) (s : State) : (s.startTimer k n).slot = s.slot := by
  rfl
@[simp] theorem State.startTimer_quire (k : Timer) (n : Nat) (s : State) : (s.startTimer k n).quire = s.quire := by
  rfl
@[simp] theorem State.startTimer_pounce (k : Timer) (n : Nat) (s : State) : (s.startTimer k n).pounce = s.pounce := by
  rfl
@[simp] theorem State.startTimer_ink (k : Timer) (n : Nat) (s : State) : (s.startTimer k n).ink = s.ink := by
  rfl
@[simp] theorem State.startTimer_axis (k : Timer) (n : Nat) (s : State) : (s.startTimer k n).axis = s.axis := by
  rfl
@[simp] theorem State.startTimer_linear (k : Timer) (n : Nat) (s : State) : (s.startTimer k n).linear = s.linear := by
  rfl
@[simp] theorem State.startTimer_margin (k : Timer) (n : Nat) (s : State) : (s.startTimer k n).margin = s.margin := by
  rfl
@[simp] theorem State.startTimer_host (k : Timer) (n : Nat) (s : State) : (s.startTimer k n).host = s.host := by
  rfl
@[simp] theorem State.startTimer_folio (k : Timer) (n : Nat) (s : State) : (s.startTimer k n).folio = s.folio := by
  rfl
@[simp] theorem State.startTimer_fab (k : Timer) (n : Nat) (s : State) : (s.startTimer k n).fab = s.fab := by
  rfl
@[simp] theorem State.startTimer_tb (k : Timer) (n : Nat) (s : State) : (s.startTimer k n).tb = s.tb := by
  rfl
@[simp] theorem State.startTimer_vel (k : Timer) (n : Nat) (s : State) : (s.startTimer k n).vel = s.vel := by
  rfl
@[simp] theorem State.startTimer_blot (k : Timer) (n : Nat) (s : State) : (s.startTimer k n).blot = s.blot := by
  rfl
@[simp] theorem State.startTimer_rst (k : Timer) (n : Nat) (s : State) : (s.startTimer k n).rst = s.rst := by
  rfl
@[simp] theorem State.startTimer_ch (k : Timer) (n : Nat) (s : State) (i : Fin 256) : (s.startTimer k n).ch i = s.ch i := by
  simp only [State.ch, State.startTimer_chan]
@[simp] theorem State.startTimer_grp (k : Timer) (n : Nat) (s : State) (i : Fin 16) : (s.startTimer k n).grp i = s.grp i := by
  simp only [State.grp, State.startTimer_group]
@[simp] theorem State.startTimer_dieOf (k : Timer) (n : Nat) (s : State) (i : Fin 4) : (s.startTimer k n).dieOf i = s.dieOf i := by
  simp only [State.dieOf, State.startTimer_die]
@[simp] theorem State.startTimer_unit (k : Timer) (n : Nat) (s : State) (i : Fin 32) : (s.startTimer k n).unit i = s.unit i := by
  simp only [State.unit, State.startTimer_pounce]
@[simp] theorem State.startTimer_ax (k : Timer) (n : Nat) (s : State) (i : Fin 8) : (s.startTimer k n).ax i = s.ax i := by
  simp only [State.ax, State.startTimer_axis]
@[simp] theorem State.startTimer_slotOf (k : Timer) (n : Nat) (s : State) (i : Fin 1024) : (s.startTimer k n).slotOf i = s.slotOf i := by
  simp only [State.slotOf, State.startTimer_slot]
@[simp] theorem State.startTimer_mbox (k : Timer) (n : Nat) (s : State) (i : Fin 8) : (s.startTimer k n).mbox i = s.mbox i := by
  simp only [State.mbox, State.startTimer_host]
@[simp] theorem State.startTimer_port (k : Timer) (n : Nat) (s : State) (i : Fin 4) : (s.startTimer k n).port i = s.port i := by
  simp only [State.port, State.startTimer_fab]
@[simp] theorem State.startTimer_nibOf (k : Timer) (n : Nat) (s : State) (i : Fin 20) : (s.startTimer k n).nibOf i = s.nibOf i := by
  simp only [State.nibOf, State.startTimer_nibs]
@[simp] theorem State.startTimer_stream (k : Timer) (n : Nat) (s : State) (i : Fin 4) : (s.startTimer k n).stream i = s.stream i := by
  simp only [State.stream, State.startTimer_ink]
@[simp] theorem State.startTimer_chv (k : Timer) (n : Nat) (s : State) (i : Fin 256) : (s.startTimer k n).chv i = s.chv i := by
  simp only [State.chv, State.startTimer_vel]

/-! ### tellLate -/

@[simp] theorem State.tellLate_pending (q : Quire) (s : State) : (s.tellLate q).pending = s.pending := by
  unfold State.tellLate; dsimp only; split <;> rfl
@[simp] theorem State.tellLate_now (q : Quire) (s : State) : (s.tellLate q).now = s.now := by
  unfold State.tellLate; dsimp only; split <;> rfl
@[simp] theorem State.tellLate_timers (q : Quire) (s : State) : (s.tellLate q).timers = s.timers := by
  unfold State.tellLate; dsimp only; split <;> rfl
@[simp] theorem State.tellLate_rings (q : Quire) (s : State) : (s.tellLate q).rings = s.rings := by
  unfold State.tellLate; dsimp only; split <;> rfl
@[simp] theorem State.tellLate_chan (q : Quire) (s : State) : (s.tellLate q).chan = s.chan := by
  unfold State.tellLate; dsimp only; split <;> rfl
@[simp] theorem State.tellLate_group (q : Quire) (s : State) : (s.tellLate q).group = s.group := by
  unfold State.tellLate; dsimp only; split <;> rfl
@[simp] theorem State.tellLate_die (q : Quire) (s : State) : (s.tellLate q).die = s.die := by
  unfold State.tellLate; dsimp only; split <;> rfl
@[simp] theorem State.tellLate_nibs (q : Quire) (s : State) : (s.tellLate q).nibs = s.nibs := by
  unfold State.tellLate; dsimp only; split <;> rfl
@[simp] theorem State.tellLate_slot (q : Quire) (s : State) : (s.tellLate q).slot = s.slot := by
  unfold State.tellLate; dsimp only; split <;> rfl
@[simp] theorem State.tellLate_pounce (q : Quire) (s : State) : (s.tellLate q).pounce = s.pounce := by
  unfold State.tellLate; dsimp only; split <;> rfl
@[simp] theorem State.tellLate_ink (q : Quire) (s : State) : (s.tellLate q).ink = s.ink := by
  unfold State.tellLate; dsimp only; split <;> rfl
@[simp] theorem State.tellLate_axis (q : Quire) (s : State) : (s.tellLate q).axis = s.axis := by
  unfold State.tellLate; dsimp only; split <;> rfl
@[simp] theorem State.tellLate_linear (q : Quire) (s : State) : (s.tellLate q).linear = s.linear := by
  unfold State.tellLate; dsimp only; split <;> rfl
@[simp] theorem State.tellLate_margin (q : Quire) (s : State) : (s.tellLate q).margin = s.margin := by
  unfold State.tellLate; dsimp only; split <;> rfl
@[simp] theorem State.tellLate_host (q : Quire) (s : State) : (s.tellLate q).host = s.host := by
  unfold State.tellLate; dsimp only; split <;> rfl
@[simp] theorem State.tellLate_folio (q : Quire) (s : State) : (s.tellLate q).folio = s.folio := by
  unfold State.tellLate; dsimp only; split <;> rfl
@[simp] theorem State.tellLate_fab (q : Quire) (s : State) : (s.tellLate q).fab = s.fab := by
  unfold State.tellLate; dsimp only; split <;> rfl
@[simp] theorem State.tellLate_tb (q : Quire) (s : State) : (s.tellLate q).tb = s.tb := by
  unfold State.tellLate; dsimp only; split <;> rfl
@[simp] theorem State.tellLate_vel (q : Quire) (s : State) : (s.tellLate q).vel = s.vel := by
  unfold State.tellLate; dsimp only; split <;> rfl
@[simp] theorem State.tellLate_rst (q : Quire) (s : State) : (s.tellLate q).rst = s.rst := by
  unfold State.tellLate; dsimp only; split <;> rfl
@[simp] theorem State.tellLate_ch (q : Quire) (s : State) (i : Fin 256) : (s.tellLate q).ch i = s.ch i := by
  simp only [State.ch, State.tellLate_chan]
@[simp] theorem State.tellLate_grp (q : Quire) (s : State) (i : Fin 16) : (s.tellLate q).grp i = s.grp i := by
  simp only [State.grp, State.tellLate_group]
@[simp] theorem State.tellLate_dieOf (q : Quire) (s : State) (i : Fin 4) : (s.tellLate q).dieOf i = s.dieOf i := by
  simp only [State.dieOf, State.tellLate_die]
@[simp] theorem State.tellLate_unit (q : Quire) (s : State) (i : Fin 32) : (s.tellLate q).unit i = s.unit i := by
  simp only [State.unit, State.tellLate_pounce]
@[simp] theorem State.tellLate_ax (q : Quire) (s : State) (i : Fin 8) : (s.tellLate q).ax i = s.ax i := by
  simp only [State.ax, State.tellLate_axis]
@[simp] theorem State.tellLate_slotOf (q : Quire) (s : State) (i : Fin 1024) : (s.tellLate q).slotOf i = s.slotOf i := by
  simp only [State.slotOf, State.tellLate_slot]
@[simp] theorem State.tellLate_mbox (q : Quire) (s : State) (i : Fin 8) : (s.tellLate q).mbox i = s.mbox i := by
  simp only [State.mbox, State.tellLate_host]
@[simp] theorem State.tellLate_port (q : Quire) (s : State) (i : Fin 4) : (s.tellLate q).port i = s.port i := by
  simp only [State.port, State.tellLate_fab]
@[simp] theorem State.tellLate_nibOf (q : Quire) (s : State) (i : Fin 20) : (s.tellLate q).nibOf i = s.nibOf i := by
  simp only [State.nibOf, State.tellLate_nibs]
@[simp] theorem State.tellLate_stream (q : Quire) (s : State) (i : Fin 4) : (s.tellLate q).stream i = s.stream i := by
  simp only [State.stream, State.tellLate_ink]
@[simp] theorem State.tellLate_chv (q : Quire) (s : State) (i : Fin 256) : (s.tellLate q).chv i = s.chv i := by
  simp only [State.chv, State.tellLate_vel]

/-! ### finish -/

@[simp] theorem State.finish_pending (u : Nat) (s : State) : (s.finish u).pending = s.pending := by
  simp [State.finish]
@[simp] theorem State.finish_now (u : Nat) (s : State) : (s.finish u).now = s.now := by
  simp [State.finish]
@[simp] theorem State.finish_timers (u : Nat) (s : State) : (s.finish u).timers = s.timers := by
  simp [State.finish]
@[simp] theorem State.finish_rings (u : Nat) (s : State) : (s.finish u).rings = s.rings := by
  simp [State.finish]
@[simp] theorem State.finish_chan (u : Nat) (s : State) : (s.finish u).chan = s.chan := by
  simp [State.finish]
@[simp] theorem State.finish_group (u : Nat) (s : State) : (s.finish u).group = s.group := by
  simp [State.finish]
@[simp] theorem State.finish_die (u : Nat) (s : State) : (s.finish u).die = s.die := by
  simp [State.finish]
@[simp] theorem State.finish_nibs (u : Nat) (s : State) : (s.finish u).nibs = s.nibs := by
  simp [State.finish]
@[simp] theorem State.finish_slot (u : Nat) (s : State) : (s.finish u).slot = s.slot := by
  simp [State.finish]
@[simp] theorem State.finish_pounce (u : Nat) (s : State) : (s.finish u).pounce = s.pounce := by
  simp [State.finish]
@[simp] theorem State.finish_ink (u : Nat) (s : State) : (s.finish u).ink = s.ink := by
  simp [State.finish]
@[simp] theorem State.finish_axis (u : Nat) (s : State) : (s.finish u).axis = s.axis := by
  simp [State.finish]
@[simp] theorem State.finish_linear (u : Nat) (s : State) : (s.finish u).linear = s.linear := by
  simp [State.finish]
@[simp] theorem State.finish_margin (u : Nat) (s : State) : (s.finish u).margin = s.margin := by
  simp [State.finish]
@[simp] theorem State.finish_host (u : Nat) (s : State) : (s.finish u).host = s.host := by
  simp [State.finish]
@[simp] theorem State.finish_folio (u : Nat) (s : State) : (s.finish u).folio = s.folio := by
  simp [State.finish]
@[simp] theorem State.finish_fab (u : Nat) (s : State) : (s.finish u).fab = s.fab := by
  simp [State.finish]
@[simp] theorem State.finish_tb (u : Nat) (s : State) : (s.finish u).tb = s.tb := by
  simp [State.finish]
@[simp] theorem State.finish_vel (u : Nat) (s : State) : (s.finish u).vel = s.vel := by
  simp [State.finish]
@[simp] theorem State.finish_rst (u : Nat) (s : State) : (s.finish u).rst = s.rst := by
  simp [State.finish]
@[simp] theorem State.finish_ch (u : Nat) (s : State) (i : Fin 256) : (s.finish u).ch i = s.ch i := by
  simp only [State.ch, State.finish_chan]
@[simp] theorem State.finish_grp (u : Nat) (s : State) (i : Fin 16) : (s.finish u).grp i = s.grp i := by
  simp only [State.grp, State.finish_group]
@[simp] theorem State.finish_dieOf (u : Nat) (s : State) (i : Fin 4) : (s.finish u).dieOf i = s.dieOf i := by
  simp only [State.dieOf, State.finish_die]
@[simp] theorem State.finish_unit (u : Nat) (s : State) (i : Fin 32) : (s.finish u).unit i = s.unit i := by
  simp only [State.unit, State.finish_pounce]
@[simp] theorem State.finish_ax (u : Nat) (s : State) (i : Fin 8) : (s.finish u).ax i = s.ax i := by
  simp only [State.ax, State.finish_axis]
@[simp] theorem State.finish_slotOf (u : Nat) (s : State) (i : Fin 1024) : (s.finish u).slotOf i = s.slotOf i := by
  simp only [State.slotOf, State.finish_slot]
@[simp] theorem State.finish_mbox (u : Nat) (s : State) (i : Fin 8) : (s.finish u).mbox i = s.mbox i := by
  simp only [State.mbox, State.finish_host]
@[simp] theorem State.finish_port (u : Nat) (s : State) (i : Fin 4) : (s.finish u).port i = s.port i := by
  simp only [State.port, State.finish_fab]
@[simp] theorem State.finish_nibOf (u : Nat) (s : State) (i : Fin 20) : (s.finish u).nibOf i = s.nibOf i := by
  simp only [State.nibOf, State.finish_nibs]
@[simp] theorem State.finish_stream (u : Nat) (s : State) (i : Fin 4) : (s.finish u).stream i = s.stream i := by
  simp only [State.stream, State.finish_ink]
@[simp] theorem State.finish_chv (u : Nat) (s : State) (i : Fin 256) : (s.finish u).chv i = s.chv i := by
  simp only [State.chv, State.finish_vel]

/-! ### dropItem -/

@[simp] theorem State.dropItem_pending (c : Nat) (it : Item) (s : State) : (s.dropItem c it).pending = s.pending := by
  simp [State.dropItem]
@[simp] theorem State.dropItem_now (c : Nat) (it : Item) (s : State) : (s.dropItem c it).now = s.now := by
  simp [State.dropItem]
@[simp] theorem State.dropItem_timers (c : Nat) (it : Item) (s : State) : (s.dropItem c it).timers = s.timers := by
  simp [State.dropItem]
@[simp] theorem State.dropItem_rings (c : Nat) (it : Item) (s : State) : (s.dropItem c it).rings = s.rings := by
  simp [State.dropItem]
@[simp] theorem State.dropItem_chan (c : Nat) (it : Item) (s : State) : (s.dropItem c it).chan = s.chan := by
  simp [State.dropItem]
@[simp] theorem State.dropItem_group (c : Nat) (it : Item) (s : State) : (s.dropItem c it).group = s.group := by
  simp [State.dropItem]
@[simp] theorem State.dropItem_die (c : Nat) (it : Item) (s : State) : (s.dropItem c it).die = s.die := by
  simp [State.dropItem]
@[simp] theorem State.dropItem_nibs (c : Nat) (it : Item) (s : State) : (s.dropItem c it).nibs = s.nibs := by
  simp [State.dropItem]
@[simp] theorem State.dropItem_slot (c : Nat) (it : Item) (s : State) : (s.dropItem c it).slot = s.slot := by
  simp [State.dropItem]
@[simp] theorem State.dropItem_pounce (c : Nat) (it : Item) (s : State) : (s.dropItem c it).pounce = s.pounce := by
  simp [State.dropItem]
@[simp] theorem State.dropItem_ink (c : Nat) (it : Item) (s : State) : (s.dropItem c it).ink = s.ink := by
  simp [State.dropItem]
@[simp] theorem State.dropItem_axis (c : Nat) (it : Item) (s : State) : (s.dropItem c it).axis = s.axis := by
  simp [State.dropItem]
@[simp] theorem State.dropItem_linear (c : Nat) (it : Item) (s : State) : (s.dropItem c it).linear = s.linear := by
  simp [State.dropItem]
@[simp] theorem State.dropItem_margin (c : Nat) (it : Item) (s : State) : (s.dropItem c it).margin = s.margin := by
  simp [State.dropItem]
@[simp] theorem State.dropItem_host (c : Nat) (it : Item) (s : State) : (s.dropItem c it).host = s.host := by
  simp [State.dropItem]
@[simp] theorem State.dropItem_folio (c : Nat) (it : Item) (s : State) : (s.dropItem c it).folio = s.folio := by
  simp [State.dropItem]
@[simp] theorem State.dropItem_fab (c : Nat) (it : Item) (s : State) : (s.dropItem c it).fab = s.fab := by
  simp [State.dropItem]
@[simp] theorem State.dropItem_tb (c : Nat) (it : Item) (s : State) : (s.dropItem c it).tb = s.tb := by
  simp [State.dropItem]
@[simp] theorem State.dropItem_vel (c : Nat) (it : Item) (s : State) : (s.dropItem c it).vel = s.vel := by
  simp [State.dropItem]
@[simp] theorem State.dropItem_rst (c : Nat) (it : Item) (s : State) : (s.dropItem c it).rst = s.rst := by
  simp [State.dropItem]
@[simp] theorem State.dropItem_ch (c : Nat) (it : Item) (s : State) (i : Fin 256) : (s.dropItem c it).ch i = s.ch i := by
  simp only [State.ch, State.dropItem_chan]
@[simp] theorem State.dropItem_grp (c : Nat) (it : Item) (s : State) (i : Fin 16) : (s.dropItem c it).grp i = s.grp i := by
  simp only [State.grp, State.dropItem_group]
@[simp] theorem State.dropItem_dieOf (c : Nat) (it : Item) (s : State) (i : Fin 4) : (s.dropItem c it).dieOf i = s.dieOf i := by
  simp only [State.dieOf, State.dropItem_die]
@[simp] theorem State.dropItem_unit (c : Nat) (it : Item) (s : State) (i : Fin 32) : (s.dropItem c it).unit i = s.unit i := by
  simp only [State.unit, State.dropItem_pounce]
@[simp] theorem State.dropItem_ax (c : Nat) (it : Item) (s : State) (i : Fin 8) : (s.dropItem c it).ax i = s.ax i := by
  simp only [State.ax, State.dropItem_axis]
@[simp] theorem State.dropItem_slotOf (c : Nat) (it : Item) (s : State) (i : Fin 1024) : (s.dropItem c it).slotOf i = s.slotOf i := by
  simp only [State.slotOf, State.dropItem_slot]
@[simp] theorem State.dropItem_mbox (c : Nat) (it : Item) (s : State) (i : Fin 8) : (s.dropItem c it).mbox i = s.mbox i := by
  simp only [State.mbox, State.dropItem_host]
@[simp] theorem State.dropItem_port (c : Nat) (it : Item) (s : State) (i : Fin 4) : (s.dropItem c it).port i = s.port i := by
  simp only [State.port, State.dropItem_fab]
@[simp] theorem State.dropItem_nibOf (c : Nat) (it : Item) (s : State) (i : Fin 20) : (s.dropItem c it).nibOf i = s.nibOf i := by
  simp only [State.nibOf, State.dropItem_nibs]
@[simp] theorem State.dropItem_stream (c : Nat) (it : Item) (s : State) (i : Fin 4) : (s.dropItem c it).stream i = s.stream i := by
  simp only [State.stream, State.dropItem_ink]
@[simp] theorem State.dropItem_chv (c : Nat) (it : Item) (s : State) (i : Fin 256) : (s.dropItem c it).chv i = s.chv i := by
  simp only [State.chv, State.dropItem_vel]

/-! ### setCh -/

@[simp] theorem State.setCh_pending (n : Fin 256) (c : Channel) (s : State) : (s.setCh n c).pending = s.pending := by
  rfl
@[simp] theorem State.setCh_now (n : Fin 256) (c : Channel) (s : State) : (s.setCh n c).now = s.now := by
  rfl
@[simp] theorem State.setCh_timers (n : Fin 256) (c : Channel) (s : State) : (s.setCh n c).timers = s.timers := by
  rfl
@[simp] theorem State.setCh_rings (n : Fin 256) (c : Channel) (s : State) : (s.setCh n c).rings = s.rings := by
  rfl
@[simp] theorem State.setCh_group (n : Fin 256) (c : Channel) (s : State) : (s.setCh n c).group = s.group := by
  rfl
@[simp] theorem State.setCh_die (n : Fin 256) (c : Channel) (s : State) : (s.setCh n c).die = s.die := by
  rfl
@[simp] theorem State.setCh_nibs (n : Fin 256) (c : Channel) (s : State) : (s.setCh n c).nibs = s.nibs := by
  rfl
@[simp] theorem State.setCh_slot (n : Fin 256) (c : Channel) (s : State) : (s.setCh n c).slot = s.slot := by
  rfl
@[simp] theorem State.setCh_quire (n : Fin 256) (c : Channel) (s : State) : (s.setCh n c).quire = s.quire := by
  rfl
@[simp] theorem State.setCh_pounce (n : Fin 256) (c : Channel) (s : State) : (s.setCh n c).pounce = s.pounce := by
  rfl
@[simp] theorem State.setCh_ink (n : Fin 256) (c : Channel) (s : State) : (s.setCh n c).ink = s.ink := by
  rfl
@[simp] theorem State.setCh_axis (n : Fin 256) (c : Channel) (s : State) : (s.setCh n c).axis = s.axis := by
  rfl
@[simp] theorem State.setCh_linear (n : Fin 256) (c : Channel) (s : State) : (s.setCh n c).linear = s.linear := by
  rfl
@[simp] theorem State.setCh_margin (n : Fin 256) (c : Channel) (s : State) : (s.setCh n c).margin = s.margin := by
  rfl
@[simp] theorem State.setCh_host (n : Fin 256) (c : Channel) (s : State) : (s.setCh n c).host = s.host := by
  rfl
@[simp] theorem State.setCh_folio (n : Fin 256) (c : Channel) (s : State) : (s.setCh n c).folio = s.folio := by
  rfl
@[simp] theorem State.setCh_fab (n : Fin 256) (c : Channel) (s : State) : (s.setCh n c).fab = s.fab := by
  rfl
@[simp] theorem State.setCh_tb (n : Fin 256) (c : Channel) (s : State) : (s.setCh n c).tb = s.tb := by
  rfl
@[simp] theorem State.setCh_vel (n : Fin 256) (c : Channel) (s : State) : (s.setCh n c).vel = s.vel := by
  rfl
@[simp] theorem State.setCh_blot (n : Fin 256) (c : Channel) (s : State) : (s.setCh n c).blot = s.blot := by
  rfl
@[simp] theorem State.setCh_rst (n : Fin 256) (c : Channel) (s : State) : (s.setCh n c).rst = s.rst := by
  rfl
@[simp] theorem State.setCh_grp (n : Fin 256) (c : Channel) (s : State) (i : Fin 16) : (s.setCh n c).grp i = s.grp i := by
  simp only [State.grp, State.setCh_group]
@[simp] theorem State.setCh_dieOf (n : Fin 256) (c : Channel) (s : State) (i : Fin 4) : (s.setCh n c).dieOf i = s.dieOf i := by
  simp only [State.dieOf, State.setCh_die]
@[simp] theorem State.setCh_unit (n : Fin 256) (c : Channel) (s : State) (i : Fin 32) : (s.setCh n c).unit i = s.unit i := by
  simp only [State.unit, State.setCh_pounce]
@[simp] theorem State.setCh_ax (n : Fin 256) (c : Channel) (s : State) (i : Fin 8) : (s.setCh n c).ax i = s.ax i := by
  simp only [State.ax, State.setCh_axis]
@[simp] theorem State.setCh_slotOf (n : Fin 256) (c : Channel) (s : State) (i : Fin 1024) : (s.setCh n c).slotOf i = s.slotOf i := by
  simp only [State.slotOf, State.setCh_slot]
@[simp] theorem State.setCh_mbox (n : Fin 256) (c : Channel) (s : State) (i : Fin 8) : (s.setCh n c).mbox i = s.mbox i := by
  simp only [State.mbox, State.setCh_host]
@[simp] theorem State.setCh_port (n : Fin 256) (c : Channel) (s : State) (i : Fin 4) : (s.setCh n c).port i = s.port i := by
  simp only [State.port, State.setCh_fab]
@[simp] theorem State.setCh_nibOf (n : Fin 256) (c : Channel) (s : State) (i : Fin 20) : (s.setCh n c).nibOf i = s.nibOf i := by
  simp only [State.nibOf, State.setCh_nibs]
@[simp] theorem State.setCh_stream (n : Fin 256) (c : Channel) (s : State) (i : Fin 4) : (s.setCh n c).stream i = s.stream i := by
  simp only [State.stream, State.setCh_ink]
@[simp] theorem State.setCh_chv (n : Fin 256) (c : Channel) (s : State) (i : Fin 256) : (s.setCh n c).chv i = s.chv i := by
  simp only [State.chv, State.setCh_vel]

/-! ### post -/

@[simp] theorem State.post_pending (flow : Nat) (tgt : QTarget) (prio : Nat) (w : Work) (d : Nat) (p : Producer) (s : State) : (s.post flow tgt prio w d p).pending = s.pending := by
  unfold State.post; dsimp only; repeat' split
  all_goals rfl
@[simp] theorem State.post_now (flow : Nat) (tgt : QTarget) (prio : Nat) (w : Work) (d : Nat) (p : Producer) (s : State) : (s.post flow tgt prio w d p).now = s.now := by
  unfold State.post; dsimp only; repeat' split
  all_goals rfl
@[simp] theorem State.post_timers (flow : Nat) (tgt : QTarget) (prio : Nat) (w : Work) (d : Nat) (p : Producer) (s : State) : (s.post flow tgt prio w d p).timers = s.timers := by
  unfold State.post; dsimp only; repeat' split
  all_goals rfl
@[simp] theorem State.post_rings (flow : Nat) (tgt : QTarget) (prio : Nat) (w : Work) (d : Nat) (p : Producer) (s : State) : (s.post flow tgt prio w d p).rings = s.rings := by
  unfold State.post; dsimp only; repeat' split
  all_goals rfl
@[simp] theorem State.post_chan (flow : Nat) (tgt : QTarget) (prio : Nat) (w : Work) (d : Nat) (p : Producer) (s : State) : (s.post flow tgt prio w d p).chan = s.chan := by
  unfold State.post; dsimp only; repeat' split
  all_goals rfl
@[simp] theorem State.post_group (flow : Nat) (tgt : QTarget) (prio : Nat) (w : Work) (d : Nat) (p : Producer) (s : State) : (s.post flow tgt prio w d p).group = s.group := by
  unfold State.post; dsimp only; repeat' split
  all_goals rfl
@[simp] theorem State.post_die (flow : Nat) (tgt : QTarget) (prio : Nat) (w : Work) (d : Nat) (p : Producer) (s : State) : (s.post flow tgt prio w d p).die = s.die := by
  unfold State.post; dsimp only; repeat' split
  all_goals rfl
@[simp] theorem State.post_nibs (flow : Nat) (tgt : QTarget) (prio : Nat) (w : Work) (d : Nat) (p : Producer) (s : State) : (s.post flow tgt prio w d p).nibs = s.nibs := by
  unfold State.post; dsimp only; repeat' split
  all_goals rfl
@[simp] theorem State.post_slot (flow : Nat) (tgt : QTarget) (prio : Nat) (w : Work) (d : Nat) (p : Producer) (s : State) : (s.post flow tgt prio w d p).slot = s.slot := by
  unfold State.post; dsimp only; repeat' split
  all_goals rfl
@[simp] theorem State.post_pounce (flow : Nat) (tgt : QTarget) (prio : Nat) (w : Work) (d : Nat) (p : Producer) (s : State) : (s.post flow tgt prio w d p).pounce = s.pounce := by
  unfold State.post; dsimp only; repeat' split
  all_goals rfl
@[simp] theorem State.post_ink (flow : Nat) (tgt : QTarget) (prio : Nat) (w : Work) (d : Nat) (p : Producer) (s : State) : (s.post flow tgt prio w d p).ink = s.ink := by
  unfold State.post; dsimp only; repeat' split
  all_goals rfl
@[simp] theorem State.post_axis (flow : Nat) (tgt : QTarget) (prio : Nat) (w : Work) (d : Nat) (p : Producer) (s : State) : (s.post flow tgt prio w d p).axis = s.axis := by
  unfold State.post; dsimp only; repeat' split
  all_goals rfl
@[simp] theorem State.post_linear (flow : Nat) (tgt : QTarget) (prio : Nat) (w : Work) (d : Nat) (p : Producer) (s : State) : (s.post flow tgt prio w d p).linear = s.linear := by
  unfold State.post; dsimp only; repeat' split
  all_goals rfl
@[simp] theorem State.post_margin (flow : Nat) (tgt : QTarget) (prio : Nat) (w : Work) (d : Nat) (p : Producer) (s : State) : (s.post flow tgt prio w d p).margin = s.margin := by
  unfold State.post; dsimp only; repeat' split
  all_goals rfl
@[simp] theorem State.post_host (flow : Nat) (tgt : QTarget) (prio : Nat) (w : Work) (d : Nat) (p : Producer) (s : State) : (s.post flow tgt prio w d p).host = s.host := by
  unfold State.post; dsimp only; repeat' split
  all_goals rfl
@[simp] theorem State.post_folio (flow : Nat) (tgt : QTarget) (prio : Nat) (w : Work) (d : Nat) (p : Producer) (s : State) : (s.post flow tgt prio w d p).folio = s.folio := by
  unfold State.post; dsimp only; repeat' split
  all_goals rfl
@[simp] theorem State.post_fab (flow : Nat) (tgt : QTarget) (prio : Nat) (w : Work) (d : Nat) (p : Producer) (s : State) : (s.post flow tgt prio w d p).fab = s.fab := by
  unfold State.post; dsimp only; repeat' split
  all_goals rfl
@[simp] theorem State.post_tb (flow : Nat) (tgt : QTarget) (prio : Nat) (w : Work) (d : Nat) (p : Producer) (s : State) : (s.post flow tgt prio w d p).tb = s.tb := by
  unfold State.post; dsimp only; repeat' split
  all_goals rfl
@[simp] theorem State.post_vel (flow : Nat) (tgt : QTarget) (prio : Nat) (w : Work) (d : Nat) (p : Producer) (s : State) : (s.post flow tgt prio w d p).vel = s.vel := by
  unfold State.post; dsimp only; repeat' split
  all_goals rfl
@[simp] theorem State.post_rst (flow : Nat) (tgt : QTarget) (prio : Nat) (w : Work) (d : Nat) (p : Producer) (s : State) : (s.post flow tgt prio w d p).rst = s.rst := by
  unfold State.post; dsimp only; repeat' split
  all_goals rfl
@[simp] theorem State.post_ch (flow : Nat) (tgt : QTarget) (prio : Nat) (w : Work) (d : Nat) (p : Producer) (s : State) (i : Fin 256) : (s.post flow tgt prio w d p).ch i = s.ch i := by
  simp only [State.ch, State.post_chan]
@[simp] theorem State.post_grp (flow : Nat) (tgt : QTarget) (prio : Nat) (w : Work) (d : Nat) (p : Producer) (s : State) (i : Fin 16) : (s.post flow tgt prio w d p).grp i = s.grp i := by
  simp only [State.grp, State.post_group]
@[simp] theorem State.post_dieOf (flow : Nat) (tgt : QTarget) (prio : Nat) (w : Work) (d : Nat) (p : Producer) (s : State) (i : Fin 4) : (s.post flow tgt prio w d p).dieOf i = s.dieOf i := by
  simp only [State.dieOf, State.post_die]
@[simp] theorem State.post_unit (flow : Nat) (tgt : QTarget) (prio : Nat) (w : Work) (d : Nat) (p : Producer) (s : State) (i : Fin 32) : (s.post flow tgt prio w d p).unit i = s.unit i := by
  simp only [State.unit, State.post_pounce]
@[simp] theorem State.post_ax (flow : Nat) (tgt : QTarget) (prio : Nat) (w : Work) (d : Nat) (p : Producer) (s : State) (i : Fin 8) : (s.post flow tgt prio w d p).ax i = s.ax i := by
  simp only [State.ax, State.post_axis]
@[simp] theorem State.post_slotOf (flow : Nat) (tgt : QTarget) (prio : Nat) (w : Work) (d : Nat) (p : Producer) (s : State) (i : Fin 1024) : (s.post flow tgt prio w d p).slotOf i = s.slotOf i := by
  simp only [State.slotOf, State.post_slot]
@[simp] theorem State.post_mbox (flow : Nat) (tgt : QTarget) (prio : Nat) (w : Work) (d : Nat) (p : Producer) (s : State) (i : Fin 8) : (s.post flow tgt prio w d p).mbox i = s.mbox i := by
  simp only [State.mbox, State.post_host]
@[simp] theorem State.post_port (flow : Nat) (tgt : QTarget) (prio : Nat) (w : Work) (d : Nat) (p : Producer) (s : State) (i : Fin 4) : (s.post flow tgt prio w d p).port i = s.port i := by
  simp only [State.port, State.post_fab]
@[simp] theorem State.post_nibOf (flow : Nat) (tgt : QTarget) (prio : Nat) (w : Work) (d : Nat) (p : Producer) (s : State) (i : Fin 20) : (s.post flow tgt prio w d p).nibOf i = s.nibOf i := by
  simp only [State.nibOf, State.post_nibs]
@[simp] theorem State.post_stream (flow : Nat) (tgt : QTarget) (prio : Nat) (w : Work) (d : Nat) (p : Producer) (s : State) (i : Fin 4) : (s.post flow tgt prio w d p).stream i = s.stream i := by
  simp only [State.stream, State.post_ink]
@[simp] theorem State.post_chv (flow : Nat) (tgt : QTarget) (prio : Nat) (w : Work) (d : Nat) (p : Producer) (s : State) (i : Fin 256) : (s.post flow tgt prio w d p).chv i = s.chv i := by
  simp only [State.chv, State.post_vel]

/-! ### message and irq on the host's other fields -/

theorem HostIf.message_cases (v : Nat) (h : HostIf) : ∃ p q, h.message v = { h with
    pba := p
    sentIrq := q } := by
  unfold HostIf.message
  split
  · exact ⟨h.pba, h.sentIrq, rfl⟩
  · split
    · exact ⟨_, h.sentIrq, rfl⟩
    · exact ⟨h.pba, _, rfl⟩

theorem HostIf.irq_cases (v : Nat) (b : Bool) (h : HostIf) : ∃ w p q, h.irq v b = { h with
    irqStat := w
    pba := p
    sentIrq := q } := by
  unfold HostIf.irq
  dsimp only
  split
  · obtain ⟨p, q, e⟩ := HostIf.message_cases v { h with irqStat := h.irqStat ||| w32 (2 ^ v) }
    exact ⟨_, p, q, e⟩
  · exact ⟨_, h.pba, h.sentIrq, rfl⟩

@[simp] theorem HostIf.irq_irqStat (v : Nat) (b : Bool) (h : HostIf) : (h.irq v b).irqStat = h.irqStat ||| w32 (2 ^ v) := by
  unfold HostIf.irq
  dsimp only
  split
  · obtain ⟨p, q, e⟩ := HostIf.message_cases v { h with irqStat := h.irqStat ||| w32 (2 ^ v) }
    rw [e]
  · rfl

@[simp] theorem HostIf.irq_mb (v : Nat) (b : Bool) (h : HostIf) : (h.irq v b).mb = h.mb := by
  obtain ⟨_, _, _, e⟩ := h.irq_cases v b; rw [e]
@[simp] theorem HostIf.irq_irqEn (v : Nat) (b : Bool) (h : HostIf) : (h.irq v b).irqEn = h.irqEn := by
  obtain ⟨_, _, _, e⟩ := h.irq_cases v b; rw [e]
@[simp] theorem HostIf.irq_resetCause (v : Nat) (b : Bool) (h : HostIf) : (h.irq v b).resetCause = h.resetCause := by
  obtain ⟨_, _, _, e⟩ := h.irq_cases v b; rw [e]
@[simp] theorem HostIf.irq_resetCtl (v : Nat) (b : Bool) (h : HostIf) : (h.irq v b).resetCtl = h.resetCtl := by
  obtain ⟨_, _, _, e⟩ := h.irq_cases v b; rw [e]
@[simp] theorem HostIf.irq_winCfg (v : Nat) (b : Bool) (h : HostIf) : (h.irq v b).winCfg = h.winCfg := by
  obtain ⟨_, _, _, e⟩ := h.irq_cases v b; rw [e]
@[simp] theorem HostIf.irq_accessErr (v : Nat) (b : Bool) (h : HostIf) : (h.irq v b).accessErr = h.accessErr := by
  obtain ⟨_, _, _, e⟩ := h.irq_cases v b; rw [e]
@[simp] theorem HostIf.irq_soReq (v : Nat) (b : Bool) (h : HostIf) : (h.irq v b).soReq = h.soReq := by
  obtain ⟨_, _, _, e⟩ := h.irq_cases v b; rw [e]
@[simp] theorem HostIf.irq_cursorP (v : Nat) (b : Bool) (h : HostIf) : (h.irq v b).cursorP = h.cursorP := by
  obtain ⟨_, _, _, e⟩ := h.irq_cases v b; rw [e]
@[simp] theorem HostIf.irq_cursorF (v : Nat) (b : Bool) (h : HostIf) : (h.irq v b).cursorF = h.cursorF := by
  obtain ⟨_, _, _, e⟩ := h.irq_cases v b; rw [e]
@[simp] theorem HostIf.irq_windowP (v : Nat) (b : Bool) (h : HostIf) : (h.irq v b).windowP = h.windowP := by
  obtain ⟨_, _, _, e⟩ := h.irq_cases v b; rw [e]
@[simp] theorem HostIf.irq_windowF (v : Nat) (b : Bool) (h : HostIf) : (h.irq v b).windowF = h.windowF := by
  obtain ⟨_, _, _, e⟩ := h.irq_cases v b; rw [e]
@[simp] theorem HostIf.irq_latchP (v : Nat) (b : Bool) (h : HostIf) : (h.irq v b).latchP = h.latchP := by
  obtain ⟨_, _, _, e⟩ := h.irq_cases v b; rw [e]
@[simp] theorem HostIf.irq_latchF (v : Nat) (b : Bool) (h : HostIf) : (h.irq v b).latchF = h.latchF := by
  obtain ⟨_, _, _, e⟩ := h.irq_cases v b; rw [e]
@[simp] theorem HostIf.irq_msix (v : Nat) (b : Bool) (h : HostIf) : (h.irq v b).msix = h.msix := by
  obtain ⟨_, _, _, e⟩ := h.irq_cases v b; rw [e]
@[simp] theorem HostIf.irq_txOff (v : Nat) (b : Bool) (h : HostIf) : (h.irq v b).txOff = h.txOff := by
  obtain ⟨_, _, _, e⟩ := h.irq_cases v b; rw [e]
@[simp] theorem HostIf.irq_hlim (v : Nat) (b : Bool) (h : HostIf) : (h.irq v b).hlim = h.hlim := by
  obtain ⟨_, _, _, e⟩ := h.irq_cases v b; rw [e]
@[simp] theorem HostIf.irq_pwEng (v : Nat) (b : Bool) (h : HostIf) : (h.irq v b).pwEng = h.pwEng := by
  obtain ⟨_, _, _, e⟩ := h.irq_cases v b; rw [e]
@[simp] theorem HostIf.irq_pwSaf (v : Nat) (b : Bool) (h : HostIf) : (h.irq v b).pwSaf = h.pwSaf := by
  obtain ⟨_, _, _, e⟩ := h.irq_cases v b; rw [e]
@[simp] theorem HostIf.irq_failEng (v : Nat) (b : Bool) (h : HostIf) : (h.irq v b).failEng = h.failEng := by
  obtain ⟨_, _, _, e⟩ := h.irq_cases v b; rw [e]
@[simp] theorem HostIf.irq_failSaf (v : Nat) (b : Bool) (h : HostIf) : (h.irq v b).failSaf = h.failSaf := by
  obtain ⟨_, _, _, e⟩ := h.irq_cases v b; rw [e]
@[simp] theorem HostIf.irq_lockEng (v : Nat) (b : Bool) (h : HostIf) : (h.irq v b).lockEng = h.lockEng := by
  obtain ⟨_, _, _, e⟩ := h.irq_cases v b; rw [e]
@[simp] theorem HostIf.irq_lockSaf (v : Nat) (b : Bool) (h : HostIf) : (h.irq v b).lockSaf = h.lockSaf := by
  obtain ⟨_, _, _, e⟩ := h.irq_cases v b; rw [e]
@[simp] theorem HostIf.irq_sessions (v : Nat) (b : Bool) (h : HostIf) : (h.irq v b).sessions = h.sessions := by
  obtain ⟨_, _, _, e⟩ := h.irq_cases v b; rw [e]
@[simp] theorem HostIf.irq_linkSpeed (v : Nat) (b : Bool) (h : HostIf) : (h.irq v b).linkSpeed = h.linkSpeed := by
  obtain ⟨_, _, _, e⟩ := h.irq_cases v b; rw [e]
@[simp] theorem HostIf.irq_linkWidth (v : Nat) (b : Bool) (h : HostIf) : (h.irq v b).linkWidth = h.linkWidth := by
  obtain ⟨_, _, _, e⟩ := h.irq_cases v b; rw [e]
@[simp] theorem HostIf.irq_pcieReset (v : Nat) (b : Bool) (h : HostIf) : (h.irq v b).pcieReset = h.pcieReset := by
  obtain ⟨_, _, _, e⟩ := h.irq_cases v b; rw [e]

@[simp] theorem State.irq_mbox (v : Nat) (s : State) (k : Fin 8) : (s.irq v).mbox k = s.mbox k := by
  simp [State.mbox, State.irq]

@[simp] theorem State.accessErr_mbox (s : State) (k : Fin 8) : s.accessErr.mbox k = s.mbox k := rfl

@[simp] theorem State.devIrq_mbox (q s : State) (k : Fin 8) : (State.devIrq q s).mbox k = s.mbox k := by
  unfold State.devIrq; split <;> simp

@[simp] theorem State.setFolio_mbox (f : Folio) (s : State) (k : Fin 8) : (s.setFolio f).mbox k = s.mbox k := by
  simp only [State.setFolio, State.devIrq_mbox]; rfl

end Sys2Proof.Machine
end

