-- ==== Sys2Proof/Laws/Channel.lean ====
section
/-! SUPPORT. What the shared operations on channels change and leave (Machine/ChannelOps.lean and Machine/Records.lean). -/

namespace Sys2Proof.Machine

/-! ### system -/

@[simp] theorem State.system_pending (k : Nat) (w : Block) (s : State) : (s.system k w).pending = s.pending := by
  rfl
@[simp] theorem State.system_now (k : Nat) (w : Block) (s : State) : (s.system k w).now = s.now := by
  rfl
@[simp] theorem State.system_timers (k : Nat) (w : Block) (s : State) : (s.system k w).timers = s.timers := by
  rfl
@[simp] theorem State.system_rings (k : Nat) (w : Block) (s : State) : (s.system k w).rings = s.rings := by
  rfl
@[simp] theorem State.system_chan (k : Nat) (w : Block) (s : State) : (s.system k w).chan = s.chan := by
  rfl
@[simp] theorem State.system_group (k : Nat) (w : Block) (s : State) : (s.system k w).group = s.group := by
  rfl
@[simp] theorem State.system_die (k : Nat) (w : Block) (s : State) : (s.system k w).die = s.die := by
  rfl
@[simp] theorem State.system_nibs (k : Nat) (w : Block) (s : State) : (s.system k w).nibs = s.nibs := by
  rfl
@[simp] theorem State.system_slot (k : Nat) (w : Block) (s : State) : (s.system k w).slot = s.slot := by
  rfl
@[simp] theorem State.system_quire (k : Nat) (w : Block) (s : State) : (s.system k w).quire = s.quire := by
  rfl
@[simp] theorem State.system_pounce (k : Nat) (w : Block) (s : State) : (s.system k w).pounce = s.pounce := by
  rfl
@[simp] theorem State.system_axis (k : Nat) (w : Block) (s : State) : (s.system k w).axis = s.axis := by
  rfl
@[simp] theorem State.system_linear (k : Nat) (w : Block) (s : State) : (s.system k w).linear = s.linear := by
  rfl
@[simp] theorem State.system_margin (k : Nat) (w : Block) (s : State) : (s.system k w).margin = s.margin := by
  rfl
@[simp] theorem State.system_host (k : Nat) (w : Block) (s : State) : (s.system k w).host = s.host := by
  rfl
@[simp] theorem State.system_folio (k : Nat) (w : Block) (s : State) : (s.system k w).folio = s.folio := by
  rfl
@[simp] theorem State.system_fab (k : Nat) (w : Block) (s : State) : (s.system k w).fab = s.fab := by
  rfl
@[simp] theorem State.system_tb (k : Nat) (w : Block) (s : State) : (s.system k w).tb = s.tb := by
  rfl
@[simp] theorem State.system_vel (k : Nat) (w : Block) (s : State) : (s.system k w).vel = s.vel := by
  rfl
@[simp] theorem State.system_blot (k : Nat) (w : Block) (s : State) : (s.system k w).blot = s.blot := by
  rfl
@[simp] theorem State.system_rst (k : Nat) (w : Block) (s : State) : (s.system k w).rst = s.rst := by
  rfl
@[simp] theorem State.system_grp (k : Nat) (w : Block) (s : State) (i : Fin 16) : (s.system k w).grp i = s.grp i := by
  simp only [State.grp, State.system_group]
@[simp] theorem State.system_dieOf (k : Nat) (w : Block) (s : State) (i : Fin 4) : (s.system k w).dieOf i = s.dieOf i := by
  simp only [State.dieOf, State.system_die]
@[simp] theorem State.system_unit (k : Nat) (w : Block) (s : State) (i : Fin 32) : (s.system k w).unit i = s.unit i := by
  simp only [State.unit, State.system_pounce]
@[simp] theorem State.system_ax (k : Nat) (w : Block) (s : State) (i : Fin 8) : (s.system k w).ax i = s.ax i := by
  simp only [State.ax, State.system_axis]
@[simp] theorem State.system_slotOf (k : Nat) (w : Block) (s : State) (i : Fin 1024) : (s.system k w).slotOf i = s.slotOf i := by
  simp only [State.slotOf, State.system_slot]
@[simp] theorem State.system_mbox (k : Nat) (w : Block) (s : State) (i : Fin 8) : (s.system k w).mbox i = s.mbox i := by
  simp only [State.mbox, State.system_host]
@[simp] theorem State.system_port (k : Nat) (w : Block) (s : State) (i : Fin 4) : (s.system k w).port i = s.port i := by
  simp only [State.port, State.system_fab]
@[simp] theorem State.system_nibOf (k : Nat) (w : Block) (s : State) (i : Fin 20) : (s.system k w).nibOf i = s.nibOf i := by
  simp only [State.nibOf, State.system_nibs]
@[simp] theorem State.system_chv (k : Nat) (w : Block) (s : State) (i : Fin 256) : (s.system k w).chv i = s.chv i := by
  simp only [State.chv, State.system_vel]
@[simp] theorem State.system_ch (k : Nat) (w : Block) (s : State) (i : Fin 256) : (s.system k w).ch i = s.ch i := by
  simp only [State.ch, State.system_chan]

/-! ### dropped -/

@[simp] theorem State.dropped_pending (r f l : Nat) (x : List Rec) (s : State) : (s.dropped r f l x).pending = s.pending := by
  rfl
@[simp] theorem State.dropped_now (r f l : Nat) (x : List Rec) (s : State) : (s.dropped r f l x).now = s.now := by
  rfl
@[simp] theorem State.dropped_timers (r f l : Nat) (x : List Rec) (s : State) : (s.dropped r f l x).timers = s.timers := by
  rfl
@[simp] theorem State.dropped_rings (r f l : Nat) (x : List Rec) (s : State) : (s.dropped r f l x).rings = s.rings := by
  rfl
@[simp] theorem State.dropped_chan (r f l : Nat) (x : List Rec) (s : State) : (s.dropped r f l x).chan = s.chan := by
  rfl
@[simp] theorem State.dropped_group (r f l : Nat) (x : List Rec) (s : State) : (s.dropped r f l x).group = s.group := by
  rfl
@[simp] theorem State.dropped_die (r f l : Nat) (x : List Rec) (s : State) : (s.dropped r f l x).die = s.die := by
  rfl
@[simp] theorem State.dropped_nibs (r f l : Nat) (x : List Rec) (s : State) : (s.dropped r f l x).nibs = s.nibs := by
  rfl
@[simp] theorem State.dropped_slot (r f l : Nat) (x : List Rec) (s : State) : (s.dropped r f l x).slot = s.slot := by
  rfl
@[simp] theorem State.dropped_quire (r f l : Nat) (x : List Rec) (s : State) : (s.dropped r f l x).quire = s.quire := by
  rfl
@[simp] theorem State.dropped_pounce (r f l : Nat) (x : List Rec) (s : State) : (s.dropped r f l x).pounce = s.pounce := by
  rfl
@[simp] theorem State.dropped_axis (r f l : Nat) (x : List Rec) (s : State) : (s.dropped r f l x).axis = s.axis := by
  rfl
@[simp] theorem State.dropped_linear (r f l : Nat) (x : List Rec) (s : State) : (s.dropped r f l x).linear = s.linear := by
  rfl
@[simp] theorem State.dropped_margin (r f l : Nat) (x : List Rec) (s : State) : (s.dropped r f l x).margin = s.margin := by
  rfl
@[simp] theorem State.dropped_host (r f l : Nat) (x : List Rec) (s : State) : (s.dropped r f l x).host = s.host := by
  rfl
@[simp] theorem State.dropped_folio (r f l : Nat) (x : List Rec) (s : State) : (s.dropped r f l x).folio = s.folio := by
  rfl
@[simp] theorem State.dropped_fab (r f l : Nat) (x : List Rec) (s : State) : (s.dropped r f l x).fab = s.fab := by
  rfl
@[simp] theorem State.dropped_tb (r f l : Nat) (x : List Rec) (s : State) : (s.dropped r f l x).tb = s.tb := by
  rfl
@[simp] theorem State.dropped_vel (r f l : Nat) (x : List Rec) (s : State) : (s.dropped r f l x).vel = s.vel := by
  rfl
@[simp] theorem State.dropped_rst (r f l : Nat) (x : List Rec) (s : State) : (s.dropped r f l x).rst = s.rst := by
  rfl
@[simp] theorem State.dropped_grp (r f l : Nat) (x : List Rec) (s : State) (i : Fin 16) : (s.dropped r f l x).grp i = s.grp i := by
  simp only [State.grp, State.dropped_group]
@[simp] theorem State.dropped_dieOf (r f l : Nat) (x : List Rec) (s : State) (i : Fin 4) : (s.dropped r f l x).dieOf i = s.dieOf i := by
  simp only [State.dieOf, State.dropped_die]
@[simp] theorem State.dropped_unit (r f l : Nat) (x : List Rec) (s : State) (i : Fin 32) : (s.dropped r f l x).unit i = s.unit i := by
  simp only [State.unit, State.dropped_pounce]
@[simp] theorem State.dropped_ax (r f l : Nat) (x : List Rec) (s : State) (i : Fin 8) : (s.dropped r f l x).ax i = s.ax i := by
  simp only [State.ax, State.dropped_axis]
@[simp] theorem State.dropped_slotOf (r f l : Nat) (x : List Rec) (s : State) (i : Fin 1024) : (s.dropped r f l x).slotOf i = s.slotOf i := by
  simp only [State.slotOf, State.dropped_slot]
@[simp] theorem State.dropped_mbox (r f l : Nat) (x : List Rec) (s : State) (i : Fin 8) : (s.dropped r f l x).mbox i = s.mbox i := by
  simp only [State.mbox, State.dropped_host]
@[simp] theorem State.dropped_port (r f l : Nat) (x : List Rec) (s : State) (i : Fin 4) : (s.dropped r f l x).port i = s.port i := by
  simp only [State.port, State.dropped_fab]
@[simp] theorem State.dropped_nibOf (r f l : Nat) (x : List Rec) (s : State) (i : Fin 20) : (s.dropped r f l x).nibOf i = s.nibOf i := by
  simp only [State.nibOf, State.dropped_nibs]
@[simp] theorem State.dropped_chv (r f l : Nat) (x : List Rec) (s : State) (i : Fin 256) : (s.dropped r f l x).chv i = s.chv i := by
  simp only [State.chv, State.dropped_vel]
@[simp] theorem State.dropped_ch (r f l : Nat) (x : List Rec) (s : State) (i : Fin 256) : (s.dropped r f l x).ch i = s.ch i := by
  simp only [State.ch, State.dropped_chan]

/-! ### record -/

@[simp] theorem State.record_pending (r : Rec) (s : State) : (s.record r).pending = s.pending := by
  unfold State.record; split <;> simp
@[simp] theorem State.record_now (r : Rec) (s : State) : (s.record r).now = s.now := by
  unfold State.record; split <;> simp
@[simp] theorem State.record_timers (r : Rec) (s : State) : (s.record r).timers = s.timers := by
  unfold State.record; split <;> simp
@[simp] theorem State.record_rings (r : Rec) (s : State) : (s.record r).rings = s.rings := by
  unfold State.record; split <;> simp
@[simp] theorem State.record_chan (r : Rec) (s : State) : (s.record r).chan = s.chan := by
  unfold State.record; split <;> simp
@[simp] theorem State.record_group (r : Rec) (s : State) : (s.record r).group = s.group := by
  unfold State.record; split <;> simp
@[simp] theorem State.record_die (r : Rec) (s : State) : (s.record r).die = s.die := by
  unfold State.record; split <;> simp
@[simp] theorem State.record_nibs (r : Rec) (s : State) : (s.record r).nibs = s.nibs := by
  unfold State.record; split <;> simp
@[simp] theorem State.record_slot (r : Rec) (s : State) : (s.record r).slot = s.slot := by
  unfold State.record; split <;> simp
@[simp] theorem State.record_quire (r : Rec) (s : State) : (s.record r).quire = s.quire := by
  unfold State.record; split <;> simp
@[simp] theorem State.record_pounce (r : Rec) (s : State) : (s.record r).pounce = s.pounce := by
  unfold State.record; split <;> simp
@[simp] theorem State.record_axis (r : Rec) (s : State) : (s.record r).axis = s.axis := by
  unfold State.record; split <;> simp
@[simp] theorem State.record_linear (r : Rec) (s : State) : (s.record r).linear = s.linear := by
  unfold State.record; split <;> simp
@[simp] theorem State.record_margin (r : Rec) (s : State) : (s.record r).margin = s.margin := by
  unfold State.record; split <;> simp
@[simp] theorem State.record_host (r : Rec) (s : State) : (s.record r).host = s.host := by
  unfold State.record; split <;> simp
@[simp] theorem State.record_folio (r : Rec) (s : State) : (s.record r).folio = s.folio := by
  unfold State.record; split <;> simp
@[simp] theorem State.record_fab (r : Rec) (s : State) : (s.record r).fab = s.fab := by
  unfold State.record; split <;> simp
@[simp] theorem State.record_tb (r : Rec) (s : State) : (s.record r).tb = s.tb := by
  unfold State.record; split <;> simp
@[simp] theorem State.record_vel (r : Rec) (s : State) : (s.record r).vel = s.vel := by
  unfold State.record; split <;> simp
@[simp] theorem State.record_rst (r : Rec) (s : State) : (s.record r).rst = s.rst := by
  unfold State.record; split <;> simp
@[simp] theorem State.record_grp (r : Rec) (s : State) (i : Fin 16) : (s.record r).grp i = s.grp i := by
  simp only [State.grp, State.record_group]
@[simp] theorem State.record_dieOf (r : Rec) (s : State) (i : Fin 4) : (s.record r).dieOf i = s.dieOf i := by
  simp only [State.dieOf, State.record_die]
@[simp] theorem State.record_unit (r : Rec) (s : State) (i : Fin 32) : (s.record r).unit i = s.unit i := by
  simp only [State.unit, State.record_pounce]
@[simp] theorem State.record_ax (r : Rec) (s : State) (i : Fin 8) : (s.record r).ax i = s.ax i := by
  simp only [State.ax, State.record_axis]
@[simp] theorem State.record_slotOf (r : Rec) (s : State) (i : Fin 1024) : (s.record r).slotOf i = s.slotOf i := by
  simp only [State.slotOf, State.record_slot]
@[simp] theorem State.record_mbox (r : Rec) (s : State) (i : Fin 8) : (s.record r).mbox i = s.mbox i := by
  simp only [State.mbox, State.record_host]
@[simp] theorem State.record_port (r : Rec) (s : State) (i : Fin 4) : (s.record r).port i = s.port i := by
  simp only [State.port, State.record_fab]
@[simp] theorem State.record_nibOf (r : Rec) (s : State) (i : Fin 20) : (s.record r).nibOf i = s.nibOf i := by
  simp only [State.nibOf, State.record_nibs]
@[simp] theorem State.record_chv (r : Rec) (s : State) (i : Fin 256) : (s.record r).chv i = s.chv i := by
  simp only [State.chv, State.record_vel]
@[simp] theorem State.record_ch (r : Rec) (s : State) (i : Fin 256) : (s.record r).ch i = s.ch i := by
  simp only [State.ch, State.record_chan]

/-! ### openInterval -/

@[simp] theorem State.openInterval_pending (n : Fin 256) (s : State) : (s.openInterval n).pending = s.pending := by
  rfl
@[simp] theorem State.openInterval_now (n : Fin 256) (s : State) : (s.openInterval n).now = s.now := by
  rfl
@[simp] theorem State.openInterval_timers (n : Fin 256) (s : State) : (s.openInterval n).timers = s.timers := by
  rfl
@[simp] theorem State.openInterval_rings (n : Fin 256) (s : State) : (s.openInterval n).rings = s.rings := by
  rfl
@[simp] theorem State.openInterval_group (n : Fin 256) (s : State) : (s.openInterval n).group = s.group := by
  rfl
@[simp] theorem State.openInterval_die (n : Fin 256) (s : State) : (s.openInterval n).die = s.die := by
  rfl
@[simp] theorem State.openInterval_nibs (n : Fin 256) (s : State) : (s.openInterval n).nibs = s.nibs := by
  rfl
@[simp] theorem State.openInterval_slot (n : Fin 256) (s : State) : (s.openInterval n).slot = s.slot := by
  rfl
@[simp] theorem State.openInterval_quire (n : Fin 256) (s : State) : (s.openInterval n).quire = s.quire := by
  rfl
@[simp] theorem State.openInterval_pounce (n : Fin 256) (s : State) : (s.openInterval n).pounce = s.pounce := by
  rfl
@[simp] theorem State.openInterval_ink (n : Fin 256) (s : State) : (s.openInterval n).ink = s.ink := by
  rfl
@[simp] theorem State.openInterval_axis (n : Fin 256) (s : State) : (s.openInterval n).axis = s.axis := by
  rfl
@[simp] theorem State.openInterval_linear (n : Fin 256) (s : State) : (s.openInterval n).linear = s.linear := by
  rfl
@[simp] theorem State.openInterval_margin (n : Fin 256) (s : State) : (s.openInterval n).margin = s.margin := by
  rfl
@[simp] theorem State.openInterval_host (n : Fin 256) (s : State) : (s.openInterval n).host = s.host := by
  rfl
@[simp] theorem State.openInterval_folio (n : Fin 256) (s : State) : (s.openInterval n).folio = s.folio := by
  rfl
@[simp] theorem State.openInterval_fab (n : Fin 256) (s : State) : (s.openInterval n).fab = s.fab := by
  rfl
@[simp] theorem State.openInterval_tb (n : Fin 256) (s : State) : (s.openInterval n).tb = s.tb := by
  rfl
@[simp] theorem State.openInterval_vel (n : Fin 256) (s : State) : (s.openInterval n).vel = s.vel := by
  rfl
@[simp] theorem State.openInterval_blot (n : Fin 256) (s : State) : (s.openInterval n).blot = s.blot := by
  rfl
@[simp] theorem State.openInterval_rst (n : Fin 256) (s : State) : (s.openInterval n).rst = s.rst := by
  rfl
@[simp] theorem State.openInterval_grp (n : Fin 256) (s : State) (i : Fin 16) : (s.openInterval n).grp i = s.grp i := by
  simp only [State.grp, State.openInterval_group]
@[simp] theorem State.openInterval_dieOf (n : Fin 256) (s : State) (i : Fin 4) : (s.openInterval n).dieOf i = s.dieOf i := by
  simp only [State.dieOf, State.openInterval_die]
@[simp] theorem State.openInterval_unit (n : Fin 256) (s : State) (i : Fin 32) : (s.openInterval n).unit i = s.unit i := by
  simp only [State.unit, State.openInterval_pounce]
@[simp] theorem State.openInterval_ax (n : Fin 256) (s : State) (i : Fin 8) : (s.openInterval n).ax i = s.ax i := by
  simp only [State.ax, State.openInterval_axis]
@[simp] theorem State.openInterval_slotOf (n : Fin 256) (s : State) (i : Fin 1024) : (s.openInterval n).slotOf i = s.slotOf i := by
  simp only [State.slotOf, State.openInterval_slot]
@[simp] theorem State.openInterval_mbox (n : Fin 256) (s : State) (i : Fin 8) : (s.openInterval n).mbox i = s.mbox i := by
  simp only [State.mbox, State.openInterval_host]
@[simp] theorem State.openInterval_port (n : Fin 256) (s : State) (i : Fin 4) : (s.openInterval n).port i = s.port i := by
  simp only [State.port, State.openInterval_fab]
@[simp] theorem State.openInterval_nibOf (n : Fin 256) (s : State) (i : Fin 20) : (s.openInterval n).nibOf i = s.nibOf i := by
  simp only [State.nibOf, State.openInterval_nibs]
@[simp] theorem State.openInterval_stream (n : Fin 256) (s : State) (i : Fin 4) : (s.openInterval n).stream i = s.stream i := by
  simp only [State.stream, State.openInterval_ink]
@[simp] theorem State.openInterval_chv (n : Fin 256) (s : State) (i : Fin 256) : (s.openInterval n).chv i = s.chv i := by
  simp only [State.chv, State.openInterval_vel]

/-! ### closeInterval -/

@[simp] theorem State.closeInterval_pending (n : Fin 256) (s : State) : (s.closeInterval n).pending = s.pending := by
  simp [State.closeInterval]
@[simp] theorem State.closeInterval_now (n : Fin 256) (s : State) : (s.closeInterval n).now = s.now := by
  simp [State.closeInterval]
@[simp] theorem State.closeInterval_timers (n : Fin 256) (s : State) : (s.closeInterval n).timers = s.timers := by
  simp [State.closeInterval]
@[simp] theorem State.closeInterval_rings (n : Fin 256) (s : State) : (s.closeInterval n).rings = s.rings := by
  simp [State.closeInterval]
@[simp] theorem State.closeInterval_group (n : Fin 256) (s : State) : (s.closeInterval n).group = s.group := by
  simp [State.closeInterval]
@[simp] theorem State.closeInterval_die (n : Fin 256) (s : State) : (s.closeInterval n).die = s.die := by
  simp [State.closeInterval]
@[simp] theorem State.closeInterval_nibs (n : Fin 256) (s : State) : (s.closeInterval n).nibs = s.nibs := by
  simp [State.closeInterval]
@[simp] theorem State.closeInterval_slot (n : Fin 256) (s : State) : (s.closeInterval n).slot = s.slot := by
  simp [State.closeInterval]
@[simp] theorem State.closeInterval_quire (n : Fin 256) (s : State) : (s.closeInterval n).quire = s.quire := by
  simp [State.closeInterval]
@[simp] theorem State.closeInterval_pounce (n : Fin 256) (s : State) : (s.closeInterval n).pounce = s.pounce := by
  simp [State.closeInterval]
@[simp] theorem State.closeInterval_axis (n : Fin 256) (s : State) : (s.closeInterval n).axis = s.axis := by
  simp [State.closeInterval]
@[simp] theorem State.closeInterval_linear (n : Fin 256) (s : State) : (s.closeInterval n).linear = s.linear := by
  simp [State.closeInterval]
@[simp] theorem State.closeInterval_margin (n : Fin 256) (s : State) : (s.closeInterval n).margin = s.margin := by
  simp [State.closeInterval]
@[simp] theorem State.closeInterval_host (n : Fin 256) (s : State) : (s.closeInterval n).host = s.host := by
  simp [State.closeInterval]
@[simp] theorem State.closeInterval_folio (n : Fin 256) (s : State) : (s.closeInterval n).folio = s.folio := by
  simp [State.closeInterval]
@[simp] theorem State.closeInterval_fab (n : Fin 256) (s : State) : (s.closeInterval n).fab = s.fab := by
  simp [State.closeInterval]
@[simp] theorem State.closeInterval_tb (n : Fin 256) (s : State) : (s.closeInterval n).tb = s.tb := by
  simp [State.closeInterval]
@[simp] theorem State.closeInterval_vel (n : Fin 256) (s : State) : (s.closeInterval n).vel = s.vel := by
  simp [State.closeInterval]
@[simp] theorem State.closeInterval_rst (n : Fin 256) (s : State) : (s.closeInterval n).rst = s.rst := by
  simp [State.closeInterval]
@[simp] theorem State.closeInterval_grp (n : Fin 256) (s : State) (i : Fin 16) : (s.closeInterval n).grp i = s.grp i := by
  simp only [State.grp, State.closeInterval_group]
@[simp] theorem State.closeInterval_dieOf (n : Fin 256) (s : State) (i : Fin 4) : (s.closeInterval n).dieOf i = s.dieOf i := by
  simp only [State.dieOf, State.closeInterval_die]
@[simp] theorem State.closeInterval_unit (n : Fin 256) (s : State) (i : Fin 32) : (s.closeInterval n).unit i = s.unit i := by
  simp only [State.unit, State.closeInterval_pounce]
@[simp] theorem State.closeInterval_ax (n : Fin 256) (s : State) (i : Fin 8) : (s.closeInterval n).ax i = s.ax i := by
  simp only [State.ax, State.closeInterval_axis]
@[simp] theorem State.closeInterval_slotOf (n : Fin 256) (s : State) (i : Fin 1024) : (s.closeInterval n).slotOf i = s.slotOf i := by
  simp only [State.slotOf, State.closeInterval_slot]
@[simp] theorem State.closeInterval_mbox (n : Fin 256) (s : State) (i : Fin 8) : (s.closeInterval n).mbox i = s.mbox i := by
  simp only [State.mbox, State.closeInterval_host]
@[simp] theorem State.closeInterval_port (n : Fin 256) (s : State) (i : Fin 4) : (s.closeInterval n).port i = s.port i := by
  simp only [State.port, State.closeInterval_fab]
@[simp] theorem State.closeInterval_nibOf (n : Fin 256) (s : State) (i : Fin 20) : (s.closeInterval n).nibOf i = s.nibOf i := by
  simp only [State.nibOf, State.closeInterval_nibs]
@[simp] theorem State.closeInterval_chv (n : Fin 256) (s : State) (i : Fin 256) : (s.closeInterval n).chv i = s.chv i := by
  simp only [State.chv, State.closeInterval_vel]

/-! ### rewrite -/

@[simp] theorem State.rewrite_pending (n : Fin 256) (a b : Bool) (s : State) : (s.rewrite n a b).pending = s.pending := by
  unfold State.rewrite; repeat' split
  all_goals simp
@[simp] theorem State.rewrite_now (n : Fin 256) (a b : Bool) (s : State) : (s.rewrite n a b).now = s.now := by
  unfold State.rewrite; repeat' split
  all_goals simp
@[simp] theorem State.rewrite_timers (n : Fin 256) (a b : Bool) (s : State) : (s.rewrite n a b).timers = s.timers := by
  unfold State.rewrite; repeat' split
  all_goals simp
@[simp] theorem State.rewrite_rings (n : Fin 256) (a b : Bool) (s : State) : (s.rewrite n a b).rings = s.rings := by
  unfold State.rewrite; repeat' split
  all_goals simp
@[simp] theorem State.rewrite_group (n : Fin 256) (a b : Bool) (s : State) : (s.rewrite n a b).group = s.group := by
  unfold State.rewrite; repeat' split
  all_goals simp
@[simp] theorem State.rewrite_die (n : Fin 256) (a b : Bool) (s : State) : (s.rewrite n a b).die = s.die := by
  unfold State.rewrite; repeat' split
  all_goals simp
@[simp] theorem State.rewrite_nibs (n : Fin 256) (a b : Bool) (s : State) : (s.rewrite n a b).nibs = s.nibs := by
  unfold State.rewrite; repeat' split
  all_goals simp
@[simp] theorem State.rewrite_slot (n : Fin 256) (a b : Bool) (s : State) : (s.rewrite n a b).slot = s.slot := by
  unfold State.rewrite; repeat' split
  all_goals simp
@[simp] theorem State.rewrite_quire (n : Fin 256) (a b : Bool) (s : State) : (s.rewrite n a b).quire = s.quire := by
  unfold State.rewrite; repeat' split
  all_goals simp
@[simp] theorem State.rewrite_pounce (n : Fin 256) (a b : Bool) (s : State) : (s.rewrite n a b).pounce = s.pounce := by
  unfold State.rewrite; repeat' split
  all_goals simp
@[simp] theorem State.rewrite_axis (n : Fin 256) (a b : Bool) (s : State) : (s.rewrite n a b).axis = s.axis := by
  unfold State.rewrite; repeat' split
  all_goals simp
@[simp] theorem State.rewrite_linear (n : Fin 256) (a b : Bool) (s : State) : (s.rewrite n a b).linear = s.linear := by
  unfold State.rewrite; repeat' split
  all_goals simp
@[simp] theorem State.rewrite_margin (n : Fin 256) (a b : Bool) (s : State) : (s.rewrite n a b).margin = s.margin := by
  unfold State.rewrite; repeat' split
  all_goals simp
@[simp] theorem State.rewrite_host (n : Fin 256) (a b : Bool) (s : State) : (s.rewrite n a b).host = s.host := by
  unfold State.rewrite; repeat' split
  all_goals simp
@[simp] theorem State.rewrite_folio (n : Fin 256) (a b : Bool) (s : State) : (s.rewrite n a b).folio = s.folio := by
  unfold State.rewrite; repeat' split
  all_goals simp
@[simp] theorem State.rewrite_fab (n : Fin 256) (a b : Bool) (s : State) : (s.rewrite n a b).fab = s.fab := by
  unfold State.rewrite; repeat' split
  all_goals simp
@[simp] theorem State.rewrite_tb (n : Fin 256) (a b : Bool) (s : State) : (s.rewrite n a b).tb = s.tb := by
  unfold State.rewrite; repeat' split
  all_goals simp
@[simp] theorem State.rewrite_vel (n : Fin 256) (a b : Bool) (s : State) : (s.rewrite n a b).vel = s.vel := by
  unfold State.rewrite; repeat' split
  all_goals simp
@[simp] theorem State.rewrite_rst (n : Fin 256) (a b : Bool) (s : State) : (s.rewrite n a b).rst = s.rst := by
  unfold State.rewrite; repeat' split
  all_goals simp
@[simp] theorem State.rewrite_grp (n : Fin 256) (a b : Bool) (s : State) (i : Fin 16) : (s.rewrite n a b).grp i = s.grp i := by
  simp only [State.grp, State.rewrite_group]
@[simp] theorem State.rewrite_dieOf (n : Fin 256) (a b : Bool) (s : State) (i : Fin 4) : (s.rewrite n a b).dieOf i = s.dieOf i := by
  simp only [State.dieOf, State.rewrite_die]
@[simp] theorem State.rewrite_unit (n : Fin 256) (a b : Bool) (s : State) (i : Fin 32) : (s.rewrite n a b).unit i = s.unit i := by
  simp only [State.unit, State.rewrite_pounce]
@[simp] theorem State.rewrite_ax (n : Fin 256) (a b : Bool) (s : State) (i : Fin 8) : (s.rewrite n a b).ax i = s.ax i := by
  simp only [State.ax, State.rewrite_axis]
@[simp] theorem State.rewrite_slotOf (n : Fin 256) (a b : Bool) (s : State) (i : Fin 1024) : (s.rewrite n a b).slotOf i = s.slotOf i := by
  simp only [State.slotOf, State.rewrite_slot]
@[simp] theorem State.rewrite_mbox (n : Fin 256) (a b : Bool) (s : State) (i : Fin 8) : (s.rewrite n a b).mbox i = s.mbox i := by
  simp only [State.mbox, State.rewrite_host]
@[simp] theorem State.rewrite_port (n : Fin 256) (a b : Bool) (s : State) (i : Fin 4) : (s.rewrite n a b).port i = s.port i := by
  simp only [State.port, State.rewrite_fab]
@[simp] theorem State.rewrite_nibOf (n : Fin 256) (a b : Bool) (s : State) (i : Fin 20) : (s.rewrite n a b).nibOf i = s.nibOf i := by
  simp only [State.nibOf, State.rewrite_nibs]
@[simp] theorem State.rewrite_chv (n : Fin 256) (a b : Bool) (s : State) (i : Fin 256) : (s.rewrite n a b).chv i = s.chv i := by
  simp only [State.chv, State.rewrite_vel]

/-! ### spoil -/

@[simp] theorem State.spoil_pending (k : Fin 1024) (s : State) : (s.spoil k).pending = s.pending := by
  rfl
@[simp] theorem State.spoil_now (k : Fin 1024) (s : State) : (s.spoil k).now = s.now := by
  rfl
@[simp] theorem State.spoil_timers (k : Fin 1024) (s : State) : (s.spoil k).timers = s.timers := by
  rfl
@[simp] theorem State.spoil_rings (k : Fin 1024) (s : State) : (s.spoil k).rings = s.rings := by
  rfl
@[simp] theorem State.spoil_chan (k : Fin 1024) (s : State) : (s.spoil k).chan = s.chan := by
  rfl
@[simp] theorem State.spoil_group (k : Fin 1024) (s : State) : (s.spoil k).group = s.group := by
  rfl
@[simp] theorem State.spoil_die (k : Fin 1024) (s : State) : (s.spoil k).die = s.die := by
  rfl
@[simp] theorem State.spoil_nibs (k : Fin 1024) (s : State) : (s.spoil k).nibs = s.nibs := by
  rfl
@[simp] theorem State.spoil_slot (k : Fin 1024) (s : State) : (s.spoil k).slot = s.slot := by
  rfl
@[simp] theorem State.spoil_quire (k : Fin 1024) (s : State) : (s.spoil k).quire = s.quire := by
  rfl
@[simp] theorem State.spoil_pounce (k : Fin 1024) (s : State) : (s.spoil k).pounce = s.pounce := by
  rfl
@[simp] theorem State.spoil_ink (k : Fin 1024) (s : State) : (s.spoil k).ink = s.ink := by
  rfl
@[simp] theorem State.spoil_axis (k : Fin 1024) (s : State) : (s.spoil k).axis = s.axis := by
  rfl
@[simp] theorem State.spoil_linear (k : Fin 1024) (s : State) : (s.spoil k).linear = s.linear := by
  rfl
@[simp] theorem State.spoil_margin (k : Fin 1024) (s : State) : (s.spoil k).margin = s.margin := by
  rfl
@[simp] theorem State.spoil_folio (k : Fin 1024) (s : State) : (s.spoil k).folio = s.folio := by
  rfl
@[simp] theorem State.spoil_fab (k : Fin 1024) (s : State) : (s.spoil k).fab = s.fab := by
  rfl
@[simp] theorem State.spoil_tb (k : Fin 1024) (s : State) : (s.spoil k).tb = s.tb := by
  rfl
@[simp] theorem State.spoil_vel (k : Fin 1024) (s : State) : (s.spoil k).vel = s.vel := by
  rfl
@[simp] theorem State.spoil_blot (k : Fin 1024) (s : State) : (s.spoil k).blot = s.blot := by
  rfl
@[simp] theorem State.spoil_rst (k : Fin 1024) (s : State) : (s.spoil k).rst = s.rst := by
  rfl
@[simp] theorem State.spoil_grp (k : Fin 1024) (s : State) (i : Fin 16) : (s.spoil k).grp i = s.grp i := by
  simp only [State.grp, State.spoil_group]
@[simp] theorem State.spoil_dieOf (k : Fin 1024) (s : State) (i : Fin 4) : (s.spoil k).dieOf i = s.dieOf i := by
  simp only [State.dieOf, State.spoil_die]
@[simp] theorem State.spoil_unit (k : Fin 1024) (s : State) (i : Fin 32) : (s.spoil k).unit i = s.unit i := by
  simp only [State.unit, State.spoil_pounce]
@[simp] theorem State.spoil_ax (k : Fin 1024) (s : State) (i : Fin 8) : (s.spoil k).ax i = s.ax i := by
  simp only [State.ax, State.spoil_axis]
@[simp] theorem State.spoil_slotOf (k : Fin 1024) (s : State) (i : Fin 1024) : (s.spoil k).slotOf i = s.slotOf i := by
  simp only [State.slotOf, State.spoil_slot]
@[simp] theorem State.spoil_port (k : Fin 1024) (s : State) (i : Fin 4) : (s.spoil k).port i = s.port i := by
  simp only [State.port, State.spoil_fab]
@[simp] theorem State.spoil_nibOf (k : Fin 1024) (s : State) (i : Fin 20) : (s.spoil k).nibOf i = s.nibOf i := by
  simp only [State.nibOf, State.spoil_nibs]
@[simp] theorem State.spoil_stream (k : Fin 1024) (s : State) (i : Fin 4) : (s.spoil k).stream i = s.stream i := by
  simp only [State.stream, State.spoil_ink]
@[simp] theorem State.spoil_chv (k : Fin 1024) (s : State) (i : Fin 256) : (s.spoil k).chv i = s.chv i := by
  simp only [State.chv, State.spoil_vel]
@[simp] theorem State.spoil_ch (k : Fin 1024) (s : State) (i : Fin 256) : (s.spoil k).ch i = s.ch i := by
  simp only [State.ch, State.spoil_chan]

/-! ### setSlot -/

@[simp] theorem State.setSlot_pending (k : Fin 1024) (st : SlotState) (s : State) : (s.setSlot k st).pending = s.pending := by
  unfold State.setSlot; split <;> simp
@[simp] theorem State.setSlot_now (k : Fin 1024) (st : SlotState) (s : State) : (s.setSlot k st).now = s.now := by
  unfold State.setSlot; split <;> simp
@[simp] theorem State.setSlot_timers (k : Fin 1024) (st : SlotState) (s : State) : (s.setSlot k st).timers = s.timers := by
  unfold State.setSlot; split <;> simp
@[simp] theorem State.setSlot_rings (k : Fin 1024) (st : SlotState) (s : State) : (s.setSlot k st).rings = s.rings := by
  unfold State.setSlot; split <;> simp
@[simp] theorem State.setSlot_chan (k : Fin 1024) (st : SlotState) (s : State) : (s.setSlot k st).chan = s.chan := by
  unfold State.setSlot; split <;> simp
@[simp] theorem State.setSlot_group (k : Fin 1024) (st : SlotState) (s : State) : (s.setSlot k st).group = s.group := by
  unfold State.setSlot; split <;> simp
@[simp] theorem State.setSlot_die (k : Fin 1024) (st : SlotState) (s : State) : (s.setSlot k st).die = s.die := by
  unfold State.setSlot; split <;> simp
@[simp] theorem State.setSlot_nibs (k : Fin 1024) (st : SlotState) (s : State) : (s.setSlot k st).nibs = s.nibs := by
  unfold State.setSlot; split <;> simp
@[simp] theorem State.setSlot_quire (k : Fin 1024) (st : SlotState) (s : State) : (s.setSlot k st).quire = s.quire := by
  unfold State.setSlot; split <;> simp
@[simp] theorem State.setSlot_pounce (k : Fin 1024) (st : SlotState) (s : State) : (s.setSlot k st).pounce = s.pounce := by
  unfold State.setSlot; split <;> simp
@[simp] theorem State.setSlot_ink (k : Fin 1024) (st : SlotState) (s : State) : (s.setSlot k st).ink = s.ink := by
  unfold State.setSlot; split <;> simp
@[simp] theorem State.setSlot_axis (k : Fin 1024) (st : SlotState) (s : State) : (s.setSlot k st).axis = s.axis := by
  unfold State.setSlot; split <;> simp
@[simp] theorem State.setSlot_linear (k : Fin 1024) (st : SlotState) (s : State) : (s.setSlot k st).linear = s.linear := by
  unfold State.setSlot; split <;> simp
@[simp] theorem State.setSlot_margin (k : Fin 1024) (st : SlotState) (s : State) : (s.setSlot k st).margin = s.margin := by
  unfold State.setSlot; split <;> simp
@[simp] theorem State.setSlot_folio (k : Fin 1024) (st : SlotState) (s : State) : (s.setSlot k st).folio = s.folio := by
  unfold State.setSlot; split <;> simp
@[simp] theorem State.setSlot_fab (k : Fin 1024) (st : SlotState) (s : State) : (s.setSlot k st).fab = s.fab := by
  unfold State.setSlot; split <;> simp
@[simp] theorem State.setSlot_tb (k : Fin 1024) (st : SlotState) (s : State) : (s.setSlot k st).tb = s.tb := by
  unfold State.setSlot; split <;> simp
@[simp] theorem State.setSlot_vel (k : Fin 1024) (st : SlotState) (s : State) : (s.setSlot k st).vel = s.vel := by
  unfold State.setSlot; split <;> simp
@[simp] theorem State.setSlot_rst (k : Fin 1024) (st : SlotState) (s : State) : (s.setSlot k st).rst = s.rst := by
  unfold State.setSlot; split <;> simp
@[simp] theorem State.setSlot_grp (k : Fin 1024) (st : SlotState) (s : State) (i : Fin 16) : (s.setSlot k st).grp i = s.grp i := by
  simp only [State.grp, State.setSlot_group]
@[simp] theorem State.setSlot_dieOf (k : Fin 1024) (st : SlotState) (s : State) (i : Fin 4) : (s.setSlot k st).dieOf i = s.dieOf i := by
  simp only [State.dieOf, State.setSlot_die]
@[simp] theorem State.setSlot_unit (k : Fin 1024) (st : SlotState) (s : State) (i : Fin 32) : (s.setSlot k st).unit i = s.unit i := by
  simp only [State.unit, State.setSlot_pounce]
@[simp] theorem State.setSlot_ax (k : Fin 1024) (st : SlotState) (s : State) (i : Fin 8) : (s.setSlot k st).ax i = s.ax i := by
  simp only [State.ax, State.setSlot_axis]
@[simp] theorem State.setSlot_port (k : Fin 1024) (st : SlotState) (s : State) (i : Fin 4) : (s.setSlot k st).port i = s.port i := by
  simp only [State.port, State.setSlot_fab]
@[simp] theorem State.setSlot_nibOf (k : Fin 1024) (st : SlotState) (s : State) (i : Fin 20) : (s.setSlot k st).nibOf i = s.nibOf i := by
  simp only [State.nibOf, State.setSlot_nibs]
@[simp] theorem State.setSlot_stream (k : Fin 1024) (st : SlotState) (s : State) (i : Fin 4) : (s.setSlot k st).stream i = s.stream i := by
  simp only [State.stream, State.setSlot_ink]
@[simp] theorem State.setSlot_chv (k : Fin 1024) (st : SlotState) (s : State) (i : Fin 256) : (s.setSlot k st).chv i = s.chv i := by
  simp only [State.chv, State.setSlot_vel]
@[simp] theorem State.setSlot_ch (k : Fin 1024) (st : SlotState) (s : State) (i : Fin 256) : (s.setSlot k st).ch i = s.ch i := by
  simp only [State.ch, State.setSlot_chan]

/-! ### refreshSlot -/

@[simp] theorem State.refreshSlot_pending (k : Fin 1024) (s : State) : (s.refreshSlot k).pending = s.pending := by
  unfold State.refreshSlot; split <;> simp
@[simp] theorem State.refreshSlot_now (k : Fin 1024) (s : State) : (s.refreshSlot k).now = s.now := by
  unfold State.refreshSlot; split <;> simp
@[simp] theorem State.refreshSlot_timers (k : Fin 1024) (s : State) : (s.refreshSlot k).timers = s.timers := by
  unfold State.refreshSlot; split <;> simp
@[simp] theorem State.refreshSlot_rings (k : Fin 1024) (s : State) : (s.refreshSlot k).rings = s.rings := by
  unfold State.refreshSlot; split <;> simp
@[simp] theorem State.refreshSlot_chan (k : Fin 1024) (s : State) : (s.refreshSlot k).chan = s.chan := by
  unfold State.refreshSlot; split <;> simp
@[simp] theorem State.refreshSlot_group (k : Fin 1024) (s : State) : (s.refreshSlot k).group = s.group := by
  unfold State.refreshSlot; split <;> simp
@[simp] theorem State.refreshSlot_die (k : Fin 1024) (s : State) : (s.refreshSlot k).die = s.die := by
  unfold State.refreshSlot; split <;> simp
@[simp] theorem State.refreshSlot_nibs (k : Fin 1024) (s : State) : (s.refreshSlot k).nibs = s.nibs := by
  unfold State.refreshSlot; split <;> simp
@[simp] theorem State.refreshSlot_quire (k : Fin 1024) (s : State) : (s.refreshSlot k).quire = s.quire := by
  unfold State.refreshSlot; split <;> simp
@[simp] theorem State.refreshSlot_pounce (k : Fin 1024) (s : State) : (s.refreshSlot k).pounce = s.pounce := by
  unfold State.refreshSlot; split <;> simp
@[simp] theorem State.refreshSlot_ink (k : Fin 1024) (s : State) : (s.refreshSlot k).ink = s.ink := by
  unfold State.refreshSlot; split <;> simp
@[simp] theorem State.refreshSlot_axis (k : Fin 1024) (s : State) : (s.refreshSlot k).axis = s.axis := by
  unfold State.refreshSlot; split <;> simp
@[simp] theorem State.refreshSlot_linear (k : Fin 1024) (s : State) : (s.refreshSlot k).linear = s.linear := by
  unfold State.refreshSlot; split <;> simp
@[simp] theorem State.refreshSlot_margin (k : Fin 1024) (s : State) : (s.refreshSlot k).margin = s.margin := by
  unfold State.refreshSlot; split <;> simp
@[simp] theorem State.refreshSlot_folio (k : Fin 1024) (s : State) : (s.refreshSlot k).folio = s.folio := by
  unfold State.refreshSlot; split <;> simp
@[simp] theorem State.refreshSlot_fab (k : Fin 1024) (s : State) : (s.refreshSlot k).fab = s.fab := by
  unfold State.refreshSlot; split <;> simp
@[simp] theorem State.refreshSlot_tb (k : Fin 1024) (s : State) : (s.refreshSlot k).tb = s.tb := by
  unfold State.refreshSlot; split <;> simp
@[simp] theorem State.refreshSlot_vel (k : Fin 1024) (s : State) : (s.refreshSlot k).vel = s.vel := by
  unfold State.refreshSlot; split <;> simp
@[simp] theorem State.refreshSlot_rst (k : Fin 1024) (s : State) : (s.refreshSlot k).rst = s.rst := by
  unfold State.refreshSlot; split <;> simp
@[simp] theorem State.refreshSlot_grp (k : Fin 1024) (s : State) (i : Fin 16) : (s.refreshSlot k).grp i = s.grp i := by
  simp only [State.grp, State.refreshSlot_group]
@[simp] theorem State.refreshSlot_dieOf (k : Fin 1024) (s : State) (i : Fin 4) : (s.refreshSlot k).dieOf i = s.dieOf i := by
  simp only [State.dieOf, State.refreshSlot_die]
@[simp] theorem State.refreshSlot_unit (k : Fin 1024) (s : State) (i : Fin 32) : (s.refreshSlot k).unit i = s.unit i := by
  simp only [State.unit, State.refreshSlot_pounce]
@[simp] theorem State.refreshSlot_ax (k : Fin 1024) (s : State) (i : Fin 8) : (s.refreshSlot k).ax i = s.ax i := by
  simp only [State.ax, State.refreshSlot_axis]
@[simp] theorem State.refreshSlot_port (k : Fin 1024) (s : State) (i : Fin 4) : (s.refreshSlot k).port i = s.port i := by
  simp only [State.port, State.refreshSlot_fab]
@[simp] theorem State.refreshSlot_nibOf (k : Fin 1024) (s : State) (i : Fin 20) : (s.refreshSlot k).nibOf i = s.nibOf i := by
  simp only [State.nibOf, State.refreshSlot_nibs]
@[simp] theorem State.refreshSlot_stream (k : Fin 1024) (s : State) (i : Fin 4) : (s.refreshSlot k).stream i = s.stream i := by
  simp only [State.stream, State.refreshSlot_ink]
@[simp] theorem State.refreshSlot_chv (k : Fin 1024) (s : State) (i : Fin 256) : (s.refreshSlot k).chv i = s.chv i := by
  simp only [State.chv, State.refreshSlot_vel]
@[simp] theorem State.refreshSlot_ch (k : Fin 1024) (s : State) (i : Fin 256) : (s.refreshSlot k).ch i = s.ch i := by
  simp only [State.ch, State.refreshSlot_chan]

/-! ### tellUnits -/

@[simp] theorem State.tellUnits_pending (n : Fin 256) (a b : ChState) (s : State) : (s.tellUnits n a b).pending = s.pending := by
  rfl
@[simp] theorem State.tellUnits_now (n : Fin 256) (a b : ChState) (s : State) : (s.tellUnits n a b).now = s.now := by
  rfl
@[simp] theorem State.tellUnits_timers (n : Fin 256) (a b : ChState) (s : State) : (s.tellUnits n a b).timers = s.timers := by
  rfl
@[simp] theorem State.tellUnits_rings (n : Fin 256) (a b : ChState) (s : State) : (s.tellUnits n a b).rings = s.rings := by
  rfl
@[simp] theorem State.tellUnits_chan (n : Fin 256) (a b : ChState) (s : State) : (s.tellUnits n a b).chan = s.chan := by
  rfl
@[simp] theorem State.tellUnits_group (n : Fin 256) (a b : ChState) (s : State) : (s.tellUnits n a b).group = s.group := by
  rfl
@[simp] theorem State.tellUnits_die (n : Fin 256) (a b : ChState) (s : State) : (s.tellUnits n a b).die = s.die := by
  rfl
@[simp] theorem State.tellUnits_nibs (n : Fin 256) (a b : ChState) (s : State) : (s.tellUnits n a b).nibs = s.nibs := by
  rfl
@[simp] theorem State.tellUnits_slot (n : Fin 256) (a b : ChState) (s : State) : (s.tellUnits n a b).slot = s.slot := by
  rfl
@[simp] theorem State.tellUnits_quire (n : Fin 256) (a b : ChState) (s : State) : (s.tellUnits n a b).quire = s.quire := by
  rfl
@[simp] theorem State.tellUnits_ink (n : Fin 256) (a b : ChState) (s : State) : (s.tellUnits n a b).ink = s.ink := by
  rfl
@[simp] theorem State.tellUnits_axis (n : Fin 256) (a b : ChState) (s : State) : (s.tellUnits n a b).axis = s.axis := by
  rfl
@[simp] theorem State.tellUnits_linear (n : Fin 256) (a b : ChState) (s : State) : (s.tellUnits n a b).linear = s.linear := by
  rfl
@[simp] theorem State.tellUnits_margin (n : Fin 256) (a b : ChState) (s : State) : (s.tellUnits n a b).margin = s.margin := by
  rfl
@[simp] theorem State.tellUnits_host (n : Fin 256) (a b : ChState) (s : State) : (s.tellUnits n a b).host = s.host := by
  rfl
@[simp] theorem State.tellUnits_folio (n : Fin 256) (a b : ChState) (s : State) : (s.tellUnits n a b).folio = s.folio := by
  rfl
@[simp] theorem State.tellUnits_fab (n : Fin 256) (a b : ChState) (s : State) : (s.tellUnits n a b).fab = s.fab := by
  rfl
@[simp] theorem State.tellUnits_tb (n : Fin 256) (a b : ChState) (s : State) : (s.tellUnits n a b).tb = s.tb := by
  rfl
@[simp] theorem State.tellUnits_vel (n : Fin 256) (a b : ChState) (s : State) : (s.tellUnits n a b).vel = s.vel := by
  rfl
@[simp] theorem State.tellUnits_blot (n : Fin 256) (a b : ChState) (s : State) : (s.tellUnits n a b).blot = s.blot := by
  rfl
@[simp] theorem State.tellUnits_rst (n : Fin 256) (a b : ChState) (s : State) : (s.tellUnits n a b).rst = s.rst := by
  rfl
@[simp] theorem State.tellUnits_grp (n : Fin 256) (a b : ChState) (s : State) (i : Fin 16) : (s.tellUnits n a b).grp i = s.grp i := by
  simp only [State.grp, State.tellUnits_group]
@[simp] theorem State.tellUnits_dieOf (n : Fin 256) (a b : ChState) (s : State) (i : Fin 4) : (s.tellUnits n a b).dieOf i = s.dieOf i := by
  simp only [State.dieOf, State.tellUnits_die]
@[simp] theorem State.tellUnits_ax (n : Fin 256) (a b : ChState) (s : State) (i : Fin 8) : (s.tellUnits n a b).ax i = s.ax i := by
  simp only [State.ax, State.tellUnits_axis]
@[simp] theorem State.tellUnits_slotOf (n : Fin 256) (a b : ChState) (s : State) (i : Fin 1024) : (s.tellUnits n a b).slotOf i = s.slotOf i := by
  simp only [State.slotOf, State.tellUnits_slot]
@[simp] theorem State.tellUnits_mbox (n : Fin 256) (a b : ChState) (s : State) (i : Fin 8) : (s.tellUnits n a b).mbox i = s.mbox i := by
  simp only [State.mbox, State.tellUnits_host]
@[simp] theorem State.tellUnits_port (n : Fin 256) (a b : ChState) (s : State) (i : Fin 4) : (s.tellUnits n a b).port i = s.port i := by
  simp only [State.port, State.tellUnits_fab]
@[simp] theorem State.tellUnits_nibOf (n : Fin 256) (a b : ChState) (s : State) (i : Fin 20) : (s.tellUnits n a b).nibOf i = s.nibOf i := by
  simp only [State.nibOf, State.tellUnits_nibs]
@[simp] theorem State.tellUnits_stream (n : Fin 256) (a b : ChState) (s : State) (i : Fin 4) : (s.tellUnits n a b).stream i = s.stream i := by
  simp only [State.stream, State.tellUnits_ink]
@[simp] theorem State.tellUnits_chv (n : Fin 256) (a b : ChState) (s : State) (i : Fin 256) : (s.tellUnits n a b).chv i = s.chv i := by
  simp only [State.chv, State.tellUnits_vel]
@[simp] theorem State.tellUnits_ch (n : Fin 256) (a b : ChState) (s : State) (i : Fin 256) : (s.tellUnits n a b).ch i = s.ch i := by
  simp only [State.ch, State.tellUnits_chan]

/-! ### become -/

@[simp] theorem State.become_pending (n : Fin 256) (st : ChState) (s : State) : (s.become n st).pending = s.pending := by
  unfold State.become; dsimp only; repeat' split
  all_goals simp
@[simp] theorem State.become_now (n : Fin 256) (st : ChState) (s : State) : (s.become n st).now = s.now := by
  unfold State.become; dsimp only; repeat' split
  all_goals simp
@[simp] theorem State.become_timers (n : Fin 256) (st : ChState) (s : State) : (s.become n st).timers = s.timers := by
  unfold State.become; dsimp only; repeat' split
  all_goals simp
@[simp] theorem State.become_rings (n : Fin 256) (st : ChState) (s : State) : (s.become n st).rings = s.rings := by
  unfold State.become; dsimp only; repeat' split
  all_goals simp
@[simp] theorem State.become_group (n : Fin 256) (st : ChState) (s : State) : (s.become n st).group = s.group := by
  unfold State.become; dsimp only; repeat' split
  all_goals simp
@[simp] theorem State.become_die (n : Fin 256) (st : ChState) (s : State) : (s.become n st).die = s.die := by
  unfold State.become; dsimp only; repeat' split
  all_goals simp
@[simp] theorem State.become_nibs (n : Fin 256) (st : ChState) (s : State) : (s.become n st).nibs = s.nibs := by
  unfold State.become; dsimp only; repeat' split
  all_goals simp
@[simp] theorem State.become_quire (n : Fin 256) (st : ChState) (s : State) : (s.become n st).quire = s.quire := by
  unfold State.become; dsimp only; repeat' split
  all_goals simp
@[simp] theorem State.become_axis (n : Fin 256) (st : ChState) (s : State) : (s.become n st).axis = s.axis := by
  unfold State.become; dsimp only; repeat' split
  all_goals simp
@[simp] theorem State.become_linear (n : Fin 256) (st : ChState) (s : State) : (s.become n st).linear = s.linear := by
  unfold State.become; dsimp only; repeat' split
  all_goals simp
@[simp] theorem State.become_margin (n : Fin 256) (st : ChState) (s : State) : (s.become n st).margin = s.margin := by
  unfold State.become; dsimp only; repeat' split
  all_goals simp
@[simp] theorem State.become_folio (n : Fin 256) (st : ChState) (s : State) : (s.become n st).folio = s.folio := by
  unfold State.become; dsimp only; repeat' split
  all_goals simp
@[simp] theorem State.become_fab (n : Fin 256) (st : ChState) (s : State) : (s.become n st).fab = s.fab := by
  unfold State.become; dsimp only; repeat' split
  all_goals simp
@[simp] theorem State.become_tb (n : Fin 256) (st : ChState) (s : State) : (s.become n st).tb = s.tb := by
  unfold State.become; dsimp only; repeat' split
  all_goals simp
@[simp] theorem State.become_vel (n : Fin 256) (st : ChState) (s : State) : (s.become n st).vel = s.vel := by
  unfold State.become; dsimp only; repeat' split
  all_goals simp
@[simp] theorem State.become_rst (n : Fin 256) (st : ChState) (s : State) : (s.become n st).rst = s.rst := by
  unfold State.become; dsimp only; repeat' split
  all_goals simp
@[simp] theorem State.become_grp (n : Fin 256) (st : ChState) (s : State) (i : Fin 16) : (s.become n st).grp i = s.grp i := by
  simp only [State.grp, State.become_group]
@[simp] theorem State.become_dieOf (n : Fin 256) (st : ChState) (s : State) (i : Fin 4) : (s.become n st).dieOf i = s.dieOf i := by
  simp only [State.dieOf, State.become_die]
@[simp] theorem State.become_ax (n : Fin 256) (st : ChState) (s : State) (i : Fin 8) : (s.become n st).ax i = s.ax i := by
  simp only [State.ax, State.become_axis]
@[simp] theorem State.become_port (n : Fin 256) (st : ChState) (s : State) (i : Fin 4) : (s.become n st).port i = s.port i := by
  simp only [State.port, State.become_fab]
@[simp] theorem State.become_nibOf (n : Fin 256) (st : ChState) (s : State) (i : Fin 20) : (s.become n st).nibOf i = s.nibOf i := by
  simp only [State.nibOf, State.become_nibs]
@[simp] theorem State.become_chv (n : Fin 256) (st : ChState) (s : State) (i : Fin 256) : (s.become n st).chv i = s.chv i := by
  simp only [State.chv, State.become_vel]

/-! ### ckpt -/

@[simp] theorem State.ckpt_pending (n : Fin 256) (c : Nat) (s : State) : (s.ckpt n c).pending = s.pending := by
  rfl
@[simp] theorem State.ckpt_now (n : Fin 256) (c : Nat) (s : State) : (s.ckpt n c).now = s.now := by
  rfl
@[simp] theorem State.ckpt_timers (n : Fin 256) (c : Nat) (s : State) : (s.ckpt n c).timers = s.timers := by
  rfl
@[simp] theorem State.ckpt_rings (n : Fin 256) (c : Nat) (s : State) : (s.ckpt n c).rings = s.rings := by
  rfl
@[simp] theorem State.ckpt_group (n : Fin 256) (c : Nat) (s : State) : (s.ckpt n c).group = s.group := by
  rfl
@[simp] theorem State.ckpt_die (n : Fin 256) (c : Nat) (s : State) : (s.ckpt n c).die = s.die := by
  rfl
@[simp] theorem State.ckpt_nibs (n : Fin 256) (c : Nat) (s : State) : (s.ckpt n c).nibs = s.nibs := by
  rfl
@[simp] theorem State.ckpt_slot (n : Fin 256) (c : Nat) (s : State) : (s.ckpt n c).slot = s.slot := by
  rfl
@[simp] theorem State.ckpt_quire (n : Fin 256) (c : Nat) (s : State) : (s.ckpt n c).quire = s.quire := by
  rfl
@[simp] theorem State.ckpt_pounce (n : Fin 256) (c : Nat) (s : State) : (s.ckpt n c).pounce = s.pounce := by
  rfl
@[simp] theorem State.ckpt_ink (n : Fin 256) (c : Nat) (s : State) : (s.ckpt n c).ink = s.ink := by
  rfl
@[simp] theorem State.ckpt_axis (n : Fin 256) (c : Nat) (s : State) : (s.ckpt n c).axis = s.axis := by
  rfl
@[simp] theorem State.ckpt_linear (n : Fin 256) (c : Nat) (s : State) : (s.ckpt n c).linear = s.linear := by
  rfl
@[simp] theorem State.ckpt_margin (n : Fin 256) (c : Nat) (s : State) : (s.ckpt n c).margin = s.margin := by
  rfl
@[simp] theorem State.ckpt_host (n : Fin 256) (c : Nat) (s : State) : (s.ckpt n c).host = s.host := by
  rfl
@[simp] theorem State.ckpt_folio (n : Fin 256) (c : Nat) (s : State) : (s.ckpt n c).folio = s.folio := by
  rfl
@[simp] theorem State.ckpt_fab (n : Fin 256) (c : Nat) (s : State) : (s.ckpt n c).fab = s.fab := by
  rfl
@[simp] theorem State.ckpt_tb (n : Fin 256) (c : Nat) (s : State) : (s.ckpt n c).tb = s.tb := by
  rfl
@[simp] theorem State.ckpt_vel (n : Fin 256) (c : Nat) (s : State) : (s.ckpt n c).vel = s.vel := by
  rfl
@[simp] theorem State.ckpt_blot (n : Fin 256) (c : Nat) (s : State) : (s.ckpt n c).blot = s.blot := by
  rfl
@[simp] theorem State.ckpt_rst (n : Fin 256) (c : Nat) (s : State) : (s.ckpt n c).rst = s.rst := by
  rfl
@[simp] theorem State.ckpt_grp (n : Fin 256) (c : Nat) (s : State) (i : Fin 16) : (s.ckpt n c).grp i = s.grp i := by
  simp only [State.grp, State.ckpt_group]
@[simp] theorem State.ckpt_dieOf (n : Fin 256) (c : Nat) (s : State) (i : Fin 4) : (s.ckpt n c).dieOf i = s.dieOf i := by
  simp only [State.dieOf, State.ckpt_die]
@[simp] theorem State.ckpt_unit (n : Fin 256) (c : Nat) (s : State) (i : Fin 32) : (s.ckpt n c).unit i = s.unit i := by
  simp only [State.unit, State.ckpt_pounce]
@[simp] theorem State.ckpt_ax (n : Fin 256) (c : Nat) (s : State) (i : Fin 8) : (s.ckpt n c).ax i = s.ax i := by
  simp only [State.ax, State.ckpt_axis]
@[simp] theorem State.ckpt_slotOf (n : Fin 256) (c : Nat) (s : State) (i : Fin 1024) : (s.ckpt n c).slotOf i = s.slotOf i := by
  simp only [State.slotOf, State.ckpt_slot]
@[simp] theorem State.ckpt_mbox (n : Fin 256) (c : Nat) (s : State) (i : Fin 8) : (s.ckpt n c).mbox i = s.mbox i := by
  simp only [State.mbox, State.ckpt_host]
@[simp] theorem State.ckpt_port (n : Fin 256) (c : Nat) (s : State) (i : Fin 4) : (s.ckpt n c).port i = s.port i := by
  simp only [State.port, State.ckpt_fab]
@[simp] theorem State.ckpt_nibOf (n : Fin 256) (c : Nat) (s : State) (i : Fin 20) : (s.ckpt n c).nibOf i = s.nibOf i := by
  simp only [State.nibOf, State.ckpt_nibs]
@[simp] theorem State.ckpt_stream (n : Fin 256) (c : Nat) (s : State) (i : Fin 4) : (s.ckpt n c).stream i = s.stream i := by
  simp only [State.stream, State.ckpt_ink]
@[simp] theorem State.ckpt_chv (n : Fin 256) (c : Nat) (s : State) (i : Fin 256) : (s.ckpt n c).chv i = s.chv i := by
  simp only [State.chv, State.ckpt_vel]

/-! ### toState -/

@[simp] theorem State.toState_pending (n : Fin 256) (st : ChState) (s : State) : (s.toState n st).pending = s.pending := by
  unfold State.toState; split <;> simp
@[simp] theorem State.toState_now (n : Fin 256) (st : ChState) (s : State) : (s.toState n st).now = s.now := by
  unfold State.toState; split <;> simp
@[simp] theorem State.toState_timers (n : Fin 256) (st : ChState) (s : State) : (s.toState n st).timers = s.timers := by
  unfold State.toState; split <;> simp
@[simp] theorem State.toState_rings (n : Fin 256) (st : ChState) (s : State) : (s.toState n st).rings = s.rings := by
  unfold State.toState; split <;> simp
@[simp] theorem State.toState_group (n : Fin 256) (st : ChState) (s : State) : (s.toState n st).group = s.group := by
  unfold State.toState; split <;> simp
@[simp] theorem State.toState_die (n : Fin 256) (st : ChState) (s : State) : (s.toState n st).die = s.die := by
  unfold State.toState; split <;> simp
@[simp] theorem State.toState_nibs (n : Fin 256) (st : ChState) (s : State) : (s.toState n st).nibs = s.nibs := by
  unfold State.toState; split <;> simp
@[simp] theorem State.toState_quire (n : Fin 256) (st : ChState) (s : State) : (s.toState n st).quire = s.quire := by
  unfold State.toState; split <;> simp
@[simp] theorem State.toState_axis (n : Fin 256) (st : ChState) (s : State) : (s.toState n st).axis = s.axis := by
  unfold State.toState; split <;> simp
@[simp] theorem State.toState_linear (n : Fin 256) (st : ChState) (s : State) : (s.toState n st).linear = s.linear := by
  unfold State.toState; split <;> simp
@[simp] theorem State.toState_margin (n : Fin 256) (st : ChState) (s : State) : (s.toState n st).margin = s.margin := by
  unfold State.toState; split <;> simp
@[simp] theorem State.toState_folio (n : Fin 256) (st : ChState) (s : State) : (s.toState n st).folio = s.folio := by
  unfold State.toState; split <;> simp
@[simp] theorem State.toState_fab (n : Fin 256) (st : ChState) (s : State) : (s.toState n st).fab = s.fab := by
  unfold State.toState; split <;> simp
@[simp] theorem State.toState_tb (n : Fin 256) (st : ChState) (s : State) : (s.toState n st).tb = s.tb := by
  unfold State.toState; split <;> simp
@[simp] theorem State.toState_vel (n : Fin 256) (st : ChState) (s : State) : (s.toState n st).vel = s.vel := by
  unfold State.toState; split <;> simp
@[simp] theorem State.toState_rst (n : Fin 256) (st : ChState) (s : State) : (s.toState n st).rst = s.rst := by
  unfold State.toState; split <;> simp
@[simp] theorem State.toState_grp (n : Fin 256) (st : ChState) (s : State) (i : Fin 16) : (s.toState n st).grp i = s.grp i := by
  simp only [State.grp, State.toState_group]
@[simp] theorem State.toState_dieOf (n : Fin 256) (st : ChState) (s : State) (i : Fin 4) : (s.toState n st).dieOf i = s.dieOf i := by
  simp only [State.dieOf, State.toState_die]
@[simp] theorem State.toState_ax (n : Fin 256) (st : ChState) (s : State) (i : Fin 8) : (s.toState n st).ax i = s.ax i := by
  simp only [State.ax, State.toState_axis]
@[simp] theorem State.toState_port (n : Fin 256) (st : ChState) (s : State) (i : Fin 4) : (s.toState n st).port i = s.port i := by
  simp only [State.port, State.toState_fab]
@[simp] theorem State.toState_nibOf (n : Fin 256) (st : ChState) (s : State) (i : Fin 20) : (s.toState n st).nibOf i = s.nibOf i := by
  simp only [State.nibOf, State.toState_nibs]
@[simp] theorem State.toState_chv (n : Fin 256) (st : ChState) (s : State) (i : Fin 256) : (s.toState n st).chv i = s.chv i := by
  simp only [State.chv, State.toState_vel]

/-! ### abortTune -/

@[simp] theorem State.abortTune_pending (n : Fin 256) (w : Nat) (s : State) : (s.abortTune n w).pending = s.pending := by
  unfold State.abortTune; repeat' split
  all_goals simp
@[simp] theorem State.abortTune_now (n : Fin 256) (w : Nat) (s : State) : (s.abortTune n w).now = s.now := by
  unfold State.abortTune; repeat' split
  all_goals simp
@[simp] theorem State.abortTune_timers (n : Fin 256) (w : Nat) (s : State) : (s.abortTune n w).timers = s.timers := by
  unfold State.abortTune; repeat' split
  all_goals simp
@[simp] theorem State.abortTune_rings (n : Fin 256) (w : Nat) (s : State) : (s.abortTune n w).rings = s.rings := by
  unfold State.abortTune; repeat' split
  all_goals simp
@[simp] theorem State.abortTune_group (n : Fin 256) (w : Nat) (s : State) : (s.abortTune n w).group = s.group := by
  unfold State.abortTune; repeat' split
  all_goals simp
@[simp] theorem State.abortTune_die (n : Fin 256) (w : Nat) (s : State) : (s.abortTune n w).die = s.die := by
  unfold State.abortTune; repeat' split
  all_goals simp
@[simp] theorem State.abortTune_nibs (n : Fin 256) (w : Nat) (s : State) : (s.abortTune n w).nibs = s.nibs := by
  unfold State.abortTune; repeat' split
  all_goals simp
@[simp] theorem State.abortTune_slot (n : Fin 256) (w : Nat) (s : State) : (s.abortTune n w).slot = s.slot := by
  unfold State.abortTune; repeat' split
  all_goals simp
@[simp] theorem State.abortTune_quire (n : Fin 256) (w : Nat) (s : State) : (s.abortTune n w).quire = s.quire := by
  unfold State.abortTune; repeat' split
  all_goals simp
@[simp] theorem State.abortTune_ink (n : Fin 256) (w : Nat) (s : State) : (s.abortTune n w).ink = s.ink := by
  unfold State.abortTune; repeat' split
  all_goals simp
@[simp] theorem State.abortTune_axis (n : Fin 256) (w : Nat) (s : State) : (s.abortTune n w).axis = s.axis := by
  unfold State.abortTune; repeat' split
  all_goals simp
@[simp] theorem State.abortTune_linear (n : Fin 256) (w : Nat) (s : State) : (s.abortTune n w).linear = s.linear := by
  unfold State.abortTune; repeat' split
  all_goals simp
@[simp] theorem State.abortTune_margin (n : Fin 256) (w : Nat) (s : State) : (s.abortTune n w).margin = s.margin := by
  unfold State.abortTune; repeat' split
  all_goals simp
@[simp] theorem State.abortTune_host (n : Fin 256) (w : Nat) (s : State) : (s.abortTune n w).host = s.host := by
  unfold State.abortTune; repeat' split
  all_goals simp
@[simp] theorem State.abortTune_folio (n : Fin 256) (w : Nat) (s : State) : (s.abortTune n w).folio = s.folio := by
  unfold State.abortTune; repeat' split
  all_goals simp
@[simp] theorem State.abortTune_fab (n : Fin 256) (w : Nat) (s : State) : (s.abortTune n w).fab = s.fab := by
  unfold State.abortTune; repeat' split
  all_goals simp
@[simp] theorem State.abortTune_tb (n : Fin 256) (w : Nat) (s : State) : (s.abortTune n w).tb = s.tb := by
  unfold State.abortTune; repeat' split
  all_goals simp
@[simp] theorem State.abortTune_vel (n : Fin 256) (w : Nat) (s : State) : (s.abortTune n w).vel = s.vel := by
  unfold State.abortTune; repeat' split
  all_goals simp
@[simp] theorem State.abortTune_rst (n : Fin 256) (w : Nat) (s : State) : (s.abortTune n w).rst = s.rst := by
  unfold State.abortTune; repeat' split
  all_goals simp
@[simp] theorem State.abortTune_grp (n : Fin 256) (w : Nat) (s : State) (i : Fin 16) : (s.abortTune n w).grp i = s.grp i := by
  simp only [State.grp, State.abortTune_group]
@[simp] theorem State.abortTune_dieOf (n : Fin 256) (w : Nat) (s : State) (i : Fin 4) : (s.abortTune n w).dieOf i = s.dieOf i := by
  simp only [State.dieOf, State.abortTune_die]
@[simp] theorem State.abortTune_ax (n : Fin 256) (w : Nat) (s : State) (i : Fin 8) : (s.abortTune n w).ax i = s.ax i := by
  simp only [State.ax, State.abortTune_axis]
@[simp] theorem State.abortTune_slotOf (n : Fin 256) (w : Nat) (s : State) (i : Fin 1024) : (s.abortTune n w).slotOf i = s.slotOf i := by
  simp only [State.slotOf, State.abortTune_slot]
@[simp] theorem State.abortTune_mbox (n : Fin 256) (w : Nat) (s : State) (i : Fin 8) : (s.abortTune n w).mbox i = s.mbox i := by
  simp only [State.mbox, State.abortTune_host]
@[simp] theorem State.abortTune_port (n : Fin 256) (w : Nat) (s : State) (i : Fin 4) : (s.abortTune n w).port i = s.port i := by
  simp only [State.port, State.abortTune_fab]
@[simp] theorem State.abortTune_nibOf (n : Fin 256) (w : Nat) (s : State) (i : Fin 20) : (s.abortTune n w).nibOf i = s.nibOf i := by
  simp only [State.nibOf, State.abortTune_nibs]
@[simp] theorem State.abortTune_stream (n : Fin 256) (w : Nat) (s : State) (i : Fin 4) : (s.abortTune n w).stream i = s.stream i := by
  simp only [State.stream, State.abortTune_ink]
@[simp] theorem State.abortTune_chv (n : Fin 256) (w : Nat) (s : State) (i : Fin 256) : (s.abortTune n w).chv i = s.chv i := by
  simp only [State.chv, State.abortTune_vel]

/-! ### trip -/

@[simp] theorem State.trip_pending (n : Fin 256) (m : Nat) (s : State) : (s.trip n m).pending = s.pending := by
  unfold State.trip; dsimp only; repeat' split
  all_goals simp
@[simp] theorem State.trip_now (n : Fin 256) (m : Nat) (s : State) : (s.trip n m).now = s.now := by
  unfold State.trip; dsimp only; repeat' split
  all_goals simp
@[simp] theorem State.trip_timers (n : Fin 256) (m : Nat) (s : State) : (s.trip n m).timers = s.timers := by
  unfold State.trip; dsimp only; repeat' split
  all_goals simp
@[simp] theorem State.trip_rings (n : Fin 256) (m : Nat) (s : State) : (s.trip n m).rings = s.rings := by
  unfold State.trip; dsimp only; repeat' split
  all_goals simp
@[simp] theorem State.trip_group (n : Fin 256) (m : Nat) (s : State) : (s.trip n m).group = s.group := by
  unfold State.trip; dsimp only; repeat' split
  all_goals simp
@[simp] theorem State.trip_die (n : Fin 256) (m : Nat) (s : State) : (s.trip n m).die = s.die := by
  unfold State.trip; dsimp only; repeat' split
  all_goals simp
@[simp] theorem State.trip_nibs (n : Fin 256) (m : Nat) (s : State) : (s.trip n m).nibs = s.nibs := by
  unfold State.trip; dsimp only; repeat' split
  all_goals simp
@[simp] theorem State.trip_quire (n : Fin 256) (m : Nat) (s : State) : (s.trip n m).quire = s.quire := by
  unfold State.trip; dsimp only; repeat' split
  all_goals simp
@[simp] theorem State.trip_axis (n : Fin 256) (m : Nat) (s : State) : (s.trip n m).axis = s.axis := by
  unfold State.trip; dsimp only; repeat' split
  all_goals simp
@[simp] theorem State.trip_linear (n : Fin 256) (m : Nat) (s : State) : (s.trip n m).linear = s.linear := by
  unfold State.trip; dsimp only; repeat' split
  all_goals simp
@[simp] theorem State.trip_margin (n : Fin 256) (m : Nat) (s : State) : (s.trip n m).margin = s.margin := by
  unfold State.trip; dsimp only; repeat' split
  all_goals simp
@[simp] theorem State.trip_folio (n : Fin 256) (m : Nat) (s : State) : (s.trip n m).folio = s.folio := by
  unfold State.trip; dsimp only; repeat' split
  all_goals simp
@[simp] theorem State.trip_fab (n : Fin 256) (m : Nat) (s : State) : (s.trip n m).fab = s.fab := by
  unfold State.trip; dsimp only; repeat' split
  all_goals simp
@[simp] theorem State.trip_tb (n : Fin 256) (m : Nat) (s : State) : (s.trip n m).tb = s.tb := by
  unfold State.trip; dsimp only; repeat' split
  all_goals simp
@[simp] theorem State.trip_vel (n : Fin 256) (m : Nat) (s : State) : (s.trip n m).vel = s.vel := by
  unfold State.trip; dsimp only; repeat' split
  all_goals simp
@[simp] theorem State.trip_rst (n : Fin 256) (m : Nat) (s : State) : (s.trip n m).rst = s.rst := by
  unfold State.trip; dsimp only; repeat' split
  all_goals simp
@[simp] theorem State.trip_grp (n : Fin 256) (m : Nat) (s : State) (i : Fin 16) : (s.trip n m).grp i = s.grp i := by
  simp only [State.grp, State.trip_group]
@[simp] theorem State.trip_dieOf (n : Fin 256) (m : Nat) (s : State) (i : Fin 4) : (s.trip n m).dieOf i = s.dieOf i := by
  simp only [State.dieOf, State.trip_die]
@[simp] theorem State.trip_ax (n : Fin 256) (m : Nat) (s : State) (i : Fin 8) : (s.trip n m).ax i = s.ax i := by
  simp only [State.ax, State.trip_axis]
@[simp] theorem State.trip_port (n : Fin 256) (m : Nat) (s : State) (i : Fin 4) : (s.trip n m).port i = s.port i := by
  simp only [State.port, State.trip_fab]
@[simp] theorem State.trip_nibOf (n : Fin 256) (m : Nat) (s : State) (i : Fin 20) : (s.trip n m).nibOf i = s.nibOf i := by
  simp only [State.nibOf, State.trip_nibs]
@[simp] theorem State.trip_chv (n : Fin 256) (m : Nat) (s : State) (i : Fin 256) : (s.trip n m).chv i = s.chv i := by
  simp only [State.chv, State.trip_vel]

/-! ### enterLoop -/

@[simp] theorem State.enterLoop_pending (n : Fin 256) (k : Nat) (l : Option (Int × Int)) (s : State) : (s.enterLoop n k l).pending = s.pending := by
  rfl
@[simp] theorem State.enterLoop_now (n : Fin 256) (k : Nat) (l : Option (Int × Int)) (s : State) : (s.enterLoop n k l).now = s.now := by
  rfl
@[simp] theorem State.enterLoop_timers (n : Fin 256) (k : Nat) (l : Option (Int × Int)) (s : State) : (s.enterLoop n k l).timers = s.timers := by
  rfl
@[simp] theorem State.enterLoop_rings (n : Fin 256) (k : Nat) (l : Option (Int × Int)) (s : State) : (s.enterLoop n k l).rings = s.rings := by
  rfl
@[simp] theorem State.enterLoop_die (n : Fin 256) (k : Nat) (l : Option (Int × Int)) (s : State) : (s.enterLoop n k l).die = s.die := by
  rfl
@[simp] theorem State.enterLoop_nibs (n : Fin 256) (k : Nat) (l : Option (Int × Int)) (s : State) : (s.enterLoop n k l).nibs = s.nibs := by
  rfl
@[simp] theorem State.enterLoop_slot (n : Fin 256) (k : Nat) (l : Option (Int × Int)) (s : State) : (s.enterLoop n k l).slot = s.slot := by
  rfl
@[simp] theorem State.enterLoop_quire (n : Fin 256) (k : Nat) (l : Option (Int × Int)) (s : State) : (s.enterLoop n k l).quire = s.quire := by
  rfl
@[simp] theorem State.enterLoop_pounce (n : Fin 256) (k : Nat) (l : Option (Int × Int)) (s : State) : (s.enterLoop n k l).pounce = s.pounce := by
  rfl
@[simp] theorem State.enterLoop_ink (n : Fin 256) (k : Nat) (l : Option (Int × Int)) (s : State) : (s.enterLoop n k l).ink = s.ink := by
  rfl
@[simp] theorem State.enterLoop_axis (n : Fin 256) (k : Nat) (l : Option (Int × Int)) (s : State) : (s.enterLoop n k l).axis = s.axis := by
  rfl
@[simp] theorem State.enterLoop_linear (n : Fin 256) (k : Nat) (l : Option (Int × Int)) (s : State) : (s.enterLoop n k l).linear = s.linear := by
  rfl
@[simp] theorem State.enterLoop_margin (n : Fin 256) (k : Nat) (l : Option (Int × Int)) (s : State) : (s.enterLoop n k l).margin = s.margin := by
  rfl
@[simp] theorem State.enterLoop_host (n : Fin 256) (k : Nat) (l : Option (Int × Int)) (s : State) : (s.enterLoop n k l).host = s.host := by
  rfl
@[simp] theorem State.enterLoop_folio (n : Fin 256) (k : Nat) (l : Option (Int × Int)) (s : State) : (s.enterLoop n k l).folio = s.folio := by
  rfl
@[simp] theorem State.enterLoop_fab (n : Fin 256) (k : Nat) (l : Option (Int × Int)) (s : State) : (s.enterLoop n k l).fab = s.fab := by
  rfl
@[simp] theorem State.enterLoop_tb (n : Fin 256) (k : Nat) (l : Option (Int × Int)) (s : State) : (s.enterLoop n k l).tb = s.tb := by
  rfl
@[simp] theorem State.enterLoop_vel (n : Fin 256) (k : Nat) (l : Option (Int × Int)) (s : State) : (s.enterLoop n k l).vel = s.vel := by
  rfl
@[simp] theorem State.enterLoop_blot (n : Fin 256) (k : Nat) (l : Option (Int × Int)) (s : State) : (s.enterLoop n k l).blot = s.blot := by
  rfl
@[simp] theorem State.enterLoop_rst (n : Fin 256) (k : Nat) (l : Option (Int × Int)) (s : State) : (s.enterLoop n k l).rst = s.rst := by
  rfl
@[simp] theorem State.enterLoop_dieOf (n : Fin 256) (k : Nat) (l : Option (Int × Int)) (s : State) (i : Fin 4) : (s.enterLoop n k l).dieOf i = s.dieOf i := by
  simp only [State.dieOf, State.enterLoop_die]
@[simp] theorem State.enterLoop_unit (n : Fin 256) (k : Nat) (l : Option (Int × Int)) (s : State) (i : Fin 32) : (s.enterLoop n k l).unit i = s.unit i := by
  simp only [State.unit, State.enterLoop_pounce]
@[simp] theorem State.enterLoop_ax (n : Fin 256) (k : Nat) (l : Option (Int × Int)) (s : State) (i : Fin 8) : (s.enterLoop n k l).ax i = s.ax i := by
  simp only [State.ax, State.enterLoop_axis]
@[simp] theorem State.enterLoop_slotOf (n : Fin 256) (k : Nat) (l : Option (Int × Int)) (s : State) (i : Fin 1024) : (s.enterLoop n k l).slotOf i = s.slotOf i := by
  simp only [State.slotOf, State.enterLoop_slot]
@[simp] theorem State.enterLoop_mbox (n : Fin 256) (k : Nat) (l : Option (Int × Int)) (s : State) (i : Fin 8) : (s.enterLoop n k l).mbox i = s.mbox i := by
  simp only [State.mbox, State.enterLoop_host]
@[simp] theorem State.enterLoop_port (n : Fin 256) (k : Nat) (l : Option (Int × Int)) (s : State) (i : Fin 4) : (s.enterLoop n k l).port i = s.port i := by
  simp only [State.port, State.enterLoop_fab]
@[simp] theorem State.enterLoop_nibOf (n : Fin 256) (k : Nat) (l : Option (Int × Int)) (s : State) (i : Fin 20) : (s.enterLoop n k l).nibOf i = s.nibOf i := by
  simp only [State.nibOf, State.enterLoop_nibs]
@[simp] theorem State.enterLoop_stream (n : Fin 256) (k : Nat) (l : Option (Int × Int)) (s : State) (i : Fin 4) : (s.enterLoop n k l).stream i = s.stream i := by
  simp only [State.stream, State.enterLoop_ink]
@[simp] theorem State.enterLoop_chv (n : Fin 256) (k : Nat) (l : Option (Int × Int)) (s : State) (i : Fin 256) : (s.enterLoop n k l).chv i = s.chv i := by
  simp only [State.chv, State.enterLoop_vel]

/-! ### enterRun -/

@[simp] theorem State.enterRun_pending (n : Fin 256) (k : Nat) (s : State) : (s.enterRun n k).pending = s.pending := by
  simp [State.enterRun]
@[simp] theorem State.enterRun_now (n : Fin 256) (k : Nat) (s : State) : (s.enterRun n k).now = s.now := by
  simp [State.enterRun]
@[simp] theorem State.enterRun_timers (n : Fin 256) (k : Nat) (s : State) : (s.enterRun n k).timers = s.timers := by
  simp [State.enterRun]
@[simp] theorem State.enterRun_rings (n : Fin 256) (k : Nat) (s : State) : (s.enterRun n k).rings = s.rings := by
  simp [State.enterRun]
@[simp] theorem State.enterRun_die (n : Fin 256) (k : Nat) (s : State) : (s.enterRun n k).die = s.die := by
  simp [State.enterRun]
@[simp] theorem State.enterRun_nibs (n : Fin 256) (k : Nat) (s : State) : (s.enterRun n k).nibs = s.nibs := by
  simp [State.enterRun]
@[simp] theorem State.enterRun_quire (n : Fin 256) (k : Nat) (s : State) : (s.enterRun n k).quire = s.quire := by
  simp [State.enterRun]
@[simp] theorem State.enterRun_axis (n : Fin 256) (k : Nat) (s : State) : (s.enterRun n k).axis = s.axis := by
  simp [State.enterRun]
@[simp] theorem State.enterRun_linear (n : Fin 256) (k : Nat) (s : State) : (s.enterRun n k).linear = s.linear := by
  simp [State.enterRun]
@[simp] theorem State.enterRun_margin (n : Fin 256) (k : Nat) (s : State) : (s.enterRun n k).margin = s.margin := by
  simp [State.enterRun]
@[simp] theorem State.enterRun_folio (n : Fin 256) (k : Nat) (s : State) : (s.enterRun n k).folio = s.folio := by
  simp [State.enterRun]
@[simp] theorem State.enterRun_fab (n : Fin 256) (k : Nat) (s : State) : (s.enterRun n k).fab = s.fab := by
  simp [State.enterRun]
@[simp] theorem State.enterRun_tb (n : Fin 256) (k : Nat) (s : State) : (s.enterRun n k).tb = s.tb := by
  simp [State.enterRun]
@[simp] theorem State.enterRun_vel (n : Fin 256) (k : Nat) (s : State) : (s.enterRun n k).vel = s.vel := by
  simp [State.enterRun]
@[simp] theorem State.enterRun_rst (n : Fin 256) (k : Nat) (s : State) : (s.enterRun n k).rst = s.rst := by
  simp [State.enterRun]
@[simp] theorem State.enterRun_dieOf (n : Fin 256) (k : Nat) (s : State) (i : Fin 4) : (s.enterRun n k).dieOf i = s.dieOf i := by
  simp only [State.dieOf, State.enterRun_die]
@[simp] theorem State.enterRun_ax (n : Fin 256) (k : Nat) (s : State) (i : Fin 8) : (s.enterRun n k).ax i = s.ax i := by
  simp only [State.ax, State.enterRun_axis]
@[simp] theorem State.enterRun_port (n : Fin 256) (k : Nat) (s : State) (i : Fin 4) : (s.enterRun n k).port i = s.port i := by
  simp only [State.port, State.enterRun_fab]
@[simp] theorem State.enterRun_nibOf (n : Fin 256) (k : Nat) (s : State) (i : Fin 20) : (s.enterRun n k).nibOf i = s.nibOf i := by
  simp only [State.nibOf, State.enterRun_nibs]
@[simp] theorem State.enterRun_chv (n : Fin 256) (k : Nat) (s : State) (i : Fin 256) : (s.enterRun n k).chv i = s.chv i := by
  simp only [State.chv, State.enterRun_vel]

/-! ### rampDown -/

@[simp] theorem State.rampDown_pending (n : Fin 256) (p : Bool) (s : State) : (s.rampDown n p).pending = s.pending := by
  unfold State.rampDown; dsimp only; split <;> simp
@[simp] theorem State.rampDown_now (n : Fin 256) (p : Bool) (s : State) : (s.rampDown n p).now = s.now := by
  unfold State.rampDown; dsimp only; split <;> simp
@[simp] theorem State.rampDown_timers (n : Fin 256) (p : Bool) (s : State) : (s.rampDown n p).timers = s.timers := by
  unfold State.rampDown; dsimp only; split <;> simp
@[simp] theorem State.rampDown_rings (n : Fin 256) (p : Bool) (s : State) : (s.rampDown n p).rings = s.rings := by
  unfold State.rampDown; dsimp only; split <;> simp
@[simp] theorem State.rampDown_group (n : Fin 256) (p : Bool) (s : State) : (s.rampDown n p).group = s.group := by
  unfold State.rampDown; dsimp only; split <;> simp
@[simp] theorem State.rampDown_die (n : Fin 256) (p : Bool) (s : State) : (s.rampDown n p).die = s.die := by
  unfold State.rampDown; dsimp only; split <;> simp
@[simp] theorem State.rampDown_nibs (n : Fin 256) (p : Bool) (s : State) : (s.rampDown n p).nibs = s.nibs := by
  unfold State.rampDown; dsimp only; split <;> simp
@[simp] theorem State.rampDown_slot (n : Fin 256) (p : Bool) (s : State) : (s.rampDown n p).slot = s.slot := by
  unfold State.rampDown; dsimp only; split <;> simp
@[simp] theorem State.rampDown_quire (n : Fin 256) (p : Bool) (s : State) : (s.rampDown n p).quire = s.quire := by
  unfold State.rampDown; dsimp only; split <;> simp
@[simp] theorem State.rampDown_pounce (n : Fin 256) (p : Bool) (s : State) : (s.rampDown n p).pounce = s.pounce := by
  unfold State.rampDown; dsimp only; split <;> simp
@[simp] theorem State.rampDown_ink (n : Fin 256) (p : Bool) (s : State) : (s.rampDown n p).ink = s.ink := by
  unfold State.rampDown; dsimp only; split <;> simp
@[simp] theorem State.rampDown_axis (n : Fin 256) (p : Bool) (s : State) : (s.rampDown n p).axis = s.axis := by
  unfold State.rampDown; dsimp only; split <;> simp
@[simp] theorem State.rampDown_linear (n : Fin 256) (p : Bool) (s : State) : (s.rampDown n p).linear = s.linear := by
  unfold State.rampDown; dsimp only; split <;> simp
@[simp] theorem State.rampDown_margin (n : Fin 256) (p : Bool) (s : State) : (s.rampDown n p).margin = s.margin := by
  unfold State.rampDown; dsimp only; split <;> simp
@[simp] theorem State.rampDown_host (n : Fin 256) (p : Bool) (s : State) : (s.rampDown n p).host = s.host := by
  unfold State.rampDown; dsimp only; split <;> simp
@[simp] theorem State.rampDown_folio (n : Fin 256) (p : Bool) (s : State) : (s.rampDown n p).folio = s.folio := by
  unfold State.rampDown; dsimp only; split <;> simp
@[simp] theorem State.rampDown_fab (n : Fin 256) (p : Bool) (s : State) : (s.rampDown n p).fab = s.fab := by
  unfold State.rampDown; dsimp only; split <;> simp
@[simp] theorem State.rampDown_tb (n : Fin 256) (p : Bool) (s : State) : (s.rampDown n p).tb = s.tb := by
  unfold State.rampDown; dsimp only; split <;> simp
@[simp] theorem State.rampDown_vel (n : Fin 256) (p : Bool) (s : State) : (s.rampDown n p).vel = s.vel := by
  unfold State.rampDown; dsimp only; split <;> simp
@[simp] theorem State.rampDown_rst (n : Fin 256) (p : Bool) (s : State) : (s.rampDown n p).rst = s.rst := by
  unfold State.rampDown; dsimp only; split <;> simp
@[simp] theorem State.rampDown_grp (n : Fin 256) (p : Bool) (s : State) (i : Fin 16) : (s.rampDown n p).grp i = s.grp i := by
  simp only [State.grp, State.rampDown_group]
@[simp] theorem State.rampDown_dieOf (n : Fin 256) (p : Bool) (s : State) (i : Fin 4) : (s.rampDown n p).dieOf i = s.dieOf i := by
  simp only [State.dieOf, State.rampDown_die]
@[simp] theorem State.rampDown_unit (n : Fin 256) (p : Bool) (s : State) (i : Fin 32) : (s.rampDown n p).unit i = s.unit i := by
  simp only [State.unit, State.rampDown_pounce]
@[simp] theorem State.rampDown_ax (n : Fin 256) (p : Bool) (s : State) (i : Fin 8) : (s.rampDown n p).ax i = s.ax i := by
  simp only [State.ax, State.rampDown_axis]
@[simp] theorem State.rampDown_slotOf (n : Fin 256) (p : Bool) (s : State) (i : Fin 1024) : (s.rampDown n p).slotOf i = s.slotOf i := by
  simp only [State.slotOf, State.rampDown_slot]
@[simp] theorem State.rampDown_mbox (n : Fin 256) (p : Bool) (s : State) (i : Fin 8) : (s.rampDown n p).mbox i = s.mbox i := by
  simp only [State.mbox, State.rampDown_host]
@[simp] theorem State.rampDown_port (n : Fin 256) (p : Bool) (s : State) (i : Fin 4) : (s.rampDown n p).port i = s.port i := by
  simp only [State.port, State.rampDown_fab]
@[simp] theorem State.rampDown_nibOf (n : Fin 256) (p : Bool) (s : State) (i : Fin 20) : (s.rampDown n p).nibOf i = s.nibOf i := by
  simp only [State.nibOf, State.rampDown_nibs]
@[simp] theorem State.rampDown_stream (n : Fin 256) (p : Bool) (s : State) (i : Fin 4) : (s.rampDown n p).stream i = s.stream i := by
  simp only [State.stream, State.rampDown_ink]
@[simp] theorem State.rampDown_chv (n : Fin 256) (p : Bool) (s : State) (i : Fin 256) : (s.rampDown n p).chv i = s.chv i := by
  simp only [State.chv, State.rampDown_vel]

theorem State.spoil_mbox (k : Fin 1024) (s : State) (j : Fin 8) : ∃ v, (s.spoil k).mbox j = { s.mbox j with verify := v } := by
  simp only [State.spoil, State.mbox, vget, Fin.getElem_fin, Vector.getElem_map]
  split
  · split
    · exact ⟨_, rfl⟩
    · exact ⟨_, rfl⟩
  · exact ⟨_, rfl⟩

/-! ### The other channels -/

theorem State.openInterval_ch_of_ne {n : Fin 256} (s : State) (j : Fin 256) (h : j ≠ n) : (s.openInterval n).ch j = s.ch j := by
  exact State.updCh_ch_of_ne _ _ h.symm

theorem State.closeInterval_ch_of_ne {n : Fin 256} (s : State) (j : Fin 256) (h : j ≠ n) : (s.closeInterval n).ch j = s.ch j := by
  rw [State.closeInterval, State.openInterval_ch_of_ne _ _ h, State.record_ch]

theorem State.rewrite_ch_of_ne {n : Fin 256} (a b : Bool) (s : State) (j : Fin 256) (h : j ≠ n) : (s.rewrite n a b).ch j = s.ch j := by
  unfold State.rewrite
  split
  · exact State.closeInterval_ch_of_ne _ _ h
  · split
    · exact State.openInterval_ch_of_ne _ _ h
    · rfl

theorem State.become_ch_of_ne {n : Fin 256} (st : ChState) (s : State) (j : Fin 256) (h : j ≠ n) : (s.become n st).ch j = s.ch j := by
  unfold State.become
  dsimp only
  split
  · rfl
  · split
    · rw [State.rewrite_ch_of_ne _ _ _ _ h, State.tellUnits_ch, State.updCh_ch_of_ne _ _ h.symm]
    · rw [State.refreshSlot_ch, State.rewrite_ch_of_ne _ _ _ _ h, State.tellUnits_ch, State.updCh_ch_of_ne _ _ h.symm]

theorem State.toState_ch_of_ne {n : Fin 256} (st : ChState) (s : State) (j : Fin 256) (h : j ≠ n) : (s.toState n st).ch j = s.ch j := by
  unfold State.toState
  split
  · rfl
  · rw [State.ckpt, State.updCh_ch_of_ne _ _ h.symm, State.become_ch_of_ne _ _ _ h]

/-! ### The channel itself -/

/-- A record interval touches the averages of its channel only. -/
theorem State.rewrite_ch_self (n : Fin 256) (a b : Bool) (s : State) :
    ∃ m, (s.rewrite n a b).ch n = { s.ch n with meas := m } := by
  unfold State.rewrite
  split
  · exact ⟨_, by rw [State.closeInterval, State.openInterval, State.updCh_ch, State.record_ch]⟩
  · split
    · exact ⟨_, by rw [State.openInterval, State.updCh_ch]⟩
    · exact ⟨_, rfl⟩

/-- A change of state touches the channel's state and the averages of its record interval only. -/
theorem State.become_ch_self (n : Fin 256) (st : ChState) (s : State) :
    ∃ m, (s.become n st).ch n = { s.ch n with
      state := st
      meas := m } := by
  unfold State.become
  dsimp only
  split
  · next h => exact ⟨_, by rw [← h]⟩
  · obtain ⟨m, h⟩ := State.rewrite_ch_self n (s.ink.writes (s.ch n).state) (s.ink.writes st)
      ((s.updCh n (Channel.enter st (s.tempOf n) (s.grp (groupOf n)).bus)).tellUnits n (s.ch n).state st)
    rw [State.tellUnits_ch, State.updCh_ch] at h
    split
    · exact ⟨m, h⟩
    · exact ⟨m, by rw [State.refreshSlot_ch]; exact h⟩

/-- A change of state also requests a STATE checkpoint (R192). -/
theorem State.toState_ch_self (n : Fin 256) (st : ChState) (s : State) (h : (s.ch n).state ≠ st) :
    ∃ m, (s.toState n st).ch n = { s.ch n with
      state := st
      meas := m
      ckptReq := some ((s.become n st).ckptWords n 2)
      ckptAt := if (s.ch n).ckptReq.isSome then (s.ch n).ckptAt else (s.become n st).ckptNext
      ckptGap := 0 } := by
  obtain ⟨m, e⟩ := s.become_ch_self n st
  exact ⟨m, by rw [State.toState, if_neg h, State.ckpt, State.updCh_ch, e]; rfl⟩

@[simp] theorem State.toState_state (n : Fin 256) (st : ChState) (s : State) : ((s.toState n st).ch n).state = st := by
  by_cases h : (s.ch n).state = st
  · rw [State.toState, if_pos h, h]
  · obtain ⟨m, e⟩ := s.toState_ch_self n st h
    rw [e]

@[simp] theorem State.toState_cfg_self (n : Fin 256) (st : ChState) (s : State) : ((s.toState n st).ch n).cfg = (s.ch n).cfg := by
  by_cases h : (s.ch n).state = st
  · rw [State.toState, if_pos h]
  · obtain ⟨m, e⟩ := s.toState_ch_self n st h
    rw [e]
@[simp] theorem State.toState_sets_self (n : Fin 256) (st : ChState) (s : State) : ((s.toState n st).ch n).sets = (s.ch n).sets := by
  by_cases h : (s.ch n).state = st
  · rw [State.toState, if_pos h]
  · obtain ⟨m, e⟩ := s.toState_ch_self n st h
    rw [e]
@[simp] theorem State.toState_tripCause_self (n : Fin 256) (st : ChState) (s : State) : ((s.toState n st).ch n).tripCause = (s.ch n).tripCause := by
  by_cases h : (s.ch n).state = st
  · rw [State.toState, if_pos h]
  · obtain ⟨m, e⟩ := s.toState_ch_self n st h
    rw [e]
@[simp] theorem State.toState_clearTo_self (n : Fin 256) (st : ChState) (s : State) : ((s.toState n st).ch n).clearTo = (s.ch n).clearTo := by
  by_cases h : (s.ch n).state = st
  · rw [State.toState, if_pos h]
  · obtain ⟨m, e⟩ := s.toState_ch_self n st h
    rw [e]
@[simp] theorem State.toState_drive_self (n : Fin 256) (st : ChState) (s : State) : ((s.toState n st).ch n).drive = (s.ch n).drive := by
  by_cases h : (s.ch n).state = st
  · rw [State.toState, if_pos h]
  · obtain ⟨m, e⟩ := s.toState_ch_self n st h
    rw [e]
@[simp] theorem State.toState_loop_self (n : Fin 256) (st : ChState) (s : State) : ((s.toState n st).ch n).loop = (s.ch n).loop := by
  by_cases h : (s.ch n).state = st
  · rw [State.toState, if_pos h]
  · obtain ⟨m, e⟩ := s.toState_ch_self n st h
    rw [e]
@[simp] theorem State.toState_acc_self (n : Fin 256) (st : ChState) (s : State) : ((s.toState n st).ch n).acc = (s.ch n).acc := by
  by_cases h : (s.ch n).state = st
  · rw [State.toState, if_pos h]
  · obtain ⟨m, e⟩ := s.toState_ch_self n st h
    rw [e]
@[simp] theorem State.toState_run_self (n : Fin 256) (st : ChState) (s : State) : ((s.toState n st).ch n).run = (s.ch n).run := by
  by_cases h : (s.ch n).state = st
  · rw [State.toState, if_pos h]
  · obtain ⟨m, e⟩ := s.toState_ch_self n st h
    rw [e]
@[simp] theorem State.toState_calRun_self (n : Fin 256) (st : ChState) (s : State) : ((s.toState n st).ch n).calRun = (s.ch n).calRun := by
  by_cases h : (s.ch n).state = st
  · rw [State.toState, if_pos h]
  · obtain ⟨m, e⟩ := s.toState_ch_self n st h
    rw [e]
@[simp] theorem State.toState_calPoints_self (n : Fin 256) (st : ChState) (s : State) : ((s.toState n st).ch n).calPoints = (s.ch n).calPoints := by
  by_cases h : (s.ch n).state = st
  · rw [State.toState, if_pos h]
  · obtain ⟨m, e⟩ := s.toState_ch_self n st h
    rw [e]
@[simp] theorem State.toState_tune_self (n : Fin 256) (st : ChState) (s : State) : ((s.toState n st).ch n).tune = (s.ch n).tune := by
  by_cases h : (s.ch n).state = st
  · rw [State.toState, if_pos h]
  · obtain ⟨m, e⟩ := s.toState_ch_self n st h
    rw [e]

end Sys2Proof.Machine
end

