-- ==== Sys2Proof/Laws/Mailbox.lean ====
section
/-! SUPPORT. What carrying out a mailbox command comes to once its checks pass: the shared operations of Machine/Mailbox.lean, each
said once. -/

namespace Sys2Proof.Machine

open Sys2Proof.Safety

/-! ### finish and takeOff -/

theorem State.finish_eq (uid : Nat) (s : State) :
    s.finish uid = ({ s with quire := s.quire.remove 0 uid } : State).tellLate s.quire := rfl

/-- Taking a command off changes the taken commands and the kept item of its mailbox, and the Quire; nothing else. -/
theorem State.takeOff_cases (op : Nat) (m : MbCmd) (s : State) :
    ∃ tk kp q, s.takeOff op m =
      { s.updMb m.mb (fun b => { b with
          taken := tk
          kept := kp }) with quire := q } := by
  unfold State.takeOff
  split
  · simp only []
    split
    · rename_i it _
      split
      · exact ⟨eraseFirst (fun e => e.1 == m && e.2.toNat == op) (s.mbox m.mb).taken, some it.uid, _,
          by simp [State.updMb, State.mbox, vset, vget]; rfl⟩
      · exact ⟨eraseFirst (fun e => e.1 == m && e.2.toNat == op) (s.mbox m.mb).taken, (s.mbox m.mb).kept, _, rfl⟩
    · exact ⟨eraseFirst (fun e => e.1 == m && e.2.toNat == op) (s.mbox m.mb).taken, (s.mbox m.mb).kept, _, rfl⟩
  · exact ⟨(s.mbox m.mb).taken, (s.mbox m.mb).kept, s.quire, (s.updMb_self m.mb).symm⟩

@[simp] theorem State.takeOff_pending (op : Nat) (m : MbCmd) (s : State) : (s.takeOff op m).pending = s.pending := by
  obtain ⟨_, _, _, h⟩ := s.takeOff_cases op m; rw [h]; rfl
@[simp] theorem State.takeOff_now (op : Nat) (m : MbCmd) (s : State) : (s.takeOff op m).now = s.now := by
  obtain ⟨_, _, _, h⟩ := s.takeOff_cases op m; rw [h]; rfl
@[simp] theorem State.takeOff_timers (op : Nat) (m : MbCmd) (s : State) : (s.takeOff op m).timers = s.timers := by
  obtain ⟨_, _, _, h⟩ := s.takeOff_cases op m; rw [h]; rfl
@[simp] theorem State.takeOff_rings (op : Nat) (m : MbCmd) (s : State) : (s.takeOff op m).rings = s.rings := by
  obtain ⟨_, _, _, h⟩ := s.takeOff_cases op m; rw [h]; rfl
@[simp] theorem State.takeOff_chan (op : Nat) (m : MbCmd) (s : State) : (s.takeOff op m).chan = s.chan := by
  obtain ⟨_, _, _, h⟩ := s.takeOff_cases op m; rw [h]; rfl
@[simp] theorem State.takeOff_group (op : Nat) (m : MbCmd) (s : State) : (s.takeOff op m).group = s.group := by
  obtain ⟨_, _, _, h⟩ := s.takeOff_cases op m; rw [h]; rfl
@[simp] theorem State.takeOff_die (op : Nat) (m : MbCmd) (s : State) : (s.takeOff op m).die = s.die := by
  obtain ⟨_, _, _, h⟩ := s.takeOff_cases op m; rw [h]; rfl
@[simp] theorem State.takeOff_nibs (op : Nat) (m : MbCmd) (s : State) : (s.takeOff op m).nibs = s.nibs := by
  obtain ⟨_, _, _, h⟩ := s.takeOff_cases op m; rw [h]; rfl
@[simp] theorem State.takeOff_slot (op : Nat) (m : MbCmd) (s : State) : (s.takeOff op m).slot = s.slot := by
  obtain ⟨_, _, _, h⟩ := s.takeOff_cases op m; rw [h]; rfl
@[simp] theorem State.takeOff_pounce (op : Nat) (m : MbCmd) (s : State) : (s.takeOff op m).pounce = s.pounce := by
  obtain ⟨_, _, _, h⟩ := s.takeOff_cases op m; rw [h]; rfl
@[simp] theorem State.takeOff_ink (op : Nat) (m : MbCmd) (s : State) : (s.takeOff op m).ink = s.ink := by
  obtain ⟨_, _, _, h⟩ := s.takeOff_cases op m; rw [h]; rfl
@[simp] theorem State.takeOff_axis (op : Nat) (m : MbCmd) (s : State) : (s.takeOff op m).axis = s.axis := by
  obtain ⟨_, _, _, h⟩ := s.takeOff_cases op m; rw [h]; rfl
@[simp] theorem State.takeOff_linear (op : Nat) (m : MbCmd) (s : State) : (s.takeOff op m).linear = s.linear := by
  obtain ⟨_, _, _, h⟩ := s.takeOff_cases op m; rw [h]; rfl
@[simp] theorem State.takeOff_margin (op : Nat) (m : MbCmd) (s : State) : (s.takeOff op m).margin = s.margin := by
  obtain ⟨_, _, _, h⟩ := s.takeOff_cases op m; rw [h]; rfl
@[simp] theorem State.takeOff_folio (op : Nat) (m : MbCmd) (s : State) : (s.takeOff op m).folio = s.folio := by
  obtain ⟨_, _, _, h⟩ := s.takeOff_cases op m; rw [h]; rfl
@[simp] theorem State.takeOff_fab (op : Nat) (m : MbCmd) (s : State) : (s.takeOff op m).fab = s.fab := by
  obtain ⟨_, _, _, h⟩ := s.takeOff_cases op m; rw [h]; rfl
@[simp] theorem State.takeOff_tb (op : Nat) (m : MbCmd) (s : State) : (s.takeOff op m).tb = s.tb := by
  obtain ⟨_, _, _, h⟩ := s.takeOff_cases op m; rw [h]; rfl
@[simp] theorem State.takeOff_vel (op : Nat) (m : MbCmd) (s : State) : (s.takeOff op m).vel = s.vel := by
  obtain ⟨_, _, _, h⟩ := s.takeOff_cases op m; rw [h]; rfl
@[simp] theorem State.takeOff_blot (op : Nat) (m : MbCmd) (s : State) : (s.takeOff op m).blot = s.blot := by
  obtain ⟨_, _, _, h⟩ := s.takeOff_cases op m; rw [h]; rfl
@[simp] theorem State.takeOff_rst (op : Nat) (m : MbCmd) (s : State) : (s.takeOff op m).rst = s.rst := by
  obtain ⟨_, _, _, h⟩ := s.takeOff_cases op m; rw [h]; rfl

@[simp] theorem State.takeOff_ch (op : Nat) (m : MbCmd) (s : State) (i : Fin 256) : (s.takeOff op m).ch i = s.ch i := by
  simp only [State.ch, State.takeOff_chan]
@[simp] theorem State.takeOff_grp (op : Nat) (m : MbCmd) (s : State) (i : Fin 16) : (s.takeOff op m).grp i = s.grp i := by
  simp only [State.grp, State.takeOff_group]
@[simp] theorem State.takeOff_dieOf (op : Nat) (m : MbCmd) (s : State) (i : Fin 4) : (s.takeOff op m).dieOf i = s.dieOf i := by
  simp only [State.dieOf, State.takeOff_die]
@[simp] theorem State.takeOff_unit (op : Nat) (m : MbCmd) (s : State) (i : Fin 32) : (s.takeOff op m).unit i = s.unit i := by
  simp only [State.unit, State.takeOff_pounce]
@[simp] theorem State.takeOff_ax (op : Nat) (m : MbCmd) (s : State) (i : Fin 8) : (s.takeOff op m).ax i = s.ax i := by
  simp only [State.ax, State.takeOff_axis]
@[simp] theorem State.takeOff_slotOf (op : Nat) (m : MbCmd) (s : State) (i : Fin 1024) : (s.takeOff op m).slotOf i = s.slotOf i := by
  simp only [State.slotOf, State.takeOff_slot]
@[simp] theorem State.takeOff_port (op : Nat) (m : MbCmd) (s : State) (i : Fin 4) : (s.takeOff op m).port i = s.port i := by
  simp only [State.port, State.takeOff_fab]
@[simp] theorem State.takeOff_nibOf (op : Nat) (m : MbCmd) (s : State) (i : Fin 20) : (s.takeOff op m).nibOf i = s.nibOf i := by
  simp only [State.nibOf, State.takeOff_nibs]
@[simp] theorem State.takeOff_stream (op : Nat) (m : MbCmd) (s : State) (i : Fin 4) : (s.takeOff op m).stream i = s.stream i := by
  simp only [State.stream, State.takeOff_ink]
@[simp] theorem State.takeOff_chv (op : Nat) (m : MbCmd) (s : State) (i : Fin 256) : (s.takeOff op m).chv i = s.chv i := by
  simp only [State.chv, State.takeOff_vel]

@[simp] theorem State.takeOff_mb_cmdHead (op : Nat) (m : MbCmd) (s : State) (k : Fin 8) : ((s.takeOff op m).mbox k).cmdHead = (s.mbox k).cmdHead := by
  obtain ⟨_, _, _, h⟩ := s.takeOff_cases op m
  rw [h]
  by_cases e : m.mb = k
  · subst e; simp [State.mbox, State.updMb]
  · simp [State.mbox, State.updMb, vget_vset_of_ne _ _ e]
@[simp] theorem State.takeOff_mb_cmdTail (op : Nat) (m : MbCmd) (s : State) (k : Fin 8) : ((s.takeOff op m).mbox k).cmdTail = (s.mbox k).cmdTail := by
  obtain ⟨_, _, _, h⟩ := s.takeOff_cases op m
  rw [h]
  by_cases e : m.mb = k
  · subst e; simp [State.mbox, State.updMb]
  · simp [State.mbox, State.updMb, vget_vset_of_ne _ _ e]
@[simp] theorem State.takeOff_mb_rspTail (op : Nat) (m : MbCmd) (s : State) (k : Fin 8) : ((s.takeOff op m).mbox k).rspTail = (s.mbox k).rspTail := by
  obtain ⟨_, _, _, h⟩ := s.takeOff_cases op m
  rw [h]
  by_cases e : m.mb = k
  · subst e; simp [State.mbox, State.updMb]
  · simp [State.mbox, State.updMb, vget_vset_of_ne _ _ e]
@[simp] theorem State.takeOff_mb_rspHead (op : Nat) (m : MbCmd) (s : State) (k : Fin 8) : ((s.takeOff op m).mbox k).rspHead = (s.mbox k).rspHead := by
  obtain ⟨_, _, _, h⟩ := s.takeOff_cases op m
  rw [h]
  by_cases e : m.mb = k
  · subst e; simp [State.mbox, State.updMb]
  · simp [State.mbox, State.updMb, vget_vset_of_ne _ _ e]
@[simp] theorem State.takeOff_mb_cfg (op : Nat) (m : MbCmd) (s : State) (k : Fin 8) : ((s.takeOff op m).mbox k).cfg = (s.mbox k).cfg := by
  obtain ⟨_, _, _, h⟩ := s.takeOff_cases op m
  rw [h]
  by_cases e : m.mb = k
  · subst e; simp [State.mbox, State.updMb]
  · simp [State.mbox, State.updMb, vget_vset_of_ne _ _ e]
@[simp] theorem State.takeOff_mb_session (op : Nat) (m : MbCmd) (s : State) (k : Fin 8) : ((s.takeOff op m).mbox k).session = (s.mbox k).session := by
  obtain ⟨_, _, _, h⟩ := s.takeOff_cases op m
  rw [h]
  by_cases e : m.mb = k
  · subst e; simp [State.mbox, State.updMb]
  · simp [State.mbox, State.updMb, vget_vset_of_ne _ _ e]
@[simp] theorem State.takeOff_mb_discard (op : Nat) (m : MbCmd) (s : State) (k : Fin 8) : ((s.takeOff op m).mbox k).discard = (s.mbox k).discard := by
  obtain ⟨_, _, _, h⟩ := s.takeOff_cases op m
  rw [h]
  by_cases e : m.mb = k
  · subst e; simp [State.mbox, State.updMb]
  · simp [State.mbox, State.updMb, vget_vset_of_ne _ _ e]
@[simp] theorem State.takeOff_mb_frozen (op : Nat) (m : MbCmd) (s : State) (k : Fin 8) : ((s.takeOff op m).mbox k).frozen = (s.mbox k).frozen := by
  obtain ⟨_, _, _, h⟩ := s.takeOff_cases op m
  rw [h]
  by_cases e : m.mb = k
  · subst e; simp [State.mbox, State.updMb]
  · simp [State.mbox, State.updMb, vget_vset_of_ne _ _ e]
@[simp] theorem State.takeOff_mb_done (op : Nat) (m : MbCmd) (s : State) (k : Fin 8) : ((s.takeOff op m).mbox k).done = (s.mbox k).done := by
  obtain ⟨_, _, _, h⟩ := s.takeOff_cases op m
  rw [h]
  by_cases e : m.mb = k
  · subst e; simp [State.mbox, State.updMb]
  · simp [State.mbox, State.updMb, vget_vset_of_ne _ _ e]
@[simp] theorem State.takeOff_mb_working (op : Nat) (m : MbCmd) (s : State) (k : Fin 8) : ((s.takeOff op m).mbox k).working = (s.mbox k).working := by
  obtain ⟨_, _, _, h⟩ := s.takeOff_cases op m
  rw [h]
  by_cases e : m.mb = k
  · subst e; simp [State.mbox, State.updMb]
  · simp [State.mbox, State.updMb, vget_vset_of_ne _ _ e]
@[simp] theorem State.takeOff_mb_lost (op : Nat) (m : MbCmd) (s : State) (k : Fin 8) : ((s.takeOff op m).mbox k).lost = (s.mbox k).lost := by
  obtain ⟨_, _, _, h⟩ := s.takeOff_cases op m
  rw [h]
  by_cases e : m.mb = k
  · subst e; simp [State.mbox, State.updMb]
  · simp [State.mbox, State.updMb, vget_vset_of_ne _ _ e]
@[simp] theorem State.takeOff_mb_verify (op : Nat) (m : MbCmd) (s : State) (k : Fin 8) : ((s.takeOff op m).mbox k).verify = (s.mbox k).verify := by
  obtain ⟨_, _, _, h⟩ := s.takeOff_cases op m
  rw [h]
  by_cases e : m.mb = k
  · subst e; simp [State.mbox, State.updMb]
  · simp [State.mbox, State.updMb, vget_vset_of_ne _ _ e]
@[simp] theorem State.takeOff_mb_unacked (op : Nat) (m : MbCmd) (s : State) (k : Fin 8) : ((s.takeOff op m).mbox k).unacked = (s.mbox k).unacked := by
  obtain ⟨_, _, _, h⟩ := s.takeOff_cases op m
  rw [h]
  by_cases e : m.mb = k
  · subst e; simp [State.mbox, State.updMb]
  · simp [State.mbox, State.updMb, vget_vset_of_ne _ _ e]

@[simp] theorem State.takeOff_host_irqStat (op : Nat) (m : MbCmd) (s : State) : (s.takeOff op m).host.irqStat = s.host.irqStat := by
  obtain ⟨_, _, _, h⟩ := s.takeOff_cases op m; rw [h]; rfl
@[simp] theorem State.takeOff_host_irqEn (op : Nat) (m : MbCmd) (s : State) : (s.takeOff op m).host.irqEn = s.host.irqEn := by
  obtain ⟨_, _, _, h⟩ := s.takeOff_cases op m; rw [h]; rfl
@[simp] theorem State.takeOff_host_resetCause (op : Nat) (m : MbCmd) (s : State) : (s.takeOff op m).host.resetCause = s.host.resetCause := by
  obtain ⟨_, _, _, h⟩ := s.takeOff_cases op m; rw [h]; rfl
@[simp] theorem State.takeOff_host_resetCtl (op : Nat) (m : MbCmd) (s : State) : (s.takeOff op m).host.resetCtl = s.host.resetCtl := by
  obtain ⟨_, _, _, h⟩ := s.takeOff_cases op m; rw [h]; rfl
@[simp] theorem State.takeOff_host_winCfg (op : Nat) (m : MbCmd) (s : State) : (s.takeOff op m).host.winCfg = s.host.winCfg := by
  obtain ⟨_, _, _, h⟩ := s.takeOff_cases op m; rw [h]; rfl
@[simp] theorem State.takeOff_host_accessErr (op : Nat) (m : MbCmd) (s : State) : (s.takeOff op m).host.accessErr = s.host.accessErr := by
  obtain ⟨_, _, _, h⟩ := s.takeOff_cases op m; rw [h]; rfl
@[simp] theorem State.takeOff_host_soReq (op : Nat) (m : MbCmd) (s : State) : (s.takeOff op m).host.soReq = s.host.soReq := by
  obtain ⟨_, _, _, h⟩ := s.takeOff_cases op m; rw [h]; rfl
@[simp] theorem State.takeOff_host_cursorP (op : Nat) (m : MbCmd) (s : State) : (s.takeOff op m).host.cursorP = s.host.cursorP := by
  obtain ⟨_, _, _, h⟩ := s.takeOff_cases op m; rw [h]; rfl
@[simp] theorem State.takeOff_host_cursorF (op : Nat) (m : MbCmd) (s : State) : (s.takeOff op m).host.cursorF = s.host.cursorF := by
  obtain ⟨_, _, _, h⟩ := s.takeOff_cases op m; rw [h]; rfl
@[simp] theorem State.takeOff_host_windowP (op : Nat) (m : MbCmd) (s : State) : (s.takeOff op m).host.windowP = s.host.windowP := by
  obtain ⟨_, _, _, h⟩ := s.takeOff_cases op m; rw [h]; rfl
@[simp] theorem State.takeOff_host_windowF (op : Nat) (m : MbCmd) (s : State) : (s.takeOff op m).host.windowF = s.host.windowF := by
  obtain ⟨_, _, _, h⟩ := s.takeOff_cases op m; rw [h]; rfl
@[simp] theorem State.takeOff_host_latchP (op : Nat) (m : MbCmd) (s : State) : (s.takeOff op m).host.latchP = s.host.latchP := by
  obtain ⟨_, _, _, h⟩ := s.takeOff_cases op m; rw [h]; rfl
@[simp] theorem State.takeOff_host_latchF (op : Nat) (m : MbCmd) (s : State) : (s.takeOff op m).host.latchF = s.host.latchF := by
  obtain ⟨_, _, _, h⟩ := s.takeOff_cases op m; rw [h]; rfl
@[simp] theorem State.takeOff_host_msix (op : Nat) (m : MbCmd) (s : State) : (s.takeOff op m).host.msix = s.host.msix := by
  obtain ⟨_, _, _, h⟩ := s.takeOff_cases op m; rw [h]; rfl
@[simp] theorem State.takeOff_host_pba (op : Nat) (m : MbCmd) (s : State) : (s.takeOff op m).host.pba = s.host.pba := by
  obtain ⟨_, _, _, h⟩ := s.takeOff_cases op m; rw [h]; rfl
@[simp] theorem State.takeOff_host_sentIrq (op : Nat) (m : MbCmd) (s : State) : (s.takeOff op m).host.sentIrq = s.host.sentIrq := by
  obtain ⟨_, _, _, h⟩ := s.takeOff_cases op m; rw [h]; rfl
@[simp] theorem State.takeOff_host_txOff (op : Nat) (m : MbCmd) (s : State) : (s.takeOff op m).host.txOff = s.host.txOff := by
  obtain ⟨_, _, _, h⟩ := s.takeOff_cases op m; rw [h]; rfl
@[simp] theorem State.takeOff_host_hlim (op : Nat) (m : MbCmd) (s : State) : (s.takeOff op m).host.hlim = s.host.hlim := by
  obtain ⟨_, _, _, h⟩ := s.takeOff_cases op m; rw [h]; rfl
@[simp] theorem State.takeOff_host_pwEng (op : Nat) (m : MbCmd) (s : State) : (s.takeOff op m).host.pwEng = s.host.pwEng := by
  obtain ⟨_, _, _, h⟩ := s.takeOff_cases op m; rw [h]; rfl
@[simp] theorem State.takeOff_host_pwSaf (op : Nat) (m : MbCmd) (s : State) : (s.takeOff op m).host.pwSaf = s.host.pwSaf := by
  obtain ⟨_, _, _, h⟩ := s.takeOff_cases op m; rw [h]; rfl
@[simp] theorem State.takeOff_host_failEng (op : Nat) (m : MbCmd) (s : State) : (s.takeOff op m).host.failEng = s.host.failEng := by
  obtain ⟨_, _, _, h⟩ := s.takeOff_cases op m; rw [h]; rfl
@[simp] theorem State.takeOff_host_failSaf (op : Nat) (m : MbCmd) (s : State) : (s.takeOff op m).host.failSaf = s.host.failSaf := by
  obtain ⟨_, _, _, h⟩ := s.takeOff_cases op m; rw [h]; rfl
@[simp] theorem State.takeOff_host_lockEng (op : Nat) (m : MbCmd) (s : State) : (s.takeOff op m).host.lockEng = s.host.lockEng := by
  obtain ⟨_, _, _, h⟩ := s.takeOff_cases op m; rw [h]; rfl
@[simp] theorem State.takeOff_host_lockSaf (op : Nat) (m : MbCmd) (s : State) : (s.takeOff op m).host.lockSaf = s.host.lockSaf := by
  obtain ⟨_, _, _, h⟩ := s.takeOff_cases op m; rw [h]; rfl
@[simp] theorem State.takeOff_host_sessions (op : Nat) (m : MbCmd) (s : State) : (s.takeOff op m).host.sessions = s.host.sessions := by
  obtain ⟨_, _, _, h⟩ := s.takeOff_cases op m; rw [h]; rfl
@[simp] theorem State.takeOff_host_linkSpeed (op : Nat) (m : MbCmd) (s : State) : (s.takeOff op m).host.linkSpeed = s.host.linkSpeed := by
  obtain ⟨_, _, _, h⟩ := s.takeOff_cases op m; rw [h]; rfl
@[simp] theorem State.takeOff_host_linkWidth (op : Nat) (m : MbCmd) (s : State) : (s.takeOff op m).host.linkWidth = s.host.linkWidth := by
  obtain ⟨_, _, _, h⟩ := s.takeOff_cases op m; rw [h]; rfl
@[simp] theorem State.takeOff_host_pcieReset (op : Nat) (m : MbCmd) (s : State) : (s.takeOff op m).host.pcieReset = s.host.pcieReset := by
  obtain ⟨_, _, _, h⟩ := s.takeOff_cases op m; rw [h]; rfl
@[simp] theorem State.takeOff_host_d3hot (op : Nat) (m : MbCmd) (s : State) : (s.takeOff op m).host.d3hot = s.host.d3hot := by
  obtain ⟨_, _, _, h⟩ := s.takeOff_cases op m; rw [h]; rfl

@[simp] theorem State.takeOff_authority (op : Nat) (m : MbCmd) (s : State) (k : Fin 8) :
    ((s.takeOff op m).mbox k).authority = (s.mbox k).authority := by
  simp [Mailbox.authority]

@[simp] theorem State.takeOff_devState (op : Nat) (m : MbCmd) (s : State) : (s.takeOff op m).devState = s.devState := by
  simp [State.devState]

@[simp] theorem State.takeOff_event (op : Nat) (m : MbCmd) (s : State) (c v r p : Nat) :
    (s.takeOff op m).event c v r p = s.event c v r p := by
  simp [State.event]

/-! ### passItems: the Quire only -/

@[simp] theorem State.passItems_pending (op : Nat) (m : MbCmd) (s : State) : (s.passItems op m).pending = s.pending := rfl
@[simp] theorem State.passItems_now (op : Nat) (m : MbCmd) (s : State) : (s.passItems op m).now = s.now := rfl
@[simp] theorem State.passItems_timers (op : Nat) (m : MbCmd) (s : State) : (s.passItems op m).timers = s.timers := rfl
@[simp] theorem State.passItems_rings (op : Nat) (m : MbCmd) (s : State) : (s.passItems op m).rings = s.rings := rfl
@[simp] theorem State.passItems_chan (op : Nat) (m : MbCmd) (s : State) : (s.passItems op m).chan = s.chan := rfl
@[simp] theorem State.passItems_group (op : Nat) (m : MbCmd) (s : State) : (s.passItems op m).group = s.group := rfl
@[simp] theorem State.passItems_die (op : Nat) (m : MbCmd) (s : State) : (s.passItems op m).die = s.die := rfl
@[simp] theorem State.passItems_nibs (op : Nat) (m : MbCmd) (s : State) : (s.passItems op m).nibs = s.nibs := rfl
@[simp] theorem State.passItems_slot (op : Nat) (m : MbCmd) (s : State) : (s.passItems op m).slot = s.slot := rfl
@[simp] theorem State.passItems_pounce (op : Nat) (m : MbCmd) (s : State) : (s.passItems op m).pounce = s.pounce := rfl
@[simp] theorem State.passItems_ink (op : Nat) (m : MbCmd) (s : State) : (s.passItems op m).ink = s.ink := rfl
@[simp] theorem State.passItems_axis (op : Nat) (m : MbCmd) (s : State) : (s.passItems op m).axis = s.axis := rfl
@[simp] theorem State.passItems_linear (op : Nat) (m : MbCmd) (s : State) : (s.passItems op m).linear = s.linear := rfl
@[simp] theorem State.passItems_margin (op : Nat) (m : MbCmd) (s : State) : (s.passItems op m).margin = s.margin := rfl
@[simp] theorem State.passItems_host (op : Nat) (m : MbCmd) (s : State) : (s.passItems op m).host = s.host := rfl
@[simp] theorem State.passItems_folio (op : Nat) (m : MbCmd) (s : State) : (s.passItems op m).folio = s.folio := rfl
@[simp] theorem State.passItems_fab (op : Nat) (m : MbCmd) (s : State) : (s.passItems op m).fab = s.fab := rfl
@[simp] theorem State.passItems_tb (op : Nat) (m : MbCmd) (s : State) : (s.passItems op m).tb = s.tb := rfl
@[simp] theorem State.passItems_vel (op : Nat) (m : MbCmd) (s : State) : (s.passItems op m).vel = s.vel := rfl
@[simp] theorem State.passItems_blot (op : Nat) (m : MbCmd) (s : State) : (s.passItems op m).blot = s.blot := rfl
@[simp] theorem State.passItems_rst (op : Nat) (m : MbCmd) (s : State) : (s.passItems op m).rst = s.rst := rfl
@[simp] theorem State.passItems_ch (op : Nat) (m : MbCmd) (s : State) (i : Fin 256) : (s.passItems op m).ch i = s.ch i := rfl
@[simp] theorem State.passItems_grp (op : Nat) (m : MbCmd) (s : State) (i : Fin 16) : (s.passItems op m).grp i = s.grp i := rfl
@[simp] theorem State.passItems_dieOf (op : Nat) (m : MbCmd) (s : State) (i : Fin 4) : (s.passItems op m).dieOf i = s.dieOf i := rfl
@[simp] theorem State.passItems_unit (op : Nat) (m : MbCmd) (s : State) (i : Fin 32) : (s.passItems op m).unit i = s.unit i := rfl
@[simp] theorem State.passItems_ax (op : Nat) (m : MbCmd) (s : State) (i : Fin 8) : (s.passItems op m).ax i = s.ax i := rfl
@[simp] theorem State.passItems_slotOf (op : Nat) (m : MbCmd) (s : State) (i : Fin 1024) : (s.passItems op m).slotOf i = s.slotOf i := rfl
@[simp] theorem State.passItems_mbox (op : Nat) (m : MbCmd) (s : State) (i : Fin 8) : (s.passItems op m).mbox i = s.mbox i := rfl
@[simp] theorem State.passItems_port (op : Nat) (m : MbCmd) (s : State) (i : Fin 4) : (s.passItems op m).port i = s.port i := rfl
@[simp] theorem State.passItems_nibOf (op : Nat) (m : MbCmd) (s : State) (i : Fin 20) : (s.passItems op m).nibOf i = s.nibOf i := rfl
@[simp] theorem State.passItems_stream (op : Nat) (m : MbCmd) (s : State) (i : Fin 4) : (s.passItems op m).stream i = s.stream i := rfl
@[simp] theorem State.passItems_chv (op : Nat) (m : MbCmd) (s : State) (i : Fin 256) : (s.passItems op m).chv i = s.chv i := rfl

/-! ### run -/

/-- A command of its turn that passes the checks does its own part. -/
theorem Hdr.run_own {h : Hdr} {own : MbCmd → State → Verdict} {m : MbCmd} {s : State} (ht : Turn h.opcode m s)
    (hc : h.check m (s.takeOff h.opcode m) = none) :
    h.run own m s = h.conclude m (s.takeOff h.opcode m) (own m (s.takeOff h.opcode m)) := by
  obtain ⟨a, b, c, _, _⟩ := ht
  simp [Hdr.run, a, b, c, hc]

/-- A command of its turn that a check refuses is answered with the refusal. -/
theorem Hdr.run_refused {h : Hdr} {own : MbCmd → State → Verdict} {m : MbCmd} {s : State} {st d : Nat} (ht : Turn h.opcode m s)
    (hc : h.check m (s.takeOff h.opcode m) = some (st, d)) :
    h.run own m s = (s.takeOff h.opcode m).respond m.mb (answerTo m st (h.stateCode m (s.takeOff h.opcode m)) d []) := by
  obtain ⟨a, b, c, _, _⟩ := ht
  simp [Hdr.run, a, b, c, hc, Hdr.conclude]

/-- The checks pass: length, target, authority and quota (R346), for a mailbox that a session serves. -/
theorem Hdr.check_none {h : Hdr} {m : MbCmd} {s : State} (hl : s.folio.loader = none) (hlen : h.lenOk m = true)
    (hf : m.flags.toNat / 2 = 0) (hr : m.rsvd = 0) (ht : h.targetOk m = true) (ha : h.auth m ≤ (s.mbox m.mb).authority)
    (hq : h.items m s ≤ s.quire.quotaFree m.mb) : h.check m s = none := by
  have ha' : ¬ (s.mbox m.mb).authority < h.auth m := by omega
  have hq' : ¬ s.quire.quotaFree m.mb < h.items m s := by omega
  simp [Hdr.check, hl, hlen, hf, hr, ht, ha', hq']

/-- A granted command does its own part. -/
theorem Hdr.run_granted {h : Hdr} {own : MbCmd → State → Verdict} {m : MbCmd} {s : State} (hg : Granted h.opcode (h.auth m) m s)
    (hlen : h.lenOk m = true) (ht : h.targetOk m = true)
    (hq : h.items m (s.takeOff h.opcode m) ≤ (s.takeOff h.opcode m).quire.quotaFree m.mb) :
    h.run own m s = h.conclude m (s.takeOff h.opcode m) (own m (s.takeOff h.opcode m)) := by
  obtain ⟨hT, hl, ha⟩ := hg
  exact Hdr.run_own hT (Hdr.check_none (by simpa using hl) hlen hT.2.2.2.1 hT.2.2.2.2 ht (by simpa using ha) hq)

/-- A granted command without posts does its own part. -/
theorem Hdr.run_granted' {h : Hdr} {own : MbCmd → State → Verdict} {m : MbCmd} {s : State} (hg : Granted h.opcode (h.auth m) m s)
    (hlen : h.lenOk m = true) (ht : h.targetOk m = true) (hq : ∀ t, h.items m t = 0) :
    h.run own m s = h.conclude m (s.takeOff h.opcode m) (own m (s.takeOff h.opcode m)) :=
  Hdr.run_granted hg hlen ht (by rw [hq]; omega)

/-- A command that the loader serves too does its own part (R464). -/
theorem Hdr.run_loader {h : Hdr} {own : MbCmd → State → Verdict} {m : MbCmd} {s : State} (hT : Turn h.opcode m s)
    (hL : h.loader = true) (ha : s.folio.loader = none → h.auth m ≤ (s.mbox m.mb).authority)
    (hlen : h.lenOk m = true) (ht : h.targetOk m = true) (hq : ∀ t, h.items m t = 0) :
    h.run own m s = h.conclude m (s.takeOff h.opcode m) (own m (s.takeOff h.opcode m)) := by
  apply Hdr.run_own hT
  obtain ⟨_, _, _, hf, hr⟩ := hT
  have ha' : ¬ (s.folio.loader = none ∧ (s.mbox m.mb).authority < h.auth m) := by
    intro ⟨x, y⟩
    have := ha x
    omega
  simp [Hdr.check, hlen, hf, hr, ht, hq, hL, ha']

/-! ### Targets and lengths (R359, R361) -/

theorem lenIs_of {n : Nat} {m : MbCmd} (h : m.length = BitVec.ofNat 16 n) (hn : n < 65536) : lenIs n m = true := by
  simp [lenIs, h, Nat.mod_eq_of_lt hn]

theorem form_of {f r : Nat} (hf : f < 8) (hr : r < 1024) :
    bits (BitVec.ofNat 32 (0x10000000 * f + r)) 31 28 = f ∧ bits (BitVec.ofNat 32 (0x10000000 * f + r)) 27 0 = r := by
  simp only [bits, BitVec.toNat_ofNat]
  omega

theorem tgtOf_zero : tgtOf 0 = .none := by decide

theorem tgtOf_chTarget (n : Fin 256) : tgtOf (chTarget n) = .channel n := by
  obtain ⟨h1, h2⟩ := form_of (f := 1) (r := n.val) (by omega) (by omega)
  simp only [chTarget, tgtOf] at *
  simp only [Nat.mul_one] at h1 h2
  simp [h1, h2]

theorem tgtOf_axTarget (n : Fin 8) : tgtOf (axTarget n) = .axis n := by
  obtain ⟨h1, h2⟩ := form_of (f := 3) (r := n.val) (by omega) (by omega)
  norm_num at h1 h2
  simp [axTarget, tgtOf, h1, h2]

theorem tgtOf_unitTarget (n : Fin 32) : tgtOf (unitTarget n) = .unit n := by
  obtain ⟨h1, h2⟩ := form_of (f := 5) (r := n.val) (by omega) (by omega)
  norm_num at h1 h2
  simp [unitTarget, tgtOf, h1, h2]

theorem tgtOf_slotTarget (n : Fin 1024) : tgtOf (slotTarget n) = .slot n := by
  obtain ⟨h1, h2⟩ := form_of (f := 6) (r := n.val) (by omega) (by omega)
  norm_num at h1 h2
  simp [slotTarget, tgtOf, h1, h2]

theorem tgtOf_indexTarget (n : Fin 256) : tgtOf (indexTarget n) = .index n.val := by
  obtain ⟨h1, h2⟩ := form_of (f := 7) (r := n.val) (by omega) (by omega)
  norm_num at h1 h2
  simp [indexTarget, tgtOf, h1, h2]

theorem form_targets (c : Fin 256) (a : Fin 8) (u : Fin 32) (k : Fin 1024) :
    bits (chTarget c) 31 28 = 1 ∧ bits (axTarget a) 31 28 = 3 ∧ bits (unitTarget u) 31 28 = 5 ∧ bits (slotTarget k) 31 28 = 6
      ∧ bits (indexTarget c) 31 28 = 7 := by
  have h1 := (form_of (f := 1) (r := c.val) (by omega) (by omega)).1
  have h3 := (form_of (f := 3) (r := a.val) (by omega) (by omega)).1
  have h5 := (form_of (f := 5) (r := u.val) (by omega) (by omega)).1
  have h6 := (form_of (f := 6) (r := k.val) (by omega) (by omega)).1
  have h7 := (form_of (f := 7) (r := c.val) (by omega) (by omega)).1
  norm_num at h1 h3 h5 h6 h7
  exact ⟨h1, h3, h5, h6, h7⟩

/-- A command without a target whose opcode takes form NONE. -/
theorem Hdr.targetOk_none {h : Hdr} {m : MbCmd} (ht : m.target = 0) (hf : h.forms.contains 0 = true) : h.targetOk m = true := by
  have b : bits (0 : Word) 31 28 = 0 := by decide
  simp only [Hdr.targetOk, ht, b, hf, tgtOf_zero, Bool.and_self]

theorem Hdr.targetOk_ch {h : Hdr} {m : MbCmd} {n : Fin 256} (ht : m.target = chTarget n) (hf : h.forms.contains 1 = true) :
    h.targetOk m = true := by
  simp only [Hdr.targetOk, ht, (form_targets n 0 0 0).1, hf, tgtOf_chTarget, Bool.and_self]

theorem Hdr.targetOk_ax {h : Hdr} {m : MbCmd} {a : Fin 8} (ht : m.target = axTarget a) (hf : h.forms.contains 3 = true) :
    h.targetOk m = true := by
  simp only [Hdr.targetOk, ht, (form_targets 0 a 0 0).2.1, hf, tgtOf_axTarget, Bool.and_self]

theorem Hdr.targetOk_unit {h : Hdr} {m : MbCmd} {u : Fin 32} (ht : m.target = unitTarget u) (hf : h.forms.contains 5 = true) :
    h.targetOk m = true := by
  simp only [Hdr.targetOk, ht, (form_targets 0 0 u 0).2.2.1, hf, tgtOf_unitTarget, Bool.and_self]

theorem Hdr.targetOk_slot {h : Hdr} {m : MbCmd} {k : Fin 1024} (ht : m.target = slotTarget k) (hf : h.forms.contains 6 = true) :
    h.targetOk m = true := by
  simp only [Hdr.targetOk, ht, (form_targets 0 0 0 k).2.2.2.1, hf, tgtOf_slotTarget, Bool.and_self]

theorem Hdr.targetOk_index {h : Hdr} {m : MbCmd} {i : Fin 256} (ht : m.target = indexTarget i) (hf : h.forms.contains 7 = true)
    (hi : h.index i.val = true) : h.targetOk m = true := by
  simp only [Hdr.targetOk, ht, (form_targets i 0 0 0).2.2.2.2, hf, tgtOf_indexTarget, hi, Bool.and_self]

/-- STATE of the response by the target's form (R360). -/
theorem Hdr.stateCode_none {h : Hdr} {m : MbCmd} {s : State} (ht : m.target = 0) (ho : h.opcode / 256 ≠ 9) : h.stateCode m s = 0 := by
  simp only [Hdr.stateCode, ht, tgtOf_zero, ho, if_false, ite_self]

theorem Hdr.stateCode_safety {h : Hdr} {m : MbCmd} {s : State} (ho : h.opcode / 256 = 9) : h.stateCode m s = s.margin.state.code := by
  simp [Hdr.stateCode, ho]

theorem Hdr.stateCode_ch {h : Hdr} {m : MbCmd} {s : State} {n : Fin 256} (ht : m.target = chTarget n) (ho : h.opcode / 256 ≠ 9)
    (hf : h.forms.contains 1 = true) : h.stateCode m s = (s.ch n).state.code := by
  simp only [Hdr.stateCode, ht, tgtOf_chTarget, (form_targets n 0 0 0).1, hf, ho, if_true, if_false]

theorem Hdr.stateCode_ax {h : Hdr} {m : MbCmd} {s : State} {a : Fin 8} (ht : m.target = axTarget a) (ho : h.opcode / 256 ≠ 9)
    (hf : h.forms.contains 3 = true) : h.stateCode m s = (s.ax a).state.code := by
  simp only [Hdr.stateCode, ht, tgtOf_axTarget, (form_targets 0 a 0 0).2.1, hf, ho, if_true, if_false]

theorem Hdr.stateCode_unit {h : Hdr} {m : MbCmd} {s : State} {u : Fin 32} (ht : m.target = unitTarget u) (ho : h.opcode / 256 ≠ 9)
    (hf : h.forms.contains 5 = true) : h.stateCode m s = (s.unit u).state.code := by
  simp only [Hdr.stateCode, ht, tgtOf_unitTarget, (form_targets 0 0 u 0).2.2.1, hf, ho, if_true, if_false]

theorem Hdr.stateCode_slot {h : Hdr} {m : MbCmd} {s : State} {k : Fin 1024} (ht : m.target = slotTarget k) (ho : h.opcode / 256 ≠ 9)
    (hf : h.forms.contains 6 = true) : h.stateCode m s = (s.slotOf k).state.code := by
  simp only [Hdr.stateCode, ht, tgtOf_slotTarget, (form_targets 0 0 0 k).2.2.2.1, hf, ho, if_true, if_false]

theorem Hdr.stateCode_index {h : Hdr} {m : MbCmd} {s : State} {i : Fin 256} (ht : m.target = indexTarget i) (ho : h.opcode / 256 ≠ 9) :
    h.stateCode m s = 0 := by
  simp only [Hdr.stateCode, ht, tgtOf_indexTarget, ho, if_false, ite_self]

/-! ### Verdicts -/

@[simp] theorem Hdr.conclude_refuse (h : Hdr) (m : MbCmd) (s : State) (st d : Nat) (p : Block) :
    h.conclude m s (.refuse st d p) = s.respond m.mb (answerTo m st (h.stateCode m s) d p) := rfl

@[simp] theorem Hdr.conclude_refuseIn (h : Hdr) (m : MbCmd) (s t : State) (st d : Nat) (p : Block) :
    h.conclude m s (.refuseIn t st d p) = t.respond m.mb (answerTo m st (h.stateCode m t) d p) := rfl

@[simp] theorem Hdr.conclude_done (h : Hdr) (m : MbCmd) (s t : State) (d : Nat) (p : Block) :
    h.conclude m s (.done t d p) = (t.passItems h.opcode m).respond m.mb (answerTo m RC_OK (h.stateCode m t) d p) := rfl

@[simp] theorem Hdr.conclude_accepted (h : Hdr) (m : MbCmd) (s t : State) (st : Nat) (p : Block) :
    h.conclude m s (.accepted t st p) = (t.passItems h.opcode m).respond m.mb (answerTo m RC_OK st 0 p) := rfl

@[simp] theorem Hdr.conclude_hold (h : Hdr) (m : MbCmd) (s t : State) :
    h.conclude m s (.hold t) = t.updMb m.mb fun b => { b with working := b.working + 1 } := rfl

theorem reserved_none {m : MbCmd} {masks : List (Nat × Nat)} {k : Verdict} (h : NoReserved m masks) : reserved m masks k = k := by
  unfold NoReserved at h
  simp [reserved, h]

/-! ### respond -/

/-- A response joins its mailbox's completed responses (R344, R346). -/
theorem State.respond_of_open {k : Fin 8} {s : State} (r : Response) (h : (s.mbox k).discard = 0) :
    s.respond k r = s.updMb k fun b => { b with done := b.done ++ [r] } := by
  simp [State.respond, h]

@[simp] theorem State.respond_pending (k : Fin 8) (r : Response) (s : State) : (s.respond k r).pending = s.pending := by
  unfold State.respond; simp only []; split <;> rfl
@[simp] theorem State.respond_now (k : Fin 8) (r : Response) (s : State) : (s.respond k r).now = s.now := by
  unfold State.respond; simp only []; split <;> rfl
@[simp] theorem State.respond_timers (k : Fin 8) (r : Response) (s : State) : (s.respond k r).timers = s.timers := by
  unfold State.respond; simp only []; split <;> rfl
@[simp] theorem State.respond_rings (k : Fin 8) (r : Response) (s : State) : (s.respond k r).rings = s.rings := by
  unfold State.respond; simp only []; split <;> rfl
@[simp] theorem State.respond_chan (k : Fin 8) (r : Response) (s : State) : (s.respond k r).chan = s.chan := by
  unfold State.respond; simp only []; split <;> rfl
@[simp] theorem State.respond_group (k : Fin 8) (r : Response) (s : State) : (s.respond k r).group = s.group := by
  unfold State.respond; simp only []; split <;> rfl
@[simp] theorem State.respond_die (k : Fin 8) (r : Response) (s : State) : (s.respond k r).die = s.die := by
  unfold State.respond; simp only []; split <;> rfl
@[simp] theorem State.respond_nibs (k : Fin 8) (r : Response) (s : State) : (s.respond k r).nibs = s.nibs := by
  unfold State.respond; simp only []; split <;> rfl
@[simp] theorem State.respond_slot (k : Fin 8) (r : Response) (s : State) : (s.respond k r).slot = s.slot := by
  unfold State.respond; simp only []; split <;> rfl
@[simp] theorem State.respond_quire (k : Fin 8) (r : Response) (s : State) : (s.respond k r).quire = s.quire := by
  unfold State.respond; simp only []; split <;> rfl
@[simp] theorem State.respond_pounce (k : Fin 8) (r : Response) (s : State) : (s.respond k r).pounce = s.pounce := by
  unfold State.respond; simp only []; split <;> rfl
@[simp] theorem State.respond_ink (k : Fin 8) (r : Response) (s : State) : (s.respond k r).ink = s.ink := by
  unfold State.respond; simp only []; split <;> rfl
@[simp] theorem State.respond_axis (k : Fin 8) (r : Response) (s : State) : (s.respond k r).axis = s.axis := by
  unfold State.respond; simp only []; split <;> rfl
@[simp] theorem State.respond_linear (k : Fin 8) (r : Response) (s : State) : (s.respond k r).linear = s.linear := by
  unfold State.respond; simp only []; split <;> rfl
@[simp] theorem State.respond_margin (k : Fin 8) (r : Response) (s : State) : (s.respond k r).margin = s.margin := by
  unfold State.respond; simp only []; split <;> rfl
@[simp] theorem State.respond_folio (k : Fin 8) (r : Response) (s : State) : (s.respond k r).folio = s.folio := by
  unfold State.respond; simp only []; split <;> rfl
@[simp] theorem State.respond_fab (k : Fin 8) (r : Response) (s : State) : (s.respond k r).fab = s.fab := by
  unfold State.respond; simp only []; split <;> rfl
@[simp] theorem State.respond_tb (k : Fin 8) (r : Response) (s : State) : (s.respond k r).tb = s.tb := by
  unfold State.respond; simp only []; split <;> rfl
@[simp] theorem State.respond_vel (k : Fin 8) (r : Response) (s : State) : (s.respond k r).vel = s.vel := by
  unfold State.respond; simp only []; split <;> rfl
@[simp] theorem State.respond_rst (k : Fin 8) (r : Response) (s : State) : (s.respond k r).rst = s.rst := by
  unfold State.respond; simp only []; split <;> rfl

end Sys2Proof.Machine
end

