-- ==== Sys2Proof/Laws/Memory.lean ====
section
/-! SUPPORT. The BAR2 memory: a read after a write, what a write leaves, and that every memory operation keeps the canonical form. -/

namespace Sys2Proof.Machine

theorem Memory.wfFrom_mono {lo hi : Nat} {m : Memory} (h : Memory.wfFrom hi m = true) (hl : lo ≤ hi) : Memory.wfFrom lo m = true := by
  cases m with
  | nil => rfl
  | cons c m =>
    simp only [Memory.wfFrom, Bool.and_eq_true, decide_eq_true_eq] at h ⊢
    exact ⟨⟨le_trans hl h.1.1, h.1.2⟩, h.2⟩

/-- An address below every listed one reads as an unlisted one. -/
theorem memRead_below {lo a : Nat} {m : Memory} (h : Memory.wfFrom lo m = true) (ha : a < lo) : memRead a m = memDefault := by
  cases m with
  | nil => rfl
  | cons c m =>
    simp only [Memory.wfFrom, Bool.and_eq_true, decide_eq_true_eq] at h
    simp only [memRead]
    rw [if_neg (by omega), if_pos (by omega)]

/-- A write keeps the form above any bound that it respects. -/
theorem memWrite_wfFrom {lo a : Nat} (v : Byte) {m : Memory} (h : Memory.wfFrom lo m = true) (ha : lo ≤ a) :
    Memory.wfFrom lo (memWrite a v m) = true := by
  induction m generalizing lo with
  | nil =>
    unfold memWrite
    split
    · rfl
    · simp_all [Memory.wfFrom]
  | cons c m ih =>
    obtain ⟨b, x⟩ := c
    simp only [Memory.wfFrom, Bool.and_eq_true, decide_eq_true_eq] at h
    unfold memWrite
    split
    · split
      · simp only [Memory.wfFrom, Bool.and_eq_true, decide_eq_true_eq]
        exact h
      · rename_i hb hv
        simp only [Memory.wfFrom, Bool.and_eq_true, decide_eq_true_eq]
        exact ⟨⟨ha, hv⟩, ⟨by omega, h.1.2⟩, h.2⟩
    · split
      · split
        · exact Memory.wfFrom_mono h.2 (by omega)
        · rename_i hv
          subst_vars
          simp only [Memory.wfFrom, Bool.and_eq_true, decide_eq_true_eq]
          exact ⟨⟨ha, hv⟩, h.2⟩
      · simp only [Memory.wfFrom, Bool.and_eq_true, decide_eq_true_eq]
        exact ⟨h.1, ih h.2 (by omega)⟩

/-- A write keeps the canonical form. -/
theorem memWrite_wf (a : Nat) (v : Byte) {m : Memory} (h : m.wf = true) : (memWrite a v m).wf = true :=
  memWrite_wfFrom v h (Nat.zero_le a)

/-- Writing bytes keeps the canonical form. -/
theorem memWriteBytes_wf (vs : List Byte) : ∀ (a : Nat) {m : Memory}, m.wf = true → (memWriteBytes a vs m).wf = true := by
  induction vs with
  | nil => intro a m h; exact h
  | cons v vs ih => intro a m h; exact ih (a + 1) (memWrite_wf a v h)

/-- A read after a write, above a bound. -/
theorem memRead_memWrite_from {lo a c : Nat} (v : Byte) {m : Memory} (h : Memory.wfFrom lo m = true) :
    memRead c (memWrite a v m) = if c = a then v else memRead c m := by
  induction m generalizing lo with
  | nil =>
    unfold memWrite
    split <;> by_cases hc : c = a <;> simp_all [memRead]
  | cons d m ih =>
    obtain ⟨b, x⟩ := d
    simp only [Memory.wfFrom, Bool.and_eq_true, decide_eq_true_eq] at h
    by_cases hca : c = a
    · subst hca
      rw [if_pos rfl]
      unfold memWrite
      split
      · split
        · rename_i hv
          simp only [memRead]
          rw [if_neg (by omega), if_pos (by omega), hv]
        · simp [memRead]
      · split
        · split
          · rename_i hv
            rw [memRead_below h.2 (by omega), hv]
          · simp [memRead]
        · simp only [memRead]
          rw [if_neg (by omega), if_neg (by omega), ih h.2, if_pos rfl]
    · rw [if_neg hca]
      unfold memWrite
      split
      · split
        · rfl
        · simp only [memRead]
          rw [if_neg hca]
          split
          · rw [if_neg (by omega), if_pos (by omega)]
          · rfl
      · split
        · subst_vars
          split
          · simp only [memRead]
            rw [if_neg hca]
            split
            · rw [memRead_below h.2 (by omega)]
            · rfl
          · simp only [memRead]
            rw [if_neg hca, if_neg hca]
        · simp only [memRead]
          split
          · rfl
          · split
            · rfl
            · rw [ih h.2, if_neg hca]

/-- A read after a write of one byte of canonical memory. -/
theorem memRead_memWrite (a c : Nat) (v : Byte) {m : Memory} (h : m.wf = true) :
    memRead c (memWrite a v m) = if c = a then v else memRead c m :=
  memRead_memWrite_from v h

/-- A read after a write of bytes: inside them the byte written, outside what was there. -/
theorem memRead_memWriteBytes (vs : List Byte) : ∀ (a c : Nat) {m : Memory}, m.wf = true →
    memRead c (memWriteBytes a vs m) = if a ≤ c ∧ c < a + vs.length then vs.getD (c - a) 0 else memRead c m := by
  induction vs with
  | nil => intro a c m _; simp [memWriteBytes]
  | cons v vs ih =>
    intro a c m h
    rw [memWriteBytes, ih (a + 1) c (memWrite_wf a v h), memRead_memWrite a c v h]
    by_cases h1 : a + 1 ≤ c ∧ c < a + 1 + vs.length
    · rw [if_pos h1, if_pos (by simp only [List.length_cons]; omega)]
      obtain ⟨k, hk⟩ : ∃ k, c - a = k + 1 := ⟨c - a - 1, by omega⟩
      rw [hk, List.getD_cons_succ]
      congr 1
      omega
    · rw [if_neg h1]
      by_cases h2 : c = a
      · subst h2
        simp
      · rw [if_neg h2, if_neg (by simp only [List.length_cons]; omega)]

end Sys2Proof.Machine
end

