-- ==== Sys2Proof/Laws/Wire.lean ====
section
/-! SUPPORT. Bytes and words of frames: a word is the four bytes it is laid out in, a payload reads back as the words it was made from,
and a sealed header passes its CRC (R8, R381). -/

namespace Sys2Proof

open Sys2Proof.Machine

/-- A word reads back from its bytes. -/
@[simp] theorem Machine.bytesWord_wordBytes (w : Word) : bytesWord (wordBytes w) = w := by
  have h := w.isLt
  apply BitVec.eq_of_toNat_eq
  simp only [wordBytes, List.range, List.range.loop, List.map_cons, List.map_nil, bytesWord, w32, BitVec.toNat_ofNat]
  omega

@[simp] theorem Machine.wordBytes_length (w : Word) : (wordBytes w).length = 4 := by simp [wordBytes]

@[simp] theorem Machine.blockBytes_length (b : Block) : (blockBytes b).length = 4 * b.length := by
  induction b with
  | nil => rfl
  | cons w b ih =>
    simp only [blockBytes, List.flatMap_cons, List.length_append, wordBytes_length, List.length_cons] at ih ⊢
    omega

/-- A block reads back from its bytes, whatever follows them. -/
theorem Machine.bytesBlock_blockBytes (b : Block) (r : List Byte) : bytesBlock b.length (blockBytes b ++ r) = b := by
  induction b with
  | nil => rfl
  | cons w b ih =>
    have e : blockBytes (w :: b) ++ r = wordBytes w ++ (blockBytes b ++ r) := by simp [blockBytes]
    have t : (wordBytes w ++ (blockBytes b ++ r)).take 4 = wordBytes w := by
      rw [List.take_append_of_le_length (by simp), List.take_of_length_le (by simp)]
    have d : (wordBytes w ++ (blockBytes b ++ r)).drop 4 = blockBytes b ++ r := by
      rw [List.drop_append_of_le_length (by simp), List.drop_of_length_le (by simp), List.nil_append]
    rw [e, List.length_cons, bytesBlock, t, d, ih, Machine.bytesWord_wordBytes]

/-- A sealed header passes its CRC. -/
@[simp] theorem Frame.seal_hcrcOk (f : Frame) : f.seal.hcrcOk = true := by simp [Frame.seal, Frame.hcrcOk, Frame.header]

/-- The payload of a frame whose bytes begin with a whole number of words. -/
theorem Frame.payload_words (f : Frame) (b : Block) (r : List Byte) (hl : f.len = 4 * b.length) (hb : f.bytes = blockBytes b ++ r) :
    f.payload = b := by
  have t : (blockBytes b ++ r).take (4 * b.length) = blockBytes b ++ [] := by
    rw [List.take_append_of_le_length (by simp), List.take_of_length_le (by simp), List.append_nil]
  rw [Frame.payload, hl, hb, t, show (4 * b.length + 3) / 4 = b.length by omega, Machine.bytesBlock_blockBytes]

/-- A frame of the device carries the words it was given. -/
theorem Machine.State.ownFrame_payload (s : State) (typ : Nat) (dst : BitVec 16) (resp err : Bool) (b : Block) :
    (s.ownFrame typ dst resp err b (4 * b.length)).payload = b := by
  refine Frame.payload_words _ b (List.replicate (30 - 4 * b.length) 0) rfl ?_
  have t : (blockBytes b).take (4 * b.length) = blockBytes b := List.take_of_length_le (by simp)
  simp only [State.ownFrame, Frame.seal, padded, t, Machine.blockBytes_length]

end Sys2Proof
end

