-- ==== Sys2Proof/Tests/Base.lean ====
section
/-! SUPPORT. Small states and commands for the tests and the witnesses. -/

namespace Sys2Proof.Tests

open Sys2Proof.Machine Sys2Proof.Safety

/-- The block after its boot: the Folio serves the mailboxes and the PCIe endpoint is out of reset. -/
def up : State :=
  { State.reset with
    folio := { State.reset.folio with
      mbReady := true
      code := 2 }
    host := { State.reset.host with pcieReset := false } }

/-- `up` with a session of mailbox 0 at a level. -/
def upAt (a : Authority) : State := up.updMb 0 fun b => { b with session := some (1, a) }

/-- A command of mailbox 0: target, LENGTH and parameter words. -/
def cmd (target len : Nat) (p : Block) : MbCmd :=
  { mb := 0
    target := BitVec.ofNat 32 target
    length := BitVec.ofNat 16 len
    params := p }

/-- A block with its CRC behind it. -/
def sealed (b : Block) : Block := b ++ [crcBlock b]

/-- A channel record in the ranges of R351. -/
def goodRecord : Block :=
  sealed [420000, 250000, 5000000, 5000000, 0x40000000#32, 1280, 0x00007FFF#32, 0, 0x1FF, 0, 0, 0, 0, 0, 0]

/-- Calibration records of gain 1.0: a voltage, and the current range 0 at 1,000 µΩ. -/
def goodCalV : Block := sealed [0x40000000#32, 0, 0, 0, 0x01000000#32, 0, 0]
def goodCalI : Block := sealed [0x40000000#32, 0, 1000, 0, 0x01100000#32, 0, 0]

/-- A FIXED trailing carrier with the reset values, SHUNT 1,000 µΩ. -/
def goodCfg : Block := cfgReset.set 10 1000

/-- A coefficient set with D_MIN 0 and D_MAX 0.9375. -/
def goodSet : Block := (List.replicate 16 (0 : Word)).set 14 0x3C000000#32

/-- A step entry with its guards off, and a recipe of one REST step and an END. -/
def stepEntry (ty : Word) : Block := [ty, 0, 0, 0, 0x7FFFFFFF#32, 0x80000000#32, 0x7FFFFFFF#32, 0x7FFF] ++ List.replicate 8 (0 : Word)
def goodSlot : Slot :=
  { state := .verified
    rcpId := 7
    total := 2
    steps := [some (stepEntry 0), some (stepEntry 14)]
    crc := 9 }

/-- `upAt` with channel 0 ready to be enabled: board, delay lines, limits, calibration, coefficients and recipe. -/
def ready (a : Authority) : State :=
  (((((upAt a).updCh 0 fun c => { c with
    cfg := goodCfg
    meas := { c.meas with cal := [goodCalV, goodCalI, [], [], [], [], []] }
    sets := [some goodSet, none, none, none] }).updGrp 0 fun g => { g with
    seated := true
    busAux := 0
    hlim := some (sealed [1000, 0, 0]) }).updDie 0 fun d => { d with dlineOk := true }).updChv 0 fun v => { v with
    hlim := some goodRecord
    calib := [goodCalV, goodCalI, [], [], [], [], []] }).updSlot 0 fun _ => goodSlot

end Sys2Proof.Tests
end

