-- ==== Sys2Proof/WellFormed.lean ====
section
/-! DEFINITION. Commands whose operands lie in the ranges the spec gives them. A meaning is total and does not ask it: an ill-formed
command stands for nothing that can reach the block. -/

namespace Sys2Proof

/-- The parameters of an entry of at most 256 bytes (R344). -/
def MbCmd.wf (m : MbCmd) : Bool := decide (m.params.length ≤ 60)

/-- The header fields of R381 in their widths. -/
def Frame.wf (f : Frame) : Bool :=
  decide (f.ver < 16) && decide (f.typ < 16) && decide (f.rsvd < 64) && decide (f.hopLimit < 256) && decide (f.hops < 256)
    && decide (f.len < 2 ^ 16)

/-- The fields of a PTP message in their widths (R407). -/
def PtpMsg.wf (m : PtpMsg) : Bool :=
  decide (m.domain < 256) && decide (m.clockId < 2 ^ 64) && decide (m.portNo < 2 ^ 16) && decide (m.seqId < 2 ^ 16)
    && decide (m.priority1 < 256) && decide (m.clockClass < 256) && decide (m.accuracy < 256) && decide (m.variance < 2 ^ 16)
    && decide (m.priority2 < 256) && decide (m.grandmaster < 2 ^ 64) && decide (m.stepsRemoved < 2 ^ 16)
    && decide (-128 ≤ m.logInterval) && decide (m.logInterval < 128) && decide (m.reqId < 2 ^ 64) && decide (m.reqPort < 2 ^ 16)
    && decide (-(2 ^ 63 : Nat) ≤ m.correction) && decide (m.correction < (2 ^ 63 : Nat))
    && decide (-(2 ^ 15 : Nat) ≤ m.utcOffset) && decide (m.utcOffset < (2 ^ 15 : Nat))

/-- Codes with their over-range (R70), and the dither of −8 to +8 LSB (R71). -/
def Conversion.wf (c : Conversion) : Bool :=
  decide (-128 ≤ c.codeV) && decide (c.codeV ≤ 4224) && decide (-2176 ≤ c.codeI) && decide (c.codeI ≤ 2176)
    && decide (-128 ≤ c.ditherV) && decide (c.ditherV ≤ 128) && decide (-128 ≤ c.ditherI) && decide (c.ditherI ≤ 128)

/-- At most eight readbacks, and the edges of an interval of 1 ms in order of time (R300, R304). -/
def MarginIn.wf (m : MarginIn) : Bool :=
  decide (m.fb.length ≤ 8) && m.edges.all (fun e => decide (e.1 ≤ 1000)) && decide ((m.edges.map fun e => e.1).Pairwise (· ≤ ·))

/-- Straps of two bits (R451). -/
def StageIn.wf (x : StageIn) : Bool := decide (x.bootSrc < 4) && decide (x.clkMode < 4)

/-- Sizes of the BARs (R335). -/
def barSize : Bar → Nat
  | .bar0 => 2 ^ 16
  | .bar2 => 2 ^ 20
  | .bar4 => 2 ^ 16

/-- The operands of a command are in range. -/
def Instr.wf (i : Instr) : Bool :=
  match i with
  | .nop m => m.wf
  | .devInfo m => m.wf
  | .sessionOpen m => m.wf
  | .sessionClose m => m.wf
  | .devModeSet m => m.wf
  | .devStandby m => m.wf
  | .chConfig m => m.wf
  | .chEnable m => m.wf
  | .chDisable m => m.wf
  | .chStatus m => m.wf
  | .chClear m => m.wf
  | .chArm m => m.wf
  | .chStart m => m.wf
  | .startAtReached _ => true
  | .chHold m => m.wf
  | .chResume m => m.wf
  | .chAbort m => m.wf
  | .chStepJump m => m.wf
  | .rcpLoad m => m.wf
  | .rcpVerify m => m.wf
  | .rcpVerifyPiece _ _ => true
  | .rcpDelete m => m.wf
  | .rcpList m => m.wf
  | .loopSet m => m.wf
  | .loopGet m => m.wf
  | .tuneInject m => m.wf
  | .tuneStop m => m.wf
  | .acqConfig m => m.wf
  | .acqArm m => m.wf
  | .acqForce m => m.wf
  | .acqStop m => m.wf
  | .acqRead m => m.wf
  | .recConfig m => m.wf
  | .recStreamOpen m => m.wf
  | .recStatus m => m.wf
  | .axConfig m => m.wf
  | .axTableLoad m => m.wf
  | .axHome m => m.wf
  | .axHomeDone _ => true
  | .axMove m => m.wf
  | .axMoveLinear m => m.wf
  | .axMoveDone _ => true
  | .axStop m => m.wf
  | .axStatus m => m.wf
  | .axStandstill m => m.wf
  | .coilRampDone _ => true
  | .axIdleTimeout _ => true
  | .stepGeneratorUpdate _ => true
  | .coilEvaluation _ _ _ => true
  | .switchDebounced _ _ => true
  | .encoderEdge _ _ => true
  | .safeCfgLoad m => m.wf
  | .safeCfgAccept m => m.wf
  | .safeStatus m => m.wf
  | .safeLogRead m => m.wf
  | .safeReset m => m.wf
  | .fabDiscover m => m.wf
  | .discoveryDone => true
  | .fabAddrSet m => m.wf
  | .fabAssignTimeout => true
  | .fabRouteLoad m => m.wf
  | .fabStatus m => m.wf
  | .timeConfig m => m.wf
  | .timeSet m => m.wf
  | .timeSlew m => m.wf
  | .timeSlewDone => true
  | .timeOutConfig m => m.wf
  | .timeCaptureRead m => m.wf
  | .timeStatus m => m.wf
  | .calPoint m => m.wf
  | .calPointDone _ => true
  | .calPointExpiry _ _ _ _ => true
  | .calCommit m => m.wf
  | .calRead m => m.wf
  | .optSet m => m.wf
  | .evtConfig m => m.wf
  | .evtClear m => m.wf
  | .spareStatus m => m.wf
  | .spareRetire m => m.wf
  | .selftest m => m.wf
  | .selftestDone _ _ _ => true
  | .wearReport m => m.wf
  | .fwStage m => m.wf
  | .fwActivate m => m.wf
  | .mbDoorbell _ _ _ => true
  | .mbCommandTake _ => true
  | .mbResponseWrite _ => true
  | .mbRspHeadWrite _ _ _ => true
  | .mbCfgWrite _ _ _ => true
  | .mbStatClear _ _ _ => true
  | .resetCauseClear _ _ => true
  | .resetCtlF _ _ => true
  | .resetCtlC _ _ => true
  | .resetCtlB _ _ => true
  | .irqStatClear _ _ => true
  | .irqEnWrite _ _ => true
  | .timeLoRead _ => true
  | .soReqWrite _ _ => true
  | .soReqSet _ _ => true
  | .soReqClr _ _ => true
  | .blotCursorWrite _ _ => true
  | .recAckWrite _ _ _ => true
  | .ringTailWrite _ _ _ => true
  | .hlimUnlock _ _ => true
  | .hlimPasswordChecked => true
  | .hlimLock _ _ => true
  | .hlimSetpw _ _ => true
  | .hlimStageWrite _ _ _ => true
  | .hlimCommit _ _ => true
  | .hlimUnlockExpiry => true
  | .hlimLockoutEnd => true
  | .sessionLockEnd _ => true
  | .safeLockEnd => true
  | .watchdogRestart => true
  | .registerWrite _ bar offset data => decide (0 < data.length) && decide (offset + data.length ≤ barSize bar)
  | .channelConversion _ c => c.wf
  | .tripPin _ _ _ => true
  | .groupPowerWindow _ => true
  | .gpReleased _ => true
  | .gpSeated _ => true
  | .chBoardRemoved _ => true
  | .chBoardInserted _ => true
  | .reloadCapture _ _ => true
  | .dlineCalibration _ _ _ => true
  | .convSelftest _ _ => true
  | .spareSettled _ _ => true
  | .auxConversion _ _ code dither => decide (-128 ≤ code) && decide (code ≤ 4224) && decide (-128 ≤ dither) && decide (dither ≤ 128)
  | .auxUrgentRequest _ _ => true
  | .calTempDrift _ _ => true
  | .nibEvaluation _ _ => true
  | .checkpointWrite _ => true
  | .ckptIntervalDue _ => true
  | .quirePostAck _ => true
  | .quireItemDue _ => true
  | .quireDispatch _ _ _ => true
  | .ductusMediatedItem _ => true
  | .ductusPreloadItem _ => true
  | .nibTakeover _ _ => true
  | .nibFencedSelftest _ _ => true
  | .nibRevert _ _ => true
  | .folioTransactionVote _ tx => decide (tx.length ≤ 4)
  | .folioVoteTimeout _ => true
  | .folioSpareJoined => true
  | .folioBootDone => true
  | .acqTick _ => true
  | .acqTimerExpiry _ _ => true
  | .acqComplete _ _ => true
  | .acqPageHandover _ _ => true
  | .periodicRecord _ => true
  | .recordStore => true
  | .thinningPass => true
  | .dramScrub _ _ _ _ _ => true
  | .streamBufferReturn _ entry _ => decide (entry < 4096)
  | .streamFrameSend _ count => decide (0 < count)
  | .recStreamResend _ => true
  | .helloSend _ => true
  | .helloReceive _ f => f.wf
  | .linkUp _ => true
  | .linkDown _ => true
  | .peerSilent _ => true
  | .primHoldEnd _ => true
  | .frameForward _ f => f.wf
  | .discoverRequest _ f => f.wf
  | .discoverReply _ f => f.wf
  | .assignUid _ f => f.wf
  | .assignRing _ f => f.wf
  | .windowRead _ f => f.wf
  | .windowWrite _ f => f.wf
  | .windowReset _ f => f.wf
  | .mailboxCommand _ f => f.wf
  | .mailboxAck _ f => f.wf
  | .mailboxResponseResend _ => true
  | .syncFrame _ f => f.wf
  | .syncEntryExpiry _ => true
  | .noticeReceive _ f => f.wf
  | .ptpSyncReceive _ m => m.wf
  | .ptpAnnounceReceive _ m => m.wf
  | .ptpMasterLoss _ => true
  | .ptpPdelayReqSend _ _ => true
  | .ptpPdelayReceive _ m => m.msg.wf
  | .ptpMasterSend _ _ _ => true
  | .ptpTransparentForward _ _ m _ => m.wf
  | .timeMarkWrite => true
  | .compareFire _ => true
  | .toutPulseEnd _ => true
  | .tinCapture _ _ => true
  | .marginTick a b => a.wf && b.wf
  | .testPulse _ => true
  | .testPulseCheck _ _ _ _ => true
  | .outputOffPulseTest _ _ => true
  | .soFbSettle _ _ => true
  | .stop1TimerExpiry _ => true
  | .safeClockCheck _ => true
  | .marginStarted => true
  | .safeStagingExpiry => true
  | .vellumWordWrite _ _ index _ _ _ => decide (index < 524288)
  | .vellumScrub _ _ => true
  | .wearMapFlush => true
  | .eventRaise => true
  | .blotterSummary _ => true
  | .blotterFlush => true
  | .blotterRingScan => true
  | .powerOn => true
  | .supplyOutOfRange _ _ _ => true
  | .resetNLow => true
  | .resetNStuck seconds => decide (10 ≤ seconds)
  | .warmNLow => true
  | .resetRelease _ => true
  | .pcieHotReset _ => true
  | .pcieLink speed _ => decide (speed.val ≤ 3)
  | .watchdogExpired => true
  | .thermalShutdown _ _ => true
  | .thermalRecovery => true
  | .refLoss => true
  | .refReturn => true
  | .releaseStage x => x.wf
  | .clkNotGood _ => true
  | .blockResetIdle => true
  | .blockResetForced dropped => decide (dropped < 2 ^ 32)
  | .crossingFlushed crossing _ count => decide (crossing < 2 ^ 16) && decide (count < 2 ^ 32)
  | .testModeRise => true
  | .pfailSequence => true
  | .pfailSelfReset _ => true
  | .wakeN => true
  | .pgoodInRise => true
  | .standbyExitTimeout => true
  | .pfailNRise => true
  | .standbyHoldEnd => true
  | .clkGood _ => true
  | .tickWatchExpiry => true
  | .switchRawEdge _ _ _ => true
  | .folioCoreSelftestDone _ _ => true
  | .ductusLoadItem _ => true
  | .finalFlushTimeout => true
  | .blockLockGained _ => true
  | .ptpFollowUpReceive _ m => m.wf
  | .ptpDelayReqSend _ _ => true
  | .ptpDelayReqReceive _ m => m.wf
  | .ptpDelayRespReceive _ m => m.wf
  | .timeBecameMaster => true
  | .switchTestEnd _ _ => true
  | .testPulseEnd _ => true

end Sys2Proof
end

