-- ==== Sys2Proof/Tests/Slice0.lean ====
section
/-! SUPPORT. Tests: ill-formed commands are refused, worked examples and tables of the spec, and for every statement with hypotheses a state and
operands that meet them. -/

set_option Elab.async false

namespace Sys2Proof.Tests

open Sys2Proof.Machine Sys2Proof.Safety

/-! ### WellFormed refuses -/

theorem test_wf_good : (Instr.nop (cmd 0 16 [])).wf = true ∧ (Instr.releaseStage {}).wf = true ∧ (Instr.frameForward 0 { typ := 1 }).wf = true := by
  decide

theorem test_wf_params : (Instr.nop (cmd 0 16 (List.replicate 61 0))).wf = false := by decide

theorem test_wf_frame :
    ∀ f ∈ ([{ typ := 1, ver := 16 }, { typ := 16 }, { typ := 1, hopLimit := 256 }, { typ := 1, hops := 256 }, { typ := 1, len := 65536 },
      { typ := 1, rsvd := 64 }] : List Frame), (Instr.frameForward 0 f).wf = false := by decide +kernel

theorem test_wf_ptp :
    let g : PtpMsg := { kind := .sync }
    ∀ m ∈ [{ g with domain := 256 }, { g with clockId := 2 ^ 64 }, { g with portNo := 65536 }, { g with seqId := 65536 },
      { g with priority1 := 256 }, { g with clockClass := 256 }, { g with accuracy := 256 }, { g with variance := 65536 },
      { g with priority2 := 256 }, { g with grandmaster := 2 ^ 64 }, { g with stepsRemoved := 65536 }, { g with logInterval := 128 },
      { g with logInterval := -129 }, { g with reqId := 2 ^ 64 }, { g with reqPort := 65536 }, { g with correction := 2 ^ 63 },
      { g with correction := -(2 ^ 63) - 1 }, { g with utcOffset := 32768 }, { g with utcOffset := -32769 }],
      (Instr.ptpSyncReceive 0 m).wf = false := by decide

theorem test_wf_conversion :
    ∀ c ∈ ([{ codeV := -129, codeI := 0 }, { codeV := 4225, codeI := 0 }, { codeV := 0, codeI := -2177 }, { codeV := 0, codeI := 2177 },
      { codeV := 0, codeI := 0, ditherV := 129 }, { codeV := 0, codeI := 0, ditherV := -129 }, { codeV := 0, codeI := 0, ditherI := 129 },
      { codeV := 0, codeI := 0, ditherI := -129 }] : List Conversion), (Instr.channelConversion 0 c).wf = false := by decide

theorem test_wf_register :
    (Instr.registerWrite .pcie .bar0 0xFFFE [0, 0, 0, 0]).wf = false ∧ (Instr.registerWrite .pcie .bar0 0 []).wf = false
      ∧ (Instr.registerWrite .pcie .bar2 0xFFFFF [0]).wf = true := by decide

theorem test_wf_events :
    (Instr.releaseStage { bootSrc := 4 }).wf = false ∧ (Instr.releaseStage { clkMode := 4 }).wf = false
      ∧ (Instr.auxConversion 0 0 4225 0).wf = false ∧ (Instr.auxConversion 0 0 (-129) 0).wf = false
      ∧ (Instr.auxConversion 0 0 0 129).wf = false ∧ (Instr.auxConversion 0 0 0 (-129)).wf = false
      ∧ (Instr.folioTransactionVote 0 [1, 1, 1, 1, 1]).wf = false ∧ (Instr.streamFrameSend 0 0).wf = false
      ∧ (Instr.vellumWordWrite .nib 0 524288 0 true true).wf = false ∧ (Instr.resetNStuck 9).wf = false ∧ (Instr.pcieLink 4 ⟨0, false⟩).wf = false
      ∧ (Instr.streamBufferReturn 0 4096 ⟨0, 1024, true⟩).wf = false
      ∧ (Instr.blockResetForced (2 ^ 32)).wf = false ∧ (Instr.crossingFlushed (2 ^ 16) .ref 0).wf = false
      ∧ (Instr.crossingFlushed 0 .ref (2 ^ 32)).wf = false
      ∧ (Instr.marginTick { fb := List.replicate 9 .low } {}).wf = false ∧ (Instr.marginTick {} { fb := List.replicate 9 .low }).wf = false
      ∧ (Instr.marginTick { edges := [(1001, 0)] } {}).wf = false ∧ (Instr.marginTick { edges := [(5, 0), (4, 0)] } {}).wf = false := by
  decide

/-! ### Worked examples and tables of the spec -/

/-- The state after a command, the state itself where it stops. -/
def after (i : Instr) (s : State) : State :=
  match exec i s with
  | .next t => t
  | _ => s

/-- CH83 belongs to G5, on FE1 (01, worked example). -/
theorem test_ch83_place : groupOf 83 = 5 ∧ dieOfCh 83 = 1 := by decide

/-- The pulses of the worked example after R53: DT_RISE 256, DT_FALL 192, MIN_PULSE 64, P 6,400. -/
theorem test_suppressed_pulses :
    let cfg := cfgReset.set 5 ((192 * 2 ^ 16 + 256 : Nat) : Word)
    suppressed cfg 64 true 200 = false ∧ suppressed cfg 64 true 300 = true ∧ suppressed cfg 64 true 320 = false
      ∧ suppressed cfg 64 false (6400 - 6080) = false ∧ suppressed cfg 64 false (6400 - 6150) = true
      ∧ suppressed cfg 64 false (6400 - 6250) = false := by decide

/-- The conversion of the worked example after R90: u = 839,877 reads 4.10 V with GAIN 1,073,613,680 and OFFSET 97. -/
theorem test_calibrated_voltage :
    toVolt (calibrate (some [1073613680#32, 97, 0, 0, 0x01000000#32, 0, 0]) 839877) = 410000 := by decide

/-- The phase increment of the worked example after R127: 2 kHz at a loop rate of 200 kHz. -/
theorem test_tune_increment : phaseInc ((cfgReset.set 1 64000).set 6 0) 2000000 = 42949673 := by decide +kernel

/-- Slots 30, 31 and 0 of mailbox 2, and the response slots (worked example after R346). -/
theorem test_ring_slots :
    cmdSlot 2 65534 = 0x9E00 ∧ cmdSlot 2 65535 = 0x9F00 ∧ cmdSlot 2 0 = 0x8000 ∧ rspSlot 2 65534 = 0xBE00 ∧ rspSlot 2 0 = 0xA000 := by decide

/-- Mailbox 2 of the same example, its counters at 65,534: doorbell 1 publishes three entries, 0x22 would publish 33 behind it. -/
def mailbox2 : State := up.updMb 2 fun b => { b with
  cmdHead := 65534
  cmdTail := 65534
  rspTail := 65534
  rspHead := 65534 }

theorem test_doorbell_wraps : ((after (.mbDoorbell .pcie 2 1) mailbox2).mbox 2).cmdTail = 1
    ∧ ((after (.mbDoorbell .pcie 2 1) mailbox2).mbox 2).dbErr = false := by decide +kernel

theorem test_doorbell_refused :
    let s := after (.mbDoorbell .pcie 2 1) (mailbox2.updMb 2 fun b => { b with cmdHead := 1, cmdTail := 1 })
    ((after (.mbDoorbell .pcie 2 0x22) s).mbox 2).cmdTail = 1 ∧ ((after (.mbDoorbell .pcie 2 0x22) s).mbox 2).dbErr = true := by decide +kernel

/-- CH_START of CH83 as the worked example of 13 writes it: opcode, target, LENGTH 36 and five parameter words. -/
theorem test_entry_words :
    entryCmd 0 ([0x302, 0x107, 0x10000053, 0x24, 2, 0, 0, 0x2F400000, 0x1A458C3B] ++ List.replicate 55 0)
      = (0x302, { mb := 0, tag := 0x107, target := chTarget 83, length := 36, params := [2, 0, 0, 0x2F400000#32, 0x1A458C3B#32] }) := by decide

/-- SO_REQ_SET sets single bits, SO_REQ_CLR clears them (R337). -/
theorem test_so_req :
    (after (.soReqSet (.host .pcie) 0x81) up).host.soReq = 0x81
      ∧ (after (.soReqClr (.host .pcie) 0x80) (after (.soReqSet (.host .pcie) 0x81) up)).host.soReq = 1 := by
  decide

/-- Row 64 holds copies A of CH0 to CH3; a word write adds 1 (worked example after R431). -/
theorem test_wear_row : (regionAt 5).1 / 256 = 64 ∧ (after (.vellumWordWrite .nib 5 0 7 true true) up).vel.count 64 = 1 := by decide +kernel

/-- SESSION_OPEN to OPERATE needs no password (R348). -/
theorem test_session_open :
    let s := after (.sessionOpen (cmd 0 52 [1])) up
    (s.mbox 0).session.map (fun x => x.2) = some .operate ∧ ((s.mbox 0).done.map fun r => r.status) = [0] := by decide +kernel

/-- CH_CONFIG needs ENGINEER: with OPERATE it is refused (R347, R361). -/
theorem test_authority :
    ((after (.chConfig (cmd 0x10000000 80 goodCfg)) (upAt .operate)).mbox 0).done.map (fun r => r.status) = [BitVec.ofNat 16 RC_AUTH] := by
  decide +kernel

/-- RESET_N adds its bit and REACH F to RESET_CAUSE; POWER_ON leaves the bits of the sources that take part in its own reset (R339,
R444, R446). -/
theorem test_reset_cause :
    let s := { up with rst := { up.rst with
      stage := 12
      sources := [] } }
    (after .resetNLow s).host.resetCause = 0x01000009 ∧ (after .powerOn s).host.resetCause = 1
      ∧ (after .powerOn (after .resetNLow s)).host.resetCause = 9 := by decide +kernel

/-- The Margin's clock fails at stage 8: 0x1002 names domain 8 and the stage, and the release goes on (R448, R467). -/
theorem test_clk_not_good :
    let s := { State.reset with rst := { State.reset.rst with
      stage := 8
      sources := [] } }
    (after (.clkNotGood .safe) s).rst.stage = 9 ∧ ((after (.clkNotGood .safe) s).blot.raised.map fun e => (e.code, e.param)) = [(0x1002, 0x0808)] := by
  decide +kernel

/-- The first row after power-on: PGOOD_IN rises, and stage 1 begins (R444, R447). -/
theorem test_power_up : (after .pgoodInRise State.reset).rst.stage = 1 ∧ (after .pgoodInRise State.reset).rst.sources = [] := by decide

/-- PCIE_LINK's event carries speed and width (R357). -/
theorem test_pcie_link : (after (.pcieLink 3 ⟨4, false⟩) up).blot.raised.map (fun e => (e.code, e.param)) = [(0x0C09, 0x43)] := by decide

/-- A codeword of the outer code is 0 at every root α^0 to α^15 (R258), here with one data byte of 1. -/
theorem test_outer_code : ∀ i ∈ List.range 16, rsSyndrome i (rsCodeword (List.replicate 127 0 ++ [1])) = 0 := by decide +kernel

/-- The header of a frame is big-endian and a payload little-endian (R380, R381): a NOTICE to 0x0123 with one payload word. -/
theorem test_frame_bytes :
    let f : Frame := Frame.seal { srcMac := 0x020000000001, typ := 7, dst := 0x0123, src := 0x0456, fseq := 0x01020304, len := 4,
                                  bytes := padded 16 (wordBytes 0x0A0B0C0D) }
    f.wire.take 14 = [3, 0, 0x4C, 0x49, 0x47, 0, 2, 0, 0, 0, 0, 1, 0x88, 0xB5] ∧ (f.wire.drop 18).take 8 = [1, 0x23, 4, 0x56, 1, 2, 3, 4]
      ∧ (f.wire.drop 30).take 4 = [0x0D, 0x0C, 0x0B, 0x0A] ∧ f.wire.length = frameBytes f := by decide +kernel

/-- An empty queue: one TIME cycle (log 2). -/
theorem test_idle : (match step up with | .next t => t.now | _ => 0) = up.now + 1 := by decide +kernel

/-! ### Witnesses: device commands -/

theorem wit_idle : up.pending = [] := rfl

theorem wit_nop : Turn 0x0100 (cmd 0 16 []) up ∧ (cmd 0 16 []).target = 0 ∧ (cmd 0 16 []).length = 16 := by decide

theorem wit_sessionOpen :
    Granted 0x0102 0 (cmd 0 52 [2]) up ∧ (cmd 0 52 [2]).target = 0 ∧ (cmd 0 52 [2]).length = 52
      ∧ (cmd 0 52 [2]).params.getD 0 0 = BitVec.ofNat 32 2 ∧ up.host.levelPw 2 = none ∧ up.host.levelLock 2 = none := by decide

theorem wit_sessionClose : Granted 0x0103 0 (cmd 0 16 []) (upAt .operate) := by decide

theorem wit_devModeSet :
    Granted 0x0104 2 (cmd 0 20 [1]) (upAt .engineer) ∧ (upAt .engineer).folio.service = false
      ∧ (cmd 0 20 [0]).params = [w32 (b2n (upAt .engineer).folio.service)] := by decide

theorem wit_devStandby :
    Granted 0x0105 2 (cmd 0 16 []) (upAt .engineer) ∧ (∀ n, ((upAt .engineer).ch n).state = .off)
      ∧ (∀ a, ((upAt .engineer).ax a).state = .disabled) ∧ ((upAt .engineer).mbox 0).done = []
      ∧ diff16 ((upAt .engineer).mbox 0).rspTail ((upAt .engineer).mbox 0).rspHead < 32 := by decide +kernel

/-! ### Witnesses: options, Blotter commands, maintenance, firmware -/

theorem wit_optSet_read :
    Granted 0x0C04 0 (cmd 0 32 [0x80000005, 0, 0, 0]) up ∧ NoReserved (cmd 0 32 [0x80000005, 0, 0, 0]) [(0, 0x7FFF0000), (4, 0xFFFF0000)]
      ∧ bitAt (cmd 0 32 [0x80000005, 0, 0, 0]).params 0 31 = true ∧ fieldAt (cmd 0 32 [0x80000005, 0, 0, 0]).params 0 15 0 = 5
      ∧ optIndexOk 5 0 = true := by decide

theorem wit_optSet_write :
    Granted 0x0C04 2 (cmd 0 32 [2, 1, 1, 0]) (upAt .engineer)
      ∧ NoReserved (cmd 0 32 [2, 1, 1, 0]) [(0, 0x7FFF0000), (4, 0xFFFF0000)]
      ∧ bitAt (cmd 0 32 [2, 1, 1, 0]).params 0 31 = false ∧ natAt64 (cmd 0 32 [2, 1, 1, 0]).params 8 = 1 ∧ optIndexOk 2 1 = true
      ∧ optValueOk 2 1 = true ∧ (upAt .engineer).optConflict 2 1 1 = none ∧ (upAt .engineer).vel.failed.contains 0 = false := by
  decide +kernel

theorem wit_evtConfig :
    Granted 0x0D01 2 (cmd 0 24 [0x0201, 0x04000001]) (upAt .engineer) ∧ NoReserved (cmd 0 24 [0x0201, 0x04000001]) [(0, 0xFFFC0000)]
      ∧ fieldAt (cmd 0 24 [0x0201, 0x04000001]).params 4 31 16 = 1024 ∧ fieldAt (cmd 0 24 [0x0201, 0x04000001]).params 4 15 0 = 1
      ∧ eventDefined 0x0201 = true := by decide

theorem wit_evtConfig_default :
    NoReserved (cmd 0 24 [0x20201, 0]) [(0, 0xFFFC0000)] ∧ bitAt (cmd 0 24 [0x20201, 0]).params 0 16 = false
      ∧ bitAt (cmd 0 24 [0x20201, 0]).params 0 17 = true := by decide

theorem wit_evtConfig_flush :
    NoReserved (cmd 0 24 [0x10000, 0]) [(0, 0xFFFC0000)] ∧ bitAt (cmd 0 24 [0x10000, 0]).params 0 16 = true := by decide

/-- `upAt .engineer` with an entry of SEQ 3 retained and SEQ 9 next. -/
def retained : State := { upAt .engineer with
  blot := { (upAt .engineer).blot with
    nextSeq := 9
    buffer := [{ seq := 3, ev := up.event 0x0A01 INFO 3 4, count := 0, summary := false, lostBefore := false, restored := false,
                 persisted := true }] }
  vel := { (upAt .engineer).vel with mark := some 3 } }

theorem wit_evtClear :
    Granted 0x0D02 2 (cmd 0 20 [7]) retained ∧ seqLe retained.blot.nextSeq 8 = false ∧ seqLe 8 retained.oldestKept = false := by decide +kernel

theorem wit_spareRetire_nib :
    Granted 0x0E02 2 (cmd 0 20 [0x1101]) (upAt .engineer) ∧ spKind (cmd 0 20 [0x1101]) = 1 ∧ spIndex (cmd 0 20 [0x1101]) = 17
      ∧ (upAt .engineer).idleSpare 17 = true := by decide

theorem wit_spareRetire_conv :
    NoReserved (cmd 0 20 [0x00038802]) [(0, 0xFF0000FC)] ∧ spKind (cmd 0 20 [0x00038802]) = 2 ∧ spIndex (cmd 0 20 [0x00038802]) = 136
      ∧ spDie (cmd 0 20 [0x00038802]) = 3 ∧ ((upAt .engineer).dieOf 3).steered.all (fun e => e.2.1 != 136) = true := by decide

theorem wit_spareRetire_core :
    NoReserved (cmd 0 20 [0x00000303]) [(0, 0xFF0000FC)] ∧ spKind (cmd 0 20 [0x00000303]) = 3 ∧ spIndex (cmd 0 20 [0x00000303]) = 3
      ∧ (upAt .engineer).folio.cores = [.vote, .vote, .vote, .spare] ∧ (upAt .engineer).folio.code = 2 := by decide

theorem wit_selftest :
    let s := { upAt .engineer with folio := { (upAt .engineer).folio with service := true } }
    Granted 0x0E03 2 (cmd 0 20 [0x1201]) s ∧ s.folio.service = true ∧ s.idleSpare 18 = true ∧ s.folio.selftests = [] := by decide

theorem wit_selftestDone :
    let s := { up with folio := { up.folio with selftests := [{ mb := 0, tag := 0, quiet := false, kind := 1, index := 18, die := 0 }] } }
    ((s.updMb 0 fun b => { b with working := 1 }).mbox 0).working ≠ 0 := by decide

theorem wit_watchdogRestart : 2 ≤ up.folio.voters.length := by decide

theorem wit_fwStage :
    let m := cmd 0 36 [0, 4, 8, 0, 0xABCD]
    Turn 0x0F01 m (upAt .engineer) ∧ m.length = BitVec.ofNat 16 (32 + 4 * 1) ∧ natAt m.params 4 = 4 * 1 ∧ natAt m.params 8 = 8
      ∧ (upAt .engineer).folio.staged = none := by decide

theorem wit_selftestDone_second :
    let s := ({ up with folio := { up.folio with selftests := [{ mb := 0, tag := 0, quiet := false, kind := 1, index := 18, die := 0 }] } } :
      State).updNib 18 fun x => { x with firstFault := some none }
    s.nibRetires 18 = true ∧ (s.nibOf 18).role = .spare ∧ s.folio.selftests.map (fun x => (x.kind, x.index)) = [(1, 18)] := by decide +kernel

theorem wit_watchdog_few : ({ up with folio := { up.folio with cores := [.vote, .retired, .retired, .spare] } } : State).folio.voters.length < 2 := by
  decide

theorem wit_evtConfig_flush_turn : Granted 0x0D01 2 (cmd 0 24 [0x10000, 0]) (upAt .engineer) := by decide

/-! ### Witnesses: mailboxes and direct registers -/

theorem wit_reaches : Reaches .pcie up ∧ Reaches (.fabric 7) up ∧ up.folio.mbReady = true ∧ (up.mbox 3).session = none
    ∧ (up.mbox 3).cmdHead = (up.mbox 3).cmdTail ∧ (up.mbox 3).rspHead = (up.mbox 3).rspTail := by
  exact ⟨⟨rfl, rfl⟩, (by decide : up.host.winWrites 7 = true), by decide⟩

/-- R345 at its boundary: 32 entries published are accepted, 33 are refused. -/
theorem wit_doorbell :
    diff16 32 (up.mbox 0).cmdHead ≤ 32 ∧ ¬ diff16 33 (up.mbox 0).cmdHead ≤ 32 ∧ bit (up.mbox 0).cfg 0 = false := by decide

/-- The worked example of R346: tail 1 after four counters at 65,534. -/
theorem wit_doorbell_wraps : diff16 1 65534 = 3 ∧ diff16 0x22 65534 = 36 := by decide

theorem wit_fabricMailbox :
    let s := up.updMb 1 fun b => { b with cfg := 1 }
    bit (s.mbox 1).cfg 0 = true ∧ s.host.pcieReset = false ∧ s.folio.mbReady = true ∧ 0x3FFF < 0x4000 * (1 + 1) ∧ 0x4000 * 1 < 0x3FFF + 2 := by decide

theorem wit_commandTake :
    let s := up.updMb 0 fun b => { b with cmdTail := 1 }
    (s.mbox 0).cmdHead ≠ (s.mbox 0).cmdTail ∧ (s.mbox 0).taken.length < 32
      ∧ (entryCmd 0 (memReadWords 0 64 s.rings)).1 ∉ opcodes
      ∧ (entryCmd 0 (memReadWords 0 64 (memWrite 1 1 s.rings))).1 ∈ opcodes := by decide +kernel

theorem wit_responseWrite :
    let r : Response := { tag := 0, quiet := false, status := 0, state := 0, detail := 0, payload := [] }
    let s := up.updMb 0 fun b => { b with done := [r] }
    (s.mbox 0).done = r :: [] ∧ (s.mbox 0).kept = none ∧ bit (s.mbox 0).cfg 0 = false ∧ diff16 (s.mbox 0).rspTail (s.mbox 0).rspHead < 32
      ∧ s.folio.restart = none
      ∧ diff16 ((s.updMb 0 fun b => { b with rspTail := 32 }).mbox 0).rspTail ((s.updMb 0 fun b => { b with rspTail := 32 }).mbox 0).rspHead = 32
      := by decide

theorem wit_rspHead :
    let s := up.updMb 0 fun b => { b with rspTail := 5 }
    diff16 (BitVec.ofNat 16 (5#32).toNat) (s.mbox 0).rspHead ≤ diff16 (s.mbox 0).rspTail (s.mbox 0).rspHead
      ∧ diff16 (s.mbox 0).rspTail (s.mbox 0).rspHead < diff16 (BitVec.ofNat 16 (6#32).toNat) (s.mbox 0).rspHead := by decide

theorem wit_cfg_refused :
    ¬ (((upAt .operate).mbox 0).session = none ∧ ((upAt .operate).mbox 0).cmdHead = ((upAt .operate).mbox 0).cmdTail
      ∧ ((upAt .operate).mbox 0).rspHead = ((upAt .operate).mbox 0).rspTail) := by decide

theorem wit_notReady : Reaches (.fabric 9) State.reset ∧ State.reset.folio.mbReady = false := by
  exact ⟨(by decide : State.reset.host.winWrites 9 = true), rfl⟩

theorem wit_irqEn : 0xFF#32 &&& ~~~up.host.irqEn &&& up.host.irqStat = 0 := by decide

theorem wit_resetCtl :
    let v : Word := 0xA5C3F823#32
    bits v 31 16 = 0xA5C3 ∧ bits v 1 0 = 3 ∧ bits v 10 4 = 2 ∧ bits v 15 11 = 31 ∧ 31 < blockInstances 2
      ∧ ({ up with folio := { up.folio with readyOnce := true } } : State).folio.readyOnce = true
      ∧ bits 0xA5C30002#32 1 0 = 2 ∧ bits 0xA5C30001#32 1 0 = 1 := by decide

/-- The block in operation, the release complete. -/
def running : State := { up with rst := { up.rst with sources := [], stage := 12, doneStage := 11 } }

theorem wit_running : running.rst.stage = 12 ∧ running.rst.power = .run ∧ running.rst.sources = [] ∧ running.rst.flushing = none := by decide

/-! ### Witnesses: SO_REQ, streams, the HLIM window, locks, register writes -/

theorem wit_soReq : up.folio.mbReady = true ∧ State.reset.folio.mbReady = false ∧ Reaches .pcie up ∧ Reaches (.fabric 7) up := by
  exact ⟨rfl, rfl, ⟨rfl, rfl⟩, (by decide : up.host.winWrites 7 = true)⟩

theorem wit_recAck_none : (up.stream 1).top = none ∧ (up.stream 1).open_ = false := by decide

theorem wit_recAck :
    let s := up.updStream 1 fun st => { st with top := some 9 }
    seqLe (s.stream 1).recAck.toNat (7#32).toNat = true ∧ (s.stream 1).top = some 9
      ∧ seqLe (8#32).toNat (7#32).toNat = false := by decide

/-- A state whose HLIM window path `p` holds, with a staged record. -/
def holding (p : Path) (b : Block) : State := up.updHlim fun h => { h with
  unlock := some p
  stage := b }

theorem wit_hlimUnlock :
    bit 0x0#32 8 = false ∧ bit 0x0#32 9 = false ∧ up.host.hlim.lockUntil = none ∧ up.host.hlim.unlock = none
      ∧ up.host.hlim.checking = none ∧ (holding (.fabric 4) []).host.hlim.unlock = some (.fabric 4) := by decide

theorem wit_hlimChecked :
    let s := up.updHlim fun h => { h with
      checking := some (.pcie, 4)
      password := some [0x61, 0x62, 0x63, 0x64]
      pw := [0x64636261] }
    s.host.hlim.checking = some (.pcie, 4) ∧ s.host.hlim.password = some [0x61, 0x62, 0x63, 0x64]
      ∧ s.host.hlim.pwBytes 4 = [0x61, 0x62, 0x63, 0x64] ∧ ¬ (s.host.hlim.pwBytes 3 = [0x61, 0x62, 0x63, 0x64]) := by decide

theorem wit_hlimLock : bit 0x100#32 8 = true ∧ (holding .pcie []).host.hlim.unlock = some .pcie := by decide

theorem wit_hlimSetpw :
    bit 0x210#32 8 = false ∧ bit 0x210#32 9 = true ∧ bits 0x210#32 4 0 = 16 ∧ 4 ≤ bits 0x204#32 4 0 := by decide

theorem wit_hlimCommit :
    commitCheck 83 (holding .pcie goodRecord).host.hlim.stage = 0 ∧ (holding .pcie goodRecord).host.hlim.unlock = some .pcie
      ∧ (holding .pcie goodRecord).vel.failed.contains 1 = false ∧ bits 83#32 8 0 = 83 := by decide +kernel

theorem wit_hlimCommit_refused :
    279 < bits 280#32 8 0
      ∧ (holding .pcie []).host.hlim.stage.getD 15 0 ≠ crcBlock (blockFit 15 (holding .pcie []).host.hlim.stage) := by decide +kernel

theorem wit_hlimCommit_vellum :
    let s := { holding .pcie goodRecord with vel := { (holding .pcie goodRecord).vel with failed := [1] } }
    s.vel.failed.contains 1 = true ∧ commitCheck 83 s.host.hlim.stage = 0 := by decide +kernel

theorem wit_hlimTimer :
    let s := { up with
      timers := [(Timer.hlimUnlock, 9)]
      now := 9 }
    s.ranOut .hlimUnlock = true ∧ (Timer.hlimUnlock, 9) ∈ s.timers ∧ { s with now := 8 }.now < 9 := by decide

/-- Locks that are due, and the same 1 TIME cycle before the first of them. -/
theorem wit_locks :
    let s := { up with
      now := 8
      host := { up.host with
        lockEng := some 5
        lockSaf := some 6
        hlim := { up.host.hlim with lockUntil := some 7 } }
      margin := { up.margin with lockUntil := some 8 } }
    5 ≤ s.now ∧ { s with now := 4 }.now < 5 ∧ 8 ≤ s.now ∧ s.host.lockEng = some 5 ∧ s.host.lockSaf = some 6 ∧ s.host.hlim.lockUntil = some 7 ∧ s.margin.lockUntil = some 8 := by decide

theorem wit_registerWrite :
    up.host.pcieReset = false ∧ (0x1FFFE + [1, 2].length ≤ 0x20000) ∧ (∀ k, bit (up.mbox k).cfg 0 = false) ∧ up.rings.wf = true
      ∧ 0x20000 < 0x1FFFF + ([1, 2] : List Byte).length ∧ 256 < (List.replicate 257 (0 : Byte)).length := by decide +kernel

/-! ### Witnesses: channels, pins, measurement, calibration, capture -/

/-- `ready` with channel 0 in a state. -/
def chan0 (a : Authority) (st : ChState) : State := (ready a).updCh 0 fun c => { c with state := st }

theorem wit_stateChange : (up.ch 3).state ≠ .configured := by decide

theorem wit_trip :
    ((chan0 .operate .tune).ch 0).state = .tune ∧ ((chan0 .operate .tripped).ch 0).state = .tripped
      ∧ ((chan0 .operate .interrupted).ch 0).state = .interrupted ∧ ((ready .operate).ch 1).state = .off := by decide +kernel

theorem wit_chConfig :
    Granted 0x0201 2 (cmd 0x10000000 80 goodCfg) (ready .engineer) ∧ NoReserved (cmd 0x10000000 80 goodCfg) cfReserved
      ∧ (0x10000000#32 = chTarget 0) ∧ ((ready .engineer).ch 0).calRun = none := by decide +kernel

theorem wit_chConfig_groups :
    let s := ready .engineer
    Granted 0x0201 2 (cmd 0x20000001 80 goodCfg) s ∧ (maskChannels 1).length ≤ (s.takeOff 0x0201 (cmd 0x20000001 80 goodCfg)).quire.quotaFree 0
      ∧ ((maskChannels 1).all fun n => (s.ch n).state == .off && (s.ch n).calRun == none) = true := by decide +kernel

theorem wit_chEnable :
    let s := ready .operate
    Granted 0x0202 1 (cmd 0x10000000 16 []) s ∧ (s.ch 0).state = .off ∧ s.enableFail 0 (s.chv 0).minPulse = none
      ∧ (s.ch 0).meas.convFault = false ∧ (s.dieOf (dieOfCh 0)).activePins &&& cfTripSel (s.ch 0).cfg = 0 := by decide +kernel

theorem wit_chEnable_refused : (ready .operate).enableFail 1 ((ready .operate).chv 1).minPulse = some (12, RC_HARD_LIMIT)
    ∧ ((ready .operate).ch 1).state = .off ∧ ((ready .operate).ch 1).calRun = none := by
  decide +kernel

theorem wit_chDisable :
    Granted 0x0203 1 (cmd 0x10000000 16 []) (chan0 .operate .held) ∧ ((chan0 .operate .held).ch 0).state = .held := by decide +kernel

theorem wit_chStatus : Granted 0x0204 0 (cmd 0x100000FF 16 []) up ∧ (0x100000FF#32 = chTarget 255) := by decide +kernel

theorem wit_chClear :
    let s := (chan0 .operate .tripped).updCh 0 fun c => { c with tripCause := 2 }
    Granted 0x0205 1 (cmd 0x10000000 16 []) s ∧ (s.ch 0).state = .tripped ∧ s.activeCauses 0 &&& (s.ch 0).tripCause.toNat = 0 := by
  decide +kernel

theorem wit_chClear_refused :
    let s := (chan0 .operate .tripped).updCh 0 fun c => { c with tripCause := 4 }
    s.activeCauses 0 &&& (s.ch 0).tripCause.toNat = 4 := by decide +kernel

theorem wit_runMask :
    runMask (State.configure []) [1] [] (ready .operate) = (none, [1], (ready .operate).updCh 1 fun c => { c with cfg := blockFit 16 [] })
      ∧ (State.configure [] 0 (chan0 .operate .held)).1 = some (RC_STATE, 4) := by
  constructor
  · rfl
  · decide +kernel

theorem wit_pins :
    let s := (chan0 .operate .held).updDie 0 fun d => { d with tripCfg := 1 }
    tripEnabled (s.dieOf 0).tripCfg 0 = true ∧ (s.ch 0).state = .held ∧ ((s.updGrp 0 fun g => { g with released := true }).grp 0).released = true
      ∧ s.ranOut (.boardOut 0) = true ∧ s.ranOut (.boardIn 0) = true
      ∧ (s.grp 0).released = false ∧ ((chan0 .operate .absent).ch 0).state = .absent ∧ ((chan0 .operate .absent).grp 0).released = false := by
  decide +kernel

/-- The delays of a presence pin before their end, and a spare's. -/
theorem wit_delays :
    let s := { up with timers := [(Timer.boardOut 3, 1), (Timer.boardIn 3, 1), (Timer.spare 2 130, 1), (Timer.calPoint 0 true 5 false, 1)] }
    (Timer.boardOut 3, 1) ∈ s.timers ∧ (Timer.boardIn 3, 1) ∈ s.timers ∧ (Timer.spare 2 130, 1) ∈ s.timers
      ∧ (Timer.calPoint 0 true 5 false, 1) ∈ s.timers ∧ s.now < 1
      ∧ { s with now := 1 }.ranOut (.spare 2 130) = true ∧ { s with now := 1 }.ranOut (.calPoint 0 true 5 false) = true := by decide

/-- CH_CONFIG with another SHUNT, and back: the record of range 0 counts as absent from then on (R89). -/
theorem wit_takeConfig :
    let c := (ready .operate).ch 0
    let b := goodCfg.set 10 2000
    calValid (c.meas.calRead.getD 1 []) = true ∧ calShunt (c.meas.calRead.getD 1 []) ≠ cfShunt b
      ∧ c.recordIn c.meas.calRead true 0 = some goodCalI := by decide +kernel

theorem wit_conversion :
    let k : Conversion := { codeV := 4096, ditherV := 0, codeI := -2048, ditherI := 0, tick := 0 }
    (up.ch 200).state = .off ∧ (up.ch 200).meas.skipV = false ∧ (up.ch 200).meas.skipI = false ∧ 0 ≤ k.codeV ∧ -2048 ≤ k.codeI := by decide

theorem wit_groupPower : up.groupMax 15 = none := by decide

theorem wit_aux :
    let s := up.updDie 3 fun d => { d with scan := vset d.scan 7 3 }
    (s.dieOf 3).urgent = [] ∧ vget (s.dieOf 3).scan 7 = 3 ∧ (∀ g, (s.grp g).busAux = 0x1FF)
      ∧ (s.dieOf (Fin.ofNat 4 (287 / 72))).urgent.contains (31, 287 % 72) = false := by decide +kernel

theorem wit_aux_noLimits : ∀ n, up.hlimOf n = none ∧ up.calOf n false 0 = none ∧ up.calOf n true (cfGain (up.ch n).cfg) = none := by
  intro n
  have h : up.chv n = {} ∧ up.ch n = { cfg := cfgReset } :=
    ⟨by simp [up, State.chv, State.reset, vget], by simp [up, State.ch, State.reset, vget]⟩
  refine ⟨by simp [State.hlimOf, h.1], ?_, ?_⟩
  · rw [State.calOf, h.2]
    decide
  · rw [State.calOf, h.2]
    decide

theorem wit_periodic :
    ((chan0 .operate .running).ch 0).state = .running
      ∧ ((chan0 .operate .running).ink.waiting.filter fun x => x.producer == (0 : Fin 256).val).length < 8 := by decide +kernel

theorem wit_recConfig :
    Granted 0x0701 2 (cmd 0 28 [0x103, 65536, 100]) (upAt .engineer) ∧ NoReserved (cmd 0 28 [0x103, 65536, 100]) [(0, 0xFFFFFEFC)]
      ∧ natAt (cmd 0 28 [0x103, 65536, 100]).params 4 = 65536 ∧ natAt (cmd 0 28 [0x103, 65536, 100]).params 8 = 100
      ∧ bitAt (cmd 0 28 [0x103, 65536, 100]).params 0 8 = (upAt .engineer).ink.periodicIdle := by decide

/-- A boundary of the record interval, 4 ns ago, and none 5 ns after it (R249). -/
theorem wit_recordBoundary :
    let s := chan0 .operate .running
    let at_ (t : Nat) : State := { s with tb := { s.tb with time := t } }
    (at_ 2000000004).boundaryDue 0 = some 2000000000 ∧ (at_ 2000000005).boundaryDue 0 = none := by decide +kernel

theorem wit_urgentOn :
    let s := up.updUnit 31 fun p => { p with
      state := .armed
      cfg := [0x00010000, 0, 0, 0, 0, 0x9000111F] }
    (s.unit 31).state = .armed ∧ (s.unit 31).urgentOn 287 = true ∧ (s.unit 31).urgentOn 286 = false := by decide

theorem wit_drift :
    (ready .operate).calOf 0 false 0 = some goodCalV ∧ drifted ((ready .operate).dieOf (dieOfCh 0)).temp goodCalV ≠ drifted 501 goodCalV := by
  decide +kernel

theorem wit_calPoint :
    let m := cmd 0x10000000 28 [0x30, 1280000000, 100]
    Granted 0x0C01 2 m (ready .engineer) ∧ NoReserved m [(0, 0xFFFFFFC8)] ∧ calSel m = some (true, 0)
      ∧ refOfFs ((ready .engineer).ch 0) true 0 (intAt m.params 4) = (1280000000000, 1280000000000)
      ∧ bitAt m.params 0 5 = true ∧ natAt m.params 8 = 100 := by decide +kernel

/-- A CAL_POINT that averages a voltage on channel 0. -/
def averaging (ovr : Bool) : State :=
  ((ready .engineer).updCh 0 fun c => { c with
    calRun := some { mb := 0, tag := 5, flags := 0, current := false, range := 0, full := true, ref := 400000, avgMs := 100, start := 0,
                     sum := 7000, count := 7, subSum := 0, subN := 0, subC := 0, subMin := some 990, subMax := some 1010, overRange := ovr } }).updMb
    0 fun b => { b with working := 1 }

theorem wit_calPointDone :
    (((averaging false).ch 0).calRun.map fun r => (r.overRange, r.subMin, r.subMax, r.count, r.flags.getLsbD 15)) = some (false, some 990, some 1010, 7, false)
      ∧ ((averaging false).mbox 0).working ≠ 0 ∧ ((averaging false).mbox 0).discard = 0
      ∧ (((averaging true).ch 0).calRun.map fun r => r.overRange) = some true := by decide +kernel

theorem wit_calCommit :
    let p0 : CalPoint := { current := false, range := 0, full := false, ref := 0, meanU := 0 }
    let p1 : CalPoint := { current := false, range := 0, full := true, ref := 500000, meanU := 1024000 }
    let m := cmd 0x10000000 24 [0, crcBlock [wInt 0, wInt 500000]]
    let s := (ready .engineer).updCh 0 fun c => { c with calPoints := [p1, p0] }
    Granted 0x0C02 2 m s ∧ NoReserved m [(0, 0xFFFFFFE8)] ∧ calSel m = some (false, 0)
      ∧ ((s.ch 0).calPoints.find? fun p => p.current == false && p.range == 0 && p.full == false) = some p0
      ∧ ((s.ch 0).calPoints.find? fun p => p.current == false && p.range == 0 && p.full == true) = some p1
      ∧ crcBlock [wInt p0.ref, wInt p1.ref] = wordAt m.params 4 ∧ calSolve 256 125 p0 p1 = some (1073741824, 0)
      ∧ 97 * qOne ≤ 1073741824 * 100 ∧ 1073741824 * 100 ≤ 103 * qOne ∧ (0 : Int).natAbs ≤ 16384 := by decide +kernel

theorem wit_calCommit_noPoint :
    (((ready .engineer).ch 0).calPoints.find? fun p => p.current == false && p.range == 0 && p.full == false) = none := by decide +kernel

theorem wit_calRead :
    let m := cmd 0x10000000 20 [0x15]
    Granted 0x0C03 0 m (ready .observe) ∧ NoReserved m [(0, 0xFFFFFFE8)] ∧ calSel m = some (true, 5) := by decide +kernel

theorem wit_capture :
    let s := chan0 .operate .running
    (s.ch 0).state = .running ∧ (s.ch 0).drive.ramp = none ∧ s.rst.flushing = none ∧ s.rst.pfailSeq = false
      ∧ s.servingNib (groupOf 0).val = some 0 ∧ (s.ch 0).drive.consec < 2
      ∧ 2 ≤ ((s.updCh 0 fun c => { c with drive := { c.drive with consec := 2 } }).ch 0).drive.consec
      ∧ ((s.updCh 0 fun c => { c with drive := { c.drive with ramp := some (0, 5, 9, 3, false) } }).ch 0).drive.ramp = some (0, 5, 9, 3, false)
      ∧ ((chan0 .operate .held).ch 0).state = .held := by decide +kernel

/-- Updates of channel 0 at a capture: one whose word is held, one whose word has not come in time, one not due yet, at the boundary
of 2.78 µs and the capture lead. -/
theorem wit_capture_due :
    let s := (chan0 .operate .running).updCh 0 fun c => { c with drive := { c.drive with
      reload := 36864
      flights := [(0, false), (1, false)] } }
    dueAt (s.ch 0).drive.reload (0, true) = true ∧ (s.ch 0).drive.flights = (0, false) :: [(1, false)] ∧ 0 + 35584 + 1280 ≤ (s.ch 0).drive.reload
      ∧ (∀ y ∈ [(1, false)], (s.ch 0).drive.reload < y.1 + 35584 + 1280) ∧ s.evalNib 0 = some 0 ∧ (s.ch 0).drive.late = none
      ∧ (∀ x ∈ [((0 : Nat), true), (1, false)], dueAt (s.ch 0).drive.reload x = true → x.2 = true) := by decide +kernel

theorem wit_capture_axis :
    let s := up.updAx 7 fun x => { x with coilA := { x.coilA with fresh := true } }
    (s.ax 7).coilA.fresh = true ∧ (s.ax 7).coilA.heldWord.toNat / 2 ^ 60 = s.nibs.acceptClaim.toNat ∧ (s.ax 7).coilB.fresh = false := by
  decide

theorem wit_dline :
    ((up.updDie 2 fun d => { d with dlineBad := [127] }).dieOf 2).dlineBad = [(127 : Fin 128).val] ∧ (up.dieOf 2).dlineBad = [] := by decide

/-- The factory code is opaque: the codes of these witnesses are given from it. -/
theorem wit_selftest_codes (f : Fin 4) :
    ((up.refCode f 130 + 2048) - up.refCode f 130).natAbs ≤ 2048 ∧ 2048 < ((up.refCode f 130 + 2049) - up.refCode f 130).natAbs
      ∧ ((Config.factoryRef (1000 + 2 * 7) - 2048) - Config.factoryRef (1000 + 2 * 7)).natAbs ≤ 2048 := by
  refine ⟨?_, ?_, ?_⟩ <;> omega

theorem wit_selftest_state :
    let s := up.updDie 1 fun d => { d with fails := [(130, 1)] }
    (∃ x ∈ (s.dieOf 1).fails, x.1 = 130) ∧ (s.dieOf 1).spares = [136, 137, 138, 139] ∧ (up.dieOf 1).fails = [] := by decide

/-! ### Witnesses: run commands, items of the Ductus engines, the recipe store -/

/-- Channel 0 armed at its REST step. -/
def armed : State := (chan0 .operate .armed).updCh 0 fun c => { c with
  run := { c.run with
    cur := some (stepEntry 0)
    runValid := true } }

/-- Channel 0 held in its REST step, which has run. -/
def heldRun : State := (chan0 .operate .held).updCh 0 fun c => { c with
  run := { c.run with
    cur := some (stepEntry 0)
    hasRun := true
    stepRan := true } }

theorem wit_chArm :
    Granted 0x0301 1 (cmd 0x10000000 16 []) (chan0 .operate .configured) ∧ (chan0 .operate .configured).restoredCheck 0 = none
      ∧ ((chan0 .operate .configured).slotOf (cfSlot ((chan0 .operate .configured).ch 0).cfg)).ok = true
      ∧ 1 ≤ ((chan0 .operate .configured).takeOff 0x0301 (cmd 0x10000000 16 [])).quire.quotaFree 0 := by decide +kernel

theorem wit_chStepJump :
    Granted 0x0306 1 (cmd 0x10000000 20 [1]) heldRun ∧ NoReserved (cmd 0x10000000 20 [1]) [(0, 0xFFFF0000)]
      ∧ fieldAt (cmd 0x10000000 20 [1]).params 0 15 0 < (heldRun.slotOf (cfSlot (heldRun.ch 0).cfg)).total
      ∧ 1 ≤ (heldRun.takeOff 0x0306 (cmd 0x10000000 20 [1])).quire.quotaFree 0 := by decide +kernel

theorem wit_chStart :
    Granted 0x0302 1 (cmd 0x10000000 36 [2, 0, 0, 5, 0]) armed ∧ (armed.ch 0).state = .armed ∧ (armed.ch 0).run.startAt = none
      ∧ NoReserved (cmd 0x10000000 36 [2, 0, 0, 5, 0]) [(0, 0xFFFFFFFC)] ∧ armed.channelLock 0 = none ∧ armed.needsSync 0 true = none
      ∧ (armed.ch 0).run.cur = some (stepEntry 0) := by decide +kernel

theorem wit_chStart_at :
    NoReserved (cmd 0x10000000 36 [1, 0, 1, 0, 0]) [(0, 0xFFFFFFFC)] ∧ armed.needsSync 0 false = none
      ∧ bitAt (cmd 0x10000000 36 [1, 0, 1, 0, 0]).params 0 0 = true
      ∧ armed.tb.time < natAt64 (cmd 0x10000000 36 [1, 0, 1, 0, 0]).params 4 := by decide +kernel

theorem wit_startAt :
    let s := { armed.updCh 0 (fun c => { c with run := { c.run with startAt := some 9 } }) with tb := { armed.tb with time := 9 } }
    9 ≤ s.tb.time ∧ { s with tb := { s.tb with time := 8 } }.tb.time < 9 ∧ (s.ch 0).state = .armed ∧ (s.ch 0).run.startAt = some 9 ∧ (s.ch 0).run.cur = some (stepEntry 0)
      ∧ ((s.updCh 0 fun c => { c with run := { c.run with cur := none } }).ch 0).run.cur = none := by decide +kernel

theorem wit_chHold :
    Granted 0x0303 1 (cmd 0x10000000 16 []) heldRun ∧ (heldRun.ch 0).calRun = none ∧ (heldRun.ch 0).state = .held
      ∧ ((chan0 .operate .running).ch 0).state = .running ∧ (armed.ch 0).state = .armed := by decide +kernel

theorem wit_chAbort :
    Granted 0x0305 1 (cmd 0x10000000 16 []) heldRun ∧ (heldRun.ch 0).run.trans = none ∧ (heldRun.ch 0).run.stepRan = true
      ∧ ((heldRun.withStep 0).ch 0).run.cur ≠ none ∧ (heldRun.ink.waiting.filter fun x => x.producer == (0 : Fin 256).val).length < 8 := by decide +kernel

theorem wit_chResume :
    let m := cmd 0x10000000 28 [0xFFFF0000, 0, 0]
    Granted 0x0304 1 m heldRun ∧ NoReserved m [(0, 0xFFFC)] ∧ heldRun.channelLock 0 = none ∧ heldRun.resumeCheck 0 (bitAt m.params 0 1) = none
      ∧ (heldRun.ch 0).run.cur = some (stepEntry 0) ∧ bitAt m.params 0 0 = false := by decide +kernel

theorem wit_chResume_load :
    let m := cmd 0x10000000 28 [0, 0, 0]
    let s := heldRun.updCh 0 fun c => { c with run := { c.run with cur := none } }
    Granted 0x0304 1 m s ∧ s.resumeCheck 0 false = none ∧ (s.ch 0).resumeLoads = true ∧ 1 ≤ (s.takeOff 0x0304 m).quire.quotaFree 0 := by
  decide +kernel

/-- A state with one item in service on Ductus engine 3, for a command of mailbox 0 that holds it. -/
def onEngine3 (w : Work) (s : State) : State :=
  { s.updMb 0 fun b => { b with working := 1 } with
    quire := { s.quire with
      items := [{ uid := 5, flow := 0, target := .ductus, prio := 0, work := w, due := 0, producer := .mailbox 0, handle := 0,
                  state := .inService, readyNo := 0, requeued := false, block := 3 }] } }

theorem wit_loadArm :
    let m := cmd 0x10000000 16 []
    let s := onEngine3 (.load 0 0 m) (chan0 .operate .configured)
    (s.quire.onEngine 3).map (fun i => i.work) = some (.load 0 0 m) ∧ (s.ch 0).state = .configured
      ∧ (s.slotOf (cfSlot (s.ch 0).cfg)).resolve none { (s.ch 0).acc with
        st := 0
        stepQ := 0
        stepE := 0 } 0 [0, 0, 0, 0] = some (0, stepEntry 0, [0, 0, 0, 0], false)
      ∧ stType (stepEntry 0) ≠ tEND ∧ m.rsvd = 0 ∧ (s.mbox 0).working ≠ 0 ∧ (s.mbox 0).discard = 0 := by decide +kernel

theorem wit_loadJump :
    let m := cmd 0x10000000 20 [0]
    let s := onEngine3 (.load 0 0 m) heldRun
    (s.quire.onEngine 3).map (fun i => i.work) = some (.load 0 0 m) ∧ m.length = 20 ∧ (s.ch 0).state = .held
      ∧ (s.slotOf (cfSlot (s.ch 0).cfg)).resolve none { (s.ch 0).acc with
        st := 0
        stepQ := 0
        stepE := 0 } 0 (s.ch 0).run.ctrs = some (0, stepEntry 0, [0, 0, 0, 0], false) := by decide +kernel

theorem wit_loadResume :
    let m := cmd 0x10000000 28 [0, 0, 0]
    let s := onEngine3 (.load 0 0 m) (heldRun.updCh 0 fun c => { c with run := { c.run with cur := none } })
    (s.quire.onEngine 3).map (fun i => i.work) = some (.load 0 0 m) ∧ (s.ch 0).run.cur = none ∧ s.channelLock 0 = none
      ∧ (s.slotOf (cfSlot (s.ch 0).cfg)).resolve (s.ch 0).run.prev (s.ch 0).acc (s.ch 0).run.pos (s.ch 0).run.ctrs
        = some (0, stepEntry 0, [0, 0, 0, 0], false) := by decide +kernel

theorem wit_mediated :
    let s := onEngine3 (.mediated 0) ((chan0 .operate .running).updCh 0 fun c => { c with run := { c.run with trans := some 1 } })
    (s.quire.onEngine 3).map (fun i => i.work) = some (.mediated 0) ∧ (s.ch 0).run.trans = some 1 ∧ (s.ch 0).state = .running
      ∧ (s.slotOf (cfSlot (s.ch 0).cfg)).resolve (s.ch 0).run.prev (s.ch 0).acc 1 (s.ch 0).run.ctrs
        = some (1, stepEntry 14, [0, 0, 0, 0], false)
      ∧ (s.slotOf (cfSlot (s.ch 0).cfg)).resolve (s.ch 0).run.prev (s.ch 0).acc 0 (s.ch 0).run.ctrs
        = some (0, stepEntry 0, [0, 0, 0, 0], false) ∧ stType (stepEntry 14) = tEND := by decide +kernel

theorem wit_preload :
    let s := onEngine3 (.preload 0) armed
    (s.quire.onEngine 3).map (fun i => i.work) = some (.preload 0) ∧ (s.ch 0).run.trans = none ∧ (s.ch 0).run.nextDone = false := by
  decide +kernel

/-- RCP_LOAD of the two entries of the recipe of `ready`, and of its second entry. -/
def loadAll : MbCmd := cmd 0x60000000 160 ([0x00020000, 2, 7, 0] ++ stepEntry 0 ++ stepEntry 14)
def loadTail : MbCmd := cmd 0x60000000 96 ([0x00020001, 1, 7, 0] ++ stepEntry 14)

theorem wit_rcpLoad :
    Granted 0x0401 1 loadAll (ready .operate) ∧ fieldAt loadAll.params 0 31 16 = 2 ∧ fieldAt loadAll.params 4 1 0 = 2
      ∧ loadAll.length.toNat = 32 + 64 * 2 ∧ ((ready .operate).slotOf 0).state = .verified
      ∧ loadFault loadAll.params ((ready .operate).slotOf 0) = none ∧ (0x60000000#32 = slotTarget 0) := by decide +kernel

theorem wit_rcpLoad_space : stepBlocks 2 ≤ (ready .operate).freeBlocks + ((ready .operate).slotOf 0).blocks := by decide +kernel

/-- The slot with its first entry written. -/
def loadingSlot : State := (ready .operate).updSlot 0 fun x => { x with
  state := .loading
  steps := [some (stepEntry 0), none] }

theorem wit_rcpLoad_next :
    fieldAt loadTail.params 0 15 0 = 1 ∧ fieldAt loadTail.params 4 1 0 = 1 ∧ (loadingSlot.slotOf 0).state = .loading
      ∧ loadFault loadTail.params (loadingSlot.slotOf 0) = none ∧ (loadingSlot.slotOf 0).steps.length = (loadingSlot.slotOf 0).total := by
  decide +kernel

theorem wit_rcpVerify :
    Granted 0x0402 1 (cmd 0x60000000 16 []) (ready .operate)
      ∧ 1 ≤ ((ready .operate).takeOff 0x0402 (cmd 0x60000000 16 [])).quire.quotaFree 0 := by decide +kernel

/-- A piece of mailbox 0 in service for slot 0, LOADED with the given steps. -/
def piece (l : List (Option Block)) : State :=
  ((onEngine3 (.verifyPiece 0) (ready .operate)).updMb 0 fun b => { b with
    verify := some { tag := 4, quiet := false, slot := 0, next := 0, spoiled := none } }).updSlot 0 fun x => { x with
    state := .loaded
    steps := l }

/-- A CC charge step that ends after 1 s. -/
def ccStep : Block :=
  [1, 1000, 0, 0, 0x7FFFFFFF#32, 0x80000000#32, 0x7FFFFFFF#32, 0x7FFF, 0x11, 1000, 0, 0, 0, 0, 0, 0].set 0 (0x00F00001#32)

theorem wit_rcpVerifyPiece :
    let s := piece [some ccStep, some ((stepEntry 14).set 0 0x00F0000E#32 |>.set 4 0 |>.set 5 0 |>.set 6 0 |>.set 7 0)]
    (s.quire.items.find? fun i => i.state == .inService && i.work == .verifyPiece 0).isSome = true ∧ (s.slotOf 0).state = .loaded
      ∧ vkScan (s.slotOf 0).entries ((s.slotOf 0).entries.length - 0) 0 = none ∧ unreachable_ (s.slotOf 0).entries = none
      ∧ (s.mbox 0).working ≠ 0 ∧ (s.mbox 0).discard = 0 := by decide +kernel

theorem wit_rcpVerifyPiece_users : (piece []).slotUsers 0 = 0 := by decide +kernel

theorem wit_rcpVerifyPiece_bad :
    let s := piece [some (stepEntry 0), some (stepEntry 0)]
    vkScan (s.slotOf 0).entries (min 4 ((s.slotOf 0).entries.length - 0)) 0 = some (0, 7) := by decide +kernel

theorem wit_rcpDelete :
    Granted 0x0403 1 (cmd 0x60000000 16 []) (ready .operate) ∧ ((ready .operate).slotOf 0).state = .verified := by decide +kernel

theorem wit_rcpList : Granted 0x0404 0 (cmd 0 20 [0x3FF]) up ∧ NoReserved (cmd 0 20 [0x3FF]) [(0, 0xFFFFFC00)] := by decide

/-! ### Witnesses: loop commands, evaluations, boundaries -/

theorem wit_loopSet :
    Granted 0x0501 2 (cmd 0x10000000 80 (goodSet.set 0 3)) (ready .engineer) ∧ badSet (goodSet.set 0 3) = none
      ∧ ((ready .engineer).ch 0).state = .off ∧ (heldRun.ch 0).state = .held
      ∧ (heldRun.slotOf (cfSlot (heldRun.ch 0).cfg)).setsNamed.contains 3 = false
      ∧ setBounds (heldRun.ch 0).cfg ((heldRun.hlimOf 0).getD []) (blockFit 16 goodSet) = true := by decide +kernel

theorem wit_loopGet :
    Granted 0x0502 1 (cmd 0x10000000 20 [0x103]) armed ∧ NoReserved (cmd 0x10000000 20 [0x103]) [(0, 0xFFFFFEFC)]
      ∧ bitAt (cmd 0x10000000 20 [0x103]).params 0 8 = true ∧ Granted 0x0502 0 (cmd 0x10000000 20 [0]) up := by decide +kernel

/-- TUNE_INJECT of a PRBS of 7 stages at CC 1 mA with unit 31. -/
def tuneCmd : MbCmd := cmd 0x10000000 56 [0x1F000000, 1000, 0, 0, 0, 0, 7, 0, 100, 1000]

theorem wit_tuneInject :
    let s := chan0 .engineer .configured
    Granted 0x0503 2 tuneCmd s ∧ tuneField tuneCmd.params = none ∧ s.channelLock 0 = none ∧ ampOk (s.ch 0).cfg tuneCmd.params = true
      ∧ freqFault (s.ch 0).cfg tuneCmd.params = none ∧ opOk ((s.hlimOf 0).getD []) tuneCmd.params = true ∧ cfFixed (s.ch 0).cfg = true
      ∧ (s.ch 0).sets.getD (tnSet tuneCmd.params) none ≠ none ∧ (s.unit (tnUnit tuneCmd.params)).state = .idle
      ∧ (s.unit (tnUnit tuneCmd.params)).holder = none
      ∧ s.poolUsed - (s.unit (tnUnit tuneCmd.params)).pages + (s.unit (tnUnit tuneCmd.params)).tunePages ≤ 256 := by decide +kernel

/-- A loop sample of channel 0 waits in its group's queue, before one of channel 1. -/
def sampled (v : Int) (s : State) : State := s.updGrp 0 fun g => { g with
  accepted := [(0, { v := v, i := 0, time := 0, era := 0, tick := 0 }), (1, { v := 0, i := 0, time := 0, era := 0, tick := 0 })] }

/-- Channel 0 in TUNE with a sample. -/
def tuning : State := (sampled 0 (chan0 .engineer .tune)).updCh 0 fun c => { c with
  tune := some { cmd := blockFit 10 tuneCmd.params, from_ := .configured, k := 0, prbs := 127, analysed := [], n := 0, aborted := false,
                 injecting := true, finished := false } }

theorem wit_tuneStop :
    Granted 0x0504 2 (cmd 0x10000000 16 []) tuning ∧ (tuning.ch 0).state = .tune ∧ (tuning.ch 0).tune.map (fun u => u.from_) = some .configured := by
  decide +kernel

theorem wit_law : csDmin goodSet ≤ csDmax goodSet := by decide

/-- Channel 0 RUNNING in its REST step with a sample. -/
def fresh (v : Int) : State := (sampled v (chan0 .operate .running)).updCh 0 fun c => { c with
  run := { c.run with cur := some ((stepEntry 0).set 4 400000#32) } }

theorem wit_evaluation :
    let s := fresh 370000
    s.servingNib (groupOf 0).val = some 0 ∧ (s.nextSample 0).map (fun y => (y.1.v, y.1.i)) = some (370000, 0) ∧ s.skipsAt 0 = none
      ∧ s.nextSample 1 = none ∧ s.nibs.takeovers = [] ∧ s.nibs.handovers = [] ∧ (s.ch 0).drive.owed = [] ∧ (s.ch 0).state = .running ∧ s.rst.flushing = none
      ∧ s.rst.pfailSeq = false ∧ (s.ch 0).meas.holdDue = false ∧ cfFixed (s.ch 0).cfg = true
      ∧ brokenGuard ((s.ch 0).run.cur.getD []) 370000 0 (s.tempOf 0) = none
      ∧ (s.ch 0).acc.st + loopTicks (s.ch 0).cfg < msTicks := by decide +kernel

theorem wit_evaluation_guard :
    let s := fresh 400001
    (s.nextSample 0).map (fun y => y.1.v) = some 400001
      ∧ brokenGuard ((s.ch 0).run.cur.getD []) 400001 0 (s.tempOf 0) = some (0, 400001) := by decide +kernel

theorem wit_evaluation_tune :
    tuning.servingNib (groupOf 0).val = some 0 ∧ (tuning.nextSample 0).isSome = true ∧ tuning.skipsAt 0 = none ∧ (tuning.ch 0).tune.isSome = true
      ∧ (tuning.ch 0).state.active = true ∧ (tuning.ch 0).meas.holdDue = false := by decide +kernel

/-- The handover of group 0 to Nib 17: the evaluation of channel 0 is skipped. -/
theorem wit_evaluation_skip :
    let s := { fresh 370000 with nibs := { (fresh 370000).nibs with handovers := [{ group := 0, nib := 17, left := some [0] }] } }
    s.skipsAt 0 = some { group := 0, nib := 17, left := some [0] } ∧ s.servingNib (groupOf 0).val = some 0 ∧ (s.nextSample 0).isSome = true := by
  decide +kernel

theorem wit_boundary :
    let s := (chan0 .operate .running).updCh 0 fun c => { c with
      run := { c.run with next := some { src := 1, index := 1, entry := stepEntry 14, ctrs := [0, 0, 0, 0] } } }
    ((s.ch 0).run.next.map fun l => (l.src, stType l.entry)) = some (1, tEND) ∧ stType (stepEntry 0) ≠ tEND
      ∧ (s.ink.waiting.filter fun x => x.producer == (0 : Fin 256).val).length < 8 ∧ (heldRun.ch 0).run.next = none := by decide +kernel

/-! ### Witnesses: the Quire, checkpoints, Nibs, the Folio -/

/-- An item of channel 0's flow. -/
def item0 (st : ItemState) (uid : Nat) : Item :=
  { uid := uid, flow := 0, target := .ductus, prio := 1, work := .preload 0, due := 1, producer := .nib 0, handle := uid, state := st,
    readyNo := 0, requeued := false, block := 0 }

/-- A state with the given items. -/
def withItems (l : List Item) : State := { up with quire := { up.quire with items := l } }

theorem wit_postAck :
    let s := withItems [item0 .ready 1, item0 .held 2]
    (s.quire.items.find? fun i => !i.live && shareKey i.producer == shareKey (.nib 5)) = some (item0 .held 2)
      ∧ s.quire.used (.nib 5) < shareSize (.nib 5) := by decide

theorem wit_postAck_full :
    let l := (List.range 128).map fun i => { item0 .waiting i with producer := .pounce 3 }
    shareSize (.pounce 3) ≤ (withItems l).quire.used (.pounce 3) := by decide +kernel

theorem wit_itemDue :
    let it : Item := { item0 .delayed 1 with late := true }
    let s := { withItems [it, { item0 .delayed 2 with flow := 1 }] with now := 5000 }
    (s.quire.items.find? fun i => i.uid == 1 && i.state == .delayed) = some it ∧ s.quire.nextDue it = true
      ∧ it.due ≤ s.quire.tick s.now ∧ ¬ (it.due + 1 < s.quire.tick s.now) ∧ it.due + 1 < s.quire.tick 7500
      ∧ (∀ i ∈ s.quire.items, i.uid = 1 → i = it) ∧ (s.quire.items.find? fun i => i.live && i.flow == it.flow) = some it
      ∧ s.quire.nextDue { item0 .delayed 2 with flow := 1 } = false ∧ s.quire.tick 2499 < it.due := by decide

theorem wit_dispatch :
    let s := withItems [item0 .ready 1]
    (7 : Fin 64).val < serviceSlots .ductus ∧ (∀ i ∈ s.quire.items, ¬ (i.state = .inService ∧ i.target = .ductus ∧ i.block = 7))
      ∧ s.asked .ductus 7 = false ∧ s.quire.choose .ductus = some (item0 .ready 1, false) ∧ (∀ i ∈ s.quire.items, i.prio < 4)
      ∧ vgetD s.quire.streak (targetCode .ductus) 0 < 63 ∧ up.quire.choose .ductus = none := by decide

theorem wit_dispatch_uncorrectable :
    (ReadOutcome.uncorrectable ≠ .corrected) ∧ (ReadOutcome.corrected ≠ .uncorrectable)
      ∧ ((withItems [item0 .ready 1]).quire.choose .ductus).isSome = true := by decide

/-- Channel 0 with a pending checkpoint and one good copy. -/
def ckptDue (b : Bool) : State := ((chan0 .operate .running).ckpt 0 2).updChv 0 fun v =>
  if b then { v with ckB := .good [9] } else { v with ckA := .good [0xFFFFFFFF#32] }

theorem wit_checkpoint :
    newestCopy ((ckptDue false).chv 0) = some (0, [0xFFFFFFFF#32]) ∧ newestCopy ((ckptDue true).chv 0) = some (1, [9])
      ∧ (ckptDue true).ckptTurn 0 = true ∧ ((ckptDue true).ckpt 64 2).ckptTurn 64 = false
      ∧ ((ckptDue true).ch 0).ckptReq.isSome = true ∧ (ckptDue true).rst.flushing = none ∧ (up.ch 0).ckptReq = none
      ∧ (ckptDue true).servingNib (groupOf 0).val = some 0 ∧ ((ckptDue true).ch 0).state.active = true := by decide +kernel

/-- A takeover of group 0 by N17 after a fault of N0. -/
def faulted : State := (chan0 .operate .running).nibFault 0 false

theorem wit_takeover :
    (faulted.nibs.takeovers.find? fun y => y.group == Fin.ofNat 17 (0 : Fin 16).val && y.waiting.isNone) = some { group := 0, old := 0, spare := 17, since := 0 }
      ∧ (faulted.nibOf 0).role = .fenced ∧ (faulted.nibOf 0).revertTo = none ∧ (faulted.ch 0).state = .running := by decide +kernel

/-- The new Nib of group 0 has passed: the gap ends with the first word of channel 0, the one channel under way. -/
theorem wit_firstWord :
    let y : Takeover := { group := 0, old := 0, spare := 17, since := 0, waiting := some [0] }
    let s := { chan0 .operate .running with nibs := { (chan0 .operate .running).nibs with takeovers := [y] } }
    s.nibs.takeovers = [y] ∧ y.group = (groupOf 0).castSucc ∧ y.waiting = some [0] ∧ faulted.activeOf 0 = [0] ∧ up.activeOf 0 = [] := by
  decide +kernel

theorem wit_revert :
    let s := ((up.updNib 3 fun x => { x with
      role := .fenced
      revertTo := some 3
      group := none }).updNib 18 fun x => { x with
      role := .active
      group := some 3 })
    (List.finRange 20).find? (fun k => (s.nibOf k).role == .fenced && (s.nibOf k).revertTo == some (3 : Fin 17)) = some 3
      ∧ (∀ y ∈ s.nibs.handovers, y.group ≠ 3) ∧ s.ranOut (.revert 3) = true ∧ s.activeOf 3 = []
      ∧ { s with timers := [(Timer.revert 3, 1)] }.now < 1 ∧ (∀ y ∈ s.nibs.takeovers, y.group ≠ 3) ∧ s.servingNib (3 : Fin 17).val = some 18 := by decide +kernel

theorem wit_flush : ({ up with rst := { up.rst with flushing := some .ctlF } } : State).rst.flushing = some .ctlF ∧ up.rst.flushing = none
    ∧ up.ranOut .flush = true ∧ (Timer.flush, 50000) ∈ { up with timers := [(Timer.flush, 50000)] }.timers ∧ up.now < 50000 := by
  decide

/-- The Folio with the given cores, the release complete. -/
def withCores (l : List CoreRole) (code : Nat) : State :=
  { up with
    folio := { up.folio with
      cores := l
      code := code }
    rst := { up.rst with
      sources := []
      stage := 12 } }

theorem wit_vote :
    (withCores [.vote, .vote, .vote, .spare] 2).folio.cores = [.vote, .vote, .vote, .spare]
      ∧ (withCores [.vote, .vote, .vote, .spare] 2).folio.code = 2 ∧ (withCores [.vote, .vote, .isolated, .retired] 3).folio.code = 3
      ∧ (withCores [.vote, .vote, .isolated, .retired] 3).rst.stage = 12 ∧ (withCores [.vote, .vote, .isolated, .retired] 3).rst.power = .run
      ∧ (withCores [.vote, .vote, .isolated, .retired] 3).rst.sources = [] ∧ (0 : Nat) ≠ 1 := by decide

theorem wit_spareJoined :
    (List.range 4).find? (fun j => (withCores [.vote, .vote, .isolated, .booting] 3).folio.cores.getD j .retired == .booting) = some (3 : Fin 4).val
      ∧ (withCores [.vote, .vote, .isolated, .booting] 3).folio.code = 3
      ∧ (withCores [.vote, .vote, .isolated, .booting] 3).folio.cores.length = 4 := by decide

theorem wit_coreSelftest :
    (withCores [.vote, .isolated, .vote, .vote] 2).folio.cores.getD (1 : Fin 4).val .retired = .isolated
      ∧ (withCores [.vote, .isolated, .vote, .vote] 2).folio.voters.length = 3 := by decide

/-- The Folio boots: after a reset of reach C, or with the channels still to be restored. -/
def booting (restored : Bool) : State :=
  { up with
    folio := { up.folio with
      copyOk := true
      mbReady := false
      code := 1
      cores := [.vote, .vote, .vote, .spare]
      restored := restored }
    rst := { up.rst with
      sources := []
      stage := 11 } }

theorem wit_bootDone :
    (booting true).rst.stage = 11 ∧ (booting true).folio.copyOk = true ∧ (booting true).folio.loader = none ∧ (booting true).rst.sources = []
      ∧ (booting true).folio.mbReady = false ∧ (booting true).folio.restored = true ∧ 2 ≤ (booting true).folio.voters.length
      ∧ (booting true).rst.after = [] ∧ (booting false).folio.restored = false ∧ (booting false).rst.pfailLow = false
      ∧ (∀ f, ((booting false).dieOf f).activePins = 0) := by decide

/-! ### Witnesses: Pounce units -/

/-- An ACQ_CONFIG block: one signal, FIXED tick 1 µs, PRE 2, POST 3, one page, a slot of S0 that triggers on term 0, always true, and a
stream with the mode bits `md`. -/
def acqBlock (w0 : Word) (tri : Word) : Block :=
  (((((((List.replicate 60 (0 : Word)).set 0 w0).set 1 1).set 2 2).set 3 3).set 4 1).set 13 1).set 37 tri
def circ : Block := acqBlock 0x00011000#32 0x80010000#32

/-- Unit 0 with the block `c`, in state `x`, with a tick due now, as changed by `h`. -/
def acqUnit (a : Authority) (c : Block) (x : AcqState) (h : Pounce → Pounce) : State :=
  (upAt a).updUnit 0 fun p => h { p with
    cfg := c
    tickAt := some 0
    state := x }

theorem wit_acqConfig :
    Granted 0x0601 1 (cmd 0x50000000 256 circ) (upAt .operate) ∧ NoReserved (cmd 0x50000000 256 circ) aqReserved
      ∧ ((upAt .operate).unit 0).state = .idle ∧ ((upAt .operate).unit 0).holder = none := by decide +kernel

theorem wit_acqArm :
    Granted 0x0602 1 (cmd 0x50000000 16 []) (acqUnit .operate circ .configured id)
      ∧ armFail 1 ((acqUnit .operate circ .configured id).armChecks 0) = none := by decide +kernel

theorem wit_acqArm_refused : armFail 1 ((acqUnit .operate (circ.set 4 0) .configured id).armChecks 0) = some (12, 0x0301) := by
  decide +kernel

theorem wit_acqForce : Granted 0x0603 1 (cmd 0x50000000 16 []) (acqUnit .operate circ .armed id) := by decide +kernel
theorem wit_acqStop : Granted 0x0604 1 (cmd 0x50000000 16 []) (acqUnit .operate circ .triggered id) := by decide +kernel

theorem wit_acqRead :
    Granted 0x0605 0 (cmd 0x50000000 28 [0, 0, 0]) up ∧ Granted 0x0605 1 (cmd 0x50000000 28 [2, 0, 0]) (acqUnit .operate circ .complete id)
      ∧ NoReserved (cmd 0x50000000 28 [0x702, 0, 0]) [(0, 0xFFFFF8FC)]
      ∧ 1 ≤ (acqUnit .operate circ .complete id).quire.quotaFree 0 := by decide +kernel

/-- Unit 0 ARMED with room for 3 sets; its term 0 asks for a signal above `lv`. -/
def acqArmed (lv : Word) : State :=
  acqUnit .operate ((circ.set 13 2).set 14 lv) .armed fun p => { p with free := 3 }

theorem wit_acqTick_armed :
    let s := acqArmed 5
    s.tickDue 0 = true ∧ (s.updUnit 0 fun p => { p with tickAt := some 1 }).tickDue 0 = false
      ∧ ((s.unit 0).ripen (s.takeSet (s.unit 0)).at64).fires (s.takeSet (s.unit 0)).vals = none ∧ (s.unit 0).ticks % 2 ^ aqDec0 (s.unit 0).cfg = 0
      ∧ (s.unit 0).ring.length ≤ aqPre (s.unit 0).cfg ∧ 0 < aqPre (s.unit 0).cfg ∧ s.rst.pfailSeq = false := by decide +kernel

theorem wit_acqTick_trigger :
    let s := acqArmed 0xFFFFFFFF#32
    s.tickDue 0 = true ∧ ((s.unit 0).ripen (s.takeSet (s.unit 0)).at64).fires (s.takeSet (s.unit 0)).vals = some (0, 0x80010000#32) ∧ bit 0x80010000#32 16 = true ∧ 1 < aqPost (s.unit 0).cfg
      ∧ 0 < (s.unit 0).free ∧ aqPost (s.unit 0).cfg ≤ (s.unit 0).free * 2 ^ (s.unit 0).d := by decide +kernel

theorem wit_acqTick_full :
    let s := acqUnit .operate (circ.set 0 1) .streaming id
    capSets (s.unit 0).pages (aqNsig (s.unit 0).cfg) ≤ (s.unit 0).stream.length ∧ (s.unit 0).ticks % 2 ^ (s.unit 0).d = 0 := by decide +kernel

theorem wit_acqTick_room :
    let s := acqUnit .operate (circ.set 0 0x00010001#32) .streaming fun p => { p with pages := 1 }
    s.tickDue 0 = true ∧ (s.unit 0).stream.length < capSets (s.unit 0).pages (aqNsig (s.unit 0).cfg)
      ∧ (s.unit 0).ticks % 2 ^ (s.unit 0).d = 0 := by decide +kernel

theorem wit_acqTimer :
    let s := acqUnit .operate circ .armed fun p => { p with tmr := [some 9, none] }
    (s.unit 0).ripe (s.unitNow 0) 0 = false ∧ ({ s with now := 1 }.unit 0).ripe ({ s with now := 1 }.unitNow 0) 0 = true
      ∧ (s.unit 0).ripe (s.unitNow 0) 1 = false := by decide +kernel

theorem wit_acqComplete :
    let s := acqUnit .operate circ .complete id
    (s.unit 0).state = .complete ∧ (s.unit 0).measured = false ∧ aqDeliver (s.unit 0).cfg = true := by decide +kernel

theorem wit_acqComplete_error :
    let s := acqUnit .operate circ .complete fun p => { p with
      stored := 1
      post := [{ vals := [4], t := 0, era := 0, at64 := 0, d := 0, j := 0 }] }
    let e : SetError := { index := 0, signal := 0, value := 7, page := 0 }
    (s.unit 0).state = .complete ∧ (s.unit 0).measured = false ∧ e.index < (s.unit 0).ring.length + (s.unit 0).post.length
      ∧ e.signal.val < aqNsig (s.unit 0).cfg := by decide +kernel

theorem wit_acqPageHandover :
    let s := acqUnit .operate circ .streaming fun p => { p with
      stored := 1
      stream := [{ vals := [4], t := 0, era := 0, at64 := 0, d := 0, j := 0 }] }
    0 < aqNsig (s.unit 0).cfg ∧ (s.unit 0).handed < (s.unit 0).stream.length := by decide +kernel

/-! ### Witnesses: the Inkwell -/

/-- A PERIODIC record of 120 bytes of a channel, and a stored one. -/
def periodic (n : Nat) : Rec := { typ := 1, source := n, era := 0, time := 0, len := 15, body := [] }
def held_ (q : Nat) (o : List Nat) : Stored := { seq := q, page := q, owed := o, thin := 0, off := 0, rec_ := periodic 0 }

/-- `up` with its DRAM usable and the Inkwell as changed by `h`. -/
def inked (h : Inkwell → Inkwell) : State :=
  { upAt .operate with ink := h { (upAt .operate).ink with dramOk := true } }

/-- `inked` with stream 0 open as `h` says. -/
def streaming (l : List Stored) (h : Stream → Stream) : State :=
  (inked fun k => { k with store := l }).updStream 0 fun st => h { st with open_ := true }

/-- REC_STREAM_OPEN of stream 0 on the fabric for PERIODIC records. -/
def openCmd (w0 : Word) : MbCmd := cmd 0 40 [w0, 2, 0xFFFF, 0, 9, 100]

theorem wit_streamOpen :
    let s := inked id
    let m := openCmd 0x10
    Granted 0x0702 1 m s ∧ 0 = fieldAt m.params 0 1 0 ∧ s.ink.dramOk = true ∧ bitAt m.params 0 8 = false
      ∧ NoReserved m [(0, 0xFFFFFEEC), (4, 0xFFFFFF81), (8, 0xFFFF0000), (16, 0xFFFF0000), (20, 0xFFFE0000)]
      ∧ (s.stream 0).open_ = false ∧ natAt m.params 4 ≠ 0 ∧ 10 ≤ fieldAt m.params 20 15 0 ∧ fieldAt m.params 20 15 0 ≤ 10000
      ∧ bitAt m.params 0 4 = true ∧ 1 ≤ natAt m.params 16 ∧ natAt m.params 16 ≤ 0x0FFF
      ∧ bitAt (openCmd 0).params 0 4 = false ∧ (((inked id).updStream 0 fun st => { st with ctl := 0x80000004#32 }).stream 0).ringSet = true := by
  decide +kernel

/-- A PCIe stream that opens with its ring set up takes the descriptor in front for the records it owes. -/
def ring1 (st : Stream) : Stream := { st with
  ctl := 0x80000004#32
  ringTail := 1
  ring := [(0, { addr := 4096, size := 4096, own := true })] }

theorem wit_streamOpen_pcie :
    let s := (inked fun k => { k with store := [held_ 4 []] }).updStream 0 ring1
    let s' := { s with
      rst := { s.rst with
        sources := []
        stage := 12 } }
    s'.hostOut = false ∧ (s'.stream 0).buf = none ∧ (s'.stream 0).ringSet = true
      ∧ (s'.stream 0).nextDesc = some { addr := 4096, size := 4096, own := true } ∧ up.hostOut = true := by decide +kernel

theorem wit_streamClose :
    let s := streaming [] id
    Granted 0x0702 1 (openCmd 0x100) s ∧ bitAt (openCmd 0x100).params 0 8 = true ∧ NoReserved (openCmd 0x100) [(0, 0xFFFFFEEC)]
      ∧ (s.stream 0).open_ = true := by decide +kernel

theorem wit_recStatus : Granted 0x0703 0 (cmd 0 16 []) (inked id) ∧ (inked id).ink.dramOk = true ∧ up.ink.dramOk = false := by decide +kernel

theorem wit_recordStore :
    let s := inked fun k => { k with waiting := [periodic 3] }
    s.ink.waiting = [periodic 3] ∧ s.ink.dramOk = true ∧ s.rst.pfailSeq = false ∧ (3, 0) ∉ s.rst.block
      ∧ s.ink.place (periodic 3).bytes = some (0, 0) ∧ up.ink.waiting = [] := by decide +kernel

theorem wit_recordStore_full :
    let s := { inked fun k => { k with waiting := [periodic 3] } with rst := { up.rst with block := [(3, 0)] } }
    (3, 0) ∈ s.rst.block ∧ s.ink.waiting = [periodic 3] := by decide +kernel

theorem findPage_none (k : Inkwell) (h : ∀ q < storePages, k.retired.contains q = true) (n p : Nat) : k.findPage n p = none := by
  induction n generalizing p with
  | zero => rfl
  | succ n ih => rw [Inkwell.findPage, h _ (Nat.mod_lt p (by decide)), Bool.true_or, if_pos rfl, ih]

theorem place_none (k : Inkwell) (h : ∀ q < storePages, k.retired.contains q = true) (hp : k.page < storePages) (n : Nat) :
    k.place n = none := by
  rw [Inkwell.place, h _ hp, findPage_none k h]
  simp

/-- A store whose pages are all retired has no place for a record. -/
theorem wit_recordStore_none (r : List Nat) (h : r = List.range storePages) :
    (inked fun k => { k with
      waiting := [periodic 3]
      retired := r }).ink.place (periodic 3).bytes = none :=
  place_none _ (fun q hq => by
    show r.contains q = true
    rw [h]
    exact List.contains_iff_mem.mpr (List.mem_range.mpr hq)) (by decide : 0 < storePages) _

theorem wit_thinning_loose :
    let s := inked fun k => { k with
      thinReserve := 930020
      store := [held_ 0 [], held_ 1 [0]] }
    s.ink.freePages < s.ink.thinReserve ∧ s.ink.store.any Stored.loose = true := by decide +kernel

theorem wit_thinning_pairs :
    let s := inked fun k => { k with
      thinReserve := 930020
      store := [held_ 0 [0], held_ 1 [0]] }
    s.ink.freePages < s.ink.thinReserve ∧ s.ink.store.any Stored.loose = false ∧ s.ink.thinPlan = [(0, 1)] := by decide +kernel

theorem wit_thinning_none : up.ink.thinReserve ≤ up.ink.freePages ∧ up.ink.thinning = false := by decide +kernel

/-- Data bytes 0 to n − 1 of a codeword. -/
def wrong (n : Nat) : List (Fin 128) := (List.range n).map fun i => Fin.ofNat 128 i

theorem wit_scrub : (inked id).ink.dramOk = true ∧ 5 < storePages ∧ 5 ∉ (inked id).ink.retired ∧ wrongBytes (wrong 1) [] = 1
    ∧ wrongBytes (wrong 3) [15] = 4 ∧ wrongBytes (wrong 4) [0, 0] = 5 ∧ wrongBytes (wrong 7) [0, 0] = 8 ∧ wrongBytes (wrong 8) [0, 0] = 9
    ∧ (5, 63) ∉ (inked id).ink.fiveTwice ∧ (5, 63) ∈ (inked fun k => { k with fiveTwice := [(5, 63)] }).ink.fiveTwice := by
  decide +kernel

theorem wit_bufferReturn :
    let b : StreamBuf := { desc := 0, addr := 4096, size := 4096, since := 0, seqs := [4], words := [] }
    let u := streaming [held_ 4 [0]] fun st => { ring1 st with
      buf := some b
      sent := some 4 }
    let s := u.readDesc 0 0 { addr := 4096, size := 4096, own := true }
    let t := { s with
      now := 250000
      rst := { s.rst with
        sources := []
        stage := 12 } }
    s.fillOne 0 = none ∧ t.fillOne 0 = none ∧ (t.stream 0).buf = some b ∧ t.bufferDue 0 = true ∧ t.hostOut = false
      ∧ { t with now := 249999 }.bufferDue 0 = false ∧ s.hostOut = true := by decide +kernel

theorem wit_frameSend :
    let s := streaming [held_ 4 [0]] fun st => { st with fabric := true }
    (s.stream 0).fabric = true ∧ (s.toSend 0).head? = some (held_ 4 [0]) ∧ (held_ 4 [0]).rec_.bytes ≤ 1464 := by decide +kernel

theorem wit_resend :
    let s := streaming [held_ 4 [0]] fun st => { st with
      fabric := true
      retx := 10
      sent := some 4 }
    (s.stream 0).progress + (s.stream 0).retx * 250000 ≤ 2500000 ∧ s.now < (s.stream 0).progress + (s.stream 0).retx * 250000
      ∧ (s.ink.store.find? fun x => x.owed.contains 0) = some (held_ 4 [0]) ∧ (s.stream 0).sent.isSome = true
      ∧ (∀ y ∈ s.toSend 0, y.seq ≠ (held_ 4 [0]).seq) := by decide +kernel

/-! ### Witnesses: axes -/

/-- An AX_CONFIG block that passes AK01 to AK17; `w0` holds ENABLE. -/
def axBlock (w0 : Word) : Block :=
  [w0, 0x00011F40#32, 100000, 1000, 100, 100, 1000, 1000, 1000, 0, 5, 0x00010101#32, 0, 0, 0x20000000#32, 0, 0, 0x00010000#32, 0, 0]

/-- Axis 0 with limits, its board tested, the configuration `axBlock`, in state `x`, as changed by `h`. -/
def axis0 (x : AxState) (h : Axis → Axis) : State :=
  (upAt .engineer).updAx 0 fun y => h { y with
    state := x
    cfg := axBlock 0x39#32
    hlim := some (sealed [2000, 2000, 0])
    coilA := { y.coilA with testOk := true }
    coilB := { y.coilB with testOk := true } }

theorem wit_axConfig :
    let s := axis0 .disabled id
    Granted 0x0801 2 (cmd 0x30000000 96 (axBlock 1)) s ∧ (s.ax 0).state = .disabled ∧ NoReserved (cmd 0x30000000 96 (axBlock 1)) acReserved
      ∧ acEnable (blockFit 20 (axBlock 1)) = true ∧ acEnable (blockFit 20 (axBlock 0)) = false
      ∧ firstFail 1 ((s.updAx 0 fun x => { x with cfg := blockFit 20 (axBlock 1) }).axChecks 0) = none
      ∧ firstFail 1 ((s.updAx 0 fun x => { x with cfg := blockFit 20 ((axBlock 1).set 6 3000) }).axChecks 0) = some (8, 0x0401) := by
  decide +kernel

theorem wit_axConfig_off :
    Granted 0x0801 2 (cmd 0x30000000 96 (axBlock 0)) (axis0 .idle id) ∧ NoReserved (cmd 0x30000000 96 (axBlock 0)) acReserved := by decide +kernel

theorem wit_axTableLoad :
    let s := axis0 .disabled id
    let m := cmd 0x30000000 148 (3#32 :: List.replicate 32 0xFFFFFFFF#32)
    Granted 0x0802 2 m s ∧ NoReserved m [(0, 0xFFFFFFFC)] ∧ fieldAt m.params 0 1 0 = 3
      ∧ tableFault ((s.ax 0).quarter 0 ++ (s.ax 0).quarter 1 ++ (s.ax 0).quarter 2 ++ chunkEntries m.params) = none
      ∧ fieldAt (cmd 0x30000000 148 [2]).params 0 1 0 < 3 := by decide +kernel

theorem wit_axTableLoad_bad :
    let s := axis0 .disabled id
    tableFault ((s.ax 0).quarter 0 ++ (s.ax 0).quarter 1 ++ (s.ax 0).quarter 2 ++ chunkEntries [3]) = some 191 := by decide +kernel

theorem wit_axMove :
    let s := axis0 .idle id
    let m := cmd 0x30000000 28 [0, 500, 0]
    Granted 0x0804 1 m s ∧ s.linear.any (Linear.has 0) = false ∧ NoReserved m [(0, 0xFFFFFFFE)] ∧ s.axisLock 0 = none
      ∧ natAt m.params 8 ≤ acVmax (s.ax 0).cfg ∧ (s.ax 0).softOut 500 = false ∧ (s.ax 0).limitRefusal 500 = none
      ∧ 500 = intAt m.params 4 ∧ (s.ax 0).encBad = false := by decide +kernel

theorem wit_axMoveLinear :
    let s := axis0 .idle id
    let t := s.updAx 1 fun _ => s.ax 0
    let m := cmd 0x40000003 48 [500, 300]
    Granted 0x0805 1 m t ∧ tgtOf m.target = .axes 3 ∧ axisMask m.target = [0, 1]
      ∧ (∀ a ∈ axisMask m.target, ((t.ax a).state = .idle ∨ (t.ax a).state = .standstill) ∧ t.axisLock a = none
        ∧ (t.ax a).softOut (intAt m.params (4 * a.val)) = false ∧ (t.ax a).limitRefusal (intAt m.params (4 * a.val)) = none
        ∧ ¬ ((t.ax a).state = .standstill ∧ (t.ax a).ssMode ≠ 0 ∧ (t.ax a).encBad = true)) := by decide +kernel

/-- AX_HOME by the home switch, both speeds 100, MAX_TRAVEL 1,000. -/
def homeCmd (w0 : Word) : MbCmd := cmd 0x30000000 40 [w0, 100, 100, 0, 0, 1000]

theorem wit_axHome :
    let s := axis0 .standstill id
    let m := homeCmd 3
    Granted 0x0803 1 m s ∧ NoReserved m [(0, 0xFFFFFFEC)] ∧ s.axisLock 0 = none ∧ natAt m.params 4 ≤ acVmax (s.ax 0).cfg ∧ 1 ≤ natAt m.params 8
      ∧ natAt m.params 8 ≤ natAt m.params 4 ∧ 0 ≤ intAt m.params 0xC ∧ 1 ≤ natAt m.params 0x14 ∧ fieldAt m.params 0 1 0 ≠ 1
      ∧ (s.ax 0).ssMode = 0 := by decide +kernel

theorem wit_axStop :
    Granted 0x0806 1 (cmd 0x30000000 20 [1]) (axis0 .moving id) ∧ NoReserved (cmd 0x30000000 20 [1]) [(0, 0xFFFFFFFE)]
      ∧ (axis0 .moving id).linear.any (Linear.has 0) = false := by decide +kernel

theorem wit_axStandstill :
    Granted 0x0808 1 (cmd 0x30000000 20 [2]) (axis0 .idle id) ∧ NoReserved (cmd 0x30000000 20 [2]) [(0, 0xFFFFFFFC)]
      ∧ fieldAt (cmd 0x30000000 20 [2]).params 0 1 0 < 3 ∧ Granted 0x0807 0 (cmd 0x30000000 16 []) up := by decide +kernel

/-- A homing of axis 0 in phase `p`. -/
def homing (p : HomePhase) : State := axis0 .homing fun x => { x with
  homing := some { cmd := blockFit 6 (homeCmd 3).params, phase := p, travel := 0, reversed := false, origin := some 40, stallRun := 0 } }

theorem wit_axHomeDone :
    ((homing .finished).ax 0).homing.map Homing.phase = some .finished ∧ ((homing (.failed 2)).ax 0).homing.map Homing.phase = some (.failed 2)
      ∧ (homing .finished).slpDemanded 0 = false ∧ (up.ax 0).homing = none ∧ ((homing .ramp).ax 0).homing.map Homing.phase = some .ramp := by
  decide +kernel

theorem wit_axMoveDone :
    let s := axis0 .moving id
    (s.ax 0).state = .moving ∧ s.linear.find? (Linear.has 0) = none ∧ (s.ax 0).pos = (s.ax 0).target ∧ (s.ax 0).waitRamp = false := by decide +kernel

theorem wit_axIdleTimeout :
    let s := axis0 .idle id
    let n := acIdle (s.ax 0).cfg * msCycles
    (s.ax 0).state = .idle ∧ acIdle (s.ax 0).cfg ≠ 0 ∧ (s.ax 0).idleAt + n ≤ { s with now := n }.now ∧ s.now < (s.ax 0).idleAt + n := by
  decide +kernel

theorem wit_coilRamp :
    let s := axis0 .idle id
    s.now < (s.ax 0).rampAt + msCycles ∧ (s.ax 0).rampAt + msCycles ≤ { s with now := msCycles }.now := by decide +kernel

theorem wit_stepGenerator :
    let s := axis0 .moving fun x => { x with
      target := 9
      vMove := 1 }
    1 ≤ (s.ax 0).vHard ∧ 1 ≤ (s.ax 0).vMove ∧ 1 ≤ acVmax (s.ax 0).cfg ∧ (∀ j, (s.ax j).stops = []) ∧ (s.ax 0).state = .moving ∧ s.linear.find? (Linear.has 0) = none ∧ (s.ax 0).waitRamp = false ∧ (s.ax 0).vSq = 0
      ∧ (s.ax 0).target ≠ (s.ax 0).pos ∧ acEnc (s.ax 0).cfg = false := by decide +kernel

/-- A stop of axis 0 that has come to rest, whose command waits. -/
theorem wit_stopAtRest :
    let m := cmd 0x30000000 20 [1]
    let s := (axis0 .stopping fun x => { x with stops := [m] }).updMb 0 fun b => { b with working := 1 }
    (s.ax 0).state = .stopping ∧ s.linear.find? (Linear.has 0) = none ∧ (s.ax 0).waitRamp = false ∧ (s.ax 0).vSq = 0 ∧ (s.ax 0).stops = [m]
      ∧ m.rsvd = 0 ∧ (∀ j, j ≠ 0 → (s.ax j).stops = []) ∧ (s.mbox m.mb).working = 1 ∧ (s.mbox m.mb).discard = 0 := by decide +kernel

theorem wit_toIndex : ((homing .toIndex).ax 0).homing.map Homing.phase = some .toIndex := by decide +kernel

theorem wit_coilEvaluation :
    let s := axis0 .idle id
    s.servingNib 16 = some 16 ∧ (s.ax 0).looping = true ∧ acShunt (s.ax 0).cfg ≠ 0 ∧ [((4 : Int), (5 : Int)), (6, 7)].length = acK (s.ax 0).cfg := by
  decide +kernel

theorem wit_switchDebounced :
    let s := axis0 .moving fun x => { x with
      cfg := axBlock 0x39#32
      vSq := 4
      limp := { x.limp with
        raw := true
        pendingEdge := true } }
    (s.ax 0).limp.pendingEdge = true ∧ s.ranOut (.switch 0 .limp) = true
      ∧ { s with timers := [(Timer.switch 0 .limp, 1)] }.ranOut (.switch 0 .limp) = false ∧ (s.ax 0).limp.raw = acLimpPol (s.ax 0).cfg ∧ (s.ax 0).vSq ≠ 0 ∧ 0 < (s.ax 0).dir
      ∧ s.linear.any (Linear.has 0) = false ∧ ((s.ax 0).switch .limp).pendingEdge = true ∧ ((s.ax 0).switch .home).pendingEdge = false
      ∧ ((s.ax 0).switch .limp).raw ≠ false := by decide +kernel

theorem wit_encoderEdge :
    let s := axis0 .idle fun x => { x with
      cfg := ((axBlock 0x8001#32).set 15 0x01000001#32)
      encCount := -1 }
    (s.ax 0).encWatched = true ∧ acEnc (s.ax 0).cfg = true ∧ acEncTol (s.ax 0).cfg * acCpfs (s.ax 0).cfg < ((s.ax 0).encErr - 256).natAbs := by
  decide +kernel

/-! ### Witnesses: the Margin -/

/-- A safety configuration: pair 0 EQUIV, function 0 a STOP of output 0 on pair 0 and axis 0, output 0 tested. -/
def safeBody : Block :=
  ((((((List.replicate 188 (0 : Word)).set 0 1).set 4 0x00000409#32).set 5 10).set 36 0x01000001#32).set 37 1).set 180 0x00000103#32
/-- Its CRC, checked below in eight pieces. -/
def safeCrc : Word := 506816695#32
def safeCfg : Block := safeBody ++ [safeCrc]

theorem safeCrc_0 : (blockBytes ((safeBody.drop 0).take 24)).foldl crcByte 4294967295 = 4249185376 := by decide +kernel
theorem safeCrc_1 : (blockBytes ((safeBody.drop 24).take 24)).foldl crcByte 4249185376 = 3570972301 := by decide +kernel
theorem safeCrc_2 : (blockBytes ((safeBody.drop 48).take 24)).foldl crcByte 3570972301 = 2900523482 := by decide +kernel
theorem safeCrc_3 : (blockBytes ((safeBody.drop 72).take 24)).foldl crcByte 2900523482 = 3693033900 := by decide +kernel
theorem safeCrc_4 : (blockBytes ((safeBody.drop 96).take 24)).foldl crcByte 3693033900 = 1860543217 := by decide +kernel
theorem safeCrc_5 : (blockBytes ((safeBody.drop 120).take 24)).foldl crcByte 1860543217 = 601845010 := by decide +kernel
theorem safeCrc_6 : (blockBytes ((safeBody.drop 144).take 24)).foldl crcByte 601845010 = 1052874050 := by decide +kernel
theorem safeCrc_7 : (blockBytes ((safeBody.drop 168).take 24)).foldl crcByte 1052874050 = 3788150600 := by decide +kernel

theorem safeBody_pieces : safeBody = ((List.range 8).map fun i => (safeBody.drop (24 * i)).take 24).flatten := by decide +kernel

theorem blockBytes_append (a b : Block) : blockBytes (a ++ b) = blockBytes a ++ blockBytes b := List.flatMap_append

theorem safeCrc_eq : crcBlock safeBody = safeCrc := by
  have h : (blockBytes safeBody).foldl crcByte 0xFFFFFFFF = 3788150600 := by
    rw [safeBody_pieces]
    simp only [List.range, List.range.loop, List.map_cons, List.map_nil, List.flatten_cons, List.flatten_nil, List.append_nil,
      blockBytes_append, List.foldl_append, Nat.reduceMul, safeCrc_0, safeCrc_1, safeCrc_2, safeCrc_3, safeCrc_4, safeCrc_5, safeCrc_6,
      safeCrc_7]
  show w32 _ = _
  rw [h]
  rfl

theorem safeFail_last {l : List (SafeCheck × Nat)} {k off why : Nat} {b : Bool} (hb : b = true) (h : safeFail k l = none) :
    safeFail k (l ++ [([(off, b)], why)]) = none := by
  induction l generalizing k with
  | nil => simp [safeFail, hb]
  | cons x l ih =>
    simp only [List.cons_append, safeFail] at h ⊢
    split at h <;> simp_all

theorem safeCfg_body : safeCfg.take 188 = safeBody ∧ blockFit 188 safeCfg = safeBody ∧ safeCfg.getD 188 0 = safeCrc := by decide +kernel

theorem safeCfg_crc : crcOk 189 safeCfg = true := by
  unfold crcOk
  rw [show 189 - 1 = 188 from rfl, safeCfg_body.2.1, safeCfg_body.2.2, safeCrc_eq]
  decide

theorem safeCfg_checks : safeFail 1 (safeChecks safeCfg) = none :=
  safeFail_last (l := (safeChecks safeCfg).dropLast) safeCfg_crc (by decide +kernel)

/-- The Margin in state `x` with `safeCfg` stored and loaded by both channels, as changed by `h`, and mailbox 0 at SAFETY. -/
def island (x : MState) (h : Margin → Margin) : State :=
  { upAt .safety with
    margin := h { State.reset.margin with
      state := x
      inReset := false
      a := {
        stored := some safeCfg
        cfg := some safeCfg }
      b := {
        stored := some safeCfg
        cfg := some safeCfg }
      password := some [0x61, 0x62, 0x63, 0x64] } }

/-- Word 0 of a safety command with OP `op` and a password of 4 characters, and the password. -/
def safeHead (op : Word) : Block := [op + 0x40#32, 0x64636261#32, 0, 0, 0]

/-- SAFE_CFG_LOAD: a chunk of one word at offset 8. -/
def chunkCmd (pw : Word) : MbCmd := cmd 0 52 ((safeHead 0).set 1 pw ++ [0x00040008#32, 0, 0, 77])

theorem wit_safeChunk :
    let m := chunkCmd 0x64636261#32
    Granted 0x0901 3 m (island .run id) ∧ safeLenOk m = true ∧ safeOp m = 0 ∧ NoReserved m [(0, 0xFFFFFE0C), (0x1C, 0xFFFFFFE0)]
      ∧ 4 ≤ fieldAt m.params 0 8 4 ∧ fieldAt m.params 0 8 4 ≤ 16 ∧ pwBytes m.params 4 (fieldAt m.params 0 8 4) = [0x61, 0x62, 0x63, 0x64]
      ∧ safeCount m = 4 * 1 ∧ fieldAt m.params 0x14 15 0 = 4 * 2 ∧ (island .run id).margin.lockUntil = none
      ∧ pwBytes (chunkCmd 1).params 4 (fieldAt (chunkCmd 1).params 0 8 4) ≠ [0x61, 0x62, 0x63, 0x64] := by decide +kernel

/-- The commit of `safeCfg`, with `crc` as the CRC its sender formed. -/
def commitCmd (crc : Word) : MbCmd := cmd 0 48 (safeHead 1 ++ [0, crc, 0])
def stagedIsland : State := island .run fun m => { m with staged := (List.range 189).map fun i => (i, safeCfg.getD i 0) }

theorem wit_safeCommit :
    Granted 0x0901 3 (commitCmd safeCrc) stagedIsland ∧ safeLenOk (commitCmd safeCrc) = true ∧ safeOp (commitCmd safeCrc) = 1
      ∧ NoReserved (commitCmd safeCrc) [(0, 0xFFFFFE0C), (0x1C, 0xFFFFFFE0)] ∧ wordAt (commitCmd safeCrc).params 0x18 = safeCrc
      ∧ stagedIsland.margin.stagedBlock = some safeCfg := by decide +kernel

theorem wit_safeCommit_block : safeCrc = crcBlock (safeCfg.take 188) ∧ safeFail 1 (safeChecks safeCfg) = none :=
  ⟨by rw [safeCfg_body.1, safeCrc_eq], safeCfg_checks⟩

theorem wit_safePassword :
    let s := island .run fun m => { m with password := none }
    let m := cmd 0 64 ([2, 0, 0, 0, 0, 0, 0, 5])
    Granted 0x0901 3 m s ∧ safeLenOk m = true ∧ safeOp m = 2 ∧ NoReserved m [(0, 0xFFFFFE0C), (0x1C, 0xFFFFFFE0)]
      ∧ s.margin.password = none ∧ fieldAt m.params 0 8 4 = 0 ∧ fieldAt m.params 0x1C 4 0 = 5 := by decide +kernel

theorem wit_safeAccept :
    let s := island .awaitAccept fun m => { m with committed := some 9 }
    let m := cmd 0 40 (safeHead 0 ++ [9])
    Granted 0x0902 3 m s ∧ NoReserved m [(0, 0xFFFFFE0F)] ∧ wordAt m.params 0x14 = 9 ∧ s.margin.committed = some 9
      ∧ fnKind s.margin.conf 0 ≠ 0 ∧ (fnSoMask s.margin.conf 0).testBit 0 = true := by decide +kernel

theorem wit_safeReads :
    Granted 0x0903 0 (cmd 0 16 []) up ∧ Granted 0x0904 0 (cmd 0 20 [3]) up ∧ NoReserved (cmd 0 20 [3]) [(0, 0xFFFF0000)]
      ∧ Granted 0x0905 1 (cmd 0 16 []) (island .run id) := by decide +kernel

/-- A sample of a channel without a diagnostic failure, its pins without an edge. -/
def goodIn : MarginIn := {}

/-- The Margin in RUN with its configuration accepted. -/
def inRun : State := island .run fun m => { m with accepted := some safeCrc }

theorem wit_marginTick_good : (inRun.margin.read goodIn goodIn).diagCode goodIn goodIn = none := by
  have hc : ∀ w : MChan, w.cfg = some safeCfg → w.copyOk (some safeCrc) = true := by
    intro w h
    simp only [MChan.copyOk, h, safeCfg_crc, Bool.true_and]
    decide
  have ha := hc (inRun.margin.read goodIn goodIn).a rfl
  have hb := hc (inRun.margin.read goodIn goodIn).b rfl
  have hs : (inRun.margin.read goodIn goodIn).state = .run := rfl
  have hx : (inRun.margin.read goodIn goodIn).accepted = some safeCrc := rfl
  simp [Margin.diagCode, Margin.crcBad, hs, hx, ha, hb, show goodIn.supplyOk = true from rfl, show goodIn.memOk = true from rfl, show goodIn.tpOk = true from rfl]

theorem wit_marginTick :
    inRun.margin.inReset = false ∧ inRun.margin.state = .run
      ∧ (inRun.margin.read { goodIn with memOk := false } goodIn).diagCode { goodIn with memOk := false } goodIn = some 6
      ∧ ((island .unconfigured id).margin.read goodIn goodIn).diagCode goodIn goodIn = none ∧ State.reset.margin.inReset = true := by decide +kernel

theorem wit_emergencyStop :
    let s := inRun
    (s.margin.read goodIn goodIn).a.conf = s.margin.conf ∧ (s.margin.read goodIn goodIn).b.conf = s.margin.conf
      ∧ (s.margin.read goodIn goodIn).b.si.getLsbD 0 = false ∧ fnKind s.margin.conf 0 = 1 ∧ fnStop1 s.margin.conf 0 = false ∧ (fnInMask s.margin.conf 0).testBit 0 = true ∧ prType s.margin.conf 0 = 1
      ∧ (s.margin.read goodIn goodIn).a.si.getLsbD 0 = false ∧ (vget s.margin.a.fns 0).inForce = false ∧ (vget s.margin.b.fns 0).inForce = false
      ∧ (vget s.margin.a.fns 0).violated = false ∧ (vget s.margin.b.fns 0).violated = false := by decide +kernel

theorem wit_marginStarted (c : Option Word) :
    (island .starting fun m => { m with committed := c }).margin.storedCrc = some (wordAt safeCfg 0x2F0)
      ∧ (island .starting fun m => { m with b := { m.b with cfg := none } }).margin.storedCrc = none := by
  exact ⟨rfl, by decide⟩

theorem wit_testPulse :
    let s := island .run fun m => { m with a := { m.a with pairs := vset m.a.pairs 0 { vget m.a.pairs 0 with tpFailA := 1 } } }
    prType s.margin.conf 0 ≠ 0 ∧ prTest s.margin.conf 0 false = true ∧ prSource s.margin.conf 0 false = 0 ∧ (1 : BitVec 32).getLsbD 0 = true ∧ (2 : BitVec 32).getLsbD 0 = false
      ∧ s.margin.inReset = false ∧ s.ranOut (.testPulse 3) = true
      ∧ { s with timers := [(Timer.testPulse 3, 50000)] }.ranOut (.testPulse 3) = false
      ∧ (vget s.margin.a.pairs 0).tpFailA = 1 := by decide +kernel

theorem wit_outputTest :
    let s := island .run fun m => { m with
      a := { m.a with permit := 1 }
      b := { m.b with permit := 1 } }
    let t : State := { s with host := { s.host with soReq := 1 } }
    outTest t.margin.conf 0 = true ∧ t.ranOut (.fbSettle 0) = true ∧ { t with timers := [(Timer.fbSettle 0, 1)] }.ranOut (.fbSettle 0) = false
      ∧ t.ranOut (.switchTest 0 true) = true ∧ { t with timers := [(Timer.switchTest 0 true, 1)] }.ranOut (.switchTest 0 true) = false ∧ t.soPins 0 = (true, true) ∧ t.margin.reactsOn 0 = false ∧ outUsed t.margin.conf 0 = true
      ∧ t.margin.soFault.getLsbD 0 = false ∧ FbBand.mid = expectedBand (t.soPins 0) ∧ FbBand.low ≠ expectedBand (t.soPins 0) := by decide +kernel

theorem wit_stop1 :
    let s := island .run fun m => { m with a := { m.a with fns := vset m.a.fns 0 { vget m.a.fns 0 with timer := true } } }
    s.margin.fnAny FnSt.timer 0 = true ∧ s.ranOut (.stop1 0) = true ∧ { s with timers := [(Timer.stop1 0, 1)] }.ranOut (.stop1 0) = false
      ∧ up.ranOut .staging = true ∧ { up with timers := [(Timer.staging, 1)] }.ranOut .staging = false ∧ up.margin.fnAny FnSt.timer 0 = false := by decide +kernel

/-! ### Witnesses: the fabric -/

/-- `up` with address 5, a table loaded with a route to 7 by port 1, ports 0 and 1 UP and usable. -/
def linked : State :=
  let s : State := { upAt .engineer with
    fab := { (upAt .engineer).fab with
      addr := 5
      loaded := true
      routes := [(0, { dest := 7, prim := 2, alt := 0 })] } }
  (s.updPort 0 fun q => { q with lock := true, heard := some 0, up := true, usable := true }).updPort 1
    fun q => { q with lock := true, heard := some 0, up := true, usable := true }

/-- A frame of a type with the payload `w`. -/
def frame (typ : Nat) (dst src : BitVec 16) (w : Block) : Frame :=
  ({ typ := typ
     dst := dst
     src := src
     len := 4 * w.length
     bytes := padded 16 (blockBytes w) } : Frame).seal

theorem frame_payload (typ : Nat) (dst src : BitVec 16) (w : Block) : (frame typ dst src w).payload = w := Frame.payload_words _ w _ rfl rfl

theorem frame_ok {typ : Nat} (h1 : 1 ≤ typ) (h7 : typ ≤ 7) (dst src : BitVec 16) {w : Block} (hw : 4 * w.length ≤ 1472) :
    FrameOk linked (frame typ dst src w) := by
  refine ⟨rfl, rfl, Frame.seal_hcrcOk _, ?_, hw, ?_⟩
  · simp [frame, Frame.seal, Frame.lenOk, padded]
    omega
  · simp [frame, Frame.seal, Frame.known, h1, h7]

/-- A DISCOVER frame from device 9. -/
def disc (kind : Nat) (dst : BitVec 16) (origin uid : BitVec 64) (addr : BitVec 16) : Frame :=
  frame 2 dst 9 (discWords 3 kind origin uid 0 addr)

theorem word64 (u : BitVec 64) : (w32 u.toNat).toNat + 2 ^ 32 * (w32 (u.toNat / 2 ^ 32)).toNat = u.toNat := by
  have := u.isLt
  simp only [w32, BitVec.toNat_ofNat]
  omega

theorem disc_fields (kind : Nat) (dst : BitVec 16) (o u : BitVec 64) (a : BitVec 16) :
    FrameOk linked (disc kind dst o u a) ∧ dcOrigin (disc kind dst o u a) = o ∧ dcUid (disc kind dst o u a) = u := by
  refine ⟨frame_ok (by decide) (by decide) _ _ (by decide : 28 ≤ 1472), ?_, ?_⟩
  · rw [dcOrigin, disc, frame_payload]
    show BitVec.ofNat 64 ((w32 o.toNat).toNat + 2 ^ 32 * (w32 (o.toNat / 2 ^ 32)).toNat) = o
    rw [word64, BitVec.ofNat_toNat, BitVec.setWidth_eq]
  · rw [dcUid, disc, frame_payload]
    show BitVec.ofNat 64 ((w32 u.toNat).toNat + 2 ^ 32 * (w32 (u.toNat / 2 ^ 32)).toNat) = u
    rw [word64, BitVec.ofNat_toNat, BitVec.setWidth_eq]

theorem disc_kinds (o u : BitVec 64) :
    isDisc 0 (disc 0 0xFFFF o u 6) = true ∧ isDisc 1 (disc 1 5 o u 6) = true ∧ isDisc 2 (disc 2 0xFFFF o u 6) = true
      ∧ isDisc 3 (disc 3 0xFFFF o u 6) = true ∧ dcAddr (disc 1 5 o u 6) = 6 ∧ dcAddr (disc 2 0xFFFF o u 6) = 6
      ∧ dcId (disc 1 5 o u 6) = 3 := by
  have h : ∀ k < 4, fieldAt (discWords 3 k 0 0 0 6) 0 1 0 = k ∧ fieldAt (discWords 3 k 0 0 0 6) 0x14 15 0 = 6
      ∧ fieldAt (discWords 3 k 0 0 0 6) 0 31 16 = 3 := by decide
  have hk : ∀ k < 4, ∀ dst, isDisc k (disc k dst o u 6) = true := fun k hk dst => by
    have e : fieldAt (discWords 3 k o u 0 6) 0 1 0 = k := (h k hk).1
    rw [isDisc, dcKind, disc, frame_payload, e]
    simp [frame, Frame.seal, discWords, words64, tDISCOVER]
  have ha : ∀ k < 4, ∀ dst, dcAddr (disc k dst o u 6) = 6 := fun k hk dst => by
    have e : fieldAt (discWords 3 k o u 0 6) 0x14 15 0 = 6 := (h k hk).2.1
    rw [dcAddr, disc, frame_payload, e]
    rfl
  have hi : dcId (disc 1 5 o u 6) = 3 := by
    have e : fieldAt (discWords 3 1 o u 0 6) 0 31 16 = 3 := (h 1 (by decide)).2.2
    rw [dcId, disc, frame_payload, e]
    rfl
  exact ⟨hk 0 (by decide) _, hk 1 (by decide) _, hk 2 (by decide) _, hk 3 (by decide) _, ha 1 (by decide) _, ha 2 (by decide) _, hi⟩

theorem other_uid : Config.uid + 1 ≠ Config.uid := by
  intro h
  have h2 : (1 : BitVec 64) = 0 := by simp at h
  exact absurd h2 (by decide)

theorem wit_links :
    (linked.port 0).lock = true ∧ due (linked.port 0).helloAt (100 * millisecond) linked.now = true ∧ (up.port 0).lock = false
      ∧ due (some 0) (100 * millisecond) (100 * millisecond - 1) = false ∧ (linked.port 0).hears linked.now = true
      ∧ (linked.port 0).hears (300 * millisecond) = false ∧ (linked.port 0).upAt + second ≤ second
      ∧ linked.now < (linked.port 0).upAt + second
      ∧ (linked.port 0).up = true ∧ (up.port 0).up = false := by decide +kernel

theorem wit_helloSend : Room linked 0 (linked.ownFrame 1 0xFFFF#16 false false (linked.helloWords 0) 12) := by
  decide +kernel

theorem wit_linkUp :
    let s := linked.updPort 0 fun q => { q with up := false }
    (s.port 0).lock = true ∧ (s.port 0).hears s.now = true ∧ (s.port 0).up = false := by decide +kernel

theorem wit_helloReceive : FrameOk linked (frame 1 0xFFFF 9 [1, 2, 5]) ∧ (frame 1 0xFFFF 9 [1, 2, 5]).len = 12
    ∧ fieldAt (frame 1 0xFFFF 9 [1, 2, 5]).payload 8 15 0 = linked.fab.addr.toNat ∧ linked.fab.addr ≠ 0 := by decide +kernel

/-- A HELLO with the device's address and another UID. -/
theorem wit_conflict : natAt64 [w32 (Config.uid + 1).toNat, w32 ((Config.uid + 1).toNat / 2 ^ 32), 5] 0 ≠ Config.uid.toNat := by
  intro h
  have h1 : natAt64 [w32 (Config.uid + 1).toNat, w32 ((Config.uid + 1).toNat / 2 ^ 32), 5] 0 = (Config.uid + 1).toNat := word64 _
  exact other_uid (BitVec.eq_of_toNat_eq (h1.symm.trans h))

theorem wit_badFrame :
    let f := { frame 1 0 0 [] with hcrc := 0 }
    f.hcrcOk = false ∧ f.etherType = linked.folio.etherType ∧ f.fcs = .good ∧ frameBytes f ≤ 1518
      ∧ ({ f with etherType := 0x0800 } : Frame).etherType ≠ linked.folio.etherType := by decide +kernel

theorem wit_fabDiscover :
    Granted 0x0A01 2 (cmd 0 24 [3, 0]) linked ∧ NoReserved (cmd 0 24 [3, 0]) [(0, 0xFFFFFEF0)]
      ∧ bitAt (cmd 0 24 [3, 0]).params 0 8 = false ∧ bitAt (cmd 0 24 [0x100, 0]).params 0 8 = true ∧ linked.fab.discRun = false
      ∧ (fieldAt (cmd 0 24 [3, 0]).params 0 3 0).testBit 1 = true ∧ (linked.port 1).up = true ∧ linked.fab.assigns = [] := by decide +kernel

theorem wit_discoveryDone :
    let f : Fabric := { linked.fab with discRun := true, discStart := 7, discLast := 9 }
    f.discRun = true ∧ f.discLast + 500 * millisecond ≤ 9 + 500 * millisecond ∧ 8 + 500 * millisecond < f.discLast + 500 * millisecond
      ∧ 8 + 500 * millisecond < f.discStart + 5 * second := by decide

/-- FAB_ADDR_SET of address 6. -/
def addrCmd (mode : Word) (u : BitVec 64) : MbCmd := cmd 0 32 ([0x00060000#32 + mode] ++ words64 u.toNat ++ [0])

theorem wit_fabAddrSet (u : BitVec 64) :
    Granted 0x0A02 2 (addrCmd 0 u) linked ∧ NoReserved (addrCmd 0 u) [(0, 0x0000FFFC)] ∧ 6 = fieldAt (addrCmd 0 u).params 0 31 16
      ∧ fieldAt (addrCmd 0 u).params 0 1 0 = 0 ∧ fieldAt (addrCmd 1 u).params 0 1 0 = 1 ∧ fieldAt (addrCmd 1 u).params 0xC 3 0 < 2
      ∧ BitVec.ofNat 64 (natAt64 (addrCmd 0 u).params 4) = u := by
  refine ⟨(by decide +kernel : Granted 0x0A02 2 (addrCmd 0 0) linked),
    (by decide : NoReserved (addrCmd 0 0) [(0, 0x0000FFFC)]), (by decide : 6 = fieldAt (addrCmd 0 0).params 0 31 16),
    (by decide : fieldAt (addrCmd 0 0).params 0 1 0 = 0), (by decide : fieldAt (addrCmd 1 0).params 0 1 0 = 1),    (by decide : fieldAt (addrCmd 1 0).params 0xC 3 0 < 2), ?_⟩
  show BitVec.ofNat 64 ((w32 u.toNat).toNat + 2 ^ 32 * (w32 (u.toNat / 2 ^ 32)).toNat) = u
  rw [word64, BitVec.ofNat_toNat, BitVec.setWidth_eq]

theorem wit_assignTimeout :
    let s : State := { (linked.updMb 0 fun b => { b with working := 1 }) with
      fab := { linked.fab with assigns := [{ mb := 0, tag := 1, quiet := false, ring := false, uid := 0, id := 1, since := 0 }] } }
    0 + second ≤ { s with now := second }.now ∧ s.now < 0 + second ∧ (s.mbox 0).working ≠ 0 ∧ (s.mbox 0).discard = 0 ∧ s.fab.assigns.map (fun a => a.mb) = [0] := by decide +kernel

theorem wit_fabRouteLoad :
    let m := cmd 0 28 [0x00010000#32, 7, 0x112#32]
    Granted 0x0A03 2 m linked ∧ fieldAt m.params 0 23 16 = 1 ∧ fieldAt m.params 0 15 0 = 0 ∧ m.length.toNat = 20 + 8 * 1
      ∧ NoReserved m [(0, 0xFF000000)] ∧ bitAt m.params 8 8 = true ∧ Granted 0x0A04 0 (cmd 0 16 []) up := by decide +kernel

theorem wit_frameForward :
    let f := frame 6 7 9 [1, 2, 3]
    let g : Frame := ({ f with hops := 64 } : Frame).seal
    FrameOk linked f ∧ f.typ ≠ 1 ∧ f.dst.toNat < 0xFF00 ∧ f.dst ≠ linked.fab.addr ∧ f.hops < f.hopLimit
      ∧ linked.routePort f.dst (some 0) = some 1 ∧ Room linked 1 f ∧ FrameOk linked g ∧ g.hopLimit ≤ g.hops := by decide +kernel

theorem wit_frameForward_flood :
    let f := frame 6 0xFFFF 9 [1, 2, 3]
    FrameOk linked f ∧ f.dst = 0xFFFF ∧ neverSpread f.typ = false ∧ linked.seenFlood f = false ∧ f.hops < f.hopLimit
      ∧ (linked.port 1).up = true ∧ Room linked 1 f := by decide +kernel

theorem wit_discoverRequest :
    linked.seenFlood (disc 0 0xFFFF (Config.uid + 1) 0 0) = false ∧ dcOrigin (disc 0 0xFFFF (Config.uid + 1) 0 0) ≠ Config.uid
      ∧ linked.control = true ∧ Room linked 0 (disc 0 0xFFFF 1 0 0)
      ∧ (linked.markFlood (disc 0 0xFFFF 1 0 0)).seenFlood (disc 0 0xFFFF 1 0 0) = true :=
  ⟨rfl, (disc_fields 0 _ _ _ _).2.1 ▸ other_uid, by decide +kernel, by decide +kernel, by decide +kernel⟩

theorem wit_discoverReply :
    dcOrigin (disc 1 5 Config.uid 0 6) = Config.uid ∧ dcId (disc 1 5 Config.uid 0 6) = 3 ∧ dcAddr (disc 1 5 Config.uid 0 6) ≠ linked.fab.addr
      ∧ linked.fab.results.length < 4096 :=
  ⟨(disc_fields 1 _ _ _ _).2.1, (disc_kinds _ _).2.2.2.2.2.2, by rw [(disc_kinds _ _).2.2.2.2.1]; decide, by decide +kernel⟩

theorem wit_discoverRelay :
    dcOrigin (disc 1 5 (Config.uid + 1) 0 6) ≠ Config.uid ∧ dcOrigin (disc 1 5 (Config.uid + 1) 0 6) = Config.uid + 1
      ∧ linked.now < 0 + 10 * second ∧ Room linked 0 (disc 1 5 0 0 6) :=
  ⟨(disc_fields 1 _ _ _ _).2.1 ▸ other_uid, (disc_fields 1 _ _ _ _).2.1, by decide +kernel, by decide +kernel⟩

theorem wit_assign :
    dcUid (disc 2 0xFFFF 0 Config.uid 6) = Config.uid ∧ dcUid (disc 2 0xFFFF 0 (Config.uid + 1) 6) ≠ Config.uid
      ∧ dcOrigin (disc 3 0xFFFF (Config.uid + 1) 0 6) ≠ Config.uid ∧ Room linked 1 (disc 3 0xFFFF 0 0 6) ∧ Room linked 0 (disc 2 0xFFFF 0 0 6) :=
  ⟨(disc_fields 2 _ _ _ _).2.2, (disc_fields 2 _ _ _ _).2.2 ▸ other_uid,
    (disc_fields 3 _ _ _ _).2.1 ▸ other_uid, by decide +kernel, by decide +kernel⟩

/-- A WINDOW request of one word of BAR4 at offset 0. -/
def winReq (op : Word) (w : Block) : Frame := frame 3 5 7 ([0x104#32 + op, 0] ++ w)

theorem wit_windowRead :
    let f := winReq 0 []
    FrameOk linked f ∧ linked.forMe 3 f = true ∧ wiOp f = 0 ∧ wiOk f 8 = true ∧ linked.routePort f.src none = some 1
      ∧ (linked.port 1).waiting 1 + 34 + max 30 (12 + 4 * wiCount f) ≤ 32768
      ∧ (∀ i, i < wiCount f → wiReach (wiBar4 f) (wiOff f + 4 * i) = true) := by decide +kernel

theorem wit_windowWrite :
    let f := winReq 1 [9]
    FrameOk linked f ∧ linked.forMe 3 f = true ∧ wiOp f = 1 ∧ wiOk f (8 + 4 * wiCount f) = true ∧ linked.host.winWrites f.src = true ∧ ({ linked.host with winCfg := 0 } : HostIf).winWrites f.src = false
      ∧ wiReach (wiBar4 f) (wiOff f) = true
      ∧ (((counted 0 linked).windowPut f.src (wiBar4 f) 0 (wiOff f) ((f.payload.drop 2).take (wiCount f))).2.2.port 1).waiting 1 + 64 ≤ 32768
      ∧ ((counted 0 linked).windowPut f.src (wiBar4 f) 0 (wiOff f) ((f.payload.drop 2).take (wiCount f))).2.2.routePort f.src none = some 1
      ∧ linked.routePort 8 none = none := by decide +kernel

/-- A WINDOW_RESET with a key. -/
def keyFrame (off : Word) (k : BitVec 128) : Frame :=
  frame 3 5 7 ([2, off] ++ words64 (k.toNat % 2 ^ 64) ++ words64 (k.toNat / 2 ^ 64))

theorem keyFrame_key (off : Word) (k : BitVec 128) :
    BitVec.ofNat 128 (natAt64 (keyFrame off k).payload 8 + 2 ^ 64 * natAt64 (keyFrame off k).payload 0x10) = k := by
  have h := k.isLt
  have a := word64 (BitVec.ofNat 64 (k.toNat % 2 ^ 64))
  have b := word64 (BitVec.ofNat 64 (k.toNat / 2 ^ 64))
  rw [BitVec.toNat_ofNat, Nat.mod_eq_of_lt (by omega)] at a b
  rw [keyFrame, frame_payload]
  show BitVec.ofNat 128 (((w32 (k.toNat % 2 ^ 64)).toNat + 2 ^ 32 * (w32 (k.toNat % 2 ^ 64 / 2 ^ 32)).toNat)
    + 2 ^ 64 * ((w32 (k.toNat / 2 ^ 64)).toNat + 2 ^ 32 * (w32 (k.toNat / 2 ^ 64 / 2 ^ 32)).toNat)) = k
  rw [a, b]
  apply BitVec.eq_of_toNat_eq
  rw [BitVec.toNat_ofNat]
  omega

theorem wit_windowReset :
    FrameOk linked (keyFrame 1 Config.deviceKey) ∧ linked.forMe 3 (keyFrame 1 0) = true ∧ wiOp (keyFrame 1 0) = 2 ∧ (keyFrame 1 Config.deviceKey).len = 24
      ∧ wiOff (keyFrame 1 Config.deviceKey) % 4 = 1 ∧ wiOff (keyFrame 2 Config.deviceKey) % 4 = 2
      ∧ BitVec.ofNat 128 (natAt64 (keyFrame 1 Config.deviceKey).payload 8 + 2 ^ 64 * natAt64 (keyFrame 1 Config.deviceKey).payload 0x10)
        = Config.deviceKey
      ∧ BitVec.ofNat 128 (natAt64 (keyFrame 1 (Config.deviceKey + 1)).payload 8
        + 2 ^ 64 * natAt64 (keyFrame 1 (Config.deviceKey + 1)).payload 0x10) ≠ Config.deviceKey := by
  refine ⟨frame_ok (by decide) (by decide) _ _ (by decide : 24 ≤ 1472), by decide +kernel, by decide +kernel, rfl, ?_, ?_, keyFrame_key _ _, ?_⟩
  · rw [wiOff, keyFrame, frame_payload]
    rfl
  · rw [wiOff, keyFrame, frame_payload]
    rfl
  rw [keyFrame_key]
  intro h
  have h2 : (1 : BitVec 128) = 0 := by simp at h
  exact absurd h2 (by decide)

/-- Mailbox 0 of `linked` on the fabric with source 7. -/
def fabricBox (h : Mailbox → Mailbox) : State := linked.updMb 0 fun b => h { b with cfg := 0x00070001#32 }

theorem wit_mailboxCommand :
    let f := frame 4 5 7 (List.replicate 68 0)
    let s := fabricBox id
    FrameOk s f ∧ s.forMe 4 f = true ∧ mfKind f = 0 ∧ f.len = 272 ∧ s.folio.mbReady = true ∧ s.folio.loader = none
      ∧ bit (s.mbox (mfBox f)).cfg 0 = true ∧ bits (s.mbox (mfBox f)).cfg 31 16 = f.src.toNat ∧ s.routePort f.src none = some 1
      ∧ (s.port 1).waiting 1 + 64 ≤ 32768 ∧ (s.mbox (mfBox f)).lastFseq ≠ some (f.src, f.fseq)
      ∧ diff16 (s.mbox (mfBox f)).cmdTail (s.mbox (mfBox f)).cmdHead < 32 := by decide +kernel

theorem wit_mailboxCommand_again :
    let f := frame 4 5 7 (List.replicate 68 0)
    let s := fabricBox fun b => { b with
      lastFseq := some (7, 0)
      lastPort := some 1 }
    (s.mbox (mfBox f)).lastFseq = some (f.src, f.fseq) ∧ (s.mbox (mfBox f)).lastPort ≠ none ∧ bit (linked.mbox (mfBox f)).cfg 0 = false := by
  decide +kernel

theorem wit_mailboxAck :
    let f := frame 4 5 7 [0x200, 4, 0, 0]
    let s := fabricBox fun b => { b with
      unacked := [{ slot := 0, fseq := 4, sends := 1, ended := false, at_ := 0 }, { slot := 1, fseq := 5, sends := 1, ended := false, at_ := 0 }] }
    FrameOk s f ∧ f.dst = s.fab.addr ∧ mfKind f = 2 ∧ f.len = 16 ∧ ((s.mbox (mfBox f)).unacked.map fun e => e.fseq) = [wordAt f.payload 4, 5]
      ∧ (5 : Word) ≠ wordAt f.payload 4 := by decide +kernel

theorem wit_mailboxResend :
    let e (n : Nat) : Unacked := { slot := 0, fseq := 4, sends := n, ended := false, at_ := 0 }
    let s := fabricBox fun b => { b with unacked := [e 4] }
    (s.mbox 0).unacked = [e 4] ∧ (e 4).sends < 5 ∧ 5 ≤ (e 5).sends ∧ (e 4).at_ + 20 * millisecond ≤ { s with now := 20 * millisecond }.now
      ∧ s.now < (e 4).at_ + 20 * millisecond ∧ s.routePort (BitVec.ofNat 16 (bits (s.mbox 0).cfg 31 16)) none = some 1
      ∧ (s.port 1).waiting 1 + 306 ≤ 32768 ∧ (linked.mbox 0).unacked = [] := by decide +kernel

theorem wit_syncNotice :
    FrameOk linked (frame 6 5 9 [1, 2, 3]) ∧ (frame 6 5 9 [1, 2, 3]).len = 12 ∧ (5 : BitVec 16) = linked.fab.addr ∧ (5 : BitVec 16) ≠ 0
      ∧ FrameOk linked (frame 7 0xFFFE 9 [1, 2, 3, 4, 5]) ∧ (frame 7 0xFFFE 9 [1, 2, 3, 4, 5]).len = 20
      ∧ linked.seenFlood (frame 7 0xFFFE 9 [1, 2, 3, 4, 5]) = false ∧ linked.noticeAdmitted 1 0 = true
      ∧ (linked.noticeCache 1 0).noticeAdmitted 1 0 = false
      ∧ (linked.markFlood (frame 7 0xFFFE 9 [1, 2, 3, 4, 5])).seenFlood (frame 7 0xFFFE 9 [1, 2, 3, 4, 5]) = true := by decide +kernel

/-! ### Witnesses: the timebase -/

/-- TIME_CONFIG words: word 0 and a threshold of 20 µs. -/
def timeBlock (w0 : Word) : Block := [w0, 0, 0, 0, 0, 20]

/-- `linked` with a timebase changed by `h`; ROLE 0 and every port in PTP. -/
def timed (h : Timebase → Timebase) : State :=
  { linked with
    tb := h { linked.tb with
      cfg := timeBlock 0xF0
      running := true } }

theorem wit_timeConfig :
    Granted 0x0B01 2 (cmd 0 40 (timeBlock 2)) (timed fun t => { t with servo := .locked }) ∧ NoReserved (cmd 0 40 (timeBlock 2)) [(0, 8)]
      ∧ tcRole (timeBlock 2) = 2 ∧ tcRole (timeBlock 1) = 1 ∧ tcRole (timeBlock 0) = 0
      ∧ tcDomain (timeBlock 0x100) ≠ tcDomain (timed id).tb.cfg ∧ tcDomain (timeBlock 1) = tcDomain (timed id).tb.cfg := by decide +kernel

theorem wit_timeSet :
    Granted 0x0B02 2 (cmd 0 24 [9, 0]) (timed id) ∧ (timed id).tb.servo = .free ∧ natAt64 [9, 0] 0 ≠ (timed id).tb.time := by decide +kernel

theorem wit_timeSlew :
    Granted 0x0B03 2 (cmd 0 28 [9, 0, 100]) (timed id) ∧ 100 = natAt (cmd 0 28 [9, 0, 100]).params 8
      ∧ Granted 0x0B06 0 (cmd 0 16 []) up := by decide +kernel

theorem wit_timeSlewDone :
    (timed fun t => { t with slew := some { left := 0, neg := false, ppb := 1, total := 5 } }).tb.slew.map (fun x => x.left) = some 0 := rfl

theorem wit_timeOutConfig :
    let m := cmd 0x70000010 36 [3, 0, 0, 1000, 0]
    Granted 0x0B04 1 m (timed id) ∧ m.target = indexTarget 16 ∧ outEntry 16 = some 4 ∧ bitAt m.params 0 0 = true
      ∧ outFail 1 ((timed id).outChecks m.params (decide (4 ≤ 4))) = none
      ∧ outFail 1 ((timed id).outChecks [3, 0, 0, 999, 0] true) = some (0x0301, 2) ∧ NoReserved (cmd 0x70000010 36 [6]) [(0, 0xFFFFFFF8)] := by
  decide +kernel

theorem wit_timeCaptureRead : Granted 0x0B05 1 (cmd 0x70000003 16 []) (timed id) := by decide +kernel

theorem wit_compareFire :
    let s := timed fun t => { t with tout := vset t.tout 0 { vget t.tout 0 with en := true, next := some 0 } }
    (s.entry 0).en = true ∧ (s.entry 0).next = some 0 ∧ 0 ≤ s.tb.time ∧ s.tb.time < 1 ∧ (s.entry 1).en = false := by decide +kernel

theorem wit_after :
    let x : TimeOut := { periodic := true, start := 10, period := 1000 }
    0 < x.period ∧ x.start ≤ 10 ∧ x.after 10 = some 1010 := by decide

theorem wit_toutPulseEnd :
    let s := timed fun t => { t with tout := vset t.tout 2 { vget t.tout 2 with pulse := some 1 } }
    (vget s.tb.tout 2).pulse = some 1 ∧ 1 ≤ { s with now := 1 }.now ∧ s.now < 1 ∧ (vget s.tb.tout 3).pulse = none := by decide +kernel

theorem wit_tinCapture :
    let s := timed fun t => { t with tin := vset t.tin 1 { vget t.tin 1 with queue := List.replicate 64 (0, 0, false) } }
    (vget (timed id).tb.tin 1).level = false ∧ (vget s.tb.tin 1).level ≠ true ∧ (vget (timed id).tb.tin 1).queue.length < 64 ∧ 64 ≤ (vget s.tb.tin 1).queue.length ∧ (vget s.tb.tin 1).told = false
      ∧ (timed id).tb.running = true ∧ (timed id).tb.markAt + second ≤ { timed id with now := second }.now
      ∧ (timed id).now < (timed id).tb.markAt + second := by decide +kernel

theorem wit_announce :
    let s := timed id
    s.servoRuns = true ∧ s.ptpPort 0 = true ∧ ({ kind := .announce } : PtpMsg).domain = tcDomain s.tb.cfg ∧ s.tb.foreign = [] ∧ tcRole s.tb.cfg = 0
      ∧ s.tb.master = none ∧ up.ptpPort 0 = false := by decide +kernel

theorem wit_becameMaster :
    let s := timed fun t => { t with cfg := timeBlock 0xF1 }
    s.servoRuns = true ∧ tcRole s.tb.cfg = 1 ∧ s.tb.servo = .free ∧ s.betterForeign = false := by decide +kernel

/-- A slave of clock 7 behind port 0. -/
def slave (v : Servo) (h : Timebase → Timebase) : State := timed fun t => h { t with
  servo := v
  master := some (7, 0) }

/-- No live announcement of the master, no Sync in its timeout, no port in PTP. -/
theorem wit_masterLoss :
    let s := slave .locked id
    s.masterLost 0 = true ∧ { s with now := 10 * second }.masterLost 1 = true ∧ s.masterLost 1 = false ∧ s.masterLost 2 = false
      ∧ (slave .locked fun t => { t with cfg := timeBlock 0 }).masterLost 2 = true := by decide +kernel

theorem wit_sync :
    let m : PtpMsg := { kind := .sync, clockId := 7 }
    (slave .locking id).fromMaster 0 m = true ∧ (slave .locked id).fromMaster 0 m = true ∧ m.twoStep = false
      ∧ ((slave .locking id).rxTime 0 m.tMac - m.originTime) * 65536 - m.correction * 10 - (slave .locking id).tb.pathDelay = 0
      ∧ tcP2p (slave .locking id).tb.cfg = false ∧ (slave .locking fun t => { t with goodSyncs := 15 }).tb.goodSyncs = 15 := by decide +kernel

theorem wit_followUp :
    let s := slave .locked fun t => { t with pendSync := some (3, 0, 0, 0) }
    s.fromMaster 0 { kind := .followUp, clockId := 7, seqId := 3, twoStep := true } = true ∧ s.tb.pendSync = some (3, 0, 0, 0) := by decide +kernel

theorem wit_delay :
    let s := slave .locked fun t => { t with
      delayT3 := some 5
      lastSync := some 6 }
    s.servoRuns = true ∧ s.ptpPort 0 = true ∧ tcP2p s.tb.cfg = false ∧ (s.port 0).waiting 0 + 90 ≤ 16384 ∧ s.fromMaster 0 { kind := .delayResp, clockId := 7 } = true
      ∧ s.tb.master = some (7, 0)
      ∧ s.tb.delayT3 = some 5 ∧ s.tb.lastSync = some 6 := by decide +kernel

theorem wit_master :
    let s := timed fun t => { t with servo := .master }
    s.servoRuns = true ∧ s.ptpPort 0 = true ∧ s.ptpPort 1 = true ∧ s.tb.servo = .master ∧ tcP2p s.tb.cfg = false
      ∧ ({ kind := .delayReq } : PtpMsg).domain = tcDomain s.tb.cfg ∧ (s.port 1).waiting 0 + 90 ≤ 16384
      ∧ due (s.port 0).annAt second s.now = true ∧ due (s.port 0).syncAt (125 * millisecond) s.now = true
      ∧ PtpKind.announce.peer = false ∧ PtpKind.pdelayReq.peer = true ∧ PtpKind.announce.event = false ∧ PtpKind.sync.event = true := by decide +kernel

/-- The own clock identity is free: an answer names it. -/
theorem wit_answersTo (q : Nat) : answersTo { kind := .delayResp, reqId := ownClock, reqPort := 1, seqId := q } 0 q = true := by
  simp [answersTo]

theorem wit_pdelay :
    let s := (timed fun t => { t with cfg := timeBlock 0xF4 }).updPort 0 fun q => { q with pdelayT1 := some 4 }
    s.servoRuns = true ∧ s.ptpPort 0 = true ∧ tcP2p s.tb.cfg = true ∧ (s.port 0).waiting 0 + 90 ≤ 16384 ∧ (s.port 0).pdelayT1 = some 4
      ∧ due (s.port 0).pdelayAt second s.now = true ∧ due (some 0) second 0 = false := by
  decide +kernel

/-! ### Witnesses: Vellum and Blotter -/

/-- `up` with its Vellum or Blotter changed. -/
def worn (h : Vellum → Vellum) : State := { up with vel := h up.vel }
def logged (h : Blotter → Blotter) : State := { up with blot := h { up.blot with scanned := true } }
def someEvent : Event := up.event 0x0A01 INFO 3 4

theorem wit_wordWrite :
    3 < (regionAt 1).2 ∧ writerOk .hlimGuard 1 3 = true ∧ writerOk .nib 1 3 = false ∧ up.vel.count (((regionAt 1).1 + 3) / 256) + 2 < 5 * 10 ^ 13
      ∧ up.vel.retired.length < 41 ∧ (worn fun v => { v with retired := List.range 41 }).vel.retired.length = 41
      ∧ (regionAt 1).2 ≤ 0x1000 := by decide +kernel

theorem wit_scrub_word :
    regionOf 8 = some 0 ∧ up.vel.count (8 / 256) + 2 < 5 * 10 ^ 13 ∧ 8 ∉ up.vel.correctedOnce
      ∧ 8 ∈ (worn fun v => { v with correctedOnce := [8] }).vel.correctedOnce
      ∧ up.ranOut .wearMap = true ∧ { up with timers := [(Timer.wearMap, 1)] }.ranOut .wearMap = false := by decide +kernel

theorem wit_eventRaise :
    let s := logged fun b => { b with raised := [someEvent] }
    s.blot.raised = [someEvent] ∧ s.blot.scanned = true ∧ s.blot.unpersisted.length < 8192
      ∧ token ≤ ((s.blot.limiter someEvent.code s.now).refill s.now).tokens ∧ s.blot.lossMark = false ∧ s.ink.evtMin > someEvent.severity
      ∧ someEvent.severity < FATAL := by decide +kernel

theorem wit_eventSuppressed :
    let s := logged fun b => { b with
      raised := [someEvent]
      limiters := [{ code := someEvent.code, tokens := 0, at_ := 0 }] }
    ((s.blot.limiter someEvent.code s.now).refill s.now).tokens < token := by decide +kernel

theorem wit_summary :
    let s := logged fun b => { b with limiters := [{ code := 0x0A01, tokens := 0, at_ := 0, suppressed := 3, last := some someEvent }] }
    (s.blot.limiter 0x0A01 s.now).last = some someEvent ∧ (s.blot.limiter 0x0A01 s.now).suppressed ≠ 0
      ∧ (s.blot.limiter 0x0A01 s.now).at_ + second ≤ { s with now := second }.now ∧ s.now < (s.blot.limiter 0x0A01 s.now).at_ + second
      ∧ ({ s with now := second }.blot.limiter 0x0A01 second).at_ = 0 ∧ (up.blot.limiter 0x0A01 up.now).last = none := by decide +kernel

theorem wit_blotterFlush :
    let e : Entry := { seq := 0, ev := someEvent, count := 0, summary := false, lostBefore := false, restored := false, persisted := false }
    let s := logged fun b => { b with
      buffer := [e]
      flushReq := true }
    s.blot.flushReq = true ∧ s.blot.unpersisted.getLast? = some e ∧ up.blot.flushReq = false := by decide +kernel

theorem wit_ringScan :
    let e : Entry := { seq := 6, ev := someEvent, count := 0, summary := false, lostBefore := false, restored := false, persisted := false }
    let s : State := { up with vel := { up.vel with ring := [(6, e.ringWords), (7, [])] } }
    ringOk e.ringWords = true ∧ ringOk [] = false ∧ s.blot.scanned = false ∧ s.blot.early = [] ∧ (∀ x ∈ s.vel.ring, ringOk x.2 = true → x.1 = 6)
      ∧ s.blot.unpersisted = []
      ∧ token ≤ ((s.blot.limiter 0x0F0A s.now).refill s.now).tokens := by decide +kernel

/-! ### Witnesses: reset, release, clocks, power -/

/-- A state with its reset logic changed, and one that waits in a stage of the release. -/
def reset_ (h : Reset → Reset) (s : State) : State := { s with rst := h s.rst }
def stageOf (k : Nat) : State := { State.reset with
  rst := { State.reset.rst with
    sources := []
    stage := k } }
def served12 : State := reset_ (fun r => { r with
  stage := 12
  sources := [] }) up

theorem wit_sources :
    up.awake = true ∧ served12.rst.flushing = none ∧ served12.folio.mbReady = true ∧ (∀ n, (served12.ch n).state.active = false)
      ∧ served12.finalPending = false ∧ served12.resetting = false
      ∧ served12.rst.sources = [] ∧ served12.folio.watchdog + second ≤ { served12 with now := second }.now
      ∧ served12.now < served12.folio.watchdog + second ∧ ResetSrc.thermal ∉ served12.rst.sources ∧ served12.rst.stage = 12 := by decide +kernel

theorem wit_sources_active :
    let s := reset_ (fun r => { r with sources := [] }) ((chan0 .operate .running))
    s.awake = true ∧ s.rst.flushing = none ∧ (s.ch 0).state.active = true := by decide +kernel

theorem wit_sources_absorbed : (stageOf 5).awake = true ∧ (stageOf 5).rst.stage ≠ 12 ∧ (stageOf 5).rst.stage ≠ 11
    ∧ (stageOf 5).folio.mbReady = false := by decide +kernel

theorem wit_absorbed_ready : let s : State := { stageOf 5 with folio := up.folio }
    s.awake = true ∧ s.folio.mbReady = true ∧ s.rst.stage = 5 := by decide +kernel

theorem wit_standby_ignored : (reset_ (fun r => { r with power := .standby }) up).awake = false := by decide

theorem wit_stuck : ResetSrc.resetN ∈ (reset_ (fun r => { r with sources := [.resetN] }) up).rst.sources ∧ ResetSrc.resetN ∉ served12.rst.sources := by
  decide

theorem wit_hot : bit (up.mbox 0).cfg 0 = false ∧ bit ((up.updMb 1 fun b => { b with cfg := 1 }).mbox 1).cfg 0 = true ∧ up.host.pcieReset = false
    ∧ State.reset.host.pcieReset = true ∧ served12.hostAlone = true ∧ (reset_ (fun r => { r with sources := [.warmN] }) served12).hostAlone = false := by
  decide

theorem wit_release :
    let s := reset_ (fun r => { r with sources := [.resetN, .warmN] }) State.reset
    let u := reset_ (fun r => { r with sources := [.resetN, .thermal] }) State.reset
    ResetSrc.resetN ∈ s.rst.sources ∧ s.awake = true ∧ srcReach .resetN ≤ 1 ∧ s.rst.stage = 0 ∧ s.rst.flushing = none
      ∧ (∀ x ∈ s.rst.sources, x ≠ .resetN → 2 ≤ srcReach x) ∧ (∃ x ∈ u.rst.sources, x ≠ .resetN ∧ srcReach x ≤ 1)
      ∧ ResetSrc.powerOn ∉ s.rst.sources ∧ State.reset.rst.pgood = false ∧ ResetSrc.thermal ∈ u.rst.sources := by decide

theorem wit_stages : ∀ k ∈ [1, 2, 3, 4, 5, 6, 7, 8, 9, 10],
    (stageOf k).rst.coverF = false ∧ (stageOf k).rst.flushing = none ∧ (stageOf k).rst.pfailLow = false ∧ (stageOf k).rst.stage = k
      ∧ (stageOf k).rst.pgood = false ∧ (stageOf k).rst.keepStore = false ∧ (stageOf k).vel.timeMark = none := by decide +kernel

theorem wit_stage6 : ∀ g : Fin 17, ((stageOf 6).nibOf ⟨g.val, by omega⟩).role ≠ .retired := by decide +kernel

theorem wit_stage11 :
    let s : State := { stageOf 11 with folio := { State.reset.folio with cores := [.vote, .vote, .vote, .spare] } }
    let u := reset_ (fun r => { r with bootSrc := 1 }) s
    s.rst.coverF = false ∧ s.rst.coverC = false ∧ s.folio.loader = none ∧ s.folio.mbReady = false ∧ 2 ≤ s.folio.voters.length ∧ s.folio.copyOk = false
      ∧ s.rst.bootSrc = 0 ∧ u.rst.bootSrc ≠ 0
      ∧ (reset_ (fun r => { r with sources := [.warmN] }) s).rst.coverC = true ∧ State.reset.rst.coverF = true := by decide +kernel

theorem wit_held : (reset_ (fun r => { r with pfailLow := true }) (stageOf 5)).releasing = true := by decide

theorem wit_clocks : clockStage .pwm = (stageOf 2).rst.stage ∧ clockStage .safe = (stageOf 8).rst.stage ∧ clockStage .host = (stageOf 10).rst.stage
    ∧ clockStage .host ≠ (stageOf 2).rst.stage ∧ ClkDomain.safe ∈ (reset_ (fun r => { r with badClocks := [.safe] }) up).rst.badClocks
    ∧ ClkDomain.safe ∉ up.rst.badClocks := by decide

theorem wit_blocks : ∀ b ∈ [1, 2, 3, 4, 5, 6],
    let s := reset_ (fun r => { r with block := [(b, 1)] }) served12
    s.blockIdle = true ∧ s.rst.block = [(b, 1)] ∧ s.hostAlone = true ∧ s.ranOut (.block b 1) = true
      ∧ { s with timers := [(Timer.block b 1, 1)] }.ranOut (.block b 1) = false := by decide +kernel

theorem wit_block_busy :
    let s := reset_ (fun r => { r with block := [(1, 7)] }) (withItems [{ item0 .inService 1 with block := 7 }])
    s.blockIdle = false ∧ (reset_ (fun r => { r with block := [(5, 0)] }) (stageOf 9)).hostAlone = false
      ∧ (reset_ (fun r => { r with block := [(5, 0)] }) (stageOf 9)).ranOut (.block 5 0) = true := by decide +kernel

theorem wit_pfail :
    let s := { served12 with folio := { served12.folio with restored := true } }
    s.awake = true ∧ s.releasing = false ∧ s.rst.pfailSeq = false ∧ (s.ax 0).state = .disabled
      ∧ (reset_ (fun r => { r with pfailSeq := true }) s).rst.pfailSeq = true ∧ s.rst.coverF = false ∧ s.rst.stage = 12
      ∧ s.ranOut .pfail = true ∧ { s with timers := [(Timer.pfail, 1)] }.ranOut .pfail = false := by decide +kernel

theorem wit_pfail_active :
    let s : State := reset_ (fun r => { r with
      stage := 12
      sources := [] }) (chan0 .operate .running)
    s.awake = true ∧ s.releasing = false ∧ s.rst.pfailSeq = false ∧ (s.ch 0).state.active = true ∧ (s.ch 0).drive.period = 0
      ∧ ((s.updCh 0 fun c => { c with drive := { c.drive with period := 1 } }).ch 0).drive.period ≠ 0 := by decide +kernel

theorem wit_pfail_axis :
    let s : State := reset_ (fun r => { r with stage := 12 }) (axis0 .idle id)
    s.awake = true ∧ s.releasing = false ∧ (s.ax 0).state ≠ .disabled ∧ up.rst.pfailSeq = false := by decide +kernel

theorem wit_power :
    let s := reset_ (fun r => { r with
      power := .standby
      holdLow := true
      wakePending := true }) served12
    let w := reset_ (fun r => { r with power := .waking }) served12
    s.ranOut .standbyHold = true ∧ { s with timers := [(Timer.standbyHold, 1)] }.ranOut .standbyHold = false ∧ w.ranOut .standbyExit = true
      ∧ { w with timers := [(Timer.standbyExit, 1)] }.ranOut .standbyExit = false ∧ s.rst.power = .standby ∧ s.rst.holdLow = true ∧ s.rst.wakePending = true ∧ w.rst.power = .waking ∧ w.rst.sources = [] ∧ w.rst.pfailSeq = false
      ∧ served12.rst.power = .run ∧ ResetSrc.powerOn ∉ served12.rst.sources ∧ State.reset.rst.sources = [.powerOn] ∧ State.reset.rst.stage = 0
      ∧ bits State.reset.host.resetCause 25 24 = 0 ∧ State.reset.rst.flushing = none := by decide

/-! ### Witnesses: the rings -/

theorem wit_ringsOk : RingsOk { up with rings := [(0, 1), (0x1FFFF, 2)] } := by decide

theorem wit_ringsBad : ¬ RingsOk { up with rings := [(1, 1), (0, 2)] } ∧ ¬ RingsOk { up with rings := [(0x20000, 1)] } := by decide

end Sys2Proof.Tests
end

section
/-! PROOF. What each element of the state after power-on holds (the reset column of every register), and O58. -/

namespace Sys2Proof.Machine

@[simp] theorem State.reset_mbox (k : Fin 8) : State.reset.mbox k = {} := vget_replicate _ k
@[simp] theorem State.reset_ch (n : Fin 256) : State.reset.ch n = { cfg := cfgReset } := vget_replicate _ n
@[simp] theorem State.reset_ax (a : Fin 8) : State.reset.ax a = { cfg := axCfgReset, table := tableReset } := vget_replicate _ a
@[simp] theorem State.reset_unit (u : Fin 32) : State.reset.unit u = {} := vget_replicate _ u
@[simp] theorem State.reset_slotOf (k : Fin 1024) : State.reset.slotOf k = {} := vget_replicate _ k
@[simp] theorem State.reset_stream (k : Fin 4) : State.reset.stream k = {} := vget_replicate _ k
@[simp] theorem State.reset_port (p : Fin 4) : State.reset.port p = {} := vget_replicate _ p

@[simp] theorem State.reset_nibOf (k : Fin 20) : State.reset.nibOf k = nibReset k.val := by
  show ((List.range 20).map nibReset).toArray[k.val]'(by simp) = _
  simp

/-- Nibs 0 to 16 serve their own groups, the others none (R17). -/
theorem nibReset_group (k : Nat) : (nibReset k).group = if h : k < 17 then some ⟨k, h⟩ else none := by
  unfold nibReset
  split
  next h => simp [Fin.ofNat, Nat.mod_eq_of_lt h]
  next => rfl

end Sys2Proof.Machine

namespace Sys2Proof

open Sys2Proof.Machine

/-- Settles O58: the scalar fields are the fields of `State.reset` itself; each element of a state vector is the element that the
vector repeats, and the Nibs are those of R17. -/
theorem resetValues : Obligations.ResetValues := by
  unfold Obligations.ResetValues
  refine ⟨rfl, rfl, rfl, rfl, rfl, rfl, rfl, rfl, rfl, rfl, rfl, rfl, rfl, rfl, fun k => ?_, fun n => ?_, fun a => ?_, fun u => ?_,
    fun k => ?_, fun k => ?_, fun p => ?_, fun k => ?_⟩
  · rw [State.reset_mbox]; exact ⟨rfl, rfl, rfl, rfl⟩
  · rw [State.reset_ch]; exact ⟨rfl, rfl, rfl⟩
  · rw [State.reset_ax]; exact ⟨rfl, rfl⟩
  · rw [State.reset_unit]
  · rw [State.reset_slotOf]
  · rw [State.reset_stream]
  · rw [State.reset_port]
  · rw [State.reset_nibOf, nibReset_group]

end Sys2Proof
end

section
/-! PROOF. How a source of reset is recorded: RESET_CAUSE (R339, R446), the asserted sources (R444), and which reach then acts. -/

namespace Sys2Proof.Machine

/-! ### RESET_CAUSE -/

/-- The bits of RESET_CAUSE below REACH that `State.cause` writes. -/
def State.causeBits (mask reach : Nat) (s : State) : Nat :=
  (if reach = 0 then (if s.resetting then s.rst.part else 0) ||| mask else s.host.resetCause.toNat) % 2 ^ 24 ||| mask

theorem State.cause_resetCause (mask reach : Nat) (s : State) :
    (s.cause mask reach).host.resetCause = w32 (2 ^ 24 * s.widest reach + s.causeBits mask reach) := by
  rw [Nat.add_comm]; rfl

theorem State.causeBits_lt {mask : Nat} (reach : Nat) (s : State) (hm : mask < 2 ^ 24) : s.causeBits mask reach < 2 ^ 24 :=
  Nat.or_lt_two_pow (Nat.mod_lt _ (by decide)) hm

/-- No reach is wider than the one asked for: a smaller number reaches further. -/
theorem State.widest_le (reach : Nat) (s : State) : s.widest reach ≤ reach := by
  have held : (s.rst.sources.map srcReach).foldl min reach ≤ reach := by
    rw [List.foldl_min]; exact Nat.min_le_left _ _
  unfold State.widest
  split
  · exact held
  · exact (Nat.min_le_left _ _).trans held

/-- With no reset in progress the widest reach is that of the new source. -/
theorem State.widest_of_idle {s : State} (reach : Nat) (h12 : s.rst.stage = 12) (hs : s.rst.sources = []) : s.widest reach = reach := by
  simp [State.widest, h12, hs]

theorem State.cause_bit {mask k : Nat} (reach : Nat) (s : State) (hm : mask < 2 ^ 24) (hk : k < 24) :
    bit (s.cause mask reach).host.resetCause k = (s.causeBits mask reach).testBit k := by
  rw [State.cause_resetCause, bit, w32, BitVec.getLsbD_ofNat, Nat.testBit_two_pow_mul_add _ (s.causeBits_lt reach hm), if_pos hk,
    decide_eq_true (by omega : k < 32), Bool.true_and]

/-- A source's own bits are set. -/
theorem State.cause_bit_own {mask k : Nat} (reach : Nat) (s : State) (hm : mask < 2 ^ 24) (hk : k < 24) (h : mask.testBit k = true) :
    bit (s.cause mask reach).host.resetCause k = true := by
  rw [s.cause_bit reach hm hk, State.causeBits, Nat.testBit_or, h, Bool.or_true]

/-- A source of a reach below W leaves the bits that were set. -/
theorem State.cause_bit_kept {mask k reach : Nat} {s : State} (hm : mask < 2 ^ 24) (hk : k < 24) (hr : reach ≠ 0)
    (h : bit s.host.resetCause k = true) : bit (s.cause mask reach).host.resetCause k = true := by
  have h' : s.host.resetCause.toNat.testBit k = true := h
  rw [s.cause_bit reach hm hk, State.causeBits, if_neg hr, Nat.testBit_or, Nat.testBit_mod_two_pow, h', decide_eq_true hk]
  rfl

/-- REACH holds the widest reach. -/
theorem State.cause_reach {mask reach : Nat} (s : State) (hm : mask < 2 ^ 24) (hr : reach ≤ 3) :
    bits (s.cause mask reach).host.resetCause 25 24 = s.widest reach := by
  have hw := s.widest_le reach
  have hb := s.causeBits_lt reach hm
  rw [State.cause_resetCause, bits, w32, BitVec.toNat_ofNat]
  omega

/-! ### The record of a source -/

/-- The bits of RESET_CAUSE that a source sets: with a supply source, those of a power failure under way (R478). -/
def State.srcMask (src : ResetSrc) (s : State) : Nat :=
  srcBits src ||| (if (src = .supplyW || src = .supplyF) && s.rst.pfailSeq then 4 else 0)

theorem srcBits_lt (src : ResetSrc) : srcBits src < 2 ^ 24 := by cases src <;> decide

theorem State.srcMask_lt (src : ResetSrc) (s : State) : s.srcMask src < 2 ^ 24 :=
  Nat.or_lt_two_pow (srcBits_lt src) (by split <;> decide)

theorem State.srcMask_testBit {src : ResetSrc} {k : Nat} (s : State) (h : (srcBits src).testBit k = true) :
    (s.srcMask src).testBit k = true := by
  rw [State.srcMask, Nat.testBit_or, h, Bool.true_or]

/-- What every source records before its reach acts: its cause, and itself when it stays asserted. -/
def State.noteSource (src : ResetSrc) (s : State) : State :=
  { s with
    host := (s.cause (s.srcMask src) (srcReach src)).host
    rst := { (s.cause (s.srcMask src) (srcReach src)).rst with
      sources := if srcHolds src && !s.rst.sources.contains src then src :: s.rst.sources else s.rst.sources } }

@[simp] theorem State.noteSource_stage (src : ResetSrc) (s : State) : (s.noteSource src).rst.stage = s.rst.stage := rfl
@[simp] theorem State.noteSource_flushing (src : ResetSrc) (s : State) : (s.noteSource src).rst.flushing = s.rst.flushing := rfl

theorem State.noteSource_resetCause (src : ResetSrc) (s : State) :
    (s.noteSource src).host.resetCause = (s.cause (s.srcMask src) (srcReach src)).host.resetCause := rfl

theorem State.noteSource_mem {src : ResetSrc} (s : State) (h : srcHolds src = true) : src ∈ (s.noteSource src).rst.sources := by
  show src ∈ (if _ then _ else _)
  rw [h, Bool.true_and]
  split
  · exact List.mem_cons_self
  · simp_all

theorem State.noteSource_coverF {src : ResetSrc} (s : State) (h : srcHolds src = true) (hr : srcReach src ≤ 1) :
    (s.noteSource src).rst.coverF = true :=
  List.any_eq_true.mpr ⟨src, s.noteSource_mem h, decide_eq_true hr⟩

theorem State.noteSource_bit {src : ResetSrc} {k : Nat} (s : State) (hk : k < 24) (h : (srcBits src).testBit k = true) :
    bit (s.noteSource src).host.resetCause k = true :=
  s.cause_bit_own _ (s.srcMask_lt src) hk (s.srcMask_testBit h)

theorem State.noteSource_bit_kept {src : ResetSrc} {s : State} {k : Nat} (hk : k < 24) (hr : srcReach src ≠ 0)
    (h : bit s.host.resetCause k = true) : bit (s.noteSource src).host.resetCause k = true :=
  State.cause_bit_kept (s.srcMask_lt src) hk hr h

theorem State.noteSource_reach (src : ResetSrc) (s : State) : bits (s.noteSource src).host.resetCause 25 24 = s.widest (srcReach src) :=
  s.cause_reach (s.srcMask_lt src) (by cases src <;> decide)

/-- A supply source during the power-fail sequence sets PFAIL too (R478). -/
theorem State.noteSource_bit_pfail {src : ResetSrc} {s : State} (h : src = .supplyW ∨ src = .supplyF) (hp : s.rst.pfailSeq = true) :
    bit (s.noteSource src).host.resetCause 2 = true := by
  refine s.cause_bit_own _ (s.srcMask_lt src) (by decide) ?_
  rcases h with rfl | rfl <;> simp [State.srcMask, hp, srcBits] <;> decide

/-- Power-on while no reset is in progress leaves its own cause bit alone (R339). -/
theorem State.noteSource_powerOn_of_idle {s : State} (h : s.resetting = false) : (s.noteSource .powerOn).host.resetCause = 1 := by
  have reach : s.widest 0 = 0 := Nat.le_zero.mp (s.widest_le 0)
  have mask : s.srcMask .powerOn = 1 := by simp [State.srcMask, srcBits]
  rw [State.noteSource_resetCause, State.cause_resetCause, State.causeBits, h, mask, show srcReach .powerOn = 0 from rfl, reach]
  rw [if_pos rfl, if_neg Bool.false_ne_true]
  decide

/-! ### Which reach acts (R444, R446) -/

/-- What follows the record `t` of a source that is asserted in state `s`, by its reach. -/
def State.actReach (src : ResetSrc) (s t : State) : State :=
  if srcReach src = 0 then t.reachW
  else if srcReach src = 1 then
    if srcFlushes src then (if t.rst.flushing.isSome then t else t.beginFlush src) else t.reachF (src == ResetSrc.pfailSelf)
  else if srcReach src = 2 then
    (if s.rst.stage = 12 && s.rst.flushing.isNone then t.reachC else if s.rst.stage = 11 then t.reachC else t)
  else t

theorem State.assert_eq (src : ResetSrc) (s : State) : s.assert src = State.actReach src s (s.noteSource src) := by
  let t := s.cause (s.srcMask src) (srcReach src)
  have noted : s.noteSource src =
      if srcHolds src && !t.rst.sources.contains src then { t with rst := { t.rst with sources := src :: t.rst.sources } } else t := by
    rw [show t.rst.sources = s.rst.sources from rfl, State.noteSource]
    split <;> rfl
  rw [noted]
  rfl

theorem State.assert_W {src : ResetSrc} (s : State) (hr : srcReach src = 0) : s.assert src = (s.noteSource src).reachW := by
  rw [State.assert_eq, State.actReach, if_pos hr]

theorem State.assert_F {src : ResetSrc} (s : State) (hr : srcReach src = 1) (hf : srcFlushes src = false) :
    s.assert src = (s.noteSource src).reachF (src == ResetSrc.pfailSelf) := by
  simp [State.assert_eq, State.actReach, hr, hf]

theorem State.assert_flush {src : ResetSrc} {s : State} (hr : srcReach src = 1) (hf : srcFlushes src = true) (hn : s.rst.flushing = none) :
    s.assert src = (s.noteSource src).beginFlush src := by
  simp [State.assert_eq, State.actReach, hr, hf, hn]

theorem State.assert_C {src : ResetSrc} {s : State} (hr : srcReach src = 2) (h12 : s.rst.stage = 12) (hn : s.rst.flushing = none) :
    s.assert src = (s.noteSource src).reachC := by
  simp [State.assert_eq, State.actReach, hr, h12, hn]

/-- A release of reach W or F, before it comes to the Folio, absorbs a source of reach C (R446). -/
theorem State.assert_C_absorbed {src : ResetSrc} {s : State} (hr : srcReach src = 2) (h12 : s.rst.stage ≠ 12) (h11 : s.rst.stage ≠ 11) :
    s.assert src = s.noteSource src := by
  simp [State.assert_eq, State.actReach, hr, h12, h11]

theorem State.assert_B {src : ResetSrc} (s : State) (hr : srcReach src = 3) : s.assert src = s.noteSource src := by
  simp [State.assert_eq, State.actReach, hr]

end Sys2Proof.Machine
end

section
/-! PROOF. What a reset of reach W or F leaves while its source holds the release (R218, R443, R446). -/

namespace Sys2Proof.Machine

open Sys2Proof.Safety

/-- A relation that every pass of a loop keeps holds over the loop. -/
theorem forAll_rel {α : Type} {R : State → State → Prop} (refl : ∀ s, R s s) (trans : ∀ s t u, R s t → R t u → R s u)
    {f : α → State → State} (pass : ∀ a s, R s (f a s)) (l : List α) (s : State) : R s (forAll f l s) := by
  induction l generalizing s with
  | nil => exact refl s
  | cons a l ih => exact trans _ _ _ (pass a s) (ih (f a s))

/-! ### Torn checkpoints (R218) -/

/-- `t` is `s` but for checkpoint copies of channels with a checkpoint pending. -/
def TearsCopies (s t : State) : Prop :=
  ∃ c, t = { s with vel := { s.vel with ch := c } } ∧ ∀ n, (s.ch n).ckptReq = none → vget c n = s.chv n

theorem TearsCopies.refl (s : State) : TearsCopies s s := ⟨s.vel.ch, rfl, fun _ _ => rfl⟩

theorem TearsCopies.trans (s t u : State) : TearsCopies s t → TearsCopies t u → TearsCopies s u := by
  rintro ⟨c, rfl, hc⟩ ⟨d, rfl, hd⟩
  exact ⟨d, rfl, fun n hn => (hd n hn).trans (hc n hn)⟩

/-- A change of the copies of a channel with a checkpoint pending. -/
theorem TearsCopies.of_updChv {n : Fin 256} {w : Block} (f : ChVellum → ChVellum) {s : State} (hn : (s.ch n).ckptReq = some w) :
    TearsCopies s (s.updChv n f) := by
  refine ⟨_, rfl, fun m hm => vget_vset_of_ne _ _ ?_⟩
  rintro rfl
  simp [hn] at hm

theorem State.tearCkpt_tears (n : Fin 256) (s : State) : TearsCopies s (s.tearCkpt n) := by
  unfold State.tearCkpt
  split
  next => exact .refl s
  next w hw =>
    dsimp only
    split
    next => exact .refl s
    next => split <;> exact .of_updChv _ hw

theorem State.tearCkpts_tears (s : State) : ∃ t, TearsCopies s t ∧ s.tearCkpts = t.tickFree :=
  ⟨_, forAll_rel TearsCopies.refl TearsCopies.trans State.tearCkpt_tears _ s, rfl⟩

/-! ### The blocks (R443) -/

/-- `t` is `s` after a reset of reach W or F whose source is still asserted; `keep`: the Inkwell store survives. -/
structure ResetHeld (keep : Bool) (s t : State) : Prop where
  restarted : Restarted s t
  stage : t.rst.stage = 0
  sources : t.rst.sources = s.rst.sources
  cause : t.host.resetCause = s.host.resetCause
  flushing : t.rst.flushing = none
  keepStore : t.rst.keepStore = keep
  pgood : t.rst.pgood = s.rst.pgood

theorem ResetHeld.restarted_of_note {keep : Bool} {src : ResetSrc} {s t : State} (h : ResetHeld keep (s.noteSource src) t) :
    Restarted s t := h.restarted

theorem State.startRelease_of_cover {s : State} (h : s.rst.coverF = true) : s.startRelease = s := by
  rw [State.startRelease, if_pos h]

theorem State.tearCkpts_blocksReset_held (keep : Bool) (s : State) : ResetHeld keep s (s.tearCkpts.blocksReset keep) := by
  obtain ⟨_, ⟨c, rfl, hc⟩, h⟩ := s.tearCkpts_tears
  rw [h]
  exact ⟨⟨rfl, rfl, rfl, rfl, rfl, rfl, rfl, rfl, rfl, rfl, rfl, rfl, rfl, rfl, hc, rfl, rfl⟩, rfl, rfl, rfl, rfl, rfl, rfl⟩

theorem State.reachF_held (keep : Bool) {s : State} (h : s.rst.coverF = true) :
    ResetHeld (keep && (!(s.rst.stage != 12) || s.rst.keepStore)) s (s.reachF keep) := by
  have held := s.tearCkpts_blocksReset_held (keep && (!(s.rst.stage != 12) || s.rst.keepStore))
  rw [State.reachF, State.startRelease_of_cover]
  · exact held
  · rw [Reset.coverF, held.sources]; exact h

/-- A change of the reset logic that leaves those fields leaves the blocks as the reset left them. -/
theorem ResetHeld.withRst {keep : Bool} {s t : State} (h : ResetHeld keep s t) {r : Reset} (hpower : r.power = t.rst.power)
    (hstage : r.stage = t.rst.stage) (hsources : r.sources = t.rst.sources) (hflushing : r.flushing = t.rst.flushing)
    (hkeep : r.keepStore = t.rst.keepStore) (hpgood : r.pgood = t.rst.pgood) : ResetHeld keep s { t with rst := r } := by
  obtain ⟨⟨chan, slot, quire, pounce, rings, linear, tb, fab, mb, pcie, ready, margin, words, pending, chv, now, power⟩,
    stage, sources, cause, flushing, keepStore, pgood⟩ := h
  exact ⟨⟨chan, slot, quire, pounce, rings, linear, tb, fab, mb, pcie, ready, margin, words, pending, chv, now, hpower.trans power⟩,
    hstage.trans stage, hsources.trans sources, cause, hflushing.trans flushing, hkeep.trans keepStore, hpgood.trans pgood⟩

/-- The AON domain after reach W (R443, R471). -/
def Reset.aonReset (r : Reset) : Reset :=
  { r with
    pwrReq := true
    holdLow := false
    wakePending := false
    pgoodLate := false
    after := [] }

theorem State.reachW_eq (s : State) :
    s.reachW = State.startRelease { s.tearCkpts.blocksReset false with rst := (s.tearCkpts.blocksReset false).rst.aonReset } := rfl

theorem State.reachW_held {s : State} (h : s.rst.coverF = true) : ResetHeld false s s.reachW ∧ s.reachW.rst.pwrReq = true := by
  have held := s.tearCkpts_blocksReset_held false
  rw [State.reachW_eq]
  generalize s.tearCkpts.blocksReset false = t at held ⊢
  have cover : t.rst.aonReset.coverF = true := by
    show t.rst.sources.any _ = true
    rw [held.sources]; exact h
  rw [State.startRelease_of_cover (s := { t with rst := t.rst.aonReset }) cover]
  exact ⟨held.withRst rfl rfl rfl rfl rfl rfl, rfl⟩

/-- A source that stays asserted and writes no final checkpoints resets at once every block that its reach covers (R443, R444). -/
theorem State.assert_held {src : ResetSrc} (s : State) (hh : srcHolds src = true) (hr : srcReach src ≤ 1) (hf : srcFlushes src = false) :
    ResetHeld false (s.noteSource src) (s.assert src) := by
  have cover := s.noteSource_coverF hh hr
  rcases Nat.le_one_iff_eq_zero_or_eq_one.mp hr with h0 | h1
  · rw [s.assert_W h0]
    exact (State.reachW_held cover).1
  · have hs : (src == ResetSrc.pfailSelf) = false := by
      rw [beq_eq_false_iff_ne]; rintro rfl; simp [srcHolds] at hh
    rw [s.assert_F h1 hf, hs]
    exact State.reachF_held false cover

end Sys2Proof.Machine
end

section
/-! PROOF. The flush before a reset of reach F (R197): what is written at its end, and the final checkpoints that it waits for. -/

namespace Sys2Proof.Machine

open Sys2Proof.Safety

/-! ### Wear (R430): a write of the Vellum counts, and reports, and leaves the words and the channels' structures -/

/-- `t` is `s` but for the Vellum and the Blotter, of which the raw words and the channels' structures are left. -/
def OnlyWears (s t : State) : Prop :=
  ∃ v b, t = { s with
    vel := v
    blot := b } ∧ v.words = s.vel.words ∧ v.ch = s.vel.ch

theorem OnlyWears.refl (s : State) : OnlyWears s s := ⟨s.vel, s.blot, rfl, rfl, rfl⟩

theorem OnlyWears.trans (s t u : State) : OnlyWears s t → OnlyWears t u → OnlyWears s u := by
  rintro ⟨v, b, rfl, hw, hc⟩ ⟨v', b', rfl, hw', hc'⟩
  exact ⟨v', b', rfl, hw'.trans hw, hc'.trans hc⟩

theorem State.retireRow_wears (row cause : Nat) (s : State) : OnlyWears s (s.retireRow row cause) := by
  unfold State.retireRow
  split <;> exact ⟨_, _, rfl, rfl, rfl⟩

theorem State.wearRow_wears (row k : Nat) (s : State) : OnlyWears s (s.wearRow row k) := by
  unfold State.wearRow
  dsimp only
  split
  · refine OnlyWears.trans _ _ _ ?_ (State.retireRow_wears row 0 _)
    split <;> exact ⟨_, _, rfl, rfl, rfl⟩
  · split <;> exact ⟨_, _, rfl, rfl, rfl⟩

theorem State.persist_wears (region k : Nat) (s : State) : OnlyWears s (s.persist region k) := State.wearRow_wears _ _ s

theorem State.putRing_wears (e : Entry) (s : State) : OnlyWears s (s.putRing e) :=
  .trans _ _ _ ⟨_, _, rfl, rfl, rfl⟩ (State.wearRow_wears _ _ _)

theorem State.flushBlotter_wears (s : State) : OnlyWears s s.flushBlotter := by
  have written := forAll_rel OnlyWears.refl OnlyWears.trans State.putRing_wears s.blot.unpersisted s
  unfold State.flushBlotter
  split <;> exact written.trans _ _ _ ⟨_, _, rfl, rfl, rfl⟩

theorem State.flushWear_wears (s : State) : OnlyWears s s.flushWear := by
  have mapped : OnlyWears s { s with vel := { s.vel with wearMap := s.vel.wear } } := ⟨_, _, rfl, rfl, rfl⟩
  exact mapped.trans _ _ _ (State.persist_wears _ _ _)

/-! ### The end of the flush -/

theorem ResetHeld.of_wears {keep : Bool} {s u t : State} (hu : OnlyWears s u) (h : ResetHeld keep u t) : ResetHeld keep s t := by
  obtain ⟨v, b, rfl, hw, hc⟩ := hu
  obtain ⟨⟨chan, slot, quire, pounce, rings, linear, tb, fab, mb, pcie, ready, margin, words, pending, chv, now, power⟩,
    stage, sources, cause, flushing, keepStore, pgood⟩ := h
  have chv' : ∀ n, (s.ch n).ckptReq = none → t.chv n = s.chv n := fun n hn => (chv n hn).trans (congrArg (fun c => vget c n) hc)
  exact ⟨⟨chan, slot, quire, pounce, rings, linear, tb, fab, mb, pcie, ready, margin, words.trans hw, pending, chv', now, power⟩,
    stage, sources, cause, flushing, keepStore, pgood⟩

/-- With its source still asserted the end of a flush resets every block; the store survives unless this reset has lost it (R197, R261). -/
theorem State.endFlush_held {s : State} (h : s.rst.coverF = true) :
    ResetHeld (!(s.rst.stage != 12) || s.rst.keepStore) s s.endFlush := by
  have wears := OnlyWears.trans _ _ _ s.flushBlotter_wears s.flushBlotter.flushWear_wears
  have hrst : s.flushBlotter.flushWear.rst = s.rst := by
    obtain ⟨_, _, e, _⟩ := wears; rw [e]
  have held := State.reachF_held true (s := s.flushBlotter.flushWear) (by rw [hrst]; exact h)
  rw [hrst, Bool.true_and] at held
  exact held.of_wears wears

/-! ### Final checkpoints -/

/-- What the flush does to a channel under way: no ramp-down, and a FINAL checkpoint is due. -/
def State.finalCkpt (n : Fin 256) (s : State) : State :=
  (s.updCh n fun c => { c with drive := { c.drive with ramp := none } }).ckpt n 3

theorem State.finalCkpt_ch_of_ne {n m : Fin 256} (s : State) (h : n ≠ m) : (s.finalCkpt n).ch m = s.ch m := by
  rw [State.finalCkpt, State.ckpt, State.updCh_ch_of_ne _ _ h, State.updCh_ch_of_ne _ _ h]

theorem State.finalCkpt_ch (n : Fin 256) (s : State) :
    ((s.finalCkpt n).ch n).state = (s.ch n).state ∧ ((s.finalCkpt n).ch n).drive.ramp = none ∧ ((s.finalCkpt n).ch n).finalDue = true := by
  rw [State.finalCkpt, State.ckpt, State.updCh_ch, State.updCh_ch]
  exact ⟨rfl, rfl, rfl⟩

/-- After the loop every channel keeps its state, those outside the list are untouched, and those in it await their FINAL checkpoint. -/
theorem forAll_finalCkpt_ch (l : List (Fin 256)) (s : State) (m : Fin 256) :
    ((forAll State.finalCkpt l s).ch m).state = (s.ch m).state ∧
    (m ∉ l → (forAll State.finalCkpt l s).ch m = s.ch m) ∧
    (m ∈ l → ((forAll State.finalCkpt l s).ch m).drive.ramp = none ∧ ((forAll State.finalCkpt l s).ch m).finalDue = true) := by
  induction l generalizing s with
  | nil => exact ⟨rfl, fun _ => rfl, fun h => absurd h List.not_mem_nil⟩
  | cons n l ih =>
    obtain ⟨state, out, in_⟩ := ih (s.finalCkpt n)
    rcases eq_or_ne n m with rfl | hne
    · obtain ⟨state', ramp, final⟩ := s.finalCkpt_ch n
      refine ⟨state.trans state', fun h => absurd List.mem_cons_self h, fun _ => ?_⟩
      by_cases hl : n ∈ l
      · exact in_ hl
      · exact (out hl).symm ▸ ⟨ramp, final⟩
    · have same := s.finalCkpt_ch_of_ne hne
      refine ⟨state.trans (by rw [same]), fun h => (out (fun hl => h (List.mem_cons_of_mem _ hl))).trans same, fun h => ?_⟩
      exact in_ ((List.mem_cons.mp h).resolve_left hne.symm)

theorem forAll_finalCkpt_frame (l : List (Fin 256)) (s : State) : ∃ c, forAll State.finalCkpt l s = { s with chan := c } := by
  refine forAll_rel (R := fun s t => ∃ c, t = { s with chan := c }) (fun s => ⟨s.chan, rfl⟩) ?_ (fun n s => ⟨_, rfl⟩) l s
  rintro s t u ⟨_, rfl⟩ ⟨c, rfl⟩
  exact ⟨c, rfl⟩

theorem State.finalPending_of_due {s : State} {n : Fin 256} (h : (s.ch n).finalDue = true) : s.finalPending = true :=
  Vector.any_eq_true.mpr ⟨n.val, n.isLt, h⟩

/-! ### The flush -/

/-- A flush as it begins: FINAL checkpoints are due, its limit of 200 µs runs (R197). -/
def State.flushStart (src : ResetSrc) (s : State) : State :=
  let t := forAll State.finalCkpt (allChannels.filter fun n => (s.ch n).state.active) s
  State.startTimer .flush (200 * microsecond) { t with rst := { t.rst with flushing := some src } }

theorem State.beginFlush_eq (src : ResetSrc) (s : State) :
    s.beginFlush src = if (s.flushStart src).finalPending then s.flushStart src else (s.flushStart src).endFlush := rfl

theorem State.flushStart_ch (src : ResetSrc) (s : State) (n : Fin 256) :
    ((s.flushStart src).ch n).state = (s.ch n).state ∧
    ((s.ch n).state.active = true → ((s.flushStart src).ch n).drive.ramp = none ∧ ((s.flushStart src).ch n).finalDue = true) ∧
    ((s.ch n).state.active = false → (s.flushStart src).ch n = s.ch n) := by
  obtain ⟨state, out, in_⟩ := forAll_finalCkpt_ch (allChannels.filter fun n => (s.ch n).state.active) s n
  have mem : n ∈ allChannels.filter (fun n => (s.ch n).state.active) ↔ (s.ch n).state.active = true := by
    simp [allChannels]
  exact ⟨state, fun h => in_ (mem.mpr h), fun h => out (fun hm => by simp [mem.mp hm] at h)⟩

theorem State.flushStart_frame (src : ResetSrc) (s : State) :
    (s.flushStart src).host = s.host ∧ (s.flushStart src).rst = { s.rst with flushing := some src } := by
  obtain ⟨c, e⟩ := forAll_finalCkpt_frame (allChannels.filter fun n => (s.ch n).state.active) s
  rw [State.flushStart, e]
  exact ⟨rfl, rfl⟩

/-- With a channel under way the reset waits for its FINAL checkpoint (R197). -/
theorem State.beginFlush_of_active (src : ResetSrc) {s : State} {n : Fin 256} (h : (s.ch n).state.active = true) :
    s.beginFlush src = s.flushStart src := by
  rw [State.beginFlush_eq, if_pos (State.finalPending_of_due ((s.flushStart_ch src n).2.1 h).2)]

/-- With no channel under way and no checkpoint pending the reset of a flushing source proceeds at once (R197). -/
theorem State.beginFlush_idle (src : ResetSrc) {s : State} (hc : s.rst.coverF = true) (hi : ∀ n, (s.ch n).state.active = false)
    (hp : s.finalPending = false) : ResetHeld (!(s.rst.stage != 12) || s.rst.keepStore) s (s.beginFlush src) := by
  have none_ : (allChannels.filter fun n => (s.ch n).state.active) = [] := by simp [hi]
  have start : s.flushStart src = State.startTimer .flush (200 * microsecond) { s with rst := { s.rst with flushing := some src } } := by
    rw [State.flushStart, none_]; rfl
  have pending : (s.flushStart src).finalPending = s.finalPending := by rw [start]; rfl
  rw [State.beginFlush_eq, pending, hp, if_neg Bool.false_ne_true, start]
  obtain ⟨restarted, stage, sources, cause, flushing, keepStore, pgood⟩ := State.endFlush_held
    (s := State.startTimer .flush (200 * microsecond) { s with rst := { s.rst with flushing := some src } }) hc
  exact ⟨restarted, stage, sources, cause, flushing, keepStore, pgood⟩

end Sys2Proof.Machine
end

section
/-! PROOF. What a reset of reach C restarts and leaves (R30, R356, R405), and the reset of the PCIe path's host interface (R356). -/

namespace Sys2Proof.Machine

open Sys2Proof.Safety

theorem vget_map {α β : Type} {n : Nat} (f : α → β) (v : Vector α n) (i : Fin n) : vget (v.map f) i = f (vget v i) := by
  simp [vget]

/-! ### The Quire's part -/

/-- `t` is `s` but for the Quire and the Blotter. -/
def OnlyQuire (s t : State) : Prop :=
  ∃ q b, t = { s with
    quire := q
    blot := b }

theorem OnlyQuire.refl (s : State) : OnlyQuire s s := ⟨s.quire, s.blot, rfl⟩

theorem OnlyQuire.trans (s t u : State) : OnlyQuire s t → OnlyQuire t u → OnlyQuire s u := by
  rintro ⟨_, _, rfl⟩ ⟨q, b, rfl⟩
  exact ⟨q, b, rfl⟩

theorem OnlyQuire.raise (code sev source param : Nat) (s : State) : OnlyQuire s (s.raise code sev source param) := ⟨s.quire, _, rfl⟩

theorem State.tellLate_onlyQuire (q : Quire) (s : State) : OnlyQuire s (s.tellLate q) := by
  unfold State.tellLate
  dsimp only
  split
  · exact ⟨_, _, rfl⟩
  · exact .refl s

theorem State.finish_onlyQuire (uid : Nat) (s : State) : OnlyQuire s (s.finish uid) :=
  .trans _ { s with quire := s.quire.remove 0 uid } _ ⟨_, s.blot, rfl⟩ (State.tellLate_onlyQuire _ _)

theorem State.dropItem_onlyQuire (cause : Nat) (it : Item) (s : State) : OnlyQuire s (s.dropItem cause it) := by
  unfold State.dropItem
  exact .trans _ _ _ ⟨_, _, rfl⟩ (State.tellLate_onlyQuire _ _)

theorem State.dropFlows_onlyQuire (s : State) : OnlyQuire s s.dropFlows := by
  unfold State.dropFlows
  exact .trans _ _ _ ⟨_, s.blot, rfl⟩ (forAll_rel OnlyQuire.refl OnlyQuire.trans (State.dropItem_onlyQuire 0) _ _)

theorem State.requeue_onlyQuire (cause : Nat) (p : Item → Bool) (s : State) : OnlyQuire s (s.requeue cause p) := by
  refine forAll_rel OnlyQuire.refl OnlyQuire.trans (fun it t => ?_) _ s
  split
  · exact State.dropItem_onlyQuire cause it t
  · exact ⟨_, t.blot, rfl⟩

/-! ### The servo's part (R405) -/

theorem State.suspendServo_cases (s : State) : ∃ tb h b, s.suspendServo = { s with
      tb := tb
      host := h
      blot := b } ∧ tb.time = s.tb.time ∧ h.mb = s.host.mb ∧ h.resetCause = s.host.resetCause := by
  unfold State.suspendServo
  dsimp only
  split
  · exact ⟨_, _, _, rfl, rfl, HostIf.irq_mb _ _ _, HostIf.irq_resetCause _ _ _⟩
  · exact ⟨_, s.host, s.blot, rfl, rfl, rfl, rfl⟩

/-! ### Reach C -/

/-- `t` is `s` after a reset of reach C: the Folio and the mailboxes start anew, drive, acquisition, safety and time go on. -/
structure FolioRestarted (s t : State) : Prop where
  mbReady : t.folio.mbReady = false
  cause : t.host.resetCause = s.host.resetCause
  stage : t.rst.stage = if s.rst.stage = 12 then 11 else s.rst.stage
  sources : t.rst.sources = s.rst.sources
  mbox : ∀ m, t.mbox m = { cfg := (s.mbox m).cfg }
  ch : ∀ n, ∃ r, t.ch n = { s.ch n with calRun := r }
  pounce : t.pounce = s.pounce
  margin : t.margin = s.margin
  time : t.tb.time = s.tb.time
  vel : t.vel = s.vel
  linear : t.linear = s.linear
  slot : t.slot = s.slot
  ax : ∀ a, { t.ax a with
    chunks := (s.ax a).chunks
    stops := (s.ax a).stops } = s.ax a

theorem FolioRestarted.irq_unless {s t : State} (c : Prop) [Decidable c] (v : Nat) (h : FolioRestarted s t) :
    FolioRestarted s (if c then t else t.irq v) := by
  split
  · exact h
  · obtain ⟨ready, cause, stage, sources, mbox, ch, pounce, margin, time, vel, linear, slot, ax⟩ := h
    have mbox' : ∀ m, (t.irq v).mbox m = { cfg := (s.mbox m).cfg } := fun m =>
      (congrArg (fun b => vget b m) (HostIf.irq_mb v false t.host)).trans (mbox m)
    exact ⟨ready, (HostIf.irq_resetCause v false t.host).trans cause, stage, sources, mbox', ch, pounce, margin, time, vel, linear, slot, ax⟩

theorem State.reachC_restarts (s : State) : FolioRestarted s s.reachC := by
  obtain ⟨q, b, hq⟩ := OnlyQuire.trans _ _ _ s.dropFlows_onlyQuire (State.requeue_onlyQuire 0 (fun i => i.target == .folio) _)
  obtain ⟨tb, h, b', e, time, mb, cause⟩ := (s.dropFlows.requeue 0 fun i => i.target == .folio).suspendServo_cases
  rw [hq] at e time mb cause
  unfold State.reachC
  refine FolioRestarted.irq_unless _ 15 ?_
  rw [hq, e]
  refine ⟨rfl, cause, rfl, rfl, fun m => ?_, fun n => ⟨_, vget_map _ s.chan n⟩, rfl, rfl, time, rfl, rfl, rfl, fun a => ?_⟩
  · rw [State.mbox, vget_map, mb]; rfl
  · rw [State.ax, vget_map]; rfl

end Sys2Proof.Machine
end

section
/-! PROOF. The PCIe side: the hot reset of its host interface (R356), and its link (R334, R357). -/

namespace Sys2Proof.Machine

open Sys2Proof.Safety

/-! ### Hot reset -/

theorem Mailbox.hot_of_fabric {b : Mailbox} (h : bit b.cfg 0 = true) : b.hot = b := by
  rw [Mailbox.hot, if_pos h]

/-- A mailbox of the PCIe path keeps the commands taken; its session, configuration and responses are gone. -/
theorem Mailbox.hot_of_pcie {b : Mailbox} (h : bit b.cfg 0 = false) :
    b.hot.session = none ∧ b.hot.cfg = 0 ∧ b.hot.done = [] ∧ b.hot.taken = b.taken := by
  rw [Mailbox.hot, h]
  exact ⟨rfl, rfl, rfl, rfl⟩

/-- `t` is `s` after the reset of the PCIe path's host interface. -/
structure PathReset (s t : State) : Prop where
  irqEn : t.host.irqEn = 0
  irqStat : t.host.irqStat = 0
  cause : t.host.resetCause = s.host.resetCause
  mbox : ∀ m, t.mbox m = (s.mbox m).hot
  rst : t.rst = s.rst
  folio : t.folio = s.folio
  chan : t.chan = s.chan
  vel : t.vel = s.vel

theorem PathReset.onlyQuire {s t u : State} (h : PathReset s t) (hq : OnlyQuire t u) : PathReset s u := by
  obtain ⟨_, _, rfl⟩ := hq
  obtain ⟨irqEn, irqStat, cause, mbox, rst, folio, chan, vel⟩ := h
  exact ⟨irqEn, irqStat, cause, mbox, rst, folio, chan, vel⟩

theorem State.hotReset_resets (s : State) : PathReset s s.hotReset := by
  unfold State.hotReset
  refine PathReset.onlyQuire ?_ (forAll_rel OnlyQuire.refl OnlyQuire.trans (fun k x => ?_) _ _)
  · generalize e : forAll _ (List.finRange 8) s = u
    have dropped : OnlyQuire s u := by
      rw [← e]
      refine forAll_rel OnlyQuire.refl OnlyQuire.trans (fun k x => ?_) _ s
      split
      · split
        · exact .refl x
        · exact State.finish_onlyQuire _ x
      · exact .refl x
    obtain ⟨q, b, rfl⟩ := dropped
    exact ⟨rfl, rfl, rfl, fun m => vget_map Mailbox.hot s.host.mb m, rfl, rfl, rfl, rfl⟩
  · split
    · exact .refl x
    · exact .raise _ _ _ _ x

/-! ### Link -/

/-- Sending the messages that were held changes nothing else of the host interface. -/
theorem HostIf.sendHeld_cases (h : HostIf) : ∃ p q, h.sendHeld = { h with
    pba := p
    sentIrq := q } := by
  unfold HostIf.sendHeld
  refine List.foldlRecOn (motive := fun (x : HostIf) => ∃ p q, x = { h with
    pba := p
    sentIrq := q }) _ _ ⟨h.pba, h.sentIrq, rfl⟩ fun x hx v _ => ?_
  obtain ⟨p, q, rfl⟩ := hx
  split
  · exact ⟨_, _, rfl⟩
  · exact ⟨p, q, rfl⟩

/-- The endpoint after a change of its link, `p` and `q` being its messages held and sent. -/
def linkedHost (h : HostIf) (a b : Fin 16) (d : Bool) (p : Word) (q : List Nat) : HostIf :=
  { h with
    linkSpeed := a.val
    linkWidth := b.val
    d3hot := d
    pba := p
    sentIrq := q }

/-- A link change that the endpoint takes sets speed, width and power state, and reports itself unless the power state alone changed. -/
theorem exec_pcieLink {s : State} (a b : Fin 16) (d : Bool) (h : s.host.pcieReset = false) :
    ∃ p q, exec (.pcieLink a { lanes := b, d3hot := d }) s = .next
      (if d != s.host.d3hot && a.val = s.host.linkSpeed && b.val = s.host.linkWidth then
        { s with host := linkedHost s.host a b d p q }
      else ({ s with host := linkedHost s.host a b d p q } : State).raise 0x0C09 INFO 0 (a.val + 2 ^ 4 * b.val)) := by
  show ∃ p q, execPcieLink a { lanes := b, d3hot := d } s = _
  unfold execPcieLink
  rw [if_neg (by simp [h])]
  dsimp only
  cases d with
  | true => exact ⟨s.host.pba, s.host.sentIrq, rfl⟩
  | false =>
    obtain ⟨p, q, e⟩ := HostIf.sendHeld_cases { s.host with
      linkSpeed := a.val
      linkWidth := b.val
      d3hot := false }
    rw [if_neg Bool.false_ne_true, e]
    exact ⟨p, q, rfl⟩

end Sys2Proof.Machine
end

section
/-! PROOF. The rows of the reset sources (R444, R445, R465, R466), and O55: the clauses of the statement one by one, from the reaches that
the parts above give. -/

namespace Sys2Proof.Machine

open Sys2Proof.Safety

/-! ### Rows in RUN and in STANDBY (R473, R474) -/

theorem State.assertAwake_of_awake {s : State} (src : ResetSrc) (h : s.awake = true) : s.assertAwake src = s.assert src := if_pos h

theorem State.assertAwake_of_asleep {s : State} (src : ResetSrc) (h : s.awake = false) : s.assertAwake src = s := by
  rw [State.assertAwake, h]; rfl

theorem exec_thermalShutdown {s : State} (d : Fin 3) (x : Int) (ha : s.awake = true) (hn : ResetSrc.thermal ∉ s.rst.sources) :
    exec (.thermalShutdown d x) s = .next ((s.afterRestart 0x1005 (d.val + 2 ^ 16 * p16 x)).assert .thermal) := by
  show execThermalShutdown d x s = _
  simp [execThermalShutdown, ha, hn]

theorem exec_watchdogExpired {s : State} (ha : s.awake = true) (hm : s.folio.mbReady = true) (hw : s.folio.watchdog + second ≤ s.now) :
    exec .watchdogExpired s = .next ((s.afterRestart 0x100A s.folio.voteMask).assert .watchdog) := by
  show execWatchdogExpired s = _
  simp [execWatchdogExpired, ha, hm, hw]

/-- The supply source by its rail: VAON, or PGOOD_IN low, is reach W (R444, R468). -/
def supplySrc (rail : Fin 13) (pg : Bool) : ResetSrc := if rail = 12 || !pg then .supplyW else .supplyF

theorem exec_supplyOutOfRange {s : State} (rail : Fin 13) (above pg : Bool) (ha : s.awake = true) :
    ∃ l, exec (.supplyOutOfRange rail above pg) s =
      let t := ({ s with rst := { s.rst with pgood := pg } } : State).assert (supplySrc rail pg)
      .next { t with rst := { t.rst with after := l } } := by
  show ∃ l, execSupplyOutOfRange rail above pg s = _
  unfold execSupplyOutOfRange
  rw [if_neg (by simp [ha])]
  dsimp only
  split
  · exact ⟨_, rfl⟩
  · exact ⟨_, rfl⟩

theorem exec_pcieHotReset {s : State} (ha : s.awake = true) :
    exec (.pcieHotReset false) s = .next (if s.hostAlone then (s.assert .pcie).hotReset else s.assert .pcie) := by
  show execPcieHotReset false s = _
  simp [execPcieHotReset, ha]

/-- In STANDBY every pin and monitor is ignored. -/
theorem exec_of_asleep {s : State} {i : Instr}
    (hi : i ∈ [Instr.resetNLow, .warmNLow, .testModeRise, .refLoss, .watchdogExpired, .pcieHotReset false] ∨
      (∃ r a b, i = .supplyOutOfRange r a b) ∨ (∃ d x, i = .thermalShutdown d x)) (h : s.awake = false) : exec i s = .next s := by
  have pin : ∀ src, Host.Outcome.next (ρ := Refusal) (φ := Fault) (s.assertAwake src) = .next s := fun src => by
    rw [State.assertAwake_of_asleep src h]
  rcases hi with hi | ⟨r, a, b, rfl⟩ | ⟨d, x, rfl⟩
  · simp only [List.mem_cons, List.not_mem_nil, or_false] at hi
    rcases hi with rfl | rfl | rfl | rfl | rfl | rfl
    · exact pin .resetN
    · exact pin .warmN
    · exact pin .testMode
    · exact pin .refLoss
    · show execWatchdogExpired s = _
      simp [execWatchdogExpired, h]
    · show execPcieHotReset false s = _
      simp [execPcieHotReset, h]
  · show execSupplyOutOfRange r a b s = _
    simp [execSupplyOutOfRange, h]
  · show execThermalShutdown d x s = _
    simp [execThermalShutdown, h]

end Sys2Proof.Machine

namespace Sys2Proof

open Sys2Proof.Machine Sys2Proof.Safety

/-! ### Sources that reset every block at once -/

theorem powerOn_acts (s : State) : Completes .powerOn s fun t => Restarted s t ∧ t.rst.stage = 0 ∧ ResetSrc.powerOn ∈ t.rst.sources ∧
    bit t.host.resetCause 0 = true ∧ bits t.host.resetCause 25 24 = 0 ∧ (s.resetting = false → t.host.resetCause = 1) ∧
    t.rst.pwrReq = true ∧ t.rst.keepStore = false := by
  let u : State := { s with rst := { s.rst with pgood := false } }
  have held := u.assert_held (src := .powerOn) rfl (by decide) rfl
  have reach : u.widest 0 = 0 := Nat.le_zero.mp (u.widest_le 0)
  refine ⟨u.assert .powerOn, rfl, held.restarted_of_note, held.stage, ?_, ?_, ?_, fun h => ?_, ?_, held.keepStore⟩
  · rw [held.sources]; exact u.noteSource_mem rfl
  · rw [held.cause]; exact u.noteSource_bit (by decide) (by decide)
  · rw [held.cause, State.noteSource_reach]; exact reach
  · rw [held.cause]; exact State.noteSource_powerOn_of_idle (s := u) h
  · rw [u.assert_W rfl]; exact (State.reachW_held (u.noteSource_coverF rfl (by decide))).2

/-- RESET_N and the test mode. -/
theorem pinReset_acts {s : State} {i : Instr} {src : ResetSrc}
    (hi : (i, src) = (Instr.resetNLow, ResetSrc.resetN) ∨ (i, src) = (.testModeRise, .testMode)) (ha : s.awake = true) :
    Completes i s fun t => Restarted s t ∧ t.rst.stage = 0 ∧ src ∈ t.rst.sources ∧ bit t.host.resetCause 3 = true ∧
      (∀ k, k < 24 → bit s.host.resetCause k = true → bit t.host.resetCause k = true) ∧ t.rst.keepStore = false ∧
      bits t.host.resetCause 25 24 ≤ 1 ∧ (s.rst.stage = 12 → s.rst.sources = [] → bits t.host.resetCause 25 24 = 1) := by
  obtain ⟨he, hh, hr, hf, hb⟩ : exec i s = .next (s.assert src) ∧ srcHolds src = true ∧ srcReach src = 1 ∧ srcFlushes src = false ∧
      (srcBits src).testBit 3 = true := by
    rcases hi with hi | hi <;> cases hi <;>
      exact ⟨congrArg Host.Outcome.next (State.assertAwake_of_awake _ ha), rfl, rfl, rfl, by decide⟩
  have held := s.assert_held hh (by omega) hf
  have reach : bits (s.assert src).host.resetCause 25 24 = s.widest 1 := by rw [held.cause, State.noteSource_reach, hr]
  refine ⟨_, he, held.restarted_of_note, held.stage, ?_, ?_, fun k hk h => ?_, held.keepStore, ?_, fun h12 hs => ?_⟩
  · rw [held.sources]; exact s.noteSource_mem hh
  · rw [held.cause]; exact s.noteSource_bit (by decide) hb
  · rw [held.cause]; exact State.noteSource_bit_kept hk (by omega) h
  · rw [reach]; exact s.widest_le 1
  · rw [reach]; exact State.widest_of_idle 1 h12 hs

theorem supplyOutOfRange_acts {s : State} (rail : Fin 13) (above pg : Bool) (ha : s.awake = true) :
    Completes (.supplyOutOfRange rail above pg) s fun t => Restarted s t ∧ t.rst.stage = 0 ∧ bit t.host.resetCause 1 = true ∧
      t.rst.pgood = pg ∧ (if rail = 12 ∨ pg = false then ResetSrc.supplyW else .supplyF) ∈ t.rst.sources ∧
      (rail = 12 ∨ pg = false → bits t.host.resetCause 25 24 = 0) ∧ (s.rst.pfailSeq = true → bit t.host.resetCause 2 = true) := by
  let u : State := { s with rst := { s.rst with pgood := pg } }
  let src := supplySrc rail pg
  have kinds : src = .supplyW ∨ src = .supplyF := by
    unfold src supplySrc; split <;> simp
  obtain ⟨hh, hr, hf, hb⟩ : srcHolds src = true ∧ srcReach src ≤ 1 ∧ srcFlushes src = false ∧ (srcBits src).testBit 1 = true := by
    rcases kinds with h | h <;> rw [h] <;> decide
  have supply : (if rail = 12 ∨ pg = false then ResetSrc.supplyW else .supplyF) = src := by simp [src, supplySrc]
  obtain ⟨l, he⟩ := exec_supplyOutOfRange rail above pg ha
  have held := (u.assert_held hh hr hf).withRst (r := { (u.assert src).rst with after := l }) rfl rfl rfl rfl rfl rfl
  refine ⟨_, he, held.restarted_of_note, held.stage, ?_, held.pgood, ?_, fun hw => ?_, fun hp => ?_⟩
  · rw [held.cause]; exact u.noteSource_bit (by decide) hb
  · rw [supply, held.sources]; exact u.noteSource_mem hh
  · have hsrc : src = .supplyW := by rw [← supply, if_pos hw]
    rw [held.cause, State.noteSource_reach, hsrc]
    exact Nat.le_zero.mp (u.widest_le 0)
  · rw [held.cause]; exact State.noteSource_bit_pfail (s := u) kinds hp

/-! ### Sources that write final checkpoints first (R197) -/

/-- REF_LOSS and THERMAL_SHUTDOWN assert their source, behind an event for after the restart at most. -/
theorem exec_flushingSource {s : State} {i : Instr} {src : ResetSrc} {k : Nat}
    (hi : (i, src, k) ∈ [(Instr.refLoss, ResetSrc.refLoss, 14)] ∨ (src = .thermal ∧ k = 11 ∧ (∃ d x, i = .thermalShutdown d x) ∧
      ResetSrc.thermal ∉ s.rst.sources)) (ha : s.awake = true) :
    (∃ l, exec i s = .next (({ s with rst := { s.rst with after := l } } : State).assert src)) ∧ srcHolds src = true ∧ srcReach src = 1 ∧
      srcFlushes src = true ∧ k < 24 ∧ (srcBits src).testBit k = true := by
  rcases hi with hi | ⟨rfl, rfl, ⟨d, x, rfl⟩, hn⟩
  · cases List.mem_singleton.mp hi
    exact ⟨⟨s.rst.after, congrArg Host.Outcome.next (State.assertAwake_of_awake _ ha)⟩, rfl, rfl, rfl, by decide, by decide⟩
  · exact ⟨⟨_, exec_thermalShutdown d x ha hn⟩, rfl, rfl, rfl, by decide, by decide⟩

theorem flushingSource_acts {s : State} {i : Instr} {src : ResetSrc} {k : Nat}
    (hi : (i, src, k) ∈ [(Instr.refLoss, ResetSrc.refLoss, 14)] ∨ (src = .thermal ∧ k = 11 ∧ (∃ d x, i = .thermalShutdown d x) ∧
      ResetSrc.thermal ∉ s.rst.sources)) (ha : s.awake = true) (hn : s.rst.flushing = none) :
    ((∀ n, (s.ch n).state.active = false) → s.finalPending = false →
      Completes i s fun t => Restarted s t ∧ t.rst.stage = 0 ∧ src ∈ t.rst.sources ∧ bit t.host.resetCause k = true ∧
        t.rst.flushing = none ∧ (s.rst.stage = 12 → t.rst.keepStore = true)) ∧
    ((∃ n, (s.ch n).state.active = true) →
      Completes i s fun t => t.rst.flushing = some src ∧ src ∈ t.rst.sources ∧ bit t.host.resetCause k = true ∧
        (∀ n, (t.ch n).state = (s.ch n).state) ∧
        (∀ n, (s.ch n).state.active = true → (t.ch n).drive.ramp = none ∧ (t.ch n).finalDue = true) ∧
        (∀ n, (s.ch n).state.active = false → t.ch n = s.ch n)) := by
  obtain ⟨⟨l, he⟩, hh, hr, hf, hk, hb⟩ := exec_flushingSource hi ha
  let u : State := { s with rst := { s.rst with after := l } }
  have begins : u.assert src = (u.noteSource src).beginFlush src := State.assert_flush hr hf hn
  refine ⟨fun idle pending => ⟨_, he, ?_⟩, fun ⟨n, active⟩ => ⟨_, he, ?_⟩⟩
  · have held := State.beginFlush_idle src (s := u.noteSource src) (u.noteSource_coverF hh (by omega)) idle pending
    rw [← begins] at held
    refine ⟨held.restarted_of_note, held.stage, ?_, ?_, held.flushing, fun h12 => ?_⟩
    · rw [held.sources]; exact u.noteSource_mem hh
    · rw [held.cause]; exact u.noteSource_bit hk hb
    · rw [held.keepStore, State.noteSource_stage, show u.rst.stage = 12 from h12]; rfl
  · obtain ⟨host, rst⟩ := (u.noteSource src).flushStart_frame src
    have chans := (u.noteSource src).flushStart_ch src
    rw [show ({ s with rst := { s.rst with after := l } } : State).assert src = _ from begins,
      State.beginFlush_of_active src (s := u.noteSource src) active, host, rst]
    exact ⟨rfl, u.noteSource_mem hh, u.noteSource_bit hk hb, fun m => (chans m).1, fun m => (chans m).2.1, fun m => (chans m).2.2⟩

/-! ### Sources of reach C (R30, R465) -/

/-- WARM_N and the watchdog assert their source, behind an event for after the restart at most. -/
theorem exec_folioSource {s : State} {i : Instr} {k : Nat}
    (hi : (k = 4 ∧ i = .warmNLow) ∨ (k = 9 ∧ i = .watchdogExpired ∧ s.folio.watchdog + second ≤ s.now)) (ha : s.awake = true)
    (hm : s.folio.mbReady = true) :
    ∃ src l, exec i s = .next (({ s with rst := { s.rst with after := l } } : State).assert src) ∧ srcReach src = 2 ∧ k < 24 ∧
      (srcBits src).testBit k = true ∧ (k = 4 → src = .warmN) := by
  rcases hi with ⟨rfl, rfl⟩ | ⟨rfl, rfl, hw⟩
  · exact ⟨.warmN, s.rst.after, congrArg Host.Outcome.next (State.assertAwake_of_awake _ ha), rfl, by decide, by decide, fun _ => rfl⟩
  · exact ⟨.watchdog, _, exec_watchdogExpired ha hm hw, rfl, by decide, by decide, by decide⟩

theorem folioSource_acts {s : State} {i : Instr} {k : Nat}
    (hi : (k = 4 ∧ i = .warmNLow) ∨ (k = 9 ∧ i = .watchdogExpired ∧ s.folio.watchdog + second ≤ s.now)) (ha : s.awake = true)
    (hm : s.folio.mbReady = true) :
    (s.rst.stage = 12 → s.rst.flushing = none →
      Completes i s fun t => t.folio.mbReady = false ∧ bit t.host.resetCause k = true ∧ t.rst.stage = 11 ∧
        (∀ m, (t.mbox m).session = none ∧ (t.mbox m).cfg = (s.mbox m).cfg ∧ (t.mbox m).taken = []) ∧
        (∀ n, (t.ch n).state = (s.ch n).state ∧ (t.ch n).drive = (s.ch n).drive ∧ (t.ch n).run = (s.ch n).run) ∧
        t.pounce = s.pounce ∧ t.margin = s.margin ∧ t.tb.time = s.tb.time ∧ t.vel = s.vel ∧ t.linear = s.linear ∧ t.slot = s.slot ∧
        (∀ a, { t.ax a with
          chunks := (s.ax a).chunks
          stops := (s.ax a).stops } = s.ax a) ∧ (k = 4 → ResetSrc.warmN ∈ t.rst.sources)) ∧
    (s.rst.stage ≠ 12 → s.rst.stage ≠ 11 →
      Completes i s fun t => bit t.host.resetCause k = true ∧ t.rst.stage = s.rst.stage ∧
        { t with
          host := s.host
          rst := s.rst } = s) := by
  obtain ⟨src, l, he, hr, hk, hb, hwarm⟩ := exec_folioSource hi ha hm
  let u : State := { s with rst := { s.rst with after := l } }
  refine ⟨fun h12 hn => ⟨(u.noteSource src).reachC, he.trans (congrArg _ (State.assert_C hr h12 hn)), ?_⟩,
    fun h12 h11 => ⟨u.noteSource src, he.trans (congrArg _ (State.assert_C_absorbed hr h12 h11)), ?_⟩⟩
  · have re := (u.noteSource src).reachC_restarts
    refine ⟨re.mbReady, ?_, ?_, fun m => ?_, fun n => ?_, re.pounce, re.margin, re.time, re.vel, re.linear, re.slot, re.ax, fun h4 => ?_⟩
    · rw [re.cause]; exact u.noteSource_bit hk hb
    · rw [re.stage]; exact if_pos h12
    · rw [re.mbox]; exact ⟨rfl, rfl, rfl⟩
    · obtain ⟨r, e⟩ := re.ch n
      rw [e]; exact ⟨rfl, rfl, rfl⟩
    · rw [re.sources, hwarm h4]; exact u.noteSource_mem rfl
  · exact ⟨u.noteSource_bit hk hb, rfl, rfl⟩

theorem watchdogExpired_ignored {s : State} (h : s.folio.mbReady = false ∨ s.now < s.folio.watchdog + second) :
    exec .watchdogExpired s = .next s := by
  show execWatchdogExpired s = _
  rcases h with h | h <;> simp [execWatchdogExpired, h]

/-! ### RESET_N stuck (R445) -/

/-- RESET_N held low for long: STUCK, and 0x1009 after the release (R445). -/
theorem resetNStuck_acts (s : State) (k : Nat) : (ResetSrc.resetN ∉ s.rst.sources → exec (.resetNStuck k) s = .next s) ∧
    (ResetSrc.resetN ∈ s.rst.sources → Completes (.resetNStuck k) s fun t => bit t.host.resetCause 16 = true ∧
      (0x1009, BitVec.ofNat 64 (min k 0xFFFFFFFF)) ∈ t.rst.after ∧
      { t with
        host := s.host
        rst := s.rst } = s) := by
  refine ⟨fun h => ?_, fun h => ⟨(s.causeBit 16).afterRestart 0x1009 (min k 0xFFFFFFFF), ?_, ?_, ?_, rfl⟩⟩
  · show execResetNStuck k s = _
    simp [execResetNStuck, h]
  · show execResetNStuck k s = _
    simp [execResetNStuck, h]
  · show (s.host.resetCause ||| w32 (2 ^ 16)).getLsbD 16 = true
    rw [BitVec.getLsbD_or, show (w32 (2 ^ 16)).getLsbD 16 = true from by decide, Bool.or_true]
  · exact List.mem_append_right _ (List.mem_singleton.mpr rfl)

/-! ### The PCIe side (R356, R357) -/

theorem pcieHotReset_acts {s : State} (ha : s.awake = true) (hh : s.hostAlone = true) :
    Completes (.pcieHotReset false) s fun t => bit t.host.resetCause 8 = true ∧ ResetSrc.pcie ∈ t.rst.sources ∧ t.host.irqEn = 0 ∧
      t.host.irqStat = 0 ∧ (∀ m, bit (s.mbox m).cfg 0 = true → t.mbox m = s.mbox m) ∧
      (∀ m, bit (s.mbox m).cfg 0 = false → (t.mbox m).session = none ∧ (t.mbox m).cfg = 0 ∧ (t.mbox m).done = [] ∧
        (t.mbox m).taken = (s.mbox m).taken) ∧ t.folio = s.folio ∧ t.chan = s.chan ∧ t.vel = s.vel := by
  have re := (s.noteSource .pcie).hotReset_resets
  refine ⟨(s.noteSource .pcie).hotReset, ?_, ?_, ?_, re.irqEn, re.irqStat, fun m h => ?_, fun m h => ?_, re.folio, re.chan, re.vel⟩
  · rw [exec_pcieHotReset ha, if_pos hh, State.assert_B s rfl]
  · rw [re.cause]; exact s.noteSource_bit (by decide) (by decide)
  · rw [re.rst]; exact s.noteSource_mem rfl
  · rw [re.mbox]; exact Mailbox.hot_of_fabric h
  · rw [re.mbox]; exact Mailbox.hot_of_pcie h

theorem pcieHotReset_absorbed {s : State} (ha : s.awake = true) (hh : s.hostAlone = false) :
    Completes (.pcieHotReset false) s fun t => bit t.host.resetCause 8 = true ∧ ResetSrc.pcie ∈ t.rst.sources ∧ t.host.mb = s.host.mb ∧
      t.folio = s.folio ∧ t.chan = s.chan := by
  refine ⟨s.noteSource .pcie, ?_, s.noteSource_bit (by decide) (by decide), s.noteSource_mem rfl, rfl, rfl, rfl⟩
  rw [exec_pcieHotReset ha, if_neg (by simp [hh]), State.assert_B s rfl]

theorem pcieLink_acts (s : State) (a b : Fin 16) (d : Bool) :
    (s.host.pcieReset = true → exec (.pcieLink a { lanes := b, d3hot := d }) s = .next s) ∧
    (s.host.pcieReset = false → Completes (.pcieLink a { lanes := b, d3hot := d }) s fun t => t.host.linkSpeed = a.val ∧ t.host.linkWidth = b.val ∧
      t.host.d3hot = d ∧ (d = s.host.d3hot → t.blot.raised = s.blot.raised ++ [s.event 0x0C09 INFO 0 (a.val + 16 * b.val)]) ∧
      t.chan = s.chan ∧ t.folio = s.folio) := by
  refine ⟨fun h => ?_, fun h => ?_⟩
  · show execPcieLink a { lanes := b, d3hot := d } s = _
    simp [execPcieLink, h]
  · obtain ⟨p, q, he⟩ := exec_pcieLink a b d h
    refine ⟨_, he, ?_⟩
    split
    next hs => exact ⟨rfl, rfl, rfl, fun hd => by simp [hd] at hs, rfl, rfl⟩
    next => exact ⟨rfl, rfl, rfl, fun _ => rfl, rfl, rfl⟩

/-- Settles O55: each clause is the lemma of its source above. A source records its cause and itself (`State.noteSource`), then its reach
acts: W and F leave `ResetHeld`, after a flush where one is due, C leaves `FolioRestarted`, the hot reset `PathReset`. -/
theorem resetSourcesAct : Obligations.ResetSourcesAct := by
  unfold Obligations.ResetSourcesAct
  exact ⟨powerOn_acts, fun _ _ _ hi ha => pinReset_acts hi ha, fun _ rail above pg ha => supplyOutOfRange_acts rail above pg ha,
    fun _ _ _ _ hi ha hn => flushingSource_acts hi ha hn, fun _ _ _ hi ha hm => folioSource_acts hi ha hm,
    fun _ h => watchdogExpired_ignored h, fun _ _ hi h => exec_of_asleep hi h, resetNStuck_acts,
    fun _ ha hh => pcieHotReset_acts ha hh, fun _ ha hh => pcieHotReset_absorbed ha hh, pcieLink_acts⟩

end Sys2Proof
end

section
/-! PROOF. What a trip does to its channel and leaves (R56 to R59), and O25. -/

namespace Sys2Proof.Machine

/-- The states in which a trip stops the channel (R56, R57). -/
def ChState.stoppable (st : ChState) : Prop :=
  st = .configured ∨ st = .armed ∨ st = .running ∨ st = .held ∨ st = .done ∨ st = .tune

/-- TRIP_CAUSE after a trip with the causes `m`: those that were there, `m`, and those present (R58). -/
def State.tripCauses (s : State) (n : Fin 256) (m : Nat) : BitVec 16 :=
  (s.ch n).tripCause ||| BitVec.ofNat 16 (m ||| s.presentCauses n)

/-- The channel that a trip stops, before its change of state. -/
def Channel.stop (cause : BitVec 16) (c : Channel) : Channel :=
  { c with
    tripCause := cause
    clearTo := c.clearOf
    drive := c.drive.low
    run := { c.run with startAt := none } }

theorem State.trip_of_stoppable {n : Fin 256} {s : State} (m : Nat) (h : (s.ch n).state.stoppable) :
    s.trip n m = ((((s.abortTune n 0).updCh n (Channel.stop (s.tripCauses n m))).toState n .tripped).raise 0x0201 ALARM n.val
      (s.tripParam n (s.tripCauses n m).toNat)) := by
  rcases h with h | h | h | h | h | h <;> simp only [State.trip, h] <;> rfl

/-- The end of TUNE leaves the other channels. -/
theorem State.abortTune_ch_of_ne {n j : Fin 256} (why : Nat) (s : State) (h : j ≠ n) : (s.abortTune n why).ch j = s.ch j := by
  unfold State.abortTune
  split
  · split
    · rw [State.raise_ch, State.updCh_ch_of_ne _ _ h.symm]; rfl
    · rfl
  · rfl

/-- The end of TUNE keeps the channel's drive and its return state; injection ends. -/
theorem State.abortTune_ch_self (n : Fin 256) (why : Nat) (s : State) :
    ((s.abortTune n why).ch n).drive = (s.ch n).drive ∧ ((s.abortTune n why).ch n).clearOf = (s.ch n).clearOf := by
  unfold State.abortTune
  split
  next t ht =>
    split
    next tuning =>
      have st : (s.ch n).state = .tune := of_decide_eq_true (Bool.and_eq_true_iff.mp tuning).1
      rw [State.raise_ch, State.updCh_ch]
      refine ⟨rfl, ?_⟩
      simp only [Channel.clearOf, State.ch] at st ht ⊢
      simp only [st, ht]
    next => exact ⟨rfl, rfl⟩
  next => exact ⟨rfl, rfl⟩

theorem State.trip_ch_of_ne {n j : Fin 256} (m : Nat) (s : State) (h : j ≠ n) : (s.trip n m).ch j = s.ch j := by
  unfold State.trip
  dsimp only
  split
  · rfl
  · rfl
  · rw [State.updCh_ch_of_ne _ _ h.symm]
  · split
    · rfl
    · rw [State.raise_ch, State.updCh_ch_of_ne _ _ h.symm]
  · rw [State.raise_ch, State.toState_ch_of_ne _ _ _ h, State.updCh_ch_of_ne _ _ h.symm, State.abortTune_ch_of_ne _ _ h]

/-- What a trip leaves of the channel that it stops. -/
theorem State.trip_ch_self {n : Fin 256} {s : State} (m : Nat) (h : (s.ch n).state.stoppable) :
    ((s.trip n m).ch n).state = .tripped ∧ ((s.trip n m).ch n).tripCause = s.tripCauses n m ∧
    ((s.trip n m).ch n).drive = (s.ch n).drive.low ∧ ((s.trip n m).ch n).run.startAt = none ∧
    ((s.trip n m).ch n).clearTo = (s.ch n).clearOf := by
  obtain ⟨drive, clear⟩ := s.abortTune_ch_self n 0
  rw [State.trip_of_stoppable m h]
  simp [Channel.stop, drive, clear]

end Sys2Proof.Machine

namespace Sys2Proof

open Sys2Proof.Machine

/-- Settles O25, by the state that the trip finds: it stops the channel, adds a cause, or does nothing. -/
theorem tripActs : Obligations.TripActs := by
  unfold Obligations.TripActs
  refine ⟨fun s n m h => ?_, fun s n m h => ?_, fun s n m h => ?_, fun s n m h => ?_⟩
  · obtain ⟨state, cause, drive, start, clear⟩ := State.trip_ch_self m h
    refine ⟨state, cause, ?_, ?_, ?_, ?_, start, ?_, ?_, fun j hj => State.trip_ch_of_ne m s hj⟩
    · rw [drive]; rfl
    · rw [drive]; rfl
    · rw [State.pinGH, drive]; rfl
    · rw [State.pinGL, drive]; rfl
    · rw [clear, Channel.clearOf]
      cases (s.ch n).state <;> cases (s.ch n).tune <;> rfl
    · rw [State.trip_of_stoppable m h, State.raise_raised]
      refine ⟨_, congrArg (_ ++ [·]) ?_⟩
      simp [State.event, State.tripCauses]
  · simp only [State.trip, h]
  · refine ⟨?_, ?_, fun j hj => State.trip_ch_of_ne m s hj⟩ <;> simp only [State.trip, h] <;> split
    · exact h
    · rw [State.raise_ch, State.updCh_ch]; exact h
    next same => exact same.symm
    · rw [State.raise_ch, State.updCh_ch]
  · rcases h with h | h <;> simp only [State.trip, h]

end Sys2Proof
end

section
/-! PROOF. An option reads back as it was written and leaves the others (R369), and O6. -/

namespace Sys2Proof.Machine

/-- A trip leaves what the options are kept in: the dies, the groups and the Vellum. -/
def SameOptions (s t : State) : Prop := t.die = s.die ∧ t.group = s.group ∧ t.vel = s.vel

/-- A new TRIP_CFG changes TRIP_CFG of its die and, by the trips that it causes, nothing that options read. -/
theorem State.setTripCfg_sameOptions (f : Fin 4) (v : Word) (s : State) :
    SameOptions (s.updDie f fun d => { d with tripCfg := v }) (s.setTripCfg f v) := by
  unfold State.setTripCfg
  dsimp only
  split
  · exact ⟨rfl, rfl, rfl⟩
  · refine forAll_rel (R := SameOptions) (fun _ => ⟨rfl, rfl, rfl⟩) ?_ (fun n u => ?_) _ _
    · rintro _ _ _ ⟨d, g, v⟩ ⟨d', g', v'⟩
      exact ⟨d'.trans d, g'.trans g, v'.trans v⟩
    · split
      · exact ⟨rfl, rfl, rfl⟩
      · exact ⟨State.trip_die .., State.trip_group .., State.trip_vel ..⟩

theorem State.optRead_of_sameOptions {s t : State} (h : SameOptions s t) (o i : Nat) : t.optRead o i = s.optRead o i := by
  obtain ⟨d, g, v⟩ := h
  simp only [State.optRead, State.chv, State.dieOf, State.grp, d, g, v]

theorem ofNat_eq_iff {k i j : Nat} [NeZero k] (hi : i < k) (hj : j < k) : Fin.ofNat k i = Fin.ofNat k j ↔ i = j := by
  simp [Fin.ofNat, Fin.ext_iff, Nat.mod_eq_of_lt hi, Nat.mod_eq_of_lt hj]

/-- A quantity of one element of a state vector, after a write of the same or another element. -/
theorem read_vset {α : Type} {k i j v : Nat} [NeZero k] (read : α → Nat) {x : α} (l : Vector α k) (hx : read x = v) (hi : i < k)
    (hj : j < k) : read (vget (vset l (Fin.ofNat k i) x) (Fin.ofNat k j)) = if j = i then v else read (vget l (Fin.ofNat k j)) := by
  simp only [vget_vset, ofNat_eq_iff hi hj, eq_comm (a := i)]
  split
  · exact hx
  · rfl

/-- A quantity that a write of an element leaves. -/
theorem read_vset_of_same {α : Type} {k : Nat} (read : α → Nat) {x : α} (l : Vector α k) {i : Fin k} (j : Fin k)
    (hx : read x = read (vget l i)) : read (vget (vset l i x) j) = read (vget l j) := by
  rw [vget_vset]
  split
  next h => rw [hx, h]
  next => rfl

/-- `State.optWrite` without the trips of a new TRIP_CFG. -/
def State.optPut (o i v : Nat) (s : State) : State :=
  if o = 2 then s.updDie (Fin.ofNat 4 i) fun d => { d with tripCfg := w32 v } else s.optWrite o i v

theorem State.optPut_sameOptions (o i v : Nat) (s : State) : SameOptions (s.optPut o i v) (s.optWrite o i v) := by
  unfold State.optPut
  split
  next h => rw [h]; exact State.setTripCfg_sameOptions ..
  next => exact ⟨rfl, rfl, rfl⟩

/-- An option in its range reads back. -/
theorem State.optRead_optPut_same {s : State} {o i v j : Nat} (h1 : 1 ≤ o) (h6 : o ≤ 6) (hi : optIndexOk o i = true)
    (hv : optValueOk o v = true) (hj : optIndexOk o j = true) :
    (s.optPut o i v).optRead o j = if j = i then v else s.optRead o j := by
  interval_cases o
  · exact read_vset ChVellum.minPulse s.vel.ch rfl (of_decide_eq_true hi) (of_decide_eq_true hj)
  · have small : v < 2 ^ 32 := of_decide_eq_true (Bool.and_eq_true_iff.mp hv).1
    exact read_vset (fun d : Die => d.tripCfg.toNat) s.die (Nat.mod_eq_of_lt small) (of_decide_eq_true hi)
      (of_decide_eq_true hj)
  · exact read_vset Group.busAux s.group rfl (of_decide_eq_true hi) (of_decide_eq_true hj)
  · exact read_vset Group.busDiv s.group rfl (of_decide_eq_true hi) (of_decide_eq_true hj)
  all_goals
    have same : j = i := (eq_of_beq hj).trans (eq_of_beq hi).symm
    rw [if_pos same]; rfl

/-- A write of one option leaves the others: they lie in other fields, if of the same elements. -/
theorem State.optRead_optPut_other {s : State} {o i v o' j : Nat} (h1 : 1 ≤ o) (h6 : o ≤ 6) (h1' : 1 ≤ o') (h6' : o' ≤ 6) (hne : o' ≠ o) :
    (s.optPut o i v).optRead o' j = s.optRead o' j := by
  by_cases groups : o = 3 ∧ o' = 4 ∨ o = 4 ∧ o' = 3
  · rcases groups with ⟨rfl, rfl⟩ | ⟨rfl, rfl⟩
    · exact read_vset_of_same Group.busDiv s.group _ rfl
    · exact read_vset_of_same Group.busAux s.group _ rfl
  · interval_cases o <;> interval_cases o' <;> simp at hne groups <;> rfl

end Sys2Proof.Machine

namespace Sys2Proof

open Sys2Proof.Machine

/-- Settles O6: the trips that a write causes leave what options read; the write itself shows in its own option and element only. -/
theorem optionReadsBackAsWritten : Obligations.OptionReadsBackAsWritten := by
  unfold Obligations.OptionReadsBackAsWritten
  intro s o i v o' i' h1 h6 hi hv h1' h6' hi'
  rw [State.optRead_of_sameOptions (s.optPut_sameOptions o i v)]
  by_cases same : o' = o
  · subst same
    rw [State.optRead_optPut_same h1 h6 hi hv hi']
    simp only [true_and]
  · rw [State.optRead_optPut_other h1 h6 h1' h6' same, if_neg fun h => same h.1]

end Sys2Proof
end
section
/-! PROOF. Refusals of the drive commands: CH_ENABLE and CH_CLEAR (R60, R66), group masks (R363), and O27. -/

namespace Sys2Proof.Machine

open Sys2Proof.Safety

/-! ### The checks of a channel command -/

theorem State.chanCheck_of_legal {s : State} {n : Fin 256} {legal : ChState → Bool} (hc : (s.ch n).calRun = none)
    (hl : legal (s.ch n).state = true) : s.chanCheck n legal = none := by
  simp only [State.chanCheck, hc, hl, if_true]

/-- The taking of a command leaves what the checks of CH_ENABLE read. -/
@[simp] theorem State.takeOff_enableFail (op : Nat) (m : MbCmd) (s : State) (n : Fin 256) (mp : Nat) :
    (s.takeOff op m).enableFail n mp = s.enableFail n mp := by
  obtain ⟨_, _, _, h⟩ := s.takeOff_cases op m
  rw [h]; rfl

@[simp] theorem State.takeOff_activeCauses (op : Nat) (m : MbCmd) (s : State) (n : Fin 256) :
    (s.takeOff op m).activeCauses n = s.activeCauses n := by
  obtain ⟨_, _, _, h⟩ := s.takeOff_cases op m
  rw [h]; rfl

/-! ### CH_ENABLE -/

/-- A failing check refuses CH_ENABLE with its code and number, and raises 0x0208 (R66, R67). -/
theorem State.enable_of_fail {s : State} {n : Fin 256} {k rc : Nat} (hc : (s.ch n).calRun = none)
    (hs : (s.ch n).state = .off ∨ (s.ch n).state = .absent) (hf : s.enableFail n (s.chv n).minPulse = some (k, rc)) :
    s.enable n = (some (rc, k), s.raise 0x0208 INFO n.val (k + 2 ^ 8 * rc)) := by
  have legal : s.chanCheck n (fun st => st == .off || st == .absent) = none :=
    State.chanCheck_of_legal hc (by rcases hs with h | h <;> rw [h] <;> rfl)
  simp only [State.enable, legal, hf]

/-- Detection does not start on a channel none of whose selected inputs is active (R58). -/
theorem State.watchPins_of_quiet {o s : State} {n : Fin 256} (h : (s.dieOf (dieOfCh n)).activePins &&& cfTripSel (s.ch n).cfg = 0) :
    State.watchPins o n s = s := by
  simp [State.watchPins, h]

theorem chEnable_refused {m : MbCmd} {s : State} {n : Fin 256} {k rc : Nat} (hg : Granted 0x0202 1 m s) (ht : m.target = chTarget n)
    (hl : m.length = 16) (hc : (s.ch n).calRun = none) (hs : (s.ch n).state = .off)
    (hf : s.enableFail n (s.chv n).minPulse = some (k, rc)) (hp : (s.dieOf (dieOfCh n)).activePins &&& cfTripSel (s.ch n).cfg = 0) :
    exec (.chEnable m) s =
      .next (((s.takeOff 0x0202 m).raise 0x0208 INFO n.val (k + 2 ^ 8 * rc)).respond m.mb (answerTo m rc 0 k [])) := by
  let t := s.takeOff 0x0202 m
  let u := t.raise 0x0208 INFO n.val (k + 2 ^ 8 * rc)
  have refused : t.enable n = (some (rc, k), u) :=
    State.enable_of_fail (by simpa [t] using hc) (.inl (by simpa [t] using hs)) (by simpa [t] using hf)
  have verdict : maskVerdict State.enable m t = .refuseIn u rc k [] := by
    simp only [maskVerdict, ht, tgtOf_chTarget, refused]
  have code : hdrChEnable.stateCode m u = 0 := by
    rw [Hdr.stateCode_ch (n := n) ht (by decide) rfl, State.raise_ch, State.takeOff_ch, hs]; rfl
  have run : hdrChEnable.run (maskVerdict State.enable) m s = u.respond m.mb (answerTo m rc 0 k []) := by
    rw [Hdr.run_granted' hg (lenIs_of hl (by decide)) (Hdr.targetOk_ch ht rfl) fun x => by simp [hdrChEnable, ht, tgtOf_chTarget]]
    exact (congrArg (hdrChEnable.conclude m t) verdict).trans (by rw [Hdr.conclude_refuseIn, code])
  have quiet : State.watchPins s n (u.respond m.mb (answerTo m rc 0 k [])) = u.respond m.mb (answerTo m rc 0 k []) :=
    State.watchPins_of_quiet (by simpa [t, u, State.dieOf, State.ch] using hp)
  show execChEnable m s = _
  rw [execChEnable, run, targetChannels, ht, tgtOf_chTarget]
  exact congrArg _ quiet

/-! ### CH_CLEAR -/

theorem chClear_refused {m : MbCmd} {s : State} {n : Fin 256} (hg : Granted 0x0205 1 m s) (ht : m.target = chTarget n)
    (hl : m.length = 16) (hc : (s.ch n).calRun = none) (hs : (s.ch n).state = .tripped)
    (ha : s.activeCauses n &&& (s.ch n).tripCause.toNat ≠ 0) :
    exec (.chClear m) s = .next ((s.takeOff 0x0205 m).respond m.mb
      (answerTo m RC_TRIP_ACTIVE 6 (s.activeCauses n &&& (s.ch n).tripCause.toNat) [])) := by
  let t := s.takeOff 0x0205 m
  have legal : t.chanCheck n (fun st => st == .tripped) = none :=
    State.chanCheck_of_legal (by simpa [t] using hc) (by simp [t, hs])
  have verdict : chanVerdict State.clear m t = .refuse RC_TRIP_ACTIVE (s.activeCauses n &&& (s.ch n).tripCause.toNat) [] := by
    simp only [chanVerdict, ht, tgtOf_chTarget, State.clear, legal]
    simp [t, ha]
  have code : (chanHdr 0x0205 16 1).stateCode m t = 6 := by
    rw [Hdr.stateCode_ch (n := n) ht (by decide) rfl, State.takeOff_ch, hs]; rfl
  show execChClear m s = _
  rw [execChClear, Hdr.run_granted' hg (lenIs_of hl (by decide)) (Hdr.targetOk_ch ht rfl) fun _ => rfl]
  exact congrArg Host.Outcome.next ((congrArg ((chanHdr 0x0205 16 1).conclude m t) verdict).trans
    (congrArg (fun c => t.respond m.mb (answerTo m RC_TRIP_ACTIVE c _ [])) code))

/-! ### Group masks (R363) -/

/-- A mask whose first channels pass goes on with the rest. -/
theorem runMask_append {f : Fin 256 → State → Option (Nat × Nat) × State} {l r ok ok' : List (Fin 256)} {s t : State}
    (h : runMask f l ok s = (none, ok', t)) : runMask f (l ++ r) ok s = runMask f r ok' t := by
  induction l generalizing ok s with
  | nil => cases h; rfl
  | cons n l ih =>
    rw [List.cons_append, runMask]
    rw [runMask] at h
    split at h
    · cases h
    · exact ih h

/-- A mask stops at a channel that refuses. -/
theorem runMask_refused {f : Fin 256 → State → Option (Nat × Nat) × State} {n : Fin 256} {t : State} {st d : Nat} (r ok : List (Fin 256))
    (h : (f n t).1 = some (st, d)) : runMask f (n :: r) ok t = (some (n.val, st, d), ok, (f n t).2) := by
  have split_ : f n t = (some (st, d), (f n t).2) := Prod.ext h rfl
  rw [runMask, split_]

end Sys2Proof.Machine

namespace Sys2Proof

open Sys2Proof.Machine Sys2Proof.Safety

/-- Settles O27, clause by clause: a refusal of CH_ENABLE, of a channel of its mask, of CH_CLEAR, and a mask's first refusal. -/
theorem driveCommandsRefused : Obligations.DriveCommandsRefused := by
  unfold Obligations.DriveCommandsRefused
  exact ⟨fun _ _ _ _ _ hg ht hl hc hs hf hp => chEnable_refused hg ht hl hc hs hf hp, fun _ _ _ _ hc hs hf => State.enable_of_fail hc hs hf,
    fun _ _ _ hg ht hl hc hs ha => chClear_refused hg ht hl hc hs ha,
    fun _ _ r _ _ _ _ _ hrun hf => (runMask_append hrun).trans (runMask_refused r _ hf)⟩

end Sys2Proof
end
section
/-! PROOF. The events raised stay raised: a Nib fault, whatever takeover, ramp-down or answer follows it, only adds to them (R208 to R213,
R432). -/

namespace Sys2Proof.Machine

/-- Every event raised in `s` is raised in `t`. -/
def Reports (s t : State) : Prop := s.blot.raised <+: t.blot.raised

theorem Reports.refl (s : State) : Reports s s := List.prefix_rfl

theorem Reports.trans (s t u : State) (h : Reports s t) (h' : Reports t u) : Reports s u := List.IsPrefix.trans h h'

theorem Reports.mem {s t : State} {e : Event} (h : Reports s t) (he : e ∈ s.blot.raised) : e ∈ t.blot.raised := h.subset he

theorem Reports.of_blot {s t : State} (h : t.blot = s.blot) : Reports s t := by rw [Reports, h]

/-- What is reported after a change that leaves the Blotter. -/
theorem Reports.after {s u t : State} (h : Reports u t) (hb : u.blot = s.blot := by rfl) : Reports s t := by rwa [Reports, ← hb]

/-- An event more, after a change that leaves the Blotter. -/
theorem Reports.raise {s t : State} (code sev source param : Nat) (h : Reports s t) : Reports s (t.raise code sev source param) :=
  h.trans _ _ _ (List.prefix_append _ _)

theorem Reports.forAll {α : Type} {f : α → State → State} (pass : ∀ a s, Reports s (f a s)) (l : List α) (s : State) :
    Reports s (forAll f l s) :=
  forAll_rel Reports.refl Reports.trans pass l s

/-! ### Changes of state -/

theorem State.record_reports (r : Rec) (s : State) : Reports s (s.record r) := by
  unfold State.record
  split
  · exact Reports.raise _ _ _ _ (.of_blot rfl)
  · exact .of_blot rfl

theorem State.rewrite_reports (n : Fin 256) (old new : Bool) (s : State) : Reports s (s.rewrite n old new) := by
  unfold State.rewrite
  split
  · exact s.record_reports _
  · split <;> exact .of_blot rfl

theorem State.refreshSlot_reports (k : Fin 1024) (s : State) : Reports s (s.refreshSlot k) := by
  have set_ : ∀ st, Reports s (s.setSlot k st) := fun st => by
    unfold State.setSlot
    split
    · exact .refl s
    · exact Reports.raise _ _ _ _ (.of_blot rfl)
  unfold State.refreshSlot
  split
  · exact set_ _
  · exact .refl s

theorem State.become_reports (n : Fin 256) (st : ChState) (s : State) : Reports s (s.become n st) := by
  unfold State.become
  dsimp only
  split
  · exact .refl s
  · split
    · exact Reports.after (State.rewrite_reports n _ _ _)
    · exact (Reports.after (State.rewrite_reports n _ _ _)).trans _ _ _ (State.refreshSlot_reports _ _)

theorem State.rampDown_reports (n : Fin 256) (pfail : Bool) (s : State) : Reports s (s.rampDown n pfail) := by
  unfold State.rampDown
  dsimp only
  split
  · exact .of_blot rfl
  · exact Reports.raise _ _ _ _ (.of_blot rfl)

/-! ### Late answers -/

theorem State.finish_reports (uid : Nat) (s : State) : Reports s (s.finish uid) := by
  rw [State.finish_eq, State.tellLate]
  dsimp only
  split
  · exact Reports.raise _ _ _ _ (.of_blot rfl)
  · exact .of_blot rfl

theorem State.respond_reports (k : Fin 8) (r : Response) (s : State) : Reports s (s.respond k r) := by
  unfold State.respond
  dsimp only
  split
  · exact .of_blot rfl
  · exact Reports.raise _ _ _ _ (.of_blot rfl)

theorem State.respondHeld_reports (k : Fin 8) (r : Response) (s : State) : Reports s (s.respondHeld k r) := by
  unfold State.respondHeld
  dsimp only
  split
  · exact .refl s
  · have answered : Reports s ((s.updMb k fun b => { b with working := b.working - 1 }).respond k r) :=
      Reports.after (State.respond_reports k r _)
    split
    · exact answered
    · refine answered.trans _ _ _ ?_
      unfold State.dropKept
      split
      · exact Reports.after (State.finish_reports _ _)
      · exact .refl _

theorem State.respondLate_reports (m : MbCmd) (r : Response) (s : State) : Reports s (s.respondLate m r) := by
  unfold State.respondLate
  split
  · exact .refl s
  · exact State.respondHeld_reports _ _ _

theorem State.answerRetire_reports (status detail : Nat) (m : MbCmd) (s : State) : Reports s (s.answerRetire status detail m) :=
  State.respondLate_reports _ _ _

theorem State.endNibTest_reports (k : Fin 20) (s : State) : Reports s (s.endNibTest k) := by
  unfold State.endNibTest
  split
  · exact Reports.after (State.respondHeld_reports _ _ _)
  · exact .refl s

/-! ### Axes (R294) -/

theorem State.stopLinear_reports (a : Fin 8) (quick : Bool) (s : State) : Reports s (s.stopLinear a quick) := by
  unfold State.stopLinear
  refine Reports.after (Reports.forAll (fun _ _ => ?_) _ _)
  exact .of_blot rfl

theorem State.answerStops_reports (a : Fin 8) (s : State) : Reports s (s.answerStops a) := by
  unfold State.answerStops
  dsimp only
  split
  · exact .refl s
  · exact Reports.after (Reports.forAll (fun _ _ => State.respondLate_reports _ _ _) _ _)

theorem State.axisFault_reports (a : Fin 8) (cause : Nat) (s : State) : Reports s (s.axisFault a cause) := by
  unfold State.axisFault
  dsimp only
  split
  · exact .refl s
  · refine Reports.trans _ _ _ (Reports.raise _ _ _ _ ?_) (State.answerStops_reports a _)
    exact (s.stopLinear_reports a false).trans _ _ _ (.of_blot rfl)

theorem State.axisNoNib_reports (a : Fin 8) (s : State) : Reports s (s.axisNoNib a) := by
  unfold State.axisNoNib
  split
  · exact .of_blot rfl
  · exact Reports.after (State.axisFault_reports a 3 _)
  · exact State.axisFault_reports a 3 s

/-! ### Nib faults (R208 to R213) -/

theorem State.groupNoNib_reports (g : Fin 17) (s : State) : Reports s (s.groupNoNib g) := by
  unfold State.groupNoNib
  split
  · refine Reports.raise _ _ _ _ (Reports.forAll (fun n t => ?_) _ s)
    refine Reports.trans _ _ _ ?_ (.of_blot (State.ckpt_blot ..))
    refine Reports.trans _ _ _ ?_ (State.become_reports n .interrupted _)
    exact (State.rampDown_reports n false t).trans _ _ _ (.of_blot rfl)
  · exact Reports.raise _ _ _ _ (Reports.forAll State.axisNoNib_reports _ s)

theorem State.startTakeover_reports (g : Fin 17) (old : Fin 20) (since : Nat) (s : State) : Reports s (s.startTakeover g old since) := by
  unfold State.startTakeover
  dsimp only
  split
  · exact Reports.after ((State.endNibTest_reports _ _).trans _ _ _ (.of_blot rfl))
  · exact Reports.after (State.groupNoNib_reports _ _)

theorem State.startPlanned_reports (g : Fin 17) (cmds : List MbCmd) (s : State) : Reports s (s.startPlanned g cmds) := by
  unfold State.startPlanned
  split
  · exact (State.endNibTest_reports _ _).trans _ _ _ (.of_blot rfl)
  · exact Reports.forAll (State.answerRetire_reports _ _) _ _

theorem State.abandonHandover_reports (k : Fin 20) (s : State) : Reports s (s.abandonHandover k) := by
  unfold State.abandonHandover
  split
  · exact .refl s
  · dsimp only
    split
    · exact .of_blot rfl
    · exact Reports.after (State.startPlanned_reports _ _ _)

theorem State.fence_reports (g : Fin 17) (s : State) : Reports s (s.fence g) := by
  unfold State.fence
  refine Reports.forAll (fun _ _ => ?_) _ _
  exact .of_blot rfl

theorem State.servingFault_reports (k : Fin 20) (g : Fin 17) (overruns : Bool) (s : State) : Reports s (s.servingFault k g overruns) := by
  unfold State.servingFault
  dsimp only
  refine Reports.trans _ _ _ ?_ (State.startTakeover_reports _ _ _ _)
  refine Reports.trans _ _ _ ?_ (Reports.forAll (State.answerRetire_reports 0 0) _ _)
  generalize hu : State.fence g _ = u
  have fenced : Reports s u := by
    rw [← hu]
    refine Reports.trans _ _ _ ?_ (State.fence_reports g _)
    exact Reports.raise _ _ _ _ (.of_blot rfl)
  split
  · exact Reports.raise _ _ _ _ (fenced.trans _ _ _ (.of_blot rfl))
  · exact fenced.trans _ _ _ (.of_blot rfl)

theorem State.nibFault_reports (k : Fin 20) (overruns : Bool) (s : State) : Reports s (s.nibFault k overruns) := by
  unfold State.nibFault
  split
  · exact State.servingFault_reports _ _ _ _
  · split
    · exact .refl s
    · refine Reports.trans _ _ _ ?_ (State.abandonHandover_reports _ _)
      exact Reports.raise _ _ _ _ (Reports.raise _ _ _ _ (.of_blot rfl))

end Sys2Proof.Machine
end
section
/-! PROOF. The reload capture of a channel (R39 to R53): what it changes of the drive, and what it leaves. -/

namespace Sys2Proof.Machine

open Sys2Proof.Safety

/-! ### One change after another -/

theorem vset_vset {α : Type} {n : Nat} (v : Vector α n) (i : Fin n) (x y : α) : vset (vset v i x) i y = vset v i y := by
  simp [vset]

theorem State.updCh_updCh (n : Fin 256) (f g : Channel → Channel) (s : State) : (s.updCh n f).updCh n g = s.updCh n fun c => g (f c) := by
  simp only [State.updCh, State.setCh, State.ch, vget_vset_self, vset_vset]

theorem State.updDie_updDie (f : Fin 4) (h k : Die → Die) (s : State) : (s.updDie f h).updDie f k = s.updDie f fun d => k (h d) := by
  simp only [State.updDie, State.dieOf, vget_vset_self, vset_vset]

/-- `t` is `s` but for the drive of channel `n`, which is `d`, and the events. -/
def Drives (n : Fin 256) (d : Drive) (s t : State) : Prop :=
  ∃ b, t = { s with
    chan := vset s.chan n { s.ch n with drive := d }
    blot := b }

section
variable {n : Fin 256} {d : Drive} {s t : State}

theorem Drives.start (n : Fin 256) (s : State) : Drives n (s.ch n).drive s s :=
  ⟨s.blot, (congrArg (fun c => { s with chan := c }) (vset_vget_self s.chan n)).symm⟩

theorem Drives.ch_self (h : Drives n d s t) : t.ch n = { s.ch n with drive := d } := by
  obtain ⟨_, rfl⟩ := h
  exact vget_vset_self _ _ _

theorem Drives.drive (h : Drives n d s t) : (t.ch n).drive = d := by rw [h.ch_self]

theorem Drives.ch_of_ne {j : Fin 256} (h : Drives n d s t) (hj : j ≠ n) : t.ch j = s.ch j := by
  obtain ⟨_, rfl⟩ := h
  exact vget_vset_of_ne _ _ hj.symm

theorem Drives.frame (h : Drives n d s t) : { t with
    chan := s.chan
    blot := s.blot } = s := by
  obtain ⟨_, rfl⟩ := h
  rfl

theorem Drives.hlimOf (h : Drives n d s t) (j : Fin 256) : t.hlimOf j = s.hlimOf j := by
  obtain ⟨_, rfl⟩ := h
  rfl

theorem Drives.event (h : Drives n d s t) (c v r p : Nat) : t.event c v r p = s.event c v r p := by
  obtain ⟨_, rfl⟩ := h
  rfl

theorem Drives.evalNib (h : Drives n d s t) (j : Fin 256) : t.evalNib j = s.evalNib j := by
  obtain ⟨_, rfl⟩ := h
  rfl

/-- A further change of the drive. -/
theorem Drives.updCh (h : Drives n d s t) (f : Channel → Drive) :
    Drives n (f { s.ch n with drive := d }) s (t.updCh n fun c => { c with drive := f c }) := by
  obtain ⟨b, rfl⟩ := h
  refine ⟨b, ?_⟩
  simp only [State.updCh, State.setCh, State.ch, vget_vset_self, vset_vset]

theorem Drives.raise (h : Drives n d s t) (c v r p : Nat) : Drives n d s (t.raise c v r p) := by
  obtain ⟨b, rfl⟩ := h
  exact ⟨_, rfl⟩

end

/-! ### Gate pulses (R51, R52) -/

theorem Gates.edge_horizon (cfg : Block) (mp : Nat) (lvl : Bool) (t : Nat) (g : Gates) : (g.edge cfg mp lvl t).1.horizon = g.horizon := by
  unfold Gates.edge
  split
  · rfl
  · dsimp only
    split
    · rfl
    · dsimp only
      split <;> rfl

/-- The edges of an interval leave the instant up to which the pulses are formed. -/
theorem Gates.follow_horizon (cfg : Block) (mp : Nat) (l : List (Bool × Nat)) (g : Gates) : (g.follow cfg mp l).1.horizon = g.horizon := by
  induction l generalizing g with
  | nil => rfl
  | cons e l ih => exact (ih _).trans (Gates.edge_horizon ..)

/-- The pulses of an interval: they are formed up to its end, and short ones are suppressed. -/
theorem Drives.pulses {n : Fin 256} {d : Drive} {s t : State} (h : Drives n d s t) (edges : List (Bool × Nat)) (len : Nat) :
    ∃ g k seen, g.horizon = d.reload + len ∧ Drives n { d with
      gates := some g
      suppress := k
      suppressSeen := seen } s (t.pulses n edges len) := by
  unfold State.pulses
  dsimp only
  generalize hf : Gates.follow _ _ _ _ = f
  have horizon : f.1.horizon = d.reload + len := by rw [← hf, Gates.follow_horizon, h.drive]
  have formed := h.updCh fun c => { c.drive with
    gates := some f.1
    suppress := satAdd c.drive.suppress f.2.length
    suppressSeen := c.drive.suppressSeen || !f.2.isEmpty }
  refine ⟨f.1, satAdd d.suppress f.2.length, d.suppressSeen || !f.2.isEmpty, horizon, ?_⟩
  split
  · split
    · exact formed
    · exact formed.raise _ _ _ _
  · exact formed

/-! ### The latch (R39, R40) -/

/-- `d'` is the drive `d` after a capture that drives the pins, with the configuration `cfg` and the hard limits `h`. -/
structure Drive.Latched (cfg : Block) (h : Option Block) (d d' : Drive) : Prop where
  latched : d'.latched = d.heldWord
  driving : d'.driving = true
  first : d'.first = false
  period : d'.period = (formPeriod cfg h d.first d.heldWord).1
  onTime : d'.onTime = (formPeriod cfg h d.first d.heldWord).2.1
  reload : d'.reload = d.reload + (segment cfg d.first d.reload d'.period d'.onTime).2
  horizon : (d'.gates.map fun g => g.horizon) = some d'.reload
  tapsH : d'.tapsH = d.tapsH
  tapsL : d'.tapsL = d.tapsL
  flights : d'.flights = d.flights
  overrun : d'.overrun = d.overrun
  consec : d'.consec = d.consec

/-- The drive takes word `w` with the period, on-time and limit step `p` that it forms (R39, R40). -/
def Drive.take (cfg : Block) (w : BitVec 64) (p : Nat × Nat × Nat) (d : Drive) : Drive :=
  { d with
    latched := w
    period := p.1
    onTime := p.2.1
    first := false
    driving := true
    periods := if cfFixed cfg then [] else d.periods ++ [p.1]
    clamp := if p.2.2 = 0 then d.clamp else satAdd d.clamp 1
    clampSeen := d.clampSeen || p.2.2 != 0 }

theorem Drives.latch {n : Fin 256} {d : Drive} {s t : State} (h : Drives n d s t) :
    ∃ d', d.Latched (s.ch n).cfg (s.hlimOf n) d' ∧ Drives n d' s (t.latch n true) := by
  have cfg : (t.ch n).cfg = (s.ch n).cfg := by rw [h.ch_self]
  unfold State.latch
  simp only [h.drive, cfg, h.hlimOf, if_true]
  generalize hp : formPeriod (s.ch n).cfg (s.hlimOf n) d.first d.heldWord = p
  generalize hg : segment (s.ch n).cfg d.first d.reload p.1 p.2.1 = g
  have taken : Drives n (d.take (s.ch n).cfg d.heldWord p) s (t.updCh n fun c => { c with drive := c.drive.take c.cfg d.heldWord p }) :=
    h.updCh _
  generalize hu : (if (p.2.2 != 0 && !d.clampSeen) = true then _ else _) = u
  have told : Drives n (d.take (s.ch n).cfg d.heldWord p) s u := by
    rw [← hu]
    split
    · exact taken.raise _ _ _ _
    · exact taken
  obtain ⟨x, k, seen, horizon, formed⟩ := told.pulses g.1 g.2
  have advanced := formed.updCh fun c => { c.drive with reload := c.drive.reload + g.2 }
  refine ⟨_, ?_, advanced⟩
  exact ⟨rfl, rfl, rfl, (congrArg Prod.fst hp).symm, (congrArg (fun x => x.2.1) hp).symm, by rw [← hg]; rfl, congrArg some horizon,
    rfl, rfl, rfl, rfl, rfl⟩

/-! ### Capture -/

theorem State.lateLands_of_none {n : Fin 256} {s : State} (h : (s.ch n).drive.late = none) : s.lateLands n = s := by
  rw [State.lateLands, h]

/-- The delay lines take their waiting calibrations (R36). -/
def Drive.applyTaps (d : Drive) : Drive :=
  { d with
    tapsH := d.tapsH.apply
    tapsL := d.tapsL.apply }

theorem Drives.applyTaps (n : Fin 256) (s : State) : Drives n (s.ch n).drive.applyTaps s (s.applyTaps n) :=
  (Drives.start n s).updCh fun c => c.drive.applyTaps

theorem State.captureChannel_of_ramp {n : Fin 256} {s : State} {left an start total : Nat} {pf : Bool} (hl : (s.ch n).drive.late = none)
    (hr : (s.ch n).drive.ramp = some (left, an, start, total, pf)) :
    s.captureChannel n = (s.applyTaps n).rampStep n left an start total pf := by
  have drive := (Drives.applyTaps n s).drive
  have late : ((s.applyTaps n).ch n).drive.late = none := by rw [drive]; exact hl
  have ramp : ((s.applyTaps n).ch n).drive.ramp = some (left, an, start, total, pf) := by rw [drive]; exact hr
  unfold State.captureChannel
  simp only [State.lateLands_of_none late, ramp]

/-- Without a ramp-down a channel that is neither active nor TRIPPED stops driving (R34, R49). -/
theorem State.captureChannel_of_idle {n : Fin 256} {s : State} (hl : (s.ch n).drive.late = none) (hr : (s.ch n).drive.ramp = none)
    (ha : (s.ch n).state.active = false) (ht : (s.ch n).state ≠ .tripped) : s.captureChannel n = (s.applyTaps n).stopDrive n := by
  have ch := (Drives.applyTaps n s).ch_self
  unfold State.captureChannel
  simp only [State.lateLands_of_none, ch, Drive.applyTaps, hl, hr, ha, ht, Bool.false_eq_true, if_false, ite_self]

/-- A capture that drives: the latch, then the updates that are due (R48, R113). -/
theorem State.captureChannel_of_active {n : Fin 256} {s : State} (hl : (s.ch n).drive.late = none) (hr : (s.ch n).drive.ramp = none)
    (ha : (s.ch n).state.active = true) (hf : s.rst.flushing = none) (hp : s.rst.pfailSeq = false) :
    s.captureChannel n = (((s.applyTaps n).latch n true).updCh n fun c => { c with
      drive := { c.drive with flights := c.drive.flights.filter fun x => !dueAt (s.ch n).drive.reload x } }).meetUpdates n
        ((s.ch n).drive.flights.filter (dueAt (s.ch n).drive.reload)) := by
  have ch := (Drives.applyTaps n s).ch_self
  have rst : (s.applyTaps n).rst = s.rst := rfl
  unfold State.captureChannel
  simp only [State.lateLands_of_none, ch, rst, Drive.applyTaps, hl, hr, ha, hf, hp, Bool.false_eq_true, if_false, if_true,
    Option.isSome_none, Bool.or_self]

/-- Updates with their words held end a run of overruns (R113, R114). -/
theorem Drives.meetHeld {n : Fin 256} {d : Drive} {s t : State} {l : List (Nat × Bool)} (h : Drives n d s t) (hl : ∀ x ∈ l, x.2 = true) :
    Drives n { d with consec := if l = [] then d.consec else 0 } s (t.meetUpdates n l) := by
  induction l generalizing d t with
  | nil => exact h
  | cons x l ih =>
    obtain ⟨i, held⟩ := x
    obtain rfl : held = true := hl _ List.mem_cons_self
    have next := ih (h.updCh fun c => { c.drive with consec := 0 }) fun x hx => hl x (List.mem_cons_of_mem _ hx)
    simp only [ite_self] at next
    rw [if_neg (List.cons_ne_nil _ _)]
    exact next

/-- A driving capture before it meets the due updates. -/
theorem Drives.captured {n : Fin 256} {s : State} : ∃ d, (s.ch n).drive.applyTaps.Latched (s.ch n).cfg (s.hlimOf n) d ∧
    Drives n { d with flights := d.flights.filter fun x => !dueAt (s.ch n).drive.reload x } s (((s.applyTaps n).latch n true).updCh n fun c =>
      { c with drive := { c.drive with flights := c.drive.flights.filter fun x => !dueAt (s.ch n).drive.reload x } }) := by
  obtain ⟨d, latched, drives⟩ := (Drives.applyTaps n s).latch
  exact ⟨d, latched, drives.updCh fun c => { c.drive with flights := c.drive.flights.filter fun x => !dueAt (s.ch n).drive.reload x }⟩

/-- Nothing is due among updates that a filter of the due ones leaves. -/
theorem filter_not_due_eq {b : Nat} {l : List (Nat × Bool)} (h : l.filter (dueAt b) = []) : l.filter (fun x => !dueAt b x) = l := by
  simpa [List.filter_eq_nil_iff] using h

theorem reloadCapture_latches {s : State} {n : Fin 256} (w : Bool) (hs : (s.ch n).state = .running) (hr : (s.ch n).drive.ramp = none)
    (hf : s.rst.flushing = none) (hp : s.rst.pfailSeq = false) (hl : (s.ch n).drive.late = none)
    (held : ∀ x ∈ (s.ch n).drive.flights, dueAt (s.ch n).drive.reload x = true → x.2 = true) :
    Completes (.reloadCapture (.channel n) w) s fun t =>
      (t.ch n).drive.latched = (s.ch n).drive.heldWord ∧ (t.ch n).drive.driving = true ∧ (t.ch n).drive.first = false ∧
      (t.ch n).drive.period = (formPeriod (s.ch n).cfg (s.hlimOf n) (s.ch n).drive.first (s.ch n).drive.heldWord).1 ∧
      (t.ch n).drive.onTime = (formPeriod (s.ch n).cfg (s.hlimOf n) (s.ch n).drive.first (s.ch n).drive.heldWord).2.1 ∧
      (t.ch n).drive.reload = (s.ch n).drive.reload + (segment (s.ch n).cfg (s.ch n).drive.first (s.ch n).drive.reload
        (t.ch n).drive.period (t.ch n).drive.onTime).2 ∧
      ((t.ch n).drive.gates.map fun g => g.horizon) = some (t.ch n).drive.reload ∧
      (t.ch n).drive.tapsH = (s.ch n).drive.tapsH.apply ∧ (t.ch n).drive.tapsL = (s.ch n).drive.tapsL.apply ∧
      (t.ch n).drive.flights = (s.ch n).drive.flights.filter (fun x => !dueAt (s.ch n).drive.reload x) ∧
      ((t.ch n).drive.flights ≠ (s.ch n).drive.flights → (t.ch n).drive.consec = 0) ∧
      { t.ch n with drive := (s.ch n).drive } = s.ch n ∧ (∀ j, j ≠ n → t.ch j = s.ch j) ∧
      { t with
        chan := s.chan
        blot := s.blot } = s := by
  obtain ⟨d, ⟨latched, driving, first, period, onTime, reload, horizon, tapsH, tapsL, flights, overrun, consec⟩, captured⟩ :=
    Drives.captured (n := n) (s := s)
  have met := captured.meetHeld (l := (s.ch n).drive.flights.filter (dueAt (s.ch n).drive.reload)) fun x hx =>
    held x (List.mem_filter.mp hx).1 (List.mem_filter.mp hx).2
  rw [← State.captureChannel_of_active hl hr (by rw [hs]; rfl) hf hp] at met
  have gone : (s.ch n).drive.flights.filter (fun x => !dueAt (s.ch n).drive.reload x) ≠ (s.ch n).drive.flights →
      (s.ch n).drive.flights.filter (dueAt (s.ch n).drive.reload) ≠ [] := fun h e => h (filter_not_due_eq e)
  refine ⟨s.captureChannel n, rfl, ?_⟩
  beta_reduce
  rw [met.drive, met.ch_self]
  exact ⟨latched, driving, first, period, onTime, reload, horizon, tapsH, tapsL, by rw [flights]; rfl,
    fun h => if_neg (gone (by rw [flights] at h; exact h)), rfl, fun j hj => met.ch_of_ne hj, met.frame⟩

theorem reloadCapture_stops {s : State} {n : Fin 256} (w : Bool) (hs : (s.ch n).state = .held) (hr : (s.ch n).drive.ramp = none)
    (hl : (s.ch n).drive.late = none) : exec (.reloadCapture (.channel n) w) s = .next (s.updCh n fun c => { c with
      drive := { c.drive with
        driving := false
        tapsH := c.drive.tapsH.apply
        tapsL := c.drive.tapsL.apply } }) := by
  show Host.Outcome.next (s.captureChannel n) = _
  rw [State.captureChannel_of_idle hl hr (by rw [hs]; rfl) (by rw [hs]; decide), State.applyTaps, State.stopDrive, State.updCh_updCh]

theorem reloadCapture_endsRamp {s : State} {n : Fin 256} {an start total : Nat} (w : Bool)
    (hr : (s.ch n).drive.ramp = some (0, an, start, total, false)) (hl : (s.ch n).drive.late = none) :
    exec (.reloadCapture (.channel n) w) s = .next (s.updCh n fun c => { c with
      drive := { c.drive with
        ramp := none
        driving := false
        onTime := 0
        tapsH := c.drive.tapsH.apply
        tapsL := c.drive.tapsL.apply } }) := by
  show Host.Outcome.next (s.captureChannel n) = _
  rw [State.captureChannel_of_ramp hl hr, State.rampStep, State.applyTaps, State.updCh_updCh]
  rfl

/-! ### Overruns (R113, R114) -/

/-- A Nib that misses its update: the overrun is counted and reported, and the third in a row is a fault of the Nib. -/
theorem Drives.overrun {n : Fin 256} {d : Drive} {s t : State} {k : Fin 20} (h : Drives n d s t) (hk : s.evalNib n = some k) :
    s.event 0x0401 NOTICE n.val (satAdd d.overrun 1 + 2 ^ 32 * ((d.consec + 1) % 4)) ∈ (t.overrun n).blot.raised ∧
    (d.consec < 2 → ((t.overrun n).ch n).drive = { d with
        overrun := satAdd d.overrun 1
        consec := d.consec + 1
        overdue := d.overdue + 1 } ∧ ((t.overrun n).ch n).loop.overrun = true) ∧
    (2 ≤ d.consec → s.event 0x0402 ALARM k.val (n.val + 2 ^ 8 * (groupOf n).val) ∈ (t.overrun n).blot.raised) := by
  rw [← h.evalNib] at hk
  unfold State.overrun
  simp only [hk, h.drive]
  generalize hu : State.raise 0x0401 _ _ _ _ = u
  have raised : s.event 0x0401 NOTICE n.val (satAdd d.overrun 1 + 2 ^ 32 * ((d.consec + 1) % 4)) ∈ u.blot.raised := by
    rw [← hu, State.raise_raised, ← h.event]
    exact List.mem_append_right _ (List.mem_singleton.mpr rfl)
  split
  next few =>
    refine ⟨raised, fun _ => ?_, fun many => by omega⟩
    rw [← hu, State.raise_ch, State.updCh_ch, h.ch_self]
    exact ⟨rfl, rfl⟩
  next many =>
    generalize hv : State.raise 0x0402 _ _ _ _ = v
    have third : s.event 0x0402 ALARM k.val (n.val + 2 ^ 8 * (groupOf n).val) ∈ v.blot.raised := by
      rw [← hv, State.raise_raised, ← h.event, ← hu]
      exact List.mem_append_right _ (List.mem_singleton.mpr rfl)
    have kept : Reports u v := by rw [← hv]; exact Reports.raise _ _ _ _ (.of_blot rfl)
    have fault := State.nibFault_reports k true v
    exact ⟨fault.mem (kept.mem raised), fun few => by omega, fun _ => fault.mem third⟩

/-- Only the oldest update is due, and its word is not held. -/
theorem filter_due_single {b x : Nat} {l : List (Nat × Bool)} (hx : x + 35584 + 1280 ≤ b) (hl : ∀ y ∈ l, b < y.1 + 35584 + 1280) :
    ((x, false) :: l).filter (dueAt b) = [(x, false)] := by
  have due : dueAt b (x, false) = true := decide_eq_true hx
  have later : l.filter (dueAt b) = [] := List.filter_eq_nil_iff.mpr fun y hy h =>
    absurd (of_decide_eq_true h : y.1 + 35584 + 1280 ≤ b) (Nat.not_le_of_lt (hl y hy))
  rw [List.filter_cons_of_pos due, later]

theorem reloadCapture_overruns {s : State} {n : Fin 256} {k : Fin 20} {x : Nat} {l : List (Nat × Bool)} (w : Bool)
    (hs : (s.ch n).state = .running) (hr : (s.ch n).drive.ramp = none)
    (hf : s.rst.flushing = none) (hp : s.rst.pfailSeq = false) (hl : (s.ch n).drive.late = none) (hk : s.evalNib n = some k)
    (hfl : (s.ch n).drive.flights = (x, false) :: l) (hx : x + 35584 + 1280 ≤ (s.ch n).drive.reload)
    (hy : ∀ y ∈ l, (s.ch n).drive.reload < y.1 + 35584 + 1280) :
    Completes (.reloadCapture (.channel n) w) s fun t =>
      s.event 0x0401 NOTICE n.val (satAdd (s.ch n).drive.overrun 1 + 2 ^ 32 * (((s.ch n).drive.consec + 1) % 4)) ∈ t.blot.raised ∧
      ((s.ch n).drive.consec < 2 → (t.ch n).drive.latched = (s.ch n).drive.heldWord ∧
        (t.ch n).drive.overrun = satAdd (s.ch n).drive.overrun 1 ∧ (t.ch n).drive.consec = (s.ch n).drive.consec + 1 ∧
        (t.ch n).loop.overrun = true) ∧
      (2 ≤ (s.ch n).drive.consec → s.event 0x0402 ALARM k.val (n.val + 2 ^ 8 * (groupOf n).val) ∈ t.blot.raised) := by
  obtain ⟨d, ⟨latched, _, _, _, _, _, _, _, _, _, overrun, consec⟩, captured⟩ := Drives.captured (n := n) (s := s)
  obtain ⟨told, counts, fault⟩ := captured.overrun hk
  simp only [overrun, consec] at told counts fault
  refine ⟨s.captureChannel n, rfl, ?_⟩
  beta_reduce
  rw [State.captureChannel_of_active hl hr (by rw [hs]; rfl) hf hp, hfl, filter_due_single hx hy]
  refine ⟨told, fun few => ?_, fault⟩
  obtain ⟨drive, loop⟩ := counts few
  refine ⟨(congrArg Drive.latched drive).trans latched, congrArg Drive.overrun drive, congrArg Drive.consec drive, loop⟩

end Sys2Proof.Machine
end

section
/-! PROOF. The reload capture of an axis, delay lines and converter self-tests (R36, R37, R91 to R93, R209, R274, R276), and O31. -/

namespace Sys2Proof.Machine

open Sys2Proof.Safety

/-! ### Axes (R209, R276) -/

theorem Coil.latch_of_stale {c : Coil} (claim : BitVec 4) (h : c.fresh = false) : c.latch claim = c := by
  rw [Coil.latch, h]; rfl

theorem Coil.latch_of_claim {c : Coil} {claim : BitVec 4} (h : c.fresh = true) (hc : c.heldWord.toNat / 2 ^ 60 = claim.toNat) :
    c.latch claim = { c with
      latched := gmOn c.heldWord
      live := true
      fresh := false } := by
  rw [Coil.latch, h, if_neg (by decide), if_pos hc]

theorem Coil.refused_of_stale {c : Coil} (claim : BitVec 4) (h : c.fresh = false) : c.refused claim = false := by
  rw [Coil.refused, h, Bool.false_and]

theorem Coil.refused_of_claim {c : Coil} {claim : BitVec 4} (hc : c.heldWord.toNat / 2 ^ 60 = claim.toNat) : c.refused claim = false := by
  rw [Coil.refused, hc]; simp

theorem reloadCapture_coil {s : State} {a : Fin 8} (ha : (s.ax a).coilA.fresh = true)
    (hc : (s.ax a).coilA.heldWord.toNat / 2 ^ 60 = s.nibs.acceptClaim.toNat) (hb : (s.ax a).coilB.fresh = false) :
    Completes (.reloadCapture (.axis a) false) s fun t =>
      (t.ax a).coilA.latched = gmOn (s.ax a).coilA.heldWord ∧ (t.ax a).coilA.live = true ∧ (t.ax a).coilB = (s.ax a).coilB ∧
      (t.ax a).claimRefused = satAdd (s.ax a).claimRefused 0 ∧ (∀ b, b ≠ a → t.ax b = s.ax b) ∧ { t with axis := s.axis } = s := by
  refine ⟨s.captureAxis a false, rfl, ?_⟩
  have others : ∀ b, b ≠ a → (s.captureAxis a false).ax b = s.ax b := fun b hb => by
    simp only [State.captureAxis, Bool.not_false, if_true, State.updAx_ax_of_ne _ _ hb.symm]
  refine ⟨?_, ?_, ?_, ?_, others, rfl⟩ <;>
    simp only [State.captureAxis, Bool.not_false, if_true, State.updAx_ax, Coil.latch_of_claim ha hc, Coil.latch_of_stale _ hb,
      Coil.refused_of_claim hc, Coil.refused_of_stale _ hb, b2n, Bool.false_eq_true, if_false]

/-! ### Delay lines (R36, R37) -/

theorem State.updDie_congr {f : Fin 4} {h k : Die → Die} {s : State} (e : h (s.dieOf f) = k (s.dieOf f)) : s.updDie f h = s.updDie f k := by
  simp only [State.updDie, e]

theorem dlineCalibration_last {s : State} {f : Fin 4} {line : Fin 128} {err : Int} (hb : (s.dieOf f).dlineBad = [line.val])
    (he : err = 0 ∨ err = 1 ∨ err = -1) :
    exec (.dlineCalibration f line err) s = .next ((s.newTaps f line err).updDie f fun d => { d with
      dlineBad := []
      dlineOk := true }) := by
  have within : err.natAbs ≤ 1 := by omega
  have die : (s.newTaps f line err).dieOf f = s.dieOf f := State.updCh_dieOf ..
  show execDlineCalibration f line err s = _
  simp only [execDlineCalibration, within, if_true]
  refine congrArg _ (State.updDie_congr ?_)
  simp [die, hb]

theorem dlineCalibration_fails {s : State} {f : Fin 4} (line : Fin 128) {err : Int} (he : 1 < err.natAbs) (hb : (s.dieOf f).dlineBad = []) :
    exec (.dlineCalibration f line err) s = .next (s.raise 0x0207 ALARM f.val (line.val + 2 ^ 8 * (err % (256 : Int)).toNat)) := by
  have beyond : ¬ err.natAbs ≤ 1 := by omega
  show execDlineCalibration f line err s = _
  simp only [execDlineCalibration, beyond, if_false, hb, List.contains_nil, Bool.false_eq_true]

/-! ### Self-tests (R91 to R93) -/

/-- The test's code is kept in its die. -/
def State.keepCode (f : Fin 4) (c : Nat) (code : Int) (s : State) : State :=
  s.updDie f fun d => { d with codes := (c, code) :: d.codes.filter fun x => x.1 != c }

/-- A test that passes clears the converter's failures. -/
theorem State.convTest_pass {s : State} {f : Fin 4} {c : Nat} {code : Int} (hc : c < 136) (he : (code - s.refCode f c).natAbs ≤ 2048) :
    s.convTest f c code = (if c < 128 then (s.keepCode f c code).updCh (convChannel f c) fun x => { x with
        meas := { x.meas with
          skipV := x.meas.skipV || c % 2 == 0
          skipI := x.meas.skipI || c % 2 == 1 } }
      else s.keepCode f c code).updDie f fun d => { d with fails := d.fails.filter fun x => x.1 != c } := by
  have noSpare : (decide (136 ≤ c) && !(s.dieOf f).spares.contains c) = false := by
    rw [decide_eq_false (by omega), Bool.false_and]
  simp only [State.convTest, noSpare, he, if_true, Bool.false_eq_true, if_false]
  rfl

/-- A failed test of an auxiliary converter: the first one is reported, the second steers. -/
theorem State.convTest_fail {s : State} {f : Fin 4} {c : Nat} {code : Int} (hl : 128 ≤ c) (hc : c < 136)
    (he : 2048 < (code - s.refCode f c).natAbs) :
    s.convTest f c code = if (s.dieOf f).fails.any fun x => x.1 == c then (s.keepCode f c code).steer f c
      else ((s.keepCode f c code).updDie f fun d => { d with fails := (c, 1) :: d.fails }).raise 0x0301 NOTICE f.val
        (c + 2 ^ 16 * p16 (divFree (code - s.refCode f c) 16)) := by
  have noSpare : (decide (136 ≤ c) && !(s.dieOf f).spares.contains c) = false := by
    rw [decide_eq_false (by omega), Bool.false_and]
  have aux : ¬ c < 128 := by omega
  have beyond : ¬ (code - s.refCode f c).natAbs ≤ 2048 := by omega
  simp only [State.convTest, noSpare, aux, beyond, hc, if_true, Bool.false_eq_true, if_false]
  rfl

theorem convSelftest_passes {s : State} {f : Fin 4} {c : Fin 140} {code : Int} (hl : 128 ≤ c.val) (hc : c.val < 136)
    (he : (code - s.refCode f c.val).natAbs ≤ 2048) :
    exec (.convSelftest (.fe f c) code) s = .next (s.updDie f fun d => { d with
      codes := (c.val, code) :: d.codes.filter fun x => x.1 != c.val
      fails := d.fails.filter fun x => x.1 != c.val }) := by
  show Host.Outcome.next (s.convTest f c.val code) = _
  rw [State.convTest_pass hc he, if_neg (by omega), State.keepCode, State.updDie_updDie]

theorem convSelftest_firstFailure {s : State} {f : Fin 4} {c : Fin 140} {code : Int} (hl : 128 ≤ c.val) (hc : c.val < 136)
    (he : 2048 < (code - s.refCode f c.val).natAbs) (hf : ∀ x ∈ (s.dieOf f).fails, x.1 ≠ c.val) :
    exec (.convSelftest (.fe f c) code) s = .next ((s.updDie f fun d => { d with
      codes := (c.val, code) :: d.codes.filter fun x => x.1 != c.val
      fails := (c.val, 1) :: d.fails }).raise 0x0301 NOTICE f.val (c.val + 2 ^ 16 * p16 (divFree (code - s.refCode f c.val) 16))) := by
  have fresh : ((s.dieOf f).fails.any fun x => x.1 == c.val) = false := by simpa using hf
  show Host.Outcome.next (s.convTest f c.val code) = _
  rw [State.convTest_fail hl hc he, fresh, if_neg Bool.false_ne_true, State.keepCode, State.updDie_updDie]

/-- The lowest spare is steered in for an auxiliary converter, which takes 100 µs (R92). -/
theorem State.steer_aux {s : State} {f : Fin 4} {c sp : Nat} {rest : List Nat} (hl : 128 ≤ c) (hs : (s.dieOf f).spares = sp :: rest) :
    ∃ t : State, s.steer f c = t.raise 0x0302 NOTICE f.val (c + 2 ^ 8 * sp) ∧ (t.dieOf f).spares = rest ∧ (c, sp, false) ∈ (t.dieOf f).steered ∧
      (Timer.spare f c, s.now + 25000) ∈ t.timers ∧ t.chan = s.chan ∧ t.tb = s.tb := by
  have aux : ¬ c < 128 := by omega
  let u := (s.startTimer (.spare f c) 25000).updDie f fun d => { d with
    spares := rest
    steered := (c, sp, false) :: d.steered.filter fun x => x.1 != c
    fails := d.fails.filter fun x => x.1 != c }
  have die : ({ u with vel := { u.vel with convSteered := satAdd u.vel.convSteered 1 } } : State).dieOf f = u.dieOf f := rfl
  refine ⟨{ u with vel := { u.vel with convSteered := satAdd u.vel.convSteered 1 } }, ?_, ?_, ?_,
    List.mem_append_right _ (List.mem_singleton.mpr rfl), rfl, rfl⟩
  · simp only [State.steer, hs, aux, if_false]
    rfl
  · rw [die, State.updDie_dieOf]
  · rw [die, State.updDie_dieOf]
    exact List.mem_cons_self

theorem convSelftest_steers {s : State} {f : Fin 4} {c : Fin 140} {code : Int} {sp : Nat} {rest : List Nat} (hl : 128 ≤ c.val)
    (hc : c.val < 136) (he : 2048 < (code - s.refCode f c.val).natAbs) (hf : ∃ x ∈ (s.dieOf f).fails, x.1 = c.val)
    (hs : (s.dieOf f).spares = sp :: rest) :
    Completes (.convSelftest (.fe f c) code) s fun t =>
      (t.dieOf f).spares = rest ∧ (c.val, sp, false) ∈ (t.dieOf f).steered ∧ (Timer.spare f c.val, s.now + 25000) ∈ t.timers ∧ t.chan = s.chan ∧
      (∃ u, t.blot.raised = u ++ [s.event 0x0302 NOTICE f.val (c.val + 2 ^ 8 * sp)]) := by
  have again : ((s.dieOf f).fails.any fun x => x.1 == c.val) = true := by simpa using hf
  have spares : ((s.keepCode f c.val code).dieOf f).spares = sp :: rest := by rw [State.keepCode, State.updDie_dieOf]; exact hs
  obtain ⟨t, steered, left, taken, timer, chan, tb⟩ := State.steer_aux hl spares
  have event : t.event 0x0302 NOTICE f.val (c.val + 2 ^ 8 * sp) = s.event 0x0302 NOTICE f.val (c.val + 2 ^ 8 * sp) := by
    simp only [State.event, tb]; rfl
  refine ⟨s.convTest f c.val code, rfl, ?_⟩
  rw [State.convTest_fail hl hc he, again, if_pos rfl, steered]
  exact ⟨left, taken, timer, chan, _, congrArg (t.blot.raised ++ [·]) event⟩

theorem convSelftest_channel {s : State} {f : Fin 4} {c : Fin 140} {code : Int} (hc : c.val < 128)
    (he : (code - s.refCode f c.val).natAbs ≤ 2048) :
    Completes (.convSelftest (.fe f c) code) s fun t =>
      (t.ch (convChannel f c.val)).meas.skipV = ((s.ch (convChannel f c.val)).meas.skipV || c.val % 2 == 0) ∧
      (t.ch (convChannel f c.val)).meas.skipI = ((s.ch (convChannel f c.val)).meas.skipI || c.val % 2 == 1) ∧
      (t.dieOf f).fails = (s.dieOf f).fails.filter (fun x => x.1 != c.val) ∧ t.blot = s.blot := by
  refine ⟨s.convTest f c.val code, rfl, ?_⟩
  rw [State.convTest_pass (by omega) he, if_pos hc]
  refine ⟨?_, ?_, ?_, rfl⟩
  · rw [State.updDie_ch, State.updCh_ch]; rfl
  · rw [State.updDie_ch, State.updCh_ch]; rfl
  · rw [State.updDie_dieOf, State.updCh_dieOf, State.keepCode, State.updDie_dieOf]

theorem convSelftest_coil {s : State} {a : Fin 8} {code : Int} (he : (code - Config.factoryRef (1000 + 2 * a.val)).natAbs ≤ 2048) :
    exec (.convSelftest (.coil a false) code) s = .next (s.updAx a fun x => { x with
      coilA := { x.coilA with
        testFails := 0
        testOk := true } }) := by
  have good : decide (2048 < (code - Config.factoryRef (1000 + 2 * a.val + b2n false)).natAbs) = false :=
    decide_eq_false (Nat.not_lt_of_le he)
  show Host.Outcome.next (s.coilTest a false code) = _
  simp only [State.coilTest, good, Bool.false_eq_true, if_false, State.updAx_ax, OfNat.zero_ne_ofNat, Bool.not_false]

/-! ### The spare settles (R92) -/

/-- A delay that runs has not run out before its end. -/
theorem State.ranOut_of_running {s : State} {k : Timer} {x : Nat} (hm : (k, x) ∈ s.timers) (hx : s.now < x) : s.ranOut k = false := by
  rw [State.ranOut, List.all_eq_false]
  exact ⟨_, hm, by simp [hx]⟩

theorem spareSettled_early {s : State} {f : Fin 4} {c : Fin 140} {x : Nat} (hm : (Timer.spare f c.val, x) ∈ s.timers) (hx : s.now < x) :
    exec (.spareSettled f c) s = .next s := by
  show execSpareSettled f c s = _
  rw [execSpareSettled, State.ranOut_of_running hm hx]
  rfl

/-- The die once the spare of converter `c` has settled. -/
def Die.settle (c : Nat) (d : Die) : Die :=
  let e := { d with steered := d.steered.map fun x => if x.1 = c then (x.1, x.2.1, true) else x }
  match d.steered.find? fun x => x.1 == c && !x.2.2 with
  | some x => e.moveCode c x.2.1
  | none => e

theorem Die.settle_steered (c : Nat) (d : Die) : (d.settle c).steered = d.steered.map fun x => if x.1 = c then (x.1, x.2.1, true) else x := by
  unfold Die.settle
  dsimp only
  split <;> rfl

theorem exec_spareSettled {s : State} {f : Fin 4} {c : Fin 140} (hr : s.ranOut (.spare f c.val) = true) :
    exec (.spareSettled f c) s = .next (s.updDie f (Die.settle c.val)) := by
  show execSpareSettled f c s = _
  rw [execSpareSettled, hr]
  rfl

theorem spareSettled_acts {s : State} {f : Fin 4} {c : Fin 140} (hr : s.ranOut (.spare f c.val) = true) :
    Completes (.spareSettled f c) s fun t =>
      (∀ sp b, (c.val, sp, b) ∈ (s.dieOf f).steered → (c.val, sp, true) ∈ (t.dieOf f).steered) ∧
      (∀ x ∈ (s.dieOf f).steered, x.1 ≠ c.val → x ∈ (t.dieOf f).steered) ∧ (∀ g, g ≠ f → t.dieOf g = s.dieOf g) ∧ { t with die := s.die } = s := by
  refine ⟨_, exec_spareSettled hr, fun sp b hm => ?_, fun x hm hx => ?_, fun g hg => State.updDie_dieOf_of_ne _ _ hg.symm, rfl⟩
  · rw [State.updDie_dieOf, Die.settle_steered]
    exact List.mem_map.mpr ⟨_, hm, if_pos rfl⟩
  · rw [State.updDie_dieOf, Die.settle_steered]
    exact List.mem_map.mpr ⟨_, hm, if_neg hx⟩

end Sys2Proof.Machine

namespace Sys2Proof

open Sys2Proof.Machine Sys2Proof.Safety

/-- Settles O31: each clause is the lemma of its row above, captures by what the channel's drive does at the boundary, self-tests by
whether they pass and for which time they fail. -/
theorem captureAndSelfTests : Obligations.CaptureAndSelfTests := by
  unfold Obligations.CaptureAndSelfTests
  exact ⟨fun _ _ w hs hr hf hp hl held => reloadCapture_latches w hs hr hf hp hl held, fun _ _ w hs hr hl => reloadCapture_stops w hs hr hl,
    fun _ _ w _ _ _ hs hr hf hp hl hk hfl hx hy => reloadCapture_overruns w hs hr hf hp hl hk hfl hx hy,
    fun _ _ w _ _ _ hr hl => reloadCapture_endsRamp w hr hl, fun _ _ ha hc hb => reloadCapture_coil ha hc hb,
    fun _ _ _ _ hb he => dlineCalibration_last hb he, fun _ _ line _ he hb => dlineCalibration_fails line he hb,
    fun _ _ _ _ hl hc he => convSelftest_passes hl hc he, fun _ _ _ _ hl hc he hf => convSelftest_firstFailure hl hc he hf,
    fun _ _ _ _ _ _ hl hc he hf hs => convSelftest_steers hl hc he hf hs, fun _ _ _ _ hc he => convSelftest_channel hc he,
    fun _ _ _ he => convSelftest_coil he, fun _ _ _ _ hm hx => spareSettled_early hm hx, fun _ _ _ hr => spareSettled_acts hr⟩

end Sys2Proof
end
section
/-! PROOF. Loops over channels: what a pass that leaves the state, and passes over different channels, come to. -/

namespace Sys2Proof.Machine

theorem forAll_append {α : Type} (f : α → State → State) (l r : List α) (s : State) : forAll f (l ++ r) s = forAll f r (forAll f l s) := by
  induction l generalizing s with
  | nil => rfl
  | cons a l ih => exact ih _

/-- Passes that leave the state leave it all together. -/
theorem forAll_of_fixed {α : Type} {f : α → State → State} {l : List α} {s : State} (h : ∀ a ∈ l, f a s = s) : forAll f l s = s := by
  induction l with
  | nil => rfl
  | cons a l ih =>
    rw [forAll, h a List.mem_cons_self]
    exact ih fun b hb => h b (List.mem_cons_of_mem _ hb)

/-- The same change of every channel of a list. -/
theorem forAll_updCh_ch {f : Channel → Channel} {l : List (Fin 256)} (s : State) (hl : l.Nodup) (j : Fin 256) :
    (forAll (fun n t => t.updCh n f) l s).ch j = if j ∈ l then f (s.ch j) else s.ch j := by
  induction l generalizing s with
  | nil => rfl
  | cons n l ih =>
    obtain ⟨new, rest⟩ := List.nodup_cons.mp hl
    rw [forAll, ih _ rest]
    rcases eq_or_ne n j with rfl | hne
    · rw [if_neg new, if_pos List.mem_cons_self, State.updCh_ch]
    · rw [State.updCh_ch_of_ne _ _ hne]
      simp only [List.mem_cons, hne.symm, false_or]

theorem forAll_updCh_frame (f : Channel → Channel) (l : List (Fin 256)) (s : State) :
    ∃ c, forAll (fun n t => t.updCh n f) l s = { s with chan := c } := by
  refine forAll_rel (R := fun s t => ∃ c, t = { s with chan := c }) (fun s => ⟨s.chan, rfl⟩) ?_ (fun n s => ⟨_, rfl⟩) l s
  rintro s t u ⟨_, rfl⟩ ⟨c, rfl⟩
  exact ⟨c, rfl⟩

theorem mem_groupChannels {g : Fin 16} {n : Fin 256} : n ∈ groupChannels g ↔ groupOf n = g := by
  simp only [groupChannels, List.mem_map, List.mem_range, groupOf, Fin.ext_iff, Fin.val_ofNat]
  refine ⟨fun ⟨i, hi, e⟩ => by omega, fun h => ⟨n.val % 16, by omega, by omega⟩⟩

theorem groupChannels_nodup (g : Fin 16) : (groupChannels g).Nodup := by
  refine List.Nodup.map_on (fun i hi j hj e => ?_) List.nodup_range
  rw [List.mem_range] at hi hj
  simp only [Fin.ext_iff, Fin.val_ofNat] at e
  omega

theorem mem_dieChannels (n : Fin 256) : n ∈ dieChannels (dieOfCh n) := by
  simp only [dieChannels, List.mem_map, List.mem_range, dieOfCh, Fin.ext_iff, Fin.val_ofNat]
  exact ⟨n.val % 64, by omega, by omega⟩

end Sys2Proof.Machine
end

section
/-! PROOF. The measurement rows (R70 to R77, R94 to R98, R249, R267), and O29. -/

namespace Sys2Proof.Machine

open Sys2Proof.Safety

theorem State.updCh_congr {n : Fin 256} {f g : Channel → Channel} {s : State} (e : f (s.ch n) = g (s.ch n)) :
    s.updCh n f = s.updCh n g := by
  simp only [State.updCh, e]

/-! ### Conversions (R70 to R77) -/

theorem clampInt_of_within {lo hi x : Int} (h : lo ≤ x) (h' : x ≤ hi) : clampInt lo hi x = x := by
  rw [clampInt, if_neg (by omega), if_neg (by omega)]

/-- A voltage enters the record mean; the latest readings stay. -/
theorem Meas.count_voltage (free : Bool) (x : Int) (i : Option Int) (m : Meas) :
    (m.count free (some x) i).vLast = m.vLast ∧ (m.count free (some x) i).iLast = m.iLast ∧
    (m.count free (some x) i).recN = m.recN + 1 ∧ (m.count free (some x) i).recSumV = m.recSumV + x := by
  cases i <;> exact ⟨rfl, rfl, rfl, rfl⟩

/-- The averages of a free-running channel with the readings `r` of a pair within range, neither of them the self-test's. -/
def Channel.reads (r : Int × Option Int) (c : Channel) : Meas :=
  Meas.count true (some r.1) r.2 { c.meas with
    skipV := false
    skipI := false
    cal := c.calUsed
    calNext := none
    vLast := r.1
    iLast := r.2
    ovrV := false
    ovrI := false }

theorem Channel.reads_readings (r : Int × Option Int) (c : Channel) :
    (c.reads r).vLast = r.1 ∧ (c.reads r).iLast = r.2 ∧ (c.reads r).recN = c.meas.recN + 1 ∧
    (c.reads r).recSumV = c.meas.recSumV + r.1 :=
  Meas.count_voltage _ _ _ _

/-- A pair within range of an OFF channel changes its readings and averages only. -/
theorem State.convert_of_off {s : State} {n : Fin 256} {k : Conversion} (hs : (s.ch n).state = .off) (hc : (s.ch n).calRun = none)
    (hv : (s.ch n).meas.skipV = false) (hi : (s.ch n).meas.skipI = false) (v0 : 0 ≤ k.codeV) (v1 : k.codeV ≤ 4096)
    (i0 : -2048 ≤ k.codeI) (i1 : k.codeI ≤ 2048) :
    s.convert n k = s.updCh n fun c => { c with meas := (s.ch n).reads (s.calibrated n k.codeV k.codeI k) } := by
  have codeV : clampInt (-128) 4224 k.codeV = k.codeV := clampInt_of_within (by omega) (by omega)
  have codeI : clampInt (-2176) 2176 k.codeI = k.codeI := clampInt_of_within (by omega) (by omega)
  have inV : (decide (k.codeV < 0) || decide (4096 < k.codeV)) = false := by simp; omega
  have inI : (decide (k.codeI < -2048) || decide (2048 < k.codeI)) = false := by simp; omega
  have idle : ChState.off.active = false := rfl
  simp only [State.convert, codeV, codeI, inV, inI, hv, hi, hs, idle, hc, if_true, if_false, Bool.false_eq_true, Bool.false_and,
    Bool.not_false, Bool.or_false, Option.map_none, State.acceptSample]
  refine State.updCh_congr ?_
  rw [← hc]
  rfl

theorem channelConversion_reads {s : State} {n : Fin 256} {k : Conversion} (hs : (s.ch n).state = .off) (hc : (s.ch n).calRun = none)
    (hv : (s.ch n).meas.skipV = false) (hi : (s.ch n).meas.skipI = false) (v0 : 0 ≤ k.codeV) (v1 : k.codeV ≤ 4096)
    (i0 : -2048 ≤ k.codeI) (i1 : k.codeI ≤ 2048) :
    Completes (.channelConversion n k) s fun t =>
      (t.ch n).meas.vLast = (s.calibrated n k.codeV k.codeI k).1 ∧ (t.ch n).meas.iLast = (s.calibrated n k.codeV k.codeI k).2 ∧
      (t.ch n).meas.recN = (s.ch n).meas.recN + 1 ∧
      (t.ch n).meas.recSumV = (s.ch n).meas.recSumV + (s.calibrated n k.codeV k.codeI k).1 ∧
      { t.ch n with meas := (s.ch n).meas } = s.ch n ∧ (∀ j, j ≠ n → t.ch j = s.ch j) ∧ { t with chan := s.chan } = s := by
  have runs : exec (.channelConversion n k) s = .next (s.convert n k) := by
    show execChannelConversion n k s = _
    rw [execChannelConversion, if_neg (by rw [hs]; decide)]
  obtain ⟨vLast, iLast, recN, recSumV⟩ := (s.ch n).reads_readings (s.calibrated n k.codeV k.codeI k)
  refine ⟨_, runs, ?_⟩
  beta_reduce
  rw [State.convert_of_off hs hc hv hi v0 v1 i0 i1, State.updCh_ch]
  exact ⟨vLast, iLast, recN, recSumV, rfl, fun j hj => State.updCh_ch_of_ne _ _ hj.symm, rfl⟩

theorem channelConversion_absent {s : State} {n : Fin 256} (k : Conversion) (hs : (s.ch n).state = .absent) :
    exec (.channelConversion n k) s = .next s := by
  show execChannelConversion n k s = _
  rw [execChannelConversion, if_pos hs]

/-! ### Group power (R56, R76) -/

/-- A power window ends: its mean becomes the channel's power, 0 without a loop sample (log 56). -/
def Channel.closeWindow (c : Channel) : Channel :=
  { c with
    meas := { c.meas with
      power := if c.meas.pwrN = 0 then 0 else (mean c.meas.pwrSum c.meas.pwrN).toNat
      pwrSum := 0
      pwrN := 0 } }

/-- The window of every channel of a group ends. -/
def State.closeWindows (g : Fin 16) (s : State) : State := forAll (fun n t => t.updCh n fun c => c.closeWindow) (groupChannels g) s

/-- The power of a group's active channels. -/
def State.activePower (g : Fin 16) (s : State) : Nat :=
  (((groupChannels g).filter fun n => (s.ch n).state.active).map fun n => ((s.closeWindows g).ch n).meas.power).foldl (· + ·) 0

theorem State.closeWindows_ch (g : Fin 16) (s : State) (n : Fin 256) :
    (s.closeWindows g).ch n = if groupOf n = g then (s.ch n).closeWindow else s.ch n := by
  simp only [State.closeWindows, forAll_updCh_ch s (groupChannels_nodup g), mem_groupChannels]

theorem State.closeWindows_frame (g : Fin 16) (s : State) : ∃ c, s.closeWindows g = { s with chan := c } := forAll_updCh_frame ..

/-- Without a limit on the group's power the window trips no channel. -/
theorem exec_groupPowerWindow {s : State} {g : Fin 16} (h : s.groupMax g = none) :
    exec (.groupPowerWindow g) s = .next ((s.closeWindows g).updGrp g fun x => { x with power := s.activePower g }) := by
  have under : ((s.closeWindows g).updGrp g fun x => { x with power := s.activePower g }).groupOver g = false := by
    obtain ⟨c, e⟩ := s.closeWindows_frame g
    have noLimit : (State.updGrp g (fun x => { x with power := s.activePower g }) { s with chan := c }).groupMax g = s.groupMax g := by
      simp only [State.groupMax, State.updGrp_grp]
      rfl
    rw [e, State.groupOver, noLimit, h]
  show execGroupPowerWindow g s = _
  simp only [State.activePower, State.closeWindows, Channel.closeWindow] at under ⊢
  simp only [execGroupPowerWindow, under, Bool.false_eq_true, if_false]

theorem groupPowerWindow_measures {s : State} {g : Fin 16} (h : s.groupMax g = none) :
    Completes (.groupPowerWindow g) s fun t =>
      (∀ n, groupOf n = g → (t.ch n).meas.pwrN = 0 ∧ (t.ch n).meas.pwrSum = 0 ∧
        (t.ch n).meas.power = if (s.ch n).meas.pwrN = 0 then 0 else (mean (s.ch n).meas.pwrSum (s.ch n).meas.pwrN).toNat) ∧
      (∀ n, groupOf n ≠ g → t.ch n = s.ch n) ∧ (∀ h, h ≠ g → t.grp h = s.grp h) ∧
      (t.grp g).power = (((groupChannels g).filter fun n => (s.ch n).state.active).map fun n => (t.ch n).meas.power).foldl (· + ·) 0 ∧
      { t with
        chan := s.chan
        group := s.group } = s := by
  obtain ⟨c, e⟩ := s.closeWindows_frame g
  refine ⟨_, exec_groupPowerWindow h, fun n hn => ?_, fun n hn => ?_, fun j hj => ?_, ?_, ?_⟩
  · rw [State.updGrp_ch, State.closeWindows_ch, if_pos hn]
    exact ⟨rfl, rfl, rfl⟩
  · rw [State.updGrp_ch, State.closeWindows_ch, if_neg hn]
  · rw [State.updGrp_grp_of_ne _ _ hj.symm, e]; rfl
  · simp only [State.updGrp_grp, State.updGrp_ch, State.activePower]
  · rw [e]; rfl

/-! ### Auxiliary inputs (R94 to R97) -/

theorem vgetD_vsetD_self {α : Type} {n i : Nat} (v : Vector α n) (x d : α) (h : i < n) : vgetD (vsetD v i x) i d = x := by
  simp [vgetD, vsetD, h]

theorem vgetD_vsetD_of_ne {α : Type} {n i j : Nat} (v : Vector α n) (x d : α) (h : j ≠ i) : vgetD (vsetD v i x) j d = vgetD v j d := by
  unfold vgetD vsetD
  split
  · split
    · exact Vector.getElem_set_ne _ _ h.symm
    · rfl
  · rfl

/-- A sample of an input that no group reads as its bus. -/
theorem State.busSample_of_unread {s : State} (f : Fin 4) {i : Nat} (a : Int) (hi : i < 72) (h : ∀ g, (s.grp g).busAux = 0x1FF) :
    s.busSample f i a = s :=
  forAll_of_fixed fun g _ => if_pos (by rw [h]; omega)

/-- A sample without hard limits, by which a channel would read it as its temperature. -/
theorem State.tempSample_of_unread {s : State} (f : Fin 4) (i : Nat) (h : ∀ n, s.hlimOf n = none) : s.tempSample f i = s :=
  forAll_of_fixed fun n _ => by simp only [h]

/-- The scan of auxiliary converter `j` takes the reading `a` of its input `i` and goes on. -/
def Die.scanned (j : Fin 8) (i : Nat) (a : Int) (d : Die) : Die :=
  { d with
    aux := vsetD d.aux i a
    scan := vset d.scan j ((vget d.scan j + 1) % 9)
    lastUrgent := d.lastUrgent.filter fun x => x != j.val }

theorem exec_auxConversion {s : State} {f : Fin 4} {j : Fin 8} (code dither : Int) (hu : (s.dieOf f).urgent = [])
    (hh : ∀ n, s.hlimOf n = none) (hb : ∀ g, (s.grp g).busAux = 0x1FF) (hs : vget (s.dieOf f).scan j = 3) :
    exec (.auxConversion f j code dither) s =
      .next (s.updDie f (Die.scanned j (9 * j.val + 3) (divRound ((16 * code - dither) * 3300000) 65536))) := by
  show execAuxConversion f j code dither s = _
  simp only [execAuxConversion, hu, hs, List.filter_nil, List.foldl_nil, ite_self, Nat.reduceMod]
  generalize hx : State.updDie f _ s = x
  obtain rfl : s.updDie f (Die.scanned j (9 * j.val + 3) (divRound ((16 * code - dither) * 3300000) 65536)) = x := by
    rw [← hx]
    exact State.updDie_congr (by simp only [Die.scanned, hu])
  let u := s.updDie f (Die.scanned j (9 * j.val + 3) (divRound ((16 * code - dither) * 3300000) 65536))
  rw [State.busSample_of_unread (s := u) f _ (by omega) fun g => hb g, State.tempSample_of_unread (s := u) f _ fun n => hh n]

theorem auxConversion_reads {s : State} {f : Fin 4} {j : Fin 8} (code dither : Int) (hu : (s.dieOf f).urgent = [])
    (hh : ∀ n, s.hlimOf n = none) (hb : ∀ g, (s.grp g).busAux = 0x1FF) (hs : vget (s.dieOf f).scan j = 3) :
    Completes (.auxConversion f j code dither) s fun t =>
      vgetD (t.dieOf f).aux (9 * j.val + 3) 0 = divRound ((16 * code - dither) * 3300000) 65536 ∧
      vget (t.dieOf f).scan j = 4 ∧ (∀ i, i ≠ 9 * j.val + 3 → vgetD (t.dieOf f).aux i 0 = vgetD (s.dieOf f).aux i 0) ∧
      { t with die := s.die } = s := by
  refine ⟨_, exec_auxConversion code dither hu hh hb hs, ?_, ?_, fun i hi => ?_, rfl⟩ <;> rw [State.updDie_dieOf]
  · exact vgetD_vsetD_self _ _ _ (by omega)
  · exact (vget_vset_self _ _ _).trans (by rw [hs])
  · exact vgetD_vsetD_of_ne _ _ _ hi

theorem auxUrgentRequest_joins {s : State} {u : Fin 32} {i : Fin 288} (hs : (s.unit u).state = .armed) (hu : (s.unit u).urgentOn i.val = true)
    (hn : ((s.dieOf (Fin.ofNat 4 (i.val / 72))).urgent.contains (u.val, i.val % 72)) = false) :
    exec (.auxUrgentRequest u i) s =
      .next (s.updDie (Fin.ofNat 4 (i.val / 72)) fun d => { d with urgent := d.urgent ++ [(u.val, i.val % 72)] }) := by
  show execAuxUrgentRequest u i s = _
  have runs : AcqState.armed.runs = true := rfl
  simp only [execAuxUrgentRequest, hs, hu, runs, Bool.and_self, if_true, State.urgent, hn, Bool.false_eq_true, if_false]

/-! ### PERIODIC records (R249) -/

/-- A boundary that is due is a multiple of the interval, at most one TIME cycle ago. -/
theorem State.boundaryDue_some {s : State} {n : Fin 256} {b : Nat} (h : s.boundaryDue n = some b) :
    b % cfRecInterval (s.ch n).cfg = 0 ∧ s.tb.time < b + 5 := by
  unfold State.boundaryDue at h
  dsimp only at h
  split at h
  next due =>
    simp only [Bool.and_eq_true, decide_eq_true_eq] at due
    cases h
    have le := Nat.mod_le s.tb.time (cfRecInterval (s.ch n).cfg)
    exact ⟨Nat.sub_mod_eq_zero_of_mod_eq (Nat.mod_mod _ _).symm, by omega⟩
  next => cases h

/-- A record joins its producer's buffer while that is not full (R260). -/
theorem State.record_of_room {s : State} {r : Rec} (h : (s.ink.waiting.filter fun x => x.producer == r.producer).length < 8) :
    s.record r = { s with ink := { s.ink with waiting := s.ink.waiting ++ [r] } } := by
  have room : ¬ 8 ≤ (s.ink.waiting.filter fun x => x.producer == r.producer).length := by omega
  simp [State.record, room]

theorem periodicRecord_records {s : State} {n : Fin 256} {b : Nat} (hs : (s.ch n).state = .running ∨ (s.ch n).state = .tune)
    (hb : s.boundaryDue n = some b) (hw : (s.ink.waiting.filter fun x => x.producer == n.val).length < 8) :
    Completes (.periodicRecord n) s fun t =>
      t.ink.waiting = s.ink.waiting ++ [s.periodicRec n b (s.ch n).meas.recPartial] ∧
      (s.periodicRec n b (s.ch n).meas.recPartial).time = b ∧ b % cfRecInterval (s.ch n).cfg = 0 ∧ s.tb.time < b + 5 ∧
      (t.ch n).meas = (s.ch n).meas.newInterval b false ∧ { t.ch n with meas := (s.ch n).meas } = s.ch n ∧ (∀ j, j ≠ n → t.ch j = s.ch j) := by
  obtain ⟨multiple, recent⟩ := State.boundaryDue_some hb
  have writes : s.ink.writes (s.ch n).state = true := by rcases hs with h | h <;> rw [h] <;> rfl
  have stored : s.record (s.periodicRec n b (s.ch n).meas.recPartial) =
      { s with ink := { s.ink with waiting := s.ink.waiting ++ [s.periodicRec n b (s.ch n).meas.recPartial] } } := State.record_of_room hw
  refine ⟨(s.record (s.periodicRec n b (s.ch n).meas.recPartial)).updCh n fun c => { c with meas := c.meas.newInterval b false }, ?_,
    congrArg (fun t : State => t.ink.waiting) stored, rfl, multiple, recent, ?_, ?_, fun j hj => ?_⟩
  · show execPeriodicRecord n s = _
    simp only [execPeriodicRecord, hb, writes, if_true]
  · rw [State.updCh_ch, State.record_ch]
  · rw [State.updCh_ch, State.record_ch]
  · rw [State.updCh_ch_of_ne _ _ hj.symm, State.record_ch]

theorem periodicRecord_idle {s : State} {n : Fin 256} (h : (s.ch n).state = .off ∨ (s.ch n).state = .absent ∨ s.boundaryDue n = none) :
    exec (.periodicRecord n) s = .next s := by
  show execPeriodicRecord n s = _
  unfold execPeriodicRecord
  split
  next b hb =>
    have silent : s.ink.writes (s.ch n).state = false := by
      rcases h with h | h | h
      · rw [h]; rfl
      · rw [h]; rfl
      · rw [h] at hb; cases hb
    rw [silent, if_neg Bool.false_ne_true]
  next => rfl

/-! ### REC_CONFIG (R267) -/

/-- The record options that REC_CONFIG sets. -/
def recOptions (m : MbCmd) (k : Inkwell) : Inkwell :=
  { k with
    periodicIdle := bitAt m.params 0 8
    evtMin := fieldAt m.params 0 1 0
    thinReserve := natAt m.params 4
    flushUs := natAt m.params 8 }

/-- REC_CONFIG's effect: the options, and the record intervals that end or begin with them. -/
def State.recConfigure (m : MbCmd) (s : State) : State :=
  forAll (fun n u => u.rewrite n (s.ink.writes (s.ch n).state) ((recOptions m s.ink).writes (s.ch n).state)) allChannels
    { s with ink := recOptions m s.ink }

theorem exec_recConfig {m : MbCmd} {s : State} (hg : Granted 0x0701 2 m s) (ht : m.target = 0) (hl : m.length = 28)
    (hr : NoReserved m [(0, 0xFFFFFEFC)]) (a0 : 256 ≤ natAt m.params 4) (a1 : natAt m.params 4 ≤ 65536) (b0 : 100 ≤ natAt m.params 8)
    (b1 : natAt m.params 8 ≤ 100000) : CompletesBy (.recConfig m) 0x0701 m s (State.recConfigure m) 0 0 [] := by
  let t := s.takeOff 0x0701 m
  have verdict : ownRecConfig m t = .done (t.recConfigure m) 0 [] := by
    rw [ownRecConfig, reserved_none hr]
    have c0 : ¬ natAt m.params 4 < 256 := by omega
    have c1 : ¬ 65536 < natAt m.params 4 := by omega
    have d0 : ¬ natAt m.params 8 < 100 := by omega
    have d1 : ¬ 100000 < natAt m.params 8 := by omega
    simp only [c0, c1, d0, d1, decide_false, Bool.or_self, Bool.false_eq_true, if_false]
    rfl
  show execRecConfig m s = _
  rw [execRecConfig, Hdr.run_granted' hg (lenIs_of hl (by decide)) (Hdr.targetOk_none ht rfl) fun _ => rfl]
  exact congrArg Host.Outcome.next ((congrArg (hRecConfig.conclude m t) verdict).trans
    (congrArg (fun c => (((t.recConfigure m).passItems 0x0701 m).respond m.mb (answerTo m RC_OK c 0 [])))
      (Hdr.stateCode_none ht (by decide))))

/-- With PERIODIC_IDLE as it was no interval ends or begins. -/
theorem State.recConfigure_of_same {m : MbCmd} {s : State} (h : bitAt m.params 0 8 = s.ink.periodicIdle) :
    s.recConfigure m = { s with ink := recOptions m s.ink } := by
  refine forAll_of_fixed fun n _ => ?_
  have same : (recOptions m s.ink).writes (s.ch n).state = s.ink.writes (s.ch n).state := by
    cases (s.ch n).state <;> simp only [Inkwell.writes, recOptions, h]
  rw [same, State.rewrite]
  cases s.ink.writes (s.ch n).state <;> rfl

/-- The record options and, but for their averages, the channels of `t` are those of `s`. -/
def KeepsOptions (s t : State) : Prop :=
  (t.ink.periodicIdle = s.ink.periodicIdle ∧ t.ink.evtMin = s.ink.evtMin ∧ t.ink.thinReserve = s.ink.thinReserve ∧
    t.ink.flushUs = s.ink.flushUs) ∧ ∀ n, { t.ch n with meas := (s.ch n).meas } = s.ch n

theorem KeepsOptions.refl (s : State) : KeepsOptions s s := ⟨⟨rfl, rfl, rfl, rfl⟩, fun _ => rfl⟩

theorem KeepsOptions.trans (s t u : State) : KeepsOptions s t → KeepsOptions t u → KeepsOptions s u := by
  rintro ⟨⟨a, b, c, d⟩, h⟩ ⟨⟨a', b', c', d'⟩, h'⟩
  refine ⟨⟨a'.trans a, b'.trans b, c'.trans c, d'.trans d⟩, fun n => ?_⟩
  rw [← h n, ← h' n]

theorem State.record_keepsOptions (r : Rec) (s : State) : KeepsOptions s (s.record r) := by
  unfold State.record
  split <;> exact ⟨⟨rfl, rfl, rfl, rfl⟩, fun _ => rfl⟩

theorem State.openInterval_keepsOptions (n : Fin 256) (s : State) : KeepsOptions s (s.openInterval n) := by
  refine ⟨⟨rfl, rfl, rfl, rfl⟩, fun j => ?_⟩
  rcases eq_or_ne j n with rfl | hj
  · rw [State.openInterval, State.updCh_ch]
  · rw [State.openInterval_ch_of_ne _ _ hj]

theorem State.rewrite_keepsOptions (n : Fin 256) (old new : Bool) (s : State) : KeepsOptions s (s.rewrite n old new) := by
  unfold State.rewrite
  split
  · exact (State.record_keepsOptions _ s).trans _ _ _ (State.openInterval_keepsOptions n _)
  · split
    · exact State.openInterval_keepsOptions n s
    · exact .refl s

theorem recConfig_unchangedIdle {m : MbCmd} {s : State} (hg : Granted 0x0701 2 m s) (ht : m.target = 0) (hl : m.length = 28)
    (hr : NoReserved m [(0, 0xFFFFFEFC)]) (a0 : 256 ≤ natAt m.params 4) (a1 : natAt m.params 4 ≤ 65536) (b0 : 100 ≤ natAt m.params 8)
    (b1 : natAt m.params 8 ≤ 100000) (hi : bitAt m.params 0 8 = s.ink.periodicIdle) : CompletesBy (.recConfig m) 0x0701 m s
      (fun t => { t with
        ink := { t.ink with
          evtMin := fieldAt m.params 0 1 0
          thinReserve := natAt m.params 4
          flushUs := natAt m.params 8 } }) 0 0 [] := by
  have done := exec_recConfig hg ht hl hr a0 a1 b0 b1
  unfold CompletesBy at done ⊢
  have idle : bitAt m.params 0 8 = (s.takeOff 0x0701 m).ink.periodicIdle := by rw [State.takeOff_ink]; exact hi
  rw [done, State.recConfigure_of_same idle, recOptions, idle]

theorem recConfig_sets {m : MbCmd} {s : State} (hg : Granted 0x0701 2 m s) (ht : m.target = 0) (hl : m.length = 28)
    (hr : NoReserved m [(0, 0xFFFFFEFC)]) (a0 : 256 ≤ natAt m.params 4) (a1 : natAt m.params 4 ≤ 65536) (b0 : 100 ≤ natAt m.params 8)
    (b1 : natAt m.params 8 ≤ 100000) : Completes (.recConfig m) s fun t =>
      t.ink.periodicIdle = bitAt m.params 0 8 ∧ t.ink.evtMin = fieldAt m.params 0 1 0 ∧ t.ink.thinReserve = natAt m.params 4 ∧
      t.ink.flushUs = natAt m.params 8 ∧ (∀ n, { t.ch n with meas := (s.ch n).meas } = s.ch n) := by
  let t := s.takeOff 0x0701 m
  have kept : KeepsOptions { t with ink := recOptions m t.ink } (t.recConfigure m) :=
    forAll_rel KeepsOptions.refl KeepsOptions.trans (fun n u => State.rewrite_keepsOptions n _ _ u) _ _
  obtain ⟨⟨idle, evtMin, reserve, flush⟩, ch⟩ := kept
  refine ⟨_, exec_recConfig hg ht hl hr a0 a1 b0 b1, ?_⟩
  beta_reduce
  rw [State.respond_ink, State.passItems_ink]
  refine ⟨idle, evtMin, reserve, flush, fun n => ?_⟩
  have taken : t.ch n = s.ch n := State.takeOff_ch ..
  have answered : (((t.recConfigure m).passItems 0x0701 m).respond m.mb (okAnswer m 0 0 [])).ch n = (t.recConfigure m).ch n := by
    simp only [State.ch, State.respond_chan, State.passItems_chan]
  rw [answered, ← taken]
  exact ch n

/-! ### Die temperature (R98) -/

/-- A crossing of 5 K from the record `r` of channel `n` is reported. -/
def State.reportDrift (old temp : Int) (n : Fin 256) (r : Option Block) (t : State) : State :=
  match r with
  | some b => if drifted old b == drifted temp b then t
    else t.raise 0x0305 NOTICE n.val (p16 (temp - calTemp b) + 2 ^ 16 * (calQr b % 32))
  | none => t

/-- The crossings of both records that channel `n` has in use in state `s`. -/
def State.reportDrifts (s : State) (old temp : Int) (n : Fin 256) (t : State) : State :=
  (t.reportDrift old temp n (s.calOf n false 0)).reportDrift old temp n (s.calOf n true (cfGain (s.ch n).cfg))

theorem exec_calTempDrift (f : Fin 4) (temp : Int) (s : State) : exec (.calTempDrift f temp) s =
    .next (forAll (s.reportDrifts (s.dieOf f).temp temp) (dieChannels f) (s.updDie f fun d => { d with temp := temp })) := by
  rfl

/-- `t` is `s` but for further events. -/
def Tells (s t : State) : Prop := Reports s t ∧ ∃ b, t = { s with blot := b }

theorem Tells.refl (s : State) : Tells s s := ⟨.refl s, s.blot, rfl⟩

theorem Tells.trans (s t u : State) : Tells s t → Tells t u → Tells s u := by
  rintro ⟨h, _, rfl⟩ ⟨h', b, rfl⟩
  exact ⟨h.trans _ _ _ h', b, rfl⟩

theorem State.reportDrift_tells (old temp : Int) (n : Fin 256) (r : Option Block) (t : State) : Tells t (t.reportDrift old temp n r) := by
  unfold State.reportDrift
  split
  · split
    · exact .refl t
    · exact ⟨.raise _ _ _ _ (.refl t), _, rfl⟩
  · exact .refl t

theorem State.reportDrifts_tells (s : State) (old temp : Int) (n : Fin 256) (t : State) : Tells t (s.reportDrifts old temp n t) :=
  (State.reportDrift_tells ..).trans _ _ _ (State.reportDrift_tells ..)

theorem calTempDrift_uncalibrated {s : State} (f : Fin 4) (temp : Int)
    (h : ∀ n, s.calOf n false 0 = none ∧ s.calOf n true (cfGain (s.ch n).cfg) = none) :
    exec (.calTempDrift f temp) s = .next (s.updDie f fun d => { d with temp := temp }) := by
  rw [exec_calTempDrift]
  refine congrArg _ (forAll_of_fixed fun n _ => ?_)
  rw [State.reportDrifts, (h n).1, (h n).2]
  rfl

theorem calTempDrift_reports {s : State} {n : Fin 256} {temp : Int} {b : Block} (hb : s.calOf n false 0 = some b)
    (hd : drifted (s.dieOf (dieOfCh n)).temp b ≠ drifted temp b) :
    Completes (.calTempDrift (dieOfCh n) temp) s fun t =>
      (t.dieOf (dieOfCh n)).temp = temp ∧ s.event 0x0305 NOTICE n.val (p16 (temp - calTemp b) + 2 ^ 16 * (calQr b % 32)) ∈ t.blot.raised ∧
      t.chan = s.chan := by
  let old := (s.dieOf (dieOfCh n)).temp
  let u := s.updDie (dieOfCh n) fun d => { d with temp := temp }
  have passes : ∀ l v, Tells v (forAll (s.reportDrifts old temp) l v) := fun l v =>
    forAll_rel Tells.refl Tells.trans (s.reportDrifts_tells old temp) l v
  obtain ⟨before, after, split_⟩ := List.append_of_mem (mem_dieChannels n)
  refine ⟨_, exec_calTempDrift _ _ _, ?_⟩
  obtain ⟨_, _, whole⟩ := passes (dieChannels (dieOfCh n)) u
  refine ⟨?_, ?_, ?_⟩
  · rw [whole]; exact congrArg Die.temp (State.updDie_dieOf (dieOfCh n) (fun d => { d with temp := temp }) s)
  · rw [split_, forAll_append, forAll]
    obtain ⟨_, _, first⟩ := passes before u
    refine (passes after _).1.mem ((State.reportDrift_tells ..).1.mem ?_)
    simp only [State.reportDrift, hb, beq_eq_false_iff_ne.mpr hd, Bool.false_eq_true, if_false, State.raise_raised]
    refine List.mem_append_right _ (List.mem_singleton.mpr ?_)
    rw [first]; rfl
  · rw [whole]; rfl

end Sys2Proof.Machine

namespace Sys2Proof

open Sys2Proof.Machine Sys2Proof.Safety

/-- Settles O29: each clause is the lemma of its row above. -/
theorem measurementCompletes : Obligations.MeasurementCompletes := by
  unfold Obligations.MeasurementCompletes
  exact ⟨fun _ _ _ hs hc hv hi v0 v1 i0 i1 => channelConversion_reads hs hc hv hi v0 v1 i0 i1, fun _ _ k hs => channelConversion_absent k hs,
    fun _ _ h => groupPowerWindow_measures h, fun _ _ _ code dither hu hh hb hs => auxConversion_reads code dither hu hh hb hs,
    fun _ _ _ hs hu hn => auxUrgentRequest_joins hs hu hn, fun _ _ _ hs hb hw => periodicRecord_records hs hb hw,
    fun _ _ h => periodicRecord_idle h, fun _ _ hg ht hl hr a0 a1 b0 b1 hi => recConfig_unchangedIdle hg ht hl hr a0 a1 b0 b1 hi,
    fun _ _ hg ht hl hr a0 a1 b0 b1 => recConfig_sets hg ht hl hr a0 a1 b0 b1, fun _ f temp h => calTempDrift_uncalibrated f temp h,
    fun _ _ _ _ hb hd => calTempDrift_reports hb hd⟩

end Sys2Proof
end

section
/-! PROOF. The calibration rows (R84 to R90), and O30. -/

namespace Sys2Proof.Machine

open Sys2Proof.Safety

/-! ### Channel commands without a group form -/

/-- A granted command to a channel does its own part on that channel (R346, R359). -/
theorem chanHdr_run {op len a : Nat} {f : Fin 256 → State → Verdict} {m : MbCmd} {s : State} {n : Fin 256} (hg : Granted op a m s)
    (ht : m.target = chTarget n) (hl : m.length = BitVec.ofNat 16 len) (hlen : len < 65536) :
    (chanHdr op len a).run (chanVerdict f) m s = (chanHdr op len a).conclude m (s.takeOff op m) (f n (s.takeOff op m)) := by
  have own : chanVerdict f m (s.takeOff op m) = f n (s.takeOff op m) := by simp only [chanVerdict, ht, tgtOf_chTarget]
  rw [Hdr.run_granted' hg (lenIs_of hl hlen) (Hdr.targetOk_ch ht rfl) fun _ => rfl]
  exact congrArg _ own

theorem chanHdr_stateCode {op len a : Nat} {m : MbCmd} {n : Fin 256} (s : State) (ht : m.target = chTarget n) (ho : op / 256 ≠ 9) :
    (chanHdr op len a).stateCode m s = (s.ch n).state.code := Hdr.stateCode_ch ht ho rfl

theorem calLegal_of {st : ChState} (h : st = .off ∨ st = .configured ∨ st = .done) : calLegal st = true := by
  rcases h with rfl | rfl | rfl <;> rfl

/-! ### The end of a CAL_POINT's averages -/

theorem State.updMb_updMb (k : Fin 8) (f g : Mailbox → Mailbox) (s : State) : (s.updMb k f).updMb k g = s.updMb k fun b => g (f b) := by
  simp only [State.updMb, State.mbox, vget_vset_self, vset_vset]

/-- A late response releases its mailbox and joins the completed ones (R362). -/
theorem State.respondHeld_of_open {k : Fin 8} {s : State} (r : Response) (hw : (s.mbox k).working ≠ 0) (hd : (s.mbox k).discard = 0) :
    s.respondHeld k r = s.updMb k fun b => { b with
      working := b.working - 1
      done := b.done ++ [r] } := by
  rw [State.respondHeld, if_neg hw, if_pos hd, State.respond_of_open _ (by rw [State.updMb_mbox]; exact hd), State.updMb_updMb]

theorem State.endCal_of_open {s : State} {n : Fin 256} {r : CalRun} (status detail : Nat) (payload : Block) (hr : (s.ch n).calRun = some r)
    (hf : r.flags.getLsbD 15 = false) (hw : (s.mbox r.mb).working ≠ 0) (hd : (s.mbox r.mb).discard = 0) :
    s.endCal n status detail payload = (s.updCh n fun c => { c with calRun := none }).updMb r.mb fun b => { b with
      working := b.working - 1
      done := b.done ++ [calAnswer r status (s.ch n).state.code detail payload] } := by
  simp only [State.endCal, hr, hf, Bool.false_eq_true, if_false]
  exact State.respondHeld_of_open _ hw hd

/-! ### CAL_POINT (R84, R88) -/

/-- The averages that a CAL_POINT begins. -/
def calStart (m : MbCmd) (cur : Bool) (g now : Nat) : CalRun :=
  { mb := m.mb, tag := m.tag, flags := m.flags, current := cur, range := g, full := bitAt m.params 0 5, ref := intAt m.params 4,
    avgMs := natAt m.params 8, start := now, sum := 0, count := 0, subSum := 0, subN := 0, subC := 0, subMin := none, subMax := none,
    overRange := false }

/-- A reference value within the span of its point passes both checks of R88. -/
theorem span_notRefused {full : Bool} {a b : Nat} (h : if full = true then b ≤ 2 * a ∧ a ≤ b else 200 * a ≤ b) :
    (!full && decide (b < 200 * a)) = false ∧ (full && (decide (2 * a < b) || decide (b < a))) = false := by
  cases full with
  | false => exact ⟨by simpa using h, rfl⟩
  | true => exact ⟨rfl, by simpa using h⟩

theorem State.startCal_holds {m : MbCmd} {s : State} {n : Fin 256} {cur : Bool} {g a b : Nat} (hc : (s.ch n).calRun = none)
    (hs : calLegal (s.ch n).state = true) (hr : NoReserved m [(0, 0xFFFFFFC8)]) (hq : calSel m = some (cur, g))
    (h0 : 100 ≤ natAt m.params 8) (h1 : natAt m.params 8 ≤ 10000) (hfs : refOfFs (s.ch n) cur g (intAt m.params 4) = (a, b))
    (hspan : if bitAt m.params 0 5 = true then b ≤ 2 * a ∧ a ≤ b else 200 * a ≤ b) :
    s.startCal m n = .hold (s.updCh n fun c => { c with calRun := some (calStart m cur g s.now) }) := by
  obtain ⟨zero, full⟩ := span_notRefused hspan
  have avg : (decide (natAt m.params 8 < 100) || decide (10000 < natAt m.params 8)) = false := by
    simp [Nat.not_lt.mpr h0, Nat.not_lt.mpr h1]
  rw [State.startCal, State.chanCheck_of_legal hc hs, orElse, reserved_none hr]
  simp only [hq, hfs, avg, zero, full, Bool.false_eq_true, if_false]
  rfl

theorem calPoint_holds {m : MbCmd} {s : State} {n : Fin 256} {cur : Bool} {g a b : Nat} (hg : Granted 0x0C01 2 m s)
    (ht : m.target = chTarget n) (hl : m.length = 28) (hc : (s.ch n).calRun = none)
    (hs : (s.ch n).state = .off ∨ (s.ch n).state = .configured ∨ (s.ch n).state = .done) (hr : NoReserved m [(0, 0xFFFFFFC8)])
    (hq : calSel m = some (cur, g)) (h0 : 100 ≤ natAt m.params 8) (h1 : natAt m.params 8 ≤ 10000)
    (hfs : refOfFs (s.ch n) cur g (intAt m.params 4) = (a, b))
    (hspan : if bitAt m.params 0 5 = true then b ≤ 2 * a ∧ a ≤ b else 200 * a ≤ b) :
    Completes (.calPoint m) s fun t =>
      (∃ r, (t.ch n).calRun = some r ∧ r.mb = m.mb ∧ r.tag = m.tag ∧ r.current = cur ∧ r.range = g ∧ r.full = bitAt m.params 0 5 ∧
        r.ref = intAt m.params 4 ∧ r.avgMs = natAt m.params 8 ∧ r.sum = 0 ∧ r.count = 0 ∧ r.start = s.now) ∧
      { t.ch n with calRun := none } = s.ch n ∧ (∀ j, j ≠ n → t.ch j = s.ch j) ∧
      (t.mbox m.mb).working = (s.mbox m.mb).working + 1 ∧ (t.mbox m.mb).done = (s.mbox m.mb).done := by
  let u := s.takeOff 0x0C01 m
  have held : u.startCal m n = .hold (u.updCh n fun c => { c with calRun := some (calStart m cur g u.now) }) :=
    State.startCal_holds (by simpa [u] using hc) (by simpa [u] using calLegal_of hs) hr hq h0 h1 (by simpa [u] using hfs) hspan
  refine ⟨_, congrArg Host.Outcome.next ((chanHdr_run hg ht hl (by decide)).trans (congrArg _ held)), ?_⟩
  simp only [Hdr.conclude_hold, State.updMb_ch, State.updCh_ch, State.updMb_mbox, State.updCh_mbox, u, State.takeOff_ch, State.takeOff_now,
    State.takeOff_mb_working, State.takeOff_mb_done]
  refine ⟨⟨_, rfl, rfl, rfl, rfl, rfl, rfl, rfl, rfl, rfl, rfl, rfl⟩, by rw [← hc], fun j hj => ?_, trivial, trivial⟩
  rw [State.updCh_ch_of_ne _ _ hj.symm, State.takeOff_ch]

/-! ### CAL_POINT_DONE (R84, R85, R88) -/

/-- The points of another quantity, range or value. -/
def otherPoints (cur : Bool) (r : Nat) (full : Bool) (l : List CalPoint) : List CalPoint :=
  l.filter fun p => !(p.current == cur && p.range == r && p.full == full)

theorem mem_otherPoints {cur : Bool} {r : Nat} {full : Bool} {l : List CalPoint} {p : CalPoint} :
    p ∈ otherPoints cur r full l ↔ p ∈ l ∧ ¬ (p.current = cur ∧ p.range = r ∧ p.full = full) := by
  simp only [otherPoints, List.mem_filter, Bool.not_eq_true', ← Bool.not_eq_true, Bool.and_eq_true, beq_iff_eq, and_assoc]

/-- The channel keeps the point that its averages give, in place of an earlier one of the same value. -/
def Channel.keepPoint (r : CalRun) (c : Channel) : Channel :=
  { c with
    calPoints := { current := r.current, range := r.range, full := r.full, ref := r.ref, meanU := mean r.sum r.count }
      :: otherPoints r.current r.range r.full c.calPoints }

theorem exec_calPointDone {s : State} {n : Fin 256} {r : CalRun} {lo hi : Int} (hr : (s.ch n).calRun = some r) (ho : r.overRange = false)
    (hlo : r.subMin = some lo) (hhi : r.subMax = some hi) (hn : r.count ≠ 0) :
    exec (.calPointDone n) s = .next (((s.updCh n (Channel.keepPoint r)).startTimer (.calPoint n r.current r.range r.full)
      (3600 * 250000000)).endCal n RC_OK 0 [wInt (mean r.sum r.count), w32 r.count, wInt (hi - lo)]) := by
  show execCalPointDone n s = _
  simp only [execCalPointDone, hr, ho, hlo, hhi, meanOr, hn, Bool.false_eq_true, if_false]
  rfl

theorem calPointDone_keeps {s : State} {n : Fin 256} {r : CalRun} {lo hi : Int} (hr : (s.ch n).calRun = some r) (ho : r.overRange = false)
    (hlo : r.subMin = some lo) (hhi : r.subMax = some hi) (hn : r.count ≠ 0) (hf : r.flags.getLsbD 15 = false)
    (hw : (s.mbox r.mb).working ≠ 0) (hd : (s.mbox r.mb).discard = 0) :
    Completes (.calPointDone n) s fun t =>
      (t.ch n).calRun = none ∧
      (∃ l, (t.ch n).calPoints = { current := r.current, range := r.range, full := r.full, ref := r.ref, meanU := mean r.sum r.count } :: l ∧
        l = (s.ch n).calPoints.filter fun p => !(p.current == r.current && p.range == r.range && p.full == r.full)) ∧
      (t.mbox r.mb).working = (s.mbox r.mb).working - 1 ∧
      (t.mbox r.mb).done = (s.mbox r.mb).done ++ [calAnswer r 0 (s.ch n).state.code 0 [wInt (mean r.sum r.count), w32 r.count, wInt (hi - lo)]] ∧
      (∀ j, j ≠ n → t.ch j = s.ch j) ∧
      { t with
        chan := s.chan
        host := s.host
        timers := s.timers } = s ∧ (Timer.calPoint n r.current r.range r.full, s.now + 3600 * 250000000) ∈ t.timers := by
  let u := (s.updCh n (Channel.keepPoint r)).startTimer (.calPoint n r.current r.range r.full) (3600 * 250000000)
  have kept : u.ch n = (s.ch n).keepPoint r := (State.startTimer_ch ..).trans (State.updCh_ch ..)
  have box : u.mbox r.mb = s.mbox r.mb := rfl
  have ends := fun p => State.endCal_of_open (s := u) RC_OK 0 p (by rw [kept]; exact hr) hf hw hd
  refine ⟨_, (exec_calPointDone hr ho hlo hhi hn).trans (congrArg _ (ends _)), ?_⟩
  simp only [State.updMb_ch, State.updCh_ch, State.updMb_mbox, State.updCh_mbox, kept, box]
  refine ⟨trivial, ⟨_, rfl, rfl⟩, trivial, rfl, fun j hj => ?_, rfl, List.mem_append_right _ (List.mem_singleton.mpr rfl)⟩
  rw [State.updCh_ch_of_ne _ _ hj.symm, State.startTimer_ch, State.updCh_ch_of_ne _ _ hj.symm]

theorem calPointDone_overRange {s : State} {n : Fin 256} {r : CalRun} (hr : (s.ch n).calRun = some r) (ho : r.overRange = true)
    (hf : r.flags.getLsbD 15 = false) (hw : (s.mbox r.mb).working ≠ 0) (hd : (s.mbox r.mb).discard = 0) :
    Completes (.calPointDone n) s fun t =>
      (t.ch n).calRun = none ∧ (t.ch n).calPoints = (s.ch n).calPoints ∧
      (t.mbox r.mb).done = (s.mbox r.mb).done ++ [calAnswer r RC_CAL_SPAN (s.ch n).state.code 3 []] := by
  have fails : exec (.calPointDone n) s = .next (s.endCal n RC_CAL_SPAN 3 []) := by
    show execCalPointDone n s = _
    simp only [execCalPointDone, hr, ho, if_true]
  refine ⟨_, fails.trans (congrArg _ (State.endCal_of_open _ _ _ hr hf hw hd)), ?_⟩
  simp only [State.updMb_ch, State.updCh_ch, State.updMb_mbox, State.updCh_mbox]
  exact ⟨trivial, trivial, trivial⟩

/-! ### CAL_POINT_EXPIRY (R85) -/

theorem calPointExpiry_early {s : State} {n : Fin 256} {cur : Bool} {r : Fin 6} {full : Bool} {x : Nat}
    (hm : (Timer.calPoint n cur r.val full, x) ∈ s.timers) (hx : s.now < x) : exec (.calPointExpiry n cur r full) s = .next s := by
  show execCalPointExpiry n cur r full s = _
  rw [execCalPointExpiry, State.ranOut_of_running hm hx]
  rfl

theorem exec_calPointExpiry {s : State} {n : Fin 256} {cur : Bool} {r : Fin 6} {full : Bool}
    (hr : s.ranOut (.calPoint n cur r.val full) = true) : exec (.calPointExpiry n cur r full) s =
      .next (s.updCh n fun c => { c with calPoints := otherPoints cur r.val full c.calPoints }) := by
  show execCalPointExpiry n cur r full s = _
  rw [execCalPointExpiry, hr]
  rfl

theorem calPointExpiry_discards {s : State} {n : Fin 256} {cur : Bool} {r : Fin 6} {full : Bool}
    (hr : s.ranOut (.calPoint n cur r.val full) = true) : Completes (.calPointExpiry n cur r full) s fun t =>
      (∀ p, p ∈ (t.ch n).calPoints ↔ p ∈ (s.ch n).calPoints ∧ ¬ (p.current = cur ∧ p.range = r.val ∧ p.full = full)) ∧
      { t.ch n with calPoints := (s.ch n).calPoints } = s.ch n ∧ (∀ j, j ≠ n → t.ch j = s.ch j) ∧ { t with chan := s.chan } = s := by
  refine ⟨_, exec_calPointExpiry hr, ?_⟩
  simp only [State.updCh_ch]
  exact ⟨fun _ => mem_otherPoints, trivial, fun j hj => State.updCh_ch_of_ne _ _ hj.symm, rfl⟩

/-! ### The calibration record (R90) -/

/-- The words of a calibration record before its CRC: REF_CODE `code`, CAL_TEMP `temp` as its 16 bits, quantity and range `qr`. -/
def calWords (g o : Int) (shunt : Nat) (code : Int) (qr temp time : Nat) : Block :=
  [wInt g, wInt o, w32 shunt, wInt code, w32 (2 ^ 24 + qr * 2 ^ 16 + temp)] ++ words64 time

/-- A block with its CRC as the last word. -/
def withCrc (w : Block) : Block := w ++ [crcBlock w]

theorem crcOk_withCrc {n : Nat} {w : Block} (h : w.length = n) : crcOk (n + 1) (withCrc w) = true := by
  subst h
  have last : (withCrc w).getD w.length 0 = crcBlock w := by simp [withCrc]
  have front : blockFit w.length (withCrc w) = w := by
    refine List.ext_getElem (by simp [blockFit]) fun i hi hi' => ?_
    simp [blockFit, withCrc, List.getElem?_append_left hi', hi']
  rw [crcOk, Nat.add_sub_cancel, last, front, beq_self_eq_true]

theorem wInt_toInt {i : Int} (h : -2 ^ 31 ≤ i) (h' : i < 2 ^ 31) : (wInt i).toInt = i := by
  rw [wInt, BitVec.toInt_ofInt]
  exact Int.bmod_eq_of_le (by omega) (by omega)

/-- Bits 24 and 25 of the record's fifth word: it holds a calibration, and it is not stale. -/
theorem calWord_valid_notStale {qr temp : Nat} (hq : qr < 256) (ht : temp < 65536) :
    bit (w32 (2 ^ 24 + qr * 2 ^ 16 + temp)) 24 = true ∧ bit (w32 (2 ^ 24 + qr * 2 ^ 16 + temp)) 25 = false := by
  simp only [bit, w32, BitVec.getLsbD_ofNat, Nat.testBit_eq_decide_div_mod_eq, Nat.reduceLT, decide_true, Bool.true_and, decide_eq_true_eq,
    decide_eq_false_iff_not]
  omega

section
variable {g o code : Int} {shunt qr temp time : Nat}

theorem calGain_record (h : 0 ≤ g) (h' : g < 2 ^ 31) : calGain (withCrc (calWords g o shunt code qr temp time)) = g := wInt_toInt (by omega) h'

theorem calOffset_record (h : o.natAbs ≤ 16384) : calOffset (withCrc (calWords g o shunt code qr temp time)) = o :=
  wInt_toInt (by omega) (by omega)

theorem calShunt_record (h : shunt < 2 ^ 32) : calShunt (withCrc (calWords g o shunt code qr temp time)) = shunt :=
  Nat.mod_eq_of_lt h

theorem calStale_record (hq : qr < 256) (ht : temp < 65536) : calStale (withCrc (calWords g o shunt code qr temp time)) = false :=
  (calWord_valid_notStale hq ht).2

theorem calValid_record (hq : qr < 256) (ht : temp < 65536) : calValid (withCrc (calWords g o shunt code qr temp time)) = true := by
  have holds : bitAt (withCrc (calWords g o shunt code qr temp time)) 0x10 24 = true := (calWord_valid_notStale hq ht).1
  rw [calValid, holds, crcOk_withCrc (n := 7) rfl]
  rfl

end

/-! ### CAL_COMMIT (R85 to R90) -/

theorem calSel_range {m : MbCmd} {cur : Bool} {k : Nat} (h : calSel m = some (cur, k)) : k ≤ 5 := by
  unfold calSel at h
  dsimp only at h
  split at h <;> split at h <;> cases h
  · assumption
  · omega

theorem p16_lt (i : Int) : p16 i < 65536 := by
  unfold p16
  omega

theorem State.commitCal_noPoint {m : MbCmd} {s : State} {n : Fin 256} {cur : Bool} {k : Nat} (hc : (s.ch n).calRun = none)
    (hs : calLegal (s.ch n).state = true) (hr : NoReserved m [(0, 0xFFFFFFE8)]) (hq : calSel m = some (cur, k))
    (hp : ((s.ch n).calPoints.find? fun p => p.current == cur && p.range == k && p.full == false) = none) :
    s.commitCal m n = .refuseIn (s.dropPoints n) RC_CAL_SPAN 4 [] := by
  rw [State.commitCal, State.chanCheck_of_legal hc hs, orElse, reserved_none hr]
  simp only [hq, hp]

theorem calCommit_noPoint {m : MbCmd} {s : State} {n : Fin 256} {cur : Bool} {k : Nat} (hg : Granted 0x0C02 2 m s)
    (ht : m.target = chTarget n) (hl : m.length = 24) (hc : (s.ch n).calRun = none)
    (hs : (s.ch n).state = .off ∨ (s.ch n).state = .configured ∨ (s.ch n).state = .done) (hr : NoReserved m [(0, 0xFFFFFFE8)])
    (hq : calSel m = some (cur, k))
    (hp : ((s.ch n).calPoints.find? fun p => p.current == cur && p.range == k && p.full == false) = none) :
    exec (.calCommit m) s = .next (((s.takeOff 0x0C02 m).updCh n fun c => { c with calPoints := [] }).respond m.mb
      (answerTo m RC_CAL_SPAN (s.ch n).state.code 4 [])) := by
  let u := s.takeOff 0x0C02 m
  have refused : u.commitCal m n = .refuseIn (u.dropPoints n) RC_CAL_SPAN 4 [] :=
    State.commitCal_noPoint (by simpa [u] using hc) (by simpa [u] using calLegal_of hs) hr hq (by simpa [u] using hp)
  have code : (chanHdr 0x0C02 24 2).stateCode m (u.dropPoints n) = (s.ch n).state.code := by
    rw [chanHdr_stateCode _ ht (by decide), State.dropPoints, State.updCh_ch, State.takeOff_ch]
  refine congrArg Host.Outcome.next ((chanHdr_run hg ht hl (by decide)).trans ((congrArg _ refused).trans ?_))
  rw [Hdr.conclude_refuseIn, code]
  rfl

/-- The record that CAL_COMMIT forms from GAIN and OFFSET (R87, R90). -/
def State.calRecord (n : Fin 256) (cur : Bool) (k : Nat) (g o : Int) (s : State) : Block :=
  calWords g o (if cur then cfShunt (s.ch n).cfg else 0) (s.selfCode n cur) (b2n cur * 16 + k) (p16 (s.dieOf (dieOfCh n)).temp) s.tb.time

/-- CAL_COMMIT's effect: the record is written, its die reads the set again, and the channel's points are discarded (R75, R85, R90). -/
def State.writeCal (n : Fin 256) (cur : Bool) (k : Nat) (b : Block) (s : State) : State :=
  let s1 := (s.updChv n fun v => { v with calib := v.calib.set (if cur then 1 + k else 0) b }).persistCal n
  (s1.dropPoints n).updCh n fun c => { c with
    meas := { c.meas with
      calNext := some (s1.chv n).calib
      calLost := if cur then c.meas.calLost.filter fun x => x != k else c.meas.calLost } }

theorem State.writeCal_writes (n : Fin 256) (cur : Bool) (k : Nat) (b : Block) (s : State) :
    ((s.writeCal n cur k b).chv n).calib = (s.chv n).calib.set (if cur then 1 + k else 0) b ∧
    ((s.writeCal n cur k b).ch n).calPoints = [] ∧ ((s.writeCal n cur k b).ch n).state = (s.ch n).state ∧
    ((s.writeCal n cur k b).ch n).meas.calRead = ((s.writeCal n cur k b).chv n).calib ∧
    (∀ j, j ≠ n → (s.writeCal n cur k b).ch j = s.ch j) ∧ (s.writeCal n cur k b).host = s.host := by
  let u := s.updChv n fun v => { v with calib := v.calib.set (if cur then 1 + k else 0) b }
  obtain ⟨v, bl, worn, -, hv⟩ : OnlyWears u (u.persistCal n) := State.wearRow_wears _ _ u
  have calib : ((u.persistCal n).chv n).calib = (s.chv n).calib.set (if cur then 1 + k else 0) b := by
    rw [worn, State.chv, hv]
    exact congrArg ChVellum.calib (State.updChv_chv ..)
  have ch : ∀ j, (u.persistCal n).ch j = s.ch j := fun j => by rw [worn]; rfl
  have host : (u.persistCal n).host = s.host := by rw [worn]; rfl
  have drops : s.writeCal n cur k b = ((u.persistCal n).dropPoints n).updCh n fun c => { c with
      meas := { c.meas with
        calNext := some ((u.persistCal n).chv n).calib
        calLost := if cur then c.meas.calLost.filter fun x => x != k else c.meas.calLost } } := rfl
  simp only [drops, State.dropPoints, State.updCh_ch, State.updCh_chv, State.updCh_host, calib, ch, host]
  refine ⟨trivial, trivial, trivial, rfl, fun j hj => ?_, trivial⟩
  rw [State.updCh_ch_of_ne _ _ hj.symm, State.updCh_ch_of_ne _ _ hj.symm, ch]

theorem State.commitCal_writes {m : MbCmd} {s : State} {n : Fin 256} {cur : Bool} {k : Nat} {p0 p1 : CalPoint} {g o : Int}
    (hc : (s.ch n).calRun = none) (hs : calLegal (s.ch n).state = true) (hr : NoReserved m [(0, 0xFFFFFFE8)])
    (hq : calSel m = some (cur, k))
    (h0 : ((s.ch n).calPoints.find? fun p => p.current == cur && p.range == k && p.full == false) = some p0)
    (h1 : ((s.ch n).calPoints.find? fun p => p.current == cur && p.range == k && p.full == true) = some p1)
    (hcrc : crcBlock [wInt p0.ref, wInt p1.ref] = wordAt m.params 4)
    (hsolve : calSolve (if cur then 256 * 2 ^ k * cfShunt (s.ch n).cfg else 256) (if cur then 625000000 else 125) p0 p1 = some (g, o))
    (hg0 : 97 * qOne ≤ g * 100) (hg1 : g * 100 ≤ 103 * qOne) (ho : o.natAbs ≤ 16384) :
    s.commitCal m n = .done ((s.writeCal n cur k (withCrc (s.calRecord n cur k g o))).raise 0x0304 INFO n.val
      ((crcBlock (s.calRecord n cur k g o)).toNat + 2 ^ 32 * (b2n cur * 16 + k))) 0 (withCrc (s.calRecord n cur k g o)) := by
  have gain : (decide (g * 100 < 97 * qOne) || decide (103 * qOne < g * 100)) = false := by
    simp [Int.not_lt.mpr hg0, Int.not_lt.mpr hg1]
  rw [State.commitCal, State.chanCheck_of_legal hc hs, orElse, reserved_none hr]
  simp only [hq, h0, h1, hcrc, ne_eq, not_true_eq_false, if_false, hsolve, gain, Bool.false_eq_true, Nat.not_lt.mpr ho]
  rfl

theorem calCommit_writes {m : MbCmd} {s : State} {n : Fin 256} {cur : Bool} {k : Nat} {p0 p1 : CalPoint} {g o : Int}
    (hg : Granted 0x0C02 2 m s) (ht : m.target = chTarget n) (hl : m.length = 24) (hc : (s.ch n).calRun = none)
    (hs : (s.ch n).state = .off ∨ (s.ch n).state = .configured ∨ (s.ch n).state = .done) (hr : NoReserved m [(0, 0xFFFFFFE8)])
    (hq : calSel m = some (cur, k)) (hd : (s.mbox m.mb).discard = 0)
    (h0 : ((s.ch n).calPoints.find? fun p => p.current == cur && p.range == k && p.full == false) = some p0)
    (h1 : ((s.ch n).calPoints.find? fun p => p.current == cur && p.range == k && p.full == true) = some p1)
    (hcrc : crcBlock [wInt p0.ref, wInt p1.ref] = wordAt m.params 4)
    (hsolve : calSolve (if cur then 256 * 2 ^ k * cfShunt (s.ch n).cfg else 256) (if cur then 625000000 else 125) p0 p1 = some (g, o))
    (hg0 : 97 * qOne ≤ g * 100) (hg1 : g * 100 ≤ 103 * qOne) (ho : o.natAbs ≤ 16384) :
    Completes (.calCommit m) s fun t =>
      (∃ b, (t.chv n).calib = (s.chv n).calib.set (if cur then 1 + k else 0) b ∧ b.length = 8 ∧ calGain b = g ∧ calOffset b = o ∧
        calShunt b = (if cur then cfShunt (s.ch n).cfg else 0) ∧ calStale b = false ∧ calValid b = true ∧
        (t.mbox m.mb).done = (s.mbox m.mb).done ++ [okAnswer m (s.ch n).state.code 0 b]) ∧
      (t.ch n).calPoints = [] ∧ (t.ch n).meas.calRead = (t.chv n).calib ∧ (∀ j, j ≠ n → t.ch j = s.ch j) := by
  let u := s.takeOff 0x0C02 m
  let b := withCrc (u.calRecord n cur k g o)
  let w := u.writeCal n cur k b
  have ch : u.ch n = s.ch n := State.takeOff_ch ..
  have written : u.commitCal m n = .done (w.raise 0x0304 INFO n.val _) 0 b :=
    State.commitCal_writes (by rw [ch]; exact hc) (by rw [ch]; exact calLegal_of hs) hr hq (by rw [ch]; exact h0) (by rw [ch]; exact h1) hcrc
      (by rw [ch]; exact hsolve) hg0 hg1 ho
  obtain ⟨calib, points, state, read, others, host⟩ := u.writeCal_writes n cur k b
  have box : w.mbox m.mb = u.mbox m.mb := by rw [State.mbox, host]; rfl
  have shunt : (if cur then cfShunt (u.ch n).cfg else 0) = if cur then cfShunt (s.ch n).cfg else 0 := by rw [ch]
  have fits : (if cur then cfShunt (u.ch n).cfg else 0) < 2 ^ 32 := by
    split
    · exact (wordAt (u.ch n).cfg 0x28).isLt
    · decide
  have qr : b2n cur * 16 + k < 256 := by
    have := calSel_range hq
    cases cur <;> simp only [b2n, Bool.false_eq_true, if_true, if_false] <;> omega
  have temp := p16_lt (u.dieOf (dieOfCh n)).temp
  refine ⟨_, congrArg Host.Outcome.next ((chanHdr_run hg ht hl (by decide)).trans (congrArg _ written)), ?_⟩
  rw [Hdr.conclude_done, chanHdr_stateCode _ ht (by decide), State.raise_ch, state, ch, State.respond_of_open]
  · simp only [State.updMb_ch, State.updMb_chv, State.updMb_mbox, State.passItems_ch, State.passItems_chv, State.passItems_mbox, State.raise_ch,
      State.raise_chv, State.raise_mbox]
    refine ⟨⟨b, calib.trans (by rw [State.takeOff_chv]), rfl, calGain_record ?_ ?_, calOffset_record ho, (calShunt_record fits).trans shunt,
      calStale_record qr temp, calValid_record qr temp, ?_⟩, points, read, fun j hj => (others j hj).trans (State.takeOff_ch ..)⟩
    · unfold qOne at hg0; omega
    · unfold qOne at hg1; omega
    · rw [box, State.takeOff_mb_done]; rfl
  · rw [State.passItems_mbox, State.raise_mbox, box, State.takeOff_mb_discard]; exact hd

/-! ### CAL_READ (R90) -/

theorem calRead_answers {m : MbCmd} {s : State} {n : Fin 256} {cur : Bool} {k : Nat} (hg : Granted 0x0C03 0 m s) (ht : m.target = chTarget n)
    (hl : m.length = 20) (hr : NoReserved m [(0, 0xFFFFFFE8)]) (hq : calSel m = some (cur, k)) :
    CompletesBy (.calRead m) 0x0C03 m s id (s.ch n).state.code 0 (blockFit 8 ((s.chv n).calib.getD (if cur then 1 + k else 0) [])) := by
  refine congrArg Host.Outcome.next ((chanHdr_run hg ht hl (by decide)).trans ?_)
  simp only [reserved_none hr, hq, Hdr.conclude_done, chanHdr_stateCode _ ht (by decide : 0x0C03 / 256 ≠ 9), State.takeOff_ch, State.takeOff_chv]
  rfl

end Sys2Proof.Machine

namespace Sys2Proof

open Sys2Proof.Machine Sys2Proof.Safety

/-- Settles O30: each clause is the lemma of its row above. -/
theorem calibrationCompletes : Obligations.CalibrationCompletes := by
  unfold Obligations.CalibrationCompletes
  exact ⟨fun _ _ _ _ _ _ _ hg ht hl hc hs hr hq h0 h1 hfs hspan => calPoint_holds hg ht hl hc hs hr hq h0 h1 hfs hspan,
    fun _ _ _ _ _ hr ho hlo hhi hn hf hw hd => calPointDone_keeps hr ho hlo hhi hn hf hw hd,
    fun _ _ _ hr ho hf hw hd => calPointDone_overRange hr ho hf hw hd, fun _ _ _ _ _ _ hm hx => calPointExpiry_early hm hx,
    fun _ _ _ _ _ hg ht hl hc hs hr hq hp => calCommit_noPoint hg ht hl hc hs hr hq hp, fun _ _ _ _ _ hr => calPointExpiry_discards hr,
    fun _ _ _ _ _ _ _ _ _ hg ht hl hc hs hr hq hd h0 h1 hcrc hsolve hg0 hg1 ho =>
      calCommit_writes hg ht hl hc hs hr hq hd h0 h1 hcrc hsolve hg0 hg1 ho,
    fun _ _ _ _ _ hg ht hl hr hq => calRead_answers hg ht hl hr hq⟩

end Sys2Proof
end

section
/-! PROOF. LOOP_SET and LOOP_GET (R116 to R120), TUNE_INJECT and TUNE_STOP (R121 to R128) with the capture unit they hold (R242), and O35. -/

namespace Sys2Proof.Machine

open Sys2Proof.Safety

/-! ### Answers -/

theorem State.respond_done_of_open {k : Fin 8} {s : State} (r : Response) (h : (s.mbox k).discard = 0) :
    ((s.respond k r).mbox k).done = (s.mbox k).done ++ [r] := by
  rw [State.respond_of_open r h, State.updMb_mbox]

@[simp] theorem State.respond_ch (k : Fin 8) (r : Response) (s : State) (i : Fin 256) : (s.respond k r).ch i = s.ch i := by
  simp only [State.ch, State.respond_chan]

@[simp] theorem State.respond_unit (k : Fin 8) (r : Response) (s : State) (i : Fin 32) : (s.respond k r).unit i = s.unit i := by
  simp only [State.unit, State.respond_pounce]

/-- A command that takes `s` to `t`, leaving its mailbox but for an RCP_VERIFY, and is answered: the answer joins those of its mailbox. -/
theorem State.answered_done {op : Nat} {m : MbCmd} {s t : State} (r : Response) (box : ∃ v, t.mbox m.mb = { (s.takeOff op m).mbox m.mb with verify := v })
    (h : (s.mbox m.mb).discard = 0) : (((t.passItems op m).respond m.mb r).mbox m.mb).done = (s.mbox m.mb).done ++ [r] := by
  obtain ⟨v, box⟩ := box
  rw [State.respond_done_of_open, State.passItems_mbox, box, State.takeOff_mb_done]
  rw [State.passItems_mbox, box, State.takeOff_mb_discard, h]

/-! ### LOOP_SET (R116 to R119) -/

/-- The images touch the Vellum and the Blotter only. -/
theorem State.writeImages_frame (n : Fin 256) (s : State) : ∃ v b, s.writeImages n = { s with
    vel := v
    blot := b } := by
  unfold State.writeImages
  dsimp only
  generalize hu : State.updChv n _ s = u
  obtain ⟨v, b, rfl⟩ : ∃ v b, u = { s with
    vel := v
    blot := b } := ⟨_, _, hu.symm⟩
  obtain ⟨v', b', worn, -, -⟩ := OnlyWears.trans _ _ _ (State.wearRow_wears (64 + n.val / 4) 112 { s with
    vel := v
    blot := b }) (State.wearRow_wears (128 + n.val / 4) 112 _)
  rw [worn]
  split <;> exact ⟨_, _, rfl⟩

@[simp] theorem State.writeImages_ch (n : Fin 256) (s : State) (i : Fin 256) : (s.writeImages n).ch i = s.ch i := by
  obtain ⟨v, b, h⟩ := s.writeImages_frame n
  rw [h]; rfl

/-- A set that LOOP_SET may store (R118, R119): well formed, in a legal state, and within CK24 where the channel uses it. -/
theorem State.loopSet_stores {m : MbCmd} {s : State} {n : Fin 256} (hc : (s.ch n).calRun = none)
    (hs : (s.ch n).state = .off ∨ (s.ch n).state = .configured ∨ (s.ch n).state = .held) (hb : badSet m.params = none)
    (hn : (s.ch n).state = .off ∨ (s.slotOf (cfSlot (s.ch n).cfg)).setsNamed.contains (fieldAt m.params 0 1 0) = false ∨
      setBounds (s.ch n).cfg ((s.hlimOf n).getD []) (blockFit 16 m.params) = true) :
    s.loopSet m n = .done (((s.updCh n fun c => { c with
        sets := c.sets.set (fieldAt m.params 0 1 0) (some (blockFit 16 m.params)) }).writeImages n).raise 0x0404 INFO n.val
      (fieldAt m.params 0 1 0 + 2 ^ 32 * (crcBlock (blockFit 16 m.params)).toNat)) 0 [] := by
  have legal : ¬ ((decide ((s.ch n).state ≠ .off) && decide ((s.ch n).state ≠ .configured) && decide ((s.ch n).state ≠ .held)) = true) := by
    rcases hs with h | h | h <;> simp [h]
  have bounds : ¬ ((decide ((s.ch n).state ≠ .off) && (s.slotOf (cfSlot (s.ch n).cfg)).setsNamed.contains (fieldAt m.params 0 1 0) &&
      !setBounds (s.ch n).cfg ((s.hlimOf n).getD []) (blockFit 16 m.params)) = true) := by
    rcases hn with h | h | h <;> rw [h] <;> simp
  simp only [State.loopSet, hc, hb, if_neg legal, if_neg bounds]

theorem loopSet_completes {m : MbCmd} {s : State} {n : Fin 256} (hg : Granted 0x0501 2 m s) (ht : m.target = chTarget n)
    (hl : m.length = 80) (hc : (s.ch n).calRun = none)
    (hs : (s.ch n).state = .off ∨ (s.ch n).state = .configured ∨ (s.ch n).state = .held) (hb : badSet m.params = none)
    (hn : (s.ch n).state = .off ∨ (s.slotOf (cfSlot (s.ch n).cfg)).setsNamed.contains (fieldAt m.params 0 1 0) = false ∨
      setBounds (s.ch n).cfg ((s.hlimOf n).getD []) (blockFit 16 m.params) = true) :
    CompletesBy (.loopSet m) 0x0501 m s
      (fun t => ((t.updCh n fun c => { c with sets := c.sets.set (fieldAt m.params 0 1 0) (some (blockFit 16 m.params)) }).writeImages n).raise
        0x0404 INFO n.val (fieldAt m.params 0 1 0 + 2 ^ 32 * (crcBlock (blockFit 16 m.params)).toNat)) (s.ch n).state.code 0 [] := by
  have stores := State.loopSet_stores (s := s.takeOff 0x0501 m) (by simpa using hc) (by simpa using hs) hb
    (by simpa [State.hlimOf] using hn)
  refine congrArg Host.Outcome.next ((chanHdr_run hg ht hl (by decide)).trans ((congrArg _ stores).trans ?_))
  rw [Hdr.conclude_done, chanHdr_stateCode _ ht (by decide), State.raise_ch, State.writeImages_ch, State.updCh_ch, State.takeOff_ch]
  rfl

/-! ### LOOP_GET (R120) -/

/-- LOOP_GET's payload: the set, LOOP_FLAGS, the loop state, OVERRUN and COMPLETE. -/
def Channel.loopWords (set_ : Nat) (c : Channel) : Block :=
  blockFit 16 (c.setOf set_) ++
    [w32 c.loop.flags, wInt c.loop.integ, wInt c.loop.e1, wInt c.loop.e2, wInt c.loop.y1, wInt c.loop.y2, wInt c.loop.dLast,
      w32 c.drive.overrun, w32 (((List.range 4).filter fun k => (c.sets.getD k none).isSome).foldl (fun a k => a + 2 ^ k) 0)]

theorem Channel.loopWords_reads (set_ : Nat) (c : Channel) :
    (c.loopWords set_).take 16 = blockFit 16 (c.setOf set_) ∧ (c.loopWords set_).getD 16 0 = w32 c.loop.flags ∧
    (c.loopWords set_).getD 22 0 = wInt c.loop.dLast ∧ (c.loopWords set_).length = 25 := by
  have len : (blockFit 16 (c.setOf set_)).length = 16 := by simp [blockFit]
  refine ⟨List.take_left' len, ?_, ?_, by simp [Channel.loopWords, len]⟩
  · rw [Channel.loopWords, List.getD_append_right _ _ _ _ (by omega), len]; rfl
  · rw [Channel.loopWords, List.getD_append_right _ _ _ _ (by omega), len]; rfl

/-- CLEAR of LOOP_GET. -/
def Channel.clearLoop (clear : Bool) (c : Channel) : Channel :=
  { c with loop := if clear = true then c.loop.clearSticky else c.loop }

theorem State.loopGet_answers {m : MbCmd} {s : State} {n : Fin 256} (hc : (s.ch n).calRun = none) (hr : NoReserved m [(0, 0xFFFFFEFC)]) :
    s.loopGet m n = .done (s.updCh n (Channel.clearLoop (bitAt m.params 0 8))) 0 ((s.ch n).loopWords (fieldAt m.params 0 1 0)) := by
  rw [State.loopGet]
  simp only [hc]
  rw [reserved_none hr]
  cases bitAt m.params 0 8
  · exact congrArg (Verdict.done · 0 _) (s.updCh_self n).symm
  · rfl

theorem loopGet_completes {m : MbCmd} {s : State} {n : Fin 256} (hg : Granted 0x0502 (b2n (bitAt m.params 0 8)) m s)
    (ht : m.target = chTarget n) (hl : m.length = 20) (hc : (s.ch n).calRun = none) (hr : NoReserved m [(0, 0xFFFFFEFC)]) :
    Completes (.loopGet m) s fun t =>
      (t.ch n).loop = (if bitAt m.params 0 8 = true then (s.ch n).loop.clearSticky else (s.ch n).loop) ∧
      { t.ch n with loop := (s.ch n).loop } = s.ch n ∧ (∀ j, j ≠ n → t.ch j = s.ch j) ∧
      ((s.mbox m.mb).discard = 0 → ∃ r, (t.mbox m.mb).done = (s.mbox m.mb).done ++ [r] ∧ r.status = 0 ∧
        r.payload.take 16 = blockFit 16 ((s.ch n).setOf (fieldAt m.params 0 1 0)) ∧ r.payload.getD 16 0 = w32 (s.ch n).loop.flags ∧
        r.payload.getD 22 0 = wInt (s.ch n).loop.dLast ∧ r.payload.length = 25) := by
  let u := s.takeOff 0x0502 m
  have own : chanVerdict (State.loopGet m) m u = .done (u.updCh n (Channel.clearLoop (bitAt m.params 0 8))) 0
      ((s.ch n).loopWords (fieldAt m.params 0 1 0)) := by
    simp only [chanVerdict, ht, tgtOf_chTarget]
    rw [State.loopGet_answers (by simpa [u] using hc) hr, State.takeOff_ch]
  refine ⟨_, congrArg Host.Outcome.next ((Hdr.run_granted' hg (lenIs_of hl (by decide)) (Hdr.targetOk_ch ht rfl) fun _ => rfl).trans
    (congrArg _ own)), ?_⟩
  simp only [Hdr.conclude_done, State.respond_ch, State.passItems_ch, State.updCh_ch, u, State.takeOff_ch]
  refine ⟨rfl, rfl, fun j hj => ?_, fun hd => ⟨_, State.answered_done _ ⟨_, rfl⟩ hd, rfl, Channel.loopWords_reads _ _⟩⟩
  rw [State.updCh_ch_of_ne _ _ hj.symm, State.takeOff_ch]

/-! ### The units and a channel's change of state (R225, R242) -/

/-- What a unit sees changes nothing else of it. -/
theorem Pounce.sees_frame (n code : Nat) (p : Pounce) : ∃ x, p.sees n code = { p with seen := x } := by
  unfold Pounce.sees
  split <;> exact ⟨_, rfl⟩

theorem Pounce.release_holder (n : Fin 256) (p : Pounce) : (p.release n).holder ≠ some n := by
  unfold Pounce.release
  split
  · simp
  next h => exact h

theorem State.tellUnits_unit (n : Fin 256) (old st : ChState) (s : State) (k : Fin 32) :
    (s.tellUnits n old st).unit k =
      if old = .tune then ((s.unit k).sees n.val st.code).release n else (s.unit k).sees n.val st.code := by
  unfold State.tellUnits
  split <;> simp [State.unit, vget]

theorem State.toState_unit {n : Fin 256} {st : ChState} {s : State} (k : Fin 32) (h : (s.ch n).state ≠ st) :
    (s.toState n st).unit k =
      if (s.ch n).state = .tune then ((s.unit k).sees n.val st.code).release n else (s.unit k).sees n.val st.code := by
  rw [State.toState, if_neg h, State.ckpt_unit, State.become]
  simp only [h, if_false]
  split
  · rw [State.rewrite_unit]; exact State.tellUnits_unit ..
  · rw [State.refreshSlot_unit, State.rewrite_unit]; exact State.tellUnits_unit ..

/-- A change of a slot spoils the RCP_VERIFY that works on it, and leaves the mailboxes otherwise (R165). -/
theorem State.setSlot_mbox (i : Fin 1024) (st : SlotState) (s : State) (k : Fin 8) :
    ∃ v, (s.setSlot i st).mbox k = { s.mbox k with verify := v } := by
  unfold State.setSlot
  split
  · exact ⟨_, rfl⟩
  · rw [State.raise_mbox]; exact State.spoil_mbox i _ k

theorem State.refreshSlot_mbox (i : Fin 1024) (s : State) (k : Fin 8) :
    ∃ v, (s.refreshSlot i).mbox k = { s.mbox k with verify := v } := by
  unfold State.refreshSlot
  split
  · exact s.setSlot_mbox i _ k
  · exact ⟨_, rfl⟩

theorem State.toState_mbox (n : Fin 256) (st : ChState) (s : State) (k : Fin 8) :
    ∃ v, (s.toState n st).mbox k = { s.mbox k with verify := v } := by
  unfold State.toState
  split
  · exact ⟨_, rfl⟩
  next changes =>
    rw [State.ckpt_mbox, State.become]
    simp only [changes, if_false]
    split
    · exact ⟨_, State.rewrite_mbox ..⟩
    · refine (State.refreshSlot_mbox _ _ k).imp fun v h => h.trans ?_
      rw [State.rewrite_mbox]; rfl

theorem State.toState_reports (n : Fin 256) (st : ChState) (s : State) : Reports s (s.toState n st) := by
  unfold State.toState
  split
  · exact .refl s
  · exact (State.become_reports n st s).trans _ _ _ (.of_blot rfl)

/-! ### TUNE_INJECT (R121 to R124, R242) -/

theorem State.enterLoop_ch_self (n : Fin 256) (k : Nat) (l : Option (Int × Int)) (s : State) :
    ((s.enterLoop n k l).ch n).state = (s.ch n).state ∧ ((s.enterLoop n k l).ch n).tune = (s.ch n).tune ∧
    ((s.enterLoop n k l).ch n).drive.first = true := by
  simp [State.enterLoop, State.dropSamples]

theorem State.enterLoop_ch_of_ne {n j : Fin 256} (k : Nat) (l : Option (Int × Int)) (s : State) (h : j ≠ n) :
    (s.enterLoop n k l).ch j = s.ch j := by
  rw [State.enterLoop, State.updCh_ch_of_ne _ _ h.symm, State.dropSamples, State.updGrp_ch]

/-- The TUNE that a TUNE_INJECT block begins in a channel. -/
def Channel.newTune (p : Block) (c : Channel) : Tune :=
  { cmd := blockFit 10 p, from_ := c.state, k := 0, prbs := 2 ^ fieldAt p 0x18 3 0 - 1, analysed := [], n := 0, aborted := false,
    injecting := true, finished := false }

/-- The effect of TUNE_INJECT before its event: the unit is held, the loop starts and the channel is in TUNE (R121, R242). -/
def State.beginTune (p : Block) (n : Fin 256) (s : State) : State :=
  (((s.updUnit (tnUnit p) (Pounce.forTune n p (loopTicks (s.ch n).cfg) s.now (s.ch n).meas.evals)).updCh n fun c => { c with
      tune := some ((s.ch n).newTune p) }).enterLoop n (tnSet p)
    (outerLimits (if tnMode p = 2 then 4 else tnMode p) (decide (0 ≤ intAt p 8)) ((intAt p 8).natAbs : Int)
      (cfScale (s.ch n).cfg))).toState n .tune

theorem State.beginTune_reports (p : Block) (n : Fin 256) (s : State) : Reports s (s.beginTune p n) :=
  Reports.after (State.toState_reports n .tune _)

theorem State.beginTune_ch_of_ne {n j : Fin 256} (p : Block) (s : State) (h : j ≠ n) : (s.beginTune p n).ch j = s.ch j := by
  rw [State.beginTune, State.toState_ch_of_ne _ _ _ h, State.enterLoop_ch_of_ne _ _ _ h, State.updCh_ch_of_ne _ _ h.symm]
  rfl

theorem State.beginTune_ch_self (p : Block) (n : Fin 256) (s : State) :
    ((s.beginTune p n).ch n).state = .tune ∧ ((s.beginTune p n).ch n).tune = some ((s.ch n).newTune p) ∧
    ((s.beginTune p n).ch n).drive.first = true := by
  simp [State.beginTune, State.enterLoop_ch_self]

/-- The held unit: its own arming leaves CAPTURE_ID (R242, R256). -/
theorem State.beginTune_unit {p : Block} {n : Fin 256} {s : State} (h : (s.ch n).state ≠ .tune) :
    ((s.beginTune p n).unit (tnUnit p)).holder = some n ∧ ((s.beginTune p n).unit (tnUnit p)).tune = true ∧
    ((s.beginTune p n).unit (tnUnit p)).captureId = (s.unit (tnUnit p)).captureId := by
  have awake : ∀ l, (((s.updUnit (tnUnit p) (Pounce.forTune n p (loopTicks (s.ch n).cfg) s.now (s.ch n).meas.evals)).updCh n fun c =>
      { c with tune := some ((s.ch n).newTune p) }).enterLoop n (tnSet p) l |>.ch n).state ≠ .tune := fun l => by
    simpa [State.enterLoop_ch_self] using h
  obtain ⟨x, seen⟩ := Pounce.sees_frame n.val ChState.tune.code
    ((s.unit (tnUnit p)).forTune n p (loopTicks (s.ch n).cfg) s.now (s.ch n).meas.evals)
  rw [State.beginTune, State.toState_unit _ (awake _), if_neg (awake _), State.enterLoop_unit, State.updCh_unit, State.updUnit_unit, seen]
  exact ⟨rfl, rfl, rfl⟩

/-- A TUNE_INJECT within its limits (R122, R123, R242). -/
theorem State.tuneInject_begins {m : MbCmd} {s : State} {n : Fin 256} (hc : (s.ch n).calRun = none)
    (hs : (s.ch n).state = .configured ∨ (s.ch n).state = .held) (hf : tuneField m.params = none) (hk : s.channelLock n = none)
    (ha : ampOk (s.ch n).cfg m.params = true) (hq : freqFault (s.ch n).cfg m.params = none)
    (ho : opOk ((s.hlimOf n).getD []) m.params = true) (hx : cfFixed (s.ch n).cfg = true)
    (hset : (s.ch n).sets.getD (tnSet m.params) none ≠ none) (hu : (s.unit (tnUnit m.params)).state = .idle)
    (hh : (s.unit (tnUnit m.params)).holder = none)
    (hp : s.poolUsed - (s.unit (tnUnit m.params)).pages + (s.unit (tnUnit m.params)).tunePages ≤ 256) :
    s.tuneInject m n = .done ((s.beginTune m.params n).raise 0x0405 INFO n.val
      (tnSignal m.params + 2 ^ 8 * tnPoint m.params + 2 ^ 32 * natAt m.params 0x24)) 0 [] := by
  have legal : (s.chanCheck n fun st => st == .configured || st == .held) = none :=
    State.chanCheck_of_legal hc (by rcases hs with h | h <;> rw [h] <;> rfl)
  have complete : ((s.ch n).sets.getD (tnSet m.params) none).isNone = false := by
    rw [Option.isNone_eq_false_iff, Option.isSome_iff_ne_none]; exact hset
  rw [State.tuneInject]
  simp only [legal, hf, hk, ha, hq, ho, hx, complete, hu, hh, orElse, safetyRefusal, Option.map_none, Nat.not_lt.mpr hp]
  rfl

theorem tuneInject_completes {m : MbCmd} {s : State} {n : Fin 256} (hg : Granted 0x0503 2 m s) (ht : m.target = chTarget n)
    (hl : m.length = 56) (hc : (s.ch n).calRun = none)
    (hs : (s.ch n).state = .configured ∨ (s.ch n).state = .held) (hf : tuneField m.params = none) (hk : s.channelLock n = none)
    (ha : ampOk (s.ch n).cfg m.params = true) (hq : freqFault (s.ch n).cfg m.params = none)
    (ho : opOk ((s.hlimOf n).getD []) m.params = true) (hx : cfFixed (s.ch n).cfg = true)
    (hset : (s.ch n).sets.getD (tnSet m.params) none ≠ none) (hu : (s.unit (tnUnit m.params)).state = .idle)
    (hh : (s.unit (tnUnit m.params)).holder = none)
    (hp : s.poolUsed - (s.unit (tnUnit m.params)).pages + (s.unit (tnUnit m.params)).tunePages ≤ 256) :
    Completes (.tuneInject m) s fun t =>
      (t.ch n).state = .tune ∧
      (∃ u, (t.ch n).tune = some u ∧ u.from_ = (s.ch n).state ∧ u.injecting = true ∧ u.k = 0 ∧ u.n = 0 ∧ u.cmd = blockFit 10 m.params) ∧
      (t.unit (tnUnit m.params)).holder = some n ∧ (t.unit (tnUnit m.params)).tune = true ∧
      (t.unit (tnUnit m.params)).captureId = (s.unit (tnUnit m.params)).captureId ∧ (t.ch n).drive.first = true ∧
      s.event 0x0405 INFO n.val (tnSignal m.params + 2 ^ 8 * tnPoint m.params + 2 ^ 32 * natAt m.params 0x24) ∈ t.blot.raised ∧
      (∀ j, j ≠ n → t.ch j = s.ch j) := by
  let u := s.takeOff 0x0503 m
  have begins := State.tuneInject_begins (m := m) (s := u) (n := n) (by simpa [u] using hc) (by simpa [u] using hs) hf
    (by simpa [u, State.channelLock] using hk) (by simpa [u] using ha) (by simpa [u] using hq) (by simpa [u, State.hlimOf] using ho)
    (by simpa [u] using hx) (by simpa [u] using hset) (by simpa [u] using hu) (by simpa [u] using hh)
    (by simpa [u, State.poolUsed] using hp)
  obtain ⟨state, tune, first⟩ := u.beginTune_ch_self m.params n
  obtain ⟨holder, tuned, capture⟩ := State.beginTune_unit (p := m.params) (n := n) (s := u) (by rcases hs with h | h <;> simp [u, h])
  refine ⟨_, congrArg Host.Outcome.next ((chanHdr_run hg ht hl (by decide)).trans (congrArg _ begins)), ?_⟩
  simp only [Hdr.conclude_done, State.respond_ch, State.respond_unit, State.passItems_ch, State.passItems_unit, State.raise_ch,
    State.raise_unit]
  refine ⟨state, ⟨_, tune, ?_, rfl, rfl, rfl, rfl⟩, holder, tuned, by rw [capture, State.takeOff_unit], first, ?_, fun j hj => ?_⟩
  · simp [Channel.newTune, u]
  · refine (State.respond_reports _ _ _).mem (List.mem_append_right _ (List.mem_singleton.mpr ?_))
    simp [State.event, State.beginTune, u]
  · rw [State.beginTune_ch_of_ne _ _ hj, State.takeOff_ch]

/-! ### TUNE_STOP (R121, R127, R242) -/

theorem State.leaveTune_eq {s : State} {n : Fin 256} {u : Tune} (hu : (s.ch n).tune = some u) :
    s.leaveTune n = (s.toState n u.from_).updCh n fun c => { c with
      tune := none
      loop := { c.loop with inj := 0 } } := by
  simp only [State.leaveTune, hu]

theorem State.tuneStop_leaves {s : State} {n : Fin 256} {u : Tune} (hc : (s.ch n).calRun = none) (hs : (s.ch n).state = .tune)
    (hu : (s.ch n).tune = some u) : s.tuneStop n = .done (s.leaveTune n) 0 (u.words (s.ch n).cfg) := by
  have legal : s.chanCheck n (fun st => st == .tune) = none := State.chanCheck_of_legal hc (by rw [hs]; rfl)
  simp only [State.tuneStop, legal, orElse, hu]

theorem tuneStop_completes {m : MbCmd} {s : State} {n : Fin 256} {u : Tune} (hg : Granted 0x0504 2 m s) (ht : m.target = chTarget n)
    (hl : m.length = 16) (hc : (s.ch n).calRun = none) (hs : (s.ch n).state = .tune) (hu : (s.ch n).tune = some u)
    (hfrom : u.from_ = .configured ∨ u.from_ = .held) :
    Completes (.tuneStop m) s fun t =>
      (t.ch n).state = u.from_ ∧ (t.ch n).tune = none ∧ (t.ch n).loop.inj = 0 ∧ (∀ k, (t.unit k).holder ≠ some n) ∧ (∀ j, j ≠ n → t.ch j = s.ch j) ∧
      ((s.mbox m.mb).discard = 0 → (t.mbox m.mb).done = (s.mbox m.mb).done ++ [okAnswer m u.from_.code 0 (u.words (s.ch n).cfg)]) := by
  let v := s.takeOff 0x0504 m
  have ch : v.ch n = s.ch n := State.takeOff_ch ..
  have leaves : v.tuneStop n = .done (v.leaveTune n) 0 (u.words (s.ch n).cfg) := by
    rw [← ch]; exact State.tuneStop_leaves (by rw [ch, hc]) (by rw [ch, hs]) (by rw [ch, hu])
  have eq := State.leaveTune_eq (s := v) (n := n) (by rw [ch, hu])
  have changes : (v.ch n).state ≠ u.from_ := by rw [ch, hs]; rcases hfrom with h | h <;> rw [h] <;> decide
  refine ⟨_, congrArg Host.Outcome.next ((chanHdr_run hg ht hl (by decide)).trans (congrArg _ leaves)), ?_⟩
  rw [Hdr.conclude_done, chanHdr_stateCode _ ht (by decide), eq]
  simp only [State.respond_ch, State.respond_unit, State.passItems_ch, State.passItems_unit, State.updCh_ch, State.updCh_unit,
    State.toState_state, State.toState_unit _ changes, ch, hs, if_true]
  refine ⟨trivial, trivial, trivial, fun k => Pounce.release_holder n _, fun j hj => ?_, State.answered_done _ ?_⟩
  · rw [State.updCh_ch_of_ne _ _ hj.symm, State.toState_ch_of_ne _ _ _ hj, State.takeOff_ch]
  · rw [State.updCh_mbox]; exact State.toState_mbox ..

end Sys2Proof.Machine

namespace Sys2Proof

open Sys2Proof.Machine Sys2Proof.Safety

/-- Settles O35: each clause is the lemma of its row above. -/
theorem loopCommandsComplete : Obligations.LoopCommandsComplete := by
  unfold Obligations.LoopCommandsComplete
  exact ⟨fun _ _ _ hg ht hl hc hs hb hn => loopSet_completes hg ht hl hc hs hb hn,
    fun _ _ _ hg ht hl hc hr => loopGet_completes hg ht hl hc hr,
    fun _ _ _ hg ht hl hc hs hf hk ha hq ho hx hset hu hh hp => tuneInject_completes hg ht hl hc hs hf hk ha hq ho hx hset hu hh hp,
    fun _ _ _ _ hg ht hl hc hs hu hfrom => tuneStop_completes hg ht hl hc hs hu hfrom⟩

end Sys2Proof
end

section
/-! PROOF. What the shared steps of an evaluation change and leave: the first word of a takeover (R211), the skipped evaluation of a handover
(R213), a hold by the Nib (R93, R137), ARITH_SAT (R109). -/

namespace Sys2Proof.Machine

/-! ### The first word of a takeover (R211) -/

theorem State.closeGap_frame (g : Fin 17) (s : State) : ∃ nb b, s.closeGap g = { s with
    nibs := nb
    blot := b } := by
  unfold State.closeGap
  repeat' split
  all_goals exact ⟨_, _, rfl⟩

theorem State.closeGap_reports (g : Fin 17) (s : State) : Reports s (s.closeGap g) := by
  unfold State.closeGap
  split
  · split
    · split
      · exact .refl s
      · exact Reports.raise _ _ _ _ (.of_blot rfl)
    · exact .refl s
  · exact .refl s

/-- The channel with another mark of its Nib's fence and a checkpoint requested. -/
def Channel.marked (late : Option Nat) (req : Block) (at_ gap : Nat) (c : Channel) : Channel :=
  { c with
    drive := { c.drive with late := late }
    ckptReq := some req
    ckptAt := at_
    ckptGap := gap }

/-- A first word marks the channel, and touches the Nibs and the Blotter; any other word leaves the state. -/
theorem State.firstWord_cases (n : Fin 256) (s : State) : s.firstWord n = s ∨
    ∃ l q a g nb b, s.firstWord n = { s.updCh n (Channel.marked l q a g) with
      nibs := nb
      blot := b } := by
  unfold State.firstWord
  dsimp only
  split
  · right
    generalize hu : State.ckpt n 5 _ = u
    obtain ⟨nb, b, gap⟩ := u.closeGap_frame (groupOf n).castSucc
    rw [gap, ← hu, State.ckpt, State.updCh_updCh]
    exact ⟨_, _, _, _, nb, b, rfl⟩
  · exact .inl rfl

theorem State.firstWord_of_noTakeover {n : Fin 256} {s : State} (h : s.nibs.takeovers = []) : s.firstWord n = s := by
  simp [State.firstWord, h]

theorem State.firstWord_reports (n : Fin 256) (s : State) : Reports s (s.firstWord n) := by
  unfold State.firstWord
  dsimp only
  split
  · exact Reports.after (State.closeGap_reports _ _)
  · exact .refl s

theorem State.firstWord_ch_of_ne {n j : Fin 256} (s : State) (h : j ≠ n) : (s.firstWord n).ch j = s.ch j := by
  obtain e | ⟨l, q, a, g, nb, b, e⟩ := s.firstWord_cases n
  · rw [e]
  · rw [e]; exact State.updCh_ch_of_ne _ _ h.symm

theorem State.firstWord_grp (n : Fin 256) (s : State) (g : Fin 16) : (s.firstWord n).grp g = s.grp g := by
  obtain e | ⟨l, q, a, g, nb, b, e⟩ := s.firstWord_cases n
  · rw [e]
  · rw [e]; rfl

/-- What the first word of a takeover leaves of its channel. -/
theorem State.firstWord_ch_self (n : Fin 256) (s : State) :
    ((s.firstWord n).ch n).state = (s.ch n).state ∧ ((s.firstWord n).ch n).acc = (s.ch n).acc ∧
    ((s.firstWord n).ch n).meas = (s.ch n).meas ∧ ((s.firstWord n).ch n).run = (s.ch n).run ∧
    ((s.firstWord n).ch n).loop = (s.ch n).loop ∧ ((s.firstWord n).ch n).tune = (s.ch n).tune ∧
    ((s.firstWord n).ch n).drive.heldWord = (s.ch n).drive.heldWord ∧
    ((s.ch n).ckptReq ≠ none → ((s.firstWord n).ch n).ckptReq ≠ none) := by
  obtain e | ⟨l, q, a, g, nb, b, e⟩ := s.firstWord_cases n
  · simp [e]
  · have ch : (s.firstWord n).ch n = (s.ch n).marked l q a g := by rw [e]; exact State.updCh_ch ..
    simp [ch, Channel.marked]

/-! ### A skipped evaluation (R213) -/

/-- `t` has the channels and groups of `s`. -/
def LeavesChannels (s t : State) : Prop := t.chan = s.chan ∧ t.group = s.group

theorem LeavesChannels.refl (s : State) : LeavesChannels s s := ⟨rfl, rfl⟩

theorem LeavesChannels.trans (s t u : State) : LeavesChannels s t → LeavesChannels t u → LeavesChannels s u :=
  fun ⟨hc, hg⟩ ⟨hc', hg'⟩ => ⟨hc'.trans hc, hg'.trans hg⟩

theorem State.answerRetire_leavesChannels (status detail : Nat) (m : MbCmd) (s : State) :
    LeavesChannels s (s.answerRetire status detail m) := by
  have kept : ∀ k (t : State), LeavesChannels t (t.dropKept k) := fun k t => by
    unfold State.dropKept
    split
    · simp [LeavesChannels]
    · exact .refl t
  have held : ∀ k r (t : State), LeavesChannels t (t.respondHeld k r) := fun k r t => by
    unfold State.respondHeld
    dsimp only
    split
    · exact .refl t
    · have answered : LeavesChannels t ((t.updMb k fun b => { b with working := b.working - 1 }).respond k r) := ⟨by simp, by simp⟩
      split
      · exact answered
      · exact answered.trans _ _ _ (kept k _)
  unfold State.answerRetire State.respondLate
  split
  · exact .refl s
  · exact held _ _ _

theorem State.releaseNib_leavesChannels (g : Fin 17) (cmds : List MbCmd) (s : State) : LeavesChannels s (s.releaseNib g cmds) := by
  unfold State.releaseNib
  split
  · exact .refl s
  · split <;> exact ⟨rfl, rfl⟩

theorem State.endHandover_leavesChannels (h : Handover) (s : State) : LeavesChannels s (s.endHandover h) := by
  let freed := ({ s with nibs := { s.nibs with handovers := s.nibs.handovers.filter fun x => x.group != h.group } } : State).releaseNib
    h.group h.cmds
  have free : LeavesChannels s freed := State.releaseNib_leavesChannels h.group h.cmds _
  unfold State.endHandover
  dsimp only
  generalize hu : ite (h.group = 16) _ _ = u
  have served : LeavesChannels s u := by
    rw [← hu]
    split <;> exact free
  split
  · exact served
  · exact served.trans _ _ _ (forAll_rel LeavesChannels.refl LeavesChannels.trans (State.answerRetire_leavesChannels 0 0) _ _)

/-- The channel without its oldest update in flight. -/
def Channel.dropFlight (c : Channel) : Channel := { c with drive := { c.drive with flights := c.drive.flights.drop 1 } }

theorem State.skipEvaluation_leavesChannels (n : Fin 256) (h : Handover) (s : State) :
    LeavesChannels (s.updCh n Channel.dropFlight) (s.skipEvaluation n h) := by
  unfold State.skipEvaluation
  dsimp only
  split
  · exact State.endHandover_leavesChannels _ _
  · exact ⟨rfl, rfl⟩

/-! ### A hold by the Nib (R93, R137) -/

theorem State.rewrite_evals (n : Fin 256) (a b : Bool) (s : State) : ((s.rewrite n a b).ch n).meas.evals = (s.ch n).meas.evals := by
  have opened : ∀ t : State, ((t.openInterval n).ch n).meas.evals = (t.ch n).meas.evals := fun t => by
    rw [State.openInterval, State.updCh_ch]; rfl
  unfold State.rewrite
  split
  · rw [State.closeInterval, opened, State.record_ch]
  · split
    · exact opened s
    · rfl

@[simp] theorem State.toState_evals (n : Fin 256) (st : ChState) (s : State) :
    ((s.toState n st).ch n).meas.evals = (s.ch n).meas.evals := by
  have entered : ∀ t b, ((s.ch n).enter st t b).meas.evals = (s.ch n).meas.evals := fun t b => by
    unfold Channel.enter
    dsimp only
    split <;> rfl
  unfold State.toState
  split
  · rfl
  next changes =>
    rw [State.ckpt, State.updCh_ch, State.become]
    simp only [changes, if_false]
    split
    · rw [State.rewrite_evals, State.tellUnits_ch, State.updCh_ch, entered]
    · rw [State.refreshSlot_ch, State.rewrite_evals, State.tellUnits_ch, State.updCh_ch, entered]

/-- A hold keeps the channel's position, accumulators, loop and drive, and requests a checkpoint (R156, R192). -/
theorem State.holdChannel_ch_self {n : Fin 256} {s : State} (h : (s.ch n).state ≠ .held) :
    ((s.holdChannel n).ch n).state = .held ∧ ((s.holdChannel n).ch n).acc = (s.ch n).acc ∧
    ((s.holdChannel n).ch n).meas.evals = (s.ch n).meas.evals ∧ ((s.holdChannel n).ch n).run = (s.ch n).run ∧
    ((s.holdChannel n).ch n).loop = (s.ch n).loop ∧ ((s.holdChannel n).ch n).drive = (s.ch n).drive ∧
    ((s.holdChannel n).ch n).ckptReq ≠ none := by
  have changes : ((s.updCh n fun c => { c with meas := { c.meas with holdDue := false } }).ch n).state ≠ .held := by simpa using h
  have requested : ((s.holdChannel n).ch n).ckptReq ≠ none := by
    obtain ⟨m, e⟩ := State.toState_ch_self n .held _ changes
    rw [State.holdChannel, e]
    exact Option.some_ne_none _
  refine ⟨?_, ?_, ?_, ?_, ?_, ?_, requested⟩ <;> simp [State.holdChannel]

theorem State.holdChannel_ch_of_ne {n j : Fin 256} (s : State) (h : j ≠ n) : (s.holdChannel n).ch j = s.ch j := by
  rw [State.holdChannel, State.toState_ch_of_ne _ _ _ h, State.updCh_ch_of_ne _ _ h.symm]

theorem State.holdChannel_grp (n : Fin 256) (s : State) (g : Fin 16) : (s.holdChannel n).grp g = s.grp g := by
  simp [State.holdChannel]

/-! ### ARITH_SAT (R109) -/

/-- The channel with another ARITH_SAT reported. -/
def Channel.sawArith (seen : Bool) (c : Channel) : Channel := { c with loop := { c.loop with arithSeen := seen } }

theorem Channel.sawArith_run (a : Bool) (c : Channel) : (c.sawArith a).run = c.run := rfl

theorem Channel.sawArith_tune (a : Bool) (c : Channel) : (c.sawArith a).tune = c.tune := rfl

theorem State.setCh_updCh (n : Fin 256) (c : Channel) (f : Channel → Channel) (s : State) : (s.setCh n c).updCh n f = s.setCh n (f c) := by
  simp only [State.updCh, State.setCh, State.ch, vget_vset_self, vset_vset]

theorem State.arithEvent_setCh (n : Fin 256) (c : Channel) (bound : Bool) (set_ step : Nat) (s : State) :
    ∃ a b, (s.setCh n c).arithEvent n bound set_ step = { s.setCh n (c.sawArith a) with blot := b } := by
  unfold State.arithEvent
  split
  · rw [State.setCh_updCh]; exact ⟨true, _, rfl⟩
  · exact ⟨c.loop.arithSeen, _, rfl⟩

end Sys2Proof.Machine
end

section
/-! PROOF. Stages 1, 2 and 4 of an evaluation of a FIXED channel (R100, R105, R108, R110), stage 3 below 1 ms (R136, R137), and O37. -/

namespace Sys2Proof.Machine

open Sys2Proof.Safety

/-! ### Stage 1 (R110) -/

/-- The window of a FIXED channel is K periods, with nothing owed. -/
theorem Channel.accumulate_fixed {c : Channel} (hf : cfFixed c.cfg = true) (ho : c.drive.owed = []) :
    c.accumulate = (loopTicks c.cfg, { c with
      acc := c.acc.add (c.state == .running) (loopTicks c.cfg) c.meas.loopV c.meas.loopI
      loop := { c.loop with
        mirrorV := c.meas.loopV
        mirrorI := c.meas.loopI }
      drive := { c.drive with owed := [] } }) := by
  simp only [Channel.accumulate, Channel.window, hf, ho, if_true]
  rfl

/-! ### Stages 1, 2 and 4 -/

/-- The run `r'` stands where `r` does. -/
structure Run.SameStep (r r' : Run) : Prop where
  pos : r'.pos = r.pos
  cur : r'.cur = r.cur
  trans : r'.trans = r.trans

/-- `d` is the FIXED channel `c` after stages 1, 2 and 4 on the sample in its averages. -/
structure Channel.Served (c d : Channel) : Prop where
  state : d.state = c.state
  meas : d.meas = c.meas
  acc : d.acc = c.acc.add (c.state == .running) (loopTicks c.cfg) c.meas.loopV c.meas.loopI
  step : c.run.SameStep d.run
  word : d.drive.heldWord = packWord 0 (wordOf c.cfg d.loop.dLast).1 (wordOf c.cfg d.loop.dLast).2
  mirrorV : d.loop.mirrorV = c.meas.loopV
  mirrorI : d.loop.mirrorI = c.meas.loopI

theorem Channel.slice_frame (c : Channel) : ∃ r, c.slice = { c with run := r } ∧ c.run.SameStep r ∧ r.stepRan = c.run.stepRan := by
  unfold Channel.slice
  dsimp only
  split
  · exact ⟨_, rfl, ⟨rfl, rfl, rfl⟩, rfl⟩
  · split <;> exact ⟨_, rfl, ⟨rfl, rfl, rfl⟩, rfl⟩

theorem Channel.collect_frame (c : Channel) (st0 : Nat) (inside : Bool) :
    ∃ r, c.collect st0 inside = { c with run := r } ∧ c.run.SameStep r ∧
      r.stepRan = if c.run.trans = none then true else c.run.stepRan := by
  unfold Channel.collect
  split
  next pending => exact ⟨_, rfl, ⟨rfl, rfl, rfl⟩, (if_neg (Option.isSome_iff_ne_none.mp pending)).symm⟩
  next settled => exact ⟨_, rfl, ⟨rfl, rfl, rfl⟩, (if_pos (Option.not_isSome_iff_eq_none.mp settled)).symm⟩

theorem Channel.writeWord_eq (c : Channel) : c.writeWord = { c with
    drive := { c.drive with
      heldWord := packWord 0 (wordOf c.cfg c.loop.dLast).1 (wordOf c.cfg c.loop.dLast).2
      flights := if c.drive.overdue = 0 then wordHeld c.drive.flights else c.drive.flights
      overdue := c.drive.overdue - 1 } } := by
  unfold Channel.writeWord
  generalize wordOf c.cfg c.loop.dLast = w
  rfl

/-- The law leaves the mirror of the sample (R190). -/
theorem lawEval_mirror (cs : Block) (x : LawIn) (l : LoopSt) :
    (lawEval cs x l).1.mirrorV = l.mirrorV ∧ (lawEval cs x l).1.mirrorI = l.mirrorI := by
  unfold lawEval
  generalize (outerLimits x.mode x.charge x.ilim x.scale).getD (0, 0) = lim
  exact ⟨rfl, rfl⟩

theorem Channel.evalRun_served {c : Channel} (bus : Int) (hf : cfFixed c.cfg = true) (ho : c.drive.owed = []) :
    c.Served (c.evalRun bus).1 ∧ (c.evalRun bus).1.run.stepRan = if c.run.trans = none then true else c.run.stepRan := by
  rw [Channel.evalRun, Channel.accumulate_fixed hf ho]
  dsimp only
  generalize hl : lawEval _ _ _ = l
  obtain ⟨mirrorV, mirrorI⟩ : l.1.mirrorV = c.meas.loopV ∧ l.1.mirrorI = c.meas.loopI := by
    rw [← hl]; exact lawEval_mirror ..
  generalize hd : Channel.mk _ _ _ _ _ _ _ l.1 _ _ _ _ _ _ _ _ = d
  obtain ⟨r, sliced, ⟨pos, cur, trans⟩, ran⟩ := d.slice_frame
  obtain ⟨r', collected, ⟨pos', cur', trans'⟩, ran'⟩ := d.slice.collect_frame c.acc.st l.2.1
  rw [collected, Channel.writeWord_eq]
  simp only [sliced, pos, cur, trans, ran] at pos' cur' trans' ran' ⊢
  subst hd
  exact ⟨⟨rfl, rfl, rfl, ⟨pos', cur', trans'⟩, rfl, mirrorV, mirrorI⟩, ran'⟩

theorem Channel.evalTune_served {c : Channel} (t : Tune) (bus : Int) (hf : cfFixed c.cfg = true) (ho : c.drive.owed = []) :
    c.Served (c.evalTune t bus).1 ∧ ∃ a b, (c.evalTune t bus).1.tune = some (t.advance a b) := by
  rw [Channel.evalTune, Channel.accumulate_fixed hf ho]
  dsimp only
  generalize hl : lawEval _ _ _ = l
  obtain ⟨mirrorV, mirrorI⟩ : l.1.mirrorV = c.meas.loopV ∧ l.1.mirrorI = c.meas.loopI := by
    rw [← hl]; exact lawEval_mirror ..
  rw [Channel.writeWord_eq]
  exact ⟨⟨rfl, rfl, rfl, ⟨rfl, rfl, rfl⟩, rfl, mirrorV, mirrorI⟩, _, _, rfl⟩

/-! ### The sample enters its evaluation -/

/-- The channel with the sample `x` in its averages. -/
def Channel.take (x : LoopSample) (c : Channel) : Channel :=
  { c with
    meas := { c.meas with
      loopV := x.v
      loopI := x.i
      loopS := x.time
      loopEra := x.era
      loopTick := x.tick
      evals := c.meas.evals + 1 } }

section
variable (n : Fin 256) (rest : List (Fin 256 × LoopSample)) (s : State)

@[simp] theorem State.passSample_ch (j : Fin 256) : (s.passSample n rest).ch j = s.ch j := rfl

theorem State.passSample_accepted : ((s.passSample n rest).grp (groupOf n)).accepted = rest := by
  rw [State.passSample, State.updGrp_grp]

theorem State.passSample_grp_of_ne {n : Fin 256} {g : Fin 16} (h : g ≠ groupOf n) : (s.passSample n rest).grp g = s.grp g :=
  State.updGrp_grp_of_ne _ _ h.symm

theorem State.takeSample_ch (x : LoopSample) : (s.takeSample n x rest).ch n = (s.ch n).take x := State.updCh_ch ..

end

theorem State.takeSample_eq (n : Fin 256) (x : LoopSample) (rest : List (Fin 256 × LoopSample)) (s : State) :
    s.takeSample n x rest = (s.passSample n rest).updCh n (Channel.take x) := rfl

/-- The state with channel `n` as `c`, its sample served, and the events of the Blotter `b`. -/
def State.served (n : Fin 256) (rest : List (Fin 256 × LoopSample)) (c : Channel) (b : Blotter) (s : State) : State :=
  { (s.passSample n rest).setCh n c with blot := b }

section
variable (n : Fin 256) (rest : List (Fin 256 × LoopSample)) (c : Channel) (b : Blotter) (s : State)

@[simp] theorem State.served_ch : (s.served n rest c b).ch n = c := vget_vset_self _ _ _

theorem State.served_ch_of_ne {n j : Fin 256} (h : j ≠ n) : (s.served n rest c b).ch j = s.ch j := vget_vset_of_ne _ _ h.symm

theorem State.served_accepted : ((s.served n rest c b).grp (groupOf n)).accepted = rest :=
  s.passSample_accepted n rest

theorem State.served_grp_of_ne {n : Fin 256} {g : Fin 16} (h : g ≠ groupOf n) : (s.served n rest c b).grp g = s.grp g :=
  s.passSample_grp_of_ne rest h

@[simp] theorem State.served_tb : (s.served n rest c b).tb = s.tb := rfl

theorem State.served_frame : { s.served n rest c b with
    chan := s.chan
    group := s.group
    blot := s.blot } = s := rfl

/-- The channel after stages 1, 2 and 4, with ARITH_SAT reported or not. -/
theorem State.arithEvent_served (x : LoopSample) (bound : Bool) (set_ step : Nat) :
    ∃ a b, ((s.takeSample n x rest).setCh n c).arithEvent n bound set_ step = s.served n rest (c.sawArith a) b := by
  obtain ⟨a, b, h⟩ := (s.takeSample n x rest).arithEvent_setCh n c bound set_ step
  refine ⟨a, b, h.trans ?_⟩
  rw [State.takeSample_eq, State.served, State.updCh]
  simp only [State.setCh, vset_vset]

end

theorem Channel.Served.sawArith {c d : Channel} (h : c.Served d) (a : Bool) : c.Served (d.sawArith a) :=
  ⟨h.state, h.meas, h.acc, h.step, h.word, h.mirrorV, h.mirrorI⟩

/-- The settling after a resume (R204) is no part of what an evaluation serves. -/
theorem Channel.Served.of_settled {c d : Channel} {now : Nat} (h : (c.settled now).Served d) : c.Served d := by
  unfold Channel.settled at h
  split at h
  · exact ⟨h.state, h.meas, h.acc, ⟨h.step.pos, h.step.cur, h.step.trans⟩, h.word, h.mirrorV, h.mirrorI⟩
  · exact h

theorem Channel.settled_frame (now : Nat) (c : Channel) : ∃ w, c.settled now = { c with run := { c.run with settle := w } } := by
  unfold Channel.settled
  split <;> exact ⟨_, rfl⟩

/-! ### Stages 3 and 5 -/

/-- Below 1 ms, with its guards kept, a step ends by no condition (R136). -/
theorem State.testStep_of_young {n : Fin 256} {s : State} (idx : Nat) (hy : (s.ch n).acc.st < msTicks)
    (hb : brokenGuard ((s.ch n).run.cur.getD []) (s.ch n).meas.loopV (s.ch n).meas.loopI (s.tempOf n) = none) : s.testStep n idx = s := by
  have untested : (s.ch n).tested = [] := by simp [Channel.tested, hy]
  have quiet : s.tInvalid n = s := by simp [State.tInvalid, untested]
  have goes : s.fired n = none := by simp [State.fired, untested, hy]
  simp only [State.testStep, hb, quiet, goes]

theorem State.testStep_of_broken {n : Fin 256} {s : State} {g : Nat} {v : Int} (idx : Nat)
    (hb : brokenGuard ((s.ch n).run.cur.getD []) (s.ch n).meas.loopV (s.ch n).meas.loopI (s.tempOf n) = some (g, v)) :
    s.testStep n idx = (s.holdChannel n).raise 0x0503 ALARM n.val (idx + 2 ^ 16 * g + 2 ^ 32 * p32 v) := by
  simp only [State.testStep, hb]

/-- A hold that is due for a converter without a spare (R93). -/
def State.holdIfDue (n : Fin 256) (due : Bool) (s : State) : State :=
  if due && (s.ch n).state == .running then s.holdChannel n else s

/-- A RUNNING channel that evaluates the sample `x` at TIME cycle `now`: its step and a due hold are those before. -/
theorem Channel.evalRun_taken {c : Channel} (x : LoopSample) (now : Nat) (bus : Int) (hf : cfFixed c.cfg = true) (ho : c.drive.owed = []) :
    (c.take x).Served (((c.take x).settled now).evalRun bus).1 ∧
    (((c.take x).settled now).evalRun bus).1.run.stepRan = (if c.run.trans = none then true else c.run.stepRan) ∧
    ((c.take x).settled now).run.idx = c.run.idx ∧ ((c.take x).settled now).meas.holdDue = c.meas.holdDue := by
  obtain ⟨w, settled⟩ := (c.take x).settled_frame now
  obtain ⟨ran, stepRan⟩ := Channel.evalRun_served (c := (c.take x).settled now) bus (by rw [settled]; exact hf) (by rw [settled]; exact ho)
  refine ⟨ran.of_settled, stepRan.trans ?_, ?_, ?_⟩ <;> rw [settled] <;> rfl

theorem State.evalRunning_stages {n : Fin 256} {s : State} {c : Channel} (hc : (s.ch n).settled s.now = c) :
    s.evalRunning n = (((s.setCh n (c.evalRun (s.grp (groupOf n)).bus).1).arithEvent n (c.evalRun (s.grp (groupOf n)).bus).2
      (stCset (c.run.cur.getD [])) c.run.idx).testStep n c.run.idx).holdIfDue n c.meas.holdDue := by
  rw [State.evalRunning, hc]
  generalize c.evalRun (s.grp (groupOf n)).bus = r
  rfl

theorem State.evalRunning_eq {n : Fin 256} {x : LoopSample} {rest : List (Fin 256 × LoopSample)} {s : State}
    (hf : cfFixed (s.ch n).cfg = true) (ho : (s.ch n).drive.owed = []) :
    ∃ c b, ((s.ch n).take x).Served c ∧ c.run.stepRan = (if (s.ch n).run.trans = none then true else (s.ch n).run.stepRan) ∧
      (s.takeSample n x rest).evalRunning n = ((s.served n rest c b).testStep n (s.ch n).run.idx).holdIfDue n (s.ch n).meas.holdDue := by
  have taken := s.takeSample_ch n rest x
  obtain ⟨ran, stepRan, idx, due⟩ := Channel.evalRun_taken x s.now ((s.takeSample n x rest).grp (groupOf n)).bus hf ho
  have stages := State.evalRunning_stages (s := s.takeSample n x rest) (congrArg (Channel.settled s.now) taken)
  rw [idx, due] at stages
  obtain ⟨a, b, served⟩ := State.arithEvent_served n rest _ s x _ _ _
  exact ⟨_, b, ran.sawArith a, (congrArg Run.stepRan (Channel.sawArith_run a _)).trans stepRan, stages.trans (by rw [served])⟩

/-- The window joins ST and the step's accumulators in RUNNING only (R110, R121). -/
theorem Channel.Served.acc_taken {c d : Channel} {x : LoopSample} {running : Bool} (h : (c.take x).Served d)
    (hr : (c.state == .running) = running) : d.acc = c.acc.add running (loopTicks c.cfg) x.v x.i := by
  subst hr
  exact h.acc

theorem Accs.add_st (dt : Nat) (v i : Int) (a : Accs) : (a.add true dt v i).st = a.st + dt := by
  simp only [Accs.add, if_true]
  omega

/-- What a due hold after the stages leaves of a RUNNING channel. -/
theorem State.holdIfDue_ch_self {n : Fin 256} {s : State} (due : Bool) (h : (s.ch n).state = .running) :
    ((s.holdIfDue n due).ch n).state = (if due = true then .held else .running) ∧ ((s.holdIfDue n due).ch n).acc = (s.ch n).acc ∧
    ((s.holdIfDue n due).ch n).meas.evals = (s.ch n).meas.evals ∧ ((s.holdIfDue n due).ch n).run = (s.ch n).run ∧
    ((s.holdIfDue n due).ch n).loop = (s.ch n).loop ∧ ((s.holdIfDue n due).ch n).drive = (s.ch n).drive := by
  cases due with
  | false => exact ⟨h, rfl, rfl, rfl, rfl, rfl⟩
  | true =>
    have holds : s.holdIfDue n true = s.holdChannel n := by simp [State.holdIfDue, h]
    obtain ⟨state, acc, evals, run, loop, drive, -⟩ := State.holdChannel_ch_self (n := n) (s := s) (by rw [h]; decide)
    rw [holds]
    exact ⟨state, acc, evals, run, loop, drive⟩

theorem State.holdIfDue_of_notRunning {n : Fin 256} {s : State} (due : Bool) (h : (s.ch n).state ≠ .running) : s.holdIfDue n due = s := by
  simp [State.holdIfDue, h]

theorem State.holdIfDue_ch_of_ne {n j : Fin 256} (due : Bool) (s : State) (h : j ≠ n) : (s.holdIfDue n due).ch j = s.ch j := by
  unfold State.holdIfDue
  split
  · exact s.holdChannel_ch_of_ne h
  · rfl

theorem State.holdIfDue_grp (n : Fin 256) (due : Bool) (s : State) (g : Fin 16) : (s.holdIfDue n due).grp g = s.grp g := by
  unfold State.holdIfDue
  split
  · exact s.holdChannel_grp n g
  · rfl

/-! ### TUNE (R121, R125) -/

/-- An evaluation in TUNE without a due hold: stages 1, 2 and 4, and at the end of the injection its estimate is reported. -/
theorem State.evalTuning_stages {n : Fin 256} {s : State} (t : Tune) (hd : (s.ch n).meas.holdDue = false) :
    ∃ b, s.evalTuning n t = { (s.setCh n ((s.ch n).evalTune t (s.grp (groupOf n)).bus).1).arithEvent n
      ((s.ch n).evalTune t (s.grp (groupOf n)).bus).2 (fieldAt t.cmd 0 21 20) (s.ch n).run.idx with blot := b } := by
  rw [State.evalTuning]
  generalize (s.ch n).evalTune t (s.grp (groupOf n)).bus = r
  simp only [hd, Bool.false_eq_true, if_false]
  split
  · split <;> exact ⟨_, rfl⟩
  · exact ⟨_, rfl⟩

theorem State.evalTuning_eq {n : Fin 256} {x : LoopSample} {rest : List (Fin 256 × LoopSample)} {s : State} (u : Tune)
    (hf : cfFixed (s.ch n).cfg = true) (ho : (s.ch n).drive.owed = []) (hd : (s.ch n).meas.holdDue = false) :
    ∃ c b, ((s.ch n).take x).Served c ∧ (∃ y z, c.tune = some (u.advance y z)) ∧
      (s.takeSample n x rest).evalTuning n u = s.served n rest c b := by
  have taken := s.takeSample_ch n rest x
  obtain ⟨ran, y, z, tune⟩ := Channel.evalTune_served (c := (s.ch n).take x) u ((s.takeSample n x rest).grp (groupOf n)).bus hf ho
  obtain ⟨b, stages⟩ := State.evalTuning_stages (s := s.takeSample n x rest) (n := n) u (by rw [taken]; exact hd)
  rw [taken] at stages
  obtain ⟨a, b', served⟩ := State.arithEvent_served n rest ((s.ch n).take x |>.evalTune u ((s.takeSample n x rest).grp (groupOf n)).bus).1 s x
    _ _ _
  refine ⟨_, b, ran.sawArith a, ⟨y, z, (Channel.sawArith_tune a _).trans tune⟩, stages.trans ?_⟩
  rw [served]
  rfl

/-! ### NIB_EVALUATION -/

section
variable {s : State} {n : Fin 256} {k : Fin 20} {x : LoopSample} {rest : List (Fin 256 × LoopSample)}
  (hk : s.servingNib (groupOf n).val = some k) (hx : s.nextSample n = some (x, rest)) (hf : s.rst.flushing = none)
  (hp : s.rst.pfailSeq = false)
include hk hx hf hp

theorem exec_nibEvaluation_running (hs : s.skipsAt n = none) (hr : (s.ch n).state = .running) :
    exec (.nibEvaluation n true) s = .next (((s.takeSample n x rest).evalRunning n).firstWord n) := by
  show execNibEvaluation n true s = _
  simp [execNibEvaluation, hk, hx, hf, hp, hs, hr]

theorem exec_nibEvaluation_tune {u : Tune} (hs : s.skipsAt n = none) (hr : (s.ch n).state = .tune) (hu : (s.ch n).tune = some u) :
    exec (.nibEvaluation n true) s = .next (((s.takeSample n x rest).evalTuning n u).firstWord n) := by
  show execNibEvaluation n true s = _
  simp [execNibEvaluation, hk, hx, hf, hp, hs, hr, hu]

theorem exec_nibEvaluation_skips {h : Handover} (b : Bool) (hs : s.skipsAt n = some h) :
    exec (.nibEvaluation n b) s = .next ((s.passSample n rest).skipEvaluation n h) := by
  show execNibEvaluation n b s = _
  simp [execNibEvaluation, hk, hx, hf, hp, hs]

theorem exec_nibEvaluation_faults (hh : s.nibs.handovers = []) : exec (.nibEvaluation n false) s = .next (s.nibFault k false) := by
  have serves : s.evalNib n = some k := by simp [State.evalNib, hh, hk]
  have goes : s.skipsAt n = none := by simp [State.skipsAt, hh]
  show execNibEvaluation n false s = _
  simp [execNibEvaluation, hk, hx, hf, hp, goes, serves]

/-- A RUNNING channel below 1 ms in its step, its guards kept (R100, R110); a due hold comes after the stages (R93). -/
theorem nibEvaluation_young (hs : s.skipsAt n = none) (hr : (s.ch n).state = .running) (hc : cfFixed (s.ch n).cfg = true)
    (ho : (s.ch n).drive.owed = []) (hb : brokenGuard ((s.ch n).run.cur.getD []) x.v x.i (s.tempOf n) = none)
    (hy : (s.ch n).acc.st + loopTicks (s.ch n).cfg < msTicks) :
    Completes (.nibEvaluation n true) s fun t =>
      (t.ch n).state = (if (s.ch n).meas.holdDue = true then .held else .running) ∧
      (t.ch n).acc = (s.ch n).acc.add true (loopTicks (s.ch n).cfg) x.v x.i ∧
      (t.ch n).meas.evals = (s.ch n).meas.evals + 1 ∧ (t.ch n).run.pos = (s.ch n).run.pos ∧ (t.ch n).run.cur = (s.ch n).run.cur ∧
      (t.ch n).run.stepRan = (if (s.ch n).run.trans = none then true else (s.ch n).run.stepRan) ∧
      (t.ch n).drive.heldWord = packWord 0 (wordOf (s.ch n).cfg (t.ch n).loop.dLast).1 (wordOf (s.ch n).cfg (t.ch n).loop.dLast).2 ∧
      (t.ch n).loop.mirrorV = x.v ∧ (t.ch n).loop.mirrorI = x.i ∧ (t.grp (groupOf n)).accepted = rest ∧
      (∀ j, j ≠ n → t.ch j = s.ch j) ∧ (∀ g, g ≠ groupOf n → t.grp g = s.grp g) ∧
      ((s.ch n).meas.holdDue = false → s.nibs.takeovers = [] →
        { t with
          chan := s.chan
          group := s.group
          blot := s.blot } = s) := by
  obtain ⟨c, b, ran, stepRan, stages⟩ := State.evalRunning_eq (x := x) (rest := rest) hc ho
  let u := s.served n rest c b
  have uc : u.ch n = c := State.served_ch ..
  have acc : c.acc = (s.ch n).acc.add true (loopTicks (s.ch n).cfg) x.v x.i := ran.acc_taken (by rw [hr]; rfl)
  have young : (u.ch n).acc.st < msTicks := by rwa [uc, acc, Accs.add_st]
  have kept : brokenGuard ((u.ch n).run.cur.getD []) (u.ch n).meas.loopV (u.ch n).meas.loopI (u.tempOf n) = none := by
    rw [uc, ran.step.cur, ran.meas]; exact hb
  rw [State.testStep_of_young _ young kept] at stages
  obtain ⟨hst, hacc, hev, hrun, hloop, hdrive⟩ := State.holdIfDue_ch_self (s := u) (s.ch n).meas.holdDue (by rw [uc, ran.state]; exact hr)
  obtain ⟨fst, facc, fmeas, frun, floop, -, fword, -⟩ := (u.holdIfDue n (s.ch n).meas.holdDue).firstWord_ch_self n
  refine ⟨_, (exec_nibEvaluation_running hk hx hf hp hs hr).trans (by rw [stages]), ?_⟩
  beta_reduce
  rw [fst, facc, fmeas, frun, floop, fword, hst, hacc, hev, hrun, hloop, hdrive, uc, State.firstWord_grp, State.holdIfDue_grp]
  refine ⟨rfl, acc, ?_, ran.step.pos, ran.step.cur, stepRan, ran.word, ran.mirrorV, ran.mirrorI, State.served_accepted .., ?_, ?_, ?_⟩
  · rw [ran.meas]; rfl
  · intro j hj
    rw [State.firstWord_ch_of_ne _ hj, State.holdIfDue_ch_of_ne _ _ hj, State.served_ch_of_ne _ _ _ _ hj]
  · intro g hg
    rw [State.firstWord_grp, State.holdIfDue_grp, State.served_grp_of_ne _ _ _ _ hg]
  · intro hd ht
    have undue : u.holdIfDue n (s.ch n).meas.holdDue = u := by rw [hd]; rfl
    rw [undue, State.firstWord_of_noTakeover (s := u) ht]
    exact State.served_frame ..

/-- A RUNNING channel whose sample breaks a guard (R137). -/
theorem nibEvaluation_broken {g : Nat} {v : Int} (hs : s.skipsAt n = none) (hr : (s.ch n).state = .running)
    (hc : cfFixed (s.ch n).cfg = true) (ho : (s.ch n).drive.owed = [])
    (hb : brokenGuard ((s.ch n).run.cur.getD []) x.v x.i (s.tempOf n) = some (g, v)) :
    Completes (.nibEvaluation n true) s fun t =>
      (t.ch n).state = .held ∧ (t.ch n).acc = (s.ch n).acc.add true (loopTicks (s.ch n).cfg) x.v x.i ∧
      (t.ch n).run.pos = (s.ch n).run.pos ∧ (t.ch n).run.cur = (s.ch n).run.cur ∧ (t.ch n).ckptReq ≠ none ∧
      s.event 0x0503 ALARM n.val ((s.ch n).run.idx + 2 ^ 16 * g + 2 ^ 32 * p32 v) ∈ t.blot.raised ∧ (∀ j, j ≠ n → t.ch j = s.ch j) := by
  obtain ⟨c, b, ran, -, stages⟩ := State.evalRunning_eq (x := x) (rest := rest) hc ho
  let u := s.served n rest c b
  have uc : u.ch n = c := State.served_ch ..
  have st : (u.ch n).state = .running := by rw [uc, ran.state]; exact hr
  have broken : brokenGuard ((u.ch n).run.cur.getD []) (u.ch n).meas.loopV (u.ch n).meas.loopI (u.tempOf n) = some (g, v) := by
    rw [uc, ran.step.cur, ran.meas]; exact hb
  let w := (u.holdChannel n).raise 0x0503 ALARM n.val ((s.ch n).run.idx + 2 ^ 16 * g + 2 ^ 32 * p32 v)
  obtain ⟨hst, hacc, -, hrun, -, -, hreq⟩ := State.holdChannel_ch_self (n := n) (s := u) (by rw [st]; decide)
  have stays : w.holdIfDue n (s.ch n).meas.holdDue = w := State.holdIfDue_of_notRunning _ (by
    rw [State.raise_ch, hst]; decide)
  rw [State.testStep_of_broken _ broken, stays] at stages
  obtain ⟨fst, facc, -, frun, -, -, -, freq⟩ := w.firstWord_ch_self n
  refine ⟨_, (exec_nibEvaluation_running hk hx hf hp hs hr).trans (by rw [stages]), ?_⟩
  beta_reduce
  rw [fst, facc, frun, State.raise_ch, hst, hacc, hrun, uc]
  refine ⟨rfl, ran.acc_taken (by rw [hr]; rfl), ran.step.pos, ran.step.cur, freq hreq, ?_, fun j hj => ?_⟩
  · refine (w.firstWord_reports n).mem (List.mem_append_right _ (List.mem_singleton.mpr ?_))
    simp [State.event, State.holdChannel, u, State.served_tb]
  · rw [State.firstWord_ch_of_ne _ hj, State.raise_ch, State.holdChannel_ch_of_ne _ hj, State.served_ch_of_ne _ _ _ _ hj]

/-- A channel in TUNE (R121): ST stands still and the injection goes on. -/
theorem nibEvaluation_tunes {u : Tune} (hs : s.skipsAt n = none) (hr : (s.ch n).state = .tune) (hu : (s.ch n).tune = some u)
    (hd : (s.ch n).meas.holdDue = false) (hc : cfFixed (s.ch n).cfg = true) (ho : (s.ch n).drive.owed = []) :
    Completes (.nibEvaluation n true) s fun t =>
      (t.ch n).state = .tune ∧ (t.ch n).acc.st = (s.ch n).acc.st ∧ (t.ch n).acc.stepQ = (s.ch n).acc.stepQ ∧
      (t.ch n).acc = (s.ch n).acc.add false (loopTicks (s.ch n).cfg) x.v x.i ∧
      (∃ a b, (t.ch n).tune = some (u.advance a b)) ∧ (t.grp (groupOf n)).accepted = rest ∧ (∀ j, j ≠ n → t.ch j = s.ch j) := by
  obtain ⟨c, b, ran, tune, stages⟩ := State.evalTuning_eq (x := x) (rest := rest) u hc ho hd
  obtain ⟨fst, facc, -, -, -, ftune, -, -⟩ := (s.served n rest c b).firstWord_ch_self n
  have acc : c.acc = (s.ch n).acc.add false (loopTicks (s.ch n).cfg) x.v x.i := ran.acc_taken (by rw [hr]; rfl)
  refine ⟨_, (exec_nibEvaluation_tune hk hx hf hp hs hr hu).trans (by rw [stages]), ?_⟩
  beta_reduce
  rw [fst, facc, ftune, State.served_ch, acc, State.firstWord_grp, State.served_accepted]
  refine ⟨ran.state.trans hr, rfl, rfl, rfl, tune, rfl, fun j hj => ?_⟩
  rw [State.firstWord_ch_of_ne _ hj, State.served_ch_of_ne _ _ _ _ hj]

/-- The evaluation that a handover skips commits nothing (R213). -/
theorem nibEvaluation_skips {h : Handover} (b : Bool) (hs : s.skipsAt n = some h) :
    Completes (.nibEvaluation n b) s fun t =>
      { t.ch n with drive := (s.ch n).drive } = s.ch n ∧ (t.ch n).drive.heldWord = (s.ch n).drive.heldWord ∧
      (t.ch n).drive.overrun = (s.ch n).drive.overrun ∧ (t.grp (groupOf n)).accepted = rest ∧ (∀ j, j ≠ n → t.ch j = s.ch j) := by
  obtain ⟨chan, group⟩ := (s.passSample n rest).skipEvaluation_leavesChannels n h
  have ch : ∀ j, ((s.passSample n rest).skipEvaluation n h).ch j = ((s.passSample n rest).updCh n Channel.dropFlight).ch j :=
    fun j => congrArg (vget · j) chan
  have grp : ((s.passSample n rest).skipEvaluation n h).grp (groupOf n) = (s.passSample n rest).grp (groupOf n) :=
    congrArg (vget · (groupOf n)) group
  refine ⟨_, exec_nibEvaluation_skips hk hx hf hp b hs, ?_⟩
  beta_reduce
  rw [ch, grp, State.updCh_ch, State.passSample_ch, State.passSample_accepted]
  refine ⟨rfl, rfl, rfl, rfl, fun j hj => ?_⟩
  rw [ch, State.updCh_ch_of_ne _ _ hj.symm, State.passSample_ch]

end

theorem exec_nibEvaluation_noSample {s : State} {n : Fin 256} (b : Bool) (h : s.nextSample n = none) :
    exec (.nibEvaluation n b) s = .next s := by
  show execNibEvaluation n b s = _
  simp [execNibEvaluation, h]

end Sys2Proof.Machine

namespace Sys2Proof

open Sys2Proof.Machine Sys2Proof.Safety

/-- Settles O37: each clause is the lemma of its case above. -/
theorem nibEvaluationCompletes : Obligations.NibEvaluationCompletes := by
  unfold Obligations.NibEvaluationCompletes
  exact ⟨fun _ _ _ _ _ hk hx hs hr hf hp hc ho hb hy => nibEvaluation_young hk hx hf hp hs hr hc ho hb hy,
    fun _ _ _ _ _ _ _ hk hx hs hr hf hp hc ho hb => nibEvaluation_broken hk hx hf hp hs hr hc ho hb,
    fun _ _ _ _ _ _ hk hx hs hr hu hf hp hd hc ho => nibEvaluation_tunes hk hx hf hp hs hr hu hd hc ho,
    fun _ _ _ _ hk hx hh hf hp => exec_nibEvaluation_faults hk hx hf hp hh,
    fun _ _ _ _ _ _ b hk hx hs hf hp => nibEvaluation_skips hk hx hf hp b hs,
    fun _ _ b h => exec_nibEvaluation_noSample b h⟩

end Sys2Proof
end

section
/-! PROOF. A change of a channel's state: its checkpoint, its slot and its frame (R156, R192), and O24. -/

namespace Sys2Proof.Machine

open Sys2Proof.Safety

/-! ### The checkpoint's first word (R195) -/

theorem ChState.code_lt (st : ChState) : st.code < 16 := by cases st <;> decide

/-- STATE and CAUSE of a checkpoint. -/
theorem State.ckptWords_state_cause {n : Fin 256} {s : State} {cause : Nat} (h : cause < 16) :
    fieldAt (s.ckptWords n cause) 0 31 28 = (s.ch n).state.code ∧ fieldAt (s.ckptWords n cause) 0 27 24 = cause := by
  obtain ⟨low, small, eq⟩ : ∃ low < 2 ^ 24, wordAt (s.ckptWords n cause) 0 = w32 ((s.ch n).state.code * 2 ^ 28 + cause * 2 ^ 24 + low) := by
    refine ⟨b2n (s.ch n).run.trans.isSome * 2 ^ 23 + b2n (s.ch n).run.runValid * 2 ^ 22 + (cfSlot (s.ch n).cfg).val * 2 ^ 12 +
      (s.ch n).run.pos % 4096, ?_, ?_⟩
    · have flag : ∀ b, b2n b ≤ 1 := fun b => by cases b <;> decide
      have := flag (s.ch n).run.trans.isSome
      have := flag (s.ch n).run.runValid
      have := (cfSlot (s.ch n).cfg).isLt
      omega
    · simp only [← Nat.add_assoc]; rfl
  have code := (s.ch n).state.code_lt
  simp only [fieldAt, eq, bits, w32, BitVec.toNat_ofNat]
  omega

/-! ### What else changes (R131, R165, R225, R249) -/

/-- `t` is `s` but for the channels, the slots, the Pounce units, the records, the events and what the mailboxes hold. -/
def OnlyFollows (s t : State) : Prop :=
  ∃ c k p i b m, t = { s with
    chan := c
    slot := k
    pounce := p
    ink := i
    blot := b
    host := { s.host with mb := m } }

theorem OnlyFollows.refl (s : State) : OnlyFollows s s := ⟨_, _, _, _, _, _, rfl⟩

theorem OnlyFollows.trans {s t u : State} : OnlyFollows s t → OnlyFollows t u → OnlyFollows s u := by
  rintro ⟨c, k, p, i, b, m, rfl⟩ ⟨c', k', p', i', b', m', rfl⟩
  exact ⟨c', k', p', i', b', m', rfl⟩

theorem State.record_onlyFollows (r : Rec) (s : State) : OnlyFollows s (s.record r) := by
  unfold State.record
  split <;> exact ⟨_, _, _, _, _, _, rfl⟩

theorem State.rewrite_onlyFollows (n : Fin 256) (old new : Bool) (s : State) : OnlyFollows s (s.rewrite n old new) := by
  unfold State.rewrite
  split
  · exact (s.record_onlyFollows _).trans ⟨_, _, _, _, _, _, rfl⟩
  · split <;> exact ⟨_, _, _, _, _, _, rfl⟩

theorem State.setSlot_onlyFollows (k : Fin 1024) (st : SlotState) (s : State) : OnlyFollows s (s.setSlot k st) := by
  unfold State.setSlot
  split <;> exact ⟨_, _, _, _, _, _, rfl⟩

theorem State.refreshSlot_onlyFollows (k : Fin 1024) (s : State) : OnlyFollows s (s.refreshSlot k) := by
  unfold State.refreshSlot
  split
  · exact s.setSlot_onlyFollows k _
  · exact .refl s

theorem State.toState_onlyFollows (n : Fin 256) (st : ChState) (s : State) : OnlyFollows s (s.toState n st) := by
  unfold State.toState
  split
  · exact .refl s
  next changes =>
    refine OnlyFollows.trans ?_ (⟨_, _, _, _, _, _, rfl⟩ : OnlyFollows (s.become n st) _)
    rw [State.become]
    simp only [changes, if_false]
    have told : OnlyFollows s ((s.updCh n (Channel.enter st (s.tempOf n) (s.grp (groupOf n)).bus)).tellUnits n (s.ch n).state st) :=
      ⟨_, _, _, _, _, _, rfl⟩
    split
    · exact told.trans (State.rewrite_onlyFollows ..)
    · exact (told.trans (State.rewrite_onlyFollows ..)).trans (State.refreshSlot_onlyFollows ..)

/-! ### The slots -/

theorem State.setSlot_slotOf_of_ne {k j : Fin 1024} (st : SlotState) (s : State) (h : j ≠ k) : (s.setSlot k st).slotOf j = s.slotOf j := by
  unfold State.setSlot
  split
  · rfl
  · exact vget_vset_of_ne _ _ h.symm

theorem State.refreshSlot_slotOf_of_ne {k j : Fin 1024} (s : State) (h : j ≠ k) : (s.refreshSlot k).slotOf j = s.slotOf j := by
  unfold State.refreshSlot
  split
  · exact State.setSlot_slotOf_of_ne _ s h
  · rfl

/-- Of the slots only the channel's own may change (R131). -/
theorem State.toState_slotOf_of_ne {n : Fin 256} {k : Fin 1024} (st : ChState) (s : State) (h : k ≠ cfSlot (s.ch n).cfg) :
    (s.toState n st).slotOf k = s.slotOf k := by
  unfold State.toState
  split
  · rfl
  next changes =>
    rw [State.ckpt_slotOf, State.become]
    simp only [changes, if_false]
    split
    · simp
    · rw [State.refreshSlot_slotOf_of_ne _ h]; simp

/-- The checkpoint that a change of state requests carries the new state, with cause STATE (R192). -/
theorem State.toState_ckptReq {n : Fin 256} {st : ChState} {s : State} (h : (s.ch n).state ≠ st) :
    ∃ w, ((s.toState n st).ch n).ckptReq = some w ∧ fieldAt w 0 31 28 = st.code ∧ fieldAt w 0 27 24 = 2 := by
  obtain ⟨m, become⟩ := s.become_ch_self n st
  obtain ⟨state, cause⟩ := State.ckptWords_state_cause (n := n) (s := s.become n st) (cause := 2) (by decide)
  rw [become] at state
  obtain ⟨m', e⟩ := s.toState_ch_self n st h
  exact ⟨_, by rw [e], state, cause⟩

end Sys2Proof.Machine

namespace Sys2Proof

open Sys2Proof.Machine

/-- Settles O24: the channel itself as `State.toState_ch_self` says, the rest by the frame of each step of `State.toState`. -/
theorem channelStateChange : Obligations.ChannelStateChange := by
  unfold Obligations.ChannelStateChange
  intro s n st h
  refine ⟨State.toState_state n st s, State.toState_ckptReq h, ?_, fun j hj => State.toState_ch_of_ne st s j hj,
    fun k hk => State.toState_slotOf_of_ne st s hk, ?_⟩
  · obtain ⟨m, e⟩ := s.toState_ch_self n st h
    rw [e]
  · obtain ⟨c, k, p, i, b, m, e⟩ := s.toState_onlyFollows n st
    rw [e]

end Sys2Proof
end

section
/-! PROOF. What the run commands share: the items they post (R161, R172), the records a change of state leaves (R155, R249), the entry into
RUNNING (R101, R160) and the end of a run. -/

namespace Sys2Proof.Machine

open Sys2Proof.Safety

/-! ### Posted items (R161, R172, R182) -/

/-- What a post fixes of an item: its work, flow, target, priority and producer (R172). -/
def Item.SamePost (it j : Item) : Prop :=
  j.work = it.work ∧ j.flow = it.flow ∧ j.target = it.target ∧ j.prio = it.prio ∧ j.producer = it.producer

/-- The head of a flow becomes READY: no item leaves, and none becomes another's post. -/
theorem Quire.promote_keeps {q : Quire} {it : Item} (flow : Nat) (h : it ∈ q.items) : ∃ j ∈ (q.promote flow).items, it.SamePost j := by
  have kept : ∃ j ∈ q.items, it.SamePost j := ⟨it, h, rfl, rfl, rfl, rfl, rfl⟩
  unfold Quire.promote
  split
  next head _ =>
    split
    · refine ⟨_, List.mem_map_of_mem h, ?_⟩
      split <;> exact ⟨rfl, rfl, rfl, rfl, rfl⟩
    · exact kept
  · exact kept

theorem Quire.acknowledge_keeps (it : Item) (delay now : Nat) (q : Quire) : ∃ j ∈ (q.acknowledge it delay now).items, it.SamePost j := by
  let acknowledged : Item := { it with
    handle := q.newHandle
    due := q.tick now + delay
    late := decide (0 < delay)
    state := if delay = 0 then .waiting else .delayed }
  exact Quire.promote_keeps (it := acknowledged) it.flow (List.mem_append_right _ (List.mem_singleton_self _))

/-- A held post that is no Nib's waits behind the items (R182). -/
theorem Quire.buffer_mem {it : Item} (q : Quire) (h : it.work.channel = none) : it ∈ (q.buffer it).items := by
  rw [Quire.buffer, h]
  exact List.mem_append_right _ (List.mem_singleton_self _)

/-- An item that a producer posts is in the Quire, with a table entry or held (R182). -/
theorem State.post_mem (flow : Nat) (tgt : QTarget) (prio : Nat) {w : Work} (p : Producer) (s : State) (hw : w.channel = none) :
    ∃ it ∈ (s.post flow tgt prio w 0 p).quire.items,
      it.work = w ∧ it.flow = flow ∧ it.target = tgt ∧ it.prio = prio ∧ it.producer = p := by
  unfold State.post
  dsimp only
  split
  · exact Quire.acknowledge_keeps _ 0 s.now _
  · split
    · simp [Work.channel] at hw
    · simp [Work.channel] at hw
    · split <;> exact ⟨_, Quire.buffer_mem _ hw, rfl, rfl, rfl, rfl, rfl⟩

/-- A granted channel command that posts within its quota does its own part on its channel (R183, R346). -/
theorem chanHdr_run_posting {op len a : Nat} {items : MbCmd → State → Nat} {f : Fin 256 → State → Verdict} {m : MbCmd} {s : State}
    {n : Fin 256} (hg : Granted op a m s) (ht : m.target = chTarget n) (hl : m.length = BitVec.ofNat 16 len) (hlen : len < 65536)
    (hq : items m (s.takeOff op m) ≤ (s.takeOff op m).quire.quotaFree m.mb) :
    ({ chanHdr op len a with items := items } : Hdr).run (chanVerdict f) m s =
      ({ chanHdr op len a with items := items } : Hdr).conclude m (s.takeOff op m) (f n (s.takeOff op m)) := by
  have own : chanVerdict f m (s.takeOff op m) = f n (s.takeOff op m) := by simp only [chanVerdict, ht, tgtOf_chTarget]
  refine (Hdr.run_granted hg (lenIs_of hl hlen) (Hdr.targetOk_ch ht rfl) hq).trans (congrArg _ own)

/-- What a command leaves that posts a load item and holds its mailbox (R161, R362). -/
theorem State.postLoad_holds (op : Nat) (m : MbCmd) (n : Fin 256) (target : Nat) (s : State) :
    let t := ((s.takeOff op m).postLoad n target m).updMb m.mb fun b => { b with working := b.working + 1 }
    (∃ it ∈ t.quire.items, it.work = .load n target m ∧ it.flow = n.val ∧ it.target = .ductus ∧ it.prio = 2 ∧ it.producer = .mailbox m.mb) ∧
    (t.mbox m.mb).working = (s.mbox m.mb).working + 1 ∧ (t.mbox m.mb).done = (s.mbox m.mb).done ∧ t.chan = s.chan ∧ t.slot = s.slot := by
  refine ⟨State.post_mem n.val .ductus 2 (.mailbox m.mb) (s.takeOff op m) rfl, ?_, ?_, ?_, ?_⟩ <;> simp [State.postLoad]

/-! ### Records (R249, R260) -/

/-- A record that is handed in waits in its buffer, or with that full a SYSTEM record tells of it. -/
theorem State.record_waiting (r : Rec) (s : State) : ∃ x, (s.record r).ink.waiting = s.ink.waiting ++ [x] ∧ (x = r ∨ x.typ = tSYSTEM) := by
  unfold State.record
  split
  · exact ⟨_, rfl, .inr rfl⟩
  · exact ⟨r, rfl, .inl rfl⟩

/-- A change of state adds no STEP record, and loses none that waits. -/
theorem State.toState_waiting (n : Fin 256) (st : ChState) (s : State) :
    ∃ l, (s.toState n st).ink.waiting = s.ink.waiting ++ l ∧ ∀ r ∈ l, r.typ ≠ tSTEP := by
  have none_ : ∃ l, s.ink.waiting = s.ink.waiting ++ l ∧ ∀ r ∈ l, r.typ ≠ tSTEP := ⟨[], (List.append_nil _).symm, by simp⟩
  have rewrite (old new : Bool) (u : State) (hu : u.ink = s.ink) :
      ∃ l, (u.rewrite n old new).ink.waiting = s.ink.waiting ++ l ∧ ∀ r ∈ l, r.typ ≠ tSTEP := by
    rw [State.rewrite]
    split
    · obtain ⟨x, hx, kind⟩ := u.record_waiting (u.periodicRec n u.tb.time true)
      refine ⟨[x], by rw [← hu]; exact hx, fun r hr => ?_⟩
      rw [List.mem_singleton.mp hr]
      rcases kind with rfl | h
      · exact (by decide : tPERIODIC ≠ tSTEP)
      · rw [h]; decide
    · split <;> exact hu ▸ none_
  unfold State.toState
  split
  · exact none_
  next changes =>
    rw [State.ckpt_ink, State.become]
    simp only [changes, if_false]
    split
    · exact rewrite _ _ _ rfl
    · rw [State.refreshSlot_ink]; exact rewrite _ _ _ rfl

/-! ### The entry into RUNNING (R101, R160, R204) -/

theorem State.enterRun_ch_self (n : Fin 256) (settle : Nat) (s : State) :
    ((s.enterRun n settle).ch n).state = .running ∧ ((s.enterRun n settle).ch n).acc = (s.ch n).acc ∧
    ((s.enterRun n settle).ch n).drive.first = true ∧ ((s.enterRun n settle).ch n).run.startAt = none ∧
    ((s.enterRun n settle).ch n).run.pos = (s.ch n).run.pos ∧ ((s.enterRun n settle).ch n).run.cur = (s.ch n).run.cur ∧
    ((s.enterRun n settle).ch n).run.syncTime = (s.ch n).run.syncTime ∧
    ((s.enterRun n settle).ch n).run.settle = if settle = 0 then 0 else s.now + 250000 * settle := by
  simp [State.enterRun, State.enterLoop, State.dropSamples]

theorem State.enterRun_ch_of_ne {n j : Fin 256} (settle : Nat) (s : State) (h : j ≠ n) : (s.enterRun n settle).ch j = s.ch j := by
  rw [State.enterRun, State.toState_ch_of_ne _ _ _ h, State.updCh_ch_of_ne _ _ h.symm, State.enterLoop_ch_of_ne _ _ _ h]

/-- It may spoil an RCP_VERIFY, and leaves the mailboxes otherwise (R165). -/
theorem State.enterRun_mbox (n : Fin 256) (settle : Nat) (s : State) (k : Fin 8) :
    ∃ v, (s.enterRun n settle).mbox k = { s.mbox k with verify := v } := State.toState_mbox ..

/-- An event raised now reads the same after a change of state. -/
@[simp] theorem State.toState_event (n : Fin 256) (st : ChState) (s : State) (c v r p : Nat) :
    (s.toState n st).event c v r p = s.event c v r p := by
  simp [State.event]

@[simp] theorem State.enterRun_event (n : Fin 256) (k : Nat) (s : State) (c v r p : Nat) :
    (s.enterRun n k).event c v r p = s.event c v r p := by
  simp [State.event]

end Sys2Proof.Machine
end

section
/-! PROOF. CH_ARM, CH_STEP_JUMP, CH_START, a start in time, CH_HOLD, CH_ABORT and CH_RESUME (R157 to R162), and O32. -/

namespace Sys2Proof.Machine

open Sys2Proof.Safety

/-! ### The taking of a command leaves what the run commands check -/

@[simp] theorem State.takeOff_restoredCheck (op : Nat) (m : MbCmd) (s : State) (n : Fin 256) :
    (s.takeOff op m).restoredCheck n = s.restoredCheck n := by
  obtain ⟨_, _, _, h⟩ := s.takeOff_cases op m
  rw [h]; rfl

@[simp] theorem State.takeOff_channelLock (op : Nat) (m : MbCmd) (s : State) (n : Fin 256) :
    (s.takeOff op m).channelLock n = s.channelLock n := by
  obtain ⟨_, _, _, h⟩ := s.takeOff_cases op m
  rw [h]; rfl

@[simp] theorem State.takeOff_needsSync (op : Nat) (m : MbCmd) (s : State) (n : Fin 256) (given : Bool) :
    (s.takeOff op m).needsSync n given = s.needsSync n given := by
  obtain ⟨_, _, _, h⟩ := s.takeOff_cases op m
  rw [h]; rfl

@[simp] theorem State.takeOff_resumeCheck (op : Nat) (m : MbCmd) (s : State) (n : Fin 256) (given : Bool) :
    (s.takeOff op m).resumeCheck n given = s.resumeCheck n given := by
  obtain ⟨_, _, _, h⟩ := s.takeOff_cases op m
  rw [h]; rfl

/-! ### CH_ARM and CH_STEP_JUMP (R157, R161) -/

theorem chArm_posts {m : MbCmd} {s : State} {n : Fin 256} (hg : Granted 0x0301 1 m s) (ht : m.target = chTarget n) (hl : m.length = 16)
    (hc : (s.ch n).calRun = none) (hs : (s.ch n).state = .configured ∨ (s.ch n).state = .done) (hr : s.restoredCheck n = none)
    (hk : (s.slotOf (cfSlot (s.ch n).cfg)).ok = true) (hq : 1 ≤ (s.takeOff 0x0301 m).quire.quotaFree m.mb) :
    Completes (.chArm m) s fun t =>
      (∃ it ∈ t.quire.items, it.work = .load n 0 m ∧ it.flow = n.val ∧ it.target = .ductus ∧ it.prio = 2 ∧ it.producer = .mailbox m.mb) ∧
      (t.mbox m.mb).working = (s.mbox m.mb).working + 1 ∧ (t.mbox m.mb).done = (s.mbox m.mb).done ∧ t.chan = s.chan ∧ t.slot = s.slot := by
  let u := s.takeOff 0x0301 m
  have legal : u.chanCheck n (fun st => st == .configured || st == .done) = none :=
    State.chanCheck_of_legal (by simpa [u] using hc) (by rcases hs with h | h <;> simp [u, h])
  have holds : u.arm m n = .hold (u.postLoad n 0 m) := by
    simp [State.arm, legal, orElse, u, hr, hk]
  exact ⟨_, congrArg Host.Outcome.next ((chanHdr_run_posting hg ht hl (by decide) hq).trans (congrArg _ holds)),
    State.postLoad_holds 0x0301 m n 0 s⟩

theorem chStepJump_posts {m : MbCmd} {s : State} {n : Fin 256} {k : Nat} (hg : Granted 0x0306 1 m s) (ht : m.target = chTarget n)
    (hl : m.length = 20) (hc : (s.ch n).calRun = none) (hs : (s.ch n).state = .armed ∨ (s.ch n).state = .held)
    (hr : NoReserved m [(0, 0xFFFF0000)]) (hf : fieldAt m.params 0 15 0 = k) (hk : k < (s.slotOf (cfSlot (s.ch n).cfg)).total)
    (hq : 1 ≤ (s.takeOff 0x0306 m).quire.quotaFree m.mb) :
    Completes (.chStepJump m) s fun t =>
      (∃ it ∈ t.quire.items, it.work = .load n k m ∧ it.flow = n.val ∧ it.target = .ductus ∧ it.prio = 2) ∧
      (t.mbox m.mb).working = (s.mbox m.mb).working + 1 ∧ t.chan = s.chan ∧ t.slot = s.slot := by
  let u := s.takeOff 0x0306 m
  have legal : u.chanCheck n (fun st => st == .armed || st == .held) = none :=
    State.chanCheck_of_legal (by simpa [u] using hc) (by rcases hs with h | h <;> simp [u, h])
  have holds : u.stepJump m n = .hold (u.postLoad n k m) := by
    have inside : ¬ (u.slotOf (cfSlot (u.ch n).cfg)).total ≤ k := by simpa [u] using hk
    simp only [State.stepJump, legal, orElse, reserved_none hr, hf, if_neg inside]
  obtain ⟨⟨it, mem, work, flow, target, prio, -⟩, working, -, chan, slot⟩ := State.postLoad_holds 0x0306 m n k s
  exact ⟨_, congrArg Host.Outcome.next ((chanHdr_run_posting hg ht hl (by decide) hq).trans (congrArg _ holds)),
    ⟨it, mem, work, flow, target, prio⟩, working, chan, slot⟩

/-! ### CH_START (R158 to R160) -/

/-- A start takes its run accumulators and SYNC_TIME at the command. -/
def Channel.begin (sync : Option Nat) (c : Channel) : Channel :=
  { c with
    acc := c.acc.freshRun
    run := { c.run with syncTime := sync } }

/-- SYNC_TIME of a CH_START. -/
def startSync (m : MbCmd) : Option Nat := if bitAt m.params 0 1 = true then some (natAt64 m.params 0xC) else none

/-- CH_START past its checks: at once, or with its time in the future. -/
theorem State.start_passes {m : MbCmd} {s : State} {n : Fin 256} (hc : (s.ch n).calRun = none) (hs : (s.ch n).state = .armed)
    (ha : (s.ch n).run.startAt = none) (hr : NoReserved m [(0, 0xFFFFFFFC)]) (hk : s.channelLock n = none)
    (hy : s.needsSync n (bitAt m.params 0 1) = none) :
    s.start m n =
      let s1 := s.updCh n (Channel.begin (startSync m))
      if !bitAt m.params 0 0 then .done (s1.startRun n) 0 []
      else if natAt64 m.params 4 ≤ s.tb.time then
        .accepted ((s1.startRun n).raise 0x0508 INFO n.val (natAt64 m.params 4)) ((s1.startRun n).ch n).state.code []
      else .accepted (s1.updCh n fun c => { c with run := { c.run with startAt := some (natAt64 m.params 4) } }) ChState.armed.code [] := by
  have legal : s.chanCheck n (fun st => st == .armed && (s.ch n).run.startAt.isNone) = none :=
    State.chanCheck_of_legal hc (by rw [hs, ha]; rfl)
  simp only [State.start, legal, orElse, reserved_none hr, hk, hy, safetyRefusal, Option.map_none]
  rfl

theorem State.startRun_of_step {s : State} {n : Fin 256} {e : Block} (h : (s.ch n).run.cur = some e) : s.startRun n = s.enterRun n 0 := by
  simp only [State.startRun, h]

theorem chStart_runs {m : MbCmd} {s : State} {n : Fin 256} {e : Block} (hg : Granted 0x0302 1 m s) (ht : m.target = chTarget n)
    (hl : m.length = 36) (hc : (s.ch n).calRun = none) (hs : (s.ch n).state = .armed) (ha : (s.ch n).run.startAt = none)
    (hr : NoReserved m [(0, 0xFFFFFFFC)]) (hk : s.channelLock n = none) (hy : s.needsSync n (bitAt m.params 0 1) = none)
    (hat : bitAt m.params 0 0 = false) (he : (s.ch n).run.cur = some e) :
    Completes (.chStart m) s fun t =>
      (t.ch n).state = .running ∧ (t.ch n).acc = (s.ch n).acc.freshRun ∧ (t.ch n).run.pos = (s.ch n).run.pos ∧ (t.ch n).run.cur = some e ∧
      (t.ch n).run.syncTime = (if bitAt m.params 0 1 = true then some (natAt64 m.params 0xC) else none) ∧
      (t.ch n).drive.first = true ∧ (∀ j, j ≠ n → t.ch j = s.ch j) ∧
      ((s.mbox m.mb).discard = 0 → (t.mbox m.mb).done = (s.mbox m.mb).done ++ [okAnswer m 3 0 []]) := by
  let u := s.takeOff 0x0302 m
  let v := u.updCh n (Channel.begin (startSync m))
  have begun : v.ch n = (s.ch n).begin (startSync m) := by simp [v, u]
  have starts : u.start m n = .done (v.enterRun n 0) 0 [] := by
    rw [State.start_passes (s := u) (by simpa [u] using hc) (by simpa [u] using hs) (by simpa [u] using ha) hr (by simpa [u] using hk)
      (by simpa [u] using hy), hat]
    exact congrArg (Verdict.done · 0 []) (State.startRun_of_step (e := e) (by rw [begun]; exact he))
  obtain ⟨state, acc, first, -, pos, cur, sync, -⟩ := v.enterRun_ch_self n 0
  refine ⟨_, congrArg Host.Outcome.next ((chanHdr_run hg ht hl (by decide)).trans (congrArg _ starts)), ?_⟩
  rw [Hdr.conclude_done, chanHdr_stateCode _ ht (by decide), state]
  simp only [State.respond_ch, State.passItems_ch, state, acc, first, pos, cur, sync, begun]
  refine ⟨trivial, rfl, rfl, he, rfl, trivial, fun j hj => ?_, State.answered_done _ (State.enterRun_mbox n 0 v m.mb)⟩
  rw [State.enterRun_ch_of_ne _ _ hj, State.updCh_ch_of_ne _ _ hj.symm, State.takeOff_ch]

theorem chStart_waits {m : MbCmd} {s : State} {n : Fin 256} (hg : Granted 0x0302 1 m s) (ht : m.target = chTarget n)
    (hl : m.length = 36) (hc : (s.ch n).calRun = none) (hs : (s.ch n).state = .armed) (ha : (s.ch n).run.startAt = none)
    (hr : NoReserved m [(0, 0xFFFFFFFC)]) (hk : s.channelLock n = none) (hy : s.needsSync n (bitAt m.params 0 1) = none)
    (hat : bitAt m.params 0 0 = true) (hf : s.tb.time < natAt64 m.params 4) :
    CompletesBy (.chStart m) 0x0302 m s (fun t => t.updCh n fun c => { c with
      acc := c.acc.freshRun
      run := { c.run with
        syncTime := if bitAt m.params 0 1 = true then some (natAt64 m.params 0xC) else none
        startAt := some (natAt64 m.params 4) } }) 2 0 [] := by
  let u := s.takeOff 0x0302 m
  have future : ¬ natAt64 m.params 4 ≤ u.tb.time := by simpa [u] using hf
  have waits : u.start m n = .accepted ((u.updCh n (Channel.begin (startSync m))).updCh n fun c => { c with
      run := { c.run with startAt := some (natAt64 m.params 4) } }) ChState.armed.code [] := by
    rw [State.start_passes (s := u) (by simpa [u] using hc) (by simpa [u] using hs) (by simpa [u] using ha) hr (by simpa [u] using hk)
      (by simpa [u] using hy), hat]
    exact if_neg future
  refine congrArg Host.Outcome.next ((chanHdr_run hg ht hl (by decide)).trans ((congrArg _ waits).trans ?_))
  rw [Hdr.conclude_accepted, State.updCh_updCh]
  rfl

/-! ### A start in time (R160) -/

theorem exec_startAtReached {s : State} {n : Fin 256} {u : Nat} (hs : (s.ch n).state = .armed) (ha : (s.ch n).run.startAt = some u) :
    exec (.startAtReached n) s = .next (if u ≤ s.tb.time then (s.startRun n).raise 0x0508 INFO n.val u else s) := by
  show execStartAtReached n s = _
  simp only [execStartAtReached, hs, ha]

theorem startAtReached_early {s : State} {n : Fin 256} {u : Nat} (hs : (s.ch n).state = .armed) (ha : (s.ch n).run.startAt = some u)
    (h : s.tb.time < u) : exec (.startAtReached n) s = .next s := by
  rw [exec_startAtReached hs ha, if_neg (Nat.not_le.mpr h)]

theorem exec_startAtReached_due {s : State} {n : Fin 256} {u : Nat} (hs : (s.ch n).state = .armed) (ha : (s.ch n).run.startAt = some u)
    (h : u ≤ s.tb.time) : exec (.startAtReached n) s = .next ((s.startRun n).raise 0x0508 INFO n.val u) := by
  rw [exec_startAtReached hs ha, if_pos h]

theorem startAtReached_runs {s : State} {n : Fin 256} {u : Nat} {e : Block} (hs : (s.ch n).state = .armed)
    (ha : (s.ch n).run.startAt = some u) (h : u ≤ s.tb.time) (he : (s.ch n).run.cur = some e) :
    Completes (.startAtReached n) s fun t =>
      (t.ch n).state = .running ∧ (t.ch n).run.startAt = none ∧ (t.ch n).run.cur = some e ∧ (∀ j, j ≠ n → t.ch j = s.ch j) ∧
      (∃ w, t.blot.raised = w ++ [s.event 0x0508 INFO n.val u]) := by
  obtain ⟨state, -, -, start, -, cur, -, -⟩ := s.enterRun_ch_self n 0
  refine ⟨_, exec_startAtReached_due hs ha h, ?_⟩
  rw [State.startRun_of_step he]
  exact ⟨state, start, cur.trans he, fun j hj => State.enterRun_ch_of_ne 0 s hj, _, by rw [State.raise_raised, State.enterRun_event]⟩

/-- The channel has no start pending any more. -/
def Channel.dropStart (c : Channel) : Channel := { c with run := { c.run with startAt := none } }

theorem State.startRun_of_end {s : State} {n : Fin 256} (h : (s.ch n).run.cur = none) :
    s.startRun n = ((s.updCh n Channel.dropStart).toState n .done).doneEvent n (s.ch n).run.pos 0 := by
  simp only [State.startRun, h]
  rfl

/-- Step 0 resolved to END: the run ends at once, without a STEP record (R155, R157). -/
theorem startAtReached_ends {s : State} {n : Fin 256} {u : Nat} (hs : (s.ch n).state = .armed) (ha : (s.ch n).run.startAt = some u)
    (h : u ≤ s.tb.time) (he : (s.ch n).run.cur = none) :
    Completes (.startAtReached n) s fun t =>
      (t.ch n).state = .done ∧ s.event 0x0506 INFO n.val ((s.ch n).run.pos % 65536) ∈ t.blot.raised ∧
      (∀ r ∈ t.ink.waiting, r.typ = tSTEP → r ∈ s.ink.waiting) := by
  obtain ⟨l, waiting, noStep⟩ := State.toState_waiting n .done (s.updCh n Channel.dropStart)
  refine ⟨_, exec_startAtReached_due hs ha h, ?_⟩
  rw [State.startRun_of_end he]
  refine ⟨State.toState_state .., ?_, fun r hr step => ?_⟩
  · simp [State.doneEvent, State.event]
  · rcases List.mem_append.mp (waiting ▸ hr) with old | new
    · exact old
    · exact absurd step (noStep r new)

/-! ### CH_HOLD (R157, R162) -/

theorem chHold_acts {m : MbCmd} {s : State} {n : Fin 256} (hg : Granted 0x0303 1 m s) (ht : m.target = chTarget n) (hl : m.length = 16)
    (hc : (s.ch n).calRun = none) :
    ((s.ch n).state = .running →
      CompletesBy (.chHold m) 0x0303 m s
        (fun t => (t.updCh n fun c => { c with meas := { c.meas with holdDue := false } }).toState n .held) 4 0 []) ∧
    ((s.ch n).state = .armed → (s.ch n).run.startAt ≠ none →
      CompletesBy (.chHold m) 0x0303 m s (fun t => t.updCh n fun c => { c with run := { c.run with startAt := none } }) 2 0 []) ∧
    ((s.ch n).state = .held → CompletesBy (.chHold m) 0x0303 m s id 4 0 []) := by
  let u := s.takeOff 0x0303 m
  have acts {t : State} {code : Nat} (own : u.hold n = .done t 0 []) (state : (t.ch n).state.code = code) :
      exec (.chHold m) s = .next ((t.passItems 0x0303 m).respond m.mb (okAnswer m code 0 [])) := by
    refine congrArg Host.Outcome.next ((chanHdr_run hg ht hl (by decide)).trans ((congrArg _ own).trans ?_))
    rw [Hdr.conclude_done, chanHdr_stateCode _ ht (by decide), state]
    rfl
  have passes (legal : (fun st => st == ChState.running || st == .held || (st == .armed && (u.ch n).run.startAt.isSome)) (u.ch n).state = true) :
      u.chanCheck n (fun st => st == .running || st == .held || (st == .armed && (u.ch n).run.startAt.isSome)) = none :=
    State.chanCheck_of_legal (by simpa [u] using hc) legal
  refine ⟨fun hs => acts (t := u.holdChannel n) ?_ ?_, fun hs ha => acts ?_ ?_, fun hs => acts (t := u) ?_ ?_⟩
  · rw [State.hold, passes (by simp [u, hs])]
    simp [orElse, u, hs]
  · simp [State.holdChannel, ChState.code]
  · rw [State.hold, passes (by simp [u, hs, Option.isSome_iff_ne_none, ha])]
    simp only [orElse, u, State.takeOff_ch, hs]
  · simp [hs, ChState.code]
  · rw [State.hold, passes (by simp [u, hs])]
    simp [orElse, u, hs]
  · simp [u, hs, ChState.code]

/-! ### CH_ABORT (R155, R157, R162) -/

/-- `t` is `s` but for the Quire, the records and the events. -/
def OnlyTells (s t : State) : Prop :=
  ∃ q i b, t = { s with
    quire := q
    ink := i
    blot := b }

theorem State.cancelMediated_onlyTells (n : Fin 256) (s : State) : OnlyTells s (s.cancelMediated n) := by
  obtain ⟨q, b, h⟩ : OnlyQuire s (s.cancelMediated n) := by
    unfold State.cancelMediated
    split
    · exact ⟨_, _, rfl⟩
    · split
      · unfold State.cancel
        split
        · exact ⟨_, _, rfl⟩
        · split
          · exact ⟨_, _, rfl⟩
          · exact OnlyQuire.trans _ _ _ ⟨_, _, rfl⟩ (State.tellLate_onlyQuire _ _)
      · exact .refl s
  exact ⟨q, s.ink, b, h⟩

theorem State.record_onlyTells (r : Rec) (s : State) : OnlyTells s (s.record r) := by
  unfold State.record
  split <;> exact ⟨_, _, _, rfl⟩

theorem State.abandon_onlyTells (n : Fin 256) (x : StepEnd) (s : State) : OnlyTells s (s.abandon n x) := by
  unfold State.abandon
  dsimp only
  split
  · exact s.record_onlyTells _
  · exact ⟨_, _, _, rfl⟩

/-- How CH_ABORT leaves the step (R155, R162). -/
def State.leaveStep (n : Fin 256) (s : State) : State :=
  if (s.ch n).run.trans.isSome then s.cancelMediated n else s.abandon n { next := 0xFFFF, reason := 1 }

theorem State.leaveStep_onlyTells (n : Fin 256) (s : State) : OnlyTells s (s.leaveStep n) := by
  unfold State.leaveStep
  split
  · exact s.cancelMediated_onlyTells n
  · exact s.abandon_onlyTells n _

/-- Nothing of the run is pending any more. -/
def Channel.dropRun (c : Channel) : Channel :=
  { c with
    run := { c.run with
      startAt := none
      copy := none
      resumeFrom := none
      trans := none } }

theorem State.abort_ends {s : State} {n : Fin 256} (hc : (s.ch n).calRun = none)
    (hs : (s.ch n).state = .armed ∨ (s.ch n).state = .running ∨ (s.ch n).state = .held ∨ (s.ch n).state = .interrupted) :
    s.abort n = .done ((((s.leaveStep n).updCh n Channel.dropRun).toState n .done).doneEvent n (s.ch n).run.pos 2) 0 [] := by
  have legal : s.chanCheck n (fun st => st == .armed || st == .running || st == .held || st == .interrupted) = none :=
    State.chanCheck_of_legal hc (by rcases hs with h | h | h | h <;> rw [h] <;> rfl)
  simp only [State.abort, legal, orElse]
  rfl

/-- The STEP record of a step that has run and is abandoned (R155), as the producer's buffer has room for it (R260). -/
theorem State.leaveStep_records {s : State} {n : Fin 256} (ht : (s.ch n).run.trans = none) (hr : (s.ch n).run.stepRan = true)
    (hc : ((s.withStep n).ch n).run.cur ≠ none) (hw : (s.ink.waiting.filter fun x => x.producer == n.val).length < 8) :
    (s.withStep n).stepRec n s.tb.time { next := 0xFFFF, reason := 1 } ∈ (s.leaveStep n).ink.waiting := by
  have some_ : ((s.withStep n).ch n).run.cur.isSome = true := Option.isSome_iff_ne_none.mpr hc
  have left : s.leaveStep n = s.record ((s.withStep n).stepRec n s.tb.time { next := 0xFFFF, reason := 1 }) := by
    simp [State.leaveStep, State.abandon, ht, hr, some_]
  rw [left, State.record_of_room (r := (s.withStep n).stepRec n s.tb.time { next := 0xFFFF, reason := 1 }) hw]
  exact List.mem_append_right _ (List.mem_singleton_self _)

theorem chAbort_ends {m : MbCmd} {s : State} {n : Fin 256} (hg : Granted 0x0305 1 m s) (ht : m.target = chTarget n) (hl : m.length = 16)
    (hc : (s.ch n).calRun = none)
    (hs : (s.ch n).state = .armed ∨ (s.ch n).state = .running ∨ (s.ch n).state = .held ∨ (s.ch n).state = .interrupted) :
    Completes (.chAbort m) s fun t =>
      (t.ch n).state = .done ∧ (t.ch n).run.trans = none ∧ (t.ch n).run.startAt = none ∧ (t.ch n).acc = (s.ch n).acc ∧
      s.event 0x0506 INFO n.val ((s.ch n).run.pos % 65536 + 2 ^ 17) ∈ t.blot.raised ∧ (∀ j, j ≠ n → t.ch j = s.ch j) ∧
      ((s.ch n).run.trans = none → (s.ch n).run.stepRan = true → ((s.withStep n).ch n).run.cur ≠ none →
        (s.ink.waiting.filter fun x => x.producer == n.val).length < 8 →
        (s.withStep n).stepRec n s.tb.time { next := 0xFFFF, reason := 1 } ∈ t.ink.waiting) := by
  let u := s.takeOff 0x0305 m
  obtain ⟨q, i, b, left⟩ := u.leaveStep_onlyTells n
  have same (j : Fin 256) : (u.leaveStep n).ch j = s.ch j := by rw [left]; exact State.takeOff_ch ..
  have time : (u.leaveStep n).tb = s.tb := by rw [left]; exact State.takeOff_tb ..
  obtain ⟨l, waiting, -⟩ := State.toState_waiting n .done ((u.leaveStep n).updCh n Channel.dropRun)
  have ends := State.abort_ends (s := u) (n := n) (by simpa [u] using hc) (by simpa [u] using hs)
  refine ⟨_, congrArg Host.Outcome.next ((chanHdr_run hg ht hl (by decide)).trans (congrArg _ ends)), ?_⟩
  simp only [Hdr.conclude_done, State.respond_ch, State.respond_ink, State.passItems_ch, State.passItems_ink, State.doneEvent,
    State.raise_ch, State.raise_ink, State.toState_state, State.toState_run_self, State.toState_acc_self, State.updCh_ch, same]
  refine ⟨trivial, rfl, rfl, rfl, ?_, fun j hj => ?_, fun htr hran hcur hroom => ?_⟩
  · refine (State.respond_reports _ _ _).mem (List.mem_append_right _ (List.mem_singleton.mpr ?_))
    simp [State.event, time, u]
  · rw [State.toState_ch_of_ne _ _ _ hj, State.updCh_ch_of_ne _ _ hj.symm, same]
  · obtain ⟨_, _, _, taken⟩ := s.takeOff_cases 0x0305 m
    have records := State.leaveStep_records (s := u) (n := n) (by simpa [u] using htr) (by simpa [u] using hran)
      (by simp only [u, taken]; exact hcur) (by simpa [u] using hroom)
    rw [waiting]
    refine List.mem_append_left _ ?_
    have commutes : (u.withStep n).stepRec n u.tb.time { next := 0xFFFF, reason := 1 } =
        (s.withStep n).stepRec n s.tb.time { next := 0xFFFF, reason := 1 } := by simp only [u, taken]; rfl
    exact commutes ▸ records

/-! ### CH_RESUME (R158, R203 to R207) -/

/-- A resume changes the channel, enters RUNNING, and writes its record and event; the step in the Nib, the position and the step
accumulators stay, ST too unless the command adds the outage (R205). -/
theorem State.resumeRun_eq (m : MbCmd) (n : Fin 256) (at_ : ResumeAt) (s : State) : ∃ (f : Channel → Channel) (r : Rec) (p : Nat),
    s.resumeRun m n at_ = (((s.updCh n f).enterRun n (max 1 (fieldAt m.params 0 31 16))).record r).raise 0x070C INFO n.val p ∧
    (f (s.ch n)).run.cur = (s.ch n).run.cur ∧ (f (s.ch n)).run.pos = (s.ch n).run.pos ∧
    (f (s.ch n)).acc.stepQ = (s.ch n).acc.stepQ ∧ (f (s.ch n)).acc.stepE = (s.ch n).acc.stepE ∧
    (bitAt m.params 0 0 = false → (f (s.ch n)).acc.st = (s.ch n).acc.st) := by
  refine ⟨_, _, _, rfl, rfl, rfl, ?_, ?_, fun h => ?_⟩
  · dsimp only; split <;> rfl
  · dsimp only; split <;> rfl
  · simp only [h, Bool.false_and, Bool.false_eq_true, if_false]
    split <;> rfl

theorem State.resumeRun_ch_self (m : MbCmd) (n : Fin 256) (at_ : ResumeAt) (s : State) :
    ((s.resumeRun m n at_).ch n).state = .running ∧ ((s.resumeRun m n at_).ch n).run.cur = (s.ch n).run.cur ∧
    ((s.resumeRun m n at_).ch n).run.pos = (s.ch n).run.pos ∧ ((s.resumeRun m n at_).ch n).acc.stepQ = (s.ch n).acc.stepQ ∧
    ((s.resumeRun m n at_).ch n).acc.stepE = (s.ch n).acc.stepE ∧
    (bitAt m.params 0 0 = false → ((s.resumeRun m n at_).ch n).acc.st = (s.ch n).acc.st) ∧
    ((s.resumeRun m n at_).ch n).run.settle = s.now + 250000 * max 1 (fieldAt m.params 0 31 16) := by
  obtain ⟨f, r, p, eq, fcur, fpos, fq, fe, fst⟩ := s.resumeRun_eq m n at_
  obtain ⟨state, acc, -, -, pos, cur, -, settle⟩ := (s.updCh n f).enterRun_ch_self n (max 1 (fieldAt m.params 0 31 16))
  rw [State.updCh_ch] at acc pos cur
  simp only [eq, State.raise_ch, State.record_ch, state, acc, pos, cur, settle]
  refine ⟨trivial, fcur, fpos, fq, fe, fst, ?_⟩
  rw [if_neg (by omega), State.updCh_now]

theorem State.resumeRun_ch_of_ne {n j : Fin 256} (m : MbCmd) (at_ : ResumeAt) (s : State) (h : j ≠ n) :
    (s.resumeRun m n at_).ch j = s.ch j := by
  obtain ⟨f, r, p, eq, -⟩ := s.resumeRun_eq m n at_
  rw [eq, State.raise_ch, State.record_ch, State.enterRun_ch_of_ne _ _ h, State.updCh_ch_of_ne _ _ h.symm]

theorem State.resumeRun_mbox (m : MbCmd) (n : Fin 256) (at_ : ResumeAt) (s : State) (k : Fin 8) :
    ∃ v, (s.resumeRun m n at_).mbox k = { s.mbox k with verify := v } := by
  obtain ⟨f, r, p, eq, -⟩ := s.resumeRun_eq m n at_
  rw [eq, State.raise_mbox, State.record_mbox]
  exact State.enterRun_mbox ..

/-- CH_RESUME past its checks: at once with a resolved step, else by a load item (R158, R161). -/
theorem State.resume_passes {m : MbCmd} {s : State} {n : Fin 256} (hc : (s.ch n).calRun = none)
    (hs : (s.ch n).state = .held ∨ (s.ch n).state = .interrupted) (hr : NoReserved m [(0, 0xFFFC)]) (hk : s.channelLock n = none)
    (hx : s.resumeCheck n (bitAt m.params 0 1) = none) :
    s.resume m n = if (s.ch n).resumeLoads then .hold (s.postLoad n 0 m)
      else
        let at_ := (s.ch n).run.resumeFrom.getD ((s.ch n).run.pos, false)
        .done (s.resumeRun m n { pos := at_.1, pending := at_.2 }) 0 [] := by
  have legal : s.chanCheck n (fun st => st == .held || st == .interrupted) = none :=
    State.chanCheck_of_legal hc (by rcases hs with h | h <;> rw [h] <;> rfl)
  simp only [State.resume, legal, orElse, reserved_none hr, hk, hx, safetyRefusal, Option.map_none]

/-- The items of CH_RESUME (R183). -/
def resumeItems (m : MbCmd) (s : State) : Nat :=
  match tgtOf m.target with
  | .channel n => b2n (s.ch n).resumeLoads
  | _ => 0

theorem resumeItems_of_channel {m : MbCmd} {n : Fin 256} (s : State) (ht : m.target = chTarget n) : resumeItems m s = b2n (s.ch n).resumeLoads := by
  rw [resumeItems, ht, tgtOf_chTarget]

theorem chResume_continues {m : MbCmd} {s : State} {n : Fin 256} {e : Block} (hg : Granted 0x0304 1 m s) (ht : m.target = chTarget n)
    (hl : m.length = 28) (hc : (s.ch n).calRun = none) (hs : (s.ch n).state = .held) (hr : NoReserved m [(0, 0xFFFC)])
    (hk : s.channelLock n = none) (hx : s.resumeCheck n (bitAt m.params 0 1) = none) (he : (s.ch n).run.cur = some e)
    (htr : (s.ch n).run.trans = none) (hb : bitAt m.params 0 0 = false) :
    Completes (.chResume m) s fun t =>
      (t.ch n).state = .running ∧ (t.ch n).run.cur = some e ∧ (t.ch n).run.pos = (s.ch n).run.pos ∧ (t.ch n).acc.st = (s.ch n).acc.st ∧
      (t.ch n).acc.stepQ = (s.ch n).acc.stepQ ∧ (t.ch n).acc.stepE = (s.ch n).acc.stepE ∧
      (t.ch n).run.settle = s.now + 250000 * max 1 (fieldAt m.params 0 31 16) ∧ (∀ j, j ≠ n → t.ch j = s.ch j) ∧
      ((s.mbox m.mb).discard = 0 → (t.mbox m.mb).done = (s.mbox m.mb).done ++ [okAnswer m 3 0 []]) := by
  let u := s.takeOff 0x0304 m
  have loaded : (u.ch n).resumeLoads = false := by simp [Channel.resumeLoads, u, hs, he, htr]
  have continues := State.resume_passes (s := u) (n := n) (m := m) (by simpa [u] using hc) (.inl (by simpa [u] using hs)) hr
    (by simpa [u] using hk) (by simpa [u] using hx)
  rw [loaded, if_neg Bool.false_ne_true] at continues
  have quota : resumeItems m u ≤ u.quire.quotaFree m.mb := by rw [resumeItems_of_channel u ht, loaded]; exact Nat.zero_le _
  obtain ⟨state, cur, pos, q, en, st, settle⟩ := u.resumeRun_ch_self m n
    { pos := ((u.ch n).run.resumeFrom.getD ((u.ch n).run.pos, false)).1
      pending := ((u.ch n).run.resumeFrom.getD ((u.ch n).run.pos, false)).2 }
  refine ⟨_, congrArg Host.Outcome.next ((chanHdr_run_posting hg ht hl (by decide) quota).trans (congrArg _ continues)), ?_⟩
  rw [Hdr.conclude_done, Hdr.stateCode_ch ht (by decide) rfl, state]
  simp only [State.respond_ch, State.passItems_ch, state, cur, pos, q, en, st hb, settle]
  simp only [u, State.takeOff_ch, State.takeOff_now]
  refine ⟨trivial, he, trivial, trivial, trivial, trivial, trivial, fun j hj => ?_, State.answered_done _ (State.resumeRun_mbox ..)⟩
  rw [State.resumeRun_ch_of_ne _ _ _ hj, State.takeOff_ch]

theorem chResume_posts {m : MbCmd} {s : State} {n : Fin 256} (hg : Granted 0x0304 1 m s) (ht : m.target = chTarget n)
    (hl : m.length = 28) (hc : (s.ch n).calRun = none) (hs : (s.ch n).state = .held ∨ (s.ch n).state = .interrupted)
    (hr : NoReserved m [(0, 0xFFFC)]) (hk : s.channelLock n = none) (hx : s.resumeCheck n (bitAt m.params 0 1) = none)
    (hload : (s.ch n).resumeLoads = true) (hq : 1 ≤ (s.takeOff 0x0304 m).quire.quotaFree m.mb) :
    Completes (.chResume m) s fun t =>
      (∃ it ∈ t.quire.items, it.work = .load n 0 m ∧ it.flow = n.val ∧ it.target = .ductus) ∧
      (t.mbox m.mb).working = (s.mbox m.mb).working + 1 ∧ t.chan = s.chan := by
  let u := s.takeOff 0x0304 m
  have loads : (u.ch n).resumeLoads = true := by simpa [u] using hload
  have posts := State.resume_passes (s := u) (n := n) (m := m) (by simpa [u] using hc) (by simpa [u] using hs) hr
    (by simpa [u] using hk) (by simpa [u] using hx)
  rw [loads, if_pos rfl] at posts
  have quota : resumeItems m u ≤ u.quire.quotaFree m.mb := by rw [resumeItems_of_channel u ht, loads]; exact hq
  obtain ⟨⟨it, mem, work, flow, target, -, -⟩, working, -, chan, -⟩ := State.postLoad_holds 0x0304 m n 0 s
  exact ⟨_, congrArg Host.Outcome.next ((chanHdr_run_posting hg ht hl (by decide) quota).trans (congrArg _ posts)),
    ⟨it, mem, work, flow, target⟩, working, chan⟩

end Sys2Proof.Machine

namespace Sys2Proof

open Sys2Proof.Machine Sys2Proof.Safety

/-- Settles O32: each clause is the lemma of its row above. -/
theorem runCommandsComplete : Obligations.RunCommandsComplete := by
  unfold Obligations.RunCommandsComplete
  exact ⟨fun _ _ _ hg ht hl hc hs hr hk hq => chArm_posts hg ht hl hc hs hr hk hq,
    fun _ _ _ _ hg ht hl hc hs hr hf hk hq => chStepJump_posts hg ht hl hc hs hr hf hk hq,
    fun _ _ _ _ hg ht hl hc hs ha hr hk hy hat he => chStart_runs hg ht hl hc hs ha hr hk hy hat he,
    fun _ _ _ hg ht hl hc hs ha hr hk hy hat hf => chStart_waits hg ht hl hc hs ha hr hk hy hat hf,
    fun _ _ _ hs ha h => startAtReached_early hs ha h,
    fun _ _ _ _ hs ha h he => startAtReached_runs hs ha h he,
    fun _ _ _ hs ha h he => startAtReached_ends hs ha h he,
    fun _ _ _ hg ht hl hc => chHold_acts hg ht hl hc,
    fun _ _ _ hg ht hl hc hs => chAbort_ends hg ht hl hc hs,
    fun _ _ _ _ hg ht hl hc hs hr hk hx he htr hb => chResume_continues hg ht hl hc hs hr hk hx he htr hb,
    fun _ _ _ hg ht hl hc hs hr hk hx hload hq => chResume_posts hg ht hl hc hs hr hk hx hload hq⟩

end Sys2Proof
end

section
/-! PROOF. The recipe store: what a slot's change of state leaves (R131), RCP_LOAD, RCP_VERIFY with its pieces, RCP_DELETE, RCP_LIST (R163 to
R166), and O34. -/

namespace Sys2Proof.Machine

open Sys2Proof.Safety

/-! ### A slot's change of state (R131) -/

theorem State.setSlot_slotOf_self (k : Fin 1024) (st : SlotState) (s : State) :
    (s.setSlot k st).slotOf k = { s.slotOf k with state := st } := by
  unfold State.setSlot
  split
  next same => rw [← same]
  next => rw [State.raise_slotOf, State.spoil_slotOf, State.updSlot_slotOf]

theorem State.setSlot_raised {k : Fin 1024} {st : SlotState} {s : State} (h : (s.slotOf k).state ≠ st) :
    (s.setSlot k st).blot.raised = s.blot.raised ++ [s.event 0x0509 INFO k.val (st.code + 2 ^ 32 * (s.slotOf k).rcpId.toNat)] := by
  rw [State.setSlot, if_neg h, State.raise_raised, State.spoil_blot]
  simp [State.event]

@[simp] theorem State.respond_slotOf (k : Fin 8) (r : Response) (s : State) (i : Fin 1024) : (s.respond k r).slotOf i = s.slotOf i := by
  simp only [State.slotOf, State.respond_slot]

/-- A granted command to a slot does its own part on that slot (R346, R359). -/
theorem Hdr.run_slot {h : Hdr} {f : Fin 1024 → State → Verdict} {m : MbCmd} {s : State} {k : Fin 1024}
    (hg : Granted h.opcode (h.auth m) m s) (ht : m.target = slotTarget k) (hlen : h.lenOk m = true) (hf : h.forms.contains 6 = true)
    (hq : h.items m (s.takeOff h.opcode m) ≤ (s.takeOff h.opcode m).quire.quotaFree m.mb) :
    h.run (slotVerdict f) m s = h.conclude m (s.takeOff h.opcode m) (f k (s.takeOff h.opcode m)) := by
  have own : slotVerdict f m (s.takeOff h.opcode m) = f k (s.takeOff h.opcode m) := by simp only [slotVerdict, ht, tgtOf_slotTarget]
  exact (Hdr.run_granted hg hlen (Hdr.targetOk_slot ht hf) hq).trans (congrArg _ own)

/-! ### RCP_LOAD (R163, R164) -/

@[simp] theorem State.takeOff_freeBlocks (op : Nat) (m : MbCmd) (s : State) : (s.takeOff op m).freeBlocks = s.freeBlocks := by
  simp only [State.freeBlocks, State.takeOff_slot]

/-- The steps of a slot after an RCP_LOAD of `count` entries from index `first` on. -/
def loadSteps (p : Block) (first count : Nat) (l : List (Option Block)) : List (Option Block) :=
  (List.range count).foldl (fun l j => l.set (first + j) (some (loadEntry p j))) l

theorem loadSteps_succ (p : Block) (first count : Nat) (l : List (Option Block)) :
    loadSteps p first (count + 1) l = (loadSteps p first count l).set (first + count) (some (loadEntry p count)) := by
  simp [loadSteps, List.range_succ]

@[simp] theorem loadSteps_length (p : Block) (first count : Nat) (l : List (Option Block)) : (loadSteps p first count l).length = l.length := by
  induction count with
  | zero => rfl
  | succ c ih => rw [loadSteps_succ, List.length_set, ih]

/-- The entries stand at their indices, and the other steps stay. -/
theorem loadSteps_getD {p : Block} {first count : Nat} {l : List (Option Block)} (h : first + count ≤ l.length) (i : Nat) :
    (loadSteps p first count l).getD i none =
      if first ≤ i ∧ i < first + count then some (loadEntry p (i - first)) else l.getD i none := by
  induction count with
  | zero => rw [if_neg (by omega)]; rfl
  | succ c ih =>
    rw [loadSteps_succ]
    by_cases last : i = first + c
    · subst last
      rw [if_pos (by omega), List.getD_eq_getElem?_getD, List.getElem?_set_self (by rw [loadSteps_length]; omega),
        Nat.add_sub_cancel_left]
      rfl
    · rw [List.getD_eq_getElem?_getD, List.getElem?_set_ne (Ne.symm last), ← List.getD_eq_getElem?_getD, ih (by omega)]
      simp only [show (first ≤ i ∧ i < first + c) ↔ (first ≤ i ∧ i < first + (c + 1)) by omega]

theorem all_isSome_iff {α : Type} (l : List (Option α)) : l.all Option.isSome = true ↔ ∀ i < l.length, (l.getD i none).isSome = true := by
  rw [List.all_eq_true]
  constructor
  · intro h i hi
    rw [List.getD_eq_getElem _ _ hi]
    exact h _ (List.getElem_mem hi)
  · intro h x hx
    obtain ⟨i, hi, rfl⟩ := List.getElem_of_mem hx
    rw [← List.getD_eq_getElem _ none hi]
    exact h i hi

/-- A first RCP_LOAD fills the slot when it carries every entry. -/
theorem loadSteps_all_iff {p : Block} {count total : Nat} (h : count ≤ total) :
    (loadSteps p 0 count (List.replicate total none)).all Option.isSome = true ↔ count = total := by
  rw [all_isSome_iff]
  simp only [loadSteps_length, List.length_replicate]
  have read (i : Nat) := loadSteps_getD (p := p) (first := 0) (count := count) (l := List.replicate total none) (by simpa using h) i
  constructor
  · intro full
    by_contra less
    have := full count (by omega)
    rw [read, if_neg (by omega)] at this
    simp at this
  · rintro rfl i hi
    rw [read, if_pos (by omega)]
    rfl

/-- A well-formed RCP_LOAD writes steps below TOTAL, a further one of the same TOTAL (R164). -/
theorem loadFault_none {p : Block} {sl : Slot} (h : loadFault p sl = none) :
    fieldAt p 0 15 0 + fieldAt p 4 1 0 ≤ fieldAt p 0 31 16 ∧ (fieldAt p 0 15 0 ≠ 0 → fieldAt p 0 31 16 = sl.total) := by
  unfold loadFault at h
  dsimp only at h
  split at h
  · cases h
  next good =>
    simp only [Bool.or_eq_true, Bool.and_eq_true, decide_eq_true_eq, not_or, not_and, not_not, Nat.not_lt] at good
    exact ⟨good.1.2, good.2⟩

/-- The slot that a first RCP_LOAD empties (R163). -/
def State.beginLoad (p : Block) (k : Fin 1024) (s : State) : State :=
  (s.updSlot k fun x => { x with
    rcpId := wordAt p 8
    total := fieldAt p 0 31 16
    steps := List.replicate (fieldAt p 0 31 16) none
    crc := 0 }).setSlot k .loading

/-- The entries of an RCP_LOAD go into the slot, which is LOADED once every step is written (R131, R163). -/
def State.takeSteps (p : Block) (k : Fin 1024) (s : State) : State :=
  let t := s.updSlot k fun x => { x with steps := loadSteps p (fieldAt p 0 15 0) (fieldAt p 4 1 0) x.steps }
  (if (t.slotOf k).steps.all Option.isSome then t.setSlot k .loaded else t).spoil k

theorem State.beginLoad_slotOf_self (p : Block) (k : Fin 1024) (s : State) : (s.beginLoad p k).slotOf k =
    { state := .loading, rcpId := wordAt p 8, total := fieldAt p 0 31 16, steps := List.replicate (fieldAt p 0 31 16) none, crc := 0 } := by
  rw [State.beginLoad, State.setSlot_slotOf_self, State.updSlot_slotOf]

theorem State.beginLoad_slotOf_of_ne {k j : Fin 1024} (p : Block) (s : State) (h : j ≠ k) : (s.beginLoad p k).slotOf j = s.slotOf j := by
  rw [State.beginLoad, State.setSlot_slotOf_of_ne _ _ h, State.updSlot_slotOf_of_ne _ _ h.symm]

theorem State.takeSteps_slotOf_self (p : Block) (k : Fin 1024) (s : State) :
    let l := loadSteps p (fieldAt p 0 15 0) (fieldAt p 4 1 0) (s.slotOf k).steps
    (s.takeSteps p k).slotOf k = { s.slotOf k with
      steps := l
      state := if l.all Option.isSome = true then .loaded else (s.slotOf k).state } := by
  rw [State.takeSteps]
  simp only [State.spoil_slotOf, State.updSlot_slotOf]
  split
  · rw [State.setSlot_slotOf_self, State.updSlot_slotOf]
  · rw [State.updSlot_slotOf]

theorem State.takeSteps_slotOf_of_ne {k j : Fin 1024} (p : Block) (s : State) (h : j ≠ k) : (s.takeSteps p k).slotOf j = s.slotOf j := by
  rw [State.takeSteps]
  simp only [State.spoil_slotOf]
  split
  · rw [State.setSlot_slotOf_of_ne _ _ h, State.updSlot_slotOf_of_ne _ _ h.symm]
  · rw [State.updSlot_slotOf_of_ne _ _ h.symm]

theorem State.takeSteps_chan (p : Block) (k : Fin 1024) (s : State) : (s.takeSteps p k).chan = s.chan := by
  rw [State.takeSteps]
  simp only [State.spoil_chan]
  split
  · rw [State.setSlot_chan]; rfl
  · rfl

/-- A legal first RCP_LOAD with room for the recipe (R163, R164). -/
theorem State.rcpLoad_first {m : MbCmd} {k : Fin 1024} {s : State} (h0 : fieldAt m.params 0 15 0 = 0)
    (hs : (s.slotOf k).state = .empty ∨ (s.slotOf k).state = .loaded ∨ (s.slotOf k).state = .verified)
    (hf : loadFault m.params (s.slotOf k) = none) (hb : stepBlocks (fieldAt m.params 0 31 16) ≤ s.freeBlocks + (s.slotOf k).blocks) :
    s.rcpLoad m k = .done ((s.beginLoad m.params k).takeSteps m.params k) 0 [] := by
  have legal : ((s.slotOf k).state == .empty || (s.slotOf k).state == .loaded || (s.slotOf k).state == .verified) = true := by
    rcases hs with h | h | h <;> rw [h] <;> rfl
  simp only [State.rcpLoad, h0, if_true, legal, Bool.not_true, Bool.false_eq_true, if_false, hf, Nat.not_lt.mpr hb, decide_true,
    decide_false, Bool.and_false]
  simp only [State.takeSteps, State.beginLoad, loadSteps, h0]

/-- A legal further RCP_LOAD. -/
theorem State.rcpLoad_further {m : MbCmd} {k : Fin 1024} {s : State} (h0 : fieldAt m.params 0 15 0 ≠ 0)
    (hs : (s.slotOf k).state = .loading) (hf : loadFault m.params (s.slotOf k) = none) :
    s.rcpLoad m k = .done (s.takeSteps m.params k) 0 [] := by
  simp only [State.rcpLoad, h0, if_false, hs, hf, decide_false, Bool.false_and]
  rfl

theorem hdrRcpLoad_run {m : MbCmd} {s : State} {k : Fin 1024} {count : Nat} (hg : Granted 0x0401 1 m s) (ht : m.target = slotTarget k)
    (hc : fieldAt m.params 4 1 0 = count) (h1 : 1 ≤ count) (hl : m.length.toNat = 32 + 64 * count) :
    hdrRcpLoad.run (slotVerdict (State.rcpLoad m)) m s =
      hdrRcpLoad.conclude m (s.takeOff 0x0401 m) ((s.takeOff 0x0401 m).rcpLoad m k) := by
  have len : hdrRcpLoad.lenOk m = true := by simp [hdrRcpLoad, hc, h1, hl]
  exact Hdr.run_slot hg ht len rfl (Nat.zero_le _)

theorem rcpLoad_begins {m : MbCmd} {s : State} {k : Fin 1024} {total count : Nat} (hg : Granted 0x0401 1 m s) (ht : m.target = slotTarget k)
    (htot : fieldAt m.params 0 31 16 = total) (h0 : fieldAt m.params 0 15 0 = 0) (hc : fieldAt m.params 4 1 0 = count) (h1 : 1 ≤ count)
    (hl : m.length.toNat = 32 + 64 * count)
    (hs : (s.slotOf k).state = .empty ∨ (s.slotOf k).state = .loaded ∨ (s.slotOf k).state = .verified)
    (hf : loadFault m.params (s.slotOf k) = none) (hb : stepBlocks total ≤ s.freeBlocks + (s.slotOf k).blocks) :
    Completes (.rcpLoad m) s fun t =>
      (t.slotOf k).rcpId = wordAt m.params 8 ∧ (t.slotOf k).total = total ∧ (t.slotOf k).crc = 0 ∧
      (t.slotOf k).state = (if count = total then .loaded else .loading) ∧
      (∀ j, j < count → (t.slotOf k).step j = some (loadEntry m.params j)) ∧ (∀ j, count ≤ j → (t.slotOf k).step j = none) ∧
      (∀ j, j ≠ k → t.slotOf j = s.slotOf j) ∧ t.chan = s.chan := by
  let u := s.takeOff 0x0401 m
  have loads := State.rcpLoad_first (s := u) (k := k) h0 (by simpa [u] using hs) (by simpa [u] using hf) (by simpa [u, htot] using hb)
  have inside : count ≤ total := by have := (loadFault_none hf).1; omega
  have slot := State.takeSteps_slotOf_self m.params k (u.beginLoad m.params k)
  simp only [State.beginLoad_slotOf_self, h0, hc, htot, loadSteps_all_iff inside] at slot
  have read (i : Nat) := loadSteps_getD (p := m.params) (first := 0) (count := count) (l := List.replicate total none) (by simpa using inside) i
  refine ⟨_, congrArg Host.Outcome.next ((hdrRcpLoad_run hg ht hc h1 hl).trans (congrArg _ loads)), ?_⟩
  simp only [Hdr.conclude_done, State.respond_slotOf, State.respond_chan, State.passItems_slotOf, State.passItems_chan, slot, Slot.step, read]
  refine ⟨trivial, trivial, trivial, trivial, fun j hj => ?_, fun j hj => ?_, fun j hj => ?_, ?_⟩
  · rw [if_pos (by omega)]; rfl
  · rw [if_neg (by omega)]; simp
  · rw [State.takeSteps_slotOf_of_ne _ _ hj, State.beginLoad_slotOf_of_ne _ _ hj, State.takeOff_slotOf]
  · rw [State.takeSteps_chan, State.beginLoad, State.setSlot_chan]; exact State.takeOff_chan ..

theorem rcpLoad_goes_on {m : MbCmd} {s : State} {k : Fin 1024} {first count : Nat} (hg : Granted 0x0401 1 m s) (ht : m.target = slotTarget k)
    (hfirst : fieldAt m.params 0 15 0 = first) (h0 : first ≠ 0) (hc : fieldAt m.params 4 1 0 = count) (h1 : 1 ≤ count)
    (hl : m.length.toNat = 32 + 64 * count) (hs : (s.slotOf k).state = .loading) (hf : loadFault m.params (s.slotOf k) = none)
    (hlen : (s.slotOf k).steps.length = (s.slotOf k).total) :
    Completes (.rcpLoad m) s fun t =>
      (∀ j, j < count → (t.slotOf k).step (first + j) = some (loadEntry m.params j)) ∧
      (∀ j, j < first ∨ first + count ≤ j → (t.slotOf k).step j = (s.slotOf k).step j) ∧
      (t.slotOf k).rcpId = (s.slotOf k).rcpId ∧ (t.slotOf k).total = (s.slotOf k).total ∧
      ((t.slotOf k).state = .loaded ↔ (t.slotOf k).steps.all Option.isSome = true) ∧
      (∀ j, j ≠ k → t.slotOf j = s.slotOf j) ∧ t.chan = s.chan := by
  let u := s.takeOff 0x0401 m
  have loads := State.rcpLoad_further (s := u) (k := k) (hfirst ▸ h0) (by simpa [u] using hs) (by simpa [u] using hf)
  have inside : first + count ≤ (s.slotOf k).steps.length := by
    obtain ⟨below, same⟩ := loadFault_none hf
    have := same (hfirst ▸ h0)
    omega
  have slot := State.takeSteps_slotOf_self m.params k u
  simp only [u, State.takeOff_slotOf, hfirst, hc, hs] at slot
  have read (i : Nat) := loadSteps_getD (p := m.params) inside i
  refine ⟨_, congrArg Host.Outcome.next ((hdrRcpLoad_run hg ht hc h1 hl).trans (congrArg _ loads)), ?_⟩
  simp only [Hdr.conclude_done, State.respond_slotOf, State.respond_chan, State.passItems_slotOf, State.passItems_chan, u, slot, Slot.step, read]
  refine ⟨fun j hj => ?_, fun j hj => ?_, trivial, trivial, ?_, fun j hj => ?_, ?_⟩
  · rw [if_pos (by omega), Nat.add_sub_cancel_left]
  · rw [if_neg (by omega)]
  · split
    next full => simp [full]
    next part => simp [part]
  · rw [State.takeSteps_slotOf_of_ne _ _ hj, State.takeOff_slotOf]
  · rw [State.takeSteps_chan, State.takeOff_chan]

/-! ### RCP_VERIFY (R165) -/

/-- The RCP_VERIFY that a command begins. -/
def newVerify (m : MbCmd) (k : Fin 1024) : Verify :=
  { tag := m.tag, quiet := m.flags.getLsbD 0, slot := k, next := 0, spoiled := none }

theorem State.rcpVerify_begins {m : MbCmd} {k : Fin 1024} {s : State} (hs : (s.slotOf k).state = .loaded ∨ (s.slotOf k).state = .verified) :
    s.rcpVerify m k = .hold ((s.updMb m.mb fun b => { b with verify := some (newVerify m k) }).postPiece m.mb) := by
  rcases hs with h | h <;> simp [State.rcpVerify, h, newVerify]

theorem rcpVerify_posts {m : MbCmd} {s : State} {k : Fin 1024} (hg : Granted 0x0402 1 m s) (ht : m.target = slotTarget k) (hl : m.length = 16)
    (hs : (s.slotOf k).state = .loaded ∨ (s.slotOf k).state = .verified) (hq : 1 ≤ (s.takeOff 0x0402 m).quire.quotaFree m.mb) :
    Completes (.rcpVerify m) s fun t =>
      (∃ v, (t.mbox m.mb).verify = some v ∧ v.slot = k ∧ v.next = 0 ∧ v.tag = m.tag) ∧ (t.mbox m.mb).working = (s.mbox m.mb).working + 1 ∧
      (∃ it ∈ t.quire.items, it.work = .verifyPiece m.mb ∧ it.flow = 304 + m.mb.val ∧ it.target = .ductus ∧ it.prio = 3) ∧ t.slot = s.slot := by
  let u := s.takeOff 0x0402 m
  have begins := State.rcpVerify_begins (m := m) (s := u) (k := k) (by simpa [u] using hs)
  obtain ⟨it, mem, work, flow, target, prio, -⟩ := State.post_mem (304 + m.mb.val) .ductus 3 (w := .verifyPiece m.mb) (.mailbox m.mb)
    (u.updMb m.mb fun b => { b with verify := some (newVerify m k) }) rfl
  refine ⟨_, congrArg Host.Outcome.next ((Hdr.run_slot hg ht (lenIs_of hl (by decide)) rfl hq).trans (congrArg _ begins)),
    ⟨newVerify m k, ?_, rfl, rfl, rfl⟩, ?_, ⟨it, mem, work, flow, target, prio⟩, ?_⟩ <;>
  simp [State.postPiece, u]

/-! ### The pieces of RCP_VERIFY (R154, R165) -/

theorem exec_rcpVerifyPiece {s : State} {mb : Fin 8} {it : Item} {v : Verify} (n : Nat)
    (hi : (s.quire.items.find? fun i => i.state == .inService && i.work == .verifyPiece mb) = some it) (hv : (s.mbox mb).verify = some v) :
    exec (.rcpVerifyPiece mb n) s = .next ((s.finish it.uid).verifyPiece mb v n) := by
  show execRcpVerifyPiece mb n s = _
  simp only [execRcpVerifyPiece, hi, hv]

/-- The response of an RCP_VERIFY at its end. -/
def verifyAnswer (v : Verify) (status state detail : Nat) (payload : Block) : Response where
  tag := v.tag
  quiet := v.quiet
  status := BitVec.ofNat 16 status
  state := BitVec.ofNat 16 state
  detail := w32 detail
  payload := payload

/-- What the end of an RCP_VERIFY leaves: its answer joins those of its mailbox, and the slots and events stay. -/
theorem State.endVerify_of_open {mb : Fin 8} {v : Verify} {s : State} (status detail : Nat) (payload : Block) (hv : v.spoiled = none)
    (hw : (s.mbox mb).working ≠ 0) (hd : (s.mbox mb).discard = 0) :
    ((s.endVerify mb v status detail payload).mbox mb).verify = none ∧
    ((s.endVerify mb v status detail payload).mbox mb).done =
      (s.mbox mb).done ++ [verifyAnswer v status (s.slotOf v.slot).state.code detail payload] ∧
    (∀ j, (s.endVerify mb v status detail payload).slotOf j = s.slotOf j) ∧
    (s.endVerify mb v status detail payload).blot = s.blot := by
  obtain ⟨x, box⟩ := s.spoil_mbox v.slot mb
  have ends : s.endVerify mb v status detail payload = ((s.spoil v.slot).updMb mb fun b => { b with verify := none }).updMb mb fun b =>
      { b with
        working := b.working - 1
        done := b.done ++ [verifyAnswer v status (s.slotOf v.slot).state.code detail payload] } := by
    simp only [State.endVerify, hv, Option.isSome_none, Bool.false_eq_true, if_false, State.spoil_slotOf]
    exact State.respondHeld_of_open _ (by rw [State.updMb_mbox, box]; exact hw) (by rw [State.updMb_mbox, box]; exact hd)
  rw [ends]
  simp [box]

@[simp] theorem State.finish_slotUsers (uid : Nat) (s : State) (k : Fin 1024) : (s.finish uid).slotUsers k = s.slotUsers k := by
  simp only [State.slotUsers, State.finish_ch]

@[simp] theorem State.finish_event (uid : Nat) (s : State) (c v r p : Nat) : (s.finish uid).event c v r p = s.event c v r p := by
  simp [State.event]

/-- A verdict on a slot: its CRC, its state and the event that tells it (R165). -/
def State.judgeSlot (k : Fin 1024) (crc : Word) (st : SlotState) (code param : Nat) (s : State) : State :=
  ((s.updSlot k fun x => { x with crc := crc }).setSlot k st).raise code INFO k.val param

theorem State.judgeSlot_acts (k : Fin 1024) (crc : Word) (st : SlotState) (code param : Nat) (s : State) :
    (s.judgeSlot k crc st code param).slotOf k = { s.slotOf k with
      crc := crc
      state := st } ∧
    (∀ j, j ≠ k → (s.judgeSlot k crc st code param).slotOf j = s.slotOf j) ∧
    (∀ mb, ∃ v, (s.judgeSlot k crc st code param).mbox mb = { s.mbox mb with verify := v }) ∧
    s.event code INFO k.val param ∈ (s.judgeSlot k crc st code param).blot.raised := by
  refine ⟨?_, fun j hj => ?_, fun mb => State.setSlot_mbox .., List.mem_append_right _ (List.mem_singleton.mpr ?_)⟩
  · rw [State.judgeSlot, State.raise_slotOf, State.setSlot_slotOf_self, State.updSlot_slotOf]
  · rw [State.judgeSlot, State.raise_slotOf, State.setSlot_slotOf_of_ne _ _ hj, State.updSlot_slotOf_of_ne _ _ hj.symm]
  · simp [State.event]

/-- An RCP_VERIFY that ends with a verdict on its slot. -/
theorem State.judged_ends {mb : Fin 8} {v : Verify} {s : State} (crc : Word) (st : SlotState) (code param status detail : Nat) (payload : Block)
    (hv : v.spoiled = none) (hw : (s.mbox mb).working ≠ 0) (hd : (s.mbox mb).discard = 0) :
    let t := (s.judgeSlot v.slot crc st code param).endVerify mb v status detail payload
    t.slotOf v.slot = { s.slotOf v.slot with
      crc := crc
      state := st } ∧
    (∀ j, j ≠ v.slot → t.slotOf j = s.slotOf j) ∧ (t.mbox mb).verify = none ∧
    (t.mbox mb).done = (s.mbox mb).done ++ [verifyAnswer v status st.code detail payload] ∧
    s.event code INFO v.slot.val param ∈ t.blot.raised := by
  obtain ⟨slot, others, boxes, told⟩ := s.judgeSlot_acts v.slot crc st code param
  obtain ⟨x, box⟩ := boxes mb
  obtain ⟨verify, done, slots, blot⟩ := State.endVerify_of_open (s := s.judgeSlot v.slot crc st code param) (mb := mb) status detail payload hv
    (by rw [box]; exact hw) (by rw [box]; exact hd)
  rw [box, slot] at done
  exact ⟨(slots v.slot).trans slot, fun j hj => (slots j).trans (others j hj), verify, done, blot ▸ told⟩

/-- The last piece of a recipe without a fault (R165). -/
theorem State.verifyPiece_last {mb : Fin 8} {v : Verify} {n : Nat} {s : State} (hv : v.spoiled = none)
    (hx : v.next < (s.slotOf v.slot).entries.length) (hn : (s.slotOf v.slot).entries.length ≤ v.next + n)
    (hk : vkScan (s.slotOf v.slot).entries ((s.slotOf v.slot).entries.length - v.next) v.next = none)
    (hu : unreachable_ (s.slotOf v.slot).entries = none) (h0 : s.slotUsers v.slot = 0) :
    let crc := crcBlock ((s.slotOf v.slot).entries.flatMap fun e => blockFit 16 e)
    s.verifyPiece mb v n = (s.judgeSlot v.slot crc .verified 0x0501 ((s.slotOf v.slot).entries.length + 2 ^ 32 * crc.toNat)).endVerify mb v
      RC_OK 0 [w32 (s.slotOf v.slot).entries.length, crc] := by
  have all : min n ((s.slotOf v.slot).entries.length - v.next) = (s.slotOf v.slot).entries.length - v.next := by omega
  have last : v.next + ((s.slotOf v.slot).entries.length - v.next) = (s.slotOf v.slot).entries.length := by omega
  simp only [State.verifyPiece, hv, all, last, hk, hu, h0, if_true, Option.orElse_none, Option.map_none, lt_irrefl, if_false]
  rfl

/-- A piece that meets a failing step (R165). -/
theorem State.verifyPiece_fails {mb : Fin 8} {v : Verify} {n i c : Nat} {s : State} (hv : v.spoiled = none)
    (hk : vkScan (s.slotOf v.slot).entries (min n ((s.slotOf v.slot).entries.length - v.next)) v.next = some (i, c)) :
    s.verifyPiece mb v n = (s.judgeSlot v.slot 0 .loaded 0x0502 (c + 2 ^ 16 * i)).endVerify mb v RC_CFG_RECIPE (i * 2 ^ 16 + c) [] := by
  simp only [State.verifyPiece, hv, hk]
  rfl

section
variable {s : State} {mb : Fin 8} {it : Item} {v : Verify} {n : Nat}
  (hi : (s.quire.items.find? fun i => i.state == .inService && i.work == .verifyPiece mb) = some it) (hm : (s.mbox mb).verify = some v)
  (hv : v.spoiled = none) (hw : (s.mbox mb).working ≠ 0) (hd : (s.mbox mb).discard = 0)
include hi hm hv hw hd

theorem rcpVerifyPiece_verifies (hx : v.next < (s.slotOf v.slot).entries.length) (hn : (s.slotOf v.slot).entries.length ≤ v.next + n)
    (hk : vkScan (s.slotOf v.slot).entries ((s.slotOf v.slot).entries.length - v.next) v.next = none)
    (hu : unreachable_ (s.slotOf v.slot).entries = none) (h0 : s.slotUsers v.slot = 0) :
    Completes (.rcpVerifyPiece mb n) s fun t =>
      (t.slotOf v.slot).state = .verified ∧
      (t.slotOf v.slot).crc = crcBlock ((s.slotOf v.slot).entries.flatMap fun e => blockFit 16 e) ∧
      (t.slotOf v.slot).steps = (s.slotOf v.slot).steps ∧ (t.mbox mb).verify = none ∧
      (∃ r, (t.mbox mb).done = (s.mbox mb).done ++ [r] ∧ r.tag = v.tag ∧ r.status = 0 ∧ r.state = 3 ∧
        r.payload = [w32 (s.slotOf v.slot).entries.length, (t.slotOf v.slot).crc]) ∧ (∀ j, j ≠ v.slot → t.slotOf j = s.slotOf j) := by
  let u := s.finish it.uid
  let crc := crcBlock ((s.slotOf v.slot).entries.flatMap fun e => blockFit 16 e)
  have last := State.verifyPiece_last (s := u) (mb := mb) (n := n) hv (by simpa [u] using hx) (by simpa [u] using hn)
    (by simpa [u] using hk) (by simpa [u] using hu) (by simpa [u] using h0)
  simp only [u, State.finish_slotOf] at last
  obtain ⟨slot, others, verify, done, -⟩ := State.judged_ends (s := u) (mb := mb) crc .verified 0x0501
    ((s.slotOf v.slot).entries.length + 2 ^ 32 * crc.toNat) RC_OK 0 [w32 (s.slotOf v.slot).entries.length, crc] hv
    (by simpa [u] using hw) (by simpa [u] using hd)
  rw [State.finish_slotOf] at slot
  rw [State.finish_mbox] at done
  exact ⟨_, (exec_rcpVerifyPiece n hi hm).trans (congrArg _ last), congrArg Slot.state slot, congrArg Slot.crc slot, (congrArg Slot.steps slot :),
    verify, ⟨_, done, rfl, rfl, rfl, congrArg (fun x : Slot => [w32 (s.slotOf v.slot).entries.length, x.crc]) slot.symm⟩,
    fun j hj => (others j hj).trans (State.finish_slotOf ..)⟩

theorem rcpVerifyPiece_fails {i c : Nat}
    (hk : vkScan (s.slotOf v.slot).entries (min n ((s.slotOf v.slot).entries.length - v.next)) v.next = some (i, c)) :
    Completes (.rcpVerifyPiece mb n) s fun t =>
      (t.slotOf v.slot).state = .loaded ∧ (t.mbox mb).verify = none ∧ s.event 0x0502 INFO v.slot.val (c + 2 ^ 16 * i) ∈ t.blot.raised ∧
      (∃ r, (t.mbox mb).done = (s.mbox mb).done ++ [r] ∧ r.status = BitVec.ofNat 16 RC_CFG_RECIPE ∧ r.detail = w32 (i * 2 ^ 16 + c)) := by
  let u := s.finish it.uid
  have fails := State.verifyPiece_fails (s := u) (mb := mb) (n := n) hv (by simpa [u] using hk)
  obtain ⟨slot, -, verify, done, told⟩ := State.judged_ends (s := u) (mb := mb) 0 .loaded 0x0502 (c + 2 ^ 16 * i) RC_CFG_RECIPE
    (i * 2 ^ 16 + c) [] hv (by simpa [u] using hw) (by simpa [u] using hd)
  rw [State.finish_mbox] at done
  rw [State.finish_event] at told
  exact ⟨_, (exec_rcpVerifyPiece n hi hm).trans (congrArg _ fails), congrArg Slot.state slot, verify, told, _, done, rfl, rfl⟩

end

/-! ### RCP_DELETE and RCP_LIST (R166) -/

theorem State.rcpDelete_acts {k : Fin 1024} {s : State}
    (hs : (s.slotOf k).state = .loading ∨ (s.slotOf k).state = .loaded ∨ (s.slotOf k).state = .verified) :
    s.rcpDelete k = .done (((s.setSlot k .empty).updSlot k fun _ => {}).spoil k) 0 [] := by
  rcases hs with h | h | h <;> simp [State.rcpDelete, h]

theorem rcpDelete_empties {m : MbCmd} {s : State} {k : Fin 1024} (hg : Granted 0x0403 1 m s) (ht : m.target = slotTarget k) (hl : m.length = 16)
    (hs : (s.slotOf k).state = .loading ∨ (s.slotOf k).state = .loaded ∨ (s.slotOf k).state = .verified) :
    Completes (.rcpDelete m) s fun t =>
      t.slotOf k = {} ∧ (∀ j, j ≠ k → t.slotOf j = s.slotOf j) ∧ t.chan = s.chan ∧
      s.event 0x0509 INFO k.val (2 ^ 32 * (s.slotOf k).rcpId.toNat) ∈ t.blot.raised := by
  let u := s.takeOff 0x0403 m
  have slot : u.slotOf k = s.slotOf k := State.takeOff_slotOf ..
  have acts := State.rcpDelete_acts (s := u) (k := k) (by rwa [slot])
  have told : (u.setSlot k .empty).blot.raised =
      s.blot.raised ++ [s.event 0x0509 INFO k.val (2 ^ 32 * (s.slotOf k).rcpId.toNat)] := by
    rw [State.setSlot_raised (by rw [slot]; rcases hs with h | h | h <;> rw [h] <;> decide), slot]
    simp [u, SlotState.code]
  refine ⟨_, congrArg Host.Outcome.next ((Hdr.run_slot hg ht (lenIs_of hl (by decide)) rfl (Nat.zero_le _)).trans (congrArg _ acts)), ?_⟩
  simp only [Hdr.conclude_done, State.respond_slotOf, State.respond_chan, State.passItems_slotOf, State.passItems_chan, State.spoil_slotOf,
    State.spoil_chan, State.updSlot_slotOf]
  refine ⟨trivial, fun j hj => ?_, ?_, (State.respond_reports _ _ _).mem ?_⟩
  · rw [State.updSlot_slotOf_of_ne _ _ hj.symm, State.setSlot_slotOf_of_ne _ _ hj, State.takeOff_slotOf]
  · simp [u]
  · rw [State.passItems_blot, State.spoil_blot, State.updSlot_blot, told]
    exact List.mem_append_right _ (List.mem_singleton_self _)

@[simp] theorem State.takeOff_listEntry (op : Nat) (m : MbCmd) (s : State) (i : Nat) : (s.takeOff op m).listEntry i = s.listEntry i := by
  obtain ⟨_, _, _, h⟩ := s.takeOff_cases op m
  rw [h]; rfl

theorem rcpList_answers {m : MbCmd} {s : State} (hg : Granted 0x0404 0 m s) (ht : m.target = 0) (hl : m.length = 20)
    (hr : NoReserved m [(0, 0xFFFFFC00)]) :
    CompletesBy (.rcpList m) 0x0404 m s id 0 0
      (w32 s.freeBlocks :: (List.range 14).flatMap fun j => s.listEntry (fieldAt m.params 0 9 0 + j)) := by
  let h : Hdr := { opcode := 0x0404, lenOk := lenIs 20, minLen := 20, auth := fun _ => 0 }
  refine congrArg Host.Outcome.next ((Hdr.run_granted' (h := h) hg (lenIs_of hl (by decide)) (Hdr.targetOk_none ht rfl) fun _ => rfl).trans ?_)
  rw [reserved_none hr, Hdr.conclude_done, Hdr.stateCode_none ht (by decide)]
  simp only [State.takeOff_freeBlocks, State.takeOff_listEntry]
  rfl

end Sys2Proof.Machine

namespace Sys2Proof

open Sys2Proof.Machine Sys2Proof.Safety

/-- Settles O34: each clause is the lemma of its row above. -/
theorem recipeCommandsComplete : Obligations.RecipeCommandsComplete := by
  unfold Obligations.RecipeCommandsComplete
  exact ⟨fun _ _ _ _ _ hg ht htot h0 hc h1 hl hs hf hb => rcpLoad_begins hg ht htot h0 hc h1 hl hs hf hb,
    fun _ _ _ _ _ hg ht hfirst h0 hc h1 hl hs hf hlen => rcpLoad_goes_on hg ht hfirst h0 hc h1 hl hs hf hlen,
    fun _ _ _ hg ht hl hs hq => rcpVerify_posts hg ht hl hs hq,
    fun _ _ _ _ _ hi hm hv _ hx hn hk hu h0 hw hd => rcpVerifyPiece_verifies hi hm hv hw hd hx hn hk hu h0,
    fun _ _ _ _ _ _ _ hi hm hv hk hw hd => rcpVerifyPiece_fails hi hm hv hw hd hk,
    fun _ _ _ hg ht hl hs => rcpDelete_empties hg ht hl hs,
    fun _ _ hg ht hl hr => rcpList_answers hg ht hl hr⟩

end Sys2Proof
end

section
/-! PROOF. The items of the Ductus engines: loads, mediated transitions and pre-loads (R151 to R154, R157, R161, R162), and O33. -/

namespace Sys2Proof.Machine

open Sys2Proof.Safety

/-! ### The end of an item (R171, R187, R362) -/

/-- The outcome DONE takes its item from the Quire, and no other. -/
theorem State.finish_items (uid : Nat) (s : State) : (s.finish uid).quire.items = (s.quire.remove 0 uid).items := by
  rw [State.finish_eq, State.tellLate]
  dsimp only
  split <;> rfl

/-- A command that a load item completes is answered, and its mailbox goes on. -/
theorem State.answerLoad_of_open {m : MbCmd} {n : Fin 256} {s : State} (status detail : Nat) (hr : m.rsvd = 0)
    (hw : (s.mbox m.mb).working ≠ 0) (hd : (s.mbox m.mb).discard = 0) :
    s.answerLoad m n status detail = s.updMb m.mb fun b => { b with
      working := b.working - 1
      done := b.done ++ [answerTo m status (s.ch n).state.code detail []] } := by
  have unreserved : ¬ m.rsvd ≠ 0 := not_not.mpr hr
  rw [State.answerLoad, State.respondLate, if_neg unreserved, State.respondHeld_of_open _ hw hd]

/-- The answer of a load that was carried out, from a state whose mailbox is as in `s` but for an RCP_VERIFY. -/
theorem State.answerLoad_acts {m : MbCmd} {n : Fin 256} {s t : State} {v : Option Verify} (hr : m.rsvd = 0)
    (hbox : t.mbox m.mb = { s.mbox m.mb with verify := v }) (hw : (s.mbox m.mb).working ≠ 0) (hd : (s.mbox m.mb).discard = 0) :
    let u := t.answerLoad m n RC_OK 0
    (∀ j, u.ch j = t.ch j) ∧ u.quire = t.quire ∧ (u.mbox m.mb).done = (s.mbox m.mb).done ++ [okAnswer m (t.ch n).state.code 0 []] ∧
    (u.mbox m.mb).working = (s.mbox m.mb).working - 1 := by
  rw [State.answerLoad_of_open _ _ hr (by rw [hbox]; exact hw) (by rw [hbox]; exact hd)]
  simp [hbox, okAnswer]

/-! ### Where a target leads (R148 to R151) -/

/-- The channel at a step that a Ductus engine has found: index, entry, counters. -/
def Channel.atStep (i : Nat) (x : Block) (k : List Nat) (c : Channel) : Channel :=
  { c with
    run := { c.run with
      pos := i
      idx := i
      cur := some x
      next := none
      nextDone := false
      trans := none
      ctrs := k } }

/-- A target that resolves to a step puts that step in the Nib. -/
theorem Channel.place_of_resolve {sl : Slot} {prev : Option PrevStep} {target i : Nat} {c : Channel} {x : Block} {k : List Nat} {b : Bool}
    (h : sl.resolve prev c.acc target c.run.ctrs = some (i, x, k, b)) (hx : stType x ≠ tEND) :
    Channel.place sl prev target c = c.atStep i x k := by
  simp only [Channel.place, h, if_neg hx]
  rfl

/-- The channel with its primary-next (R151). -/
def Channel.withNext (next : Option Loaded) (c : Channel) : Channel :=
  { c with
    run := { c.run with
      next := next
      nextDone := true } }

theorem State.preload_ch_self (n : Fin 256) (s : State) : ∃ next, (s.preload n).ch n = (s.ch n).withNext next :=
  ⟨_, State.updCh_ch ..⟩

theorem State.preload_ch_of_ne {n j : Fin 256} (s : State) (h : j ≠ n) : (s.preload n).ch j = s.ch j := State.updCh_ch_of_ne _ _ h.symm

/-! ### Load items (R157, R161) -/

/-- The three commands differ in LENGTH. -/
theorem exec_ductusLoadItem {s : State} {e : Fin 8} {it : Item} {n : Fin 256} {target : Nat} {m : MbCmd} (hi : s.quire.onEngine e = some it)
    (hw : it.work = .load n target m) :
    (m.length = 16 → exec (.ductusLoadItem e) s = .next ((s.finish it.uid).loadArm m n)) ∧
    (m.length = 20 → exec (.ductusLoadItem e) s = .next ((s.finish it.uid).loadJump m n target)) ∧
    (m.length = 28 → exec (.ductusLoadItem e) s = .next ((s.finish it.uid).loadResume m n)) := by
  have run : exec (.ductusLoadItem e) s = if m.length = 16 then .next ((s.finish it.uid).loadArm m n)
      else if m.length = 20 then .next ((s.finish it.uid).loadJump m n target)
      else .next ((s.finish it.uid).loadResume m n) := by
    show execDuctusLoadItem e s = _
    simp only [execDuctusLoadItem, hi, hw]
  rw [run]
  refine ⟨fun h => ?_, fun h => ?_, fun h => ?_⟩ <;> rw [h] <;> rfl

/-- What the load of CH_ARM or CH_STEP_JUMP starts from: a step that has not begun, without a previous one. -/
def Channel.unstarted (ctrs : List Nat) (c : Channel) : Channel :=
  { c.freshStep with
    meas := c.meas
    run := { c.freshStep.run with
      ctrs := ctrs
      prev := none } }

/-- The run of a channel that CH_ARM has armed. -/
def Channel.armed (c : Channel) : Channel :=
  { c with
    run := { c.run with
      runValid := true
      hasRun := false
      copy := none
      resumeFrom := none
      syncTime := none
      startAt := none } }

/-- The load of CH_ARM for a channel that is still in a state of R157. -/
theorem State.loadArm_legal {m : MbCmd} {n : Fin 256} {s : State} (hs : (s.ch n).state = .configured ∨ (s.ch n).state = .done) :
    s.loadArm m n = (((s.updCh n fun c =>
      (Channel.place (s.slotOf (cfSlot c.cfg)) none 0 (c.unstarted [0, 0, 0, 0])).armed).preload n).toState n .armed).answerLoad m n
        RC_OK 0 := by
  rcases hs with h | h <;> simp [State.loadArm, h] <;> rfl

theorem ductusLoadItem_arms {s : State} {e : Fin 8} {it : Item} {n : Fin 256} {m : MbCmd} {i : Nat} {x : Block} {k : List Nat} {b : Bool}
    (hi : s.quire.onEngine e = some it) (hwk : it.work = .load n 0 m) (hl : m.length = 16)
    (hs : (s.ch n).state = .configured ∨ (s.ch n).state = .done)
    (hres : (s.slotOf (cfSlot (s.ch n).cfg)).resolve none { (s.ch n).acc with
      st := 0
      stepQ := 0
      stepE := 0 } 0 [0, 0, 0, 0] = some (i, x, k, b)) (hx : stType x ≠ tEND)
    (hr : m.rsvd = 0) (hw : (s.mbox m.mb).working ≠ 0) (hd : (s.mbox m.mb).discard = 0) :
    Completes (.ductusLoadItem e) s fun t =>
      (t.ch n).state = .armed ∧ (t.ch n).run.pos = i ∧ (t.ch n).run.cur = some x ∧ (t.ch n).run.ctrs = k ∧ (t.ch n).run.runValid = true ∧
      (t.ch n).run.nextDone = true ∧ (t.ch n).acc.st = 0 ∧ (t.ch n).acc.stepQ = 0 ∧ (t.ch n).acc.stepE = 0 ∧
      (∀ j, j ≠ n → t.ch j = s.ch j) ∧ t.quire.items = (s.quire.remove 0 it.uid).items ∧
      (t.mbox m.mb).done = (s.mbox m.mb).done ++ [okAnswer m 2 0 []] ∧ (t.mbox m.mb).working = (s.mbox m.mb).working - 1 := by
  let u := s.finish it.uid
  let placed := u.updCh n fun c => (Channel.place (u.slotOf (cfSlot c.cfg)) none 0 (c.unstarted [0, 0, 0, 0])).armed
  let v := (placed.preload n).toState n .armed
  have ch : placed.ch n = (((s.ch n).unstarted [0, 0, 0, 0]).atStep i x k).armed := by
    rw [State.updCh_ch, State.finish_ch, State.finish_slotOf, Channel.place_of_resolve (c := (s.ch n).unstarted [0, 0, 0, 0]) hres hx]
  obtain ⟨next, loaded⟩ := State.preload_ch_self n placed
  rw [ch] at loaded
  have state : (v.ch n).state = .armed := State.toState_state ..
  have run : (v.ch n).run = ((placed.preload n).ch n).run := State.toState_run_self ..
  have acc : (v.ch n).acc = ((placed.preload n).ch n).acc := State.toState_acc_self ..
  obtain ⟨y, box⟩ := State.toState_mbox n .armed (placed.preload n) m.mb
  obtain ⟨same, quire, done, working⟩ := State.answerLoad_acts (n := n) (t := v) (s := s) (v := y) hr
    (box.trans (by simp [placed, u, State.preload])) hw hd
  have legal : u.loadArm m n = v.answerLoad m n RC_OK 0 := State.loadArm_legal (by simpa [u] using hs)
  refine ⟨_, ((exec_ductusLoadItem hi hwk).1 hl).trans (congrArg _ legal), ?_⟩
  simp only [same, state, run, acc, loaded]
  refine ⟨trivial, rfl, rfl, rfl, rfl, rfl, rfl, rfl, rfl, fun j hj => ?_, ?_, ?_, working⟩
  · rw [State.toState_ch_of_ne _ _ _ hj, State.preload_ch_of_ne _ hj, State.updCh_ch_of_ne _ _ hj.symm, State.finish_ch]
  · rw [quire, State.toState_quire]; exact s.finish_items it.uid
  · rw [done, state]; rfl

/-- What the load of CH_STEP_JUMP starts from: the counters stay. -/
def Channel.jumping (c : Channel) : Channel :=
  let d := c.unstarted c.run.ctrs
  { d with
    run := { d.run with
      copy := none
      resumeFrom := none } }

/-- What a jump leaves of the channel: its state and the run accumulators. -/
theorem Channel.jumping_keeps (c : Channel) : c.jumping.state = c.state ∧ c.jumping.acc.st = 0 ∧ c.jumping.acc.stepQ = 0 ∧
    c.jumping.acc.runQC = c.acc.runQC := ⟨rfl, rfl, rfl, rfl⟩

theorem Channel.withNext_atStep (next : Option Loaded) (i : Nat) (x : Block) (k : List Nat) (c : Channel) :
    ((c.atStep i x k).withNext next).state = c.state ∧ ((c.atStep i x k).withNext next).acc = c.acc ∧
    ((c.atStep i x k).withNext next).run.pos = i ∧ ((c.atStep i x k).withNext next).run.cur = some x ∧
    ((c.atStep i x k).withNext next).run.ctrs = k := ⟨rfl, rfl, rfl, rfl, rfl⟩

/-- The load of CH_STEP_JUMP for a channel that is still in a state of R157. -/
theorem State.loadJump_legal {m : MbCmd} {n : Fin 256} {target : Nat} {s : State}
    (hs : (s.ch n).state = .armed ∨ (s.ch n).state = .held) :
    s.loadJump m n target = (((s.abandon n { next := target, reason := 2 }).updCh n fun c =>
      Channel.place (s.slotOf (cfSlot c.cfg)) none target c.jumping).preload n).answerLoad m n RC_OK 0 := by
  rcases hs with h | h <;> simp [State.loadJump, h] <;> rfl

theorem ductusLoadItem_jumps {s : State} {e : Fin 8} {it : Item} {n : Fin 256} {m : MbCmd} {target i : Nat} {x : Block} {k : List Nat}
    {b : Bool} (hi : s.quire.onEngine e = some it) (hwk : it.work = .load n target m) (hl : m.length = 20)
    (hs : (s.ch n).state = .armed ∨ (s.ch n).state = .held)
    (hres : (s.slotOf (cfSlot (s.ch n).cfg)).resolve none { (s.ch n).acc with
      st := 0
      stepQ := 0
      stepE := 0 } target (s.ch n).run.ctrs = some (i, x, k, b)) (hx : stType x ≠ tEND)
    (hr : m.rsvd = 0) (hw : (s.mbox m.mb).working ≠ 0) (hd : (s.mbox m.mb).discard = 0) :
    Completes (.ductusLoadItem e) s fun t =>
      (t.ch n).state = (s.ch n).state ∧ (t.ch n).run.pos = i ∧ (t.ch n).run.cur = some x ∧ (t.ch n).run.ctrs = k ∧
      (t.ch n).acc.st = 0 ∧ (t.ch n).acc.stepQ = 0 ∧ (t.ch n).acc.runQC = (s.ch n).acc.runQC ∧ (∀ j, j ≠ n → t.ch j = s.ch j) ∧
      (t.mbox m.mb).done = (s.mbox m.mb).done ++ [okAnswer m (s.ch n).state.code 0 []] := by
  let u := s.finish it.uid
  let placed := (u.abandon n { next := target, reason := 2 }).updCh n fun c => Channel.place (u.slotOf (cfSlot c.cfg)) none target c.jumping
  let v := placed.preload n
  obtain ⟨q, ink, blot, left⟩ := u.abandon_onlyTells n { next := target, reason := 2 }
  have before (j : Fin 256) : (u.abandon n { next := target, reason := 2 }).ch j = s.ch j := by rw [left]; exact State.finish_ch ..
  have box : v.mbox m.mb = { s.mbox m.mb with verify := (s.mbox m.mb).verify } := by
    show (u.abandon n { next := target, reason := 2 }).mbox m.mb = _
    rw [left]; exact State.finish_mbox ..
  have ch : placed.ch n = (s.ch n).jumping.atStep i x k := by
    rw [State.updCh_ch, before, State.finish_slotOf, Channel.place_of_resolve (c := (s.ch n).jumping) hres hx]
  obtain ⟨next, loaded⟩ := State.preload_ch_self n placed
  rw [ch] at loaded
  obtain ⟨same, -, done, -⟩ := State.answerLoad_acts (n := n) (t := v) hr box hw hd
  have legal : u.loadJump m n target = v.answerLoad m n RC_OK 0 := State.loadJump_legal (by simpa [u] using hs)
  refine ⟨_, ((exec_ductusLoadItem hi hwk).2.1 hl).trans (congrArg _ legal), ?_⟩
  obtain ⟨state, acc, pos, cur, ctrs⟩ := Channel.withNext_atStep next i x k (s.ch n).jumping
  obtain ⟨kept, st, stepQ, runQC⟩ := (s.ch n).jumping_keeps
  rw [loaded, state, kept] at done
  simp only [same, v, loaded, state, acc, pos, cur, ctrs, kept, st, stepQ, runQC]
  refine ⟨trivial, trivial, trivial, trivial, trivial, trivial, trivial, fun j hj => ?_, done⟩
  rw [State.preload_ch_of_ne _ hj, State.updCh_ch_of_ne _ _ hj.symm, before]

/-- The position of a resume, with what its RESUME record tells of where it began (R158, R203). -/
def Channel.resuming (sl : Slot) (pos : Nat) (pending : Bool) (c : Channel) : Channel :=
  let d := Channel.place sl c.run.prev c.run.pos c
  { d with run := { d.run with resumeFrom := some (pos, pending) } }

/-- The load of CH_RESUME for a HELD channel without a step in its Nib, whose position resolves to one (R158, R161). -/
theorem State.loadResume_held {m : MbCmd} {n : Fin 256} {s : State} (hs : (s.ch n).state = .held) (hc : (s.ch n).run.cur = none)
    (hk : s.channelLock n = none) :
    let from_ := (s.ch n).run.resumeFrom.getD ((s.ch n).run.pos, (s.ch n).run.trans.isSome)
    let t := (s.updCh n fun c => c.resuming (s.slotOf (cfSlot c.cfg)) from_.1 from_.2).preload n
    (t.ch n).run.cur ≠ none →
    s.loadResume m n = (t.resumeRun m n { pos := from_.1, pending := from_.2 }).answerLoad m n RC_OK 0 := by
  intro from_ t loaded
  have loads : (s.ch n).resumeLoads = true := by simp [Channel.resumeLoads, hc]
  have placed : ¬ (t.ch n).run.cur.isNone = true := by rwa [Option.isNone_iff_eq_none]
  simp only [State.loadResume, hs, loads, beq_self_eq_true, Bool.true_or, Bool.and_self, if_true, reduceCtorEq, ne_eq, not_true_eq_false,
    decide_false, Bool.false_and, Bool.false_eq_true, if_false]
  split
  next f locked => cases hk.symm.trans locked
  next => exact if_neg placed

theorem ductusLoadItem_resumes {s : State} {e : Fin 8} {it : Item} {n : Fin 256} {m : MbCmd} {target i : Nat} {x : Block} {k : List Nat}
    {b : Bool} (hi : s.quire.onEngine e = some it) (hwk : it.work = .load n target m) (hl : m.length = 28)
    (hs : (s.ch n).state = .held) (hc : (s.ch n).run.cur = none) (hk : s.channelLock n = none)
    (hres : (s.slotOf (cfSlot (s.ch n).cfg)).resolve (s.ch n).run.prev (s.ch n).acc (s.ch n).run.pos (s.ch n).run.ctrs = some (i, x, k, b))
    (hx : stType x ≠ tEND) (hr : m.rsvd = 0) (hw : (s.mbox m.mb).working ≠ 0) (hd : (s.mbox m.mb).discard = 0) :
    Completes (.ductusLoadItem e) s fun t =>
      (t.ch n).state = .running ∧ (t.ch n).run.pos = i ∧ (t.ch n).run.cur = some x ∧ (∀ j, j ≠ n → t.ch j = s.ch j) ∧
      (t.mbox m.mb).done = (s.mbox m.mb).done ++ [okAnswer m 3 0 []] := by
  let u := s.finish it.uid
  let from_ := (u.ch n).run.resumeFrom.getD ((u.ch n).run.pos, (u.ch n).run.trans.isSome)
  let placed := u.updCh n fun c => c.resuming (u.slotOf (cfSlot c.cfg)) from_.1 from_.2
  let w := placed.preload n
  let v := w.resumeRun m n { pos := from_.1, pending := from_.2 }
  obtain ⟨next, loaded⟩ := State.preload_ch_self n placed
  have ch : (placed.ch n).run.pos = i ∧ (placed.ch n).run.cur = some x := by
    rw [State.updCh_ch, Channel.resuming, State.finish_ch, State.finish_slotOf, Channel.place_of_resolve hres hx]
    exact ⟨rfl, rfl⟩
  obtain ⟨state, cur, pos, -⟩ := w.resumeRun_ch_self m n { pos := from_.1, pending := from_.2 }
  rw [loaded] at cur pos
  obtain ⟨y, box⟩ := w.resumeRun_mbox m n { pos := from_.1, pending := from_.2 } m.mb
  obtain ⟨same, -, done, -⟩ := State.answerLoad_acts (n := n) (t := v) (s := s) (v := y) hr
    (box.trans (by simp [w, placed, u, State.preload])) hw hd
  have legal : u.loadResume m n = v.answerLoad m n RC_OK 0 :=
    State.loadResume_held (by simpa [u] using hs) (by simpa [u] using hc) (by simpa [u, State.channelLock] using hk)
      (by rw [loaded]; exact fun none_ => by simp [Channel.withNext, ch.2] at none_)
  refine ⟨_, ((exec_ductusLoadItem hi hwk).2.2 hl).trans (congrArg _ legal), ?_⟩
  rw [state] at done
  simp only [same, v, state, cur, pos]
  refine ⟨trivial, ch.1, ch.2, fun j hj => ?_, done⟩
  rw [State.resumeRun_ch_of_ne _ _ _ hj, State.preload_ch_of_ne _ hj, State.updCh_ch_of_ne _ _ hj.symm, State.finish_ch]

/-! ### Mediated items (R152 to R154, R162) -/

theorem exec_ductusMediatedItem {s : State} {e : Fin 8} {it : Item} {n : Fin 256} (hi : s.quire.onEngine e = some it)
    (hw : it.work = .mediated n) :
    (∀ u, (s.ch n).run.trans = some u → exec (.ductusMediatedItem e) s = .next ((s.finish it.uid).mediate n u)) ∧
    ((s.ch n).run.trans = none → exec (.ductusMediatedItem e) s = .next (s.finish it.uid)) := by
  refine ⟨fun u ht => ?_, fun ht => ?_⟩
  all_goals
    show execDuctusMediatedItem e s = _
    simp only [execDuctusMediatedItem, hi, hw, State.finish_ch, ht]

/-- The channel enters the step that a mediated transition resolves to; only a RUNNING one starts its loop in it (R102, R153). -/
def Channel.mediateTo (i : Nat) (x : Block) (k : List Nat) (oldSet : Nat) (cur : Int) (now : Nat) (c : Channel) : Channel :=
  if c.state = .running then c.enterStep i x k oldSet cur now else { c.enterStep i x k oldSet cur now with loop := c.loop }

theorem Channel.mediateTo_enters (i : Nat) (x : Block) (k : List Nat) (oldSet : Nat) (cur : Int) (now : Nat) (c : Channel) :
    let d := c.mediateTo i x k oldSet cur now
    d.state = c.state ∧ d.run.trans = none ∧ d.run.pos = i ∧ d.run.cur = some x ∧ d.run.ctrs = k ∧ d.acc = c.acc := by
  unfold Channel.mediateTo
  split <;> exact ⟨rfl, rfl, rfl, rfl, rfl, rfl⟩

/-- A mediated transition to a step. -/
theorem State.mediate_step {s : State} {n : Fin 256} {u i : Nat} {x : Block} {k : List Nat} {b : Bool}
    (h : (s.slotOf (cfSlot (s.ch n).cfg)).resolve (s.ch n).run.prev (s.ch n).acc u (s.ch n).run.ctrs = some (i, x, k, b))
    (hx : stType x ≠ tEND) :
    ∃ oldSet cur, s.mediate n u = (s.updCh n (Channel.mediateTo i x k oldSet cur s.tb.time)).preload n := by
  refine ⟨stCset ((s.ch n).run.cur.getD []), (s.ch n).run.prev.elim (s.ch n).meas.loopI PrevStep.i, ?_⟩
  simp only [State.mediate, h, if_neg hx]
  cases (s.ch n).run.prev <;> rfl

/-- The channel whose run a mediated transition ends: ST and the step accumulators at 0, no step in the Nib (R152). -/
def Channel.unloaded (k : List Nat) (c : Channel) : Channel :=
  { c with
    acc := { c.acc with
      st := 0
      stepQ := 0
      stepE := 0 }
    run := { c.run with
      cur := none
      next := none
      nextDone := false
      trans := none
      ctrs := k } }

/-- A mediated transition to END. -/
theorem State.mediate_end {s : State} {n : Fin 256} {u i : Nat} {x : Block} {k : List Nat} {b : Bool}
    (h : (s.slotOf (cfSlot (s.ch n).cfg)).resolve (s.ch n).run.prev (s.ch n).acc u (s.ch n).run.ctrs = some (i, x, k, b))
    (hx : stType x = tEND) (hs : (s.ch n).state = .running ∨ (s.ch n).state = .held) :
    s.mediate n u = ((s.updCh n (Channel.unloaded k)).toState n .done).doneEvent n (s.ch n).run.idx 0 := by
  have runs : (decide ((s.ch n).state = .running) || decide ((s.ch n).state = .held)) = true := by simpa using hs
  simp only [State.mediate, h, if_pos hx, runs, if_true]
  rfl

section
variable {s : State} {e : Fin 8} {it : Item} {n : Fin 256} {u i : Nat} {x : Block} {k : List Nat} {b : Bool}
  (hi : s.quire.onEngine e = some it) (hw : it.work = .mediated n) (ht : (s.ch n).run.trans = some u)
  (hres : (s.slotOf (cfSlot (s.ch n).cfg)).resolve (s.ch n).run.prev (s.ch n).acc u (s.ch n).run.ctrs = some (i, x, k, b))
include hi hw ht hres

theorem ductusMediatedItem_steps (hx : stType x ≠ tEND) :
    Completes (.ductusMediatedItem e) s fun t =>
      (t.ch n).state = (s.ch n).state ∧ (t.ch n).run.trans = none ∧ (t.ch n).run.pos = i ∧ (t.ch n).run.cur = some x ∧ (t.ch n).run.ctrs = k ∧
      (t.ch n).acc = (s.ch n).acc ∧ (t.ch n).run.nextDone = true ∧ (∀ j, j ≠ n → t.ch j = s.ch j) ∧
      t.quire.items = (s.quire.remove 0 it.uid).items := by
  let w := s.finish it.uid
  obtain ⟨oldSet, cur, mediates⟩ := State.mediate_step (s := w) (n := n) (by simpa [w] using hres) hx
  obtain ⟨next, loaded⟩ := State.preload_ch_self n (w.updCh n (Channel.mediateTo i x k oldSet cur w.tb.time))
  rw [State.updCh_ch, State.finish_ch] at loaded
  obtain ⟨state, trans, pos, step, ctrs, acc⟩ := (s.ch n).mediateTo_enters i x k oldSet cur w.tb.time
  refine ⟨_, ((exec_ductusMediatedItem hi hw).1 u ht).trans (congrArg _ mediates), ?_⟩
  simp only [loaded]
  refine ⟨state, trans, pos, step, ctrs, acc, rfl, fun j hj => ?_, s.finish_items it.uid⟩
  rw [State.preload_ch_of_ne _ hj, State.updCh_ch_of_ne _ _ hj.symm, State.finish_ch]

theorem ductusMediatedItem_ends (hx : stType x = tEND) (hs : (s.ch n).state = .running ∨ (s.ch n).state = .held) :
    Completes (.ductusMediatedItem e) s fun t =>
      (t.ch n).state = .done ∧ (t.ch n).run.trans = none ∧ (t.ch n).run.cur = none ∧ (∀ j, j ≠ n → t.ch j = s.ch j) ∧
      s.event 0x0506 INFO n.val ((s.ch n).run.idx % 65536) ∈ t.blot.raised := by
  let w := s.finish it.uid
  have ends := State.mediate_end (s := w) (n := n) (by simpa [w] using hres) hx (by simpa [w] using hs)
  refine ⟨_, ((exec_ductusMediatedItem hi hw).1 u ht).trans (congrArg _ ends), ?_⟩
  simp only [State.doneEvent, State.raise_ch, State.toState_state, State.toState_run_self, State.updCh_ch]
  refine ⟨trivial, rfl, rfl, fun j hj => ?_, List.mem_append_right _ (List.mem_singleton.mpr ?_)⟩
  · rw [State.toState_ch_of_ne _ _ _ hj, State.updCh_ch_of_ne _ _ hj.symm, State.finish_ch]
  · simp [State.event, w]

end

/-! ### Pre-load items (R151) -/

theorem exec_ductusPreloadItem {s : State} {e : Fin 8} {it : Item} {n : Fin 256} (hi : s.quire.onEngine e = some it)
    (hw : it.work = .preload n) : exec (.ductusPreloadItem e) s =
      .next (if (s.ch n).run.trans.isSome || (s.ch n).run.nextDone then s.finish it.uid else (s.finish it.uid).preload n) := by
  show execDuctusPreloadItem e s = _
  simp only [execDuctusPreloadItem, hi, hw, State.finish_ch]

theorem ductusPreloadItem_fills {s : State} {e : Fin 8} {it : Item} {n : Fin 256} (hi : s.quire.onEngine e = some it)
    (hw : it.work = .preload n) (ht : (s.ch n).run.trans = none) (hn : (s.ch n).run.nextDone = false) :
    exec (.ductusPreloadItem e) s = .next ((s.finish it.uid).updCh n fun c => { c with
      run := { c.run with
        next := (s.ch n).primaryNext (s.slotOf (cfSlot (s.ch n).cfg))
        nextDone := true } }) := by
  have fills : (s.finish it.uid).preload n = (s.finish it.uid).updCh n fun c => { c with
      run := { c.run with
        next := (s.ch n).primaryNext (s.slotOf (cfSlot (s.ch n).cfg))
        nextDone := true } } := by
    rw [← State.finish_ch it.uid s n, ← State.finish_slotOf it.uid s]
    rfl
  rw [exec_ductusPreloadItem hi hw, ht, hn, fills]
  rfl

/-- A pre-load that comes too late, or a second one, changes nothing. -/
theorem ductusPreloadItem_late {s : State} {e : Fin 8} {it : Item} {n : Fin 256} (hi : s.quire.onEngine e = some it)
    (hw : it.work = .preload n) (h : (s.ch n).run.trans ≠ none ∨ (s.ch n).run.nextDone = true) :
    exec (.ductusPreloadItem e) s = .next (s.finish it.uid) := by
  rw [exec_ductusPreloadItem hi hw, if_pos]
  rcases h with h | h
  · rw [Option.isSome_iff_ne_none.mpr h, Bool.true_or]
  · rw [h, Bool.or_true]

end Sys2Proof.Machine

namespace Sys2Proof

open Sys2Proof.Machine Sys2Proof.Safety

/-- Settles O33: each clause is the lemma of its row above. -/
theorem ductusItemsComplete : Obligations.DuctusItemsComplete := by
  unfold Obligations.DuctusItemsComplete
  exact ⟨fun _ _ _ _ _ _ _ _ _ hi hwk hl hs hres hx hr hw hd => ductusLoadItem_arms hi hwk hl hs hres hx hr hw hd,
    fun _ _ _ _ _ _ _ _ _ _ hi hwk hl hs hres hx hr hw hd => ductusLoadItem_jumps hi hwk hl hs hres hx hr hw hd,
    fun _ _ _ _ _ _ _ _ _ _ hi hwk hl hs hc hk hres hx hr hw hd => ductusLoadItem_resumes hi hwk hl hs hc hk hres hx hr hw hd,
    fun _ _ _ _ _ _ _ _ _ hi hw ht hres hx _ => ductusMediatedItem_steps hi hw ht hres hx,
    fun _ _ _ _ _ _ _ _ _ hi hw ht hres hx hs => ductusMediatedItem_ends hi hw ht hres hx hs,
    fun _ _ _ _ hi hw ht => (exec_ductusMediatedItem hi hw).2 ht,
    fun _ _ _ _ hi hw ht hn => ductusPreloadItem_fills hi hw ht hn,
    fun _ _ _ _ hi hw h => ductusPreloadItem_late hi hw h⟩

end Sys2Proof
end

section
/-! PROOF. What answers to AX_STOP and messages of the fabric change and leave (R362, R387, R397). -/

namespace Sys2Proof.Machine

/-! ### Answers to AX_STOP (R287, R362) -/

/-- `y` is the axis `x` but for the AX_STOP commands that wait. -/
def SameButStops (x y : Axis) : Prop := { y with stops := x.stops } = x

theorem SameButStops.trans {x y z : Axis} (h : SameButStops x y) (h' : SameButStops y z) : SameButStops x z := by
  unfold SameButStops at h h' ⊢
  rw [← h'] at h
  exact h

/-- A field other than `stops` is the same. -/
theorem SameButStops.field {α : Type} {x y : Axis} (h : SameButStops x y) (f : Axis → α)
    (hf : ∀ (z : Axis) l, f { z with stops := l } = f z := by intros; rfl) : f y = f x :=
  (hf y x.stops).symm.trans (congrArg f h)

/-- `t` is `s` but for the AX_STOP commands that wait at the axes, the Quire, the events and what the mailboxes hold. -/
def OnlyAnswers (s t : State) : Prop :=
  ∃ x q b m, t = { s with
    axis := x
    quire := q
    blot := b
    host := { s.host with mb := m } } ∧ ∀ a, SameButStops (s.ax a) (vget x a)

theorem OnlyAnswers.refl (s : State) : OnlyAnswers s s := ⟨s.axis, s.quire, s.blot, s.host.mb, rfl, fun _ => rfl⟩

theorem OnlyAnswers.trans (s t u : State) : OnlyAnswers s t → OnlyAnswers t u → OnlyAnswers s u := by
  rintro ⟨x, q, b, m, rfl, hx⟩ ⟨x', q', b', m', rfl, hx'⟩
  exact ⟨x', q', b', m', rfl, fun a => (hx a).trans (hx' a)⟩

/-- A change of the Quire, of the events and of what the mailboxes hold. -/
theorem OnlyAnswers.of_mailboxes {s t : State} (h : ∃ q b m, t = { s with
    quire := q
    blot := b
    host := { s.host with mb := m } }) : OnlyAnswers s t := by
  obtain ⟨q, b, m, rfl⟩ := h
  exact ⟨s.axis, q, b, m, rfl, fun _ => rfl⟩

theorem OnlyQuire.onlyAnswers {s t : State} (h : OnlyQuire s t) : OnlyAnswers s t := by
  obtain ⟨q, b, rfl⟩ := h
  exact .of_mailboxes ⟨q, b, s.host.mb, rfl⟩

theorem OnlyAnswers.updMb (k : Fin 8) (f : Mailbox → Mailbox) (s : State) : OnlyAnswers s (s.updMb k f) :=
  .of_mailboxes ⟨_, _, _, rfl⟩

theorem State.respond_onlyAnswers (k : Fin 8) (r : Response) (s : State) : OnlyAnswers s (s.respond k r) := by
  unfold State.respond
  dsimp only
  split
  · exact .updMb k _ s
  · exact .of_mailboxes ⟨_, _, _, rfl⟩

theorem State.dropKept_onlyAnswers (k : Fin 8) (s : State) : OnlyAnswers s (s.dropKept k) := by
  unfold State.dropKept
  split
  · exact (OnlyAnswers.updMb k _ s).trans _ _ _ (State.finish_onlyQuire _ _).onlyAnswers
  · exact .refl s

theorem State.respondHeld_onlyAnswers (k : Fin 8) (r : Response) (s : State) : OnlyAnswers s (s.respondHeld k r) := by
  unfold State.respondHeld
  dsimp only
  split
  · exact .refl s
  · have answered := (OnlyAnswers.updMb k (fun b => { b with working := b.working - 1 }) s).trans _ _ _ (State.respond_onlyAnswers k r _)
    split
    · exact answered
    · exact answered.trans _ _ _ (State.dropKept_onlyAnswers k _)

theorem State.respondLate_onlyAnswers (m : MbCmd) (r : Response) (s : State) : OnlyAnswers s (s.respondLate m r) := by
  unfold State.respondLate
  split
  · exact .refl s
  · exact State.respondHeld_onlyAnswers _ _ s

theorem OnlyAnswers.dropStops (a : Fin 8) (s : State) : OnlyAnswers s (s.updAx a fun x => { x with stops := [] }) := by
  refine ⟨_, s.quire, s.blot, s.host.mb, rfl, fun c => ?_⟩
  rw [vget_vset]
  split
  next h => subst h; rfl
  next => rfl

theorem State.answerStops_onlyAnswers (a : Fin 8) (s : State) : OnlyAnswers s (s.answerStops a) := by
  unfold State.answerStops
  split
  · exact .refl s
  · exact (OnlyAnswers.dropStops a s).trans _ _ _
      (forAll_rel OnlyAnswers.refl OnlyAnswers.trans (fun m t => State.respondLate_onlyAnswers m _ t) _ _)

theorem State.answerAllStops_onlyAnswers (s : State) : OnlyAnswers s (forAll State.answerStops allAxes s) :=
  forAll_rel OnlyAnswers.refl OnlyAnswers.trans State.answerStops_onlyAnswers _ s

/-! ### Frames that leave (R387, R388) -/

/-- `t` is `s` but for the fabric and the events, and each port that `out` does not allow is as it was. -/
def SendsOn (out : Fin 4 → Prop) (s t : State) : Prop :=
  ∃ f b, t = { s with
    fab := f
    blot := b } ∧ ∀ p, ¬ out p → vget f.port p = s.port p

theorem SendsOn.refl (out : Fin 4 → Prop) (s : State) : SendsOn out s s := ⟨s.fab, s.blot, rfl, fun _ _ => rfl⟩

theorem SendsOn.trans {out : Fin 4 → Prop} (s t u : State) : SendsOn out s t → SendsOn out t u → SendsOn out s u := by
  rintro ⟨f, b, rfl, hf⟩ ⟨f', b', rfl, hf'⟩
  exact ⟨f', b', rfl, fun p hp => (hf' p hp).trans (hf p hp)⟩

/-- A change of the fabric that leaves the ports, and of the events. -/
theorem SendsOn.of_port {out : Fin 4 → Prop} {s t : State} (h : ∃ f b, t = { s with
    fab := f
    blot := b } ∧ f.port = s.fab.port) : SendsOn out s t := by
  obtain ⟨f, b, rfl, hp⟩ := h
  exact ⟨f, b, rfl, fun p _ => congrArg (fun v => vget v p) hp⟩

theorem State.sendPacket_sendsOn {out : Fin 4 → Prop} {p : Fin 4} (c : Nat) (x : Packet) (s : State) (h : out p) :
    SendsOn out s (s.sendPacket p c x) := by
  unfold State.sendPacket
  split
  · exact ⟨_, s.blot, rfl, fun q hq => vget_vset_of_ne _ _ fun e => hq (e ▸ h)⟩
  · exact .of_port ⟨_, _, rfl, rfl⟩

theorem State.sendAll_sendsOn {out : Fin 4 → Prop} {ps : List (Fin 4)} (f : Frame) (s : State) (h : ∀ p ∈ ps, out p) :
    SendsOn out s (s.sendAll ps f) := by
  induction ps generalizing s with
  | nil => exact .refl out s
  | cons p ps ih =>
    exact (State.sendPacket_sendsOn _ _ s (h p List.mem_cons_self)).trans _ _ _ (ih _ fun q hq => h q (List.mem_cons_of_mem p hq))

/-- Frames to a group and flood frames leave on ports that are UP (R387). -/
theorem State.up_of_mem_groupEgress {s : State} {dst : BitVec 16} {i : Option (Fin 4)} {p : Fin 4} (h : p ∈ s.groupEgress dst i) :
    (s.port p).up = true := by
  unfold State.groupEgress at h
  split at h
  · simp only [State.floodPorts, List.mem_filter, Bool.and_eq_true] at h
    exact h.2.1
  · split at h
    · simp only [State.groupPorts, List.mem_filter, Bool.and_eq_true] at h
      exact h.2.1.1
    · exact absurd h List.not_mem_nil

theorem State.passNotice_sendsOn {out : Fin 4 → Prop} (f : Frame) (i : Option (Fin 4)) (s : State)
    (h : ∀ p, (s.port p).up = true → out p) : SendsOn out s (s.passNotice f i) := by
  have passed : SendsOn out s
      (if f.hops < f.hopLimit then s.sendAll (s.groupEgress aNOTICE i) (if i.isSome then hop f else f) else s) := by
    split
    · exact State.sendAll_sendsOn _ s fun p hp => h p (State.up_of_mem_groupEgress hp)
    · exact .refl out s
  unfold State.passNotice
  dsimp only
  split
  · split
    · exact passed.trans _ _ _ (.of_port ⟨_, _, rfl, rfl⟩)
    · exact passed
  · exact passed

/-- The notice cache is no port's. -/
theorem State.noticeCache_cases (subject code : BitVec 16) (s : State) : ∃ f b, s.noticeCache subject code = { s with
    fab := f
    blot := b } ∧ f.port = s.fab.port := by
  unfold State.noticeCache
  dsimp only
  split
  · exact ⟨_, s.blot, rfl, rfl⟩
  · split
    · split <;> split <;> exact ⟨_, _, rfl, rfl⟩
    · exact ⟨_, s.blot, rfl, rfl⟩

/-- A notice leaves on ports that are UP (R397). -/
theorem State.notice_sendsOn {out : Fin 4 → Prop} (code : Nat) (subject : BitVec 16) (param : Nat) (s : State)
    (h : ∀ p, (s.port p).up = true → out p) : SendsOn out s (s.notice code subject param) := by
  unfold State.notice
  dsimp only
  split
  · obtain ⟨f, b, e, hp⟩ := s.noticeCache_cases subject (BitVec.ofNat 16 code)
    rw [e]
    have cached : SendsOn out s (({ s with
        fab := f
        blot := b } : State).markFlood (s.ownFrame tNOTICE aNOTICE false false
          (noticeWords subject (BitVec.ofNat 16 code) (w32 param) s.tb.time s.tb.era) 20)).countFrame :=
      .of_port ⟨_, _, rfl, hp⟩
    refine cached.trans _ _ _ (State.passNotice_sendsOn _ _ _ fun p up => h p ?_)
    have same : vget f.port p = s.port p := congrArg (fun v => vget v p) hp
    rw [← same]
    exact up
  · exact .of_port ⟨_, s.blot, rfl, rfl⟩

/-! ### A port goes DOWN (R379, R386) -/

/-- The port after it has gone DOWN. -/
def Port.down (q : Port) : Port :=
  { q with
    up := false
    usable := false
    q0 := []
    q1 := []
    q2 := []
    switchovers := satAdd q.switchovers 1 }

/-- Its own notices do not leave on the port that has gone DOWN. -/
theorem State.goDown_cases (p : Fin 4) (silent : Bool) (s : State) : ∃ f b h, s.goDown p silent = { s with
    fab := f
    blot := b
    host := h } ∧ h.resetCause = s.host.resetCause ∧ vget f.port p = (s.port p).down := by
  let told (t : State) : Prop := ∃ f b h, t = { s with
    fab := f
    blot := b
    host := h } ∧ h.resetCause = s.host.resetCause ∧ vget f.port p = (s.port p).down
  have notice : ∀ code subject t, told t → told (t.notice code subject p.val) := by
    rintro code subject t ⟨f, b, h, rfl, cause, port⟩
    have off : ∀ q, (vget f.port q).up = true → q ≠ p := by
      rintro q up rfl
      rw [port] at up
      exact Bool.false_ne_true up
    obtain ⟨f', b', e, same⟩ := State.notice_sendsOn (out := (· ≠ p)) code subject p.val ({ s with
      fab := f
      blot := b
      host := h } : State) off
    exact ⟨f', b', h, e, cause, (same p (not_not.mpr rfl)).trans port⟩
  have gone : told ((((s.updPort p Port.down).raise 0x0D02 NOTICE p.val (b2n silent)).raise 0x0D03 NOTICE p.val
      (satAdd (s.port p).switchovers 1)).irq 17) :=
    ⟨_, _, _, rfl, HostIf.irq_resetCause _ _ _, vget_vset_self _ _ _⟩
  unfold State.goDown
  dsimp only
  split
  · exact notice 3 _ _ (notice 1 _ _ gone)
  · exact notice 1 _ _ gone

end Sys2Proof.Machine
end

section
/-! PROOF. Block resets (R187, R243, R261, R316, R399, R454, R455): what the reset of each block changes, and what all of them leave. -/

namespace Sys2Proof.Machine

open Sys2Proof.Safety

/-! ### What every block's reset leaves -/

/-- `t` has the channels, the Vellum, the reset logic and RESET_CAUSE of `s`. -/
structure InBlock (s t : State) : Prop where
  chan : t.chan = s.chan
  vel : t.vel = s.vel
  rst : t.rst = s.rst
  cause : t.host.resetCause = s.host.resetCause

theorem InBlock.refl (s : State) : InBlock s s := ⟨rfl, rfl, rfl, rfl⟩

theorem InBlock.trans {s t u : State} (h : InBlock s t) (h' : InBlock t u) : InBlock s u :=
  ⟨h'.chan.trans h.chan, h'.vel.trans h.vel, h'.rst.trans h.rst, h'.cause.trans h.cause⟩

theorem OnlyQuire.inBlock {s t : State} (h : OnlyQuire s t) : InBlock s t := by
  obtain ⟨q, b, rfl⟩ := h
  exact ⟨rfl, rfl, rfl, rfl⟩

theorem OnlyAnswers.inBlock {s t : State} (h : OnlyAnswers s t) : InBlock s t := by
  obtain ⟨x, q, b, m, rfl, -⟩ := h
  exact ⟨rfl, rfl, rfl, rfl⟩

theorem PathReset.inBlock {s t : State} (h : PathReset s t) : InBlock s t := ⟨h.chan, h.vel, h.rst, h.cause⟩

/-! ### A Pounce unit (R243) -/

theorem State.resetUnit_inBlock (u : Fin 32) (s : State) : InBlock s (s.resetUnit u) := by
  unfold State.resetUnit
  dsimp only
  split <;> exact ⟨rfl, rfl, rfl, rfl⟩

theorem State.resetUnit_unit_self {u : Fin 32} {s : State} (h : (s.unit u).state ≠ .idle) :
    (s.resetUnit u).unit u = (s.unit u).empty := by
  rw [State.resetUnit, if_neg h, State.raise_unit, State.updUnit_unit]

theorem State.resetUnit_unit_of_ne {u v : Fin 32} (s : State) (h : v ≠ u) : (s.resetUnit u).unit v = s.unit v := by
  unfold State.resetUnit
  dsimp only
  split
  · rfl
  · exact State.updUnit_unit_of_ne _ s h.symm

/-! ### The Inkwell controller (R261) -/

theorem State.resetInkwell_inBlock (k : Nat) (s : State) : InBlock s (s.resetInkwell k) := by
  unfold State.resetInkwell
  dsimp only
  split <;> exact ⟨rfl, rfl, rfl, rfl⟩

/-- The store stays usable and its retired pages stay retired; a reset that drops no record keeps those that wait. -/
theorem State.resetInkwell_ink (k : Nat) (s : State) : (s.resetInkwell k).ink.dramOk = s.ink.dramOk ∧
    (s.resetInkwell k).ink.retired = s.ink.retired ∧ (k = 0 → (s.resetInkwell k).ink.waiting = s.ink.waiting) := by
  unfold State.resetInkwell
  dsimp only
  split
  next => exact ⟨rfl, rfl, fun h => by rw [h]; rfl⟩
  next kept => exact ⟨rfl, rfl, fun h => absurd (by rw [h]; rfl) kept⟩

/-! ### The stroke unit (R316) -/

/-- The stroke unit after its reset, before AX_STOP is answered. -/
def State.strokeCleared (s : State) : State :=
  { s with
    axis := s.axis.map Axis.blockReset
    linear := []
    margin := { s.margin with referenced := 0 } }

theorem State.resetStroke_onlyAnswers (s : State) : OnlyAnswers s.strokeCleared s.resetStroke := s.strokeCleared.answerAllStops_onlyAnswers

theorem State.resetStroke_inBlock (s : State) : InBlock s s.resetStroke :=
  InBlock.trans (t := s.strokeCleared) ⟨rfl, rfl, rfl, rfl⟩ s.resetStroke_onlyAnswers.inBlock

/-- Moves and references are lost; each axis keeps its position and its configuration. -/
theorem State.resetStroke_clears (s : State) : s.resetStroke.linear = [] ∧ s.resetStroke.margin.referenced = 0 ∧
    ∀ a, (s.resetStroke.ax a).state = .disabled ∧ (s.resetStroke.ax a).pos = (s.ax a).pos ∧ (s.resetStroke.ax a).homed = false ∧
      (s.resetStroke.ax a).cfg = (s.ax a).cfg := by
  obtain ⟨x, q, b, m, e, hx⟩ := s.resetStroke_onlyAnswers
  rw [e]
  refine ⟨rfl, rfl, fun a => ?_⟩
  have cleared : s.strokeCleared.ax a = (s.ax a).blockReset := vget_map _ _ a
  have same : SameButStops (s.ax a).blockReset (vget x a) := cleared ▸ hx a
  exact ⟨same.field Axis.state, same.field Axis.pos, same.field Axis.homed, same.field Axis.cfg⟩

/-! ### A Ligature port (R399) -/

/-- The port's link after its reset, its queues as yet as they were. -/
def Port.unlinked (q : Port) : Port :=
  { q with
    lock := false
    hiBer := false
    heard := none
    helloAt := none
    onWire := [] }

theorem State.resetPort_eq (p : Fin 4) (s : State) : s.resetPort p =
    if (s.port p).up then (s.updPort p Port.unlinked).goDown p false
    else (s.updPort p Port.unlinked).updPort p fun q => { q with
      q0 := []
      q1 := []
      q2 := [] } := rfl

/-- The port is down, and its queues are empty. -/
def Port.isDown (q : Port) : Prop := q.up = false ∧ q.q0 = [] ∧ q.q1 = [] ∧ q.q2 = []

theorem State.resetPort_cases (p : Fin 4) (s : State) : InBlock s (s.resetPort p) ∧ ((s.resetPort p).port p).isDown := by
  rw [State.resetPort_eq]
  split
  next =>
    obtain ⟨f, b, h, e, cause, port⟩ := State.goDown_cases p false (s.updPort p Port.unlinked)
    rw [e]
    refine ⟨⟨rfl, rfl, rfl, cause⟩, ?_⟩
    rw [State.port, port]
    exact ⟨rfl, rfl, rfl, rfl⟩
  next down =>
    refine ⟨⟨rfl, rfl, rfl, rfl⟩, ?_⟩
    rw [State.updPort_port, State.updPort_port]
    exact ⟨Bool.eq_false_of_not_eq_true down, rfl, rfl, rfl⟩

/-! ### What each of them leaves -/

theorem State.resetBlock_inBlock (b j k : Nat) (s : State) : InBlock s (s.resetBlock b j k) := by
  unfold State.resetBlock
  split
  · exact (State.requeue_onlyQuire _ _ s).inBlock
  · exact s.resetUnit_inBlock _
  · exact (State.requeue_onlyQuire _ _ s).inBlock.trans (State.resetInkwell_inBlock _ _)
  · exact (State.requeue_onlyQuire _ _ s).inBlock.trans (State.resetStroke_inBlock _)
  · exact s.hotReset_resets.inBlock
  · exact (s.resetPort_cases _).1
  · exact .refl s

/-! ### Block by block (R340) -/

theorem State.resetBlock_pounce (j k : Nat) (s : State) : s.resetBlock 2 j k = s.resetUnit (Fin.ofNat 32 j) := rfl

theorem State.resetBlock_inkwell (j k : Nat) (s : State) :
    s.resetBlock 3 j k = (s.requeue 1 fun i => i.target == .inkwell).resetInkwell k := rfl

theorem State.resetBlock_stroke (j k : Nat) (s : State) :
    s.resetBlock 4 j k = (s.requeue 1 fun i => i.target == .stroke).resetStroke := rfl

theorem State.resetBlock_port (j k : Nat) (s : State) : s.resetBlock 6 j k = s.resetPort (Fin.ofNat 4 j) := rfl

theorem State.resetBlock_inkwell_ink (j k : Nat) (s : State) : (s.resetBlock 3 j k).ink.dramOk = s.ink.dramOk ∧
    (s.resetBlock 3 j k).ink.retired = s.ink.retired ∧ (k = 0 → (s.resetBlock 3 j k).ink.waiting = s.ink.waiting) := by
  have same : (s.requeue 1 fun i => i.target == .inkwell).ink = s.ink := by
    obtain ⟨q, b, e⟩ := State.requeue_onlyQuire 1 (fun i => i.target == .inkwell) s
    rw [e]
  rw [State.resetBlock_inkwell, ← same]
  exact State.resetInkwell_ink k _

theorem State.resetBlock_stroke_clears (j k : Nat) (s : State) :
    (s.resetBlock 4 j k).linear = [] ∧ (s.resetBlock 4 j k).margin.referenced = 0 ∧
    ∀ a, ((s.resetBlock 4 j k).ax a).state = .disabled ∧ ((s.resetBlock 4 j k).ax a).pos = (s.ax a).pos ∧
      ((s.resetBlock 4 j k).ax a).homed = false ∧ ((s.resetBlock 4 j k).ax a).cfg = (s.ax a).cfg := by
  have same : ∀ a, (s.requeue 1 fun i => i.target == .stroke).ax a = s.ax a := fun a => by
    obtain ⟨q, b, e⟩ := State.requeue_onlyQuire 1 (fun i => i.target == .stroke) s
    rw [e]
    rfl
  simp only [State.resetBlock_stroke, ← same]
  exact State.resetStroke_clears _

/-! ### The row's effect (R454) -/

/-- The state in which the block's reset acts: its request is taken, CTL_B and REACH are recorded. -/
def State.takeRequest (l : List (Nat × Nat)) (s : State) : State :=
  State.cause (2 ^ 7) 3 { s with rst := { s.rst with block := l } }

/-- PARAM of 0x1003. -/
def blockResetParam (j : Nat) (forced : Bool) (k : Nat) : Nat := j + 2 ^ 8 * b2n forced + 2 ^ 32 * (k % 2 ^ 32)

theorem State.blockReset_of_head {s : State} {b j : Nat} {l : List (Nat × Nat)} (forced : Bool) (k : Nat) (h : s.rst.block = (b, j) :: l)
    (h5 : b = 5 → s.hostAlone = true) :
    s.blockReset forced k = ((s.takeRequest l).resetBlock b j k).raise 0x1003 NOTICE b (blockResetParam j forced k) := by
  have alone : (b = 5 && !s.hostAlone) = false := by
    by_cases hb : b = 5
    · simp [hb, h5 hb]
    · simp [hb]
  rw [State.blockReset, h]
  dsimp only
  rw [alone]
  rfl

/-- Reach C of a host interface covers the reset of its own that waits (R466). -/
theorem State.blockReset_covered {s : State} {j : Nat} {l : List (Nat × Nat)} (forced : Bool) (k : Nat) (h : s.rst.block = (5, j) :: l)
    (ha : s.hostAlone = false) : s.blockReset forced k = { s with rst := { s.rst with block := l } } := by
  simp [State.blockReset, h, ha]

/-- What every reset of a block records and leaves. -/
theorem State.blockReset_records {s : State} {b j : Nat} {l : List (Nat × Nat)} (forced : Bool) (k : Nat) (h : s.rst.block = (b, j) :: l)
    (h5 : b = 5 → s.hostAlone = true) :
    (s.blockReset forced k).rst.block = l ∧ bit (s.blockReset forced k).host.resetCause 7 = true ∧
    (∃ e, (s.blockReset forced k).blot.raised.getLast? = some e ∧ e.code = 0x1003 ∧
      e.param = BitVec.ofNat 64 (j + 256 * (if forced = true then 1 else 0) + 2 ^ 32 * (k % 2 ^ 32))) ∧
    (s.blockReset forced k).chan = s.chan ∧ (s.blockReset forced k).vel = s.vel := by
  obtain ⟨chan, vel, rst, cause⟩ := State.resetBlock_inBlock b j k (s.takeRequest l)
  rw [State.blockReset_of_head forced k h h5]
  refine ⟨congrArg Reset.block rst, ?_, ⟨_, List.getLast?_concat .., rfl, rfl⟩, chan, vel⟩
  rw [State.raise_host, cause]
  exact State.cause_bit_own 3 _ (by decide) (by decide) (by decide)

/-! ### The rows -/

/-- The rows by which the first reset that waits acts: its block is idle, or B_TIMEOUT has passed. -/
theorem exec_blockReset {s : State} {b j : Nat} {l : List (Nat × Nat)} {i : Instr} {forced : Bool} {k : Nat}
    (hi : (i = .blockResetIdle ∧ forced = false ∧ k = 0 ∧ s.blockIdle = true) ∨
      (i = .blockResetForced k ∧ forced = true ∧ s.ranOut (.block b j) = true)) (h : s.rst.block = (b, j) :: l) :
    exec i s = .next (s.blockReset forced k) := by
  rcases hi with ⟨rfl, rfl, rfl, idle⟩ | ⟨rfl, rfl, passed⟩
  · show execBlockResetIdle s = _
    rw [execBlockResetIdle, if_pos idle]
  · show execBlockResetForced k s = _
    simp [execBlockResetForced, h, passed]

theorem blockReset_none {s : State} (h : s.rst.block = []) :
    exec .blockResetIdle s = .next s ∧ ∀ k, exec (.blockResetForced k) s = .next s := by
  refine ⟨?_, fun k => ?_⟩
  · show execBlockResetIdle s = _
    simp [execBlockResetIdle, State.blockReset, h]
  · show execBlockResetForced k s = _
    simp [execBlockResetForced, State.blockReset, h]

theorem blockResetIdle_waits {s : State} (h : s.blockIdle = false) : exec .blockResetIdle s = .next s := by
  show execBlockResetIdle s = _
  simp [execBlockResetIdle, h]

theorem blockResetForced_waits {s : State} {b j : Nat} {l : List (Nat × Nat)} (k : Nat) (h : s.rst.block = (b, j) :: l)
    (hr : s.ranOut (.block b j) = false) : exec (.blockResetForced k) s = .next s := by
  show execBlockResetForced k s = _
  simp [execBlockResetForced, h, hr]

/-- A request for the host interface under reach C is discarded, without a record. -/
theorem blockReset_discards {s : State} {j : Nat} {l : List (Nat × Nat)} {i : Instr}
    (hi : i = .blockResetIdle ∨ (s.ranOut (.block 5 j) = true ∧ ∃ k, i = .blockResetForced k)) (h : s.rst.block = (5, j) :: l)
    (ha : s.hostAlone = false) : Completes i s fun t => t.rst.block = l ∧ { t with rst := s.rst } = s := by
  obtain ⟨forced, k, acts⟩ : ∃ forced k, exec i s = .next (s.blockReset forced k) := by
    rcases hi with rfl | ⟨passed, k, rfl⟩
    · exact ⟨false, 0, exec_blockReset (.inl ⟨rfl, rfl, rfl, by simp [State.blockIdle, h]⟩) h⟩
    · exact ⟨true, k, exec_blockReset (.inr ⟨rfl, rfl, passed⟩) h⟩
  rw [State.blockReset_covered forced k h ha] at acts
  exact ⟨_, acts, rfl, rfl⟩

/-- The reset of each block, by the codes of R340. -/
theorem blockReset_acts {s : State} {b j : Nat} {l : List (Nat × Nat)} {i : Instr} {forced : Bool} {k : Nat}
    (hi : (i = .blockResetIdle ∧ forced = false ∧ k = 0 ∧ s.blockIdle = true) ∨
      (i = .blockResetForced k ∧ forced = true ∧ s.ranOut (.block b j) = true)) (h : s.rst.block = (b, j) :: l)
    (h5 : b = 5 → s.hostAlone = true) :
    (Completes i s fun t => t.rst.block = l ∧ bit t.host.resetCause 7 = true ∧
      (∃ e, t.blot.raised.getLast? = some e ∧ e.code = 0x1003 ∧
        e.param = BitVec.ofNat 64 (j + 256 * (if forced = true then 1 else 0) + 2 ^ 32 * (k % 2 ^ 32))) ∧
      t.chan = s.chan ∧ t.vel = s.vel) ∧
    (b = 2 → Completes i s fun t => ((s.unit (Fin.ofNat 32 j)).state ≠ .idle → (t.unit (Fin.ofNat 32 j)).state = .configured ∧
      (t.unit (Fin.ofNat 32 j)).stored = 0) ∧ (∀ u, u ≠ Fin.ofNat 32 j → t.unit u = s.unit u)) ∧
    (b = 3 → Completes i s fun t => t.ink.dramOk = s.ink.dramOk ∧ t.ink.retired = s.ink.retired ∧
      (k = 0 → t.ink.waiting = s.ink.waiting)) ∧
    (b = 4 → Completes i s fun t => t.linear = [] ∧ t.margin.referenced = 0 ∧
      ∀ a, (t.ax a).state = .disabled ∧ (t.ax a).pos = (s.ax a).pos ∧ (t.ax a).homed = false ∧ (t.ax a).cfg = (s.ax a).cfg) ∧
    (b = 6 → Completes i s fun t => (t.port (Fin.ofNat 4 j)).up = false ∧ (t.port (Fin.ofNat 4 j)).q0 = [] ∧
      (t.port (Fin.ofNat 4 j)).q1 = [] ∧ (t.port (Fin.ofNat 4 j)).q2 = []) := by
  have acts := exec_blockReset hi h
  have parts := State.blockReset_of_head forced k h h5
  refine ⟨⟨_, acts, State.blockReset_records forced k h h5⟩, ?_, ?_, ?_, ?_⟩ <;> rintro rfl <;> rw [parts] at acts <;>
    refine ⟨_, acts, ?_⟩
  · simp only [State.raise_unit, State.resetBlock_pounce]
    refine ⟨fun busy => ?_, fun u hu => State.resetUnit_unit_of_ne (s.takeRequest l) hu⟩
    rw [State.resetUnit_unit_self (s := s.takeRequest l) busy]
    exact ⟨rfl, rfl⟩
  · simp only [State.raise_ink]
    exact State.resetBlock_inkwell_ink j k (s.takeRequest l)
  · simp only [State.raise_linear, State.raise_margin, State.raise_ax]
    exact State.resetBlock_stroke_clears j k (s.takeRequest l)
  · simp only [State.raise_port, State.resetBlock_port]
    exact ((s.takeRequest l).resetPort_cases (Fin.ofNat 4 j)).2

end Sys2Proof.Machine
end

section
/-! PROOF. The power-fail sequence (R61, R476): what its start does to channels and axes, and what its last writes leave. -/

namespace Sys2Proof.Machine

open Sys2Proof.Safety

/-! ### Loops over different channels -/

/-- After passes over different channels, each of which changes its own channel only, a channel is as its own pass has left it. -/
theorem forAll_ch_of_nodup {f : Fin 256 → State → State} (own : ∀ n m s, m ≠ n → (f n s).ch m = s.ch m) {l : List (Fin 256)}
    (hl : l.Nodup) (s : State) (m : Fin 256) : (m ∉ l → (forAll f l s).ch m = s.ch m) ∧
    (m ∈ l → ∃ t : State, t.ch m = s.ch m ∧ (forAll f l s).ch m = (f m t).ch m) := by
  induction l generalizing s with
  | nil => exact ⟨fun _ => rfl, fun h => absurd h List.not_mem_nil⟩
  | cons n l ih =>
    obtain ⟨new, rest⟩ := List.nodup_cons.mp hl
    obtain ⟨out, in_⟩ := ih rest (f n s)
    rcases eq_or_ne m n with rfl | hne
    · exact ⟨fun h => absurd List.mem_cons_self h, fun _ => ⟨s, rfl, out new⟩⟩
    · have same := own n m s hne
      refine ⟨fun h => (out fun hm => h (List.mem_cons_of_mem n hm)).trans same, fun h => ?_⟩
      obtain ⟨t, ht, e⟩ := in_ ((List.mem_cons.mp h).resolve_left hne)
      exact ⟨t, ht.trans same, e⟩

/-! ### A channel under way (R61) -/

theorem State.rampDown_frame (n : Fin 256) (b : Bool) (s : State) : ∃ c e, s.rampDown n b = { s with
    chan := c
    blot := e } ∧ ∀ m, m ≠ n → vget c m = s.ch m := by
  unfold State.rampDown
  dsimp only
  split <;> exact ⟨_, _, rfl, fun m h => vget_vset_of_ne _ _ h.symm⟩

/-- A channel that has latched a period ramps down. -/
theorem State.rampDown_of_latched {n : Fin 256} {s : State} (b : Bool) (h : (s.ch n).drive.period ≠ 0) :
    ∃ r, (s.rampDown n b).ch n = { s.ch n with drive := { (s.ch n).drive with ramp := some r } } := by
  unfold State.rampDown
  dsimp only
  rw [if_neg h, State.raise_ch, State.updCh_ch]
  exact ⟨_, rfl⟩

theorem State.rampDown_of_unlatched {n : Fin 256} {s : State} (b : Bool) (h : (s.ch n).drive.period = 0) :
    (s.rampDown n b).ch n = { s.ch n with drive := (s.ch n).drive.low } := by
  unfold State.rampDown
  dsimp only
  rw [if_pos h, State.updCh_ch]

theorem State.pfailChannel_frame (n : Fin 256) (s : State) : ∃ c e, s.pfailChannel n = { s with
    chan := c
    blot := e } ∧ ∀ m, m ≠ n → vget c m = s.ch m := by
  obtain ⟨c, e, ramped, others⟩ := s.rampDown_frame n true
  unfold State.pfailChannel
  dsimp only
  rw [ramped]
  split
  · exact ⟨_, e, rfl, fun m h => (vget_vset_of_ne c _ h.symm).trans (others m h)⟩
  · exact ⟨c, e, rfl, others⟩

theorem State.pfailChannel_ch_of_ne (n m : Fin 256) (s : State) (h : m ≠ n) : (s.pfailChannel n).ch m = s.ch m := by
  obtain ⟨c, e, eq, others⟩ := s.pfailChannel_frame n
  rw [eq]
  exact others m h

theorem State.pfailChannel_of_latched {n : Fin 256} {s : State} (h : (s.ch n).drive.period ≠ 0) :
    ((s.pfailChannel n).ch n).state = (s.ch n).state ∧ ((s.pfailChannel n).ch n).drive.ramp.isSome = true := by
  obtain ⟨r, ramped⟩ := State.rampDown_of_latched true h
  unfold State.pfailChannel
  dsimp only
  rw [if_neg (by rw [ramped]; exact Bool.false_ne_true), ramped]
  exact ⟨rfl, rfl⟩

/-- With no period latched the gates are low at once, and the PFAIL checkpoint of a channel under way is due (R476). -/
theorem State.pfailChannel_of_unlatched {n : Fin 256} {s : State} (h : (s.ch n).drive.period = 0) :
    ((s.pfailChannel n).ch n).state = (s.ch n).state ∧ ((s.pfailChannel n).ch n).drive.driving = false ∧
    ((s.ch n).state.active = true → ((s.pfailChannel n).ch n).pfailDue = true) := by
  have low := State.rampDown_of_unlatched true h
  have cause : bits (((s.rampDown n true).ckptWords n 4).getD 0 0) 27 24 = 4 := (State.ckptWords_state_cause (by decide)).2
  unfold State.pfailChannel
  dsimp only
  rw [if_pos (by rw [low]; rfl), State.ckpt, State.updCh_ch]
  refine ⟨by rw [low], by rw [low]; rfl, fun active => ?_⟩
  have under : ((s.rampDown n true).ch n).state.active = true := by rw [low]; exact active
  simp only [Channel.pfailDue, under, cause]
  simp

/-! ### The channels at the start of the sequence (R476) -/

/-- Ramp-down, or a checkpoint, of every channel under way. -/
def State.pfailChannels (s : State) : State := forAll State.pfailChannel (allChannels.filter fun n => (s.ch n).state.active) s

theorem State.pfailChannels_frame (s : State) : ∃ c e, s.pfailChannels = { s with
    chan := c
    blot := e } := by
  refine forAll_rel (R := fun s t => ∃ c e, t = { s with
    chan := c
    blot := e }) (fun s => ⟨s.chan, s.blot, rfl⟩) ?_ (fun n s => ?_) _ s
  · rintro s t u ⟨_, _, rfl⟩ ⟨c, e, rfl⟩
    exact ⟨c, e, rfl⟩
  · obtain ⟨c, e, eq, -⟩ := s.pfailChannel_frame n
    exact ⟨c, e, eq⟩

theorem State.pfailChannels_ch (s : State) (n : Fin 256) :
    ((s.ch n).state.active = false → s.pfailChannels.ch n = s.ch n) ∧
    ((s.ch n).state.active = true → ∃ t : State, t.ch n = s.ch n ∧ s.pfailChannels.ch n = (t.pfailChannel n).ch n) := by
  have mem : n ∈ allChannels.filter (fun n => (s.ch n).state.active) ↔ (s.ch n).state.active = true := by simp [allChannels]
  obtain ⟨out, in_⟩ := forAll_ch_of_nodup State.pfailChannel_ch_of_ne ((List.nodup_finRange 256).filter fun n => (s.ch n).state.active) s n
  exact ⟨fun h => out fun hm => by simp [mem.mp hm] at h, fun h => in_ (mem.mpr h)⟩

theorem State.pfailChannels_state (s : State) (n : Fin 256) : (s.pfailChannels.ch n).state = (s.ch n).state := by
  obtain ⟨out, in_⟩ := s.pfailChannels_ch n
  cases active : (s.ch n).state.active with
  | false => rw [out active]
  | true =>
    obtain ⟨t, same, e⟩ := in_ active
    rw [e, ← same]
    by_cases latched : (t.ch n).drive.period = 0
    · exact (State.pfailChannel_of_unlatched latched).1
    · exact (State.pfailChannel_of_latched latched).1

theorem State.pfailChannels_of_latched {s : State} {n : Fin 256} (ha : (s.ch n).state.active = true) (hp : (s.ch n).drive.period ≠ 0) :
    (s.pfailChannels.ch n).drive.ramp.isSome = true := by
  obtain ⟨t, same, e⟩ := (s.pfailChannels_ch n).2 ha
  rw [e]
  exact (State.pfailChannel_of_latched (same ▸ hp)).2

theorem State.pfailChannels_of_unlatched {s : State} {n : Fin 256} (ha : (s.ch n).state.active = true) (hp : (s.ch n).drive.period = 0) :
    (s.pfailChannels.ch n).drive.driving = false ∧ (s.pfailChannels.ch n).pfailDue = true := by
  obtain ⟨t, same, e⟩ := (s.pfailChannels_ch n).2 ha
  obtain ⟨-, low, due⟩ := State.pfailChannel_of_unlatched (same ▸ hp : (t.ch n).drive.period = 0)
  rw [e]
  exact ⟨low, due (same ▸ ha)⟩

/-! ### The last writes (R476) -/

/-- `t` is `s` but for the records, the fabric, the Vellum, the events and the host interface, which transmits as before. -/
def OnlyWrites (s t : State) : Prop :=
  ∃ i v b f h, t = { s with
    ink := i
    vel := v
    blot := b
    fab := f
    host := h } ∧ h.txOff = s.host.txOff

theorem OnlyWrites.refl (s : State) : OnlyWrites s s := ⟨s.ink, s.vel, s.blot, s.fab, s.host, rfl, rfl⟩

theorem OnlyWrites.trans (s t u : State) : OnlyWrites s t → OnlyWrites t u → OnlyWrites s u := by
  rintro ⟨i, v, b, f, h, rfl, hx⟩ ⟨i', v', b', f', h', rfl, hx'⟩
  exact ⟨i', v', b', f', h', rfl, hx'.trans hx⟩

theorem OnlyWears.onlyWrites {s t : State} (h : OnlyWears s t) : OnlyWrites s t := by
  obtain ⟨v, b, rfl, -⟩ := h
  exact ⟨s.ink, v, b, s.fab, s.host, rfl, rfl⟩

theorem SendsOn.onlyWrites {out : Fin 4 → Prop} {s t : State} (h : SendsOn out s t) : OnlyWrites s t := by
  obtain ⟨f, b, rfl, -⟩ := h
  exact ⟨s.ink, s.vel, b, f, s.host, rfl, rfl⟩

theorem OnlyWrites.of_blot (b : Blotter) (s : State) : OnlyWrites s { s with blot := b } := ⟨s.ink, s.vel, b, s.fab, s.host, rfl, rfl⟩

theorem State.record_onlyWrites (r : Rec) (s : State) : OnlyWrites s (s.record r) := by
  unfold State.record
  split <;> exact ⟨_, s.vel, _, s.fab, s.host, rfl, rfl⟩

theorem State.irq_onlyWrites (v : Nat) (s : State) : OnlyWrites s (s.irq v) :=
  ⟨s.ink, s.vel, s.blot, s.fab, _, rfl, HostIf.irq_txOff v false s.host⟩

theorem State.seat_onlyWrites (ev : Event) (count : Nat) (summary : Bool) (s : State) : OnlyWrites s (s.seat ev count summary) := by
  have when_ : ∀ (c : Prop) [Decidable c] (t u : State), OnlyWrites s t → OnlyWrites t u → OnlyWrites s (if c then u else t) := by
    intro c _ t u ht hu
    split
    · exact ht.trans _ _ _ hu
    · exact ht
  unfold State.seat
  dsimp only
  refine when_ _ _ _ ?_ (.of_blot _ _)
  refine when_ _ _ _ ?_ (State.notice_sendsOn (out := fun _ => True) _ _ _ _ fun _ _ => trivial).onlyWrites
  refine when_ _ _ _ ?_ (State.irq_onlyWrites 12 _)
  exact when_ _ _ _ (.of_blot _ s) (State.record_onlyWrites _ _)

theorem State.reserve_onlyWrites (ev : Event) (count : Nat) (summary : Bool) (s : State) :
    OnlyWrites s (s.reserve ev count summary) := by
  have seated : ∀ b, OnlyWrites s (({ s with blot := b } : State).seat ev count summary) := fun b =>
    (OnlyWrites.of_blot b s).trans _ _ _ (State.seat_onlyWrites ev count summary _)
  unfold State.reserve
  split
  · exact State.seat_onlyWrites ev count summary s
  · split
    · exact .of_blot _ s
    · split
      · exact seated _
      · exact seated _
      · exact .of_blot _ s

theorem State.logEvent_onlyWrites (ev : Event) (count : Nat) (summary : Bool) (s : State) :
    OnlyWrites s (s.logEvent ev count summary) := by
  unfold State.logEvent
  split
  · exact State.reserve_onlyWrites ev count summary s
  · exact .of_blot _ s

theorem State.limit_onlyWrites (ev : Event) (s : State) : OnlyWrites s (s.limit ev) := by
  unfold State.limit
  dsimp only
  split
  · exact (OnlyWrites.of_blot _ s).trans _ _ _ (State.logEvent_onlyWrites ev _ _ _)
  · exact .of_blot _ s

theorem State.drainRaises_onlyWrites (s : State) : OnlyWrites s s.drainRaises :=
  (OnlyWrites.of_blot _ s).trans _ _ _ (forAll_rel OnlyWrites.refl OnlyWrites.trans State.limit_onlyWrites _ _)

theorem State.markTime_onlyWrites (s : State) : OnlyWrites s s.markTime :=
  OnlyWrites.trans _ { s with vel := { s.vel with timeMark := some (s.tb.time / 1000000, s.tb.era) } } _
    ⟨s.ink, _, s.blot, s.fab, s.host, rfl, rfl⟩ (State.persist_wears 0 1 _).onlyWrites

theorem State.endPfail_onlyWrites (s : State) : OnlyWrites s s.endPfail :=
  (((s.drainRaises_onlyWrites).trans _ _ _ (State.flushBlotter_wears _).onlyWrites).trans _ _ _
    (State.markTime_onlyWrites _)).trans _ _ _ (State.flushWear_wears _).onlyWrites

/-! ### The sequence -/

/-- Steps 1 to 3 of R476, before AX_STOP is answered: channels, axes, transmitters, and the 5 ms. -/
def State.pfailStart (s : State) : State :=
  State.startTimer .pfail (5 * millisecond) { s.pfailChannels with
    axis := s.pfailChannels.axis.map (Axis.powerFail s.now)
    linear := []
    host := { s.pfailChannels.host with txOff := true }
    rst := { s.pfailChannels.rst with pfailSeq := true } }

/-- PARAM of 0x1013. -/
def State.pfailParam (s : State) : Nat :=
  (allChannels.filter fun n => (s.ch n).state.active).length + 2 ^ 16 * (s.axis.toList.filter fun x => x.state != .disabled).length

theorem State.powerFail_eq (s : State) : s.powerFail =
    let u := (forAll State.answerStops allAxes s.pfailStart).afterRestart 0x1013 s.pfailParam
    if u.pfailPending then u else u.endPfail := rfl

/-- `t` is `s` after the start of the power-fail sequence. -/
structure PowerFailed (s t : State) : Prop where
  pfailLow : t.rst.pfailLow = s.rst.pfailLow
  pfailSeq : t.rst.pfailSeq = true
  txOff : t.host.txOff = true
  linear : t.linear = []
  margin : t.margin = s.margin
  ch : ∀ n, t.ch n = s.pfailChannels.ch n
  ax : ∀ a, SameButStops ((s.ax a).powerFail s.now) (t.ax a)

theorem PowerFailed.of_writes {s t u : State} (h : PowerFailed s t) (hw : OnlyWrites t u) : PowerFailed s u := by
  obtain ⟨i, v, b, f, w, rfl, hx⟩ := hw
  obtain ⟨pfailLow, pfailSeq, txOff, linear, margin, ch, ax⟩ := h
  exact ⟨pfailLow, pfailSeq, hx.trans txOff, linear, margin, ch, ax⟩

theorem PowerFailed.of_answers {s t u : State} (h : PowerFailed s t) (ha : OnlyAnswers t u) : PowerFailed s u := by
  obtain ⟨x, q, b, m, rfl, hx⟩ := ha
  obtain ⟨pfailLow, pfailSeq, txOff, linear, margin, ch, ax⟩ := h
  exact ⟨pfailLow, pfailSeq, txOff, linear, margin, ch, fun a => (ax a).trans (hx a)⟩

theorem PowerFailed.afterRestart {s t : State} (code : BitVec 16) (param : Nat) (h : PowerFailed s t) :
    PowerFailed s (t.afterRestart code param) := by
  obtain ⟨pfailLow, pfailSeq, txOff, linear, margin, ch, ax⟩ := h
  exact ⟨pfailLow, pfailSeq, txOff, linear, margin, ch, ax⟩

theorem State.pfailStart_starts (s : State) : PowerFailed s s.pfailStart := by
  obtain ⟨c, d, ramped⟩ := s.pfailChannels_frame
  have low : s.pfailChannels.rst.pfailLow = s.rst.pfailLow := by rw [ramped]
  have margin : s.pfailChannels.margin = s.margin := by rw [ramped]
  refine ⟨low, rfl, rfl, rfl, margin, fun _ => rfl, fun a => ?_⟩
  have failed : s.pfailStart.ax a = (s.ax a).powerFail s.now := by
    rw [State.pfailStart, ramped]
    exact vget_map _ _ a
  rw [failed, SameButStops]

theorem State.powerFail_starts (s : State) : PowerFailed s s.powerFail := by
  have started := (s.pfailStart_starts.of_answers s.pfailStart.answerAllStops_onlyAnswers).afterRestart 0x1013 s.pfailParam
  rw [State.powerFail_eq]
  dsimp only
  split
  · exact started
  · exact started.of_writes (State.endPfail_onlyWrites _)

/-! ### An axis (R476) -/

/-- An enabled axis is shorted and stops where it is; without an encoder its position is uncertain. -/
theorem Axis.powerFail_of_enabled {x : Axis} (now : Nat) (h : x.state ≠ .disabled) : (x.powerFail now).shorted = true ∧
    (x.cfg = axCfgReset → (x.powerFail now).posUncertain = true) ∧ (x.powerFail now).homing = none ∧ (x.powerFail now).vSq = 0 ∧
    (x.powerFail now).pos = x.pos := by
  rw [Axis.powerFail, if_neg h]
  refine ⟨rfl, fun cfg => ?_, rfl, rfl, rfl⟩
  have noEncoder : acEnc axCfgReset = false := by decide
  simp [cfg, noEncoder]

theorem Axis.powerFail_of_disabled {x : Axis} (now : Nat) (h : x.state = .disabled) : x.powerFail now = x := if_pos h

end Sys2Proof.Machine
end

section
/-! PROOF. The rows of power (R471 to R479) and of crossings (R458), and O57: the clauses of the statement one by one, from the parts above. -/

namespace Sys2Proof.Machine

open Sys2Proof.Safety

/-! ### A reset of reach F whose source does not stay asserted (R446, R467) -/

/-- `t` is `s` after a reset of reach F, wherever its release has come to; `keep`: the Inkwell store survives. -/
structure ResetReached (keep : Bool) (s t : State) : Prop where
  restarted : Restarted s t
  cause : t.host.resetCause = s.host.resetCause
  pfailSeq : t.rst.pfailSeq = false
  keepStore : t.rst.keepStore = keep
  after : t.rst.after = s.rst.after
  pgood : t.rst.pgood = s.rst.pgood

theorem State.tearCkpts_blocksReset_reached (keep : Bool) (s : State) : ResetReached keep s (s.tearCkpts.blocksReset keep) := by
  obtain ⟨restarted, -, -, cause, -, keepStore, pgood⟩ := s.tearCkpts_blocksReset_held keep
  obtain ⟨_, ⟨c, rfl, -⟩, torn⟩ := s.tearCkpts_tears
  exact ⟨restarted, cause, rfl, keepStore, by rw [torn]; rfl, pgood⟩

/-- The start of a release moves its stage, and nothing that the reset has done. -/
theorem ResetReached.startRelease {keep : Bool} {s t : State} (h : ResetReached keep s t) : ResetReached keep s t.startRelease := by
  unfold State.startRelease
  split
  · exact h
  · obtain ⟨restarted, cause, pfailSeq, keepStore, after, pgood⟩ := h
    exact ⟨restarted, cause, pfailSeq, keepStore, after, pgood⟩

/-- PGOOD_LATE is told, and counts no more (R475). -/
def State.dropPgoodLate (s : State) : State := { s with rst := { s.rst with pgoodLate := false } }

theorem ResetReached.dropPgoodLate {keep : Bool} {s t : State} (h : ResetReached keep s t) : ResetReached keep s t.dropPgoodLate := by
  obtain ⟨restarted, cause, pfailSeq, keepStore, after, pgood⟩ := h
  exact ⟨restarted, cause, pfailSeq, keepStore, after, pgood⟩

theorem ResetReached.restarted_of_note {keep : Bool} {src : ResetSrc} {s t : State} (h : ResetReached keep (s.noteSource src) t) :
    Restarted s t := h.restarted

theorem State.reachF_reached (keep : Bool) (s : State) :
    ResetReached (keep && (!(s.rst.stage != 12) || s.rst.keepStore)) s (s.reachF keep) :=
  (s.tearCkpts_blocksReset_reached _).startRelease

/-- With no source of reach W or F asserted the release starts, from stage 2 unless the reset reached W (R446, R447). -/
theorem State.startRelease_of_uncovered {s : State} (h : s.rst.coverF = false) : ∃ d, s.startRelease = { s with rst := { s.rst with
    stage := if bits s.host.resetCause 25 24 = 0 then 1 else 2
    doneStage := d
    since := s.now } } := by
  rw [State.startRelease, if_neg (by rw [h]; exact Bool.false_ne_true)]
  exact ⟨_, rfl⟩

theorem State.reachF_stage {s : State} (keep : Bool) (h : s.rst.coverF = false) (hr : bits s.host.resetCause 25 24 = 1) :
    (s.reachF keep).rst.stage = 2 := by
  have held := s.tearCkpts_blocksReset_held (keep && (!(s.rst.stage != 12) || s.rst.keepStore))
  have cover : (s.tearCkpts.blocksReset (keep && (!(s.rst.stage != 12) || s.rst.keepStore))).rst.coverF = false := by
    rw [Reset.coverF, held.sources]
    exact h
  obtain ⟨d, released⟩ := State.startRelease_of_uncovered cover
  rw [State.reachF, released, held.cause, hr]
  rfl

/-- With no release under way and no source of reach W or F asserted a new source of reach F is the widest. -/
theorem State.widest_of_uncovered {s : State} (h : s.rst.stage = 12 ∨ s.rst.power ≠ .run) (hc : s.rst.coverF = false) : s.widest 1 = 1 := by
  have narrow : ∀ l : List ResetSrc, (l.any fun x => decide (srcReach x ≤ 1)) = false → (l.map srcReach).foldl min 1 = 1 := by
    intro l
    induction l with
    | nil => exact fun _ => rfl
    | cons x l ih =>
      intro hl
      obtain ⟨hx, rest⟩ := Bool.or_eq_false_iff.mp (List.any_cons ▸ hl)
      have low : min 1 (srcReach x) = 1 := Nat.min_eq_left (Nat.le_of_lt (Nat.lt_of_not_le (of_decide_eq_false hx)))
      rw [List.map_cons, List.foldl_cons, low]
      exact ih rest
  have idle : (decide (s.rst.stage = 12) || decide (s.rst.power ≠ .run)) = true := by
    rcases h with h | h
    · rw [decide_eq_true h, Bool.true_or]
    · rw [decide_eq_true h, Bool.or_true]
  rw [State.widest, if_pos idle]
  exact narrow _ hc

/-- A source of reach F that neither stays asserted nor writes final checkpoints. -/
def InstantSource (src : ResetSrc) : Prop := srcReach src = 1 ∧ srcFlushes src = false ∧ srcHolds src = false

theorem State.noteSource_sources_of_instant {src : ResetSrc} (s : State) (h : InstantSource src) :
    (s.noteSource src).rst.sources = s.rst.sources := by
  rw [State.noteSource, h.2.2]
  rfl

/-- Its reset acts at once, and its release starts at once at stage 2 (R446, R447). -/
theorem State.assert_instant {src : ResetSrc} (s : State) (h : InstantSource src) :
    ResetReached ((src == ResetSrc.pfailSelf) && (!(s.rst.stage != 12) || s.rst.keepStore)) (s.noteSource src) (s.assert src) ∧
    (s.rst.stage = 12 ∨ s.rst.power ≠ .run → s.rst.coverF = false →
      (s.assert src).rst.stage = 2 ∧ bits (s.assert src).host.resetCause 25 24 = 1) := by
  have reached := (s.noteSource src).reachF_reached (src == ResetSrc.pfailSelf)
  rw [s.assert_F h.1 h.2.1]
  refine ⟨reached, fun idle cover => ?_⟩
  have reach : bits (s.noteSource src).host.resetCause 25 24 = 1 := by
    rw [State.noteSource_reach, h.1]
    exact State.widest_of_uncovered idle cover
  have noted : (s.noteSource src).rst.coverF = false := by
    rw [Reset.coverF, s.noteSource_sources_of_instant h]
    exact cover
  exact ⟨State.reachF_stage _ noted reach, by rw [reached.cause]; exact reach⟩

/-! ### Events after the restart (R467, R480) -/

theorem State.mem_afterRestart (code : BitVec 16) (param : Nat) (s : State) :
    (code, BitVec.ofNat 64 param) ∈ (s.afterRestart code param).rst.after :=
  List.mem_append_right _ (List.mem_singleton.mpr rfl)

theorem b2n_eq_ite (b : Bool) : b2n b = if b = true then 1 else 0 := by cases b <;> rfl

/-! ### Crossings (R458) -/

theorem crossingFlushed_reports {x k : Nat} (d : ClkDomain) (s : State) (hk : k ≠ 0) (hlt : k < 2 ^ 32) :
    exec (.crossingFlushed x d k) s = .next (s.raise 0x1004 NOTICE x (domainCode d + 2 ^ 32 * k)) := by
  show execCrossingFlushed x d k s = _
  rw [execCrossingFlushed, if_neg hk, Nat.mod_eq_of_lt hlt]

/-! ### Power failure (R476 to R479) -/

theorem exec_pfailSequence (s : State) : exec .pfailSequence s =
    if !s.awake || s.releasing || s.rst.pfailSeq then .next { s with rst := { s.rst with pfailLow := true } }
    else .next (({ s with rst := { s.rst with pfailLow := true } } : State).powerFail) := rfl

theorem pfailSequence_ignored {s : State} (h : s.awake = false ∨ s.releasing = true ∨ s.rst.pfailSeq = true) :
    exec .pfailSequence s = .next { s with rst := { s.rst with pfailLow := true } } := by
  rw [exec_pfailSequence, if_pos]
  rcases h with h | h | h <;> simp [h]

theorem pfailSequence_acts {s : State} (ha : s.awake = true) (hr : s.releasing = false) (hp : s.rst.pfailSeq = false) :
    Completes .pfailSequence s fun t => t.rst.pfailLow = true ∧ t.rst.pfailSeq = true ∧ t.host.txOff = true ∧ t.linear = [] ∧
      (∀ n, (t.ch n).state = (s.ch n).state) ∧
      (∀ n, (s.ch n).state.active = true → (s.ch n).drive.period ≠ 0 → (t.ch n).drive.ramp.isSome = true) ∧
      (∀ n, (s.ch n).state.active = true → (s.ch n).drive.period = 0 → (t.ch n).drive.driving = false ∧ (t.ch n).pfailDue = true) ∧
      (∀ n, (s.ch n).state.active = false → t.ch n = s.ch n) ∧
      (∀ a, (s.ax a).state ≠ .disabled → (t.ax a).shorted = true ∧ ((s.ax a).cfg = axCfgReset → (t.ax a).posUncertain = true) ∧
        (t.ax a).homing = none ∧ (t.ax a).vSq = 0 ∧ (t.ax a).pos = (s.ax a).pos) ∧
      (∀ a, (s.ax a).state = .disabled → { t.ax a with stops := (s.ax a).stops } = s.ax a) ∧ t.margin = s.margin := by
  let u : State := { s with rst := { s.rst with pfailLow := true } }
  have acts : exec .pfailSequence s = .next u.powerFail := by rw [exec_pfailSequence, if_neg (by simp [ha, hr, hp])]
  obtain ⟨pfailLow, pfailSeq, txOff, linear, margin, ch, ax⟩ := u.powerFail_starts
  refine ⟨_, acts, pfailLow, pfailSeq, txOff, linear, fun n => ?_, fun n active latched => ?_, fun n active unlatched => ?_,
    fun n idle => ?_, fun a enabled => ?_, fun a disabled => ?_, margin⟩
  · rw [ch]; exact u.pfailChannels_state n
  · rw [ch]; exact State.pfailChannels_of_latched (s := u) active latched
  · rw [ch]; exact State.pfailChannels_of_unlatched (s := u) active unlatched
  · rw [ch]; exact (u.pfailChannels_ch n).1 idle
  · obtain ⟨shorted, uncertain, homing, rest, pos⟩ := Axis.powerFail_of_enabled u.now (x := u.ax a) enabled
    exact ⟨((ax a).field Axis.shorted).trans shorted, fun cfg => ((ax a).field Axis.posUncertain).trans (uncertain cfg),
      ((ax a).field Axis.homing).trans homing, ((ax a).field Axis.vSq).trans rest, ((ax a).field Axis.pos).trans pos⟩
  · have same := ax a
    rw [Axis.powerFail_of_disabled u.now (x := u.ax a) disabled] at same
    exact same

theorem pfailSelfReset_waits {s : State} (b : Bool) (h : s.rst.pfailSeq = false ∨ s.ranOut .pfail = false) :
    exec (.pfailSelfReset b) s = .next s := by
  show execPfailSelfReset b s = _
  rcases h with h | h <;> simp [execPfailSelfReset, h]

theorem pfailSelfReset_acts {s : State} (b : Bool) (hp : s.rst.pfailSeq = true) (hr : s.ranOut .pfail = true) :
    Completes (.pfailSelfReset b) s fun t => Restarted s t ∧ bit t.host.resetCause 2 = true ∧
      t.rst.pfailSeq = false ∧ (s.rst.stage = 12 → t.rst.keepStore = true) ∧
      (0x1015, BitVec.ofNat 64 (if b = true then 1 else 0)) ∈ t.rst.after ∧
      (s.rst.coverF = false → s.rst.stage = 12 → t.rst.stage = 2) := by
  let u : State := s.afterRestart 0x1015 (b2n b)
  have acts : exec (.pfailSelfReset b) s = .next (u.assert .pfailSelf) := by
    show execPfailSelfReset b s = _
    rw [execPfailSelfReset, if_pos (by rw [hp, hr]; rfl)]
  obtain ⟨reached, release⟩ := u.assert_instant (src := .pfailSelf) ⟨rfl, rfl, rfl⟩
  refine ⟨_, acts, reached.restarted_of_note, ?_, reached.pfailSeq, fun done => ?_, ?_, fun cover done => (release (.inl done) cover).1⟩
  · rw [reached.cause]; exact u.noteSource_bit (by decide) (by decide)
  · rw [reached.keepStore, show u.rst.stage = 12 from done]; rfl
  · rw [reached.after, ← b2n_eq_ite]; exact s.mem_afterRestart 0x1015 (b2n b)

/-! ### STANDBY (R473 to R475) -/

theorem wakeN_ignored {s : State} (h : s.rst.power ≠ .standby) : exec .wakeN s = .next s := by
  show execWakeN s = _
  rw [execWakeN, if_pos h]

theorem exec_wakeN {s : State} (h : s.rst.power = .standby) : exec .wakeN s = .next
    (if s.rst.holdLow then { s with rst := { s.rst with
      wakeAt := s.now
      wakePending := true } } else ({ s with rst := { s.rst with wakeAt := s.now } } : State).wake) := by
  show execWakeN s = _
  rw [execWakeN, if_neg (not_not.mpr h)]

theorem wakeN_acts {s : State} (h : s.rst.power = .standby) :
    (s.rst.holdLow = true → Completes .wakeN s fun t => t.rst.power = .standby ∧ t.rst.wakePending = true ∧ t.rst.pwrReq = s.rst.pwrReq ∧
      { t with rst := s.rst } = s) ∧
    (s.rst.holdLow = false → Completes .wakeN s fun t => t.rst.power = .waking ∧ t.rst.pwrReq = true ∧
      (Timer.standbyExit, s.now + second) ∈ t.timers ∧ { t with
        rst := s.rst
        timers := s.timers } = s) := by
  have acts := exec_wakeN h
  refine ⟨fun low => ?_, fun high => ?_⟩
  · rw [if_pos low] at acts
    exact ⟨_, acts, h, rfl, rfl, rfl⟩
  · rw [if_neg (by rw [high]; exact Bool.false_ne_true)] at acts
    exact ⟨_, acts, rfl, rfl, List.mem_append_right _ (List.mem_singleton.mpr rfl), rfl⟩

theorem standbyHoldEnd_waits {s : State} (h : s.ranOut .standbyHold = false) : exec .standbyHoldEnd s = .next s := by
  show execStandbyHoldEnd s = _
  simp [execStandbyHoldEnd, h]

theorem exec_standbyHoldEnd {s : State} (h : s.ranOut .standbyHold = true) : exec .standbyHoldEnd s = .next
    (if s.rst.power = .standby && s.rst.wakePending then ({ s with rst := { s.rst with holdLow := false } } : State).wake
      else { s with rst := { s.rst with holdLow := false } }) := by
  show execStandbyHoldEnd s = _
  rw [execStandbyHoldEnd, h]
  rfl

theorem standbyHoldEnd_acts {s : State} (h : s.ranOut .standbyHold = true) :
    (s.rst.power = .standby → s.rst.wakePending = true → Completes .standbyHoldEnd s fun t => t.rst.power = .waking ∧ t.rst.pwrReq = true ∧
      t.rst.holdLow = false ∧ { t with
        rst := s.rst
        timers := s.timers } = s) ∧
    (s.rst.power ≠ .standby ∨ s.rst.wakePending = false →
      exec .standbyHoldEnd s = .next { s with rst := { s.rst with holdLow := false } }) := by
  have acts := exec_standbyHoldEnd h
  refine ⟨fun standby pending => ?_, fun stays => ?_⟩
  · rw [if_pos (by simp [standby, pending])] at acts
    exact ⟨_, acts, rfl, rfl, rfl, rfl⟩
  · rw [acts, if_neg]
    rcases stays with stays | stays <;> simp [stays]

theorem pgoodInRise_ignored {s : State} (h : s.rst.power = .standby) : exec .pgoodInRise s = .next s := by
  show execPgoodInRise s = _
  simp only [execPgoodInRise, h]

/-- PGOOD_IN high, and 0x1012 to be raised after the restart (R480). -/
def State.goodPower (s : State) : State :=
  ({ s with rst := { s.rst with pgood := true } } : State).afterRestart 0x1012 (b2n s.rst.pgoodLate)

/-- PGOOD_IN ends the wait of a wake: the device starts as after reach F (R475). -/
theorem exec_pgoodInRise_waking {s : State} (h : s.rst.power = .waking) :
    exec .pgoodInRise s = .next (s.goodPower.assert .standbyExit).dropPgoodLate := by
  show execPgoodInRise s = _
  simp only [execPgoodInRise, h, State.dropPgoodLate, State.goodPower]

theorem pgoodInRise_wakes {s : State} (h : s.rst.power = .waking) :
    Completes .pgoodInRise s fun t => Restarted s t ∧ t.rst.pgood = true ∧ bit t.host.resetCause 1 = true ∧
      (0x1012, BitVec.ofNat 64 (if s.rst.pgoodLate = true then 1 else 0)) ∈ t.rst.after ∧ (s.rst.sources = [] → t.rst.stage = 2 ∧
        bits t.host.resetCause 25 24 = 1) ∧ t.rst.pgoodLate = false := by
  have waking : s.goodPower.rst.power ≠ .run := by
    show s.rst.power ≠ .run
    rw [h]; decide
  have acts := exec_pgoodInRise_waking h
  obtain ⟨reached, release⟩ := s.goodPower.assert_instant (src := .standbyExit) ⟨rfl, rfl, rfl⟩
  generalize s.goodPower.assert .standbyExit = u at acts reached release
  refine ⟨u.dropPgoodLate, acts, reached.dropPgoodLate.restarted_of_note, reached.pgood, ?_, ?_, fun none_ => release (.inr waking) ?_, rfl⟩
  · rw [reached.dropPgoodLate.cause]; exact s.goodPower.noteSource_bit (by decide) (by decide)
  · rw [reached.dropPgoodLate.after, ← b2n_eq_ite]; exact State.mem_afterRestart 0x1012 (b2n s.rst.pgoodLate) _
  · show s.rst.sources.any _ = false
    rw [none_]; rfl

theorem exec_pgoodInRise_run {s : State} (h : s.rst.power = .run) :
    exec .pgoodInRise s = .next (({ s with rst := { s.rst with pgood := true } } : State).releaseSource .powerOn) := by
  show execPgoodInRise s = _
  simp only [execPgoodInRise, h]

theorem pgoodInRise_noted {s : State} (h : s.rst.power = .run) (hn : ResetSrc.powerOn ∉ s.rst.sources) :
    exec .pgoodInRise s = .next { s with rst := { s.rst with pgood := true } } := by
  rw [exec_pgoodInRise_run h, State.releaseSource, if_pos]
  simp [hn]

/-- At power-on PGOOD_IN lets the release start (R444, R447). -/
theorem pgoodInRise_releases {s : State} (h : s.rst.power = .run) (hs : s.rst.sources = [.powerOn]) (h0 : s.rst.stage = 0)
    (hf : s.rst.flushing = none) (hr : bits s.host.resetCause 25 24 = 0) :
    Completes .pgoodInRise s fun t => t.rst.stage = 1 ∧ t.rst.sources = [] ∧ t.rst.pgood = true ∧ { t with rst := s.rst } = s := by
  let t : State := { s with rst := { s.rst with
    pgood := true
    sources := [] } }
  have released : ({ s with rst := { s.rst with pgood := true } } : State).releaseSource .powerOn = t.startRelease := by
    simp [State.releaseSource, State.awake, h, hs, h0, hf, srcReach, t]
  obtain ⟨d, starts⟩ := State.startRelease_of_uncovered (s := t) rfl
  refine ⟨_, exec_pgoodInRise_run h, ?_⟩
  rw [released, starts]
  exact ⟨if_pos hr, rfl, rfl, rfl⟩

theorem standbyExitTimeout_waits {s : State} (h : s.rst.power ≠ .waking ∨ s.ranOut .standbyExit = false) :
    exec .standbyExitTimeout s = .next s := by
  show execStandbyExitTimeout s = _
  rw [execStandbyExitTimeout, if_pos]
  rcases h with h | h <;> simp [h]

theorem standbyExitTimeout_acts {s : State} (h : s.rst.power = .waking) (hr : s.ranOut .standbyExit = true) :
    Completes .standbyExitTimeout s fun t => t.rst.power = .standby ∧ t.rst.pwrReq = false ∧ t.rst.pgoodLate = true ∧
      { t with rst := s.rst } = s := by
  have acts : exec .standbyExitTimeout s = .next { s with rst := { s.rst with
      power := .standby
      pwrReq := false
      pgoodLate := true } } := by
    show execStandbyExitTimeout s = _
    rw [execStandbyExitTimeout, if_neg (by simp [h, hr])]
  exact ⟨_, acts, rfl, rfl, rfl, rfl⟩

end Sys2Proof.Machine

namespace Sys2Proof

open Sys2Proof.Machine Sys2Proof.Safety

/-- Settles O57: each clause is the lemma of its row above. A block's reset stays in its block (`InBlock`); the power-fail sequence is
`PowerFailed`; the self-reset and the exit from STANDBY leave `ResetReached`. -/
theorem blockResetsAndPowerAct : Obligations.BlockResetsAndPowerAct := by
  unfold Obligations.BlockResetsAndPowerAct
  exact ⟨fun _ h => blockReset_none h, fun _ h => blockResetIdle_waits h, fun _ _ _ _ _ _ _ hi h h5 => blockReset_acts hi h h5,
    fun _ _ _ _ k h hr => blockResetForced_waits k h hr, fun _ _ _ _ hi h ha => blockReset_discards hi h ha,
    fun _ _ _ => rfl, fun s _ d _ hk hlt => crossingFlushed_reports d s hk hlt,
    fun _ h => pfailSequence_ignored h, fun _ ha hr hp => pfailSequence_acts ha hr hp, fun _ => rfl,
    fun _ b h => pfailSelfReset_waits b h, fun _ b hp hr => pfailSelfReset_acts b hp hr,
    fun _ h => wakeN_ignored h, fun _ h => wakeN_acts h, fun _ h => standbyHoldEnd_waits h, fun _ h => standbyHoldEnd_acts h,
    fun _ h => pgoodInRise_ignored h, fun _ h => pgoodInRise_wakes h, fun _ h hn => pgoodInRise_noted h hn,
    fun _ h hs h0 hf hr => pgoodInRise_releases h hs h0 hf hr,
    fun _ h => standbyExitTimeout_waits h, fun _ h hr => standbyExitTimeout_acts h hr⟩

end Sys2Proof
end

section
/-! PROOF. The write of a checkpoint (R191 to R195): its block, the copy it goes to, and what a reset that cuts it off leaves (R218). -/

namespace Sys2Proof.Machine

open Sys2Proof.Safety

theorem OnlyWears.ch {s t : State} (h : OnlyWears s t) (n : Fin 256) : t.ch n = s.ch n := by
  obtain ⟨v, b, rfl, -, -⟩ := h
  rfl

theorem OnlyWears.chv {s t : State} (h : OnlyWears s t) (n : Fin 256) : t.chv n = s.chv n := by
  obtain ⟨v, b, rfl, -, copies⟩ := h
  exact congrArg (fun c => vget c n) copies

/-! ### The block (R195) -/

/-- SEQ, the first word, the seventh, and the CRC of a checkpoint as it is written. -/
theorem State.ckptBlock_words (s : State) (seq : Nat) (w : Block) :
    natAt (s.ckptBlock seq w) 0 = seq % 2 ^ 32 ∧ crcOk 16 (s.ckptBlock seq w) = true ∧ wordAt (s.ckptBlock seq w) 4 = w.getD 0 0 ∧
    wordAt (s.ckptBlock seq w) 0x18 = w.getD 5 0 ∧ (s.ckptBlock seq w).length = 16 :=
  ⟨BitVec.toNat_ofNat .., crcOk_withCrc (n := 15) rfl, rfl, rfl, rfl⟩

/-! ### The newest good copy (R191) -/

theorem newestCopy_cases (v : ChVellum) :
    (∃ a, newestCopy v = some (0, a) ∧ v.ckA = .good a) ∨ (∃ b, newestCopy v = some (1, b) ∧ v.ckB = .good b) ∨
    (newestCopy v = none ∧ (∀ a, v.ckA ≠ .good a) ∧ ∀ b, v.ckB ≠ .good b) := by
  unfold newestCopy
  split
  · split <;> simp_all
  all_goals simp_all

/-- A copy cut off is no good one: the copy that the write did not go to stays the newest (R191, R218). -/
theorem newestCopy_tornB {v : ChVellum} {a : Block} (good : v.ckA = .good a) (k : Nat) (w : Block) :
    newestCopy { v with ckB := v.ckB.torn k w } = some (0, a) := by
  simp [newestCopy, good, Copy.torn]

theorem newestCopy_tornA {v : ChVellum} {b : Block} (good : v.ckB = .good b) (k : Nat) (w : Block) :
    newestCopy { v with ckA := v.ckA.torn k w } = some (1, b) := by
  simp [newestCopy, good, Copy.torn]

theorem newestCopy_torn_none {v : ChVellum} (bad : ∀ b, v.ckB ≠ .good b) (k : Nat) (w : Block) :
    newestCopy { v with ckA := v.ckA.torn k w } = none := by
  cases h : v.ckB <;> simp_all [newestCopy, Copy.torn]

theorem State.tearCkpt_chv_of_ne {n m : Fin 256} (s : State) (h : n ≠ m) : (s.tearCkpt n).chv m = s.chv m := by
  unfold State.tearCkpt
  split
  · rfl
  · dsimp only
    split
    · rfl
    · split <;> exact State.updChv_chv_of_ne _ _ h

/-- The write goes to the older copy, so a reset in its middle leaves the newest good one (R191, R218). -/
theorem State.tearCkpt_newest (n m : Fin 256) (s : State) : newestCopy ((s.tearCkpt n).chv m) = newestCopy (s.chv m) := by
  rcases eq_or_ne n m with rfl | hne
  · unfold State.tearCkpt
    split
    · rfl
    · dsimp only
      split
      · rfl
      · rcases newestCopy_cases (s.chv n) with ⟨a, newest, good⟩ | ⟨b, newest, good⟩ | ⟨newest, -, bad⟩
        · simp only [newest, State.updChv_chv]
          exact newestCopy_tornB good _ _
        · simp only [newest, State.updChv_chv]
          exact newestCopy_tornA good _ _
        · simp only [newest, State.updChv_chv]
          exact newestCopy_torn_none bad _ _
  · rw [State.tearCkpt_chv_of_ne s hne]

theorem State.tearCkpts_newest (s : State) (n : Fin 256) : newestCopy (s.tearCkpts.chv n) = newestCopy (s.chv n) := by
  have torn := forAll_rel (R := fun s t : State => newestCopy (t.chv n) = newestCopy (s.chv n)) (fun _ => rfl)
    (fun _ _ _ h h' => h'.trans h) (fun m t => State.tearCkpt_newest m n t) (List.finRange 256) s
  have ticked : ∀ t : State, t.tickFree.chv n = t.chv n := fun _ => rfl
  rw [State.tearCkpts, ticked]
  exact torn

/-! ### CHECKPOINT_WRITE (R194) -/

theorem State.writeCkpt_overA {n : Fin 256} {s : State} {a : Block} (w : Block) (h : newestCopy (s.chv n) = some (0, a)) :
    OnlyWears (s.updChv n fun v => { v with
      ckB := .good (s.ckptBlock ((natAt a 0 + 1) % 2 ^ 32) w)
      ckGap := (s.ch n).ckptGap }) (s.writeCkpt n w) := by
  unfold State.writeCkpt
  rw [h]
  exact State.wearRow_wears _ _ _

theorem State.writeCkpt_overB {n : Fin 256} {s : State} {b : Block} (w : Block) (h : newestCopy (s.chv n) = some (1, b)) :
    OnlyWears (s.updChv n fun v => { v with
      ckA := .good (s.ckptBlock ((natAt b 0 + 1) % 2 ^ 32) w)
      ckGap := (s.ch n).ckptGap }) (s.writeCkpt n w) := by
  unfold State.writeCkpt
  rw [h]
  exact State.wearRow_wears _ _ _

theorem exec_checkpointWrite {n : Fin 256} {s : State} {w : Block} (hw : (s.ch n).ckptReq = some w) (ht : s.ckptTurn n = true)
    (hf : s.rst.flushing = none) (hp : s.rst.pfailSeq = false) :
    exec (.checkpointWrite n) s = .next ((s.writeCkpt n w).updCh n fun c => { c with ckptReq := none }) := by
  show execCheckpointWrite n s = _
  simp [execCheckpointWrite, hw, ht, hf, hp]

theorem checkpointWrite_none {n : Fin 256} {s : State} (h : (s.ch n).ckptReq = none) : exec (.checkpointWrite n) s = .next s := by
  show execCheckpointWrite n s = _
  rw [execCheckpointWrite, h]

theorem checkpointWrite_waits {n : Fin 256} {s : State} (h : s.ckptTurn n = false) : exec (.checkpointWrite n) s = .next s := by
  show execCheckpointWrite n s = _
  unfold execCheckpointWrite
  split
  · rfl
  · rw [h]; rfl

theorem checkpointWrite_overA {n : Fin 256} {s : State} {w a : Block} (hw : (s.ch n).ckptReq = some w) (ht : s.ckptTurn n = true)
    (newest : newestCopy (s.chv n) = some (0, a)) (hf : s.rst.flushing = none) (hp : s.rst.pfailSeq = false) :
    Completes (.checkpointWrite n) s fun t =>
      (∃ b, (t.chv n).ckB = .good b ∧ natAt b 0 = (natAt a 0 + 1) % 2 ^ 32 ∧ crcOk 16 b = true ∧ wordAt b 4 = w.getD 0 0 ∧
        wordAt b 0x18 = w.getD 5 0 ∧ b.length = 16) ∧ (t.chv n).ckA = (s.chv n).ckA ∧ (∀ j, j ≠ n → t.chv j = s.chv j) ∧
      (t.ch n).ckptReq = none ∧ { t.ch n with ckptReq := (s.ch n).ckptReq } = s.ch n ∧ (∀ j, j ≠ n → t.ch j = s.ch j) := by
  have written := State.writeCkpt_overA w newest
  obtain ⟨seq, crc, first, seventh, length⟩ := s.ckptBlock_words ((natAt a 0 + 1) % 2 ^ 32) w
  refine ⟨_, exec_checkpointWrite hw ht hf hp, ⟨_, ?_, seq.trans (Nat.mod_mod _ _), crc, first, seventh, length⟩, ?_, fun j hj => ?_, ?_, ?_,
    fun j hj => ?_⟩
  · rw [State.updCh_chv, written.chv, State.updChv_chv]
  · rw [State.updCh_chv, written.chv, State.updChv_chv]
  · rw [State.updCh_chv, written.chv, State.updChv_chv_of_ne _ _ hj.symm]
  · rw [State.updCh_ch]
  · rw [State.updCh_ch, written.ch, State.updChv_ch]
  · rw [State.updCh_ch_of_ne _ _ hj.symm, written.ch, State.updChv_ch]

theorem checkpointWrite_overB {n : Fin 256} {s : State} {w b : Block} (hw : (s.ch n).ckptReq = some w) (ht : s.ckptTurn n = true)
    (newest : newestCopy (s.chv n) = some (1, b)) (hf : s.rst.flushing = none) (hp : s.rst.pfailSeq = false) :
    Completes (.checkpointWrite n) s fun t =>
      (∃ a, (t.chv n).ckA = .good a ∧ natAt a 0 = (natAt b 0 + 1) % 2 ^ 32 ∧ crcOk 16 a = true ∧ wordAt a 4 = w.getD 0 0) ∧
      (t.chv n).ckB = (s.chv n).ckB ∧ (t.ch n).ckptReq = none := by
  have written := State.writeCkpt_overB w newest
  obtain ⟨seq, crc, first, -, -⟩ := s.ckptBlock_words ((natAt b 0 + 1) % 2 ^ 32) w
  refine ⟨_, exec_checkpointWrite hw ht hf hp, ⟨_, ?_, seq.trans (Nat.mod_mod _ _), crc, first⟩, ?_, ?_⟩
  · rw [State.updCh_chv, written.chv, State.updChv_chv]
  · rw [State.updCh_chv, written.chv, State.updChv_chv]
  · rw [State.updCh_ch]

/-! ### CKPT_INTERVAL_DUE (R193) -/

theorem ckptIntervalDue_requests {n : Fin 256} {s : State} {k : Fin 20} (ha : (s.ch n).state.active = true)
    (hk : s.servingNib (groupOf n).val = some k) (hf : s.rst.flushing = none) (hp : s.rst.pfailSeq = false) :
    exec (.ckptIntervalDue n) s = .next (s.ckpt n 1) := by
  show execCkptIntervalDue n s = _
  rw [execCkptIntervalDue, if_pos (by simp [ha, hk, hf, hp])]

theorem ckptIntervalDue_idle {n : Fin 256} {s : State} (ha : (s.ch n).state.active = false) :
    exec (.ckptIntervalDue n) s = .next s := by
  show execCkptIntervalDue n s = _
  rw [execCkptIntervalDue, if_neg (by simp [ha])]

/-! ### FINAL_FLUSH_TIMEOUT (R197) -/

theorem State.startRelease_leaves (s : State) :
    s.startRelease.rst.flushing = s.rst.flushing ∧ ∀ n, s.startRelease.chv n = s.chv n := by
  unfold State.startRelease
  split <;> exact ⟨rfl, fun _ => rfl⟩

theorem State.blocksReset_leaves (keep : Bool) (s : State) :
    (s.blocksReset keep).rst.flushing = none ∧ ∀ n, (s.blocksReset keep).chv n = s.chv n :=
  ⟨rfl, fun _ => rfl⟩

/-- A reset of reach F ends the flush, and leaves the newest good copies (R197, R218). -/
theorem State.reachF_newest (keep : Bool) (s : State) :
    (s.reachF keep).rst.flushing = none ∧ ∀ n, newestCopy ((s.reachF keep).chv n) = newestCopy (s.chv n) := by
  obtain ⟨none_, kept⟩ := s.tearCkpts.blocksReset_leaves (keep && (!(s.rst.stage != 12) || s.rst.keepStore))
  obtain ⟨flushing, vel⟩ := (s.tearCkpts.blocksReset (keep && (!(s.rst.stage != 12) || s.rst.keepStore))).startRelease_leaves
  rw [State.reachF]
  exact ⟨flushing.trans none_, fun n => by rw [vel, kept, s.tearCkpts_newest]⟩

theorem finalFlushTimeout_none {s : State} (h : s.rst.flushing = none) : exec .finalFlushTimeout s = .next s := by
  show execFinalFlushTimeout s = _
  rw [execFinalFlushTimeout, h]
  rfl

theorem finalFlushTimeout_early {s : State} {x : Nat} (hm : (Timer.flush, x) ∈ s.timers) (hx : s.now < x) :
    exec .finalFlushTimeout s = .next s := by
  show execFinalFlushTimeout s = _
  rw [execFinalFlushTimeout, State.ranOut_of_running hm hx, Bool.and_false]
  rfl

theorem finalFlushTimeout_resets {s : State} {src : ResetSrc} (hf : s.rst.flushing = some src) (hr : s.ranOut .flush = true) :
    Completes .finalFlushTimeout s fun t =>
      t.rst.flushing = none ∧ t.folio.mbReady = false ∧ (∀ n, (t.ch n).state = .off ∧ (t.ch n).drive.driving = false) ∧
      (∀ n, newestCopy (t.chv n) = newestCopy (s.chv n)) ∧ t.pending = s.pending := by
  have acts : exec .finalFlushTimeout s = .next (s.flushBlotter.flushWear.reachF true) := by
    show execFinalFlushTimeout s = _
    rw [execFinalFlushTimeout, hf, hr]
    rfl
  have wears := OnlyWears.trans _ _ _ s.flushBlotter_wears s.flushBlotter.flushWear_wears
  generalize s.flushBlotter.flushWear = u at acts wears
  obtain ⟨flushing, newest⟩ := u.reachF_newest true
  obtain ⟨chan, -, -, -, -, -, -, -, -, -, ready, -, -, pending, -⟩ := (u.reachF_reached true).restarted
  have reset : ∀ n, (u.reachF true).ch n = State.reset.ch n := fun n => congrArg (fun c => vget c n) chan
  have same : u.pending = s.pending := by
    obtain ⟨_, _, e, _⟩ := wears
    rw [e]
  refine ⟨_, acts, flushing, ready, fun n => ?_, fun n => (newest n).trans (by rw [wears.chv]), pending.trans same⟩
  rw [reset, State.reset_ch]
  exact ⟨rfl, rfl⟩

end Sys2Proof.Machine
end

section
/-! PROOF. The takeover of a group by a spare (R208 to R212, R218): the channels over the gap, the end of the gap, a spare that fails. -/

namespace Sys2Proof.Machine

open Sys2Proof.Safety

/-- Passes that leave the Nibs leave them all together. -/
theorem forAll_nibs {α : Type} {f : α → State → State} (pass : ∀ a s, (f a s).nibs = s.nibs) (l : List α) (s : State) :
    (forAll f l s).nibs = s.nibs :=
  forAll_rel (R := fun s t => t.nibs = s.nibs) (fun _ => rfl) (fun _ _ _ h h' => h'.trans h) pass l s

/-! ### The end of the gap (R211) -/

theorem State.closeGap_of_noTakeover {g : Fin 17} {s : State} (h : ∀ y ∈ s.nibs.takeovers, y.group ≠ g) : s.closeGap g = s := by
  have none_ : s.nibs.takeovers.find? (fun y => y.group == g) = none := by simpa using h
  rw [State.closeGap, none_]

/-- With a first word of a channel under way outstanding the gap goes on. -/
theorem State.closeGap_of_underWay {g : Fin 17} {s : State} {y : Takeover} {l : List (Fin 256)} {n : Fin 256}
    (hy : s.nibs.takeovers.find? (fun y => y.group == g) = some y) (hl : y.waiting = some l) (hn : n ∈ l)
    (ha : (s.ch n).state.active = true) : s.closeGap g = s := by
  have any : (l.any fun j => (s.ch j).state.active) = true := List.any_eq_true.mpr ⟨n, hn, ha⟩
  simp only [State.closeGap, hy, hl, any, if_true]

/-- The takeovers of group `g` are over. -/
def State.dropTakeovers (g : Fin 17) (s : State) : State :=
  { s with nibs := { s.nibs with takeovers := s.nibs.takeovers.filter fun y => y.group != g } }

theorem State.closeGap_ends {g : Fin 17} {s : State} {y : Takeover} (hy : s.nibs.takeovers.find? (fun y => y.group == g) = some y)
    (hl : y.waiting = some []) : ∃ p, s.closeGap g = (s.dropTakeovers g).raise 0x0702 NOTICE y.spare.val p := by
  simp only [State.closeGap, hy, hl, List.any_nil, Bool.false_eq_true, if_false]
  exact ⟨_, rfl⟩

theorem State.closeGap_nibOf (g : Fin 17) (s : State) (k : Fin 20) : (s.closeGap g).nibOf k = s.nibOf k := by
  unfold State.closeGap
  repeat' split
  all_goals rfl

theorem State.closeGap_ch (g : Fin 17) (s : State) (n : Fin 256) : (s.closeGap g).ch n = s.ch n := by
  obtain ⟨nb, b, e⟩ := s.closeGap_frame g
  rw [e]
  rfl

/-! ### A channel over the gap (R211, R218) -/

theorem Channel.overGap_leaves (ticks : Nat) (c : Channel) :
    (c.overGap ticks).state = c.state ∧ (c.overGap ticks).drive.latched = c.drive.latched := by
  unfold Channel.overGap
  dsimp only
  split <;> exact ⟨rfl, rfl⟩

theorem State.abortTune_state (n : Fin 256) (why : Nat) (s : State) : ((s.abortTune n why).ch n).state = (s.ch n).state := by
  unfold State.abortTune
  split
  · split
    · rw [State.raise_ch, State.updCh_ch]; rfl
    · rfl
  · rfl

theorem State.takeChannel_idle {ticks : Nat} {n : Fin 256} {s : State} (h : (s.ch n).state.active = false) : s.takeChannel ticks n = s := by
  rw [State.takeChannel, h]
  rfl

theorem State.takeChannel_ch_of_ne (ticks : Nat) (n m : Fin 256) (s : State) (h : m ≠ n) : (s.takeChannel ticks n).ch m = s.ch m := by
  unfold State.takeChannel
  split
  · rfl
  · dsimp only
    rw [State.abortTune_ch_of_ne _ _ h, State.updCh_ch_of_ne _ _ h.symm]

theorem State.takeChannel_nibs (ticks : Nat) (n : Fin 256) (s : State) : (s.takeChannel ticks n).nibs = s.nibs := by
  unfold State.takeChannel
  split
  · rfl
  · simp

/-- The channel keeps its state and its latched word; reloads overdue in the gap and updates in flight are gone. -/
theorem State.takeChannel_ch_self (ticks : Nat) (n : Fin 256) (s : State) :
    ((s.takeChannel ticks n).ch n).state = (s.ch n).state ∧ ((s.takeChannel ticks n).ch n).drive.latched = (s.ch n).drive.latched ∧
    ((s.ch n).state.active = true → ((s.takeChannel ticks n).ch n).drive.overdue = 0 ∧ ((s.takeChannel ticks n).ch n).drive.flights = []) := by
  cases active : (s.ch n).state.active with
  | false =>
    rw [State.takeChannel_idle active]
    exact ⟨rfl, rfl, fun h => absurd h Bool.false_ne_true⟩
  | true =>
    obtain ⟨state, latched⟩ := (s.ch n).overGap_leaves ticks
    rw [State.takeChannel, active]
    simp only [Bool.not_true, Bool.false_eq_true, if_false, State.abortTune_state, (State.abortTune_ch_self n 1 _).1, State.updCh_ch]
    exact ⟨state, latched, fun _ => ⟨trivial, trivial⟩⟩

/-! ### The spare serves the group (R209, R211) -/

/-- The takeover `x` as it goes on when its spare has passed: it waits for the first words of the channels under way. -/
def State.gapOf (s : State) (x : Takeover) : Takeover := { x with waiting := some (s.activeOf x.group) }

/-- The spare of `x` serves the group; its channels are still as the fault has left them. -/
def State.serveGroup (x : Takeover) (s : State) : State :=
  ({ s with
    nibs := { s.nibs with
      takeovers := s.nibs.takeovers.map fun y => if y.group = x.group then s.gapOf x else y
      writeClaim := if x.group = 16 then s.nibs.acceptClaim else s.nibs.writeClaim } } : State).updNib x.spare fun k =>
        { k with
          role := .active
          group := some x.group }

/-- The channels of group `g` advance over a gap of `ticks`. -/
def State.passGap (ticks : Nat) (g : Fin 16) (s : State) : State := forAll (State.takeChannel ticks) (groupChannels g) s

theorem State.takeOver_eq {x : Takeover} {g : Fin 16} (hg : x.group = g.castSucc) (s : State) :
    s.takeOver x = ((s.serveGroup x).passGap (cyclesToTicks (s.now - x.since)) g).closeGap g.castSucc := by
  obtain ⟨_, old, spare, since, waiting⟩ := x
  cases hg
  exact congrArg (State.closeGap g.castSucc) (dif_pos g.isLt)

theorem State.passGap_nibs (ticks : Nat) (g : Fin 16) (s : State) : (s.passGap ticks g).nibs = s.nibs :=
  forAll_nibs (State.takeChannel_nibs ticks) _ s

theorem State.passGap_ch (ticks : Nat) (g : Fin 16) (s : State) (n : Fin 256) :
    (groupOf n ≠ g → (s.passGap ticks g).ch n = s.ch n) ∧
    (((s.passGap ticks g).ch n).state = (s.ch n).state ∧ ((s.passGap ticks g).ch n).drive.latched = (s.ch n).drive.latched) ∧
    (groupOf n = g → (s.ch n).state.active = true →
      ((s.passGap ticks g).ch n).drive.overdue = 0 ∧ ((s.passGap ticks g).ch n).drive.flights = []) := by
  obtain ⟨out, in_⟩ := forAll_ch_of_nodup (State.takeChannel_ch_of_ne ticks) (groupChannels_nodup g) s n
  rw [mem_groupChannels] at out in_
  by_cases member : groupOf n = g
  · obtain ⟨t, same, e⟩ := in_ member
    obtain ⟨state, latched, taken⟩ := t.takeChannel_ch_self ticks n
    rw [same] at state latched taken
    rw [State.passGap, e]
    exact ⟨fun h => absurd member h, ⟨state, latched⟩, fun _ => taken⟩
  · rw [State.passGap, out member]
    exact ⟨fun _ => rfl, ⟨rfl, rfl⟩, fun h => absurd h member⟩

theorem State.mem_activeOf {g : Fin 16} {s : State} {n : Fin 256} :
    n ∈ s.activeOf g.castSucc ↔ groupOf n = g ∧ (s.ch n).state.active = true := by
  rw [State.activeOf, dif_pos (show g.castSucc.val < 16 from g.isLt), List.mem_filter]
  exact and_congr_left fun _ => mem_groupChannels

/-- With no channel of the group under way there is nothing to advance. -/
theorem State.passGap_idle {ticks : Nat} {g : Fin 16} {s : State} (h : s.activeOf g.castSucc = []) : s.passGap ticks g = s :=
  forAll_of_fixed fun n hn => State.takeChannel_idle (Bool.eq_false_iff.mpr fun active => by
    have : n ∈ s.activeOf g.castSucc := State.mem_activeOf.mpr ⟨mem_groupChannels.mp hn, active⟩
    simp [h] at this)

/-- Every takeover of the group is now the one that its spare has ended. -/
theorem State.serveGroup_takeover {x y : Takeover} {s : State} (hy : y ∈ (s.serveGroup x).nibs.takeovers) (hg : y.group = x.group) :
    y = s.gapOf x := by
  obtain ⟨z, -, rfl⟩ := List.mem_map.mp (show y ∈ s.nibs.takeovers.map _ from hy)
  split at hg
  next same => rw [if_pos same]
  next other => exact absurd hg other

theorem State.serveGroup_find {x : Takeover} {s : State} (hx : x ∈ s.nibs.takeovers) :
    (s.serveGroup x).nibs.takeovers.find? (fun y => y.group == x.group) = some (s.gapOf x) := by
  have there : s.gapOf x ∈ (s.serveGroup x).nibs.takeovers := List.mem_map.mpr ⟨x, hx, if_pos rfl⟩
  obtain ⟨y, hy⟩ := Option.isSome_iff_exists.mp (List.find?_isSome
    (p := fun y : Takeover => y.group == x.group).mpr ⟨s.gapOf x, there, beq_self_eq_true x.group⟩)
  rw [hy, State.serveGroup_takeover (List.mem_of_find?_eq_some hy) (beq_iff_eq.mp (List.find?_some hy :))]

theorem exec_nibTakeover {s : State} {g : Fin 17} {x : Takeover} (b : Bool)
    (hx : (s.nibs.takeovers.find? fun y => y.group == g && y.waiting.isNone) = some x) :
    exec (.nibTakeover g b) s = .next (if b then s.takeOver x else s.spareFails x) := by
  show execNibTakeover g b s = _
  rw [execNibTakeover, hx]

/-- What the taking over of a group does and leaves. -/
theorem nibTakeover_serves {s : State} {g : Fin 16} {x : Takeover}
    (hx : (s.nibs.takeovers.find? fun y => y.group == g.castSucc && y.waiting.isNone) = some x) :
    Completes (.nibTakeover g.castSucc true) s fun t =>
      (t.nibOf x.spare).role = .active ∧ (t.nibOf x.spare).group = some g.castSucc ∧ (∀ k, k ≠ x.spare → t.nibOf k = s.nibOf k) ∧
      (∀ n, groupOf n = g → (t.ch n).state = (s.ch n).state ∧ (t.ch n).drive.latched = (s.ch n).drive.latched ∧
        ((s.ch n).state.active = true → (t.ch n).drive.overdue = 0 ∧ (t.ch n).drive.flights = [])) ∧
      (∀ n, groupOf n ≠ g → t.ch n = s.ch n) ∧
      (s.activeOf g.castSucc ≠ [] →
        ∀ y ∈ t.nibs.takeovers, y.group = g.castSucc → y.waiting = some (s.activeOf g.castSucc)) ∧
      (s.activeOf g.castSucc = [] → (∀ y ∈ t.nibs.takeovers, y.group ≠ g.castSucc) ∧
        ∃ p, t.blot.raised = s.blot.raised ++ [s.event 0x0702 NOTICE x.spare.val p]) := by
  have hg : x.group = g.castSucc := beq_iff_eq.mp (Bool.and_eq_true_iff.mp (List.find?_some hx :)).1
  have waits : (s.gapOf x).waiting = some (s.activeOf g.castSucc) := by rw [State.gapOf, hg]
  have found : (s.serveGroup x).nibs.takeovers.find? (fun y => y.group == g.castSucc) = some (s.gapOf x) :=
    hg ▸ State.serveGroup_find (List.mem_of_find?_eq_some hx)
  refine ⟨_, (exec_nibTakeover true hx).trans (congrArg _ (State.takeOver_eq hg s)), ?_⟩
  generalize cyclesToTicks (s.now - x.since) = ticks
  have nibs := (s.serveGroup x).passGap_nibs ticks g
  have ch := (s.serveGroup x).passGap_ch ticks g
  have nibOf : ∀ k, (((s.serveGroup x).passGap ticks g).closeGap g.castSucc).nibOf k = (s.serveGroup x).nibOf k := fun k => by
    rw [State.closeGap_nibOf, State.nibOf, nibs]
    rfl
  refine ⟨?_, ?_, fun k hk => ?_, fun n hn => ?_, fun n hn => ?_, fun busy y hy same => ?_, fun idle => ?_⟩
  · rw [nibOf, State.serveGroup, State.updNib_nibOf]
  · rw [nibOf, State.serveGroup, State.updNib_nibOf, hg]
  · rw [nibOf, State.serveGroup, State.updNib_nibOf_of_ne _ _ hk.symm]
    rfl
  · rw [State.closeGap_ch]
    exact ⟨(ch n).2.1.1, (ch n).2.1.2, (ch n).2.2 hn⟩
  · rw [State.closeGap_ch]
    exact (ch n).1 hn
  · obtain ⟨n, hn⟩ := List.exists_mem_of_ne_nil _ busy
    have active : (((s.serveGroup x).passGap ticks g).ch n).state.active = true := by
      rw [(ch n).2.1.1]
      exact (State.mem_activeOf.mp hn).2
    rw [State.closeGap_of_underWay (by rw [nibs]; exact found) waits hn active, nibs] at hy
    rw [State.serveGroup_takeover hy (same.trans hg.symm), waits]
  · rw [State.passGap_idle (s := s.serveGroup x) idle]
    obtain ⟨p, e⟩ := State.closeGap_ends found (waits.trans (congrArg some idle))
    rw [e]
    exact ⟨fun y hy => by simpa using (List.mem_filter.mp hy).2, p, rfl⟩

/-! ### The first word of the last channel (R192, R211) -/

/-- The first word marks its channel: the fence is over, and a TAKEOVER checkpoint is due. -/
def State.markFirst (n : Fin 256) (s : State) : State :=
  (s.updCh n fun c => { c with drive := { c.drive with late := none } }).ckpt n 5

theorem State.markFirst_requests (n : Fin 256) (s : State) :
    ∃ w, ((s.markFirst n).ch n).ckptReq = some w ∧ fieldAt w 0 27 24 = 5 :=
  ⟨_, by rw [State.markFirst, State.ckpt, State.updCh_ch], (State.ckptWords_state_cause (by decide)).2⟩

theorem State.firstWord_last {s : State} {n : Fin 256} {y : Takeover} (hs : s.nibs.takeovers = [y]) (hg : y.group = (groupOf n).castSucc)
    (hw : y.waiting = some [n]) :
    (∃ w, ((s.firstWord n).ch n).ckptReq = some w ∧ fieldAt w 0 27 24 = 5) ∧ (s.firstWord n).nibs.takeovers = [] ∧
    (∃ p, (s.firstWord n).blot.raised = s.blot.raised ++ [s.event 0x0702 NOTICE y.spare.val p]) ∧
    (∀ j, j ≠ n → (s.firstWord n).ch j = s.ch j) := by
  let told : State := { s with nibs := { s.nibs with takeovers := [{ y with waiting := some [] }] } }
  have acts : s.firstWord n = (told.markFirst n).closeGap (groupOf n).castSucc := by
    simp [State.firstWord, State.markFirst, hs, hg, hw, told]
  have found : (told.markFirst n).nibs.takeovers.find? (fun z => z.group == (groupOf n).castSucc) = some { y with waiting := some [] } := by
    simp [State.markFirst, told, hg]
  obtain ⟨p, ended⟩ := State.closeGap_ends found rfl
  obtain ⟨w, requested, cause⟩ := told.markFirst_requests n
  refine ⟨⟨w, ?_, cause⟩, ?_, ⟨p, ?_⟩, fun j hj => s.firstWord_ch_of_ne hj⟩
  · rw [acts, State.closeGap_ch, requested]
  · rw [acts, ended]
    simp [State.dropTakeovers, State.markFirst, told, hg]
  · rw [acts, ended, State.raise_raised]
    simp [State.dropTakeovers, State.markFirst, told, State.event]

/-! ### A spare that fails (R210, R212) -/

theorem OnlyAnswers.nibs {s t : State} (h : OnlyAnswers s t) : t.nibs = s.nibs := by
  obtain ⟨x, q, b, m, rfl, -⟩ := h
  rfl

theorem State.stopLinear_nibs (a : Fin 8) (quick : Bool) (s : State) : (s.stopLinear a quick).nibs = s.nibs := by
  rw [State.stopLinear, forAll_nibs (f := State.memberStops) fun _ _ => rfl]

theorem State.axisFault_nibs (a : Fin 8) (cause : Nat) (s : State) : (s.axisFault a cause).nibs = s.nibs := by
  unfold State.axisFault
  split
  · rfl
  · dsimp only
    rw [(State.answerStops_onlyAnswers a _).nibs, State.raise_nibs, State.dropReference, State.leaveLinear]
    exact s.stopLinear_nibs a false

theorem State.axisNoNib_nibs (a : Fin 8) (s : State) : (s.axisNoNib a).nibs = s.nibs := by
  unfold State.axisNoNib
  split
  · rfl
  · rw [State.axisFault_nibs]; rfl
  · exact State.axisFault_nibs a 3 s

theorem State.groupNoNib_nibs (g : Fin 17) (s : State) : (s.groupNoNib g).nibs = s.nibs := by
  unfold State.groupNoNib
  split
  · dsimp only
    rw [State.raise_nibs]
    exact forAll_nibs (fun _ _ => by simp) _ s
  · rw [State.raise_nibs]
    exact forAll_nibs State.axisNoNib_nibs _ s

theorem State.endNibTest_nibs (k : Fin 20) (s : State) : (s.endNibTest k).nibs = s.nibs := by
  unfold State.endNibTest
  split
  · rw [State.answerSelftest, (State.respondHeld_onlyAnswers _ _ _).nibs]
  · rfl

/-- The next takeover of a group, or its end, leaves the Nibs. -/
theorem State.startTakeover_nibOf (g : Fin 17) (old : Fin 20) (since : Nat) (s : State) (k : Fin 20) :
    (s.startTakeover g old since).nibOf k = s.nibOf k := by
  unfold State.startTakeover
  dsimp only
  split
  · show vget (State.endNibTest _ _).nibs.nib k = _
    rw [State.endNibTest_nibs]
    rfl
  · rw [State.nibOf, State.groupNoNib_nibs]
    rfl

theorem State.retireNib_nibOf (k : Fin 20) (why : Nat) (s : State) : ((s.retireNib k why).nibOf k).role = .retired := by
  rw [State.retireNib, State.raise_nibOf, State.updNib_nibOf]

theorem nibTakeover_retires {s : State} {g : Fin 17} {x : Takeover}
    (hx : (s.nibs.takeovers.find? fun y => y.group == g && y.waiting.isNone) = some x) :
    Completes (.nibTakeover g false) s fun t =>
      (t.nibOf x.spare).role = .retired ∧ s.event 0x0703 ALARM x.spare.val x.group.val ∈ t.blot.raised := by
  refine ⟨_, exec_nibTakeover false hx, ?_, ?_⟩
  · rw [if_neg Bool.false_ne_true, State.spareFails, State.startTakeover_nibOf]
    exact State.retireNib_nibOf _ _ _
  · rw [if_neg Bool.false_ne_true, State.spareFails]
    refine (State.startTakeover_reports _ _ _ _).mem ?_
    simp [State.retireNib, State.event]

end Sys2Proof.Machine
end

section
/-! PROOF. The return of a Nib (R213, R218), and O40. -/

namespace Sys2Proof.Machine

open Sys2Proof.Safety

/-! ### The first self-test (R213) -/

theorem nibFencedSelftest_acts {s : State} {k : Fin 20} (hr : (s.nibOf k).role = .fenced) (hn : (s.nibOf k).revertTo = none) :
    (k.val < 17 → exec (.nibFencedSelftest k true) s = .next ((s.startTimer (.revert (Fin.ofNat 17 k.val))
      (s.vel.revertHold * 250000000)).updNib k fun x => { x with revertTo := some (Fin.ofNat 17 k.val) })) ∧
    (17 ≤ k.val → exec (.nibFencedSelftest k true) s = .next (s.updNib k fun x => { x with role := .spare })) ∧
    exec (.nibFencedSelftest k false) s = .next (s.retireNib k 1) := by
  refine ⟨fun home => ?_, fun spare => ?_, ?_⟩
  · show execNibFencedSelftest k true s = _
    simp [execNibFencedSelftest, hr, hn, home, second]
  · show execNibFencedSelftest k true s = _
    simp [execNibFencedSelftest, hr, hn, spare]
  · show execNibFencedSelftest k false s = _
    simp [execNibFencedSelftest, hr, hn]

/-! ### The second self-test (R213) -/

/-- The Nib that waits to return to group `g`. -/
abbrev State.Returning (s : State) (g : Fin 17) (k : Fin 20) : Prop :=
  (List.finRange 20).find? (fun k => (s.nibOf k).role == .fenced && (s.nibOf k).revertTo == some g) = some k

/-- Nothing holds up the return to group `g` any more. -/
structure State.MayRevert (s : State) (g : Fin 17) : Prop where
  takeovers : ∀ y ∈ s.nibs.takeovers, y.group ≠ g
  handovers : ∀ y ∈ s.nibs.handovers, y.group ≠ g
  ranOut : s.ranOut (.revert g) = true

theorem exec_nibRevert {s : State} {g : Fin 17} {k : Fin 20} (b : Bool) (hk : s.Returning g k) (h : s.MayRevert g) :
    exec (.nibRevert g b) s = .next (if b then s.beginHandover { group := g, nib := k } else s.retireNib k 1) := by
  have takes : (s.nibs.takeovers.any fun y => y.group == g) = false := by simpa using h.takeovers
  have hands : (s.nibs.handovers.any fun y => y.group == g) = false := by simpa using h.handovers
  show execNibRevert g b s = _
  rw [execNibRevert, State.closeGap_of_noTakeover h.takeovers]
  rw [hk]
  cases b <;> simp [h.ranOut, takes, hands]

theorem nibRevert_early {s : State} {g : Fin 17} {x : Nat} (b : Bool) (ht : ∀ y ∈ s.nibs.takeovers, y.group ≠ g)
    (hm : (Timer.revert g, x) ∈ s.timers) (hx : s.now < x) : exec (.nibRevert g b) s = .next s := by
  show execNibRevert g b s = _
  rw [execNibRevert, State.closeGap_of_noTakeover ht]
  split
  · rfl
  · rw [State.ranOut_of_running hm hx]
    rfl

/-- The handover of group `g` to the returning Nib `k`, at its start. -/
def State.returnOf (s : State) (g : Fin 17) (k : Fin 20) : Handover := { group := g, nib := k, left := some (s.activeOf g) }

/-- The handover is under way. -/
def State.handing (g : Fin 17) (k : Fin 20) (s : State) : State :=
  { s with nibs := { s.nibs with handovers := s.returnOf g k :: s.nibs.handovers } }

theorem State.beginHandover_eq {s : State} {g : Fin 17} (k : Fin 20) (h : ∀ y ∈ s.nibs.handovers, y.group ≠ g) :
    s.beginHandover { group := g, nib := k } =
      if (s.activeOf g).isEmpty then (s.handing g k).endHandover (s.returnOf g k) else s.handing g k := by
  have others : s.nibs.handovers.filter (fun y => y.group != g) = s.nibs.handovers := by simpa using h
  simp only [State.beginHandover, others]
  rfl

theorem nibRevert_hands {s : State} {g : Fin 17} {k : Fin 20} (hk : s.Returning g k) (h : s.MayRevert g) :
    exec (.nibRevert g false) s = .next (s.retireNib k 1) ∧
    (s.activeOf g ≠ [] →
      Completes (.nibRevert g true) s fun t =>
        t.nibs.handovers = { group := g, nib := k, left := some (s.activeOf g) } :: s.nibs.handovers ∧ t.nibs.nib = s.nibs.nib ∧
        { t with nibs := s.nibs } = s) := by
  refine ⟨exec_nibRevert false hk h, fun busy => ⟨s.handing g k, ?_, rfl, rfl, rfl⟩⟩
  rw [exec_nibRevert true hk h, if_pos rfl, State.beginHandover_eq k h.handovers, if_neg (by simpa using busy)]

theorem State.servingNib_role {s : State} {g : Nat} {o : Fin 20} (h : s.servingNib g = some o) : (s.nibOf o).role = .active :=
  beq_iff_eq.mp (Bool.and_eq_true_iff.mp (List.find?_some h :)).1

theorem State.Returning.role {s : State} {g : Fin 17} {k : Fin 20} (h : s.Returning g k) : (s.nibOf k).role = .fenced :=
  beq_iff_eq.mp (Bool.and_eq_true_iff.mp (List.find?_some h :)).1

/-- Nib `o` returns to cold, and Nib `k` serves group `g`, with the next claim number for GM (R209, R213). -/
def State.swapNibs (g : Fin 17) (o k : Fin 20) (s : State) : State :=
  let t := (s.updNib o fun x => { x with
    role := .spare
    group := none }).updNib k fun x => { x with
    role := .active
    group := some g
    revertTo := none }
  if g = 16 then { t with
    nibs := { t.nibs with
      acceptClaim := t.nibs.acceptClaim + 1
      writeClaim := t.nibs.acceptClaim + 1 } }
  else t

theorem State.swapNibs_spec {g : Fin 17} {o k : Fin 20} (s : State) (hne : o ≠ k) :
    ((s.swapNibs g o k).nibOf k).role = .active ∧ ((s.swapNibs g o k).nibOf k).group = some g ∧ ((s.swapNibs g o k).nibOf k).revertTo = none ∧
    ((s.swapNibs g o k).nibOf o).role = .spare ∧ ((s.swapNibs g o k).nibOf o).group = none ∧
    (s.swapNibs g o k).nibs.acceptClaim = (if g = 16 then s.nibs.acceptClaim + 1 else s.nibs.acceptClaim) ∧
    (s.swapNibs g o k).chan = s.chan ∧ (s.swapNibs g o k).blot = s.blot ∧ (s.swapNibs g o k).tb = s.tb := by
  let t := (s.updNib o fun x => { x with
    role := .spare
    group := none }).updNib k fun x => { x with
    role := .active
    group := some g
    revertTo := none }
  have new : t.nibOf k = { s.nibOf k with
      role := .active
      group := some g
      revertTo := none } := by
    simp only [t, State.updNib_nibOf, State.updNib_nibOf_of_ne _ _ hne]
  have old : t.nibOf o = { s.nibOf o with
      role := .spare
      group := none } := by
    simp only [t, State.updNib_nibOf_of_ne _ _ hne.symm, State.updNib_nibOf]
  have nibOf : ∀ j, (s.swapNibs g o k).nibOf j = t.nibOf j := fun j => by
    unfold State.swapNibs
    dsimp only
    split <;> rfl
  simp only [nibOf, new, old, true_and]
  unfold State.swapNibs
  dsimp only
  split <;> exact ⟨rfl, rfl, rfl, rfl⟩

theorem State.endHandover_of_return {s : State} {g : Fin 17} {k o : Fin 20} {l : Option (List (Fin 256))} (ho : s.servingNib g.val = some o) :
    s.endHandover { group := g, nib := k, left := l } =
      (({ s with nibs := { s.nibs with handovers := s.nibs.handovers.filter fun x => x.group != g } } : State).swapNibs g o k).raise 0x0704
        INFO k.val (g.val + 2 ^ 8 * o.val) := by
  have served : ({ s with nibs := { s.nibs with handovers := s.nibs.handovers.filter fun x => x.group != g } } : State).servingNib g.val =
    some o := ho
  simp only [State.endHandover, State.releaseNib, served, ho, List.isEmpty_nil, if_true]
  rfl

/-- With no channel under way the Nib takes its group back at once (R213). -/
theorem nibRevert_returns {s : State} {g : Fin 17} {k o : Fin 20} (hk : s.Returning g k) (h : s.MayRevert g)
    (ho : s.servingNib g.val = some o) (idle : s.activeOf g = []) :
    Completes (.nibRevert g true) s fun t =>
      (t.nibOf k).role = .active ∧ (t.nibOf k).group = some g ∧ (t.nibOf k).revertTo = none ∧ (t.nibOf o).role = .spare ∧
      (t.nibOf o).group = none ∧ t.nibs.acceptClaim = (if g = 16 then s.nibs.acceptClaim + 1 else s.nibs.acceptClaim) ∧ t.chan = s.chan ∧
      t.blot.raised = s.blot.raised ++ [s.event 0x0704 INFO k.val (g.val + 2 ^ 8 * o.val)] := by
  have hne : o ≠ k := by
    rintro rfl
    have := (s.servingNib_role ho).symm.trans hk.role
    simp at this
  have acts := exec_nibRevert true hk h
  rw [if_pos rfl, State.beginHandover_eq k h.handovers, if_pos (by rw [idle]; rfl), State.returnOf,
    State.endHandover_of_return (s := s.handing g k) ho] at acts
  refine ⟨_, acts, ?_⟩
  generalize hu : ({ s.handing g k with
    nibs := { (s.handing g k).nibs with handovers := (s.handing g k).nibs.handovers.filter fun x => x.group != g } } : State) = u
  have claim : u.nibs.acceptClaim = s.nibs.acceptClaim := by rw [← hu]; rfl
  have chan : u.chan = s.chan := by rw [← hu]; rfl
  have raised : u.blot = s.blot := by rw [← hu]; rfl
  have time : u.tb = s.tb := by rw [← hu]; rfl
  obtain ⟨role, group, revert, cold, free, accept, chan', blot, tb⟩ := State.swapNibs_spec (g := g) u hne
  refine ⟨role, group, revert, cold, free, by rw [State.raise_nibs, accept, claim], chan'.trans chan, ?_⟩
  rw [State.raise_raised, State.event, State.event, blot, raised, tb, time]

end Sys2Proof.Machine

namespace Sys2Proof

open Sys2Proof.Machine Sys2Proof.Safety

/-- Settles O40: each clause is the lemma of its row above. A takeover is `State.serveGroup`, `State.passGap` and the end of the gap; a return is
`State.swapNibs`; a reset tears no copy but the older (`State.tearCkpts_newest`). -/
theorem checkpointsAndTakeovers : Obligations.CheckpointsAndTakeovers := by
  unfold Obligations.CheckpointsAndTakeovers
  have group : ∀ g : Fin 16, Fin.ofNat 17 g.val = g.castSucc := by decide
  refine ⟨fun _ _ h => checkpointWrite_waits h, fun _ _ _ _ hw ht hn hf hp => checkpointWrite_overA hw ht hn hf hp,
    fun _ _ _ _ hw ht hn hf hp => checkpointWrite_overB hw ht hn hf hp, fun _ _ h => checkpointWrite_none h,
    fun _ _ _ ha hk hf hp => ckptIntervalDue_requests ha hk hf hp, fun _ _ h => ckptIntervalDue_idle h, fun s g x => ?_,
    fun _ _ _ hs hg hw => State.firstWord_last hs hg hw, fun _ _ _ hx => nibTakeover_retires hx,
    fun _ _ hr hn => nibFencedSelftest_acts hr hn, fun _ _ _ _ hk ht hh hr ho hi => nibRevert_returns hk ⟨ht, hh, hr⟩ ho hi,
    fun _ _ _ hk ht hh hr => nibRevert_hands hk ⟨ht, hh, hr⟩, fun _ _ b _ ht hm hx => nibRevert_early b ht hm hx,
    fun _ _ hm hx => finalFlushTimeout_early hm hx, fun _ _ hf hr => finalFlushTimeout_resets hf hr, fun _ h => finalFlushTimeout_none h⟩
  rw [group]
  exact nibTakeover_serves

end Sys2Proof
end

section
/-! PROOF. The Folio's voting and its spare core (R215 to R217). -/

namespace Sys2Proof.Machine

open Sys2Proof.Safety

/-- The Folio's fields have no part in the time of an event. -/
@[simp] theorem State.setFolio_event (f : Folio) (c v r p : Nat) (s : State) : (s.setFolio f).event c v r p = s.event c v r p := by
  rw [State.event, State.setFolio_tb, ← State.event]

/-! ### A core leaves the vote (R216) -/

theorem Folio.voters_of_full {f : Folio} (hc : f.cores = [.vote, .vote, .vote, .spare]) : f.voters = [0, 1, 2] := by
  rw [Folio.voters, hc]
  rfl

/-- With three cores voting and a cold spare, a core that is isolated makes the spare boot. -/
theorem Folio.isolate_of_full {f : Folio} (hc : f.cores = [.vote, .vote, .vote, .spare]) (h2 : f.code = 2) (now : Nat) (i : Fin 3) :
    (f.isolate now i.val .isolated).cores = ([.vote, .vote, .vote, .booting] : List CoreRole).set i.val .isolated ∧
    (f.isolate now i.val .isolated).code = 3 := by
  have settled : f.settled = true := by simp [Folio.settled, h2]
  simp only [Folio.isolate, hc, settled, if_true]
  fin_cases i <;> exact ⟨rfl, rfl⟩

theorem State.isolateCore_of_full {s : State} (hc : s.folio.cores = [.vote, .vote, .vote, .spare]) (h2 : s.folio.code = 2) (i : Fin 3)
    (cls : Nat) :
    (s.isolateCore i.val cls).folio.cores = ([.vote, .vote, .vote, .booting] : List CoreRole).set i.val .isolated ∧
    (s.isolateCore i.val cls).folio.code = 3 ∧
    (s.isolateCore i.val cls).blot.raised = s.blot.raised ++ [s.event 0x0707 ALARM i.val (7 + 2 ^ 8 * cls)] ∧
    (s.isolateCore i.val cls).chan = s.chan := by
  have mask : s.folio.voteMask = 7 := by
    rw [Folio.voteMask, hc]
    rfl
  obtain ⟨cores, code⟩ := Folio.isolate_of_full hc h2 s.now i
  rw [State.isolateCore, State.raise_folio, State.setFolio_folio, State.raise_raised, State.setFolio_blot, State.setFolio_event, mask,
    State.raise_chan, State.setFolio_chan]
  exact ⟨cores, code, rfl, rfl⟩

/-! ### The vote (R215) -/

theorem folioTransactionVote_three {s : State} (cls : Fin 16) {x y : Nat} (hc : s.folio.cores = [.vote, .vote, .vote, .spare])
    (h2 : s.folio.code = 2) (hne : x ≠ y) :
    exec (.folioTransactionVote cls [x, x, x, y]) s = .next s ∧
    exec (.folioTransactionVote cls [x, x, y, y]) s = .next (s.isolateCore 2 cls.val) ∧
    exec (.folioTransactionVote cls [y, x, x, y]) s = .next (s.isolateCore 0 cls.val) := by
  have votes : ∀ tx, exec (.folioTransactionVote cls tx) s = execFolioTransactionVote cls tx s := fun _ => rfl
  simp [votes, execFolioTransactionVote, h2, Folio.voters_of_full hc, hne, hne.symm]

theorem folioTransactionVote_isolates {s : State} (cls : Fin 16) {x y : Nat} (hc : s.folio.cores = [.vote, .vote, .vote, .spare])
    (h2 : s.folio.code = 2) (hne : x ≠ y) :
    exec (.folioTransactionVote cls [x, x, x, y]) s = .next s ∧
    (Completes (.folioTransactionVote cls [x, x, y, y]) s fun t =>
      t.folio.cores = [.vote, .vote, .isolated, .booting] ∧ t.folio.code = 3 ∧
      t.blot.raised = s.blot.raised ++ [s.event 0x0707 ALARM 2 (7 + 2 ^ 8 * cls.val)] ∧ t.chan = s.chan) ∧
    (Completes (.folioTransactionVote cls [y, x, x, y]) s fun t => t.folio.cores = [.isolated, .vote, .vote, .booting]) := by
  obtain ⟨agreed, third, first⟩ := folioTransactionVote_three cls hc h2 hne
  exact ⟨agreed, ⟨_, third, State.isolateCore_of_full hc h2 2 cls.val⟩, ⟨_, first, (State.isolateCore_of_full hc h2 0 cls.val).1⟩⟩

/-- The total loss of a Folio that served: its reset of reach C, with the cause of R339. -/
theorem State.folioLoss_resets {s : State} (h12 : s.rst.stage = 12) (hs : s.rst.sources = []) (hf : s.rst.flushing = none) :
    s.folioLoss.folio.mbReady = false ∧ bit s.folioLoss.host.resetCause 10 = true ∧ bits s.folioLoss.host.resetCause 25 24 = 2 ∧
    s.folioLoss.rst.stage = 11 := by
  unfold State.folioLoss
  generalize hu : State.setFolio _ (State.raise _ _ _ _ s) = u
  have rst : u.rst = s.rst := by rw [← hu, State.setFolio_rst, State.raise_rst]
  have restarted := (u.noteSource .folioLoss).reachC_restarts
  rw [State.assert_C rfl (by rw [rst]; exact h12) (by rw [rst]; exact hf), restarted.cause, restarted.stage]
  refine ⟨restarted.mbReady, u.noteSource_bit (by decide) (by decide), ?_, ?_⟩
  · rw [State.noteSource_reach]
    exact State.widest_of_idle 2 (by rw [rst]; exact h12) (by rw [rst]; exact hs)
  · rw [State.noteSource_stage, rst, if_pos h12]

theorem folioTransactionVote_loses {s : State} (cls : Fin 16) {x y : Nat} (hc : s.folio.cores = [.vote, .vote, .isolated, .retired])
    (hne : x ≠ y) (h3 : s.folio.code = 3) (h12 : s.rst.stage = 12) (hs : s.rst.sources = []) (hf : s.rst.flushing = none) :
    exec (.folioTransactionVote cls [x, x]) s = .next s ∧
    (Completes (.folioTransactionVote cls [x, y]) s fun t =>
      t.folio.mbReady = false ∧ bit t.host.resetCause 10 = true ∧ bits t.host.resetCause 25 24 = 2 ∧ t.rst.stage = 11) := by
  have votes : ∀ tx, exec (.folioTransactionVote cls tx) s = execFolioTransactionVote cls tx s := fun _ => rfl
  have two : s.folio.voters = [0, 1] := by
    rw [Folio.voters, hc]
    rfl
  refine ⟨?_, s.folioLoss, ?_, State.folioLoss_resets h12 hs hf⟩
  · simp [votes, execFolioTransactionVote, h3, two]
  · simp [votes, execFolioTransactionVote, h3, two, hne]

theorem folioVoteTimeout_isolates {s : State} {c : Fin 4} (hc : s.folio.cores = [.vote, .vote, .vote, .spare]) (h2 : s.folio.code = 2) :
    (c.val < 3 → Completes (.folioVoteTimeout c) s fun t => t.folio.cores.getD c.val .retired = .isolated ∧
      t.folio.cores.getD 3 .retired = .booting ∧ t.chan = s.chan) ∧
    (c.val = 3 → exec (.folioVoteTimeout c) s = .next s) := by
  have voters := Folio.voters_of_full hc
  refine ⟨fun voting => ⟨s.isolateCore c.val ((Config.unstated 84).toNat % 16), ?_, ?_⟩, fun cold => ?_⟩
  · have votes : s.folio.voters.contains c.val = true := by
      rw [voters, List.contains_eq_mem, decide_eq_true_iff]
      exact (List.mem_range.mpr voting : c.val ∈ List.range 3)
    show execFolioVoteTimeout c s = _
    rw [execFolioVoteTimeout, if_neg (by simp only [h2, votes]; decide), if_pos (by rw [voters]; rfl)]
  · obtain ⟨cores, -, -, chan⟩ := State.isolateCore_of_full hc h2 ⟨c.val, voting⟩ ((Config.unstated 84).toNat % 16)
    rw [cores]
    refine ⟨?_, ?_, chan⟩
    · simp [voting.trans_le (by decide : 3 ≤ 4)]
    · rw [List.getD_eq_getElem?_getD, List.getElem?_set_ne (Nat.ne_of_lt voting)]
      rfl
  · show execFolioVoteTimeout c s = _
    simp [execFolioVoteTimeout, voters, cold]

/-! ### The spare core (R216) -/

theorem folioSpareJoined_votes {s : State} {i : Fin 4}
    (hi : (List.range 4).find? (fun j => s.folio.cores.getD j .retired == .booting) = some i.val) (h2 : 2 ≤ s.folio.code)
    (h4 : s.folio.code ≤ 4) : Completes .folioSpareJoined s fun t =>
      t.folio.cores = s.folio.cores.set i.val .vote ∧ t.folio.code = votingCode (s.folio.cores.set i.val .vote) ∧ t.chan = s.chan ∧
      (∃ p, t.blot.raised = s.blot.raised ++ [s.event 0x0708 NOTICE i.val p]) := by
  have settled : s.folio.settled = true := by simp [Folio.settled, h2, h4]
  let joined : Folio := { s.folio with
    cores := s.folio.cores.set i.val .vote
    code := votingCode (s.folio.cores.set i.val .vote) }
  let p := min ((s.now - s.folio.isolatedAt) / millisecond) 0xFFFFFFFF
  refine ⟨(s.setFolio joined).raise 0x0708 NOTICE i.val p, ?_, ?_, ?_, ?_, p, ?_⟩
  · show execFolioSpareJoined s = _
    simp only [execFolioSpareJoined, hi, settled, if_true]
    rfl
  · rw [State.raise_folio, State.setFolio_folio]
  · rw [State.raise_folio, State.setFolio_folio]
  · rw [State.raise_chan, State.setFolio_chan]
  · rw [State.raise_raised, State.setFolio_blot, State.setFolio_event]

theorem folioCoreSelftestDone_acts {s : State} {c : Fin 4} (hc : s.folio.cores.getD c.val .retired = .isolated)
    (h3 : s.folio.voters.length = 3) :
    (Completes (.folioCoreSelftestDone c true) s fun t => t.folio.cores = s.folio.cores.set c.val .spare ∧ t.chan = s.chan) ∧
    (Completes (.folioCoreSelftestDone c false) s fun t =>
      t.folio.cores = s.folio.cores.set c.val .retired ∧
      t.blot.raised = s.blot.raised ++ [s.event 0x070F ALARM c.val (coresLeft (s.folio.cores.set c.val .retired))]) := by
  have isolated : ¬ (s.folio.cores.getD c.val .retired ≠ .isolated) := not_not.mpr hc
  refine ⟨⟨s.setFolio { s.folio with
    cores := s.folio.cores.set c.val .spare
    code := if s.folio.settled then votingCode (s.folio.cores.set c.val .spare) else s.folio.code }, ?_, ?_⟩,
    ⟨(s.setFolio { s.folio with cores := s.folio.cores.set c.val .retired }).raise 0x070F ALARM c.val
    (coresLeft (s.folio.cores.set c.val .retired)), ?_, ?_⟩⟩
  · show execFolioCoreSelftestDone c true s = _
    rw [execFolioCoreSelftestDone, if_neg isolated, if_pos rfl]
    simp [h3, setCore]
  · simp
  · show execFolioCoreSelftestDone c false s = _
    rw [execFolioCoreSelftestDone, if_neg isolated, if_neg Bool.false_ne_true]
    rfl
  · exact ⟨by rw [State.raise_folio, State.setFolio_folio], by rw [State.raise_raised, State.setFolio_blot, State.setFolio_event]⟩

end Sys2Proof.Machine
end

section
/-! PROOF. The restore of a channel from its images and copies (R196, R199, R200). -/

namespace Sys2Proof.Machine

open Sys2Proof.Safety

/-! ### What the restore of one channel leaves -/

/-- `t` has the dies of `s`, and every channel but `n` with what the Vellum holds for it. -/
structure RestoresOnly (n : Fin 256) (s t : State) : Prop where
  die : t.die = s.die
  others : ∀ m, m ≠ n → (t.ch m, t.chv m) = (s.ch m, s.chv m)

section
variable {n : Fin 256} {s t u : State}

theorem RestoresOnly.refl (n : Fin 256) (s : State) : RestoresOnly n s s := ⟨rfl, fun _ _ => rfl⟩

theorem RestoresOnly.trans (h : RestoresOnly n s t) (h' : RestoresOnly n t u) : RestoresOnly n s u :=
  ⟨h'.die.trans h.die, fun m hm => (h'.others m hm).trans (h.others m hm)⟩

theorem RestoresOnly.updCh (f : Channel → Channel) (h : RestoresOnly n s t) : RestoresOnly n s (t.updCh n f) :=
  h.trans ⟨rfl, fun m hm => by rw [State.updCh_ch_of_ne _ _ hm.symm, State.updCh_chv]⟩

theorem RestoresOnly.updChv (f : ChVellum → ChVellum) (h : RestoresOnly n s t) : RestoresOnly n s (t.updChv n f) :=
  h.trans ⟨rfl, fun m hm => by rw [State.updChv_chv_of_ne _ _ hm.symm, State.updChv_ch]⟩

theorem RestoresOnly.raise (c v r p : Nat) (h : RestoresOnly n s t) : RestoresOnly n s (t.raise c v r p) := ⟨h.die, h.others⟩

theorem RestoresOnly.wears (h : RestoresOnly n s t) (hw : OnlyWears t u) : RestoresOnly n s u := by
  refine h.trans ⟨?_, fun m _ => by rw [hw.ch, hw.chv]⟩
  obtain ⟨_, _, rfl, _⟩ := hw
  rfl

theorem RestoresOnly.become (st : ChState) (h : RestoresOnly n s t) : RestoresOnly n s (t.become n st) :=
  h.trans ⟨State.become_die _ _ _, fun m hm => by rw [State.become_ch_of_ne _ _ _ hm, State.become_chv]⟩

end

/-! ### The restore, step by step -/

/-- The state that a restored channel takes, and its CLEAR_TO (R199). -/
def ChVellum.restores (v : ChVellum) : ChState × ChState :=
  restoredState ((newestCopy v).map fun x => x.2) (v.ckA.isBlank && v.ckB.isBlank) (chooseImage v.imgA v.imgB).isSome

/-- The channel takes its configuration image and its MIN_PULSE (R50, R196). -/
def Channel.takeImage (v : ChVellum) (c : Channel) : Channel :=
  { c with
    cfg := match chooseImage v.imgA v.imgB with
      | some (b, _) => b
      | none => c.cfg
    sets := match chooseImage v.imgA v.imgB with
      | some (_, l) => l
      | none => c.sets
    drive := { c.drive with minPulse := v.minPulse } }

/-- The channel takes from its newest copy what its state `st` keeps of it (R205). -/
def State.takeCopy (n : Fin 256) (copy : Option (Nat × Block)) (st : ChState) (s : State) : State :=
  match copy with
  | some (w, b) =>
    if st == ChState.interrupted || st == ChState.tripped then s.updCh n fun c => c.fromCopy w b
    else s.updCh n fun c => { c with
      run := { c.run with
        restored := some (w, b)
        runValid := bitAt b 4 22 } }
  | none => s

/-- A channel that was not ABSENT in `o` takes its restored state. -/
def State.takeState (n : Fin 256) (p : ChState × ChState) (s o : State) : State :=
  if (o.ch n).state = .absent then s else (s.updCh n fun c => { c with clearTo := p.2 }).become n p.1

/-- The restore is reported, and copies of which none is good are replaced by a fresh one (R200). -/
def State.reportRestore (n : Fin 256) (v : ChVellum) (s : State) : State :=
  let t := if (newestCopy v).isNone && !(v.ckA.isBlank && v.ckB.isBlank) then
      (if s.vel.failed.contains 5 then s else s.freshCopy n).raise 0x070A ALARM n.val (v.ckA.seq + 2 ^ 32 * v.ckB.seq)
    else s
  let b := match newestCopy v with
    | some (_, b) => b
    | none => []
  let isB := match newestCopy v with
    | some (w, _) => w
    | none => 0
  t.raise 0x070B INFO n.val ((t.ch n).state.code + 2 ^ 4 * ckState b + 2 ^ 8 * isB + 2 ^ 12 * ckCause b)

/-- The channel with its image. -/
def State.imaged (n : Fin 256) (s : State) : State := (s.repairImages n).updCh n (Channel.takeImage (s.chv n))

theorem State.restoreChannel_eq (n : Fin 256) (s : State) : s.restoreChannel n =
    ((((s.imaged n).takeCopy n (newestCopy (s.chv n)) (s.chv n).restores.1).takeState n (s.chv n).restores (s.imaged n)).reportRestore n
      (s.chv n)) := rfl

theorem State.repairImages_leaves (n : Fin 256) (s : State) : RestoresOnly n s (s.repairImages n) ∧ (s.repairImages n).chan = s.chan := by
  unfold State.repairImages
  dsimp only
  split
  · exact ⟨((RestoresOnly.refl n s).updChv _).raise _ _ _ _, rfl⟩
  · exact ⟨(RestoresOnly.refl n s).updChv _, rfl⟩

theorem State.takeCopy_leaves (n : Fin 256) (copy : Option (Nat × Block)) (st : ChState) (s : State) :
    RestoresOnly n s (s.takeCopy n copy st) ∧ ((s.takeCopy n copy st).ch n).state = (s.ch n).state ∧
    ((s.takeCopy n copy st).ch n).cfg = (s.ch n).cfg ∧ ((s.takeCopy n copy st).ch n).sets = (s.ch n).sets := by
  unfold State.takeCopy
  split
  · split <;> exact ⟨(RestoresOnly.refl n s).updCh _, by rw [State.updCh_ch]; exact ⟨rfl, rfl, rfl⟩⟩
  · exact ⟨.refl n s, rfl, rfl, rfl⟩

theorem State.takeState_leaves (n : Fin 256) (p : ChState × ChState) (s o : State) :
    RestoresOnly n s (s.takeState n p o) ∧
    ((s.takeState n p o).ch n).state = (if (o.ch n).state = .absent then (s.ch n).state else p.1) ∧
    ((s.takeState n p o).ch n).cfg = (s.ch n).cfg ∧ ((s.takeState n p o).ch n).sets = (s.ch n).sets := by
  unfold State.takeState
  split
  · exact ⟨.refl n s, rfl, rfl, rfl⟩
  · obtain ⟨m, e⟩ := State.become_ch_self n p.1 (s.updCh n fun c => { c with clearTo := p.2 })
    rw [e, State.updCh_ch]
    exact ⟨((RestoresOnly.refl n s).updCh _).become _, rfl, rfl, rfl⟩

theorem State.reportRestore_leaves (n : Fin 256) (v : ChVellum) (s : State) :
    RestoresOnly n s (s.reportRestore n v) ∧ (s.reportRestore n v).ch n = s.ch n := by
  have fresh : RestoresOnly n s (s.freshCopy n) ∧ (s.freshCopy n).ch n = s.ch n := by
    have wears : OnlyWears _ (s.freshCopy n) := State.wearRow_wears _ _ _
    exact ⟨((RestoresOnly.refl n s).updChv _).wears wears, wears.ch n⟩
  unfold State.reportRestore
  dsimp only
  rw [State.raise_ch]
  refine And.imp_left (RestoresOnly.raise _ _ _ _) ?_
  split
  · split
    · exact ⟨(RestoresOnly.refl n s).raise _ _ _ _, rfl⟩
    · exact ⟨fresh.1.raise _ _ _ _, fresh.2⟩
  · exact ⟨.refl n s, rfl⟩

/-- A channel that was not ABSENT takes its restored state; every channel takes its image. -/
theorem State.restoreChannel_spec (n : Fin 256) (s : State) :
    RestoresOnly n s (s.restoreChannel n) ∧
    ((s.restoreChannel n).ch n).state = (if (s.ch n).state = .absent then .absent else (s.chv n).restores.1) ∧
    (∀ cfg sets, chooseImage (s.chv n).imgA (s.chv n).imgB = some (cfg, sets) →
      ((s.restoreChannel n).ch n).cfg = cfg ∧ ((s.restoreChannel n).ch n).sets = sets) := by
  obtain ⟨repaired, chan⟩ := s.repairImages_leaves n
  have imaged : (s.imaged n).ch n = (s.ch n).takeImage (s.chv n) := by
    rw [State.imaged, State.updCh_ch, State.ch, chan]
    rfl
  obtain ⟨copied, state, cfg, sets⟩ := (s.imaged n).takeCopy_leaves n (newestCopy (s.chv n)) (s.chv n).restores.1
  obtain ⟨entered, state', cfg', sets'⟩ :=
    ((s.imaged n).takeCopy n (newestCopy (s.chv n)) (s.chv n).restores.1).takeState_leaves n (s.chv n).restores (s.imaged n)
  rw [State.restoreChannel_eq]
  obtain ⟨reported, same⟩ := (((s.imaged n).takeCopy n (newestCopy (s.chv n)) (s.chv n).restores.1).takeState n (s.chv n).restores
    (s.imaged n)).reportRestore_leaves n (s.chv n)
  refine ⟨(((repaired.updCh _).trans copied).trans entered).trans reported, ?_, fun c l image => ?_⟩
  · rw [same, state', state, imaged]
    show (if (s.ch n).state = .absent then (s.ch n).state else _) = _
    split
    next absent => exact absent
    next => rfl
  · rw [same, cfg', cfg, sets', sets, imaged, Channel.takeImage, image]
    exact ⟨rfl, rfl⟩

/-! ### All channels (R199) -/

/-- After passes over different channels, each of which changes what `view` shows of its own channel only, a channel is as its own pass has
left it. -/
theorem forAll_view_of_nodup {β : Type} {view : State → Fin 256 → β} {f : Fin 256 → State → State}
    (own : ∀ n m s, m ≠ n → view (f n s) m = view s m) {l : List (Fin 256)} (hl : l.Nodup) (s : State) (m : Fin 256) :
    (m ∉ l → view (forAll f l s) m = view s m) ∧
    (m ∈ l → ∃ t : State, view t m = view s m ∧ view (forAll f l s) m = view (f m t) m) := by
  induction l generalizing s with
  | nil => exact ⟨fun _ => rfl, fun h => absurd h List.not_mem_nil⟩
  | cons n l ih =>
    obtain ⟨new, rest⟩ := List.nodup_cons.mp hl
    obtain ⟨out, in_⟩ := ih rest (f n s)
    rcases eq_or_ne m n with rfl | hne
    · exact ⟨fun h => absurd List.mem_cons_self h, fun _ => ⟨s, rfl, out new⟩⟩
    · have same := own n m s hne
      refine ⟨fun h => (out fun hm => h (List.mem_cons_of_mem n hm)).trans same, fun h => ?_⟩
      obtain ⟨t, ht, e⟩ := in_ ((List.mem_cons.mp h).resolve_left hne)
      exact ⟨t, ht.trans same, e⟩

/-- The channels are restored; trip detection has not begun. -/
def State.restoreAll (s : State) : State := forAll State.restoreChannel allChannels s

theorem State.restoreAll_die (s : State) : s.restoreAll.die = s.die :=
  forAll_rel (R := fun s t => t.die = s.die) (fun _ => rfl) (fun _ _ _ h h' => h'.trans h) (fun n t => (t.restoreChannel_spec n).1.die)
    allChannels s

theorem State.restoreAll_ch (s : State) (n : Fin 256) :
    (s.restoreAll.ch n).state = (if (s.ch n).state = .absent then .absent else (s.chv n).restores.1) ∧
    (∀ cfg sets, chooseImage (s.chv n).imgA (s.chv n).imgB = some (cfg, sets) →
      (s.restoreAll.ch n).cfg = cfg ∧ (s.restoreAll.ch n).sets = sets) := by
  obtain ⟨t, before, after⟩ := (forAll_view_of_nodup (view := fun s n => (s.ch n, s.chv n)) (f := State.restoreChannel)
    (fun n m s hm => (s.restoreChannel_spec n).1.others m hm) (List.nodup_finRange 256) s n).2 (List.mem_finRange n)
  rw [Prod.mk.injEq] at before after
  obtain ⟨-, state, image⟩ := t.restoreChannel_spec n
  rw [before.1, before.2] at state
  rw [before.2] at image
  rw [State.restoreAll, allChannels, after.1]
  exact ⟨state, image⟩

/-- With no trip input active the start of trip detection changes nothing (R54). -/
theorem State.watchAll_of_quiet {o s : State} (h : ∀ f, (s.dieOf f).activePins = 0) : forAll (State.watchPins o) allChannels s = s :=
  forAll_of_fixed fun n _ => by simp [State.watchPins, h]

end Sys2Proof.Machine
end

section
/-! PROOF. The end of the Folio's boot (R450, R467), and O41. -/

namespace Sys2Proof.Machine

open Sys2Proof.Safety

/-! ### The Folio serves (R338, R450) -/

/-- An event that has waited since state `s` for the restart is raised. -/
def State.raiseKept (s : State) (e : BitVec 16 × BitVec 64) (t : State) : State :=
  t.raise e.1.toNat (match e.1.toNat with
    | 0x1012 => INFO
    | 0x1015 => NOTICE
    | _ => ALARM) 0
    (if e.1 = 0x1012 then e.2.toNat + 2 ^ 32 * min ((s.now - s.rst.wakeAt) / millisecond) 0xFFFFFFFF else e.2.toNat)

/-- No event waits for the restart any more. -/
def State.dropAfter (s : State) : State := { s with rst := { s.rst with after := [] } }

theorem State.raiseAfter_eq (s : State) : s.raiseAfter = (forAll s.raiseKept s.rst.after s).dropAfter := rfl

theorem State.raiseAfter_frame (s : State) : ∃ b, s.raiseAfter = ({ s with blot := b } : State).dropAfter := by
  have raised : ∃ b, forAll s.raiseKept s.rst.after s = { s with blot := b } := by
    refine forAll_rel (R := fun s t : State => ∃ b, t = { s with blot := b }) (fun t => ⟨t.blot, rfl⟩) ?_ (fun e t => ⟨_, rfl⟩) _ s
    rintro s t u ⟨_, rfl⟩ ⟨b, rfl⟩
    exact ⟨b, rfl⟩
  obtain ⟨b, e⟩ := raised
  exact ⟨b, by rw [State.raiseAfter_eq, e]⟩

theorem State.raiseAfter_none {s : State} (h : s.rst.after = []) : s.raiseAfter = s.dropAfter := by
  rw [State.raiseAfter_eq, h]
  rfl

/-- What the Folio is once it serves after its boot from `o`; `f` as the restore has left it. -/
def Folio.serving (o : State) (f : Folio) : Folio :=
  { f with
    mbReady := true
    restored := true
    readyOnce := true
    service := f.service || (!f.restored && o.rst.bootSrc == 3)
    code := votingCode f.cores
    watchdog := o.now }

/-- The release is complete. -/
def State.releaseDone (s : State) : State := { s with rst := { s.rst with stage := 12 } }

/-- The release is complete: 0x1001 is raised, and with it what has waited for the restart (R467). -/
def State.reportBoot (s : State) : State :=
  (s.releaseDone.raise 0x1001 INFO 0 (s.releaseDone.host.resetCause.toNat
    + 2 ^ 32 * min ((s.releaseDone.now - s.releaseDone.rst.since) / millisecond) 0xFFFFFFFF)).raiseAfter

/-- The Folio serves, after its boot from `o`. -/
def State.serve (o s : State) : State := (s.resumeServo.setFolio (s.folio.serving o)).reportBoot

theorem State.reportBoot_leaves (s : State) :
    s.reportBoot.folio = s.folio ∧ s.reportBoot.rst.stage = 12 ∧ s.reportBoot.chan = s.chan ∧ s.reportBoot.vel = s.vel := by
  unfold State.reportBoot
  generalize hu : State.raise _ _ _ _ _ = u
  obtain ⟨b, e⟩ := u.raiseAfter_frame
  rw [e, ← hu]
  exact ⟨rfl, rfl, rfl, rfl⟩

/-- With nothing waiting for the restart 0x1001 is raised alone. -/
theorem State.reportBoot_raised {s : State} (h : s.rst.after = []) :
    ∃ p, s.reportBoot.blot.raised = s.blot.raised ++ [s.event 0x1001 INFO 0 p] := by
  rw [State.reportBoot, State.raiseAfter_none (by rw [State.raise_rst]; exact h)]
  exact ⟨_, State.raise_raised ..⟩

theorem State.serve_leaves (o s : State) :
    (State.serve o s).folio = s.folio.serving o ∧ (State.serve o s).rst.stage = 12 ∧ (State.serve o s).chan = s.chan ∧
    (State.serve o s).vel = s.vel := by
  obtain ⟨folio, stage, chan, vel⟩ := (s.resumeServo.setFolio (s.folio.serving o)).reportBoot_leaves
  rw [State.setFolio_folio] at folio
  rw [State.setFolio_chan] at chan
  rw [State.setFolio_vel] at vel
  exact ⟨folio, stage, chan, vel⟩

theorem State.serve_raised {s : State} (o : State) (h : s.rst.after = []) :
    ∃ p, (State.serve o s).blot.raised = s.blot.raised ++ [s.event 0x1001 INFO 0 p] := by
  obtain ⟨p, raised⟩ := State.reportBoot_raised (s := s.resumeServo.setFolio (s.folio.serving o)) (by rw [State.setFolio_rst]; exact h)
  rw [State.setFolio_blot, State.setFolio_event] at raised
  exact ⟨p, raised⟩

/-! ### FOLIO_BOOT_DONE -/

/-- The Folio's boot has come to its end. -/
structure State.Boots (s : State) : Prop where
  stage : s.rst.stage = 11
  copyOk : s.folio.copyOk = true
  loader : s.folio.loader = none
  sources : s.rst.sources = []
  mbReady : s.folio.mbReady = false
  voters : 2 ≤ s.folio.voters.length

theorem exec_folioBootDone {s : State} (h : s.Boots) (hp : s.rst.pfailLow = false ∨ s.folio.restored = true) :
    exec .folioBootDone s = .next (State.serve s
      (if s.folio.restored then s else forAll (State.watchPins s) allChannels s.loadFolio.restoreAll)) := by
  obtain ⟨stage, copyOk, loader, sources, mbReady, voters⟩ := h
  show execFolioBootDone s = _
  rw [execFolioBootDone, if_neg]
  · rfl
  · have few : ¬ s.folio.voters.length < 2 := Nat.not_lt.mpr voters
    rcases hp with hp | hp <;> simp only [stage, copyOk, loader, sources, mbReady, few, hp, Reset.coverC, Reset.coverF] <;> simp

theorem folioBootDone_serves {s : State} (h : s.Boots) (hr : s.folio.restored = true) (ha : s.rst.after = []) :
    Completes .folioBootDone s fun t =>
      t.folio.mbReady = true ∧ t.rst.stage = 12 ∧ t.folio.code = votingCode s.folio.cores ∧ t.chan = s.chan ∧ t.vel = s.vel ∧
      (∃ p, t.blot.raised = s.blot.raised ++ [s.event 0x1001 INFO 0 p]) := by
  have acts := exec_folioBootDone h (.inr hr)
  rw [if_pos hr] at acts
  obtain ⟨folio, stage, chan, vel⟩ := s.serve_leaves s
  exact ⟨_, acts, by rw [folio]; rfl, stage, by rw [folio]; rfl, chan, vel, State.serve_raised s ha⟩

theorem folioBootDone_restores {s : State} (h : s.Boots) (hr : s.folio.restored = false) (hp : s.rst.pfailLow = false)
    (quiet : ∀ f, (s.dieOf f).activePins = 0) :
    Completes .folioBootDone s fun t =>
      t.folio.mbReady = true ∧ t.folio.restored = true ∧ t.rst.stage = 12 ∧
      (∀ n, (s.ch n).state = .off → (t.ch n).state =
        (restoredState ((newestCopy (s.chv n)).map fun x => x.2) ((s.chv n).ckA.isBlank && (s.chv n).ckB.isBlank)
          (chooseImage (s.chv n).imgA (s.chv n).imgB).isSome).1) ∧
      (∀ n, (s.ch n).state = .absent → (t.ch n).state = .absent) ∧
      (∀ n cfg sets, chooseImage (s.chv n).imgA (s.chv n).imgB = some (cfg, sets) → (t.ch n).cfg = cfg ∧ (t.ch n).sets = sets) := by
  have silent : ∀ f, (s.loadFolio.restoreAll.dieOf f).activePins = 0 := fun f => by
    rw [State.dieOf, State.restoreAll_die]
    exact quiet f
  have acts := exec_folioBootDone h (.inl hp)
  rw [if_neg (by rw [hr]; exact Bool.false_ne_true), State.watchAll_of_quiet silent] at acts
  obtain ⟨folio, stage, chan, -⟩ := State.serve_leaves s s.loadFolio.restoreAll
  have ch : ∀ n, (State.serve s s.loadFolio.restoreAll).ch n = s.loadFolio.restoreAll.ch n := fun n => congrArg (fun c => vget c n) chan
  have restored := s.loadFolio.restoreAll_ch
  refine ⟨_, acts, by rw [folio]; rfl, by rw [folio]; rfl, stage, fun n off => ?_, fun n absent => ?_, fun n cfg sets image => ?_⟩
  · rw [ch, (restored n).1, show (s.loadFolio.ch n).state = .off from off]
    rfl
  · rw [ch, (restored n).1, show (s.loadFolio.ch n).state = .absent from absent]
    rfl
  · rw [ch]
    exact (restored n).2 cfg sets image

end Sys2Proof.Machine

namespace Sys2Proof

open Sys2Proof.Machine Sys2Proof.Safety

/-- Settles O41: each clause is the lemma of its row above. A restore of all channels is `State.restoreAll_ch`, the end of the boot
`State.serve`. -/
theorem folioContinuity : Obligations.FolioContinuity := by
  unfold Obligations.FolioContinuity
  exact ⟨fun _ cls _ _ hc h2 hne => folioTransactionVote_isolates cls hc h2 hne,
    fun _ cls _ _ hc hne h3 h12 _ hs hf => folioTransactionVote_loses cls hc hne h3 h12 hs hf,
    fun _ _ hc h2 => folioVoteTimeout_isolates hc h2, fun _ _ hi h2 h4 _ => folioSpareJoined_votes hi h2 h4,
    fun _ _ hc h3 => folioCoreSelftestDone_acts hc h3,
    fun _ h11 ok hl hs hm hr hv ha => folioBootDone_serves ⟨h11, ok, hl, hs, hm, hv⟩ hr ha,
    fun _ h11 ok hl hs hm hr hv hp quiet => folioBootDone_restores ⟨h11, ok, hl, hs, hm, hv⟩ hr hp quiet⟩

end Sys2Proof
end

section
/-! PROOF. Time outputs, slots, captures and TIME_MARK (R225, R403, R415, R416, R418), and O52. -/

namespace Sys2Proof.Machine

open Sys2Proof.Safety

/-! ### The compare entries (R415, R416) -/

theorem vgetD_val {α : Type} {n : Nat} (v : Vector α n) (i : Fin n) (d : α) : vgetD v i.val d = vget v i := dif_pos i.isLt

theorem State.setEntry_entry_self {i : Nat} (x : TimeOut) (s : State) (h : i < 20) : (s.setEntry i x).entry i = x := by
  unfold State.entry State.setEntry State.updTb
  split
  next out => exact vgetD_vsetD_self _ _ _ out
  next => exact vgetD_vsetD_self _ _ _ (by omega)

theorem State.setEntry_entry_of_ne {i k : Nat} (x : TimeOut) (s : State) (h : k ≠ i) : (s.setEntry i x).entry k = s.entry k := by
  unfold State.entry State.setEntry State.updTb
  by_cases hi : i < 4 <;> by_cases hk : k < 4 <;> simp only [hi, hk, if_true, if_false]
  · exact vgetD_vsetD_of_ne _ _ _ h
  · exact vgetD_vsetD_of_ne _ _ _ (by omega)

@[simp] theorem State.setEntry_unit (i : Nat) (x : TimeOut) (s : State) (u : Fin 32) : (s.setEntry i x).unit u = s.unit u := rfl

/-- An output's entry after it has fired at cycle `now`: a change of level, or a pulse of WIDTH_NS (R415). -/
def TimeOut.pulsed (now : Nat) (x : TimeOut) : TimeOut :=
  if x.toggle then { x with level := !x.level } else { x with
    level := true
    pulse := some (now + (x.width + 3) / 4) }

/-- The entry goes on to the first compare time after `t`. -/
def TimeOut.advance (t : Nat) (x : TimeOut) : TimeOut := { x with next := x.after t }

theorem State.fire_output {i : Nat} (s : State) (h : i < 4) :
    s.fire i = s.setEntry i (((s.entry i).advance s.tb.time).pulsed s.now) := if_pos h

theorem State.fire_slot {i : Nat} (s : State) (h : ¬ i < 4) :
    s.fire i = State.slotSignal (i - 4) (s.setEntry i ((s.entry i).advance s.tb.time)) := if_neg h

theorem TimeOut.pulsed_leaves (now : Nat) (x : TimeOut) : (x.pulsed now).next = x.next ∧ (x.pulsed now).en = x.en := by
  unfold TimeOut.pulsed
  split <;> exact ⟨rfl, rfl⟩

theorem TimeOut.pulsed_level (now : Nat) (x : TimeOut) : (x.pulsed now).level = if x.toggle = true then !x.level else true := by
  unfold TimeOut.pulsed
  split <;> rfl

theorem TimeOut.pulsed_pulse {x : TimeOut} (now : Nat) (h : x.toggle = false) : (x.pulsed now).pulse = some (now + (x.width + 3) / 4) := by
  simp only [TimeOut.pulsed, h, Bool.false_eq_true, if_false]

@[simp] theorem State.slotSignal_entry (k : Nat) (s : State) (i : Nat) : (State.slotSignal k s).entry i = s.entry i := rfl

theorem State.slotSignal_unit (k : Nat) (s : State) (u : Fin 32) : ((State.slotSignal k s).unit u).seen.slots =
    if (s.unit u).watching = true then (s.unit u).seen.slots ++ [k] else (s.unit u).seen.slots := by
  rw [State.unit, State.slotSignal, vget_map]
  exact apply_ite (fun p : Pounce => p.seen.slots) ..

/-- An entry that fires goes on, and leaves the other entries, the Blotter and the channels. -/
theorem State.fire_leaves {i : Nat} (s : State) (h : i < 20) :
    ((s.fire i).entry i).next = (s.entry i).after s.tb.time ∧ ((s.fire i).entry i).en = (s.entry i).en ∧
    (∀ k, k ≠ i → (s.fire i).entry k = s.entry k) ∧ (s.fire i).blot = s.blot ∧ (s.fire i).chan = s.chan := by
  by_cases out : i < 4
  · rw [State.fire_output s out, State.setEntry_entry_self _ _ h]
    obtain ⟨next, en⟩ := ((s.entry i).advance s.tb.time).pulsed_leaves s.now
    exact ⟨next, en, fun k hk => State.setEntry_entry_of_ne _ _ hk, rfl, rfl⟩
  · rw [State.fire_slot s out, State.slotSignal_entry, State.setEntry_entry_self _ _ h]
    exact ⟨rfl, rfl, fun k hk => State.setEntry_entry_of_ne _ _ hk, rfl, rfl⟩

theorem compareFire_fires {s : State} {i : Fin 20} {n : Nat} (he : (s.entry i.val).en = true) (hn : (s.entry i.val).next = some n)
    (ht : n ≤ s.tb.time) :
    Completes (.compareFire i) s fun t =>
      (t.entry i.val).next = (s.entry i.val).after s.tb.time ∧ (t.entry i.val).en = true ∧
      (i.val < 4 → (t.entry i.val).level = (if (s.entry i.val).toggle = true then !(s.entry i.val).level else true) ∧
        ((s.entry i.val).toggle = false → (t.entry i.val).pulse = some (s.now + ((s.entry i.val).width + 3) / 4)) ∧ t.pounce = s.pounce) ∧
      (4 ≤ i.val → ∀ u, (t.unit u).seen.slots =
        if (s.unit u).watching = true then (s.unit u).seen.slots ++ [i.val - 4] else (s.unit u).seen.slots) ∧
      (∀ k, k < 20 → k ≠ i.val → t.entry k = s.entry k) ∧ t.blot = s.blot ∧ t.chan = s.chan := by
  have fires : exec (.compareFire i) s = .next (s.fire i.val) := by
    show execCompareFire i s = _
    simp only [execCompareFire, he, hn, ht, if_true]
  obtain ⟨next, en, others, blot, chan⟩ := s.fire_leaves i.isLt
  refine ⟨_, fires, next, en.trans he, fun out => ?_, fun slot u => ?_, fun k _ hk => others k hk, blot, chan⟩
  · rw [State.fire_output s out, State.setEntry_entry_self _ _ i.isLt]
    exact ⟨TimeOut.pulsed_level _ _, fun h => TimeOut.pulsed_pulse (x := (s.entry i.val).advance s.tb.time) _ h, rfl⟩
  · rw [State.fire_slot s (by omega), State.slotSignal_unit, State.setEntry_unit]

theorem compareFire_idle {s : State} {i : Fin 20} (h : (s.entry i.val).en = false ∨ ∀ n, (s.entry i.val).next = some n → s.tb.time < n) :
    exec (.compareFire i) s = .next s := by
  show execCompareFire i s = _
  unfold execCompareFire
  split
  next n he hn =>
    rcases h with h | h
    · rw [he] at h; contradiction
    · rw [if_neg (Nat.not_le.mpr (h n hn))]
  · rfl

/-- A periodic entry's next compare time is the first multiple of its period after `time` (R415). -/
theorem TimeOut.after_periodic {x : TimeOut} {n time : Nat} (hp : x.periodic = true) (h0 : 0 < x.period) (hs : x.start ≤ time)
    (ha : x.after time = some n) : time < n ∧ n ≤ time + x.period ∧ (n - x.start) % x.period = 0 := by
  have next : n = x.start + ((time - x.start) / x.period + 1) * x.period := by
    simpa [TimeOut.after, Nat.not_lt.mpr hs, hp, h0.ne', eq_comm] using ha
  have split_ := Nat.div_add_mod (time - x.start) x.period
  have rest := Nat.mod_lt (time - x.start) h0
  have periods : ((time - x.start) / x.period + 1) * x.period = x.period * ((time - x.start) / x.period) + x.period := by ring
  refine ⟨by omega, by omega, ?_⟩
  rw [next, Nat.add_sub_cancel_left, Nat.mul_mod_left]

/-! ### The end of a pulse (R415) -/

theorem State.entry_output (s : State) (i : Fin 4) : s.entry i.val = vget s.tb.tout i := (if_pos i.isLt).trans (vgetD_val ..)

theorem toutPulseEnd_lowers {s : State} {i : Fin 4} {e : Nat} (hp : (vget s.tb.tout i).pulse = some e) (he : e ≤ s.now) :
    Completes (.toutPulseEnd i) s fun t =>
      (t.entry i.val).level = false ∧ (t.entry i.val).pulse = none ∧ (∀ k, k < 20 → k ≠ i.val → t.entry k = s.entry k) ∧
      { t with tb := s.tb } = s := by
  have ends : exec (.toutPulseEnd i) s = .next (s.setEntry i.val { vget s.tb.tout i with
      level := false
      pulse := none }) := by
    show execToutPulseEnd i s = _
    simp only [execToutPulseEnd, hp, he, if_true]
  refine ⟨_, ends, ?_, ?_, fun k _ hk => State.setEntry_entry_of_ne _ _ hk, rfl⟩ <;> rw [State.setEntry_entry_self _ _ (by omega)]

theorem toutPulseEnd_idle {s : State} {i : Fin 4} (h : ∀ e, (vget s.tb.tout i).pulse = some e → s.now < e) :
    exec (.toutPulseEnd i) s = .next s := by
  show execToutPulseEnd i s = _
  unfold execToutPulseEnd
  dsimp only
  split
  next e he => rw [if_neg (Nat.not_le.mpr (h e he))]
  · rfl

/-! ### Captures (R418) -/

/-- An edge of input `i` is signalled to the units that watch (R225). -/
def State.tinSignal (i : Nat) (s : State) : State :=
  { s with pounce := s.pounce.map fun p =>
      if p.watching then { p with seen := { p.seen with tins := p.seen.tins ++ [i] } } else p }

/-- Input `i` replaced. -/
def State.setTin (i : Fin 4) (x : Tin) (s : State) : State := s.updTb fun t => { t with tin := vset t.tin i x }

/-- The input after an edge whose capture joins the others. -/
def Tin.capture (time era : Nat) (falling : Bool) (x : Tin) : Tin :=
  { x with
    level := !falling
    queue := x.queue ++ [(time, era, falling)] }

/-- The input after an edge that finds its captures full. -/
def Tin.lose (falling : Bool) (x : Tin) : Tin :=
  { x with
    level := !falling
    lost := min (x.lost + 1) 0xFFFF
    told := true }

section
variable {s : State} {i : Fin 4} {f : Bool} {held : Nat} (hh : 12 ≤ held) (hl : (vget s.tb.tin i).level = f)
include hh hl

theorem edge_seen : (decide (held < 12) || (vget s.tb.tin i).level != f) = false := by simp [hl, Nat.not_lt.mpr hh]

theorem exec_tinCapture_room (hq : (vget s.tb.tin i).queue.length < 64) :
    exec (.tinCapture i { falling := f, held := held }) s =
      .next ((s.setTin i ((vget s.tb.tin i).capture s.tb.time s.tb.era f)).tinSignal i.val) := by
  show execTinCapture i _ s = _
  simp only [execTinCapture, edge_seen hh hl, Bool.false_eq_true, if_false, State.updTb, vget_vset_self, vset_vset, hq, if_true]
  rfl

theorem exec_tinCapture_full (hq : 64 ≤ (vget s.tb.tin i).queue.length) (ht : (vget s.tb.tin i).told = false) :
    exec (.tinCapture i { falling := f, held := held }) s =
      .next (((s.setTin i ((vget s.tb.tin i).lose f)).raise 0x0E08 NOTICE i.val (min ((vget s.tb.tin i).lost + 1) 0xFFFF)).tinSignal i.val) := by
  show execTinCapture i _ s = _
  simp only [execTinCapture, edge_seen hh hl, Bool.false_eq_true, if_false, State.updTb, vget_vset_self, vset_vset, Nat.not_lt.mpr hq, ht]
  rfl

theorem tinCapture_captures (hq : (vget s.tb.tin i).queue.length < 64) :
    Completes (.tinCapture i { falling := f, held := held }) s fun t =>
      (vget t.tb.tin i).queue = (vget s.tb.tin i).queue ++ [(s.tb.time, s.tb.era, f)] ∧ (vget t.tb.tin i).lost = (vget s.tb.tin i).lost ∧
      (vget t.tb.tin i).level = (!f) ∧ (∀ j, j ≠ i → vget t.tb.tin j = vget s.tb.tin j) ∧ t.blot = s.blot ∧ t.chan = s.chan := by
  refine ⟨_, exec_tinCapture_room hh hl hq, ?_⟩
  simp only [State.tinSignal, State.setTin, State.updTb, vget_vset_self, Tin.capture]
  exact ⟨trivial, trivial, trivial, fun j hj => vget_vset_of_ne _ _ hj.symm, trivial, trivial⟩

theorem tinCapture_loses (hq : 64 ≤ (vget s.tb.tin i).queue.length) (ht : (vget s.tb.tin i).told = false) :
    Completes (.tinCapture i { falling := f, held := held }) s fun t =>
      (vget t.tb.tin i).queue = (vget s.tb.tin i).queue ∧ (vget t.tb.tin i).lost = min ((vget s.tb.tin i).lost + 1) 0xFFFF ∧
      t.blot.raised = s.blot.raised ++ [s.event 0x0E08 NOTICE i.val (min ((vget s.tb.tin i).lost + 1) 0xFFFF)] := by
  refine ⟨_, exec_tinCapture_full hh hl hq ht, ?_⟩
  simp only [State.tinSignal, State.raise_tb, State.setTin, State.updTb, vget_vset_self, Tin.lose]
  exact ⟨trivial, trivial, rfl⟩

end

theorem tinCapture_unseen {s : State} {i : Fin 4} {f : Bool} {held : Nat} (h : held < 12 ∨ (vget s.tb.tin i).level ≠ f) :
    exec (.tinCapture i { falling := f, held := held }) s = .next s := by
  have unseen : (decide (held < 12) || (vget s.tb.tin i).level != f) = true := by simpa [bne_iff_ne] using h
  show execTinCapture i _ s = _
  simp only [execTinCapture, unseen, if_true]

/-! ### TIME_MARK (R403) -/

/-- A write of the Vellum wears its row and leaves TIME_MARK (R430). -/
theorem State.persist_timeMark (region k : Nat) (s : State) : (s.persist region k).vel.timeMark = s.vel.timeMark := by
  have retires : ∀ row cause (u : State), (u.retireRow row cause).vel.timeMark = u.vel.timeMark := fun row cause u => by
    unfold State.retireRow
    split <;> rfl
  unfold State.persist State.wearRow
  dsimp only
  split
  · rw [retires]; split <;> rfl
  · split <;> rfl

theorem timeMarkWrite_writes {s : State} (hr : s.tb.running = true) (hm : s.tb.markAt + second ≤ s.now) :
    Completes .timeMarkWrite s fun t =>
      t.vel.timeMark = some (s.tb.time / 1000000, s.tb.era) ∧ { t.tb with markAt := s.tb.markAt } = s.tb ∧ t.tb.markAt = s.now ∧
      t.chan = s.chan := by
  have writes : exec .timeMarkWrite s = .next (s.updTb fun t => { t with markAt := s.now }).markTime := by
    show execTimeMarkWrite s = _
    simp only [execTimeMarkWrite, hr, hm, decide_true, Bool.and_self, if_true]
  obtain ⟨v, b, worn, -⟩ : OnlyWears { s.updTb fun t => { t with markAt := s.now } with
      vel := { s.vel with timeMark := some (s.tb.time / 1000000, s.tb.era) } } (s.updTb fun t => { t with markAt := s.now }).markTime :=
    State.persist_wears 0 1 _
  refine ⟨_, writes, State.persist_timeMark .., ?_⟩
  rw [worn]
  exact ⟨rfl, rfl, rfl⟩

theorem timeMarkWrite_idle {s : State} (h : s.tb.running = false ∨ s.now < s.tb.markAt + second) : exec .timeMarkWrite s = .next s := by
  show execTimeMarkWrite s = _
  refine congrArg _ (if_neg ?_)
  rcases h with h | h <;> simp [h]

end Sys2Proof.Machine

namespace Sys2Proof

open Sys2Proof.Machine Sys2Proof.Safety

/-- Settles O52: each clause is the lemma of its row above. -/
theorem timeOutputsAct : Obligations.TimeOutputsAct := by
  unfold Obligations.TimeOutputsAct
  exact ⟨fun _ _ _ he hn ht => compareFire_fires he hn ht, fun _ _ h => compareFire_idle h,
    fun _ _ _ hp h0 hs ha => TimeOut.after_periodic hp h0 hs ha, fun _ _ _ hp he => toutPulseEnd_lowers hp he,
    fun _ _ h => toutPulseEnd_idle h, fun _ _ _ _ hh hl hq => tinCapture_captures hh hl hq,
    fun _ _ _ _ hh hl hq ht => tinCapture_loses hh hl hq ht, fun _ _ _ _ h => tinCapture_unseen h,
    fun _ hr hm => timeMarkWrite_writes hr hm, fun _ h => timeMarkWrite_idle h⟩

end Sys2Proof
end

section
/-! PROOF. O42 fails in its clause of ACQ_READ with OP 2 (R183, R238). It asks for quota before the command's own item is served, while the
check comes after; it speaks of every state, and where other items bear the number (`uid`) of the command's item, the serving of that item
puts them all in service, which can use the quota up. -/

namespace Sys2Proof.Machine

open Sys2Proof.Safety

/-! ### A state in which held posts bear the number of the command's item -/

/-- ACQ_READ with OP 2 of unit 0 from mailbox 0. -/
def rangeRead : MbCmd := { mb := 0, target := unitTarget 0, length := 28, params := [2, 0, 0] }

/-- The item of the command of mailbox 0, and a post of its share that is still held (R182); both bear the number 0. -/
def commandPost : Item :=
  { uid := 0, flow := 304, target := .folio, prio := 2, work := .command 0, due := 0, producer := .mailbox 0, handle := 0, state := .ready,
    readyNo := 0, requeued := false, block := 0 }
def heldTwin : Item := { commandPost with
  work := .other 0
  state := .held }

/-- The block serves mailbox 0, which has a session of OPERATE and has taken `rangeRead`; unit 0 is COMPLETE; as many posts as a share has
entries are held. -/
def crowded : State :=
  let s := (State.reset.updUnit 0 fun p => { p with state := .complete }).updMb 0 fun b => { b with
    session := some (1, .operate)
    taken := [(rangeRead, 0x0605)] }
  { s with
    folio := { s.folio with mbReady := true }
    quire := { s.quire with items := commandPost :: List.replicate 480 heldTwin } }

theorem crowded_granted : Granted 0x0605 1 rangeRead crowded := by decide

theorem crowded_complete : (crowded.unit 0).state = .complete := by decide

/-- Held posts take no entry: the whole share is free. -/
theorem crowded_quota : crowded.quire.quotaFree 0 = 480 := by decide

theorem crowded_items : crowded.quire.items = commandPost :: List.replicate 480 heldTwin := rfl

/-- An item in service, at place `b` of its block. -/
def Item.inServiceAt (b : Nat) (it : Item) : Item := { it with
  state := .inService
  block := b }

/-- The command's item enters service, and with it every item of its number. -/
theorem crowded_takeOff_items : ∃ b, (crowded.takeOff 0x0605 rangeRead).quire.items =
    commandPost.inServiceAt b :: List.replicate 480 (heldTwin.inServiceAt b) := by
  have served : ∃ b h, (crowded.takeOff 0x0605 rangeRead).quire = crowded.quire.enter commandPost b h := ⟨_, _, rfl⟩
  obtain ⟨b, h, served⟩ := served
  refine ⟨b, ?_⟩
  rw [served, Quire.enter, crowded_items, List.map_cons, List.map_replicate]
  rfl

/-- An item in service takes an entry of its share, but for a command's own: none of the share is left. -/
theorem crowded_takeOff_quota : (crowded.takeOff 0x0605 rangeRead).quire.quotaFree 0 = 0 := by
  obtain ⟨b, items⟩ := crowded_takeOff_items
  have own : ((commandPost.inServiceAt b).live && !(commandPost.inServiceAt b).work.isCommand &&
    shareKey (commandPost.inServiceAt b).producer == shareKey (.mailbox 0)) = false := rfl
  have twin : ((heldTwin.inServiceAt b).live && !(heldTwin.inServiceAt b).work.isCommand &&
    shareKey (heldTwin.inServiceAt b).producer == shareKey (.mailbox 0)) = true := rfl
  rw [Quire.quotaFree, Quire.used, items, List.filter_cons, List.filter_replicate, own, twin]
  simp only [Bool.false_eq_true, if_false, if_true, List.length_replicate]

/-! ### The command is refused (R183) -/

/-- A command with more posts than its mailbox's quota has left, that passes the checks before (R346, R347). -/
theorem Hdr.check_busy {h : Hdr} {m : MbCmd} {s : State} (hl : s.folio.loader = none) (hlen : h.lenOk m = true)
    (hf : m.flags.toNat / 2 = 0) (hr : m.rsvd = 0) (ht : h.targetOk m = true) (ha : h.auth m ≤ (s.mbox m.mb).authority)
    (hq : s.quire.quotaFree m.mb < h.items m s) : h.check m s = some (RC_BUSY_QUEUE, h.items m s) := by
  have authority : ¬ (s.mbox m.mb).authority < h.auth m := by omega
  simp [Hdr.check, hl, hlen, hf, hr, ht, authority, hq]

/-- What R361 fixes of ACQ_READ. -/
def hdrAcqRead : Hdr := { unitHdr 0x0605 28 0 with
  auth := fun m => b2n (decide (2 ≤ fieldAt m.params 0 1 0))
  items := fun m _ => b2n (fieldAt m.params 0 1 0 == 2) }

theorem acqRead_crowded_busy : exec (.acqRead rangeRead) crowded =
    .next ((crowded.takeOff 0x0605 rangeRead).respond 0 (answerTo rangeRead RC_BUSY_QUEUE 4 1 [])) := by
  obtain ⟨turn, loader, authority⟩ := crowded_granted
  have busy : hdrAcqRead.check rangeRead (crowded.takeOff 0x0605 rangeRead) = some (RC_BUSY_QUEUE, 1) :=
    Hdr.check_busy (by simpa using loader) (by decide) (by decide) rfl (Hdr.targetOk_unit rfl rfl)
      (by rw [show hdrAcqRead.auth rangeRead = 1 by decide]; simpa using authority)
      (by rw [show rangeRead.mb = 0 from rfl, crowded_takeOff_quota]; decide)
  have state : hdrAcqRead.stateCode rangeRead (crowded.takeOff 0x0605 rangeRead) = 4 := by
    rw [Hdr.stateCode_unit (u := 0) rfl (by decide) rfl, State.takeOff_unit, crowded_complete]; rfl
  refine congrArg Host.Outcome.next ((Hdr.run_refused turn busy).trans ?_)
  exact congrArg (fun code => State.respond 0 (answerTo rangeRead RC_BUSY_QUEUE code 1 []) _) state

end Sys2Proof.Machine

namespace Sys2Proof

open Sys2Proof.Machine Sys2Proof.Safety

/-- Refutes O42: in `crowded` the share of mailbox 0 is free and OP 2 of ACQ_READ is granted, yet the serving of the command's own item
leaves no entry, and the command is answered RC_BUSY_QUEUE where the statement has its mailbox held. -/
theorem not_pounceComplete : ¬ Obligations.PounceComplete := by
  unfold Obligations.PounceComplete
  rintro ⟨-, -, -, -, -, reads, -⟩
  obtain ⟨-, -, delivers, -⟩ := reads rangeRead crowded 0 crowded_granted rfl rfl (by decide) (.inr crowded_complete)
  obtain ⟨t, ht, working, -⟩ := delivers (by decide) (by rw [show rangeRead.mb = 0 from rfl, crowded_quota]; decide) (by decide)
  have idle : (t.mbox 0).working = 0 := by
    rw [← Host.Outcome.next.inj (acqRead_crowded_busy.symm.trans ht), State.respond_of_open _ (by rw [State.takeOff_mb_discard]; rfl),
      State.updMb_mbox]
    exact State.takeOff_mb_working ..
  exact absurd (idle.symm.trans working) (by decide)

end Sys2Proof
end

section
/-! PROOF. O18 fails in its clause of REC_ACK with no record sent. It asks for no path that reaches the registers, and a WINDOW write that
WIN_CFG refuses is counted (R265, R337, R355). -/

namespace Sys2Proof.Machine

/-- A REC_ACK write of a fabric address that WIN_CFG refuses is an ignored access, and counted as one (R337, R355). -/
theorem exec_recAckWrite_refused {a : BitVec 16} {s : State} (k : Fin 4) (v : Word) (h : s.host.winWrites a = false) :
    exec (.recAckWrite (.fabric a) k v) s = .next s.accessErr := by
  show execRecAckWrite (.fabric a) k v s = _
  simp [execRecAckWrite, State.write, h]

/-- The block after reset, but that the host has written 0 to WIN_CFG: no fabric address writes (R355). -/
def windowShut : State := { State.reset with host := { State.reset.host with winCfg := 0 } }

theorem windowShut_refuses (a : BitVec 16) : windowShut.host.winWrites a = false := rfl

theorem windowShut_unsent (k : Fin 4) : (windowShut.stream k).top = none := congrArg Stream.top (State.reset_stream k)

/-- No access has been ignored yet; the refused one is the first. -/
theorem windowShut_counts : windowShut.accessErr ≠ windowShut := by
  have differ : windowShut.accessErr.host.accessErr ≠ windowShut.host.accessErr := by decide
  exact fun same => differ (congrArg (fun s => s.host.accessErr) same)

end Sys2Proof.Machine

namespace Sys2Proof

open Sys2Proof.Machine

/-- Refutes O18: in `windowShut` no stream has sent a record, yet a REC_ACK write by WINDOW frame is counted as an ignored access, where
the statement has the state as it was. -/
theorem not_streamAndCursorRegistersWritten : ¬ Obligations.StreamAndCursorRegistersWritten := by
  unfold Obligations.StreamAndCursorRegistersWritten
  rintro ⟨-, -, -, unsent, -⟩
  have ignored := unsent (.fabric 0) 0 0 windowShut (windowShut_unsent 0)
  have counted := exec_recAckWrite_refused 0 0 (windowShut_refuses 0)
  exact windowShut_counts (Host.Outcome.next.inj (counted.symm.trans ignored))

end Sys2Proof
end

section
/-! PROOF. Delivery of the PCIe streams (R263): what a stream that places its records changes and leaves, and the return of its buffer. -/

namespace Sys2Proof.Machine

open Sys2Proof.Safety

theorem State.updStream_updStream (k : Fin 4) (f g : Stream → Stream) (s : State) :
    (s.updStream k f).updStream k g = s.updStream k fun r => g (f r) := by
  simp only [State.updStream, State.stream, vget_vset_self, vset_vset]

@[simp] theorem State.updStream_hostOut (k : Fin 4) (f : Stream → Stream) (s : State) : (s.updStream k f).hostOut = s.hostOut := rfl

/-! ### Placing records -/

/-- `t` is `s` but for what stream `k` has placed: the next descriptor, the buffer, the last record placed. -/
def Places (k : Fin 4) (s t : State) : Prop :=
  ∃ h b q, t = s.updStream k fun r => { r with
    ringHead := h
    buf := b
    sent := q }

theorem Places.refl (k : Fin 4) (s : State) : Places k s s :=
  ⟨(s.stream k).ringHead, (s.stream k).buf, (s.stream k).sent, (State.updStream_self k s).symm⟩

theorem Places.trans {k : Fin 4} {s t u : State} : Places k s t → Places k t u → Places k s u := by
  rintro ⟨_, _, _, rfl⟩ ⟨h, b, q, rfl⟩
  exact ⟨h, b, q, State.updStream_updStream ..⟩

/-- A record joins the buffer being filled, or that of the next descriptor. -/
theorem State.fillOne_cases {k : Fin 4} {s t : State} (h : s.fillOne k = some t) : ∃ x : Stored,
    (∃ b, (s.stream k).buf = some b ∧ t = s.updStream k fun r => { r with
      buf := some (b.put x)
      sent := some x.seq }) ∨
    (s.stream k).buf = none ∧ ∃ b, t = s.updStream k fun r => { r with
      ringHead := (r.ringHead + 1) % 65536
      buf := some b
      sent := some x.seq } := by
  unfold State.fillOne at h
  dsimp only at h
  split at h
  · cases h
  · split at h
    next => cases h
    next x b _ hb =>
      split at h
      · exact ⟨x, .inl ⟨b, hb, (Option.some.inj h).symm⟩⟩
      · cases h
    next x _ hb =>
      obtain ⟨d, -, e⟩ := Option.map_eq_some_iff.mp h
      exact ⟨x, .inr ⟨hb, _, e.symm⟩⟩

theorem State.fillOne_places {k : Fin 4} {s t : State} (h : s.fillOne k = some t) : Places k s t := by
  obtain ⟨x, ⟨b, -, rfl⟩ | ⟨-, b, rfl⟩⟩ := State.fillOne_cases h
  · exact ⟨(s.stream k).ringHead, some (b.put x), some x.seq, rfl⟩
  · exact ⟨((s.stream k).ringHead + 1) % 65536, some b, some x.seq, rfl⟩

theorem State.fillBuffer_places (k : Fin 4) (n : Nat) (s : State) : Places k s (s.fillBuffer k n) := by
  induction n generalizing s with
  | zero => exact .refl k s
  | succ n ih =>
    rw [State.fillBuffer]
    split
    next t h => exact (State.fillOne_places h).trans (ih t)
    next => exact .refl k s

theorem State.fillBuffer_of_none {k : Fin 4} {s : State} (n : Nat) (h : s.fillOne k = none) : s.fillBuffer k n = s := by
  cases n with
  | zero => rfl
  | succ n => rw [State.fillBuffer, h]

/-! ### Where nothing is placed -/

/-- The stream places nothing in host memory: no traffic leaves for the host, or the stream is closed or delivers to the fabric. -/
abbrev State.Halted (s : State) (k : Fin 4) : Prop := s.hostOut = true ∨ (s.stream k).open_ = false ∨ (s.stream k).fabric = true

theorem State.fillOne_of_halted {k : Fin 4} {s : State} (h : s.Halted k) : s.fillOne k = none := by
  rcases h with h | h | h <;> simp [State.fillOne, h]

/-- A stream without a buffer waits for a descriptor. -/
theorem State.fillOne_of_noDesc {k : Fin 4} {s : State} (hb : (s.stream k).buf = none) (hd : (s.stream k).nextDesc = none) :
    s.fillOne k = none := by
  cases hx : (s.toSend k).head? <;> simp [State.fillOne, hb, hd, hx]

/-! ### Where records are placed -/

/-- A buffer keeps its descriptor while records join it. -/
theorem State.fillBuffer_fills {k : Fin 4} {s : State} {b : StreamBuf} (n : Nat) (hb : (s.stream k).buf = some b) :
    ((s.fillBuffer k n).stream k).ringHead = (s.stream k).ringHead ∧
    ∃ c, ((s.fillBuffer k n).stream k).buf = some c ∧ c.addr = b.addr ∧ c.size = b.size ∧ c.desc = b.desc := by
  induction n generalizing s b with
  | zero => exact ⟨rfl, b, hb, rfl, rfl, rfl⟩
  | succ n ih =>
    rw [State.fillBuffer]
    split
    next t h =>
      obtain ⟨x, ⟨b', hb', joined⟩ | ⟨none_, -⟩⟩ := State.fillOne_cases h
      · obtain rfl : b' = b := Option.some.inj (hb'.symm.trans hb)
        obtain ⟨head, c, hc, addr, size, desc⟩ := ih (s := t) (b := b'.put x) (by rw [joined, State.updStream_stream])
        refine ⟨head.trans ?_, c, hc, addr, size, desc⟩
        rw [joined, State.updStream_stream]
      · cases none_.symm.trans hb
    next => exact ⟨rfl, b, hb, rfl, rfl, rfl⟩

/-- A stream with a record to send takes the next descriptor, once. -/
theorem State.fillBuffer_takes {k : Fin 4} {s : State} {x : Stored} {d : RingDesc} {n : Nat} (hn : 0 < n) (hp : ¬ s.Halted k)
    (hx : (s.toSend k).head? = some x) (hb : (s.stream k).buf = none) (hd : (s.stream k).nextDesc = some d) :
    ((s.fillBuffer k n).stream k).ringHead = ((s.stream k).ringHead + 1) % 65536 ∧
    ∃ b, ((s.fillBuffer k n).stream k).buf = some b ∧ b.addr = d.addr ∧ b.size = d.size ∧
      b.desc = (s.stream k).ringHead % (s.stream k).entries := by
  obtain ⟨n, rfl⟩ := Nat.exists_eq_add_one.mpr hn
  simp only [not_or, Bool.not_eq_true] at hp
  obtain ⟨out, open_, fabric⟩ := hp
  let b : StreamBuf := { desc := (s.stream k).ringHead % (s.stream k).entries, addr := d.addr, size := d.size, since := s.now }
  let t := s.updStream k fun r => { r with
    ringHead := ((s.stream k).ringHead + 1) % 65536
    buf := some (b.put x)
    sent := some x.seq }
  have one : s.fillOne k = some t := by
    simp only [State.fillOne, out, open_, fabric, hx, hb, hd]
    rfl
  have first : t.stream k = _ := State.updStream_stream ..
  rw [State.fillBuffer, one]
  obtain ⟨head, c, hc, addr, size, desc⟩ := State.fillBuffer_fills (s := t) (b := b.put x) n (by rw [first])
  exact ⟨head.trans (by rw [first]), c, hc, addr, size, desc⟩

/-! ### Every stream places what it can -/

/-- `t` is `s` but for its streams, of which those that are halted are as they were. -/
def PlacesInAll (s t : State) : Prop :=
  ∃ v, t = { s with ink := { s.ink with streams := v } } ∧ ∀ k, s.Halted k → vget v k = s.stream k

theorem PlacesInAll.refl (s : State) : PlacesInAll s s := ⟨s.ink.streams, rfl, fun _ _ => rfl⟩

theorem PlacesInAll.trans (s t u : State) : PlacesInAll s t → PlacesInAll t u → PlacesInAll s u := by
  rintro ⟨v, rfl, hv⟩ ⟨w, rfl, hw⟩
  refine ⟨w, rfl, fun k hk => (hw k ?_).trans (hv k hk)⟩
  show s.hostOut = true ∨ (vget v k).open_ = false ∨ (vget v k).fabric = true
  rw [hv k hk]
  exact hk

theorem State.fillBuffer_placesInAll (j : Fin 4) (n : Nat) (s : State) : PlacesInAll s (s.fillBuffer j n) := by
  obtain ⟨h, b, q, placed⟩ := s.fillBuffer_places j n
  refine ⟨_, placed, fun k hk => ?_⟩
  rcases eq_or_ne j k with rfl | hne
  · have still := State.fillBuffer_of_none n (State.fillOne_of_halted hk)
    exact congrArg (fun t => State.stream t j) (placed.symm.trans still)
  · exact vget_vset_of_ne _ _ hne

theorem State.fillBuffers_placesInAll (s : State) : PlacesInAll s s.fillBuffers :=
  forAll_rel PlacesInAll.refl PlacesInAll.trans (fun k t => t.fillBuffer_placesInAll k t.ink.store.length) _ s

/-! ### A buffer returns (R263) -/

/-- BYTES is written, OWN cleared, the vector signals; SENT_SEQ is the last record of the buffer. -/
theorem State.returnBuffer_cases {k : Fin 4} {s : State} {b : StreamBuf} (h : (s.stream k).buf = some b) :
    ∃ p q, s.returnBuffer k = State.irq (8 + k.val) (s.updStream k fun _ => { s.stream k with
      buf := none
      ring := (s.stream k).ring.map fun e => if e.1 = b.desc then (e.1, { e.2 with own := false }) else e
      returned := (s.stream k).returned ++ [b]
      sent := some (b.seqs.getLastD 0)
      sentSeq := b.seqs.getLastD 0
      progress := p
      top := q }) := by
  rw [State.returnBuffer, h]
  dsimp only
  rw [State.sentTo, State.updStream_updStream]
  exact ⟨_, _, rfl⟩

theorem State.returnBuffer_of_none {k : Fin 4} {s : State} (h : (s.stream k).buf = none) : s.returnBuffer k = s := by
  rw [State.returnBuffer, h]

/-- Whether or not the stream fills a buffer, afterwards it fills none, and the store and the other streams are as they were. -/
theorem State.returnBuffer_returns (k : Fin 4) (s : State) :
    ((s.returnBuffer k).stream k).buf = none ∧
    ((s.returnBuffer k).stream k).returned = (s.stream k).returned ++ (s.stream k).buf.toList ∧
    (∀ j, j ≠ k → (s.returnBuffer k).stream j = s.stream j) ∧ (s.returnBuffer k).ink.store = s.ink.store ∧
    (s.returnBuffer k).chan = s.chan := by
  cases h : (s.stream k).buf with
  | none => simp [State.returnBuffer_of_none h, h]
  | some b =>
    obtain ⟨p, q, e⟩ := State.returnBuffer_cases h
    rw [e]
    refine ⟨?_, ?_, fun j hj => ?_, rfl, rfl⟩
    · rw [State.irq_stream, State.updStream_stream]
    · rw [State.irq_stream, State.updStream_stream]; rfl
    · rw [State.irq_stream, State.updStream_stream_of_ne _ _ hj.symm]

/-! ### STREAM_BUFFER_RETURN (R263, R349) -/

/-- A stream that can place nothing more and whose buffer is not due waits. -/
theorem streamBufferReturn_waits {u s : State} {k : Fin 4} {n : Nat} {d : RingDesc} (hs : s = u.readDesc k n d) (h : s.fillOne k = none)
    (hd : s.bufferDue k = false ∨ s.hostOut = true) : exec (.streamBufferReturn k n d) u = .next s := by
  show execStreamBufferReturn k n d u = _
  have waits : (s.bufferDue k && !s.hostOut) = false := by rcases hd with hd | hd <;> simp [hd]
  simp only [execStreamBufferReturn, ← hs, State.fillBuffer_of_none _ h, waits]
  rfl

theorem streamBufferReturn_returns {u s : State} {k : Fin 4} {n : Nat} {d : RingDesc} {b : StreamBuf} (hs : s = u.readDesc k n d)
    (h : s.fillOne k = none) (hb : (s.stream k).buf = some b) (hd : s.bufferDue k = true) (ho : s.hostOut = false) :
    Completes (.streamBufferReturn k n d) u fun t =>
      (t.stream k).returned = (s.stream k).returned ++ [b] ∧ (t.stream k).sentSeq = b.seqs.getLastD 0 ∧
      (∀ e ∈ (t.stream k).ring, e.1 = b.desc → e.2.own = false) ∧
      (t.stream k).ring.map (fun e => (e.1, e.2.addr, e.2.size)) = (s.stream k).ring.map (fun e => (e.1, e.2.addr, e.2.size)) ∧
      t.host = (s.irq (8 + k.val)).host ∧ (∀ j, j ≠ k → t.stream j = s.stream j) ∧ t.ink.store = s.ink.store ∧
      t.chan = s.chan := by
  have acts : exec (.streamBufferReturn k n d) u = .next ((s.returnBuffer k).fillBuffer k s.ink.store.length) := by
    show execStreamBufferReturn k n d u = _
    simp [execStreamBufferReturn, ← hs, State.fillBuffer_of_none _ h, hd, ho]
  refine ⟨_, acts, ?_⟩
  obtain ⟨p, q, returned⟩ := State.returnBuffer_cases hb
  obtain ⟨head, buf, sent, placed⟩ := (s.returnBuffer k).fillBuffer_places k s.ink.store.length
  rw [placed, returned, State.updStream_stream, State.irq_stream, State.updStream_stream]
  refine ⟨rfl, rfl, ?_, ?_, rfl, fun j hj => ?_, rfl, rfl⟩
  · intro e he own
    obtain ⟨x, -, rfl⟩ := List.mem_map.mp he
    split at own
    next => rw [if_pos ‹_›]
    next hne => exact absurd own hne
  · rw [List.map_map]
    refine List.map_congr_left fun e _ => ?_
    rw [Function.comp_apply]
    split <;> rfl
  · rw [State.updStream_stream_of_ne _ _ hj.symm, State.irq_stream, State.updStream_stream_of_ne _ _ hj.symm]

end Sys2Proof.Machine
end

section
/-! PROOF. The commands of the Inkwell (R262, R268): a stream is opened and closed, the store's status is answered. -/

namespace Sys2Proof.Machine

open Sys2Proof.Safety

@[simp] theorem State.takeOff_hostOut (op : Nat) (m : MbCmd) (s : State) : (s.takeOff op m).hostOut = s.hostOut := by
  obtain ⟨_, _, _, h⟩ := s.takeOff_cases op m
  rw [h]; rfl

@[simp] theorem State.respond_stream (k : Fin 8) (r : Response) (s : State) (i : Fin 4) : (s.respond k r).stream i = s.stream i := by
  simp only [State.stream, State.respond_ink]

/-! ### A stream opens (R262, R265) -/

/-- The stream with what REC_STREAM_OPEN gives it. -/
def Stream.opened (p : Block) (st : Stream) : Stream :=
  { st with
    open_ := true
    fabric := bitAt p 0 4
    typeMask := natAt p 4
    groupMask := natAt p 8
    unitMask := natAt p 12
    addr := BitVec.ofNat 16 (natAt p 16)
    retx := fieldAt p 20 15 0
    sent := none
    top := none }

/-- The record is owed to stream `k` where the stream's masks select it. -/
def Stored.oweTo (k : Nat) (st : Stream) (x : Stored) : Stored :=
  if st.selects x.rec_ && !x.owed.contains k then { x with owed := x.owed ++ [k] } else x

theorem Stored.oweTo_rec (k : Nat) (st : Stream) (x : Stored) : (x.oweTo k st).rec_ = x.rec_ := by
  unfold Stored.oweTo
  split <;> rfl

theorem Stored.mem_oweTo {k : Nat} {st : Stream} {x : Stored} (h : st.selects x.rec_ = true) : k ∈ (x.oweTo k st).owed := by
  unfold Stored.oweTo
  split
  next => exact List.mem_append_right _ (List.mem_singleton_self k)
  next held =>
    rw [h, Bool.true_and, Bool.not_eq_true', Bool.not_eq_false, List.contains_iff_mem] at held
    exact held

/-- The state in which a stream that has opened, from SEQ `f` on, begins to place records; `r` tells of it (R255). -/
def State.opening (k : Fin 4) (p : Block) (f : Nat) (r : Rec) (s : State) : State :=
  { s with ink := { s.ink with
    streams := vset s.ink.streams k { (s.stream k).opened p with firstSeq := f }
    store := if bitAt p 20 16 then s.ink.store else s.ink.store.map (Stored.oweTo k.val ((s.stream k).opened p))
    waiting := s.ink.waiting ++ [r] } }

theorem State.openStream_cases (k : Fin 4) (p : Block) (s : State) :
    ∃ f r, s.openStream k p = (s.opening k p f r).fillBuffer k (s.opening k p f r).ink.store.length := by
  have self : (s.updStream k (Stream.opened p)).stream k = (s.stream k).opened p := State.updStream_stream ..
  let t := s.updStream k (Stream.opened p)
  let u : State := if bitAt p 20 16 then t else { t with ink := { t.ink with store := t.ink.store.map (Stored.oweTo k.val (t.stream k)) } }
  let first := u.firstOwed k
  let words := [w32 (k.val + 16 * b2n (bitAt p 0 4) + 256), w32 first]
  have told : (u.updStream k fun st => { st with firstSeq := first }).system 5 words = s.opening k p first (s.sysRec 5 words) := by
    simp only [u, t, self, State.opening]
    split <;> simp [State.updStream, State.system, State.stream, vset_vset] <;> rfl
  exact ⟨first, s.sysRec 5 words, by rw [← told]; rfl⟩

section
variable (k : Fin 4) (p : Block) (f : Nat) (r : Rec) (s : State)

theorem State.opening_stream : (s.opening k p f r).stream k = { (s.stream k).opened p with firstSeq := f } := vget_vset_self _ _ _

theorem State.opening_stream_of_ne {j : Fin 4} (h : j ≠ k) : (s.opening k p f r).stream j = s.stream j := vget_vset_of_ne _ _ h.symm

/-- A stream that has just opened has sent nothing: it is to send all that it owes. -/
theorem State.opening_toSend : (s.opening k p f r).toSend k = (s.opening k p f r).ink.store.filter fun x => x.owed.contains k.val := by
  simp only [State.toSend, State.opening_stream, Stream.opened, Bool.and_true]

/-- Placing records changes none of what REC_STREAM_OPEN gave the stream, nor the store. -/
theorem State.openStream_opens :
    ((s.openStream k p).stream k).open_ = true ∧ ((s.openStream k p).stream k).fabric = bitAt p 0 4 ∧
    ((s.openStream k p).stream k).typeMask = natAt p 4 ∧ ((s.openStream k p).stream k).groupMask = natAt p 8 ∧
    ((s.openStream k p).stream k).unitMask = natAt p 12 ∧ (∀ j, j ≠ k → (s.openStream k p).stream j = s.stream j) ∧
    (s.openStream k p).ink.waiting.length = s.ink.waiting.length + 1 ∧ (s.openStream k p).host = s.host := by
  obtain ⟨f, r, opens⟩ := s.openStream_cases k p
  obtain ⟨h, b, q, placed⟩ := (s.opening k p f r).fillBuffer_places k (s.opening k p f r).ink.store.length
  rw [opens, placed, State.updStream_stream, State.opening_stream]
  refine ⟨rfl, rfl, rfl, rfl, rfl, fun j hj => ?_, List.length_append, rfl⟩
  rw [State.updStream_stream_of_ne _ _ hj.symm, State.opening_stream_of_ne _ _ _ _ _ hj]

/-- The records that the masks select are owed to the stream, unless NEW_ONLY; the records are the same. -/
theorem State.openStream_owes :
    (bitAt p 20 16 = true → (s.openStream k p).ink.store = s.ink.store) ∧
    (bitAt p 20 16 = false →
      ∀ x ∈ (s.openStream k p).ink.store, ((s.openStream k p).stream k).selects x.rec_ = true → k.val ∈ x.owed) ∧
    (s.openStream k p).ink.store.map (fun x => x.rec_) = s.ink.store.map (fun x => x.rec_) := by
  obtain ⟨f, r, opens⟩ := s.openStream_cases k p
  obtain ⟨h, b, q, placed⟩ := (s.opening k p f r).fillBuffer_places k (s.opening k p f r).ink.store.length
  have store : (s.openStream k p).ink.store = if bitAt p 20 16 then s.ink.store else
      s.ink.store.map (Stored.oweTo k.val ((s.stream k).opened p)) := by rw [opens, placed]; rfl
  have masks : ∀ x, ((s.openStream k p).stream k).selects x = ((s.stream k).opened p).selects x := by
    intro x
    rw [opens, placed, State.updStream_stream, State.opening_stream]
    rfl
  rw [store]
  refine ⟨fun new => if_pos new, fun old x hx selected => ?_, ?_⟩
  · rw [if_neg (Bool.eq_false_iff.mp old)] at hx
    obtain ⟨y, -, rfl⟩ := List.mem_map.mp hx
    rw [masks, Stored.oweTo_rec] at selected
    exact Stored.mem_oweTo selected
  · split
    · rfl
    · rw [List.map_map]
      exact List.map_congr_left fun x _ => Stored.oweTo_rec ..

/-- A stream that can place nothing is left at its first record. -/
theorem State.openStream_waits
    (h : bitAt p 0 4 = true ∨ s.hostOut = true ∨ (s.stream k).buf = none ∧ (s.stream k).nextDesc = none) :
    ((s.openStream k p).stream k).sent = none ∧ ((s.openStream k p).stream k).ringHead = (s.stream k).ringHead ∧
    ((s.openStream k p).stream k).buf = (s.stream k).buf := by
  obtain ⟨f, r, opens⟩ := s.openStream_cases k p
  have none_ : (s.opening k p f r).fillOne k = none := by
    have stream := s.opening_stream k p f r
    rcases h with fabric | out | ⟨buf, desc⟩
    · exact State.fillOne_of_halted (.inr (.inr (by rw [stream]; exact fabric)))
    · exact State.fillOne_of_halted (.inl out)
    · exact State.fillOne_of_noDesc (by rw [stream]; exact buf) (by rw [stream]; exact desc)
  rw [opens, State.fillBuffer_of_none _ none_, State.opening_stream]
  exact ⟨rfl, rfl, rfl⟩

/-- A stream to PCIe that owes a record takes the descriptor in front. -/
theorem State.openStream_takes {d : RingDesc} (hf : bitAt p 0 4 = false) (ho : s.hostOut = false) (hb : (s.stream k).buf = none)
    (hd : (s.stream k).nextDesc = some d) (hx : ∃ x ∈ (s.openStream k p).ink.store, k.val ∈ x.owed) :
    ((s.openStream k p).stream k).ringHead = ((s.stream k).ringHead + 1) % 65536 ∧
    ∃ b, ((s.openStream k p).stream k).buf = some b ∧ b.addr = d.addr ∧ b.size = d.size ∧
      b.desc = (s.stream k).ringHead % (s.stream k).entries := by
  obtain ⟨f, r, opens⟩ := s.openStream_cases k p
  obtain ⟨h, b, q, placed⟩ := (s.opening k p f r).fillBuffer_places k (s.opening k p f r).ink.store.length
  obtain ⟨x, mem, owed⟩ : ∃ x ∈ (s.opening k p f r).ink.store, k.val ∈ x.owed := by rwa [opens, placed] at hx
  have stream := s.opening_stream k p f r
  have runs : ¬ (s.opening k p f r).Halted k := by
    rw [State.Halted, stream]
    show ¬ (s.hostOut = true ∨ true = false ∨ bitAt p 0 4 = true)
    simp [ho, hf]
  have front : ∃ y, ((s.opening k p f r).toSend k).head? = some y := by
    rw [← Option.isSome_iff_exists, List.isSome_head?, State.opening_toSend]
    exact List.ne_nil_of_mem (List.mem_filter.mpr ⟨mem, List.contains_iff_mem.mpr owed⟩)
  obtain ⟨y, front⟩ := front
  have takes := State.fillBuffer_takes (List.length_pos_of_mem mem) runs front (by rw [stream]; exact hb) (by rw [stream]; exact hd)
  rw [opens]
  rw [stream] at takes
  exact takes

end

/-! ### A stream closes (R262, R265) -/

/-- Its buffer is returned; it owes no more, and the records stay. -/
theorem State.closeStream_closes (k : Fin 4) (s : State) :
    ((s.closeStream k).stream k).open_ = false ∧ ((s.closeStream k).stream k).buf = none ∧
    ((s.closeStream k).stream k).returned = (s.stream k).returned ++ (s.stream k).buf.toList ∧
    (∀ j, j ≠ k → (s.closeStream k).stream j = s.stream j) ∧ (∀ x ∈ (s.closeStream k).ink.store, k.val ∉ x.owed) ∧
    (s.closeStream k).ink.store.map (fun x => x.rec_) = s.ink.store.map (fun x => x.rec_) ∧ (s.closeStream k).chan = s.chan := by
  obtain ⟨buf, returned, others, store, chan⟩ := s.returnBuffer_returns k
  let u := s.returnBuffer k
  have self : (s.closeStream k).stream k = { u.stream k with
      open_ := false
      sent := none
      top := none } := vget_vset_self _ _ _
  have disown : (s.closeStream k).ink.store =
      s.ink.store.map fun x => { x with owed := x.owed.filter fun i => i != k.val } := by rw [← store]; rfl
  rw [self, disown]
  refine ⟨rfl, buf, returned, fun j hj => ?_, fun x hx => ?_, ?_, chan⟩
  · exact (vget_vset_of_ne _ _ hj.symm).trans (others j hj)
  · obtain ⟨y, -, rfl⟩ := List.mem_map.mp hx
    simp
  · rw [List.map_map]
    rfl

/-! ### REC_STREAM_OPEN (R262) -/

section
variable {m : MbCmd} {s : State} {k : Fin 4} (hk : k.val = fieldAt m.params 0 1 0) (hd : s.ink.dramOk = true)
include hk hd

theorem ownRecStreamOpen_opens (hb : bitAt m.params 0 8 = false)
    (hr : NoReserved m [(0, 0xFFFFFEEC), (4, 0xFFFFFF81), (8, 0xFFFF0000), (16, 0xFFFF0000), (20, 0xFFFE0000)])
    (hc : (s.stream k).open_ = false) (ht : natAt m.params 4 ≠ 0) (hlo : 10 ≤ fieldAt m.params 20 15 0)
    (hhi : fieldAt m.params 20 15 0 ≤ 10000) (ha : bitAt m.params 0 4 = true → 1 ≤ natAt m.params 16 ∧ natAt m.params 16 ≤ 0x0FFF)
    (hs : bitAt m.params 0 4 = false → (s.stream k).ringSet = true) :
    ownRecStreamOpen m s = .done (s.openStream k m.params) 0 [w32 ((s.openStream k m.params).firstOwed k)] := by
  have stream : Fin.ofNat 4 (fieldAt m.params 0 1 0) = k := by rw [← hk]; exact Fin.ext (Nat.mod_eq_of_lt k.isLt)
  have addr : (bitAt m.params 0 4 && (natAt m.params 16 < 1 || 0x0FFF < natAt m.params 16)) = false := by
    cases h : bitAt m.params 0 4 with
    | false => rfl
    | true => obtain ⟨lo, hi⟩ := ha h; simp; omega
  have retx : (decide (fieldAt m.params 20 15 0 < 10) || decide (10000 < fieldAt m.params 20 15 0)) = false := by simp; omega
  have ring : (!bitAt m.params 0 4 && !(s.stream k).ringSet) = false := by
    cases h : bitAt m.params 0 4 with
    | false => rw [hs h]; rfl
    | true => rfl
  simp only [ownRecStreamOpen, stream, reserved_none hr, hd, hb, hc, ht, addr, retx, ring, Bool.not_true, Bool.false_eq_true, if_false]

theorem ownRecStreamOpen_closes (hb : bitAt m.params 0 8 = true) (hr : NoReserved m [(0, 0xFFFFFEEC)]) (ho : (s.stream k).open_ = true) :
    ownRecStreamOpen m s = .done (s.closeStream k) 0 [w32 (s.firstOwed k)] := by
  have stream : Fin.ofNat 4 (fieldAt m.params 0 1 0) = k := by rw [← hk]; exact Fin.ext (Nat.mod_eq_of_lt k.isLt)
  simp only [ownRecStreamOpen, stream, reserved_none hr, hd, hb, ho, Bool.not_true, Bool.false_eq_true, if_false, if_true]

end

theorem exec_recStreamOpen {m : MbCmd} {s : State} {t : State} {d : Nat} {w : Block} (hg : Granted 0x0702 1 m s) (ht : m.target = 0)
    (hl : m.length = 40) (h : ownRecStreamOpen m (s.takeOff 0x0702 m) = .done t d w) :
    exec (.recStreamOpen m) s = .next ((t.passItems 0x0702 m).respond m.mb (okAnswer m 0 d w)) := by
  refine congrArg Host.Outcome.next ((Hdr.run_granted' (h := hRecStreamOpen) hg (lenIs_of hl (by decide)) (Hdr.targetOk_none ht rfl)
    fun _ => rfl).trans ?_)
  show hRecStreamOpen.conclude m (s.takeOff 0x0702 m) (ownRecStreamOpen m (s.takeOff 0x0702 m)) = _
  rw [h, Hdr.conclude_done, Hdr.stateCode_none ht (by decide)]
  rfl

theorem State.firstOwed_of_ink {s t : State} (k : Fin 4) (h : t.ink = s.ink) : t.firstOwed k = s.firstOwed k := by
  simp only [State.firstOwed, h]

theorem recStreamOpen_opens {m : MbCmd} {s : State} {k : Fin 4} (hg : Granted 0x0702 1 m s) (h0 : m.target = 0) (hl : m.length = 40)
    (hk : k.val = fieldAt m.params 0 1 0) (hd : s.ink.dramOk = true) (hb : bitAt m.params 0 8 = false)
    (hr : NoReserved m [(0, 0xFFFFFEEC), (4, 0xFFFFFF81), (8, 0xFFFF0000), (16, 0xFFFF0000), (20, 0xFFFE0000)])
    (hc : (s.stream k).open_ = false) (ht : natAt m.params 4 ≠ 0) (hlo : 10 ≤ fieldAt m.params 20 15 0)
    (hhi : fieldAt m.params 20 15 0 ≤ 10000) (ha : bitAt m.params 0 4 = true → 1 ≤ natAt m.params 16 ∧ natAt m.params 16 ≤ 0x0FFF)
    (hs : bitAt m.params 0 4 = false → (s.stream k).ringSet = true) :
    Completes (.recStreamOpen m) s fun t =>
      (t.stream k).open_ = true ∧ (t.stream k).fabric = bitAt m.params 0 4 ∧ (t.stream k).typeMask = natAt m.params 4 ∧
      (t.stream k).groupMask = natAt m.params 8 ∧ (t.stream k).unitMask = natAt m.params 12 ∧
      (bitAt m.params 0 4 = true ∨ s.hostOut = true ∨ (s.stream k).buf = none ∧ (s.stream k).nextDesc = none →
        (t.stream k).sent = none ∧ (t.stream k).ringHead = (s.stream k).ringHead ∧ (t.stream k).buf = (s.stream k).buf) ∧
      (∀ d, bitAt m.params 0 4 = false → s.hostOut = false → (s.stream k).buf = none → (s.stream k).nextDesc = some d →
        (∃ x ∈ t.ink.store, k.val ∈ x.owed) →
        (t.stream k).ringHead = ((s.stream k).ringHead + 1) % 65536 ∧
        ∃ b, (t.stream k).buf = some b ∧ b.addr = d.addr ∧ b.size = d.size ∧
          b.desc = (s.stream k).ringHead % (s.stream k).entries) ∧
      (∀ j, j ≠ k → t.stream j = s.stream j) ∧
      (bitAt m.params 20 16 = true → t.ink.store = s.ink.store) ∧
      (bitAt m.params 20 16 = false → ∀ x ∈ t.ink.store, (t.stream k).selects x.rec_ = true → k.val ∈ x.owed) ∧
      t.ink.store.map (fun x => x.rec_) = s.ink.store.map (fun x => x.rec_) ∧ t.ink.waiting.length = s.ink.waiting.length + 1 ∧
      ((s.mbox m.mb).discard = 0 → (t.mbox m.mb).done = (s.mbox m.mb).done ++ [okAnswer m 0 0 [w32 (t.firstOwed k)]]) := by
  let u := s.takeOff 0x0702 m
  have stream : ∀ j, u.stream j = s.stream j := State.takeOff_stream 0x0702 m s
  have ink : u.ink = s.ink := State.takeOff_ink ..
  have out : u.hostOut = s.hostOut := State.takeOff_hostOut ..
  have opens := ownRecStreamOpen_opens (s := u) hk (by rw [ink]; exact hd) hb hr (by rw [stream]; exact hc) ht hlo hhi ha
    (by rw [stream]; exact hs)
  obtain ⟨open_, fabric, types, groups, units, others, waiting, host⟩ := u.openStream_opens k m.params
  obtain ⟨newOnly, owed, recs⟩ := u.openStream_owes k m.params
  have waits := u.openStream_waits k m.params
  have takes := fun d => u.openStream_takes k m.params (d := d)
  simp only [stream, ink, out] at others newOnly recs waiting waits takes
  refine ⟨_, exec_recStreamOpen hg h0 hl opens, ?_⟩
  simp only [State.respond_stream, State.respond_ink, State.passItems_stream, State.passItems_ink]
  refine ⟨open_, fabric, types, groups, units, waits, takes, others, newOnly, owed, recs, waiting, fun hd => ?_⟩
  have box : (u.openStream k m.params).mbox m.mb = u.mbox m.mb := by rw [State.mbox, host]; rfl
  have done := State.answered_done (op := 0x0702) (okAnswer m 0 0 [w32 ((u.openStream k m.params).firstOwed k)])
    ⟨(u.mbox m.mb).verify, box⟩ hd
  rw [done, State.firstOwed_of_ink k (State.respond_ink ..)]
  rfl

theorem recStreamOpen_closes {m : MbCmd} {s : State} {k : Fin 4} (hg : Granted 0x0702 1 m s) (h0 : m.target = 0) (hl : m.length = 40)
    (hk : k.val = fieldAt m.params 0 1 0) (hd : s.ink.dramOk = true) (hb : bitAt m.params 0 8 = true)
    (hr : NoReserved m [(0, 0xFFFFFEEC)]) (ho : (s.stream k).open_ = true) :
    Completes (.recStreamOpen m) s fun t =>
      (t.stream k).open_ = false ∧ (t.stream k).buf = none ∧
      (t.stream k).returned = (s.stream k).returned ++ (s.stream k).buf.toList ∧
      (∀ j, j ≠ k → t.stream j = s.stream j) ∧ (∀ x ∈ t.ink.store, k.val ∉ x.owed) ∧
      t.ink.store.map (fun x => x.rec_) = s.ink.store.map (fun x => x.rec_) ∧ t.chan = s.chan := by
  let u := s.takeOff 0x0702 m
  have stream : ∀ j, u.stream j = s.stream j := State.takeOff_stream 0x0702 m s
  have ink : u.ink = s.ink := State.takeOff_ink ..
  have closes := ownRecStreamOpen_closes (s := u) hk (by rw [ink]; exact hd) hb hr (by rw [stream]; exact ho)
  have closed := u.closeStream_closes k
  simp only [stream, ink, u, State.takeOff_chan] at closed
  refine ⟨_, exec_recStreamOpen hg h0 hl closes, ?_⟩
  simp only [State.respond_stream, State.respond_ink, State.respond_chan, State.passItems_stream, State.passItems_ink, State.passItems_chan]
  exact closed

/-! ### REC_STATUS (R268) -/

@[simp] theorem State.takeOff_recStatusWords (op : Nat) (m : MbCmd) (s : State) : (s.takeOff op m).recStatusWords = s.recStatusWords := by
  simp only [State.recStatusWords, State.takeOff_ink, State.takeOff_vel]

theorem exec_recStatus {m : MbCmd} {s : State} (hg : Granted 0x0703 0 m s) (h0 : m.target = 0) (hl : m.length = 16) :
    exec (.recStatus m) s =
      .next (hRecStatus.conclude m (s.takeOff 0x0703 m) (ownRecStatus m (s.takeOff 0x0703 m))) :=
  congrArg Host.Outcome.next (Hdr.run_granted' (h := hRecStatus) hg (lenIs_of hl (by decide)) (Hdr.targetOk_none h0 rfl) fun _ => rfl)

theorem recStatus_answers {m : MbCmd} {s : State} (hg : Granted 0x0703 0 m s) (h0 : m.target = 0) (hl : m.length = 16) :
    (s.ink.dramOk = true → CompletesBy (.recStatus m) 0x0703 m s id 0 0 s.recStatusWords) ∧
    (s.ink.dramOk = false → exec (.recStatus m) s = .next ((s.takeOff 0x0703 m).respond m.mb (answerTo m 0x0701 0 0 []))) := by
  refine ⟨fun hd => ?_, fun hd => ?_⟩
  · have own : ownRecStatus m (s.takeOff 0x0703 m) = .done (s.takeOff 0x0703 m) 0 s.recStatusWords := by simp [ownRecStatus, hd]
    rw [CompletesBy, exec_recStatus hg h0 hl, own, Hdr.conclude_done, Hdr.stateCode_none h0 (by decide)]
    rfl
  · have own : ownRecStatus m (s.takeOff 0x0703 m) = .refuse RC_HW_FAULT 0 [] := by simp [ownRecStatus, hd]
    rw [exec_recStatus hg h0 hl, own, Hdr.conclude_refuse, Hdr.stateCode_none h0 (by decide)]
    rfl

end Sys2Proof.Machine
end

section
/-! PROOF. Delivery to the fabric (R264): a STREAM frame of whole records, and the return to the first unacknowledged record. -/

namespace Sys2Proof.Machine

open Sys2Proof.Safety

/-! ### Whole records (R264) -/

theorem fitting_prefix (n : Nat) (l : List Stored) : fitting n l <+: l := by
  induction l generalizing n with
  | nil => exact List.prefix_rfl
  | cons x l ih =>
    rw [fitting]
    split
    · exact (List.prefix_cons_inj x).mpr (ih _)
    · exact List.nil_prefix

theorem fitting_sum (n : Nat) (l : List Stored) : ((fitting n l).map fun x => x.rec_.bytes).sum ≤ n := by
  induction l generalizing n with
  | nil => exact Nat.zero_le n
  | cons x l ih =>
    rw [fitting]
    split
    next fits =>
      have rest := ih (n - x.rec_.bytes)
      rw [List.map_cons, List.sum_cons]
      omega
    next => exact Nat.zero_le n

/-- The first record goes where it fits. -/
theorem fitting_head {n : Nat} {x : Stored} {l : List Stored} (h : x.rec_.bytes ≤ n) : (fitting n (x :: l)).head? = some x := by
  rw [fitting, if_pos h, List.head?_cons]

/-! ### A unicast frame of the device (R381, R384) -/

theorem State.sendUnicast_sendsOn (f : Frame) (p : Option (Fin 4)) (s : State) : SendsOn (fun _ => True) s (s.sendUnicast f p) := by
  have counted : SendsOn (fun _ => True) s s.countFrame := .of_port ⟨_, s.blot, rfl, rfl⟩
  unfold State.sendUnicast
  split
  · exact counted.trans _ _ _ (State.sendPacket_sendsOn _ _ _ trivial)
  · split
    · exact counted.trans _ _ _ (State.sendPacket_sendsOn _ _ _ trivial)
    · exact counted.trans _ _ _ ((SendsOn.of_port ⟨_, _, rfl, rfl⟩).trans _ _ _ (State.notice_sendsOn _ _ _ _ fun _ _ => trivial))

/-- A frame that has a route counts once in FSEQ. -/
theorem State.sendUnicast_fseq {f : Frame} {p : Fin 4} {s : State} (q : Option (Fin 4)) (h : s.routePort f.dst none = some p) :
    (s.sendUnicast f q).fab.fseq = s.fab.fseq + 1 := by
  unfold State.sendUnicast
  rw [h]
  dsimp only
  rw [State.sendOn, State.sendPacket]
  split <;> rfl

/-! ### STREAM_FRAME_SEND (R264, R395) -/

/-- The records of the next STREAM frame: of those to send, at most `n`, as many as fit. -/
def State.frameRecords (s : State) (k : Fin 4) (n : Nat) : List Stored := fitting 1464 ((s.toSend k).take (min n 255))

theorem State.frameRecords_prefix (s : State) (k : Fin 4) (n : Nat) : s.frameRecords k n <+: s.toSend k ∧ (s.frameRecords k n).length ≤ n := by
  have taken : s.frameRecords k n <+: (s.toSend k).take (min n 255) := fitting_prefix _ _
  have count := taken.length_le
  rw [List.length_take] at count
  exact ⟨taken.trans (List.take_prefix _ _), by omega⟩

theorem State.frameRecords_head {s : State} {k : Fin 4} {n : Nat} {y : Stored} (hn : 0 < n) (h : (s.toSend k).head? = some y)
    (hy : y.rec_.bytes ≤ 1464) : (s.frameRecords k n).head? = some y := by
  obtain ⟨rest, all⟩ : ∃ l, s.toSend k = y :: l := List.head?_eq_some_iff.mp h
  obtain ⟨c, count⟩ := Nat.exists_eq_add_one.mpr (show 0 < min n 255 by omega)
  rw [State.frameRecords, all, count, List.take_succ_cons]
  exact fitting_head hy

theorem exec_streamFrameSend {s : State} {k : Fin 4} {n : Nat} {x y : Stored} (ho : (s.stream k).open_ = true)
    (hf : (s.stream k).fabric = true) (hx : (s.frameRecords k n).head? = some x)
    (hy : (s.frameRecords k n).getLast? = some y) :
    ∃ f, f.dst = (s.stream k).addr ∧ exec (.streamFrameSend k n) s = .next ((s.sendUnicast f none).sentTo k y.seq) := by
  refine ⟨?f, ?dst, ?acts⟩
  case acts =>
    show execStreamFrameSend k n s = _
    unfold State.frameRecords at hx hy
    rw [execStreamFrameSend, hx, hy]
    simp only [ho, hf, Bool.and_self, if_true]
    rfl
  case dst => rfl

theorem streamFrameSend_sends {s : State} {k : Fin 4} {n : Nat} (ho : (s.stream k).open_ = true) (hf : (s.stream k).fabric = true)
    (hn : 0 < n) (hx : ∃ y, (s.toSend k).head? = some y ∧ y.rec_.bytes ≤ 1464) :
    Completes (.streamFrameSend k n) s fun t =>
      (∃ l x, l ++ [x] <+: s.toSend k ∧ l.length < n ∧ ((l ++ [x]).map fun y => y.rec_.bytes).sum ≤ 1464 ∧
        (t.stream k).sent = some x.seq) ∧
      (∀ p, s.routePort (s.stream k).addr none = some p → t.fab.fseq = s.fab.fseq + 1) ∧ t.ink.store = s.ink.store ∧
      (∀ j, j ≠ k → t.stream j = s.stream j) := by
  obtain ⟨y, front, fits⟩ := hx
  have first := State.frameRecords_head hn front fits
  have filled : s.frameRecords k n ≠ [] := List.ne_nil_of_mem (List.mem_of_head? first)
  have whole := List.dropLast_append_getLast filled
  obtain ⟨f, dst, acts⟩ := exec_streamFrameSend ho hf first (List.getLast?_eq_some_getLast filled)
  obtain ⟨taken, count⟩ := s.frameRecords_prefix k n
  obtain ⟨fab, blot, sent, -⟩ := s.sendUnicast_sendsOn f none
  refine ⟨_, acts, ⟨(s.frameRecords k n).dropLast, (s.frameRecords k n).getLast filled, ?_, ?_, ?_, ?_⟩, fun p hp => ?_, ?_, fun j hj => ?_⟩
  · rwa [whole]
  · have pos := List.length_pos_of_ne_nil filled
    rw [List.length_dropLast]
    omega
  · rw [whole]
    exact fitting_sum _ _
  · rw [State.sentTo, State.updStream_stream]
  · exact State.sendUnicast_fseq none (by rw [dst]; exact hp)
  · rw [sent]; rfl
  · rw [State.sentTo, State.updStream_stream_of_ne _ _ hj.symm, sent]; rfl

/-! ### REC_STREAM_RESEND (R264) -/

theorem recStreamResend_resends {s : State} {k : Fin 4} {x : Stored} (hx : (s.ink.store.find? fun x => x.owed.contains k.val) = some x)
    (ho : (s.stream k).open_ = true) (hf : (s.stream k).fabric = true) (hs : (s.stream k).sent.isSome = true)
    (hy : ∀ y ∈ s.toSend k, y.seq ≠ x.seq) :
    ((s.stream k).progress + (s.stream k).retx * 250000 ≤ s.now → exec (.recStreamResend k) s =
      .next ((s.updStream k fun r => { r with
        sent := none
        progress := s.now }).raise 0x0907 NOTICE k.val x.seq)) ∧
    (s.now < (s.stream k).progress + (s.stream k).retx * 250000 → exec (.recStreamResend k) s = .next s) := by
  have passed : (s.toSend k).any (fun y => y.seq == x.seq) = false :=
    List.any_eq_false.mpr fun y hm => by rw [beq_iff_eq]; exact hy y hm
  refine ⟨fun due => ?_, fun early => ?_⟩ <;> show execRecStreamResend k s = _ <;> rw [execRecStreamResend, hx]
  · simp [ho, hf, hs, passed, due]
  · simp [Nat.not_le.mpr early]

end Sys2Proof.Machine
end

section
/-! PROOF. RECORD_STORE (R247, R257, R260, R265): the record that has waited longest enters the store or is dropped, and deliveries and
streams go on. -/

namespace Sys2Proof.Machine

open Sys2Proof.Safety

theorem State.event_of_tb {s t : State} (c v r p : Nat) (h : t.tb = s.tb) : t.event c v r p = s.event c v r p := by
  simp only [State.event, h]

/-! ### The records of a delivery are drawn (R238, R260) -/

/-- Drawing lets records join those that wait, from the deliveries; nothing else. -/
theorem Inkwell.draw_cases (u : Fin 32) (n : Nat) (k : Inkwell) :
    ∃ w i, k.draw u n = { k with
      waiting := k.waiting ++ w
      incoming := i } := by
  have one : ∀ k : Inkwell, ∃ w i, k.drawOne u = { k with
      waiting := k.waiting ++ w
      incoming := i } := by
    intro k
    have same : k = { k with
      waiting := k.waiting ++ []
      incoming := k.incoming } := by rw [List.append_nil]
    unfold Inkwell.drawOne
    dsimp only
    split
    · split
      · split
        · exact ⟨[], k.incoming, same⟩
        · exact ⟨_, _, rfl⟩
      · exact ⟨[], k.incoming, same⟩
    · exact ⟨[], k.incoming, same⟩
  induction n generalizing k with
  | zero => exact ⟨[], k.incoming, by rw [List.append_nil]; rfl⟩
  | succ n ih =>
    obtain ⟨w, i, e⟩ := one k
    obtain ⟨w', i', e'⟩ := ih (k.drawOne u)
    refine ⟨w ++ w', i', ?_⟩
    rw [Inkwell.draw, e', e, ← List.append_assoc]

/-- Deliveries end with late answers. -/
theorem State.endDeliveries_cases (s : State) : ∃ i, OnlyAnswers { s with ink := { s.ink with incoming := i } } s.endDeliveries ∧
    Reports s s.endDeliveries := by
  refine ⟨_, forAll_rel OnlyAnswers.refl OnlyAnswers.trans (fun d t => ?_) _ _,
    Reports.after (Reports.forAll (fun d t => ?_) _ _)⟩
  · split
    · exact State.respondLate_onlyAnswers ..
    · exact .refl t
  · split
    · exact State.respondLate_reports ..
    · exact .refl t

theorem State.drawRecords_cases (u : Fin 32) (s : State) :
    ∃ w i, (s.drawRecords u).ink = { s.ink with
        waiting := s.ink.waiting ++ w
        incoming := i } ∧ (s.drawRecords u).hostOut = s.hostOut ∧ (s.drawRecords u).chan = s.chan ∧ Reports s (s.drawRecords u) := by
  obtain ⟨w, i, drawn⟩ := s.ink.draw_cases u 8
  rw [State.drawRecords, drawn]
  obtain ⟨i', ⟨a, q, b, m, ended, -⟩, reports⟩ := State.endDeliveries_cases { s with ink := { s.ink with
    waiting := s.ink.waiting ++ w
    incoming := i } }
  refine ⟨w, i', ?_, ?_, ?_, Reports.after reports⟩
  · rw [ended]
  · rw [ended]; rfl
  · rw [ended]

/-- After a record `r` has been taken from those that wait: a unit draws the next of its delivery, and the streams place what they can. -/
def State.goOn (r : Rec) (s : State) : State :=
  (if r.typ = tCAPTURE then s.drawRecords (Fin.ofNat 32 r.source) else s).fillBuffers

/-- Records may join those that wait, deliveries may end, and streams that are not halted may place records. -/
theorem State.goOn_cases (r : Rec) (s : State) :
    ∃ w i v, (s.goOn r).ink = { s.ink with
        waiting := s.ink.waiting ++ w
        incoming := i
        streams := v } ∧ (r.typ ≠ tCAPTURE → w = []) ∧ (∀ k, s.Halted k → vget v k = s.stream k) ∧
      (s.goOn r).chan = s.chan ∧ Reports s (s.goOn r) := by
  unfold State.goOn
  split
  next capture =>
    obtain ⟨w, i, ink, out, chan, told⟩ := s.drawRecords_cases (Fin.ofNat 32 r.source)
    generalize s.drawRecords (Fin.ofNat 32 r.source) = t at ink out chan told ⊢
    have stream : ∀ k, t.stream k = s.stream k := fun k => by rw [State.stream, ink]; rfl
    obtain ⟨v, filled, halted⟩ := t.fillBuffers_placesInAll
    rw [filled]
    refine ⟨w, i, v, ?_, fun other => absurd capture other, fun k hk => (halted k ?_).trans (stream k), chan, told⟩
    · rw [ink]
    · rw [State.Halted, out, stream]; exact hk
  next =>
    obtain ⟨v, filled, halted⟩ := s.fillBuffers_placesInAll
    rw [filled]
    exact ⟨[], s.ink.incoming, v, by rw [List.append_nil], fun _ => rfl, halted, rfl, .of_blot rfl⟩

/-! ### The record enters the store -/

/-- The streams to which a record is owed are those that are open and select it (R265). -/
theorem State.mem_owing {s : State} {r : Rec} {i : Nat} : i ∈ s.owing r ↔
    i < 4 ∧ (vgetD s.ink.streams i {}).open_ = true ∧ (vgetD s.ink.streams i {}).selects r = true := by
  simp only [State.owing, List.mem_filter, List.mem_range, Bool.and_eq_true]

/-- FREE_PAGES is reported once when it falls low (R270); the store is as it was. -/
theorem State.fillCheck_cases (s : State) : ∃ f b, s.fillCheck = { s with
    ink := { s.ink with fillHigh := f }
    blot := b } := by
  unfold State.fillCheck
  split
  · exact ⟨_, _, rfl⟩
  · exact ⟨s.ink.fillHigh, s.blot, rfl⟩

theorem State.store_of_place {r : Rec} {s : State} {p off : Nat} (h : s.ink.place r.bytes = some (p, off)) :
    ∃ f b, s.store r = { s with
      ink := { s.ink with
        store := s.ink.store ++ [{ seq := s.ink.nextSeq, page := p, owed := s.owing r, thin := 0, off := off, rec_ := r }]
        nextSeq := (s.ink.nextSeq + 1) % 2 ^ 32
        page := p
        pageUsed := off + r.bytes
        fillHigh := f }
      blot := b } := by
  rw [State.store, h]
  exact State.fillCheck_cases _

theorem State.store_of_full {r : Rec} {s : State} (h : s.ink.place r.bytes = none) :
    s.store r = s.dropped 0 s.ink.nextSeq s.ink.nextSeq [r] := by
  rw [State.store, h]

/-! ### The row -/

/-- The record that has waited longest is taken; nothing else of the block changes by that. -/
def State.takeWaiting (l : List Rec) (s : State) : State := { s with ink := { s.ink with waiting := l } }

/-- The pages that are free do not depend on the records that wait. -/
theorem State.takeWaiting_place (l : List Rec) (n : Nat) (s : State) : (s.takeWaiting l).ink.place n = s.ink.place n := by
  have page : ∀ fuel p, (s.takeWaiting l).ink.findPage fuel p = s.ink.findPage fuel p := by
    intro fuel
    induction fuel with
    | zero => exact fun _ => rfl
    | succ fuel ih =>
      intro p
      rw [Inkwell.findPage, Inkwell.findPage, ih]
      rfl
  rw [Inkwell.place, Inkwell.place, page]
  rfl

theorem exec_recordStore {s : State} {r : Rec} {l : List Rec} (hw : s.ink.waiting = r :: l) (hd : s.ink.dramOk = true)
    (hp : s.rst.pfailSeq = false) (hb : (3, 0) ∉ s.rst.block) :
    exec .recordStore s = .next (((s.takeWaiting l).store r).goOn r) := by
  show execRecordStore s = _
  have free : s.rst.block.contains (3, 0) = false := by
    rw [Bool.eq_false_iff, Ne, List.contains_iff_mem]
    exact hb
  have works : (s.ink.dramOk && !s.rst.pfailSeq && !s.rst.block.contains (3, 0)) = true := by rw [hd, hp, free]; rfl
  rw [execRecordStore, hw]
  exact if_pos works

theorem recordStore_stores {s : State} {r : Rec} {l : List Rec} {p off : Nat} (hw : s.ink.waiting = r :: l) (hd : s.ink.dramOk = true)
    (hp : s.rst.pfailSeq = false) (hb : (3, 0) ∉ s.rst.block) (h : s.ink.place r.bytes = some (p, off)) :
    Completes .recordStore s fun t =>
      l <+: t.ink.waiting ∧ (r.typ ≠ tCAPTURE → t.ink.waiting = l) ∧
      (∃ x, t.ink.store = s.ink.store ++ [x] ∧ x.seq = s.ink.nextSeq ∧ x.rec_ = r ∧ x.page = p ∧ x.off = off ∧ x.thin = 0 ∧
        ∀ i, i ∈ x.owed ↔ i < 4 ∧ (vgetD s.ink.streams i {}).open_ = true ∧ (vgetD s.ink.streams i {}).selects r = true) ∧
      t.ink.nextSeq = (s.ink.nextSeq + 1) % 2 ^ 32 ∧ t.chan = s.chan ∧
      (∀ k, s.hostOut = true ∨ (s.stream k).open_ = false ∨ (s.stream k).fabric = true → t.stream k = s.stream k) := by
  have place : (s.takeWaiting l).ink.place r.bytes = some (p, off) := (State.takeWaiting_place ..).trans h
  obtain ⟨f, b, stored⟩ := State.store_of_place place
  obtain ⟨w, i, v, ink, none_, halted, chan, -⟩ := ((s.takeWaiting l).store r).goOn_cases r
  have streams : ∀ k, (((s.takeWaiting l).store r).goOn r).stream k = vget v k := fun k => by rw [State.stream, ink]
  refine ⟨_, exec_recordStore hw hd hp hb, ?_⟩
  simp only [streams]
  rw [ink, chan, stored]
  rw [stored] at halted
  refine ⟨List.prefix_append l w, fun other => ?_, ⟨_, rfl, rfl, rfl, rfl, rfl, rfl, fun j => State.mem_owing⟩, rfl, rfl, halted⟩
  rw [none_ other]
  exact List.append_nil l

theorem recordStore_drops {s : State} {r : Rec} {l : List Rec} (hw : s.ink.waiting = r :: l) (hd : s.ink.dramOk = true)
    (hp : s.rst.pfailSeq = false) (hb : (3, 0) ∉ s.rst.block) (h : s.ink.place r.bytes = none) :
    Completes .recordStore s fun t => t.ink.store = s.ink.store ∧ t.ink.dropped = satAdd s.ink.dropped 1 ∧
      s.event 0x0902 ALARM 0 1 ∈ t.blot.raised := by
  have place : (s.takeWaiting l).ink.place r.bytes = none := (State.takeWaiting_place ..).trans h
  have full := State.store_of_full place
  obtain ⟨w, i, v, ink, -, -, -, reports⟩ := ((s.takeWaiting l).store r).goOn_cases r
  refine ⟨_, exec_recordStore hw hd hp hb, ?_, ?_, reports.mem ?_⟩
  · rw [ink, full]; rfl
  · rw [ink, full]; rfl
  · rw [full]
    exact List.mem_append_right _ (List.mem_singleton_self _)

/-- Nothing waits, the DRAM is not usable or in self-refresh, or the controller takes no new work (R454, R476). -/
theorem recordStore_waits {s : State}
    (h : s.ink.waiting = [] ∨ s.ink.dramOk = false ∨ s.rst.pfailSeq = true ∨ (3, 0) ∈ s.rst.block) :
    exec .recordStore s = .next s := by
  show execRecordStore s = _
  unfold execRecordStore
  split
  next r l hw =>
    refine if_neg ?_
    rcases h with h | h | h | h
    · cases hw.symm.trans h
    all_goals simp [h]
  next => rfl

end Sys2Proof.Machine
end

section
/-! PROOF. A thinning pass (R266): loose records go first; with none left, PERIODIC records are thinned in pairs. -/

namespace Sys2Proof.Machine

open Sys2Proof.Safety

/-! ### Records that are reclaimed -/

/-- The store keeps the records whose SEQ no reclaimed one has. -/
theorem reclaim_store (p : Stored → Bool) (target : Nat) (l : List Stored) (k : Inkwell) : (reclaim p target l k).2 =
    { k with store := k.store.filter fun y => (reclaim p target l k).1.all fun x => y.seq != x.seq } := by
  have whole : k = { k with store := k.store.filter fun y => ([] : List Stored).all fun x => y.seq != x.seq } := by
    simp only [List.all_nil, List.filter_true]
  induction l generalizing k with
  | nil => exact whole
  | cons x l ih =>
    rw [reclaim]
    split
    · exact whole
    · split
      · dsimp only
        rw [ih _ (by simp only [List.all_nil, List.filter_true])]
        simp only [List.filter_filter, List.all_cons, Bool.and_comm]
      · exact ih k whole

theorem mem_reclaim {p : Stored → Bool} {target : Nat} {l : List Stored} {k : Inkwell} {x : Stored} (h : x ∈ (reclaim p target l k).1) :
    x ∈ l ∧ p x = true := by
  induction l generalizing k with
  | nil => cases h
  | cons y l ih =>
    rw [reclaim] at h
    split at h
    · cases h
    · split at h
      next hp =>
        rcases List.mem_cons.mp h with rfl | h
        · exact ⟨List.mem_cons_self, hp⟩
        · exact ⟨List.mem_cons_of_mem y (ih h).1, (ih h).2⟩
      next => exact ⟨List.mem_cons_of_mem y (ih h).1, (ih h).2⟩

/-- While pages are short, the first record that may go goes. -/
theorem reclaim_some {p : Stored → Bool} {target : Nat} {l : List Stored} {k : Inkwell} (hf : k.freePages < target)
    (hp : l.any p = true) : ∃ x, x ∈ (reclaim p target l k).1 := by
  induction l with
  | nil => cases hp
  | cons y l ih =>
    rw [reclaim, if_neg (Nat.not_le.mpr hf)]
    split
    next => exact ⟨y, List.mem_cons_self⟩
    next other =>
      rw [List.any_cons, Bool.eq_false_iff.mpr other, Bool.false_or] at hp
      exact ih hp

/-! ### A pass of a stage that drops records -/

/-- The store loses records that `p` lets go, and those of the same SEQ; the loss is reported. -/
theorem State.reclaimStage_reclaims {p : Stored → Bool} {s : State} (hf : s.ink.freePages < s.ink.thinReserve)
    (hp : s.ink.store.any p = true) :
    (s.reclaimStage p).ink.store.Sublist s.ink.store ∧ (s.reclaimStage p).ink.store.length < s.ink.store.length ∧
    (∀ x ∈ s.ink.store, x ∉ (s.reclaimStage p).ink.store → ∃ y ∈ s.ink.store, p y = true ∧ y.seq = x.seq) ∧
    (∃ n, s.event 0x0902 ALARM 0 n ∈ (s.reclaimStage p).blot.raised) ∧ (s.reclaimStage p).ink.streams = s.ink.streams ∧
    (s.reclaimStage p).chan = s.chan := by
  let gone := (reclaim p (s.ink.thinReserve + 64) s.ink.store s.ink).1
  have reclaimed := reclaim_store p (s.ink.thinReserve + 64) s.ink.store s.ink
  have store : (s.reclaimStage p).ink.store = s.ink.store.filter fun y => gone.all fun x => y.seq != x.seq :=
    (congrArg Inkwell.store reclaimed :)
  have streams : (s.reclaimStage p).ink.streams = s.ink.streams := (congrArg Inkwell.streams reclaimed :)
  obtain ⟨x, hx⟩ : ∃ x, x ∈ gone := reclaim_some (Nat.lt_add_right 64 hf) hp
  rw [store]
  refine ⟨List.filter_sublist, ?_, fun y hy lost => ?_, ⟨_, List.mem_append_right _ (List.mem_singleton_self _)⟩, streams, rfl⟩
  · rw [List.length_filter_lt_length_iff_exists]
    refine ⟨x, (mem_reclaim hx).1, fun kept => ?_⟩
    simpa using List.all_eq_true.mp kept x hx
  · have dropped : (gone.all fun x => y.seq != x.seq) = false :=
      Bool.eq_false_iff.mpr fun kept => lost (List.mem_filter.mpr ⟨hy, kept⟩)
    obtain ⟨z, hz, same⟩ := List.all_eq_false.mp dropped
    rw [bne_iff_ne, not_not] at same
    exact ⟨z, (mem_reclaim hz).1, (mem_reclaim hz).2, same.symm⟩

/-! ### The row -/

/-- The pass is over; reclaiming goes on while FREE_PAGES is short of THIN_RESERVE + 64. -/
def State.passOver (t : State) : State :=
  { t with ink := { t.ink with thinning := decide (t.ink.freePages < t.ink.thinReserve + 64) } }

@[simp] theorem State.passOver_store (t : State) : t.passOver.ink.store = t.ink.store := rfl
@[simp] theorem State.passOver_streams (t : State) : t.passOver.ink.streams = t.ink.streams := rfl
@[simp] theorem State.passOver_thinned (t : State) : t.passOver.ink.thinned = t.ink.thinned := rfl
@[simp] theorem State.passOver_dropped (t : State) : t.passOver.ink.dropped = t.ink.dropped := rfl
@[simp] theorem State.passOver_highThin (t : State) : t.passOver.ink.highThin = t.ink.highThin := rfl
@[simp] theorem State.passOver_chan (t : State) : t.passOver.chan = t.chan := rfl
@[simp] theorem State.passOver_blot (t : State) : t.passOver.blot = t.blot := rfl

theorem exec_thinningPass {s : State} (h : s.ink.freePages < s.ink.thinReserve) : exec .thinningPass s = .next s.thinPass.passOver := by
  show execThinningPass s = _
  exact if_pos (by rw [decide_eq_true h, Bool.true_or])

theorem thinningPass_reclaims {s : State} (hf : s.ink.freePages < s.ink.thinReserve) (hl : s.ink.store.any Stored.loose = true) :
    Completes .thinningPass s fun t =>
      t.ink.store.Sublist s.ink.store ∧ t.ink.store.length < s.ink.store.length ∧
      (∀ x ∈ s.ink.store, x ∉ t.ink.store → ∃ y ∈ s.ink.store, y.loose = true ∧ y.seq = x.seq) ∧
      (∃ p, s.event 0x0902 ALARM 0 p ∈ t.blot.raised) ∧ t.ink.streams = s.ink.streams ∧ t.chan = s.chan := by
  have pass : s.thinPass = s.reclaimStage Stored.loose := if_pos hl
  refine ⟨_, exec_thinningPass hf, ?_⟩
  simp only [pass, State.passOver_store, State.passOver_streams, State.passOver_chan, State.passOver_blot]
  exact State.reclaimStage_reclaims hf hl

/-! ### Thinning (R266, R250) -/

/-- Of each pair the second record goes, and the first is thinned once more. -/
theorem State.thin_store (s : State) : s.thin.ink.store =
    (s.ink.store.filter fun x => !(s.ink.thinPlan.map fun e => e.2).contains x.seq).map fun x =>
      if (s.ink.thinPlan.map fun e => e.1).contains x.seq then { x with thin := x.thin + 1 } else x := rfl

/-- What is in the store after it has been thinned was there before, in no pair the second, and is thinned once more where it was the
first. -/
theorem State.of_mem_thin_store {s : State} {x : Stored} (hx : x ∈ s.thin.ink.store) :
    ∃ y ∈ s.ink.store, y.seq ∉ s.ink.thinPlan.map (fun e => e.2) ∧ y.rec_ = x.rec_ ∧ y.seq = x.seq ∧
      x.thin = if (s.ink.thinPlan.map fun e => e.1).contains x.seq then y.thin + 1 else y.thin := by
  rw [State.thin_store] at hx
  obtain ⟨y, hy, rfl⟩ := List.mem_map.mp hx
  obtain ⟨mem, stays⟩ := List.mem_filter.mp hy
  refine ⟨y, mem, by simpa using stays, ?_⟩
  split <;> exact ⟨rfl, rfl, rfl⟩

theorem thinningPass_thins {s : State} (hf : s.ink.freePages < s.ink.thinReserve) (hl : s.ink.store.any Stored.loose = false)
    (hp : s.ink.thinPlan ≠ []) :
    Completes .thinningPass s fun t =>
      t.ink.thinned = satAdd s.ink.thinned s.ink.thinPlan.length ∧ (∀ e ∈ s.ink.thinPlan, ∀ x ∈ t.ink.store, x.seq ≠ e.2) ∧
      (∀ x ∈ t.ink.store, ∃ y ∈ s.ink.store, y.rec_ = x.rec_ ∧ y.seq = x.seq ∧
        x.thin = if (s.ink.thinPlan.map fun e => e.1).contains x.seq then y.thin + 1 else y.thin) ∧
      t.ink.dropped = s.ink.dropped ∧
      s.event 0x0901 NOTICE 0 (s.ink.thinPlan.length + 2 ^ 32 * t.ink.highThin) ∈ t.blot.raised := by
  have pairs : (!s.ink.thinPlan.isEmpty) = true := by simpa using hp
  have pass : s.thinPass = s.thin := (if_neg (Bool.eq_false_iff.mp hl)).trans (if_pos pairs)
  refine ⟨_, exec_thinningPass hf, ?_⟩
  simp only [pass, State.passOver_store, State.passOver_thinned, State.passOver_dropped, State.passOver_highThin, State.passOver_blot]
  have count : (s.ink.thinPlan.map fun e => e.2).length = s.ink.thinPlan.length := List.length_map _
  refine ⟨congrArg (satAdd s.ink.thinned) count, fun e he x hx => ?_, fun x hx => ?_, rfl, ?_⟩
  · obtain ⟨y, -, stays, -, seq, -⟩ := State.of_mem_thin_store hx
    rw [← seq]
    exact fun same => stays (List.mem_map.mpr ⟨e, he, same.symm⟩)
  · obtain ⟨y, mem, -, same⟩ := State.of_mem_thin_store hx
    exact ⟨y, mem, same⟩
  · rw [← count]
    exact List.mem_append_right _ (List.mem_singleton_self _)

/-- With pages enough and no reclaiming begun nothing goes. -/
theorem thinningPass_rests {s : State} (hf : s.ink.thinReserve ≤ s.ink.freePages) (ht : s.ink.thinning = false) :
    exec .thinningPass s = .next s := by
  show execThinningPass s = _
  refine (if_neg (by rw [decide_eq_false (Nat.not_lt.mpr hf), ht]; exact Bool.false_ne_true)).trans ?_
  rw [← ht]

end Sys2Proof.Machine
end

section
/-! PROOF. DRAM_SCRUB (R258, R259): bytes that the outer code corrects, codewords beyond it, and the retirement of a page. -/

namespace Sys2Proof.Machine

open Sys2Proof.Safety

/-! ### A page is retired (R259) -/

/-- A page to which records move is not a retired one. -/
theorem Inkwell.findPage_not_retired {k : Inkwell} {n p q : Nat} (h : k.findPage n p = some q) : q ∉ k.retired := by
  induction n generalizing p with
  | zero => cases h
  | succ n ih =>
    rw [Inkwell.findPage] at h
    split at h
    · exact ih h
    next free =>
      obtain rfl := Option.some.inj h
      simp only [Bool.or_eq_true, not_or, List.contains_iff_mem] at free
      exact free.1

/-- The store once the records of a page have moved to another, or are lost where there is none. -/
def Inkwell.moveOff (page : Nat) (k : Inkwell) : List Stored :=
  match k.findPage storePages (k.page + 1) with
  | some q => k.store.map fun x => if x.page = page then { x with page := q } else x
  | none => k.store.filter fun x => x.page != page

theorem Inkwell.page_of_mem_moveOff {page : Nat} {k : Inkwell} {x : Stored} (h : page ∈ k.retired) (hx : x ∈ k.moveOff page) :
    x.page ≠ page := by
  unfold Inkwell.moveOff at hx
  split at hx
  next q hq =>
    have other : q ≠ page := fun same => Inkwell.findPage_not_retired hq (same ▸ h)
    obtain ⟨y, -, rfl⟩ := List.mem_map.mp hx
    split
    · exact other
    · assumption
  next => simpa using (List.mem_filter.mp hx).2

/-- Its records are moved or lost; the page and the count are recorded and reported. -/
theorem State.retirePage_cases {page : Nat} {s : State} (h : page ∉ s.ink.retired) :
    ∃ st used w, (∀ x ∈ st, x.page ≠ page) ∧ s.retirePage page = ({ s with
      ink := { s.ink with
        retired := s.ink.retired ++ [page]
        store := st
        pageUsed := used
        waiting := w }
      vel := { s.vel with pagesRetired := satAdd s.vel.pagesRetired 1 } } : State).raise 0x0905 NOTICE 0
        (page + 2 ^ 32 * (storePages - (s.ink.retired.length + 1))) := by
  let k := { s.ink with retired := s.ink.retired ++ [page] }
  have off : ∀ x ∈ k.moveOff page, x.page ≠ page := fun x =>
    Inkwell.page_of_mem_moveOff (List.mem_append_right _ (List.mem_singleton_self page))
  have count : k.recordPages = storePages - (s.ink.retired.length + 1) := by
    rw [Inkwell.recordPages, List.length_append, List.length_singleton]
  refine ⟨k.moveOff page, if s.ink.page = page then 8192 else s.ink.pageUsed,
    s.ink.waiting ++ [s.sysRec 6 [w32 page, w32 k.recordPages]], off, ?_⟩
  rw [State.retirePage, if_neg (by rwa [List.contains_iff_mem]), ← count]
  rfl

/-- The counts of the inner code stay, and so does what has been raised. -/
def KeepsInner (s t : State) : Prop :=
  t.ink.innerCorr = s.ink.innerCorr ∧ t.ink.innerUncorr = s.ink.innerUncorr ∧ Reports s t

theorem State.retirePage_keepsInner (page : Nat) (s : State) : KeepsInner s (s.retirePage page) := by
  by_cases h : page ∈ s.ink.retired
  · rw [State.retirePage, if_pos (List.contains_iff_mem.mpr h)]
    exact ⟨rfl, rfl, .refl s⟩
  · obtain ⟨st, used, w, -, e⟩ := State.retirePage_cases h
    rw [e]
    exact ⟨rfl, rfl, Reports.raise _ _ _ _ (.of_blot rfl)⟩

/-! ### The outer code corrects (R258, R259) -/

/-- Bytes that the outer code has corrected are counted and reported. -/
def State.corrected (page n : Nat) (s : State) : State :=
  ({ s with ink := { s.ink with outerCorr := satAdd s.ink.outerCorr n } } : State).raise 0x0903 INFO 0 (page + 2 ^ 24 * n)

theorem State.outerCorrect_none (page cw : Nat) (s : State) : s.outerCorrect page cw 0 = s := rfl

theorem State.outerCorrect_few {page cw n : Nat} (s : State) (h0 : 0 < n) (h : n < 5) : s.outerCorrect page cw n = s.corrected page n := by
  rw [State.outerCorrect, if_neg (by omega)]
  exact if_pos h

/-- Five bytes or more in a codeword are noted at first, and retire the page the second time. -/
theorem State.outerCorrect_many {page cw n : Nat} (s : State) (h : 5 ≤ n) : s.outerCorrect page cw n =
    if s.ink.fiveTwice.contains (page, cw) then (s.corrected page n).retirePage page
    else { s.corrected page n with ink := { (s.corrected page n).ink with fiveTwice := s.ink.fiveTwice ++ [(page, cw)] } } := by
  rw [State.outerCorrect, if_neg (by omega)]
  exact if_neg (by omega)

theorem State.outerCorrect_keepsInner (page cw n : Nat) (s : State) : KeepsInner s (s.outerCorrect page cw n) := by
  have told : Reports s (s.corrected page n) := Reports.raise _ _ _ _ (.of_blot rfl)
  rcases Nat.eq_zero_or_pos n with rfl | h0
  · exact ⟨rfl, rfl, .refl s⟩
  · by_cases h : n < 5
    · rw [State.outerCorrect_few s h0 h]
      exact ⟨rfl, rfl, told⟩
    · rw [State.outerCorrect_many s (Nat.not_lt.mp h)]
      split
      · obtain ⟨corr, uncorr, reports⟩ := (s.corrected page n).retirePage_keepsInner page
        exact ⟨corr, uncorr, told.trans _ _ _ reports⟩
      · exact ⟨rfl, rfl, told⟩

/-! ### A codeword beyond the outer code (R258) -/

/-- The records in the codeword are lost: counted, recorded and reported. -/
def State.loseWord (page : Nat) (cw : Fin 64) (s : State) : State :=
  let lost := s.ink.store.filter fun x => x.page == page && x.touches cw
  let t := ({ s with ink := { s.ink with
    outerUncorr := satAdd s.ink.outerUncorr 1
    store := s.ink.store.filter fun x => !(x.page == page && x.touches cw) } } : State).raise 0x0904 ALARM 0 page
  let seqs := lost.map fun x => x.seq
  if lost.isEmpty then t else t.dropped 1 (seqs.headD 0) (seqs.getLastD 0) (lost.map fun x => x.rec_)

theorem State.loseWord_cases (page : Nat) (cw : Fin 64) (s : State) :
    ∃ st w d b, s.loseWord page cw = { s with
      ink := { s.ink with
        outerUncorr := satAdd s.ink.outerUncorr 1
        store := st
        waiting := w
        dropped := d }
      blot := b } ∧ s.blot.raised ++ [s.event 0x0904 ALARM 0 page] <+: b.raised := by
  unfold State.loseWord
  dsimp only
  split
  · exact ⟨_, s.ink.waiting, s.ink.dropped, _, rfl, List.prefix_rfl⟩
  · exact ⟨_, _, _, _, rfl, List.prefix_append _ _⟩

/-! ### The row -/

/-- The state in which the outer code acts: the flag of the inner code is counted, and reported where it is uncorrectable. -/
def State.flagged (page : Nat) (x : InnerFlag) (s : State) : State :=
  if x = .uncorrectable then (s.innerFlags x).raise 0x0904 ALARM 0 (page + 2 ^ 20) else s.innerFlags x

section
variable {s : State} {page : Nat} (cw : Fin 64) (x : InnerFlag) {e : List (Fin 128)} {c : List (Fin 16)} (hd : s.ink.dramOk = true)
  (hp : page < storePages)
include hd hp

theorem exec_dramScrub_corrects (hn : wrongBytes e c ≤ 8) :
    exec (.dramScrub page cw e x c) s = .next ((s.flagged page x).outerCorrect page cw (wrongBytes e c)) := by
  show execDramScrub page cw e x c s = _
  have reads : (!s.ink.dramOk || decide (storePages ≤ page)) = false := by rw [hd, decide_eq_false (Nat.not_le.mpr hp)]; rfl
  exact (if_neg (Bool.eq_false_iff.mp reads)).trans (if_pos hn)

theorem exec_dramScrub_loses (hn : 8 < wrongBytes e c) :
    exec (.dramScrub page cw e x c) s = .next (((s.innerFlags x).loseWord page cw).retirePage page) := by
  show execDramScrub page cw e x c s = _
  have reads : (!s.ink.dramOk || decide (storePages ≤ page)) = false := by rw [hd, decide_eq_false (Nat.not_le.mpr hp)]; rfl
  exact (if_neg (Bool.eq_false_iff.mp reads)).trans (if_neg (Nat.not_le.mpr hn))

theorem dramScrub_clean : exec (.dramScrub page cw [] .clean []) s = .next s := exec_dramScrub_corrects cw .clean hd hp (Nat.zero_le 8)

theorem dramScrub_corrects_few {n : Nat} (hw : wrongBytes e c = n) (h0 : 0 < n) (h : n < 5) :
    exec (.dramScrub page cw e .clean c) s = .next (({ s with ink := { s.ink with outerCorr := satAdd s.ink.outerCorr n } } : State).raise
      0x0903 INFO 0 (page + 2 ^ 24 * n)) := by
  rw [exec_dramScrub_corrects cw .clean hd hp (by omega), hw, State.outerCorrect_few _ h0 h]
  rfl

theorem dramScrub_corrects_many (h5 : 5 ≤ wrongBytes e c) (h8 : wrongBytes e c ≤ 8) (hr : page ∉ s.ink.retired) :
    Completes (.dramScrub page cw e .clean c) s fun t =>
      t.ink.outerCorr = satAdd s.ink.outerCorr (wrongBytes e c) ∧ t.ink.outerUncorr = s.ink.outerUncorr ∧
      s.event 0x0903 INFO 0 (page + 2 ^ 24 * wrongBytes e c) ∈ t.blot.raised ∧
      ((page, cw.val) ∉ s.ink.fiveTwice →
        t.ink.retired = s.ink.retired ∧ (page, cw.val) ∈ t.ink.fiveTwice ∧ t.ink.store = s.ink.store) ∧
      ((page, cw.val) ∈ s.ink.fiveTwice → t.ink.retired = s.ink.retired ++ [page] ∧ (∀ x ∈ t.ink.store, x.page ≠ page)) := by
  refine ⟨_, exec_dramScrub_corrects cw .clean hd hp h8, ?_⟩
  rw [show s.flagged page .clean = s from rfl, State.outerCorrect_many s h5]
  have told : s.event 0x0903 INFO 0 (page + 2 ^ 24 * wrongBytes e c) ∈ (s.corrected page (wrongBytes e c)).blot.raised :=
    List.mem_append_right _ (List.mem_singleton_self _)
  split
  next again =>
    have noted := List.contains_iff_mem.mp again
    obtain ⟨st, used, w, left, retired⟩ := State.retirePage_cases (s := s.corrected page (wrongBytes e c)) hr
    rw [retired]
    exact ⟨rfl, rfl, List.mem_append_left _ told, fun new => absurd noted new, fun _ => ⟨rfl, left⟩⟩
  next new =>
    rw [List.contains_iff_mem] at new
    exact ⟨rfl, rfl, told, fun _ => ⟨rfl, List.mem_append_right _ (List.mem_singleton_self _), rfl⟩, fun noted => absurd noted new⟩

/-- Whatever the outer code does, the inner code's flag is counted. -/
theorem dramScrub_counts_inner :
    (Completes (.dramScrub page cw e .corrected c) s fun t =>
      t.ink.innerCorr = satAdd s.ink.innerCorr 1 ∧ t.ink.innerUncorr = s.ink.innerUncorr) ∧
    (Completes (.dramScrub page cw e .uncorrectable c) s fun t =>
      t.ink.innerUncorr = satAdd s.ink.innerUncorr 1 ∧ t.ink.innerCorr = s.ink.innerCorr ∧
      (wrongBytes e c ≤ 8 → s.event 0x0904 ALARM 0 (page + 2 ^ 20) ∈ t.blot.raised)) := by
  rcases Nat.lt_or_ge 8 (wrongBytes e c) with h | h
  · have lost : ∀ x, KeepsInner (s.innerFlags x) (((s.innerFlags x).loseWord page cw).retirePage page) := by
      intro x
      obtain ⟨st, w, d, b, e, told⟩ := (s.innerFlags x).loseWord_cases page cw
      obtain ⟨corr, uncorr, reports⟩ := ((s.innerFlags x).loseWord page cw).retirePage_keepsInner page
      rw [e] at corr uncorr reports ⊢
      exact ⟨corr, uncorr, ((List.prefix_append _ _).trans told).trans reports⟩
    obtain ⟨corr, uncorr, -⟩ := lost .corrected
    obtain ⟨corr', uncorr', -⟩ := lost .uncorrectable
    exact ⟨⟨_, exec_dramScrub_loses cw .corrected hd hp h, corr, uncorr⟩,
      ⟨_, exec_dramScrub_loses cw .uncorrectable hd hp h, uncorr', corr', fun few => absurd few (Nat.not_le.mpr h)⟩⟩
  · obtain ⟨corr, uncorr, -⟩ := (s.flagged page .corrected).outerCorrect_keepsInner page cw (wrongBytes e c)
    obtain ⟨corr', uncorr', reports⟩ := (s.flagged page .uncorrectable).outerCorrect_keepsInner page cw (wrongBytes e c)
    exact ⟨⟨_, exec_dramScrub_corrects cw .corrected hd hp h, corr, uncorr⟩,
      ⟨_, exec_dramScrub_corrects cw .uncorrectable hd hp h, uncorr', corr',
        fun _ => reports.mem (List.mem_append_right _ (List.mem_singleton_self _))⟩⟩

theorem dramScrub_loses (hn : 8 < wrongBytes e c) (hr : page ∉ s.ink.retired) :
    Completes (.dramScrub page cw e .clean c) s fun t =>
      t.ink.outerUncorr = satAdd s.ink.outerUncorr 1 ∧ t.ink.retired = s.ink.retired ++ [page] ∧
      (∀ x ∈ t.ink.store, x.page ≠ page) ∧
      t.vel.pagesRetired = satAdd s.vel.pagesRetired 1 ∧ s.event 0x0904 ALARM 0 page ∈ t.blot.raised ∧
      s.event 0x0905 NOTICE 0 (page + 2 ^ 32 * (storePages - (s.ink.retired.length + 1))) ∈ t.blot.raised := by
  refine ⟨_, exec_dramScrub_loses cw .clean hd hp hn, ?_⟩
  rw [show s.innerFlags .clean = s from rfl]
  obtain ⟨st, w, d, b, lost, told⟩ := s.loseWord_cases page cw
  rw [lost]
  obtain ⟨st', used, w', left, retired⟩ := State.retirePage_cases (page := page) (s := { s with
    ink := { s.ink with
      outerUncorr := satAdd s.ink.outerUncorr 1
      store := st
      waiting := w
      dropped := d }
    blot := b }) hr
  rw [retired]
  refine ⟨rfl, rfl, left, rfl, List.mem_append_left _ (told.subset ?_), List.mem_append_right _ (List.mem_singleton_self _)⟩
  exact List.mem_append_right _ (List.mem_singleton_self _)

end

/-- Where the DRAM is not usable, or beyond the record pages, nothing is scrubbed. -/
theorem dramScrub_rests {s : State} {page : Nat} (cw : Fin 64) (e : List (Fin 128)) (x : InnerFlag) (c : List (Fin 16))
    (h : s.ink.dramOk = false ∨ storePages ≤ page) : exec (.dramScrub page cw e x c) s = .next s := by
  show execDramScrub page cw e x c s = _
  have rests : (!s.ink.dramOk || decide (storePages ≤ page)) = true := by
    rcases h with h | h
    · rw [h]; rfl
    · rw [decide_eq_true h, Bool.or_true]
  exact if_pos rests

end Sys2Proof.Machine

namespace Sys2Proof

open Sys2Proof.Machine Sys2Proof.Safety

/-- Settles O43: each clause is the lemma of its row above. -/
theorem inkwellComplete : Obligations.InkwellComplete := by
  unfold Obligations.InkwellComplete
  exact ⟨fun _ _ _ hg h0 hl hk hd hb hr hc ht hlo hhi ha hs => recStreamOpen_opens hg h0 hl hk hd hb hr hc ht hlo hhi ha hs,
    fun _ _ _ hg h0 hl hk hd hb hr ho => recStreamOpen_closes hg h0 hl hk hd hb hr ho,
    fun _ _ hg h0 hl => recStatus_answers hg h0 hl,
    fun _ _ _ _ _ hw hd hp hb h => recordStore_stores hw hd hp hb h,
    fun _ _ _ hw hd hp hb h => recordStore_drops hw hd hp hb h,
    fun _ h => recordStore_waits h,
    fun _ hf hl => thinningPass_reclaims hf hl,
    fun _ hf hl hp => thinningPass_thins hf hl hp,
    fun _ hf ht => thinningPass_rests hf ht,
    fun _ _ cw hd hp => dramScrub_clean cw hd hp,
    fun _ _ cw e x c h => dramScrub_rests cw e x c h,
    fun _ _ cw _ _ _ hd hp hw h0 h => dramScrub_corrects_few cw hd hp hw h0 h,
    fun _ _ cw _ _ hd hp h5 h8 hr => dramScrub_corrects_many cw hd hp h5 h8 hr,
    fun _ _ cw _ _ hd hp => dramScrub_counts_inner cw hd hp,
    fun _ _ cw _ _ hd hp hn hr => dramScrub_loses cw hd hp hn hr,
    fun _ _ _ _ _ _ hs h hb hd ho => streamBufferReturn_returns hs h hb hd ho,
    fun _ _ _ _ _ hs h hd => streamBufferReturn_waits hs h hd,
    fun _ _ _ ho hf hn hx => streamFrameSend_sends ho hf hn hx,
    fun _ _ _ hx ho hf hs hy => recStreamResend_resends hx ho hf hs hy⟩

end Sys2Proof
end

section
/-! PROOF. The rules of an axis's operations: current level, moves, stops, homing, the energising of its coils, linear moves and faults
(R280, R281, R286 to R288, R291 to R294, R316). -/

namespace Sys2Proof.Machine

open Sys2Proof.Safety

/-! ### An update of one axis -/

theorem State.updAx_of_fixed {a : Fin 8} {f : Axis → Axis} {s : State} (h : f (s.ax a) = s.ax a) : s.updAx a f = s := by
  unfold State.updAx
  rw [h]
  exact s.updAx_self a

theorem State.updAx_updAx (a : Fin 8) (f g : Axis → Axis) (s : State) : (s.updAx a f).updAx a g = s.updAx a fun x => g (f x) := by
  simp only [State.updAx, State.ax, vget_vset_self, vset_vset]

/-- What an update of one axis leaves of an axis, if the update of its own axis leaves it. -/
theorem State.updAx_keeps {β : Type} {p : Axis → β} {a : Fin 8} {f : Axis → Axis} {s : State} (h : p (f (s.ax a)) = p (s.ax a)) (j : Fin 8) :
    p ((s.updAx a f).ax j) = p (s.ax j) := by
  rcases eq_or_ne a j with rfl | hne
  · rw [State.updAx_ax, h]
  · rw [State.updAx_ax_of_ne _ _ hne]

/-- What every pass of a loop leaves, the loop leaves. -/
theorem forAll_keeps {α β : Type} {p : State → β} {f : α → State → State} (pass : ∀ a s, p (f a s) = p s) (l : List α) (s : State) :
    p (forAll f l s) = p s :=
  forAll_rel (R := fun s t => p t = p s) (fun _ => rfl) (fun _ _ _ h h' => h'.trans h) pass l s

/-- A change of each axis of a list, one after the other. -/
theorem forAll_updAx_ax {g : Fin 8 → Axis → Axis} {l : List (Fin 8)} (s : State) (hl : l.Nodup) (j : Fin 8) :
    (forAll (fun a t => t.updAx a (g a)) l s).ax j = if j ∈ l then g j (s.ax j) else s.ax j := by
  induction l generalizing s with
  | nil => rfl
  | cons a l ih =>
    obtain ⟨new, rest⟩ := List.nodup_cons.mp hl
    rw [forAll, ih _ rest]
    rcases eq_or_ne a j with rfl | hne
    · rw [if_neg new, if_pos List.mem_cons_self, State.updAx_ax]
    · rw [State.updAx_ax_of_ne _ _ hne]
      simp only [List.mem_cons, hne.symm, false_or]

theorem forAll_updAx_frame (g : Fin 8 → Axis → Axis) (l : List (Fin 8)) (s : State) :
    ∃ x, forAll (fun a t => t.updAx a (g a)) l s = { s with axis := x } := by
  refine forAll_rel (R := fun s t => ∃ x, t = { s with axis := x }) (fun s => ⟨s.axis, rfl⟩) ?_ (fun _ _ => ⟨_, rfl⟩) l s
  rintro s t u ⟨_, rfl⟩ ⟨x, rfl⟩
  exact ⟨x, rfl⟩

/-! ### Current level (R281) -/

/-- A ramp sets the goal of the current level and leaves all else but its start. -/
theorem Axis.rampTo_eq (now : Nat) (goal : Int) (x : Axis) : ∃ l r, x.rampTo now goal = { x with
    level := l
    levelTo := goal
    rampAt := r } := by
  unfold Axis.rampTo
  split
  next h => subst h; exact ⟨x.level, x.rampAt, rfl⟩
  next => exact ⟨_, _, rfl⟩

/-! ### Moves (R286) -/

/-- The state in which a move takes its axis. -/
def Axis.movesAs (target : Int) (x : Axis) : AxState :=
  match x.state with
  | .standstill => .moving
  | .reversing => .reversing
  | _ => if x.vSq = 0 || x.ahead target then .moving else .reversing

/-- A move sets target, speed limit, state and current; the axis keeps its position and its encoder. -/
theorem Axis.takeMove_eq (now : Nat) (target : Int) (v : Nat) (x : Axis) : ∃ a b l r, x.takeMove now target v = { x with
    coilA := a
    coilB := b
    clampSeen := false
    chatterSeen := false
    level := l
    levelTo := acIrun x.cfg
    rampAt := r
    target := target
    vMove := v
    state := x.movesAs target
    waitRamp := decide (x.state = .standstill) || x.waitRamp } := by
  obtain ⟨l, r, ramp⟩ := (if x.vSq = 0 then x.clearStall else x).newCommand.rampTo_eq now (acIrun x.cfg)
  refine ⟨(if x.vSq = 0 then x.clearStall else x).coilA, (if x.vSq = 0 then x.clearStall else x).coilB, l, r, ?_⟩
  simp only [Axis.takeMove, Axis.movesAs, ramp]
  cases hs : x.state <;> by_cases hv : x.vSq = 0 <;> simp [hv, Axis.newCommand, Axis.clearStall, hs]

theorem Axis.movesAs_of_rest {x : Axis} (target : Int) (hv : x.vSq = 0) (h : x.state ≠ .reversing) : x.movesAs target = .moving := by
  unfold Axis.movesAs
  split
  · rfl
  · contradiction
  · simp [hv]

theorem Axis.movesAs_of_own {x : Axis} (target : Int) (h : x.state = .idle ∨ x.state = .moving) :
    x.movesAs target = if x.vSq = 0 ∨ x.ahead target = true then .moving else .reversing := by
  rcases h with h | h <;> simp [Axis.movesAs, h]

/-! ### Homing (R291, R292) -/

/-- The phase in which a homing command of a method begins. -/
def homingBegins (method : Nat) : HomePhase := if method = 3 then .finished else if method = 2 then .ramp else .seek

/-- A homing command sets state, sequence and current; the axis keeps its position and its encoder. -/
theorem Axis.startHoming_eq (now : Nat) (b : Block) (x : Axis) : ∃ ca cb l r w o, x.startHoming now b = { x with
    coilA := ca
    coilB := cb
    clampSeen := false
    chatterSeen := false
    level := l
    levelTo := if hmMethod b = 2 then acIhome x.cfg else acIrun x.cfg
    rampAt := r
    state := .homing
    homing := some { cmd := b, phase := homingBegins (hmMethod b), travel := 0, reversed := false, origin := o, stallRun := 0 }
    waitRamp := w } := by
  obtain ⟨l, r, ramp⟩ := x.clearStall.newCommand.rampTo_eq now (if hmMethod b = 2 then acIhome x.cfg else acIrun x.cfg)
  refine ⟨x.clearStall.coilA, x.clearStall.coilB, l, r, x.state == .standstill || hmMethod b == 2,
    if hmMethod b = 3 then some x.pos else none, ?_⟩
  rw [Axis.startHoming, ramp]
  rfl

/-- A homing sequence that is abandoned leaves its axis, and is reported. -/
theorem State.homeAbandon_eq (a : Fin 8) (s : State) : ∃ b, s.homeAbandon a = { s.updAx a (fun x => { x with homing := none }) with blot := b } ∧
    s.blot.raised <+: b.raised := by
  unfold State.homeAbandon
  split
  · exact ⟨_, rfl, List.prefix_append _ _⟩
  next h =>
    have none_ : (s.ax a).homing = none := by simpa using h
    have same : s.updAx a (fun x => { x with homing := none }) = s := State.updAx_of_fixed (by rw [← none_])
    exact ⟨s.blot, by rw [same], List.prefix_rfl⟩

/-! ### Stops (R287) -/

/-- States from which a stop brings an axis to rest. -/
def AxState.going : AxState → Bool
  | .moving | .reversing | .homing | .stopping => true
  | _ => false

/-- What a stop makes of an axis without a linear move. -/
def Axis.stopped (now : Nat) (quick : Bool) (x : Axis) : Axis :=
  if x.state.going then
    ({ ({ x with homing := none } : Axis).rampTo now (acIrun x.cfg) with
      state := .stopping
      quick := quick || (x.state == .stopping && x.quick)
      waitRamp := false } : Axis).rested now
  else x

/-- A stop of an axis without a linear move changes that axis only; an abandoned homing sequence is reported. -/
theorem State.stopAxis_alone {a : Fin 8} (quick : Bool) {s : State} (h : s.linear.any (Linear.has a) = false) :
    ∃ b, s.stopAxis a quick = { s.updAx a (Axis.stopped s.now quick) with blot := b } ∧ s.blot.raised <+: b.raised := by
  obtain ⟨b, abandoned, reports⟩ := s.homeAbandon_eq a
  by_cases hg : (s.ax a).state.going = true
  · refine ⟨b, ?_, reports⟩
    have stops : s.stopAxis a quick = (s.homeAbandon a).updAx a fun x =>
        ({ x.rampTo s.now (acIrun x.cfg) with
          state := .stopping
          quick := quick || (x.state == .stopping && x.quick)
          waitRamp := false } : Axis).rested s.now := by
      unfold State.stopAxis
      rw [h, if_neg (by decide)]
      cases hs : (s.ax a).state <;> simp_all [AxState.going]
    rw [stops, abandoned]
    simp only [State.updAx, State.ax, vget_vset_self, vset_vset]
    have going : (vget s.axis a).state.going = true := hg
    rw [Axis.stopped, if_pos going]
  · refine ⟨s.blot, ?_, List.prefix_rfl⟩
    have same : s.updAx a (Axis.stopped s.now quick) = s := State.updAx_of_fixed (if_neg hg)
    rw [same]
    unfold State.stopAxis
    rw [h, if_neg (by decide)]
    cases hs : (s.ax a).state <;> simp_all [AxState.going]

theorem Axis.stopped_of_motion {x : Axis} (now : Nat) (quick : Bool) (hg : x.state.going = true) (hv : x.vSq ≠ 0) :
    ∃ l r, x.stopped now quick = { x with
      homing := none
      level := l
      levelTo := acIrun x.cfg
      rampAt := r
      state := .stopping
      quick := quick || (x.state == .stopping && x.quick)
      waitRamp := false } := by
  obtain ⟨l, r, ramp⟩ := ({ x with homing := none } : Axis).rampTo_eq now (acIrun x.cfg)
  refine ⟨l, r, ?_⟩
  rw [Axis.stopped, if_pos hg, ramp]
  simp [Axis.rested, hv]

theorem Axis.stopped_of_rest {x : Axis} (now : Nat) (quick : Bool) (hg : x.state.going = true) (hv : x.vSq = 0) :
    ∃ l r, x.stopped now quick = { x with
      homing := none
      level := l
      levelTo := acIrun x.cfg
      rampAt := r
      state := .idle
      idleAt := now
      target := x.pos
      quick := false
      waitRamp := false } := by
  obtain ⟨l, r, ramp⟩ := ({ x with homing := none } : Axis).rampTo_eq now (acIrun x.cfg)
  refine ⟨l, r, ?_⟩
  rw [Axis.stopped, if_pos hg, ramp]
  simp [Axis.rested, Axis.enterIdle, hv]

theorem Axis.stopped_of_standing {x : Axis} (now : Nat) (quick : Bool) (hg : x.state.going = false) : x.stopped now quick = x :=
  if_neg (by rw [hg]; decide)

/-! ### Linear moves (R288) -/

/-- The linear move of a stopped axis stops along its path. -/
theorem State.stopLinear_linear (a : Fin 8) (quick : Bool) (s : State) :
    (s.stopLinear a quick).linear = s.linear.map fun l => if l.has a then l.stop quick else l := by
  unfold State.stopLinear
  exact forAll_keeps (f := State.memberStops) (p := State.linear) (fun _ _ => rfl) _ _

/-- A stop of a linear move touches the states of its members only. -/
theorem State.stopLinear_ax (a : Fin 8) (quick : Bool) (s : State) (j : Fin 8) :
    ∃ st, (s.stopLinear a quick).ax j = { s.ax j with state := st } := by
  refine forAll_rel (R := fun s t => ∃ st, t.ax j = { s.ax j with state := st }) (fun s => ⟨(s.ax j).state, rfl⟩) ?_ ?_ (s.linearWith a) _
  · rintro s t u ⟨_, h⟩ ⟨st, h'⟩
    exact ⟨st, by rw [h', h]⟩
  · intro b s
    rcases eq_or_ne b j with rfl | hne
    · exact ⟨_, State.updAx_ax _ _ _⟩
    · exact ⟨(s.ax j).state, State.updAx_ax_of_ne _ _ hne⟩

theorem State.stopLinear_tb (a : Fin 8) (quick : Bool) (s : State) : (s.stopLinear a quick).tb = s.tb := by
  unfold State.stopLinear
  exact forAll_keeps (f := State.memberStops) (p := State.tb) (fun _ _ => rfl) _ _

/-- Linear moves that are over are the only ones that go. -/
theorem State.settleLinear_linear (s : State) : s.settleLinear.linear = s.linear.filter fun l => !(l.stopping && l.vSq == 0) := by
  unfold State.settleLinear
  exact congrArg _ (forAll_keeps (p := State.linear) (fun _ _ => by rfl) _ s)

/-- A linear move with an axis that a stop has reached is stopping. -/
theorem State.stopAxis_stops_linear (a : Fin 8) (quick : Bool) (s : State) :
    ∀ l ∈ (s.stopAxis a quick).linear, l.has a = true → l.stopping = true := by
  by_cases h : s.linear.any (Linear.has a) = true
  · have stops : s.stopAxis a quick = (s.stopLinear a quick).settleLinear := by rw [State.stopAxis, if_pos h]
    rw [stops, State.settleLinear_linear, State.stopLinear_linear]
    intro l hl hm
    obtain ⟨k, -, rfl⟩ := List.mem_map.mp (List.mem_of_mem_filter hl)
    by_cases member : k.has a = true
    · rw [if_pos member]; rfl
    · rw [if_neg member] at hm; exact absurd hm member
  · have away : s.linear.any (Linear.has a) = false := by simpa using h
    obtain ⟨b, alone, -⟩ := State.stopAxis_alone quick away
    rw [alone]
    exact fun l hl hm => absurd (List.any_eq_true.mpr ⟨l, hl, hm⟩) h

/-! ### Coils energised again (R293, R316) -/

/-- `t` is `s` but for the books of the two Margin channels. -/
def OnlyBooks (s t : State) : Prop := ∃ x y, t = { s with margin := { s.margin with
  a := x
  b := y } }

theorem OnlyBooks.refl (s : State) : OnlyBooks s s := ⟨_, _, rfl⟩

theorem OnlyBooks.trans {s t u : State} : OnlyBooks s t → OnlyBooks t u → OnlyBooks s u := by
  rintro ⟨_, _, rfl⟩ ⟨x, y, rfl⟩
  exact ⟨x, y, rfl⟩

theorem OnlyBooks.ax {s t : State} (h : OnlyBooks s t) (j : Fin 8) : t.ax j = s.ax j := by obtain ⟨_, _, rfl⟩ := h; rfl
theorem OnlyBooks.linear {s t : State} (h : OnlyBooks s t) : t.linear = s.linear := by obtain ⟨_, _, rfl⟩ := h; rfl
theorem OnlyBooks.mbox {s t : State} (h : OnlyBooks s t) (k : Fin 8) : t.mbox k = s.mbox k := by obtain ⟨_, _, rfl⟩ := h; rfl

/-- The coils of an axis were off or shorted, and its encoder has left its position meanwhile: energising them finds a fault. -/
def FoundAway (was now : Axis) : Prop := was.state = .standstill ∧ was.ssMode ≠ 0 ∧ now.encBad = true

/-- Energised coils whose encoder holds the position only align the Margin's taps. -/
theorem State.energise_onlyBooks {a : Fin 8} {was : Axis} {s : State} (h : ¬ FoundAway was (s.ax a)) : OnlyBooks s (s.energise a was) := by
  unfold State.energise
  split
  next h' =>
    obtain ⟨standing, off⟩ := Bool.and_eq_true_iff.mp h'
    have held : ¬ ((s.ax a).encBad = true) := fun bad => h ⟨by simpa using standing, by simpa using off, bad⟩
    rw [if_neg held]
    exact ⟨_, _, rfl⟩
  next => exact .refl s

theorem forAll_energise_onlyBooks {was : Fin 8 → Axis} {l : List (Fin 8)} {s : State} (h : ∀ a ∈ l, ¬ FoundAway (was a) (s.ax a)) :
    OnlyBooks s (forAll (fun a t => t.energise a (was a)) l s) := by
  induction l generalizing s with
  | nil => exact .refl s
  | cons a l ih =>
    have first := State.energise_onlyBooks (h a List.mem_cons_self)
    refine first.trans (ih fun b hb => ?_)
    rw [first.ax]
    exact h b (List.mem_cons_of_mem a hb)

/-! ### Axis faults (R294) -/

/-- What a fault makes of its axis. -/
def Axis.faulted (cause : Nat) (x : Axis) : Axis :=
  { x with
    state := .fault
    faultCause := cause
    homed := false
    homing := none
    vSq := 0
    waitRamp := false }

/-- The axis has faulted and left its linear move; neither the event nor the AX_STOP commands have followed. -/
def State.faulting (a : Fin 8) (cause : Nat) (s : State) : State :=
  (((s.stopLinear a false).updAx a (Axis.faulted cause)).leaveLinear a).dropReference a

theorem State.axisFault_eq {a : Fin 8} (cause : Nat) {s : State} (hd : (s.ax a).state ≠ .disabled) (hf : (s.ax a).state ≠ .fault) :
    s.axisFault a cause = ((s.faulting a cause).raise 0x0A05 ALARM a.val (cause + 2 ^ 32 * p32 (s.ax a).pos)).answerStops a := by
  rw [State.axisFault, if_neg (by simp [hd, hf])]
  rfl

theorem State.faulting_ax (a : Fin 8) (cause : Nat) (s : State) : (s.faulting a cause).ax a = (s.ax a).faulted cause := by
  obtain ⟨st, stopped⟩ := s.stopLinear_ax a false a
  show ((s.stopLinear a false).updAx a (Axis.faulted cause)).ax a = _
  rw [State.updAx_ax, stopped]
  rfl

/-- A fault takes its axis to FAULT; of the rest, only the AX_STOP commands that waited go. -/
theorem State.axisFault_ax {a : Fin 8} (cause : Nat) {s : State} (hd : (s.ax a).state ≠ .disabled) (hf : (s.ax a).state ≠ .fault) :
    SameButStops ((s.ax a).faulted cause) ((s.axisFault a cause).ax a) := by
  rw [State.axisFault_eq cause hd hf, ← State.faulting_ax]
  obtain ⟨x, q, b, m, answered, same⟩ := State.answerStops_onlyAnswers a
    ((s.faulting a cause).raise 0x0A05 ALARM a.val (cause + 2 ^ 32 * p32 (s.ax a).pos))
  rw [answered]
  exact same a

theorem State.axisFault_raises {a : Fin 8} (cause : Nat) {s : State} (hd : (s.ax a).state ≠ .disabled) (hf : (s.ax a).state ≠ .fault) :
    s.event 0x0A05 ALARM a.val (cause + 2 ^ 32 * p32 (s.ax a).pos) ∈ (s.axisFault a cause).blot.raised := by
  rw [State.axisFault_eq cause hd hf]
  refine Reports.mem (State.answerStops_reports a _) ?_
  rw [State.raise_raised, State.event_of_tb (s := s) (t := s.faulting a cause) _ _ _ _ (s.stopLinear_tb a false)]
  exact List.mem_append_right _ (List.mem_singleton_self _)

end Sys2Proof.Machine
end

section
/-! PROOF. The commands of the stroke axes (R277, R279, R280, R282, R283, R285 to R288, R290 to R293, R296, R319), and O44. -/

namespace Sys2Proof.Machine

open Sys2Proof.Safety

/-! ### A command to one axis -/

@[simp] theorem State.respond_ax (k : Fin 8) (r : Response) (s : State) (j : Fin 8) : (s.respond k r).ax j = s.ax j := by
  simp only [State.ax, State.respond_axis]

/-- An answer leaves the axes. -/
theorem State.answered_ax (op : Nat) (m : MbCmd) (k : Fin 8) (r : Response) (s : State) (j : Fin 8) :
    ((s.passItems op m).respond k r).ax j = s.ax j := by rw [State.respond_ax, State.passItems_ax]

theorem State.answered_linear (op : Nat) (m : MbCmd) (k : Fin 8) (r : Response) (s : State) :
    ((s.passItems op m).respond k r).linear = s.linear := by rw [State.respond_linear, State.passItems_linear]

@[simp] theorem State.updAx_event (a : Fin 8) (f : Axis → Axis) (s : State) (code sev source param : Nat) :
    (s.updAx a f).event code sev source param = s.event code sev source param := rfl

@[simp] theorem State.takeOff_axisLock (op : Nat) (m : MbCmd) (a : Fin 8) (s : State) : (s.takeOff op m).axisLock a = s.axisLock a := by
  simp only [State.axisLock, State.takeOff_margin]

theorem State.takeOff_updAx_ax (op : Nat) (m : MbCmd) (a : Fin 8) (f : Axis → Axis) (s : State) :
    ((s.takeOff op m).updAx a f).ax a = f (s.ax a) := by
  rw [State.updAx_ax, State.takeOff_ax]

/-- A command that changes its own axis only leaves the other axes. -/
theorem State.takeOff_updAx_ax_of_ne (op : Nat) (m : MbCmd) {a j : Fin 8} (f : Axis → Axis) (s : State) (h : j ≠ a) :
    ((s.takeOff op m).updAx a f).ax j = s.ax j := by
  rw [State.updAx_ax_of_ne _ _ h.symm, State.takeOff_ax]

section
variable {op len auth : Nat} {f : Fin 8 → State → Verdict} {m : MbCmd} {s t : State} {a : Fin 8} (hg : Granted op auth m s)
  (ht : m.target = axTarget a) (hl : m.length = BitVec.ofNat 16 len) (hlen : len < 65536) (ho : op / 256 ≠ 9)
include hg ht hl hlen

/-- A granted command to an axis does its own part on that axis (R346, R359). -/
theorem axHdr_run : (axHdr op len auth).run (axVerdict f) m s = (axHdr op len auth).conclude m (s.takeOff op m) (f a (s.takeOff op m)) := by
  have own : axVerdict f m (s.takeOff op m) = f a (s.takeOff op m) := by simp only [axVerdict, ht, tgtOf_axTarget]
  rw [Hdr.run_granted' hg (lenIs_of hl hlen) (Hdr.targetOk_ax ht rfl) fun _ => rfl]
  exact congrArg _ own

include ho

theorem axHdr_done {d : Nat} {p : Block} (own : f a (s.takeOff op m) = .done t d p) :
    (axHdr op len auth).run (axVerdict f) m s = (t.passItems op m).respond m.mb (okAnswer m (t.ax a).state.code d p) := by
  rw [axHdr_run hg ht hl hlen, own, Hdr.conclude_done, Hdr.stateCode_ax ht ho rfl]
  rfl

theorem axHdr_refuseIn {st d : Nat} (own : f a (s.takeOff op m) = .refuseIn t st d []) :
    (axHdr op len auth).run (axVerdict f) m s = t.respond m.mb (answerTo m st (t.ax a).state.code d []) := by
  rw [axHdr_run hg ht hl hlen, own, Hdr.conclude_refuseIn, Hdr.stateCode_ax ht ho rfl]

omit ho in
theorem axHdr_accepted {st : Nat} {p : Block} (own : f a (s.takeOff op m) = .accepted t st p) :
    (axHdr op len auth).run (axVerdict f) m s = (t.passItems op m).respond m.mb (okAnswer m st 0 p) := by
  rw [axHdr_run hg ht hl hlen, own, Hdr.conclude_accepted]
  rfl

theorem axHdr_refuse {st d : Nat} (own : f a (s.takeOff op m) = .refuse st d []) :
    (axHdr op len auth).run (axVerdict f) m s = (s.takeOff op m).respond m.mb (answerTo m st (s.ax a).state.code d []) := by
  rw [axHdr_run hg ht hl hlen, own, Hdr.conclude_refuse, Hdr.stateCode_ax ht ho rfl, State.takeOff_ax]

end

/-! ### AX_CONFIG (R282, R283, R316) -/

/-- The checks of AX_CONFIG read the axis, but for what it has reported of its command, and the Nibs. -/
theorem State.axChecks_congr {s t : State} {a : Fin 8} (hx : (t.ax a).newCommand = (s.ax a).newCommand) (hn : t.nibs = s.nibs) :
    t.axChecks a = s.axChecks a := by
  have cfg : (t.ax a).cfg = (s.ax a).cfg := (congrArg Axis.cfg hx :)
  have hlim : (t.ax a).hlim = (s.ax a).hlim := (congrArg Axis.hlim hx :)
  have table : (t.ax a).table = (s.ax a).table := (congrArg Axis.table hx :)
  have coilA : (t.ax a).coilA = (s.ax a).coilA := (congrArg Axis.coilA hx :)
  have coilB : (t.ax a).coilB = (s.ax a).coilB := (congrArg Axis.coilB hx :)
  have serving : t.servingNib 16 = s.servingNib 16 := by simp only [State.servingNib, State.nibOf, hn]
  simp only [State.axChecks, Axis.iHard, Axis.vHard, serving, cfg, hlim, table, coilA, coilB]
  rfl

/-- The axis takes the block of an AX_CONFIG over. -/
def Axis.configured (b : Block) (x : Axis) : Axis := { x.newCommand with cfg := b }

theorem State.axChecks_taken (op : Nat) (m : MbCmd) (a : Fin 8) (b : Block) (s : State) :
    ((s.takeOff op m).updAx a (Axis.configured b)).axChecks a = (s.updAx a fun x => { x with cfg := b }).axChecks a := by
  refine State.axChecks_congr ?_ ?_
  · rw [State.updAx_ax, State.updAx_ax, State.takeOff_ax]; rfl
  · exact State.takeOff_nibs op m s

/-- An axis that passes the checks is enabled: its coils ramp to I_RUN, and its encoder counts from POSITION. -/
def State.enabled (a : Fin 8) (b : Block) (s : State) : State :=
  ((s.updAx a (Axis.configured b)).updAx a fun x => ((x.rampTo s.now (acIrun b)).alignEnc).enterIdle s.now).alignTaps a

theorem State.enabled_ax (a : Fin 8) (b : Block) (s : State) : ∃ l r, (s.enabled a b).ax a = { ((s.ax a).configured b).enterIdle s.now with
    level := l
    levelTo := acIrun b
    rampAt := r
    encCount := 0
    encAlign := (s.ax a).pos } := by
  obtain ⟨l, r, ramp⟩ := ((s.ax a).configured b).rampTo_eq s.now (acIrun b)
  refine ⟨l, r, ?_⟩
  show ((s.updAx a (Axis.configured b)).updAx a fun x => ((x.rampTo s.now (acIrun b)).alignEnc).enterIdle s.now).ax a = _
  rw [State.updAx_ax, State.updAx_ax, ramp]
  rfl

theorem State.enabled_ax_of_ne {a j : Fin 8} (b : Block) (s : State) (h : j ≠ a) : (s.enabled a b).ax j = s.ax j := by
  show ((s.updAx a (Axis.configured b)).updAx a fun x => ((x.rampTo s.now (acIrun b)).alignEnc).enterIdle s.now).ax j = _
  rw [State.updAx_ax_of_ne _ _ h.symm, State.updAx_ax_of_ne _ _ h.symm]

theorem State.axEnable_passes {a : Fin 8} {b : Block} {s : State} (he : acEnable b = true)
    (hc : firstFail 1 ((s.updAx a (Axis.configured b)).axChecks a) = none) : s.axEnable a b = .done (s.enabled a b) 0 [] := by
  have passes : firstFail 1 ((s.updAx a fun x => { x.newCommand with cfg := b }).axChecks a) = none := hc
  simp only [State.axEnable, he, Bool.not_true, Bool.false_eq_true, if_false, passes]
  rfl

theorem State.axEnable_fails {a : Fin 8} {b : Block} {k why : Nat} {s : State} (he : acEnable b = true)
    (hc : firstFail 1 ((s.updAx a (Axis.configured b)).axChecks a) = some (k, why)) :
    s.axEnable a b = .refuseIn ((s.updAx a (Axis.configured b)).raise 0x0A0A INFO a.val (k + 2 ^ 8 * why)) why k [] := by
  have fails : firstFail 1 ((s.updAx a fun x => { x.newCommand with cfg := b }).axChecks a) = some (k, why) := hc
  simp only [State.axEnable, he, Bool.not_true, Bool.false_eq_true, if_false, fails]
  rfl

/-- A disabled axis: its coils are dark. -/
def Axis.disabledBy (b : Block) (x : Axis) : Axis :=
  { x.newCommand.dark with
    cfg := b
    state := .disabled
    faultCause := 0
    waitRamp := false }

theorem State.axDisable_eq (a : Fin 8) (b : Block) (s : State) : s.axDisable a b = (s.updAx a (Axis.disabledBy b)).dropReference a := rfl

theorem State.dropReference_getLsbD (a : Fin 8) (s : State) : (s.dropReference a).margin.referenced.getLsbD a.val = false := by
  show (s.margin.referenced &&& ~~~(BitVec.ofNat 8 (2 ^ a.val))).getLsbD a.val = false
  rw [BitVec.getLsbD_and, BitVec.getLsbD_not, BitVec.getLsbD_ofNat, Nat.testBit_two_pow_self, decide_eq_true a.isLt]
  exact Bool.and_false _

theorem State.dropReference_ax (a : Fin 8) (s : State) (j : Fin 8) : (s.dropReference a).ax j = s.ax j := rfl

/-- An axis whose encoder has just been aligned follows it. -/
theorem Axis.encErr_of_aligned {x : Axis} (hc : x.encCount = 0) (ha : x.encAlign = x.pos) : x.encErr = 0 := by
  simp [Axis.encErr, hc, ha]

section
variable {m : MbCmd} {s : State} {a : Fin 8} (hg : Granted 0x0801 2 m s) (ht : m.target = axTarget a) (hl : m.length = 96)
  (hr : NoReserved m acReserved)
include hg ht hl hr

section
variable (hs : (s.ax a).state = .disabled)
include hs

theorem axConfig_stores (he : acEnable (blockFit 20 m.params) = false) :
    Completes (.axConfig m) s fun t => (t.ax a).state = .disabled ∧ (t.ax a).cfg = blockFit 20 m.params ∧ (t.ax a).pos = (s.ax a).pos ∧
      (∀ j, j ≠ a → t.ax j = s.ax j) := by
  refine ⟨_, congrArg Host.Outcome.next (axHdr_done (t := (s.takeOff 0x0801 m).updAx a (Axis.configured (blockFit 20 m.params))) (d := 0)
    (p := []) hg ht hl (by decide) (by decide) ?_), ?_⟩
  · dsimp only
    rw [State.takeOff_ax, if_pos hs, reserved_none hr, State.axEnable, he]
    rfl
  · simp only [State.answered_ax, State.updAx_ax, State.takeOff_ax]
    exact ⟨hs, rfl, rfl, fun j hj => State.takeOff_updAx_ax_of_ne _ _ _ _ hj⟩

theorem axConfig_enables (he : acEnable (blockFit 20 m.params) = true)
    (hc : firstFail 1 ((s.updAx a fun x => { x with cfg := blockFit 20 m.params }).axChecks a) = none) :
    Completes (.axConfig m) s fun t => (t.ax a).state = .idle ∧ (t.ax a).cfg = blockFit 20 m.params ∧
      (t.ax a).levelTo = acIrun (blockFit 20 m.params) ∧ (t.ax a).pos = (s.ax a).pos ∧ (t.ax a).encErr = 0 ∧
      (∀ j, j ≠ a → t.ax j = s.ax j) := by
  refine ⟨_, congrArg Host.Outcome.next (axHdr_done (t := (s.takeOff 0x0801 m).enabled a (blockFit 20 m.params)) (d := 0) (p := [])
    hg ht hl (by decide) (by decide) ?_), ?_⟩
  · dsimp only
    rw [State.takeOff_ax, if_pos hs, reserved_none hr]
    exact State.axEnable_passes he ((congrArg (firstFail 1) (State.axChecks_taken ..)).trans hc)
  · obtain ⟨l, r, on⟩ := (s.takeOff 0x0801 m).enabled_ax a (blockFit 20 m.params)
    simp only [State.answered_ax]
    rw [on, State.takeOff_ax]
    exact ⟨rfl, rfl, rfl, rfl, Axis.encErr_of_aligned rfl rfl, fun j hj => (State.enabled_ax_of_ne _ _ hj).trans (State.takeOff_ax ..)⟩

theorem axConfig_names_check {k why : Nat} (he : acEnable (blockFit 20 m.params) = true)
    (hc : firstFail 1 ((s.updAx a fun x => { x with cfg := blockFit 20 m.params }).axChecks a) = some (k, why)) :
    Completes (.axConfig m) s fun t => (t.ax a).state = .disabled ∧ s.event 0x0A0A INFO a.val (k + 2 ^ 8 * why) ∈ t.blot.raised ∧
      ((s.mbox m.mb).discard = 0 → (t.mbox m.mb).done = (s.mbox m.mb).done ++ [answerTo m why 0 k []]) := by
  let u := ((s.takeOff 0x0801 m).updAx a (Axis.configured (blockFit 20 m.params))).raise 0x0A0A INFO a.val (k + 2 ^ 8 * why)
  have disabled : (u.ax a).state = .disabled := by
    rw [State.raise_ax, State.takeOff_updAx_ax]
    exact hs
  refine ⟨u.respond m.mb (answerTo m why (u.ax a).state.code k []), congrArg Host.Outcome.next
    (axHdr_refuseIn hg ht hl (by decide) (by decide) ?_), ?_, ?_, fun open_ => ?_⟩
  · dsimp only
    rw [State.takeOff_ax, if_pos hs, reserved_none hr]
    exact State.axEnable_fails he ((congrArg (firstFail 1) (State.axChecks_taken ..)).trans hc)
  · rw [State.respond_ax, disabled]
  · refine (State.respond_reports _ _ u).mem ?_
    rw [State.raise_raised, State.updAx_event, State.takeOff_event]
    exact List.mem_append_right _ (List.mem_singleton_self _)
  · have box : u.mbox m.mb = (s.takeOff 0x0801 m).mbox m.mb := rfl
    rw [State.respond_done_of_open _ (by rw [box, State.takeOff_mb_discard, open_]), box, State.takeOff_mb_done, disabled]
    rfl

end

theorem axConfig_disables (hs : (s.ax a).state = .idle ∨ (s.ax a).state = .standstill ∨ (s.ax a).state = .fault)
    (he : acEnable (blockFit 20 m.params) = false) :
    Completes (.axConfig m) s fun t => (t.ax a).state = .disabled ∧ (t.ax a).cfg = blockFit 20 m.params ∧ (t.ax a).levelTo = 0 ∧
      t.margin.referenced.getLsbD a.val = false ∧ (∀ j, j ≠ a → t.ax j = s.ax j) := by
  refine ⟨_, congrArg Host.Outcome.next (axHdr_done (t := (s.takeOff 0x0801 m).axDisable a (blockFit 20 m.params)) (d := 0) (p := [])
    hg ht hl (by decide) (by decide) ?_), ?_⟩
  · have enabled : (s.ax a).state ≠ .disabled := by rcases hs with h | h | h <;> rw [h] <;> decide
    have may : (((s.ax a).state == .idle || (s.ax a).state == .standstill || (s.ax a).state == .fault) &&
        !acEnable (blockFit 20 m.params)) = true := by rw [he]; rcases hs with h | h | h <;> rw [h] <;> rfl
    dsimp only
    rw [State.takeOff_ax, if_neg enabled, if_pos may, reserved_none hr]
  · simp only [State.answered_ax, State.respond_margin, State.passItems_margin]
    simp only [State.axDisable_eq, State.dropReference_ax, State.updAx_ax]
    exact ⟨rfl, rfl, rfl, State.dropReference_getLsbD .., fun j hj => State.takeOff_updAx_ax_of_ne _ _ _ _ hj⟩

end

/-! ### AX_TABLE_LOAD (R277, R279) -/

/-- A chunk is held aside. -/
def Axis.holdChunk (c : Nat) (e : List Nat) (x : Axis) : Axis := { x with chunks := lset x.chunks c (some e) }

/-- A table is in use. -/
def Axis.useTable (t : List Nat) (x : Axis) : Axis :=
  { x with
    table := t
    chunks := [none, none, none] }

section
variable {m : MbCmd} {s : State} {a : Fin 8} (hg : Granted 0x0802 2 m s) (ht : m.target = axTarget a) (hl : m.length = 148)
  (hs : (s.ax a).state = .disabled) (hr : NoReserved m [(0, 0xFFFFFFFC)])
include hg ht hl hs hr

theorem axTableLoad_keeps_chunk (hc : fieldAt m.params 0 1 0 < 3) : CompletesBy (.axTableLoad m) 0x0802 m s
    (fun t => t.updAx a fun x => { x with chunks := lset x.chunks (fieldAt m.params 0 1 0) (some (chunkEntries m.params)) }) 0 0 [] := by
  refine congrArg Host.Outcome.next ((axHdr_done (d := 0) (p := [])
    (t := (s.takeOff 0x0802 m).updAx a (Axis.holdChunk (fieldAt m.params 0 1 0) (chunkEntries m.params))) hg ht hl (by decide)
    (by decide) ?_).trans ?_)
  · dsimp only
    rw [State.takeOff_ax, if_neg (not_not.mpr hs), reserved_none hr, if_pos hc]
    rfl
  · have disabled : ((s.ax a).holdChunk (fieldAt m.params 0 1 0) (chunkEntries m.params)).state = .disabled := hs
    rw [State.takeOff_updAx_ax, disabled]
    rfl

theorem axTableLoad_takes_table (hc : fieldAt m.params 0 1 0 = 3)
    (hv : tableFault ((s.ax a).quarter 0 ++ (s.ax a).quarter 1 ++ (s.ax a).quarter 2 ++ chunkEntries m.params) = none) :
    Completes (.axTableLoad m) s fun t =>
      (t.ax a).table = (s.ax a).quarter 0 ++ (s.ax a).quarter 1 ++ (s.ax a).quarter 2 ++ chunkEntries m.params ∧
      (t.ax a).state = .disabled ∧ (∀ j, j ≠ a → t.ax j = s.ax j) := by
  refine ⟨_, congrArg Host.Outcome.next (axHdr_done (t := (s.takeOff 0x0802 m).updAx a (Axis.useTable
    ((s.ax a).quarter 0 ++ (s.ax a).quarter 1 ++ (s.ax a).quarter 2 ++ chunkEntries m.params))) (d := 0) (p := []) hg ht hl (by decide)
    (by decide) ?_), ?_⟩
  · dsimp only
    rw [State.takeOff_ax, if_neg (not_not.mpr hs), reserved_none hr, if_neg (by omega), hv]
    rfl
  · simp only [State.answered_ax, State.updAx_ax, State.takeOff_ax]
    exact ⟨rfl, hs, fun j hj => State.takeOff_updAx_ax_of_ne _ _ _ _ hj⟩

theorem axTableLoad_refuses_table {k : Nat} (hc : fieldAt m.params 0 1 0 = 3)
    (hv : tableFault ((s.ax a).quarter 0 ++ (s.ax a).quarter 1 ++ (s.ax a).quarter 2 ++ chunkEntries m.params) = some k) :
    exec (.axTableLoad m) s = .next ((s.takeOff 0x0802 m).respond m.mb (answerTo m 0x0301 0 k [])) := by
  refine congrArg Host.Outcome.next ((axHdr_refuse (st := 0x0301) (d := k) hg ht hl (by decide) (by decide) ?_).trans ?_)
  · dsimp only
    rw [State.takeOff_ax, if_neg (not_not.mpr hs), reserved_none hr, if_neg (by omega), hv]
    rfl
  · rw [hs]
    rfl

end

/-! ### AX_MOVE (R285, R286, R290, R319) -/

/-- A move leaves the encoder where it is. -/
theorem Axis.takeMove_foundAway {was : Axis} (now : Nat) (target : Int) (v : Nat) (x : Axis) (h : ¬ FoundAway was x) :
    ¬ FoundAway was (x.takeMove now target v) := by
  obtain ⟨_, _, _, _, moved⟩ := x.takeMove_eq now target v
  rw [moved]
  exact h

theorem axMove_begins {m : MbCmd} {s : State} {a : Fin 8} {tgt : Int} (hg : Granted 0x0804 1 m s) (ht : m.target = axTarget a)
    (hl : m.length = 28)
    (hs : (s.ax a).state = .idle ∨ (s.ax a).state = .standstill ∨ (s.ax a).state = .moving ∨ (s.ax a).state = .reversing)
    (hn : s.linear.any (Linear.has a) = false) (hr : NoReserved m [(0, 0xFFFFFFFE)]) (hk : s.axisLock a = none)
    (hv : natAt m.params 8 ≤ acVmax (s.ax a).cfg)
    (htgt : tgt = if bitAt m.params 0 0 = true then wrap32 ((s.ax a).target + intAt m.params 4) else intAt m.params 4)
    (ho : (s.ax a).softOut tgt = false) (hm : (s.ax a).limitRefusal tgt = none)
    (he : ¬ ((s.ax a).state = .standstill ∧ (s.ax a).ssMode ≠ 0 ∧ (s.ax a).encBad = true)) :
    Completes (.axMove m) s fun t =>
      (t.ax a).target = tgt ∧ (t.ax a).vMove = (if natAt m.params 8 = 0 then acVmax (s.ax a).cfg else natAt m.params 8) ∧
      (t.ax a).pos = (s.ax a).pos ∧ (t.ax a).levelTo = acIrun (s.ax a).cfg ∧ (∀ j, j ≠ a → t.ax j = s.ax j) ∧ t.linear = s.linear ∧
      ((s.ax a).state = .standstill → (t.ax a).state = .moving ∧ (t.ax a).waitRamp = true) ∧
      ((s.ax a).state = .idle ∨ (s.ax a).state = .moving →
        (t.ax a).state = if (s.ax a).vSq = 0 ∨ (s.ax a).ahead tgt = true then .moving else .reversing) ∧
      ((s.ax a).state = .reversing → (t.ax a).state = .reversing) := by
  let v := if natAt m.params 8 = 0 then acVmax (s.ax a).cfg else natAt m.params 8
  let u := (s.takeOff 0x0804 m).updAx a (Axis.takeMove s.now tgt v)
  have own : u.ax a = (s.ax a).takeMove s.now tgt v := State.takeOff_updAx_ax ..
  have books : OnlyBooks u (u.energise a (s.ax a)) := State.energise_onlyBooks (own ▸ Axis.takeMove_foundAway _ _ _ _ he)
  refine ⟨_, congrArg Host.Outcome.next (axHdr_accepted (t := u.energise a (s.ax a)) (st := (u.ax a).state.code) (p := [])
    hg ht hl (by decide) ?_), ?_⟩
  · have legal : (!((s.ax a).state == .idle || (s.ax a).state == .standstill || (s.ax a).state == .moving || (s.ax a).state == .reversing) ||
        s.linear.any (Linear.has a)) = false := by
      rw [hn]
      rcases hs with h | h | h | h <;> rw [h] <;> rfl
    dsimp only
    rw [State.takeOff_ax, State.takeOff_linear, State.takeOff_axisLock, State.takeOff_now, legal, reserved_none hr, hk, ← htgt,
      if_neg (Nat.not_lt.mpr hv), ho, hm]
    rfl
  · obtain ⟨_, _, l, r, moved⟩ := (s.ax a).takeMove_eq s.now tgt v
    simp only [State.answered_ax, State.answered_linear, books.ax, books.linear]
    rw [own, moved]
    refine ⟨rfl, rfl, rfl, rfl, fun j hj => State.takeOff_updAx_ax_of_ne _ _ _ _ hj, State.takeOff_linear _ _ _, fun h => ?_, fun h => ?_,
      fun h => ?_⟩
    · exact ⟨by simp only [Axis.movesAs, h], by simp only [h, decide_true, Bool.true_or]⟩
    · exact Axis.movesAs_of_own tgt h
    · simp only [Axis.movesAs, h]

/-! ### AX_MOVE_LINEAR (R288, R290, R319) -/

theorem firstRefusal_none {f : Fin 8 → Option (Nat × Nat)} {l : List (Fin 8)} (h : ∀ a ∈ l, f a = none) : firstRefusal f l = none := by
  have all : l.filterMap f = [] := List.filterMap_eq_nil_iff.mpr h
  rw [firstRefusal, all]
  rfl

theorem axisMask_nodup (w : Word) : (axisMask w).Nodup := by
  unfold axisMask
  split
  · exact (List.nodup_finRange 8).filter _
  · exact List.nodup_nil

/-- The lead of a linear move: the member of the largest travel, the first of several (R288 item 1). -/
def leadOf (m0 : Fin 8 × Int × Int) (rest : List (Fin 8 × Int × Int)) : Fin 8 × Int × Int :=
  rest.foldl (fun b m => if b.2.2.natAbs < m.2.2.natAbs then m else b) m0

theorem travel_le_leadOf (m0 : Fin 8 × Int × Int) (rest : List (Fin 8 × Int × Int)) :
    ∀ m ∈ m0 :: rest, m.2.2.natAbs ≤ (leadOf m0 rest).2.2.natAbs := by
  induction rest generalizing m0 with
  | nil => simp [leadOf]
  | cons k rest ih =>
    let b := if m0.2.2.natAbs < k.2.2.natAbs then k else m0
    have larger : m0.2.2.natAbs ≤ b.2.2.natAbs ∧ k.2.2.natAbs ≤ b.2.2.natAbs := by
      by_cases h : m0.2.2.natAbs < k.2.2.natAbs
      · simp only [b, if_pos h]; omega
      · simp only [b, if_neg h]; omega
    have lead : leadOf m0 (k :: rest) = leadOf b rest := rfl
    rw [lead]
    have first := ih b b List.mem_cons_self
    intro m hm
    rcases List.mem_cons.mp hm with rfl | hm
    · exact larger.1.trans first
    · rcases List.mem_cons.mp hm with rfl | hm
      · exact larger.2.trans first
      · exact ih b m (List.mem_cons_of_mem _ hm)

/-- The members of a linear move, with their starts and travels. -/
def State.membersOf (l : List (Fin 8)) (dest : Fin 8 → Int) (s : State) : List (Fin 8 × Int × Int) :=
  l.map fun a => (a, (s.ax a).pos, dest a - (s.ax a).pos)

/-- Every axis of a linear move takes its own part. -/
def State.takeMoves (l : List (Fin 8)) (dest : Fin 8 → Int) (s : State) : State :=
  forAll (fun a t => t.updAx a (Axis.takeMove s.now (dest a) (acVmax (s.ax a).cfg))) l s

/-- A linear move starts: its axes take it, and it joins the moves under way with the travel of its lead. -/
theorem State.startLinear_eq {l : List (Fin 8)} (hl : l ≠ []) (dest : Fin 8 → Int) (s : State) :
    ∃ k, s.startLinear l dest = { s.takeMoves l dest with linear := s.linear ++ [k] } ∧ k.members = s.membersOf l dest ∧ k.prog = 0 ∧
      k.stopping = false ∧ ∀ a ∈ l, (dest a - (s.ax a).pos).natAbs ≤ k.travel.natAbs := by
  obtain ⟨a0, rest, rfl⟩ := List.exists_cons_of_ne_nil hl
  obtain ⟨x, taken⟩ := forAll_updAx_frame (fun a => Axis.takeMove s.now (dest a) (acVmax (s.ax a).cfg)) (a0 :: rest) s
  have linear : (s.takeMoves (a0 :: rest) dest).linear = s.linear := (congrArg State.linear taken :)
  unfold State.startLinear
  dsimp only [List.map_cons]
  refine ⟨_, congrArg (fun ls => ({ s.takeMoves (a0 :: rest) dest with linear := ls ++ _ } : State)) linear, rfl, rfl, rfl, fun a ha => ?_⟩
  exact travel_le_leadOf _ _ (a, (s.ax a).pos, dest a - (s.ax a).pos)
    (List.mem_map_of_mem (f := fun a => (a, (s.ax a).pos, dest a - (s.ax a).pos)) ha)

theorem orElse_none {r : Option (Nat × Nat)} {k : Verdict} (h : r = none) : orElse r k = k := by rw [h]; rfl

theorem State.takeMoves_ax {l : List (Fin 8)} (hl : l.Nodup) (dest : Fin 8 → Int) (s : State) (j : Fin 8) :
    (s.takeMoves l dest).ax j = if j ∈ l then (s.ax j).takeMove s.now (dest j) (acVmax (s.ax j).cfg) else s.ax j :=
  forAll_updAx_ax s hl j

theorem State.startLinear_ax {l : List (Fin 8)} (hl : l ≠ []) (hn : l.Nodup) (dest : Fin 8 → Int) (s : State) (j : Fin 8) :
    (s.startLinear l dest).ax j = if j ∈ l then (s.ax j).takeMove s.now (dest j) (acVmax (s.ax j).cfg) else s.ax j := by
  obtain ⟨k, starts, -⟩ := s.startLinear_eq hl dest
  rw [starts]
  exact s.takeMoves_ax hn dest j

/-- A target of form AXIS_MASK (R359). -/
theorem tgtOf_axes {w : Word} {k : Nat} (h : tgtOf w = .axes k) : bits w 31 28 = 4 ∧ 2 ≤ popCount 8 k := by
  unfold tgtOf at h
  dsimp only at h
  repeat' split at h
  all_goals cases h
  next form ok => exact ⟨form, ok.2⟩

theorem axisMask_ne_nil {w : Word} {k : Nat} (h : tgtOf w = .axes k) : axisMask w ≠ [] := by
  have two : 2 ≤ (maskBits 8 k).length := (tgtOf_axes h).2
  obtain ⟨i, hi⟩ := List.exists_mem_of_length_pos (show 0 < (maskBits 8 k).length by omega)
  obtain ⟨inRange, set_⟩ := List.mem_filter.mp hi
  have mem : (⟨i, List.mem_range.mp inRange⟩ : Fin 8) ∈ axisMask w := by
    rw [axisMask, h]
    exact List.mem_filter.mpr ⟨List.mem_finRange _, set_⟩
  exact List.ne_nil_of_mem mem

/-- The header facts of AX_MOVE_LINEAR. -/
def linearHdr : Hdr := { opcode := 0x0805, forms := [4], lenOk := lenIs 48, minLen := 48, auth := fun _ => 1 }

theorem linearHdr_targetOk {m : MbCmd} {k : Nat} (h : tgtOf m.target = .axes k) : linearHdr.targetOk m = true := by
  have form := (tgtOf_axes h).1
  simp only [Hdr.targetOk, linearHdr, form, h]
  rfl

theorem axMoveLinear_begins {m : MbCmd} {s : State} {k : Nat} (hg : Granted 0x0805 1 m s) (ht : tgtOf m.target = .axes k)
    (hl : m.length = 48)
    (h : ∀ a ∈ axisMask m.target, ((s.ax a).state = .idle ∨ (s.ax a).state = .standstill) ∧ s.axisLock a = none ∧
      (s.ax a).softOut (intAt m.params (4 * a.val)) = false ∧ (s.ax a).limitRefusal (intAt m.params (4 * a.val)) = none ∧
      ¬ ((s.ax a).state = .standstill ∧ (s.ax a).ssMode ≠ 0 ∧ (s.ax a).encBad = true)) :
    Completes (.axMoveLinear m) s fun t =>
      (∀ a ∈ axisMask m.target, (t.ax a).target = intAt m.params (4 * a.val) ∧ (t.ax a).pos = (s.ax a).pos ∧
        ((s.ax a).vSq = 0 → (t.ax a).state = .moving)) ∧
      (∀ a, a ∉ axisMask m.target → t.ax a = s.ax a) ∧
      ∃ l, t.linear = s.linear ++ [l] ∧ l.members.map (fun x => x.1) = axisMask m.target ∧ l.prog = 0 ∧ l.stopping = false ∧
        (∀ a ∈ axisMask m.target, (intAt m.params (4 * a.val) - (s.ax a).pos).natAbs ≤ l.travel.natAbs) := by
  let dest (a : Fin 8) : Int := intAt m.params (4 * a.val)
  let u := s.takeOff 0x0805 m
  let t := u.startLinear (axisMask m.target) dest
  have same (a : Fin 8) : u.ax a = s.ax a := State.takeOff_ax ..
  obtain ⟨ln, starts, members, prog, stopping, longest⟩ := u.startLinear_eq (axisMask_ne_nil ht) dest
  have own (a : Fin 8) : t.ax a =
      if a ∈ axisMask m.target then (s.ax a).takeMove u.now (dest a) (acVmax (s.ax a).cfg) else s.ax a := by
    rw [← same]
    exact State.startLinear_ax (axisMask_ne_nil ht) (axisMask_nodup _) dest u a
  have books : OnlyBooks t (forAll (fun a v => v.energise a (u.ax a)) (axisMask m.target) t) := by
    refine forAll_energise_onlyBooks fun a ha => ?_
    obtain ⟨-, -, -, -, held⟩ := h a ha
    rw [own, if_pos ha, same]
    exact Axis.takeMove_foundAway _ _ _ _ held
  refine ⟨_, congrArg Host.Outcome.next ((Hdr.run_granted' (h := linearHdr) hg (lenIs_of hl (by decide)) (linearHdr_targetOk ht) fun _ => rfl).trans
    (congrArg _ (?_ : _ = Verdict.accepted (forAll (fun a v => v.energise a (u.ax a)) (axisMask m.target) t) 0 []))), ?_⟩
  · have legal : firstRefusal (fun a => if (u.ax a).state == .idle || (u.ax a).state == .standstill then none
        else some (RC_STATE, (u.ax a).state.code)) (axisMask m.target) = none := firstRefusal_none fun a ha => by
      rw [same]
      rcases (h a ha).1 with e | e <;> rw [e] <;> rfl
    have unlocked : firstRefusal (fun a => safetyRefusal (u.axisLock a)) (axisMask m.target) = none := firstRefusal_none fun a ha => by
      obtain ⟨-, free, -⟩ := h a ha
      rw [State.takeOff_axisLock, free]
      rfl
    have inside : firstRefusal (fun a => if (u.ax a).softOut (dest a) then some (RC_CFG_RANGE, 4 * a.val) else none) (axisMask m.target) = none :=
      firstRefusal_none fun a ha => by
        obtain ⟨-, -, soft, -⟩ := h a ha
        rw [same, soft]
        rfl
    have unlimited : firstRefusal (fun a => (u.ax a).limitRefusal (dest a)) (axisMask m.target) = none := firstRefusal_none fun a ha => by
      obtain ⟨-, -, -, limit, -⟩ := h a ha
      rw [same]
      exact limit
    exact (orElse_none legal).trans ((orElse_none unlocked).trans ((orElse_none inside).trans (orElse_none unlimited)))
  · rw [Hdr.conclude_accepted]
    simp only [State.answered_ax, State.answered_linear, books.ax, books.linear, own]
    refine ⟨fun a ha => ?_, fun a ha => if_neg ha, ln, ?_, ?_, prog, stopping, fun a ha => ?_⟩
    · obtain ⟨_, _, _, _, moved⟩ := (s.ax a).takeMove_eq u.now (dest a) (acVmax (s.ax a).cfg)
      rw [if_pos ha, moved]
      refine ⟨rfl, rfl, fun rest => Axis.movesAs_of_rest _ rest fun reversing => ?_⟩
      rcases (h a ha).1 with e | e <;> rw [e] at reversing <;> cases reversing
    · rw [show t = _ from starts, ← State.takeOff_linear 0x0805 m s]
    · rw [members, State.membersOf, List.map_map]
      exact List.map_id _
    · rw [← same]
      exact longest a ha

/-! ### AX_HOME (R291, R319) -/

/-- A block read from the parameters holds their words. -/
theorem wordAt_blockFit {n off : Nat} (p : Block) (h : off / 4 < n) : wordAt (blockFit n p) off = wordAt p off := by
  have inside : off / 4 < (blockFit n p).length := by simp [blockFit, h]
  rw [wordAt, List.getD_eq_getElem _ _ inside]
  simp [blockFit, wordAt]

section
variable (p : Block)

theorem hmMethod_blockFit : hmMethod (blockFit 6 p) = fieldAt p 0 1 0 := congrArg (bits · 1 0) (wordAt_blockFit p (by decide))
theorem hmFast_blockFit : hmFast (blockFit 6 p) = natAt p 4 := congrArg BitVec.toNat (wordAt_blockFit p (by decide))
theorem hmSlow_blockFit : hmSlow (blockFit 6 p) = natAt p 8 := congrArg BitVec.toNat (wordAt_blockFit p (by decide))
theorem hmBack_blockFit : intAt (blockFit 6 p) 0xC = intAt p 0xC := congrArg BitVec.toInt (wordAt_blockFit p (by decide))
theorem hmTravel_blockFit : hmTravel (blockFit 6 p) = natAt p 0x14 := congrArg BitVec.toNat (wordAt_blockFit p (by decide))

end

theorem axHome_begins {m : MbCmd} {s : State} {a : Fin 8} (hg : Granted 0x0803 1 m s) (ht : m.target = axTarget a) (hl : m.length = 40)
    (hs : (s.ax a).state = .idle ∨ (s.ax a).state = .standstill) (hr : NoReserved m [(0, 0xFFFFFFEC)]) (hk : s.axisLock a = none)
    (hfast : natAt m.params 4 ≤ acVmax (s.ax a).cfg) (hslow : 1 ≤ natAt m.params 8) (hle : natAt m.params 8 ≤ natAt m.params 4)
    (hback : 0 ≤ intAt m.params 0xC) (htravel : 1 ≤ natAt m.params 0x14)
    (henc : fieldAt m.params 0 1 0 ≠ 1 ∨ acEnc (s.ax a).cfg = true)
    (he : ¬ ((s.ax a).state = .standstill ∧ (s.ax a).ssMode ≠ 0 ∧ (s.ax a).encBad = true)) :
    Completes (.axHome m) s fun t =>
      (t.ax a).state = .homing ∧ (t.ax a).pos = (s.ax a).pos ∧ (t.ax a).homed = (s.ax a).homed ∧ (∀ j, j ≠ a → t.ax j = s.ax j) ∧
      (t.ax a).levelTo = (if fieldAt m.params 0 1 0 = 2 then acIhome (s.ax a).cfg else acIrun (s.ax a).cfg) ∧
      (∃ h, (t.ax a).homing = some h ∧ h.cmd = blockFit 6 m.params ∧ h.travel = 0 ∧
        h.phase = (if fieldAt m.params 0 1 0 = 3 then .finished else if fieldAt m.params 0 1 0 = 2 then .ramp else .seek)) ∧
      ((s.mbox m.mb).discard = 0 → (t.mbox m.mb).done = (s.mbox m.mb).done ++ [okAnswer m 2 0 []]) := by
  let u := (s.takeOff 0x0803 m).updAx a (Axis.startHoming s.now (blockFit 6 m.params))
  obtain ⟨_, _, l, r, w, o, started⟩ := (s.ax a).startHoming_eq s.now (blockFit 6 m.params)
  rw [hmMethod_blockFit] at started
  have own : u.ax a = _ := (State.takeOff_updAx_ax ..).trans started
  have books : OnlyBooks u (u.energise a (s.ax a)) := State.energise_onlyBooks (by rw [own]; exact he)
  refine ⟨_, congrArg Host.Outcome.next (axHdr_accepted (t := u.energise a (s.ax a)) (st := 2) (p := []) hg ht hl (by decide) ?_), ?_⟩
  · have legal : (!((s.ax a).state == .idle || (s.ax a).state == .standstill)) = false := by
      rcases hs with h | h <;> rw [h] <;> rfl
    have slow : (decide (natAt m.params 8 < 1) || decide (natAt m.params 4 < natAt m.params 8)) = false := by
      rw [Bool.or_eq_false_iff, decide_eq_false_iff_not, decide_eq_false_iff_not]
      omega
    have encoder : (decide (fieldAt m.params 0 1 0 = 1) && !acEnc (s.ax a).cfg) = false := by rcases henc with h | h <;> simp [h]
    have code : (u.ax a).state.code = 2 := by rw [own]; rfl
    dsimp only
    rw [State.takeOff_ax, State.takeOff_axisLock, State.takeOff_now, legal, if_neg Bool.false_ne_true, reserved_none hr, hk, hmFast_blockFit,
      hmSlow_blockFit, hmBack_blockFit, hmTravel_blockFit, hmMethod_blockFit, if_neg (by omega), slow, if_neg Bool.false_ne_true,
      if_neg (by omega), if_neg (by omega), encoder, if_neg Bool.false_ne_true, code]
    rfl
  · simp only [State.answered_ax, books.ax, own]
    refine ⟨trivial, trivial, trivial, fun j hj => State.takeOff_updAx_ax_of_ne _ _ _ _ hj, ?_, ⟨_, rfl, rfl, rfl, rfl⟩,
      State.answered_done _ ⟨((s.takeOff 0x0803 m).mbox m.mb).verify, books.mbox m.mb⟩⟩
    split <;> rfl

/-! ### AX_STOP (R287, R362) -/

section
variable {m : MbCmd} {s : State} {a : Fin 8} (hg : Granted 0x0806 1 m s) (ht : m.target = axTarget a) (hl : m.length = 20)
  (hd : (s.ax a).state ≠ .disabled) (hf : (s.ax a).state ≠ .fault) (hr : NoReserved m [(0, 0xFFFFFFFE)])

/-- The axis and its linear move, once the stop has begun. -/
def State.stopTaken (m : MbCmd) (a : Fin 8) (s : State) : State :=
  ((s.takeOff 0x0806 m).updAx a Axis.newCommand).stopAxis a (bitAt m.params 0 0)

/-- AX_STOP waits among the others of its axis. -/
def Axis.awaitStop (m : MbCmd) (x : Axis) : Axis := { x with stops := x.stops ++ [m] }

include hg ht hl hd hf hr

theorem exec_axStop : exec (.axStop m) s = .next ((axHdr 0x0806 20 1).conclude m (s.takeOff 0x0806 m)
    (if ((s.stopTaken m a).ax a).state = .stopping then .hold ((s.stopTaken m a).updAx a (Axis.awaitStop m))
      else .done (s.stopTaken m a) 0 [])) := by
  refine congrArg Host.Outcome.next ((axHdr_run hg ht hl (by decide)).trans (congrArg _ ?_))
  have legal : (decide ((s.ax a).state = .disabled) || decide ((s.ax a).state = .fault)) = false := by simp [hd, hf]
  dsimp only
  rw [State.takeOff_ax, legal, if_neg Bool.false_ne_true, reserved_none hr]
  rfl

/-- A stop under way holds its answer. -/
theorem exec_axStop_holds (h : ((s.stopTaken m a).ax a).state = .stopping) : exec (.axStop m) s =
    .next (((s.stopTaken m a).updAx a (Axis.awaitStop m)).updMb m.mb fun b => { b with working := b.working + 1 }) := by
  rw [exec_axStop hg ht hl hd hf hr, if_pos h, Hdr.conclude_hold]

/-- A stop at rest is answered. -/
theorem exec_axStop_answers (h : ((s.stopTaken m a).ax a).state ≠ .stopping) : exec (.axStop m) s =
    .next (((s.stopTaken m a).passItems 0x0806 m).respond m.mb (okAnswer m ((s.stopTaken m a).ax a).state.code 0 [])) := by
  rw [exec_axStop hg ht hl hd hf hr, if_neg h, Hdr.conclude_done, Hdr.stateCode_ax ht (by decide) rfl]
  rfl

omit hg ht hl hd hf hr

/-- An axis without a linear move stops on its own. -/
theorem State.stopTaken_alone (hn : s.linear.any (Linear.has a) = false) : ∃ b, s.stopTaken m a =
    { (s.takeOff 0x0806 m).updAx a (fun x => x.newCommand.stopped s.now (bitAt m.params 0 0)) with blot := b } := by
  obtain ⟨b, alone, -⟩ := State.stopAxis_alone (a := a) (s := (s.takeOff 0x0806 m).updAx a Axis.newCommand) (bitAt m.params 0 0)
    (by rw [State.updAx_linear, State.takeOff_linear, hn])
  refine ⟨b, ?_⟩
  rw [State.stopTaken, alone, State.updAx_updAx, State.updAx_now, State.takeOff_now]

theorem State.stopTaken_ax (hn : s.linear.any (Linear.has a) = false) :
    (s.stopTaken m a).ax a = (s.ax a).newCommand.stopped s.now (bitAt m.params 0 0) ∧ (∀ j, j ≠ a → (s.stopTaken m a).ax j = s.ax j) ∧
    ∀ k, (s.stopTaken m a).mbox k = (s.takeOff 0x0806 m).mbox k := by
  obtain ⟨b, alone⟩ := State.stopTaken_alone (m := m) hn
  rw [alone]
  let stop (x : Axis) : Axis := x.newCommand.stopped s.now (bitAt m.params 0 0)
  exact ⟨State.takeOff_updAx_ax 0x0806 m a stop s, fun j hj => State.takeOff_updAx_ax_of_ne 0x0806 m stop s hj, fun _ => rfl⟩

/-- What a stop makes of an axis on its own. -/
theorem Axis.stopped_begins (now : Nat) (quick : Bool) (x : Axis) :
    (x.stopped now quick).pos = x.pos ∧ (x.stopped now quick).vSq = x.vSq ∧ (x.stopped now quick).stops = x.stops ∧
    (x.state = .idle ∨ x.state = .standstill → (x.stopped now quick).state = x.state ∧ (x.stopped now quick).target = x.target) ∧
    (x.state = .homing → (x.stopped now quick).homing = none) ∧
    (x.state = .moving ∨ x.state = .reversing ∨ x.state = .homing →
      (x.stopped now quick).state = (if x.vSq = 0 then .idle else .stopping) ∧
      (x.vSq ≠ 0 → (x.stopped now quick).quick = quick) ∧ (x.vSq = 0 → (x.stopped now quick).target = x.pos)) := by
  cases hg : x.state.going
  case false =>
    rw [Axis.stopped_of_standing now quick hg]
    refine ⟨rfl, rfl, rfl, fun _ => ⟨rfl, rfl⟩, fun h => ?_, fun h => ?_⟩
    · rw [h] at hg; cases hg
    · rcases h with h | h | h <;> rw [h] at hg <;> cases hg
  case true =>
    have notStanding : ¬ (x.state = .idle ∨ x.state = .standstill) := by
      rintro (h | h) <;> rw [h] at hg <;> cases hg
    by_cases hv : x.vSq = 0
    · obtain ⟨l, r, rest⟩ := Axis.stopped_of_rest now quick hg hv
      rw [rest]
      exact ⟨rfl, rfl, rfl, fun h => absurd h notStanding, fun _ => rfl, fun _ => ⟨(if_pos hv).symm, fun h => absurd hv h, fun _ => rfl⟩⟩
    · obtain ⟨l, r, motion⟩ := Axis.stopped_of_motion now quick hg hv
      rw [motion]
      refine ⟨rfl, rfl, rfl, fun h => absurd h notStanding, fun _ => rfl, fun h => ⟨(if_neg hv).symm, fun _ => ?_, fun h => absurd h hv⟩⟩
      rcases h with h | h | h <;> simp [h]

include hg ht hl hd hf hr

theorem axStop_begins :
    Completes (.axStop m) s fun t =>
      (∀ l ∈ t.linear, l.has a = true → l.stopping = true) ∧
      (s.linear.any (Linear.has a) = false →
        (∀ j, j ≠ a → t.ax j = s.ax j) ∧ (t.ax a).pos = (s.ax a).pos ∧ (t.ax a).vSq = (s.ax a).vSq ∧
        ((s.ax a).state = .idle ∨ (s.ax a).state = .standstill → (t.ax a).state = (s.ax a).state ∧ (t.ax a).target = (s.ax a).target) ∧
        ((s.ax a).state = .homing → (t.ax a).homing = none) ∧
        ((s.ax a).state = .moving ∨ (s.ax a).state = .reversing ∨ (s.ax a).state = .homing →
          (t.ax a).state = (if (s.ax a).vSq = 0 then .idle else .stopping) ∧
          ((s.ax a).vSq ≠ 0 → (t.ax a).quick = bitAt m.params 0 0) ∧ ((s.ax a).vSq = 0 → (t.ax a).target = (s.ax a).pos)) ∧
        ((t.ax a).state = .stopping → (t.ax a).stops = (s.ax a).stops ++ [m] ∧ (t.mbox m.mb).done = (s.mbox m.mb).done ∧
          (t.mbox m.mb).working = (s.mbox m.mb).working + 1) ∧
        ((t.ax a).state ≠ .stopping → (s.mbox m.mb).discard = 0 →
          (t.mbox m.mb).done = (s.mbox m.mb).done ++ [okAnswer m (t.ax a).state.code 0 []])) := by
  have lines : ∀ l ∈ (s.stopTaken m a).linear, l.has a = true → l.stopping = true := State.stopAxis_stops_linear _ _ _
  obtain ⟨pos, vSq, stops, standing, homing, going⟩ := (s.ax a).newCommand.stopped_begins s.now (bitAt m.params 0 0)
  by_cases h : ((s.stopTaken m a).ax a).state = .stopping
  · refine ⟨_, exec_axStop_holds hg ht hl hd hf hr h, lines, fun hn => ?_⟩
    obtain ⟨own, others, box⟩ := State.stopTaken_ax (m := m) hn
    have held : ((s.stopTaken m a).updAx a (Axis.awaitStop m)).ax a = ((s.ax a).newCommand.stopped s.now (bitAt m.params 0 0)).awaitStop m := by
      rw [State.updAx_ax, own]
    rw [own] at h
    simp only [State.updMb_ax, State.updMb_mbox, State.updAx_mbox, box, held]
    refine ⟨fun j hj => (State.updAx_ax_of_ne _ _ hj.symm).trans (others j hj), pos, vSq, standing, homing, going, fun _ => ⟨?_, ?_, ?_⟩,
      fun moves => absurd h moves⟩
    · exact congrArg (· ++ [m]) stops
    · exact State.takeOff_mb_done ..
    · rw [State.takeOff_mb_working]
  · refine ⟨_, exec_axStop_answers hg ht hl hd hf hr h, ?_, fun hn => ?_⟩
    · rw [State.answered_linear]
      exact lines
    · obtain ⟨own, others, box⟩ := State.stopTaken_ax (m := m) hn
      rw [own] at h
      simp only [State.answered_ax, own]
      exact ⟨others, pos, vSq, standing, homing, going, fun stays => absurd stays h,
        fun _ => State.answered_done _ ⟨((s.takeOff 0x0806 m).mbox m.mb).verify, box m.mb⟩⟩

end

/-! ### AX_STANDSTILL (R293) -/

/-- An axis stands in a mode; its coils have not followed yet. -/
def Axis.standing (mode : Nat) (x : Axis) : Axis :=
  { x with
    state := .standstill
    ssMode := mode
    vSq := 0
    waitRamp := false
    posUncertain := x.posUncertain || (mode != 0 && !acEnc x.cfg) }

/-- STANDSTILL keeps the position; the coils hold it in mode 0 and are off or shorted in the others. -/
theorem State.standstill_ax (a : Fin 8) (mode : Nat) (s : State) : ∃ l r, (s.standstill a mode).ax a = { (s.ax a).standing mode with
    level := l
    levelTo := if mode = 0 then (acIhold (s.ax a).cfg : Int) else 0
    rampAt := r } := by
  have own : (s.standstill a mode).ax a = if mode = 0 then ((s.ax a).standing mode).rampTo s.now (acIhold (s.ax a).cfg)
      else ((s.ax a).standing mode).dark := State.updAx_ax ..
  rw [own]
  split
  · obtain ⟨l, r, ramp⟩ := ((s.ax a).standing mode).rampTo_eq s.now (acIhold (s.ax a).cfg)
    exact ⟨l, r, ramp⟩
  · exact ⟨0, (s.ax a).rampAt, rfl⟩

theorem State.standstill_ax_of_ne {a j : Fin 8} (mode : Nat) (s : State) (h : j ≠ a) : (s.standstill a mode).ax j = s.ax j :=
  State.updAx_ax_of_ne _ _ h.symm

theorem axStandstill_stands {m : MbCmd} {s : State} {a : Fin 8} (hg : Granted 0x0808 1 m s) (ht : m.target = axTarget a)
    (hl : m.length = 20) (hs : (s.ax a).state = .idle ∨ (s.ax a).state = .standstill) (hr : NoReserved m [(0, 0xFFFFFFFC)])
    (hm : fieldAt m.params 0 1 0 < 3) (he : ¬ ((s.ax a).state = .standstill ∧ (s.ax a).ssMode ≠ 0 ∧ (s.ax a).encBad = true)) :
    Completes (.axStandstill m) s fun t =>
      (t.ax a).state = .standstill ∧ (t.ax a).ssMode = fieldAt m.params 0 1 0 ∧ (t.ax a).pos = (s.ax a).pos ∧
      (t.ax a).levelTo = (if fieldAt m.params 0 1 0 = 0 then (acIhold (s.ax a).cfg : Int) else 0) ∧
      (t.ax a).posUncertain = ((s.ax a).posUncertain || (fieldAt m.params 0 1 0 != 0 && !acEnc (s.ax a).cfg)) ∧
      (∀ j, j ≠ a → t.ax j = s.ax j) := by
  let v := (s.takeOff 0x0808 m).updAx a Axis.newCommand
  let u := v.standstill a (fieldAt m.params 0 1 0)
  have took : v.ax a = (s.ax a).newCommand := State.takeOff_updAx_ax ..
  obtain ⟨l, r, stood⟩ := v.standstill_ax a (fieldAt m.params 0 1 0)
  rw [took] at stood
  have books : OnlyBooks u (if fieldAt m.params 0 1 0 = 0 then u.energise a (s.ax a) else u) := by
    split
    · exact State.energise_onlyBooks (by rw [stood]; exact he)
    · exact .refl u
  refine ⟨_, congrArg Host.Outcome.next (axHdr_done (t := if fieldAt m.params 0 1 0 = 0 then u.energise a (s.ax a) else u) (d := 0) (p := [])
    hg ht hl (by decide) (by decide) ?_), ?_⟩
  · have legal : (!((s.ax a).state == .idle || (s.ax a).state == .standstill)) = false := by
      rcases hs with h | h <;> rw [h] <;> rfl
    dsimp only
    rw [State.takeOff_ax, legal, if_neg Bool.false_ne_true, reserved_none hr, if_neg (by omega)]
  · simp only [State.answered_ax, books.ax]
    rw [stood]
    exact ⟨rfl, rfl, rfl, rfl, rfl, fun j hj => (State.standstill_ax_of_ne _ _ hj).trans (State.takeOff_updAx_ax_of_ne _ _ _ _ hj)⟩

/-! ### AX_STATUS (R296) -/

theorem axStatus_answers {m : MbCmd} {s : State} {a : Fin 8} (hg : Granted 0x0807 0 m s) (ht : m.target = axTarget a) (hl : m.length = 16) :
    CompletesBy (.axStatus m) 0x0807 m s id (s.ax a).state.code 0 (s.axStatus a) := by
  refine congrArg Host.Outcome.next ((axHdr_done (t := s.takeOff 0x0807 m) (d := 0) (p := s.axStatus a) hg ht hl (by decide) (by decide) ?_).trans ?_)
  · show Verdict.done _ 0 ((s.takeOff 0x0807 m).axStatus a) = _
    rw [State.axStatus, State.takeOff_ax, State.takeOff_linear]
    rfl
  · rw [State.takeOff_ax]
    rfl

end Sys2Proof.Machine

namespace Sys2Proof

open Sys2Proof.Machine Sys2Proof.Safety

/-- Settles O44: each clause is the lemma of its command above. -/
theorem axisCommandsComplete : Obligations.AxisCommandsComplete := by
  unfold Obligations.AxisCommandsComplete
  exact ⟨fun _ _ _ hg ht hl hs hr => ⟨axConfig_stores hg ht hl hr hs, axConfig_enables hg ht hl hr hs,
      fun _ _ he hc => axConfig_names_check hg ht hl hr hs he hc⟩,
    fun _ _ _ hg ht hl hs he hr => axConfig_disables hg ht hl hr hs he,
    fun _ _ _ hg ht hl hs hr => ⟨axTableLoad_keeps_chunk hg ht hl hs hr, axTableLoad_takes_table hg ht hl hs hr,
      fun _ hc hv => axTableLoad_refuses_table hg ht hl hs hr hc hv⟩,
    fun _ _ _ _ hg ht hl hs hn hr hk hv htgt ho hm he => axMove_begins hg ht hl hs hn hr hk hv htgt ho hm he,
    fun _ _ _ hg ht hl h => axMoveLinear_begins hg ht hl h,
    fun _ _ _ hg ht hl hs hr hk hfast hslow hle hback htravel henc he =>
      axHome_begins hg ht hl hs hr hk hfast hslow hle hback htravel henc he,
    fun _ _ _ hg ht hl hd hf hr => axStop_begins hg ht hl hd hf hr,
    fun _ _ _ hg ht hl hs hr hm he => axStandstill_stands hg ht hl hs hr hm he,
    fun _ _ _ hg ht hl => axStatus_answers hg ht hl⟩

end Sys2Proof
end

section
/-! PROOF. What happens to an axis between its moves: homing and moves that end, the level ramp, IDLE_TIMEOUT (R281, R285, R286, R291 to R294,
R316). -/

namespace Sys2Proof.Machine

open Sys2Proof.Safety

/-! ### The end of a homing sequence (R291, R292, R316) -/

/-- The origin reads HOME_OFFSET: position, target and encoder shift, the electrical phase stays (R291). -/
def Axis.rezeroed (now : Nat) (shift : Int) (x : Axis) : Axis :=
  { x.enterIdle now with
    homing := none
    pos := wrap32 (x.pos + shift)
    target := wrap32 (x.target + shift)
    phaseOff := x.phaseOff + (wrap32 (x.pos + shift) - x.pos)
    homed := true
    posUncertain := false
    encCount := 0
    encAlign := wrap32 (x.pos + shift) }

theorem Axis.rezeroed_phase (now : Nat) (shift : Int) (x : Axis) : (x.rezeroed now shift).phase = x.phase := by
  have count : (x.rezeroed now shift).pos - (x.rezeroed now shift).phaseOff = x.pos - x.phaseOff := by
    show wrap32 (x.pos + shift) - (x.phaseOff + (wrap32 (x.pos + shift) - x.pos)) = _
    omega
  rw [Axis.phase, count]
  rfl

/-- The Margin takes a reference over in its own books. -/
theorem State.reference_eq (a : Fin 8) (shift : Int) (s : State) : ∃ g, s.reference a shift = { s with margin := g } := by
  unfold State.reference
  split <;> exact ⟨_, rfl⟩

theorem State.reference_referenced {a : Fin 8} (shift : Int) {s : State} (h : s.slpDemanded a = false) :
    (s.reference a shift).margin.referenced.getLsbD a.val = true := by
  rw [State.reference, if_neg (by rw [h]; exact Bool.false_ne_true)]
  show (s.margin.referenced ||| BitVec.ofNat 8 (2 ^ a.val)).getLsbD a.val = true
  rw [BitVec.getLsbD_or, BitVec.getLsbD_ofNat, Nat.testBit_two_pow_self, decide_eq_true a.isLt]
  exact Bool.or_true _

section
variable {s : State} {a : Fin 8}

theorem axHomeDone_finishes {h : Homing} (hh : (s.ax a).homing = some h) (hp : h.phase = .finished) :
    Completes (.axHomeDone a) s fun t =>
      (t.ax a).state = .idle ∧ (t.ax a).homing = none ∧ (t.ax a).homed = true ∧ (t.ax a).posUncertain = false ∧
      (t.ax a).pos = wrap32 ((s.ax a).pos + wrap32 (hmOffset h.cmd - h.origin.getD (s.ax a).pos)) ∧
      (t.ax a).phase = (s.ax a).phase ∧ (∀ j, j ≠ a → t.ax j = s.ax j) ∧
      (s.slpDemanded a = false → t.margin.referenced.getLsbD a.val = true) ∧
      t.blot.raised = s.blot.raised ++ [s.event 0x0A02 INFO a.val
        (hmMethod h.cmd + 2 ^ 32 * p32 (wrap32 (hmOffset h.cmd - h.origin.getD (s.ax a).pos)))] := by
  let shift := wrap32 (hmOffset h.cmd - h.origin.getD (s.ax a).pos)
  let u := s.updAx a (Axis.rezeroed s.now shift)
  obtain ⟨g, referenced⟩ := u.reference_eq a shift
  refine ⟨(u.reference a shift).raise 0x0A02 INFO a.val (hmMethod h.cmd + 2 ^ 32 * p32 shift), ?_, ?_⟩
  · show execAxHomeDone a s = _
    unfold execAxHomeDone
    dsimp only
    rw [hh]
    dsimp only
    rw [hp]
    rfl
  · have known : s.slpDemanded a = false → (u.reference a shift).margin.referenced.getLsbD a.val = true :=
      State.reference_referenced shift (s := u)
    have own : (u.reference a shift).ax a = (s.ax a).rezeroed s.now shift := by rw [referenced]; exact State.updAx_ax ..
    beta_reduce
    rw [State.raise_raised, State.raise_ax, own]
    refine ⟨rfl, rfl, rfl, rfl, rfl, Axis.rezeroed_phase .., fun j hj => ?_, known, by rw [referenced]; rfl⟩
    rw [State.raise_ax, referenced]
    exact State.updAx_ax_of_ne _ _ hj.symm

theorem axHomeDone_fails {h : Homing} {r : Nat} (hh : (s.ax a).homing = some h) (hp : h.phase = .failed r) :
    exec (.axHomeDone a) s = .next ((s.updAx a fun x => { x.enterIdle s.now with homing := none }).raise 0x0A04 NOTICE a.val r) := by
  show execAxHomeDone a s = _
  unfold execAxHomeDone
  dsimp only
  rw [hh]
  dsimp only
  rw [hp]

theorem axHomeDone_rests (hh : (s.ax a).homing = none) : exec (.axHomeDone a) s = .next s := by
  show execAxHomeDone a s = _
  unfold execAxHomeDone
  dsimp only
  rw [hh]

/-! ### The end of a move (R285) -/

/-- The axis is at its target at rest. -/
def Axis.arrived (now : Nat) (x : Axis) : Axis := { x.enterIdle now with vSq := 0 }

theorem axMoveDone_arrives (hs : (s.ax a).state = .moving) (hl : s.linear.find? (Linear.has a) = none)
    (hp : (s.ax a).pos = (s.ax a).target) (hw : (s.ax a).waitRamp = false) :
    Completes (.axMoveDone a) s fun t =>
      (t.ax a).state = .idle ∧ (t.ax a).vSq = 0 ∧ (t.ax a).pos = (s.ax a).pos ∧ (∀ j, j ≠ a → t.ax j = s.ax j) ∧
      t.blot.raised = s.blot.raised ++ [s.event 0x0A01 INFO a.val (p32 (s.ax a).pos)] := by
  refine ⟨((s.updAx a (Axis.arrived s.now)).leaveLinear a).raise 0x0A01 INFO a.val (p32 (s.ax a).pos), ?_, ?_⟩
  · show execAxMoveDone a s = _
    unfold execAxMoveDone
    dsimp only
    rw [hl]
    exact if_pos (by simp [hs, hp, hw])
  · have own : ((s.updAx a (Axis.arrived s.now)).leaveLinear a).ax a = (s.ax a).arrived s.now := State.updAx_ax ..
    beta_reduce
    rw [State.raise_ax, own]
    exact ⟨rfl, rfl, rfl, fun j hj => State.updAx_ax_of_ne _ _ hj.symm, rfl⟩

theorem axMoveDone_rests (hs : (s.ax a).state ≠ .moving) : exec (.axMoveDone a) s = .next s := by
  show execAxMoveDone a s = _
  unfold execAxMoveDone
  exact if_neg (by simp [hs])

/-! ### The end of the level ramp (R281, R286, R291) -/

theorem coilRampDone_waits (h : s.now < (s.ax a).rampAt + msCycles) : exec (.coilRampDone a) s = .next s :=
  congrArg Host.Outcome.next (if_pos h)

/-- The coils have their level: a waiting profile starts, the stall seek among them. -/
def Axis.levelled (x : Axis) : Axis :=
  { (if x.vSq = 0 then x.clearStall else x) with
    level := x.levelTo
    waitRamp := false
    homing := x.homing.map fun h => if h.phase = .ramp then h.go .stall else h }

theorem coilRampDone_starts (h : (s.ax a).rampAt + msCycles ≤ s.now) : Completes (.coilRampDone a) s fun t =>
    (t.ax a).level = (s.ax a).levelTo ∧ (t.ax a).waitRamp = false ∧ (t.ax a).state = (s.ax a).state ∧ (t.ax a).pos = (s.ax a).pos ∧
    (∀ h, (s.ax a).homing = some h → h.phase = .ramp → ∃ k, (t.ax a).homing = some k ∧ k.phase = .stall ∧ k.travel = 0) ∧
    (∀ j, j ≠ a → t.ax j = s.ax j) ∧ { t with axis := s.axis } = s := by
  refine ⟨s.updAx a Axis.levelled, congrArg Host.Outcome.next (if_neg (Nat.not_lt.mpr h)), ?_⟩
  beta_reduce
  rw [State.updAx_ax]
  have moves : (s.ax a).levelled.state = (s.ax a).state ∧ (s.ax a).levelled.pos = (s.ax a).pos := by
    unfold Axis.levelled
    split <;> exact ⟨rfl, rfl⟩
  refine ⟨rfl, rfl, moves.1, moves.2, fun k hk hp => ⟨k.go .stall, ?_, rfl, rfl⟩, fun j hj => State.updAx_ax_of_ne _ _ hj.symm, rfl⟩
  show (s.ax a).homing.map (fun h => if h.phase = .ramp then h.go .stall else h) = _
  rw [hk, Option.map_some, if_pos hp]

/-! ### IDLE_TIMEOUT (R293) -/

theorem axIdleTimeout_stands (hs : (s.ax a).state = .idle) (hi : acIdle (s.ax a).cfg ≠ 0)
    (hd : (s.ax a).idleAt + acIdle (s.ax a).cfg * msCycles ≤ s.now) :
    Completes (.axIdleTimeout a) s fun t => (t.ax a).state = .standstill ∧ (t.ax a).ssMode = acSsMode (s.ax a).cfg ∧
      (t.ax a).pos = (s.ax a).pos ∧ (∀ j, j ≠ a → t.ax j = s.ax j) := by
  refine ⟨s.standstill a (acSsMode (s.ax a).cfg), if_pos (by simp [hs, hi, hd]), ?_⟩
  obtain ⟨l, r, stood⟩ := s.standstill_ax a (acSsMode (s.ax a).cfg)
  rw [stood]
  exact ⟨rfl, rfl, rfl, fun j hj => State.standstill_ax_of_ne _ _ hj⟩

theorem axIdleTimeout_rests (h : (s.ax a).state ≠ .idle ∨ acIdle (s.ax a).cfg = 0 ∨
    s.now < (s.ax a).idleAt + acIdle (s.ax a).cfg * msCycles) : exec (.axIdleTimeout a) s = .next s := by
  refine if_neg ?_
  rcases h with h | h | h
  · simp [h]
  · simp [h]
  · simp [Nat.not_le.mpr h]

end

end Sys2Proof.Machine
end

section
/-! PROOF. STEP_GENERATOR_UPDATE: the pace of a microstep, and the stop that has come to rest (R284, R287, R295, R362). -/

namespace Sys2Proof.Machine

open Sys2Proof.Safety

/-! ### Answers to AX_STOP (R287, R362) -/

theorem State.answerStops_of_none {a : Fin 8} {s : State} (h : (s.ax a).stops = []) : s.answerStops a = s := by
  unfold State.answerStops
  split
  · rfl
  · rw [h]
    exact State.updAx_of_fixed (by rw [← h])

theorem State.answerAllStops_of_none {s : State} (h : ∀ j, (s.ax j).stops = []) : forAll State.answerStops allAxes s = s :=
  forAll_of_fixed fun j _ => State.answerStops_of_none (h j)

/-- A loop whose other passes leave the state comes to the one that does not. -/
theorem forAll_of_one {α : Type} {f : α → State → State} {a : α} {s : State} (before : ∀ b, b ≠ a → f b s = s)
    (after : ∀ b, b ≠ a → f b (f a s) = f a s) {l : List α} (hl : l.Nodup) (ha : a ∈ l) : forAll f l s = f a s := by
  induction l with
  | nil => exact absurd ha List.not_mem_nil
  | cons b l ih =>
    obtain ⟨new, rest⟩ := List.nodup_cons.mp hl
    by_cases h : b = a
    · subst h
      exact forAll_of_fixed fun c hc => after c fun e => new (e ▸ hc)
    · rw [forAll, before b h]
      exact ih rest ((List.mem_cons.mp ha).resolve_left (Ne.symm h))

/-- The one AX_STOP that waits is answered with the axis's state (R362). -/
theorem State.answerAllStops_of_one {a : Fin 8} {m : MbCmd} {s : State} (hs : (s.ax a).state ≠ .stopping) (hm : (s.ax a).stops = [m])
    (hr : m.rsvd = 0) (hn : ∀ j, j ≠ a → (s.ax j).stops = []) (hw : (s.mbox m.mb).working ≠ 0) (hd : (s.mbox m.mb).discard = 0) :
    forAll State.answerStops allAxes s = (s.updAx a fun x => { x with stops := [] }).updMb m.mb fun b => { b with
      working := b.working - 1
      done := b.done ++ [okAnswer m (s.ax a).state.code 0 []] } := by
  have own : s.answerStops a = (s.updAx a fun x => { x with stops := [] }).updMb m.mb fun b => { b with
      working := b.working - 1
      done := b.done ++ [okAnswer m (s.ax a).state.code 0 []] } := by
    unfold State.answerStops
    rw [if_neg hs, hm]
    dsimp only [forAll]
    rw [State.respondLate, if_neg (not_not.mpr hr)]
    exact State.respondHeld_of_open _ hw hd
  rw [← own]
  refine forAll_of_one (fun j hj => State.answerStops_of_none (hn j hj)) (fun j hj => State.answerStops_of_none ?_) (List.nodup_finRange 8)
    (List.mem_finRange a)
  rw [own, State.updMb_ax, State.updAx_ax_of_ne _ _ hj.symm, hn j hj]

/-! ### The pace of a microstep (R284, R295) -/

/-- The search for the largest number ends at its start or at a number that satisfies the condition. -/
theorem greatest_spec (p : Nat → Bool) (n k : Nat) : greatest p n k = k ∨ p (greatest p n k) = true := by
  induction n generalizing k with
  | zero => exact .inl rfl
  | succ n ih =>
    unfold greatest
    split
    next h =>
      rcases ih (k + 2 ^ n) with e | e
      · exact .inr (by rw [e]; exact h)
      · exact .inr e
    next => exact ih k

theorem paceNext_mono (v : Nat) (a : Int) {b c : Int} (h : b ≤ c) : paceNext v a b ≤ paceNext v a c := by
  unfold paceNext
  omega

theorem clampInt_le {lo hi : Int} (x : Int) (h : lo ≤ hi) : clampInt lo hi x ≤ hi := by
  unfold clampInt
  split
  · exact h
  · split <;> omega

theorem paceHeld_le {acc dec jerk vmax v : Nat} {rest : Option Nat} {a b : Int} (h : paceHeld acc dec jerk vmax v rest a b = true) :
    paceNext v a b ≤ vmax * vmax := by
  simp only [paceHeld, Bool.and_eq_true, decide_eq_true_eq] at h
  obtain ⟨⟨⟨-, held⟩, -⟩, -⟩ := h
  exact held

/-- From rest, no microstep is faster than the limit. -/
theorem speedUp_le (jerky : Bool) (acc dec jerk vmax : Nat) (accel : Int) (rest : Option Nat) (free : Nat) :
    (speedUp jerky acc dec jerk vmax (0, accel) rest free).1 ≤ vmax * vmax := by
  cases jerky
  case false =>
    have cap : min (0 + 512 * acc) (vmax * vmax) ≤ vmax * vmax := Nat.min_le_right _ _
    cases rest with
    | none => simp only [speedUp, Bool.false_eq_true, if_false]; omega
    | some d => simp only [speedUp, Bool.false_eq_true, if_false]; omega
  case true =>
    by_cases arrives : rest = some 0
    · simp only [speedUp, if_true, arrives]; omega
    · simp only [speedUp, if_true, if_neg arrives]
      generalize hn : greatest (fun n => paceHeld acc dec jerk vmax 0 rest 0 (0 + (n : Int))) 48 0 = n
      have below : paceNext 0 0 (0 + (n : Int)) ≤ vmax * vmax := by
        rcases greatest_spec (fun n => paceHeld acc dec jerk vmax 0 rest 0 (0 + (n : Int))) 48 0 with e | e
        · rw [hn] at e
          rw [e]
          simp [paceNext]
        · rw [hn] at e
          exact paceHeld_le e
      have slower := paceNext_mono 0 0 (clampInt_le (Config.jerkAccel free) (show (0 : Int) ≤ 0 + (n : Int) by omega))
      split
      · exact Nat.min_le_right _ _
      · exact slower.trans below

/-! ### STEP_GENERATOR_UPDATE (R284, R287, R295) -/

theorem State.encCheck_of_noEncoder {a : Fin 8} {s : State} (h : acEnc (s.ax a).cfg = false) : s.encCheck a = s := by
  rw [State.encCheck, Axis.encBad, h, Bool.false_and, Bool.and_false]
  rfl

/-- A microstep moves the axis by it and sets its pace; of the rest, the metric of a full step, the encoder's alignment and the direction
follow. -/
theorem Axis.step_eq (d : Int) (v : Pace) (x : Axis) : ∃ ca cb st e r, x.step d v = { x with
    coilA := ca
    coilB := cb
    stall := st
    encAlign := e
    dir := r
    pos := wrap32 (x.pos + d)
    vSq := v.1
    accel := v.2 } := by
  unfold Axis.step
  dsimp only
  split <;> exact ⟨_, _, _, _, _, rfl⟩

/-- The clamp by a hard limit is noted, and reported once per command. -/
theorem State.hardClamp_ax (a : Fin 8) (what : Nat) (s : State) : ∃ c, (s.hardClamp a what).ax a = { s.ax a with clampSeen := c } := by
  unfold State.hardClamp
  split
  · exact ⟨_, rfl⟩
  · exact ⟨true, by rw [State.raise_ax, State.updAx_ax]⟩

theorem State.hardClamp_ax_of_ne {a j : Fin 8} (what : Nat) (s : State) (h : j ≠ a) : (s.hardClamp a what).ax j = s.ax j := by
  unfold State.hardClamp
  split
  · rfl
  · rw [State.raise_ax, State.updAx_ax_of_ne _ _ h.symm]

theorem State.hardClamp_margin (a : Fin 8) (what : Nat) (s : State) : (s.hardClamp a what).margin = s.margin := by
  unfold State.hardClamp
  split <;> rfl

/-- The speed limit of a microstep on an axis's own: that asked for, within V_HARD. -/
def Axis.topSpeed (v : Nat) (x : Axis) : Nat := min v x.vHard

/-- The pace of a microstep on an axis's own. -/
def State.paceUp (a : Fin 8) (v : Nat) (rest : Option Nat) (s : State) : Pace :=
  speedUp (acJerky (s.ax a).cfg) (acAcc (s.ax a).cfg) (acDec (s.ax a).cfg) (acJerk (s.ax a).cfg) ((s.ax a).topSpeed v)
    ((s.ax a).vSq, (s.ax a).accel) rest s.rst.free

/-- A microstep that the axis and both Margin taps count. -/
def State.stepped (a : Fin 8) (d : Int) (v : Nat) (rest : Option Nat) (s : State) : State :=
  (s.tickFree.updAx a (Axis.step d (s.paceUp a v rest))).bothChannels (MChan.count a d)

theorem State.stepped_ax (a : Fin 8) (d : Int) (v : Nat) (rest : Option Nat) (s : State) :
    (s.stepped a d v rest).ax a = (s.ax a).step d (s.paceUp a v rest) := State.updAx_ax ..

theorem State.stepped_ax_of_ne {a j : Fin 8} (d : Int) (v : Nat) (rest : Option Nat) (s : State) (h : j ≠ a) :
    (s.stepped a d v rest).ax j = s.ax j := State.updAx_ax_of_ne _ s.tickFree h.symm

section
variable {a : Fin 8} (d : Int) {v : Nat} (rest : Option Nat) {s : State} (he : acEnc (s.ax a).cfg = false) (ht : (s.ax a).topSpeed v ≠ 0)
include he ht

/-- An axis without an encoder that may move makes its microstep; a clamp may be noted. -/
theorem State.stepUp_cases : s.stepUp a d v rest = s.stepped a d v rest ∨ s.stepUp a d v rest = (s.stepped a d v rest).hardClamp a 0 := by
  have cfg : ((s.stepped a d v rest).ax a).cfg = (s.ax a).cfg := by
    obtain ⟨_, _, _, _, _, moved⟩ := (s.ax a).step_eq d (s.paceUp a v rest)
    rw [State.stepped_ax, moved]
  have noEncoder : acEnc ((s.stepped a d v rest).ax a).cfg = false := by rw [cfg, he]
  have counted : s.tickFree.stepAxis a d (s.paceUp a v rest) = s.stepped a d v rest := State.encCheck_of_noEncoder noEncoder
  have moves : ¬ ((decide ((s.ax a).topSpeed v = 0) && (s.ax a).vSq == 0) = true) := by simp [ht]
  have made : (if (decide ((s.ax a).topSpeed v = 0) && (s.ax a).vSq == 0) = true then s else s.tickFree.stepAxis a d (s.paceUp a v rest)) =
      s.stepped a d v rest := (if_neg moves).trans counted
  rw [← made]
  by_cases clamps : ((s.ax a).vHard < v && (s.ax a).vHard * (s.ax a).vHard < (s.ax a).vSq + 512 * acAcc (s.ax a).cfg) = true
  · exact .inr (if_pos clamps)
  · exact .inl (if_neg clamps)

theorem State.stepUp_ax : ∃ c, (s.stepUp a d v rest).ax a = { (s.ax a).step d (s.paceUp a v rest) with clampSeen := c } := by
  rcases State.stepUp_cases d rest he ht with e | e
  · exact ⟨_, by rw [e, State.stepped_ax]⟩
  · obtain ⟨c, clamped⟩ := (s.stepped a d v rest).hardClamp_ax a 0
    exact ⟨c, by rw [e, clamped, State.stepped_ax]⟩

theorem State.stepUp_ax_of_ne {j : Fin 8} (h : j ≠ a) : (s.stepUp a d v rest).ax j = s.ax j := by
  rcases State.stepUp_cases d rest he ht with e | e
  · rw [e, State.stepped_ax_of_ne _ _ _ _ h]
  · rw [e, State.hardClamp_ax_of_ne _ _ h, State.stepped_ax_of_ne _ _ _ _ h]

/-- Both Margin taps count the microstep (R295). -/
theorem State.stepUp_taps : vget (s.stepUp a d v rest).margin.a.tap a = wrap32 (vget s.margin.a.tap a + d) ∧
    vget (s.stepUp a d v rest).margin.b.tap a = wrap32 (vget s.margin.b.tap a + d) := by
  have margin : (s.stepUp a d v rest).margin = (s.stepped a d v rest).margin := by
    rcases State.stepUp_cases d rest he ht with e | e
    · rw [e]
    · rw [e, State.hardClamp_margin]
  rw [margin]
  exact ⟨vget_vset_self .., vget_vset_self ..⟩

end

section
variable {s : State} {a : Fin 8} (hl : s.linear.find? (Linear.has a) = none)
include hl

/-- An axis without a linear move, whose profile does not wait, moves toward its target. -/
theorem State.stepGenerator_of_moving (hw : (s.ax a).waitRamp = false) (hs : (s.ax a).state = .moving) (hv : (s.ax a).vSq = 0)
    (ht : (s.ax a).target ≠ (s.ax a).pos) : s.stepGenerator a = s.stepUp a (signOf ((s.ax a).target - (s.ax a).pos))
      (min (s.ax a).vMove (acVmax (s.ax a).cfg)) (some (((s.ax a).target - (s.ax a).pos).natAbs - 1)) := by
  unfold State.stepGenerator
  dsimp only
  rw [hl, hw, hs]
  dsimp only
  rw [if_neg Bool.false_ne_true, if_neg ht, if_pos hv]

theorem State.stepGenerator_of_stopped (hw : (s.ax a).waitRamp = false) (hs : (s.ax a).state = .stopping) (hv : (s.ax a).vSq = 0) :
    s.stepGenerator a = s.updAx a (Axis.rested s.now) := by
  unfold State.stepGenerator
  dsimp only
  rw [hl, hw, hs]
  dsimp only
  rw [if_neg Bool.false_ne_true, if_pos hv]

theorem State.stepGenerator_of_waiting (h : (s.ax a).state = .idle ∨ (s.ax a).state = .disabled ∨ (s.ax a).state = .standstill ∨
    (s.ax a).state = .fault ∨ (s.ax a).waitRamp = true) : s.stepGenerator a = s := by
  unfold State.stepGenerator
  dsimp only
  rw [hl]
  dsimp only
  by_cases hw : (s.ax a).waitRamp = true
  · exact if_pos hw
  · rw [if_neg hw]
    rcases h with h | h | h | h | h
    · rw [h]
    · rw [h]
    · rw [h]
    · rw [h]
    · exact absurd h hw

theorem stepGeneratorUpdate_steps (hs : (s.ax a).state = .moving) (hw : (s.ax a).waitRamp = false) (hv : (s.ax a).vSq = 0)
    (ht : (s.ax a).target ≠ (s.ax a).pos) (he : acEnc (s.ax a).cfg = false) (hh : 1 ≤ (s.ax a).vHard) (hm : 1 ≤ (s.ax a).vMove)
    (hx : 1 ≤ acVmax (s.ax a).cfg) (hn : ∀ j, (s.ax j).stops = []) :
    Completes (.stepGeneratorUpdate a) s fun t =>
      (t.ax a).pos = wrap32 ((s.ax a).pos + signOf ((s.ax a).target - (s.ax a).pos)) ∧ (t.ax a).state = .moving ∧
      vget t.margin.a.tap a = wrap32 (vget s.margin.a.tap a + signOf ((s.ax a).target - (s.ax a).pos)) ∧
      vget t.margin.b.tap a = wrap32 (vget s.margin.b.tap a + signOf ((s.ax a).target - (s.ax a).pos)) ∧
      (t.ax a).vSq ≤ (acVmax (s.ax a).cfg) * (acVmax (s.ax a).cfg) ∧ (t.ax a).vSq ≤ (s.ax a).vHard * (s.ax a).vHard ∧
      (∀ j, j ≠ a → t.ax j = s.ax j) := by
  let d := signOf ((s.ax a).target - (s.ax a).pos)
  let v := min (s.ax a).vMove (acVmax (s.ax a).cfg)
  let rest := some (((s.ax a).target - (s.ax a).pos).natAbs - 1)
  have top : (s.ax a).topSpeed v ≠ 0 := by unfold Axis.topSpeed; omega
  let u := s.stepUp a d v rest
  obtain ⟨c, own⟩ : ∃ c, u.ax a = { (s.ax a).step d (s.paceUp a v rest) with clampSeen := c } := State.stepUp_ax d rest he top
  obtain ⟨_, _, _, _, _, moved⟩ := (s.ax a).step_eq d (s.paceUp a v rest)
  rw [moved] at own
  have others : ∀ j, j ≠ a → u.ax j = s.ax j := fun j hj => State.stepUp_ax_of_ne d rest he top hj
  obtain ⟨tapA, tapB⟩ := State.stepUp_taps d rest he top
  have answered : forAll State.answerStops allAxes u = u := State.answerAllStops_of_none fun j => by
    rcases eq_or_ne j a with rfl | hj
    · rw [own]
      exact hn j
    · rw [others j hj]
      exact hn j
  have pace : (s.paceUp a v rest).1 ≤ (s.ax a).topSpeed v * (s.ax a).topSpeed v := by
    rw [State.paceUp, hv]
    exact speedUp_le ..
  refine ⟨u, ?_, ?_⟩
  · show Host.Outcome.next (forAll State.answerStops allAxes (s.stepGenerator a)) = _
    rw [State.stepGenerator_of_moving hl hw hs hv ht]
    exact congrArg _ answered
  · beta_reduce
    rw [own]
    refine ⟨rfl, hs, tapA, tapB, pace.trans (Nat.mul_self_le_mul_self ?_), pace.trans (Nat.mul_self_le_mul_self ?_), others⟩
    · unfold Axis.topSpeed; omega
    · unfold Axis.topSpeed; omega

theorem stepGeneratorUpdate_answers {m : MbCmd} (hs : (s.ax a).state = .stopping) (hw : (s.ax a).waitRamp = false)
    (hv : (s.ax a).vSq = 0) (hm : (s.ax a).stops = [m]) (hr : m.rsvd = 0) (hn : ∀ j, j ≠ a → (s.ax j).stops = [])
    (hk : (s.mbox m.mb).working = 1) (hd : (s.mbox m.mb).discard = 0) :
    Completes (.stepGeneratorUpdate a) s fun t =>
      (t.ax a).state = .idle ∧ (t.ax a).target = (s.ax a).pos ∧ (t.ax a).pos = (s.ax a).pos ∧ (t.ax a).stops = [] ∧
      (t.mbox m.mb).working = 0 ∧ (t.mbox m.mb).done = (s.mbox m.mb).done ++ [okAnswer m 1 0 []] := by
  let u := s.updAx a (Axis.rested s.now)
  have own : u.ax a = { (s.ax a).enterIdle s.now with
      target := (s.ax a).pos
      quick := false } := (State.updAx_ax ..).trans (if_pos (by simp [hs, hv]))
  have answered := State.answerAllStops_of_one (a := a) (m := m) (s := u) (by rw [own]; exact AxState.noConfusion) (by rw [own]; exact hm) hr
    (fun j hj => by rw [State.updAx_ax_of_ne _ _ hj.symm, hn j hj]) (by rw [State.updAx_mbox, hk]; exact Nat.one_ne_zero)
    (by rw [State.updAx_mbox, hd])
  refine ⟨_, congrArg Host.Outcome.next ((congrArg _ (State.stepGenerator_of_stopped hl hw hs hv)).trans answered), ?_⟩
  beta_reduce
  rw [State.updMb_ax, State.updAx_ax, State.updMb_mbox, State.updAx_mbox, State.updAx_mbox, own, hk]
  exact ⟨rfl, rfl, rfl, rfl, rfl, rfl⟩

theorem stepGeneratorUpdate_rests (hn : ∀ j, (s.ax j).stops = []) (h : (s.ax a).state = .idle ∨ (s.ax a).state = .disabled ∨
    (s.ax a).state = .standstill ∨ (s.ax a).state = .fault ∨ (s.ax a).waitRamp = true) :
    exec (.stepGeneratorUpdate a) s = .next s :=
  congrArg Host.Outcome.next ((congrArg _ (State.stepGenerator_of_waiting hl h)).trans (State.answerAllStops_of_none hn))

end

end Sys2Proof.Machine
end

section
/-! PROOF. COIL_EVALUATION, and the switches of an axis (R275, R276, R289, R290, R292, R294, R295, R297). -/

namespace Sys2Proof.Machine

open Sys2Proof.Safety

/-! ### COIL_EVALUATION (R275, R276, R294, R295) -/

/-- Axes whose coil loops run are neither disabled nor in FAULT (R280). -/
theorem Axis.enabled_of_looping {x : Axis} (h : x.looping = true) : x.state ≠ .disabled ∧ x.state ≠ .fault := by
  obtain ⟨-, runs⟩ := Bool.and_eq_true_iff.mp h
  constructor <;> intro e <;> rw [e] at runs <;> cases runs

/-- The loop of one coil of axis `x` takes a sample at a reference, and its overcurrent is judged. -/
def Axis.evalCoil (x : Axis) (claim : BitVec 4) (iHard : Nat) (ref i : Int) (k : Coil) : Coil :=
  (coilEvaluate x.cfg claim (clampInt (-(x.iHard : Int)) x.iHard ref) i k).judge iHard

/-- The word of a coil names the claim of the writing Nib and the period (R276). -/
theorem Axis.evalCoil_word (x : Axis) (claim : BitVec 4) (iHard : Nat) (ref i : Int) (k : Coil) :
    (x.evalCoil claim iHard ref i k).heldWord.toNat / 2 ^ 60 = claim.toNat ∧
    (x.evalCoil claim iHard ref i k).heldWord.toNat % 2 ^ 20 = acPeriod x.cfg % 2 ^ 20 := by
  have word : ∃ on : Nat, on < 2 ^ 20 ∧ (x.evalCoil claim iHard ref i k).heldWord =
      BitVec.ofNat 64 (claim.toNat * 2 ^ 60 + on * 2 ^ 20 + acPeriod x.cfg) := by
    refine ⟨_, ?_, rfl⟩
    omega
  obtain ⟨on, small, word⟩ := word
  have period : acPeriod x.cfg < 2 ^ 16 := Nat.mod_lt _ (by decide)
  have nibble : claim.toNat < 16 := claim.isLt
  rw [word, BitVec.toNat_ofNat]
  omega

/-- Both coils of an axis, `x` before, are evaluated; an update that was due is met. -/
def Axis.evaluated (x : Axis) (claim : BitVec 4) (refs samples : Int × Int) (y : Axis) : Axis :=
  { y with
    coilA := x.evalCoil claim y.iHard refs.1 samples.1 y.coilA
    coilB := x.evalCoil claim y.iHard refs.2 samples.2 y.coilB
    wordNew := y.wordNew || y.overdue == 0
    overdue := y.overdue - 1 }

/-- An overcurrent that has lasted faults its axis; the coils and the position stay. -/
def State.judgeOvercurrent (a : Fin 8) (s : State) : State :=
  if 4 ≤ (s.ax a).coilA.overCnt || 4 ≤ (s.ax a).coilB.overCnt then s.axisFault a 1 else s

theorem State.judgeOvercurrent_ax {a : Fin 8} {s : State} (hd : (s.ax a).state ≠ .disabled) (hf : (s.ax a).state ≠ .fault) :
    ((s.judgeOvercurrent a).ax a).coilA = (s.ax a).coilA ∧ ((s.judgeOvercurrent a).ax a).coilB = (s.ax a).coilB ∧
    ((s.judgeOvercurrent a).ax a).pos = (s.ax a).pos ∧
    (((s.judgeOvercurrent a).ax a).state = (s.ax a).state ∨
      ((s.judgeOvercurrent a).ax a).state = .fault ∧ ((s.judgeOvercurrent a).ax a).faultCause = 1) := by
  unfold State.judgeOvercurrent
  split
  · have faulted := State.axisFault_ax 1 hd hf
    exact ⟨faulted.field Axis.coilA, faulted.field Axis.coilB, faulted.field Axis.pos,
      .inr ⟨faulted.field Axis.state, faulted.field Axis.faultCause⟩⟩
  · exact ⟨rfl, rfl, rfl, .inl rfl⟩

section
variable {s : State} {a : Fin 8} {codes : List (Int × Int)} {k : Fin 20} (hk : s.servingNib 16 = some k)
  (hl : (s.ax a).looping = true) (hs : acShunt (s.ax a).cfg ≠ 0) (hc : codes.length = acK (s.ax a).cfg)

/-- The samples of both coils. -/
def Axis.coilSamples (codes : List (Int × Int)) (x : Axis) : Int × Int :=
  (coilSample x.cfg (codes.map fun p => p.1), coilSample x.cfg (codes.map fun p => p.2))

/-- The axis with its coils evaluated; a clamp by I_HARD is noted. -/
def State.evalCoils (a : Fin 8) (codes : List (Int × Int)) (s : State) : State :=
  let refs := (s.ax a).coilRefs ((s.ax a).levelAt s.now)
  let u := s.updAx a ((s.ax a).evaluated s.nibs.writeClaim refs ((s.ax a).coilSamples codes))
  if (s.ax a).iHard < refs.1.natAbs || (s.ax a).iHard < refs.2.natAbs then u.hardClamp a 1 else u

theorem State.evalCoils_ax (a : Fin 8) (codes : List (Int × Int)) (s : State) : ∃ refs c, (s.evalCoils a codes).ax a =
    { (s.ax a).evaluated s.nibs.writeClaim refs ((s.ax a).coilSamples codes) (s.ax a) with clampSeen := c } := by
  let refs := (s.ax a).coilRefs ((s.ax a).levelAt s.now)
  let u := s.updAx a ((s.ax a).evaluated s.nibs.writeClaim refs ((s.ax a).coilSamples codes))
  have own : u.ax a = (s.ax a).evaluated s.nibs.writeClaim refs ((s.ax a).coilSamples codes) (s.ax a) := State.updAx_ax ..
  unfold State.evalCoils
  dsimp only
  split
  · obtain ⟨c, clamped⟩ := u.hardClamp_ax a 1
    exact ⟨refs, c, by rw [← own]; exact clamped⟩
  · exact ⟨refs, _, own⟩

include hk hl hs hc

theorem exec_coilEvaluation (residueOk : Bool) : exec (.coilEvaluation a codes residueOk) s =
    .next (if residueOk = true then (s.evalCoils a codes).judgeOvercurrent a else s.nibFault k false) := by
  show execCoilEvaluation a codes residueOk s = _
  have runs : (!(s.ax a).looping || decide (acShunt (s.ax a).cfg = 0) || decide (codes.length ≠ acK (s.ax a).cfg)) = false := by
    simp [hl, hs, hc]
  unfold execCoilEvaluation
  dsimp only
  rw [hk]
  dsimp only
  rw [runs]
  cases residueOk <;> rfl

theorem coilEvaluation_evaluates :
    Completes (.coilEvaluation a codes true) s fun t =>
      (t.ax a).coilA.sample = coilSample (s.ax a).cfg (codes.map fun p => p.1) ∧
      (t.ax a).coilB.sample = coilSample (s.ax a).cfg (codes.map fun p => p.2) ∧ (t.ax a).pos = (s.ax a).pos ∧
      (t.ax a).coilA.heldWord.toNat / 2 ^ 60 = s.nibs.writeClaim.toNat ∧ (t.ax a).coilA.heldWord.toNat % 2 ^ 20 = acPeriod (s.ax a).cfg % 2 ^ 20 ∧
      ((t.ax a).state = (s.ax a).state ∨ (t.ax a).state = .fault ∧ (t.ax a).faultCause = 1) := by
  obtain ⟨enabled, sound⟩ := Axis.enabled_of_looping hl
  obtain ⟨refs, c, evaluated⟩ := s.evalCoils_ax a codes
  obtain ⟨coilA, coilB, pos, state⟩ := State.judgeOvercurrent_ax (a := a) (s := s.evalCoils a codes) (by rw [evaluated]; exact enabled)
    (by rw [evaluated]; exact sound)
  rw [evaluated] at coilA coilB pos state
  obtain ⟨claim, period⟩ := (s.ax a).evalCoil_word s.nibs.writeClaim (s.ax a).iHard refs.1 ((s.ax a).coilSamples codes).1 (s.ax a).coilA
  refine ⟨_, exec_coilEvaluation hk hl hs hc true, ?_⟩
  rw [if_pos rfl]
  beta_reduce
  rw [coilA, coilB]
  exact ⟨rfl, rfl, pos, claim, period, state⟩

theorem coilEvaluation_faults : exec (.coilEvaluation a codes false) s = .next (s.nibFault k false) :=
  exec_coilEvaluation hk hl hs hc false

end

/-! ### Switches (R289, R290, R292, R297) -/

/-- What an axis reads of its surroundings: its position and its switches. -/
def Axis.inputs (x : Axis) : Int × SwitchIn × SwitchIn × SwitchIn := (x.pos, x.limp, x.limn, x.home)

theorem Axis.switch_of_inputs {x y : Axis} (h : x.inputs = y.inputs) (sw : Switch) : x.switch sw = y.switch sw ∧ x.pos = y.pos := by
  simp only [Axis.inputs, Prod.mk.injEq] at h
  obtain ⟨pos, limp, limn, home⟩ := h
  cases sw
  · exact ⟨limp, pos⟩
  · exact ⟨limn, pos⟩
  · exact ⟨home, pos⟩

theorem Axis.switch_setSwitch (sw : Switch) (i : SwitchIn) (x : Axis) : (x.setSwitch sw i).switch sw = i := by cases sw <;> rfl

theorem Axis.setSwitch_pos (sw : Switch) (i : SwitchIn) (x : Axis) : (x.setSwitch sw i).pos = x.pos := by cases sw <;> rfl

theorem Axis.rampTo_inputs (now : Nat) (goal : Int) (x : Axis) : (x.rampTo now goal).inputs = x.inputs := by
  obtain ⟨l, r, ramp⟩ := x.rampTo_eq now goal
  rw [ramp]
  rfl

theorem Axis.rested_inputs (now : Nat) (x : Axis) : (x.rested now).inputs = x.inputs := by
  unfold Axis.rested
  split <;> rfl

theorem Axis.stopped_inputs (now : Nat) (quick : Bool) (x : Axis) : (x.stopped now quick).inputs = x.inputs := by
  unfold Axis.stopped
  split
  · exact (Axis.rested_inputs ..).trans (Axis.rampTo_inputs now (acIrun x.cfg) { x with homing := none })
  · rfl

theorem Axis.homeJudge_inputs (now : Nat) (x : Axis) : (x.homeJudge now).inputs = x.inputs := by
  unfold Axis.homeJudge
  split
  · rfl
  · dsimp only
    split
    · exact Axis.rampTo_inputs ..
    · rfl

/-- Every axis reads in `t` what it reads in `s`. -/
def SameInputs (s t : State) : Prop := ∀ j, (t.ax j).inputs = (s.ax j).inputs

theorem SameInputs.refl (s : State) : SameInputs s s := fun _ => rfl

theorem SameInputs.trans (s t u : State) (h : SameInputs s t) (h' : SameInputs t u) : SameInputs s u := fun j => (h' j).trans (h j)

theorem SameInputs.updAx {a : Fin 8} {f : Axis → Axis} (s : State) (h : (f (s.ax a)).inputs = (s.ax a).inputs) : SameInputs s (s.updAx a f) :=
  State.updAx_keeps h

theorem State.stopLinear_sameInputs (a : Fin 8) (quick : Bool) (s : State) : SameInputs s (s.stopLinear a quick) := fun j => by
  obtain ⟨st, stopped⟩ := s.stopLinear_ax a quick j
  rw [stopped]
  rfl

theorem State.settleLinear_sameInputs (s : State) : SameInputs s s.settleLinear :=
  forAll_rel SameInputs.refl SameInputs.trans
    (fun (m : Fin 8 × Int × Int) t => SameInputs.updAx t (Axis.rested_inputs s.now { t.ax m.1 with vSq := 0 })) _ s

theorem State.stopAxis_sameInputs (a : Fin 8) (quick : Bool) (s : State) : SameInputs s (s.stopAxis a quick) := by
  cases h : s.linear.any (Linear.has a)
  · obtain ⟨b, alone, -⟩ := State.stopAxis_alone quick h
    rw [alone]
    exact SameInputs.updAx s (Axis.stopped_inputs ..)
  · rw [State.stopAxis, if_pos h]
    exact (s.stopLinear_sameInputs a quick).trans _ _ _ (State.settleLinear_sameInputs _)

/-- A limit that is hit stops the axis, or its homing sequence goes on; no switch changes. -/
theorem State.limitHit_sameInputs (a : Fin 8) (which : Nat) (s : State) : SameInputs s (s.limitHit a which) := by
  unfold State.limitHit
  dsimp only
  split
  · exact SameInputs.updAx (State.raise _ _ _ _ s) (Axis.homeJudge_inputs s.now (s.ax a))
  · exact State.stopAxis_sameInputs a true (State.raise _ _ _ _ s)

section
variable {s : State} {a : Fin 8}

/-- The level of a switch is taken. -/
def State.takeLevel (a : Fin 8) (sw : Switch) (s : State) : State :=
  s.updAx a (Axis.setSwitch sw { (s.ax a).switch sw with
    level := ((s.ax a).switch sw).raw
    pendingEdge := false })

theorem switchDebounced_takes {sw : Switch} (hp : ((s.ax a).switch sw).pendingEdge = true) (hr : s.ranOut (.switch a sw) = true) :
    ∃ t, exec (.switchDebounced a sw) s = .next t ∧ SameInputs (s.takeLevel a sw) t := by
  have due : (!((s.ax a).switch sw).pendingEdge || !s.ranOut (.switch a sw)) = false := by rw [hp, hr]; rfl
  refine ⟨_, if_neg (by rw [due]; exact Bool.false_ne_true), ?_⟩
  cases sw
  · dsimp only
    split
    · exact State.limitHit_sameInputs _ _ _
    · exact .refl _
  · dsimp only
    split
    · exact State.limitHit_sameInputs _ _ _
    · exact .refl _
  · dsimp only
    split
    · exact SameInputs.updAx _ (Axis.homeJudge_inputs ..)
    · exact .refl _

theorem switchDebounced_level {sw : Switch} (hp : ((s.ax a).switch sw).pendingEdge = true) (hr : s.ranOut (.switch a sw) = true) :
    Completes (.switchDebounced a sw) s fun t =>
      ((t.ax a).switch sw).level = ((s.ax a).switch sw).raw ∧ ((t.ax a).switch sw).pendingEdge = false ∧ (t.ax a).pos = (s.ax a).pos := by
  obtain ⟨t, runs, same⟩ := switchDebounced_takes hp hr
  obtain ⟨level, pos⟩ := Axis.switch_of_inputs (same a) sw
  rw [State.takeLevel, State.updAx_ax] at level pos
  rw [Axis.switch_setSwitch] at level
  rw [Axis.setSwitch_pos] at pos
  refine ⟨t, runs, ?_⟩
  beta_reduce
  rw [level]
  exact ⟨rfl, rfl, pos⟩

theorem switchDebounced_stops (hp : (s.ax a).limp.pendingEdge = true) (hr : s.ranOut (.switch a .limp) = true)
    (hl : (s.ax a).limp.raw = acLimpPol (s.ax a).cfg) (hs : (s.ax a).state = .moving) (hn : s.linear.any (Linear.has a) = false)
    (hv : (s.ax a).vSq ≠ 0) (hd : 0 < (s.ax a).dir) :
    Completes (.switchDebounced a .limp) s fun t =>
      (t.ax a).state = .stopping ∧ (t.ax a).quick = true ∧ s.event 0x0A03 NOTICE a.val (2 ^ 32 * p32 (s.ax a).pos) ∈ t.blot.raised := by
  let u := s.takeLevel a .limp
  have own : u.ax a = (s.ax a).setSwitch .limp { (s.ax a).limp with
      level := (s.ax a).limp.raw
      pendingEdge := false } := State.updAx_ax ..
  have due : (!((s.ax a).switch .limp).pendingEdge || !s.ranOut (.switch a .limp)) = false := by
    rw [hr]
    simpa [Axis.switch] using hp
  have toward : (s.ax a).motionDir = (s.ax a).dir := if_pos hv
  have hits : ((u.ax a).limpAct && decide (0 < (s.ax a).motionDir)) = true := by
    rw [own, toward, decide_eq_true hd, Bool.and_true]
    exact beq_iff_eq.mpr hl
  have moving : (u.ax a).state = .moving := by rw [own]; exact hs
  have stops : u.limitHit a 0 = (u.raise 0x0A03 NOTICE a.val (0 + 2 ^ 32 * p32 (u.ax a).pos)).stopAxis a true :=
    if_neg (by rw [moving]; decide)
  obtain ⟨b, alone, reports⟩ := State.stopAxis_alone (a := a) (s := u.raise 0x0A03 NOTICE a.val (0 + 2 ^ 32 * p32 (u.ax a).pos)) true hn
  have going : (u.ax a).state.going = true := by rw [moving]; rfl
  have moves : (u.ax a).vSq ≠ 0 := by rw [own]; exact hv
  obtain ⟨l, r, stopped⟩ := Axis.stopped_of_motion u.now true going moves
  refine ⟨u.limitHit a 0, ?_, ?_⟩
  · refine (if_neg (by rw [due]; exact Bool.false_ne_true)).trans (congrArg Host.Outcome.next ?_)
    exact if_pos hits
  · rw [stops, alone]
    have slow : (State.updAx a (Axis.stopped u.now true) (u.raise 0x0A03 NOTICE a.val (0 + 2 ^ 32 * p32 (u.ax a).pos))).ax a =
        (u.ax a).stopped u.now true := State.updAx_ax ..
    refine ⟨?_, ?_, reports.subset ?_⟩
    · exact (congrArg Axis.state slow).trans (congrArg Axis.state stopped)
    · exact (congrArg Axis.quick slow).trans (congrArg Axis.quick stopped)
    · have pos : (u.ax a).pos = (s.ax a).pos := by rw [own]; rfl
      rw [State.raise_raised, Nat.zero_add, pos]
      exact List.mem_append_right _ (List.mem_singleton_self _)

theorem switchDebounced_rests {sw : Switch} (h : ((s.ax a).switch sw).pendingEdge = false ∨ s.ranOut (.switch a sw) = false) :
    exec (.switchDebounced a sw) s = .next s := by
  refine if_pos ?_
  rcases h with h | h
  · rw [h]; rfl
  · rw [h]; exact Bool.or_true _

end

end Sys2Proof.Machine
end

section
/-! PROOF. The edges of an axis's switches and encoder (R289, R291, R294, R298, R316), and O45: the clauses of the statement one by one, from
the parts above. -/

namespace Sys2Proof.Machine

open Sys2Proof.Safety

/-! ### Edges of a switch (R289, R298) -/

section
variable {s : State} {a : Fin 8}

/-- An edge away from the debounced level begins a run. -/
theorem switchRawEdge_away {sw : Switch} {l : Bool} (hr : ((s.ax a).switch sw).raw ≠ l) (hl : l ≠ ((s.ax a).switch sw).level) :
    exec (.switchRawEdge a sw l) s = .next ((s.startTimer (.switch a sw) ((s.ax a).debounceOf sw * 25000)).updAx a
      (Axis.setSwitch sw { (s.ax a).switch sw with
        raw := l
        edgePos := (s.ax a).pos
        pendingEdge := true })) :=
  (if_neg hr).trans (if_pos hl)

/-- An edge back to the debounced level ends its run. -/
def Axis.chattered (sw : Switch) (l : Bool) (n : Nat) (i : SwitchIn) (x : Axis) : Axis :=
  { x.setSwitch sw { i with
      raw := l
      pendingEdge := false } with
    chatter := n
    chatterSeen := true }

theorem Axis.chattered_switch (sw : Switch) (l : Bool) (n : Nat) (i : SwitchIn) (x : Axis) : (x.chattered sw l n i).switch sw = { i with
    raw := l
    pendingEdge := false } := by cases sw <;> rfl

theorem switchRawEdge_back {sw : Switch} {l : Bool} (hr : ((s.ax a).switch sw).raw ≠ l) (hl : l = ((s.ax a).switch sw).level) :
    ∃ b, exec (.switchRawEdge a sw l) s =
      .next { s.updAx a (Axis.chattered sw l (satAdd (s.ax a).chatter 1) ((s.ax a).switch sw)) with blot := b } := by
  have back : exec (.switchRawEdge a sw l) s = .next (if (s.ax a).chatterSeen = true
      then s.updAx a (Axis.chattered sw l (satAdd (s.ax a).chatter 1) ((s.ax a).switch sw))
      else (s.updAx a (Axis.chattered sw l (satAdd (s.ax a).chatter 1) ((s.ax a).switch sw))).raise 0x0A08 INFO a.val
        (switchCode sw + 2 ^ 32 * satAdd (s.ax a).chatter 1)) :=
    (if_neg hr).trans (if_neg (not_not.mpr hl))
  rw [back]
  split <;> exact ⟨_, rfl⟩

theorem Axis.setSwitch_chatter (sw : Switch) (i : SwitchIn) (x : Axis) : (x.setSwitch sw i).chatter = x.chatter := by cases sw <;> rfl

theorem switchRawEdge_reads {sw : Switch} {l : Bool} (hr : ((s.ax a).switch sw).raw ≠ l) :
    Completes (.switchRawEdge a sw l) s fun t =>
      ((t.ax a).switch sw).raw = l ∧ ((t.ax a).switch sw).level = ((s.ax a).switch sw).level ∧
      (l ≠ ((s.ax a).switch sw).level → ((t.ax a).switch sw).pendingEdge = true ∧ ((t.ax a).switch sw).edgePos = (s.ax a).pos ∧
        (t.ax a).chatter = (s.ax a).chatter ∧ (Timer.switch a sw, s.now + (s.ax a).debounceOf sw * 25000) ∈ t.timers) ∧
      (l = ((s.ax a).switch sw).level → ((t.ax a).switch sw).pendingEdge = false ∧ (t.ax a).chatter = satAdd (s.ax a).chatter 1) ∧
      (∀ j, j ≠ a → t.ax j = s.ax j) := by
  by_cases hl : l = ((s.ax a).switch sw).level
  · obtain ⟨b, back⟩ := switchRawEdge_back hr hl
    refine ⟨_, back, ?_⟩
    let u := s.updAx a (Axis.chattered sw l (satAdd (s.ax a).chatter 1) ((s.ax a).switch sw))
    have own : u.ax a = (s.ax a).chattered sw l (satAdd (s.ax a).chatter 1) ((s.ax a).switch sw) := State.updAx_ax ..
    show ((u.ax a).switch sw).raw = l ∧ ((u.ax a).switch sw).level = _ ∧ (_ → ((u.ax a).switch sw).pendingEdge = _ ∧ _) ∧
      (_ → ((u.ax a).switch sw).pendingEdge = _ ∧ (u.ax a).chatter = _) ∧ _
    rw [own, Axis.chattered_switch]
    exact ⟨rfl, rfl, fun away => absurd hl away, fun _ => ⟨rfl, rfl⟩, fun j hj => State.updAx_ax_of_ne _ s hj.symm⟩
  · refine ⟨_, switchRawEdge_away hr hl, ?_⟩
    beta_reduce
    rw [State.updAx_ax, State.startTimer_ax, Axis.switch_setSwitch, Axis.setSwitch_chatter, State.updAx_timers]
    refine ⟨rfl, rfl, fun _ => ⟨rfl, rfl, rfl, ?_⟩, fun back => absurd back hl, fun j hj => ?_⟩
    · exact List.mem_append_right _ (List.mem_singleton_self _)
    · rw [State.updAx_ax_of_ne _ _ hj.symm, State.startTimer_ax]

/-! ### Edges of an encoder (R291, R294, R316) -/

/-- An edge of the encoder is counted. -/
def Axis.countEdge (d : Int) (x : Axis) : Axis := { x with encCount := x.encCount + d }

/-- The axis and both Margin channels count an edge of its encoder. -/
def State.countEdge (a : Fin 8) (d : Int) (s : State) : State := (s.updAx a (Axis.countEdge d)).bothChannels (MChan.edge a d)

theorem State.countEdge_ax (a : Fin 8) (d : Int) (s : State) : (s.countEdge a d).ax a = (s.ax a).countEdge d := State.updAx_ax ..

theorem encoderEdge_counts (he : acEnc (s.ax a).cfg = false) :
    Completes (.encoderEdge a .up) s fun t => (t.ax a).encCount = (s.ax a).encCount + 1 ∧ vget t.margin.a.enc a = vget s.margin.a.enc a + 1 ∧
      vget t.margin.b.enc a = vget s.margin.b.enc a + 1 ∧
      { t.ax a with encCount := (s.ax a).encCount } = s.ax a ∧ (∀ j, j ≠ a → t.ax j = s.ax j) := by
  have quiet : (s.countEdge a 1).encCheck a = s.countEdge a 1 := State.encCheck_of_noEncoder (by rw [State.countEdge_ax]; exact he)
  refine ⟨s.countEdge a 1, congrArg Host.Outcome.next quiet, ?_⟩
  beta_reduce
  rw [State.countEdge_ax]
  exact ⟨rfl, vget_vset_self .., vget_vset_self .., rfl, fun j hj => State.updAx_ax_of_ne _ s hj.symm⟩

/-- The index edge that a homing sequence awaits is its origin. -/
def Axis.indexed (x : Axis) : Axis :=
  { x with
    homing := x.homing.map fun h =>
      if h.phase = .toIndex then { h.go (.final (x.limitIn (hmDir h.cmd))) with origin := some x.pos } else h }

theorem encoderEdge_homes {h : Homing} (hh : (s.ax a).homing = some h) (hp : h.phase = .toIndex) :
    Completes (.encoderEdge a .index) s fun t => (∃ k, (t.ax a).homing = some k ∧ k.origin = some (s.ax a).pos ∧
      k.phase = .final ((s.ax a).limitIn (hmDir h.cmd))) ∧ (t.ax a).pos = (s.ax a).pos ∧ { t with axis := s.axis } = s := by
  have found : (s.ax a).indexed.homing = some { h.go (.final ((s.ax a).limitIn (hmDir h.cmd))) with origin := some (s.ax a).pos } := by
    show (s.ax a).homing.map (fun h => if h.phase = .toIndex then
      { h.go (.final ((s.ax a).limitIn (hmDir h.cmd))) with origin := some (s.ax a).pos } else h) = _
    rw [hh, Option.map_some, if_pos hp]
  refine ⟨s.updAx a Axis.indexed, rfl, ?_⟩
  beta_reduce
  rw [State.updAx_ax]
  exact ⟨⟨_, found, rfl, rfl⟩, rfl, rfl⟩

/-- States in which the following error is watched are neither DISABLED nor FAULT (R294). -/
theorem Axis.enabled_of_encWatched {x : Axis} (h : x.encWatched = true) : x.state ≠ .disabled ∧ x.state ≠ .fault := by
  constructor <;> intro e <;> rw [Axis.encWatched, e] at h <;> cases h

theorem encoderEdge_faults (hw : (s.ax a).encWatched = true) (he : acEnc (s.ax a).cfg = true)
    (ht : acEncTol (s.ax a).cfg * acCpfs (s.ax a).cfg < ((s.ax a).encErr - 256).natAbs) :
    Completes (.encoderEdge a .down) s fun t => (t.ax a).state = .fault ∧ (t.ax a).faultCause = 2 ∧ (t.ax a).homed = false ∧
      s.event 0x0A05 ALARM a.val (2 + 2 ^ 32 * p32 (s.ax a).pos) ∈ t.blot.raised := by
  let u := s.countEdge a (-1)
  have own : u.ax a = (s.ax a).countEdge (-1) := State.countEdge_ax ..
  have error : (u.ax a).encErr = (s.ax a).encErr - 256 := by
    rw [own]
    simp only [Axis.encErr, Axis.countEdge]
    omega
  have watched : (u.ax a).encWatched = true := by rw [own]; exact hw
  have bad : (u.ax a).encBad = true := by
    rw [Axis.encBad, error, own]
    exact Bool.and_eq_true_iff.mpr ⟨he, decide_eq_true ht⟩
  obtain ⟨enabled, sound⟩ := Axis.enabled_of_encWatched watched
  have faults : u.encCheck a = u.axisFault a 2 := if_pos (by rw [watched, bad]; rfl)
  have faulted := State.axisFault_ax 2 enabled sound
  have raises := State.axisFault_raises 2 enabled sound
  have pos : (u.ax a).pos = (s.ax a).pos := by rw [own]; rfl
  rw [pos] at raises
  exact ⟨u.axisFault a 2, congrArg Host.Outcome.next faults, faulted.field Axis.state, faulted.field Axis.faultCause,
    faulted.field Axis.homed, raises⟩

end

end Sys2Proof.Machine

namespace Sys2Proof

open Sys2Proof.Machine Sys2Proof.Safety

/-- Settles O45: each clause is the lemma of its row above. -/
theorem axisEventsComplete : Obligations.AxisEventsComplete := by
  unfold Obligations.AxisEventsComplete
  exact ⟨fun _ _ _ hh hp => axHomeDone_finishes hh hp,
    fun _ _ _ _ hh hp => axHomeDone_fails hh hp,
    fun _ _ hh => axHomeDone_rests hh,
    fun _ _ hs hl hp hw => axMoveDone_arrives hs hl hp hw,
    fun _ _ hs => axMoveDone_rests hs,
    fun _ _ h => coilRampDone_waits h,
    fun _ _ h => coilRampDone_starts h,
    fun _ _ hs hi hd => axIdleTimeout_stands hs hi hd,
    fun _ _ h => axIdleTimeout_rests h,
    fun _ _ hs hl hw hv ht he hh hm hx hn => stepGeneratorUpdate_steps hl hs hw hv ht he hh hm hx hn,
    fun _ _ _ hs hl hw hv hm hr hn hk hd => stepGeneratorUpdate_answers hl hs hw hv hm hr hn hk hd,
    fun _ _ hl hn h => stepGeneratorUpdate_rests hl hn h,
    fun _ _ _ _ hk hl hs hc => coilEvaluation_evaluates hk hl hs hc,
    fun _ _ _ _ hk hl hs hc => coilEvaluation_faults hk hl hs hc,
    fun _ _ _ hp hr => switchDebounced_level hp hr,
    fun _ _ hp hr hl hs hn hv hd => switchDebounced_stops hp hr hl hs hn hv hd,
    fun _ _ _ h => switchDebounced_rests h,
    fun _ _ _ _ hr => switchRawEdge_reads hr,
    fun _ _ he => encoderEdge_counts he,
    fun _ _ _ hh hp => encoderEdge_homes hh hp,
    fun _ _ hw he ht => encoderEdge_faults hw he ht⟩

end Sys2Proof
end

section
/-! PROOF. The ends of the locks and of the unlock (R326, R348, R352), and O22. -/

namespace Sys2Proof.Machine

theorem not_due_of_lt {t now : Nat} (h : now < t) : due (some t) 0 now = false := decide_eq_false (by omega)

theorem due_of_le {t now : Nat} (h : t ≤ now) : due (some t) 0 now = true := decide_eq_true h

end Sys2Proof.Machine

namespace Sys2Proof

open Sys2Proof.Machine Sys2Proof.Safety

/-- Settles O22: each row looks at its own deadline only, which lies ahead or has come. -/
theorem locksEnd : Obligations.LocksEnd := by
  unfold Obligations.LocksEnd
  refine ⟨fun s hr => ?_, fun s n hm hn => ?_, fun s t hl ht => ?_, fun s t hl ht => ?_, fun s t hl ht => ?_, fun s t hl ht => ?_,
    fun s t hl ht => ?_, fun s t hl ht => ?_, fun s t hl ht => ?_, fun s t hl ht => ?_⟩
  · exact congrArg Host.Outcome.next (if_pos hr)
  · exact congrArg Host.Outcome.next (if_neg (by rw [State.ranOut_of_running hm hn]; exact Bool.false_ne_true))
  · exact if_pos (by rw [hl, not_due_of_lt ht]; rfl)
  · exact if_pos (by rw [hl, not_due_of_lt ht]; rfl)
  · exact if_pos (by rw [hl, not_due_of_lt ht]; rfl)
  · exact if_pos (by rw [hl, not_due_of_lt ht]; rfl)
  · exact if_neg (by rw [hl, due_of_le ht]; exact Bool.false_ne_true)
  · exact if_neg (by rw [hl, due_of_le ht]; exact Bool.false_ne_true)
  · exact if_neg (by rw [hl, due_of_le ht]; exact Bool.false_ne_true)
  · exact if_neg (by rw [hl, due_of_le ht]; exact Bool.false_ne_true)

end Sys2Proof
end

section
/-! PROOF. The safety outputs (R310 to R313): masks over the outputs, the PERMITs, the levels of SOk_H and SOk_L, and outputs that await
FB_SETTLE for their judgement. -/

namespace Sys2Proof.Machine

/-! ### Masks -/

theorem maskOf_succ (n : Nat) (g : Nat → Bool) : maskOf (n + 1) g = maskOf n g + if g n then 2 ^ n else 0 := by
  rw [maskOf, List.range_succ, List.map_append, List.foldl_append]
  rfl

theorem maskOf_lt (n : Nat) (g : Nat → Bool) : maskOf n g < 2 ^ n := by
  induction n with
  | zero => exact Nat.one_pos
  | succ n ih =>
    rw [maskOf_succ, Nat.pow_succ]
    split <;> omega

/-- A mask has the bits of the places it is taken over. -/
theorem maskOf_testBit (n : Nat) (g : Nat → Bool) (k : Nat) : (maskOf n g).testBit k = (decide (k < n) && g k) := by
  induction n with
  | zero => simp [maskOf]
  | succ n ih =>
    have top : (if g n then 2 ^ n else 0) = 2 ^ n * b2n (g n) := by unfold b2n; split <;> simp
    rw [maskOf_succ, Nat.add_comm, top, Nat.testBit_two_pow_mul_add _ (maskOf_lt n g), ih]
    rcases Nat.lt_trichotomy k n with h | rfl | h
    · simp [h, Nat.lt_succ_of_lt h]
    · cases g k <;> simp [b2n]
    · have above : (b2n (g n)).testBit (k - n) = false := by
        obtain ⟨j, hj⟩ : ∃ j, k - n = j + 1 := ⟨k - n - 1, by omega⟩
        rw [hj]
        cases g n <;> simp [b2n, Nat.testBit_succ]
      rw [if_neg (by omega), above, decide_eq_false (by omega), Bool.false_and]

/-- The sum over the places that a filter selects is a mask. -/
theorem sum_filter_eq_maskOf (n : Nat) (g : Nat → Bool) :
    (((List.range n).filter g).map fun k => 2 ^ k).foldl (· + ·) 0 = maskOf n g := by
  have step : (fun (acc k : Nat) => if g k = true then acc + 2 ^ k else acc) = fun acc k => acc + if g k then 2 ^ k else 0 := by
    funext acc k
    split <;> rfl
  rw [maskOf, List.foldl_map, List.foldl_map, List.foldl_filter, step]

theorem ofNat_maskOf_bit {n k : Nat} (g : Nat → Bool) (h : k < n) : (BitVec.ofNat n (maskOf n g)).getLsbD k = g k := by
  rw [BitVec.getLsbD_ofNat, maskOf_testBit, decide_eq_true h, Bool.true_and, Bool.true_and]

theorem ofNat_two_pow_bit_self {n k : Nat} (h : k < n) : (BitVec.ofNat n (2 ^ k)).getLsbD k = true := by
  rw [BitVec.getLsbD_ofNat, Nat.testBit_two_pow_self, decide_eq_true h, Bool.true_and]

/-! ### PERMIT (R313) -/

/-- A channel permits an output in RUN when it is used, without an output fault, and no function has turned it off. -/
theorem MChan.grant_bit (run : Bool) (soFault : BitVec 8) (m : MChan) {k : Nat} (h : k < 8) :
    (m.grant run soFault).getLsbD k = (run && outUsed m.conf k && !soFault.getLsbD k &&
      !((List.range 16).any fun f => (fnSoMask m.conf f).testBit k && (vgetD m.fns f {}).powerOff)) :=
  ofNat_maskOf_bit (n := 8) _ h

theorem MChan.grant_outside_run (soFault : BitVec 8) (m : MChan) : m.grant false soFault = 0 := by
  apply BitVec.eq_of_getLsbD_eq
  intro k hk
  rw [MChan.grant_bit _ _ _ hk]
  simp

theorem MChan.grant_of_fault {run : Bool} {soFault : BitVec 8} (m : MChan) {k : Nat} (h : k < 8) (hf : soFault.getLsbD k = true) :
    (m.grant run soFault).getLsbD k = false := by
  rw [MChan.grant_bit _ _ _ h, hf]
  simp

/-- A function that holds its outputs off keeps their PERMIT away. -/
theorem MChan.grant_of_powerOff (run : Bool) (soFault : BitVec 8) {m : MChan} {f : Fin 16} {k : Nat} (h : k < 8)
    (hm : (fnSoMask m.conf f.val).testBit k = true) (hp : (vget m.fns f).powerOff = true) : (m.grant run soFault).getLsbD k = false := by
  have held : ((List.range 16).any fun f => (fnSoMask m.conf f).testBit k && (vgetD m.fns f {}).powerOff) = true :=
    List.any_eq_true.mpr ⟨f.val, List.mem_range.mpr f.isLt, by rw [vgetD_val, hm, hp]; rfl⟩
  rw [MChan.grant_bit _ _ _ h, held, Bool.not_true, Bool.and_false]

/-! ### SOk_H and SOk_L (R312, R313) -/

theorem State.soPins_of_permit {s : State} {k : Nat} (ha : s.margin.a.permit.getLsbD k = false) (hb : s.margin.b.permit.getLsbD k = false) :
    s.soPins k = (false, false) := by
  rw [State.soPins, ha, hb]
  simp

theorem State.soPins_high_of_permit {s : State} {k : Nat} (ha : s.margin.a.permit.getLsbD k = false) : (s.soPins k).1 = false := by
  rw [State.soPins, ha]
  simp

/-! ### Commands that have changed (R311) -/

/-- `t` is `s` but for the outputs that await FB_SETTLE, and the delays. -/
def OnlySettles (s t : State) : Prop := ∃ w r, t = { s with
  margin := { s.margin with settling := w }
  timers := r }

theorem OnlySettles.refl (s : State) : OnlySettles s s := ⟨_, _, rfl⟩

theorem OnlySettles.trans (s t u : State) : OnlySettles s t → OnlySettles t u → OnlySettles s u := by
  rintro ⟨_, _, rfl⟩ ⟨w, r, rfl⟩
  exact ⟨w, r, rfl⟩

theorem OnlySettles.soPins {s t : State} (h : OnlySettles s t) (k : Nat) : t.soPins k = s.soPins k := by obtain ⟨_, _, rfl⟩ := h; rfl

theorem State.startTimer_onlySettles (x : Timer) (n : Nat) (s : State) : OnlySettles s (s.startTimer x n) := ⟨_, _, rfl⟩

theorem State.startTimer_mem (x : Timer) (n : Nat) (s : State) : (x, s.now + n) ∈ (s.startTimer x n).timers :=
  List.mem_append_right _ (List.mem_singleton_self _)

theorem State.startTimer_mem_of_ne {x : Timer} {e : Timer × Nat} (n : Nat) {s : State} (h : e.1 ≠ x) (hm : e ∈ s.timers) :
    e ∈ (s.startTimer x n).timers :=
  List.mem_append_left _ (List.mem_filter.mpr ⟨hm, bne_iff_ne.mpr h⟩)

/-- A new command starts FB_SETTLE for its outputs and changes nothing else. -/
theorem State.commandFrom_onlySettles (o s : State) : OnlySettles s (State.commandFrom o s) :=
  OnlySettles.trans _ _ _ ⟨_, _, rfl⟩ (forAll_rel OnlySettles.refl OnlySettles.trans (fun _ _ => State.startTimer_onlySettles _ _ _) _ _)

theorem State.commandFrom_settling (o s : State) :
    (State.commandFrom o s).margin.settling = s.margin.settling ||| BitVec.ofNat 8 (maskOf 8 fun k => o.soPins k != s.soPins k) := by
  rw [← sum_filter_eq_maskOf]
  exact forAll_keeps (p := fun t => t.margin.settling) (f := fun k t => t.startTimer _ _) (fun _ _ => rfl) _ _

/-- An output whose command has changed awaits FB_SETTLE. -/
theorem State.commandFrom_settling_of_ne {o s : State} {k : Nat} (hk : k < 8) (h : o.soPins k ≠ s.soPins k) :
    (State.commandFrom o s).margin.settling.getLsbD k = true := by
  rw [State.commandFrom_settling, BitVec.getLsbD_or, ofNat_maskOf_bit _ hk, bne_iff_ne.mpr h, Bool.or_true]

/-- Delays other than FB_SETTLE go on. -/
theorem State.commandFrom_timers {o s : State} {e : Timer × Nat} (hn : ∀ k, e.1 ≠ .fbSettle k) (hm : e ∈ s.timers) :
    e ∈ (State.commandFrom o s).timers :=
  forAll_rel (R := fun s t => e ∈ s.timers → e ∈ t.timers) (fun _ h => h) (fun _ _ _ h h' hs => h' (h hs))
    (fun k _ => State.startTimer_mem_of_ne _ (hn k)) _ _ hm

end Sys2Proof.Machine
end

section
/-! PROOF. SO_REQ (R313, R331, R337), and O17. -/

namespace Sys2Proof.Machine

open Sys2Proof.Safety

/-- A writer whose requests take effect: a path that reaches the registers, or a Folio that has booted (R331, R337). -/
def WriterActs (s : State) : SoWriter → Prop
  | .host p => Reaches p s
  | .folio => s.folio.mbReady = true

theorem State.write_of_reaches {p : Path} {s : State} (f : State → State) (h : Reaches p s) : s.write p f = f s := by
  cases p with
  | pcie =>
    obtain ⟨reset, d3⟩ := h
    exact if_neg (by rw [reset, d3]; exact Bool.false_ne_true)
  | fabric a => exact if_pos h

theorem State.soWrite_of_acts {w : SoWriter} {s : State} (f : State → State) (h : WriterActs s w) : s.soWrite w f = f s := by
  cases w with
  | host p => exact State.write_of_reaches f h
  | folio => exact if_pos h

theorem State.soWrite_before_boot {s : State} (f : State → State) (h : s.folio.mbReady = false) : s.soWrite .folio f = s :=
  if_neg (by rw [h]; exact Bool.false_ne_true)

/-- SO_REQ holds the new value; of the rest only the outputs that await FB_SETTLE change. -/
theorem State.soReqPut_holds (x : BitVec 8) (s : State) :
    (s.soReqPut x).host = { s.host with soReq := x } ∧
    { s.soReqPut x with
      host := s.host
      margin := s.margin
      timers := s.timers } = s := by
  obtain ⟨_, _, put⟩ := State.commandFrom_onlySettles s { s with host := { s.host with soReq := x } }
  have put' : s.soReqPut x = _ := put
  rw [put']
  exact ⟨rfl, rfl⟩

theorem soReq_completes {w : SoWriter} {s : State} {i : Instr} {f : State → State} {x : BitVec 8} (ha : WriterActs s w)
    (hi : exec i s = .next (s.soWrite w f)) (hf : f s = s.soReqPut x) :
    Completes i s fun t =>
      t.host = { s.host with soReq := x } ∧ { t with host := s.host, margin := s.margin, timers := s.timers } = s := by
  refine ⟨s.soReqPut x, ?_, State.soReqPut_holds x s⟩
  rw [hi, State.soWrite_of_acts f ha, hf]

theorem State.bar0Read_soReq (q : Path) (s : State) : State.bar0Read q 0x400 s = s.host.soReq.setWidth 32 := by
  cases q <;> rfl

end Sys2Proof.Machine

namespace Sys2Proof

open Sys2Proof.Machine Sys2Proof.Safety

/-- Settles O17: the three rows put a value into SO_REQ, each its own, once the writer acts. -/
theorem soReqWritten : Obligations.SoReqWritten := by
  unfold Obligations.SoReqWritten
  refine ⟨fun v s h => ?_, fun w v s h => ?_⟩
  · exact ⟨congrArg _ (State.soWrite_before_boot _ h), congrArg _ (State.soWrite_before_boot _ h), congrArg _ (State.soWrite_before_boot _ h)⟩
  · have acts : WriterActs s w := by cases w <;> exact h
    exact ⟨soReq_completes acts rfl rfl, soReq_completes acts rfl rfl, soReq_completes acts rfl rfl, fun q => State.bar0Read_soReq q s⟩

end Sys2Proof
end

section
/-! PROOF. States and faults of the Margin and what follows from them (R302, R303, R311), and the reactions on axes and channels (R317), which
leave the Margin itself. -/

namespace Sys2Proof.Machine

/-! ### The PERMITs follow the state (R302, R313) -/

theorem Margin.regrant_outside_run {m : Margin} (h : m.state ≠ .run) : m.regrant.a.permit = 0 ∧ m.regrant.b.permit = 0 := by
  have run : (m.state == .run) = false := by simpa using h
  unfold Margin.regrant
  rw [run]
  exact ⟨MChan.grant_outside_run _ _, MChan.grant_outside_run _ _⟩

/-- The Margin enters a state: its PERMITs follow, an output with a new command awaits FB_SETTLE, and vector 13 tells of a change. -/
theorem State.setMargin_eq (st : MState) (s : State) : ∃ w r h, s.setMargin st = { s with
    margin := { ({ s.margin with state := st } : Margin).regrant with settling := w }
    timers := r
    host := h } ∧ h.soReq = s.host.soReq := by
  unfold State.setMargin
  dsimp only
  split
  · obtain ⟨w, r, settles⟩ := State.commandFrom_onlySettles s { s with margin := ({ s.margin with state := st } : Margin).regrant }
    exact ⟨w, r, s.host, settles, rfl⟩
  · obtain ⟨w, r, settles⟩ := State.commandFrom_onlySettles s
      (State.irq 13 { s with margin := ({ s.margin with state := st } : Margin).regrant })
    exact ⟨w, r, s.host.irq 13 false, settles, HostIf.irq_soReq ..⟩

theorem State.setMargin_state (st : MState) (s : State) : (s.setMargin st).margin.state = st := by
  obtain ⟨w, r, h, e, -⟩ := s.setMargin_eq st
  rw [e]
  rfl

/-- An internal fault latches SAFE_FAULT with its code, once, and 0x0B07 tells of it (R303). -/
theorem State.marginFault_eq (code : Nat) {s : State} (hr : s.margin.inReset = false) (hs : s.margin.state ≠ .safeFault) :
    ∃ w r h, s.marginFault code = ({ s with
      margin := { ({ s.margin with
        intFault := code
        state := .safeFault } : Margin).regrant with settling := w }
      timers := r
      host := h } : State).raise 0x0B07 FATAL 0 code ∧ h.soReq = s.host.soReq := by
  obtain ⟨w, r, h, e, so⟩ := State.setMargin_eq .safeFault { s with margin := { s.margin with intFault := code } }
  refine ⟨w, r, h, ?_, so⟩
  rw [← e]
  exact if_neg (by simp [hr, hs])

/-- The Margin has latched SAFE_FAULT with a code and permits nothing (R303). -/
def Latched (code : Nat) (t : State) : Prop :=
  t.margin.state = .safeFault ∧ t.margin.intFault = code ∧ t.margin.a.permit = 0 ∧ t.margin.b.permit = 0

theorem State.marginFault_latched (code : Nat) {s : State} (hr : s.margin.inReset = false) (hs : s.margin.state ≠ .safeFault) :
    Latched code (s.marginFault code) := by
  obtain ⟨w, r, h, e, -⟩ := State.marginFault_eq code hr hs
  obtain ⟨a, b⟩ := Margin.regrant_outside_run (m := { s.margin with
    intFault := code
    state := .safeFault }) (by simp)
  rw [e]
  exact ⟨rfl, rfl, a, b⟩

/-- A fault keeps the functions, what the channels have stored and what has been accepted. -/
theorem State.marginFault_keeps (code : Nat) (s : State) : (s.marginFault code).margin.a.fns = s.margin.a.fns ∧
    (s.marginFault code).margin.b.fns = s.margin.b.fns ∧ (s.marginFault code).margin.cfg = s.margin.cfg ∧
    (s.marginFault code).margin.accepted = s.margin.accepted ∧ Reports s (s.marginFault code) := by
  by_cases h : s.margin.state = .safeFault ∨ s.margin.inReset = true
  · have same : s.marginFault code = s := if_pos (by simpa using h)
    rw [same]
    exact ⟨rfl, rfl, rfl, rfl, .refl s⟩
  · obtain ⟨hs, hr⟩ := not_or.mp h
    obtain ⟨w, r, k, e, -⟩ := State.marginFault_eq code (by simpa using hr) hs
    rw [e]
    exact ⟨rfl, rfl, rfl, rfl, .raise _ _ _ _ (.of_blot rfl)⟩

/-! ### Output faults (R311) -/

/-- An output fault latches, the PERMITs follow, and 0x0B05 tells the band seen and the one expected. -/
theorem State.outputFault_eq (k : Nat) (seen : FbBand) (s : State) : ∃ w r, s.outputFault k seen = ({ s with
    margin := { ({ s.margin with soFault := s.margin.soFault ||| BitVec.ofNat 8 (2 ^ k) } : Margin).regrant with settling := w }
    timers := r } : State).raise 0x0B05 ALARM k (bandCode seen + 4 * bandCode (expectedBand (s.soPins k))) := by
  obtain ⟨w, r, settles⟩ := State.commandFrom_onlySettles s { s with
    margin := ({ s.margin with soFault := s.margin.soFault ||| BitVec.ofNat 8 (2 ^ k) } : Margin).regrant }
  exact ⟨w, r, congrArg (fun t => State.raise 0x0B05 ALARM k _ t) settles⟩

/-- An output with a fault is off. -/
theorem State.outputFault_off {k : Nat} (seen : FbBand) (s : State) (hk : k < 8) :
    (s.outputFault k seen).margin.soFault.getLsbD k = true ∧ (s.outputFault k seen).soPins k = (false, false) := by
  obtain ⟨w, r, e⟩ := s.outputFault_eq k seen
  have faulty : (s.margin.soFault ||| BitVec.ofNat 8 (2 ^ k)).getLsbD k = true := by
    rw [BitVec.getLsbD_or, ofNat_two_pow_bit_self hk, Bool.or_true]
  rw [e]
  exact ⟨faulty, State.soPins_of_permit (MChan.grant_of_fault _ hk faulty) (MChan.grant_of_fault _ hk faulty)⟩

theorem State.judgeOutput_of_expected {k : Nat} {seen : FbBand} {s : State} (h : seen = expectedBand (s.soPins k)) :
    s.judgeOutput k seen = s := if_neg (by simp [h])

theorem State.judgeOutput_of_wrong {k : Nat} {seen : FbBand} {s : State} (hu : outUsed s.margin.conf k = true)
    (hf : s.margin.soFault.getLsbD k = false) (h : seen ≠ expectedBand (s.soPins k)) : s.judgeOutput k seen = s.outputFault k seen :=
  if_pos (by simp [hu, hf, h])

/-! ### What a reaction leaves (R317) -/

/-- A reaction leaves the Margin, the time and SO_REQ, and events are only added. -/
def Reacts (s t : State) : Prop := t.margin = s.margin ∧ t.tb = s.tb ∧ t.host.soReq = s.host.soReq ∧ Reports s t

theorem Reacts.refl (s : State) : Reacts s s := ⟨rfl, rfl, rfl, .refl s⟩

theorem Reacts.trans (s t u : State) : Reacts s t → Reacts t u → Reacts s u := by
  rintro ⟨m, b, h, r⟩ ⟨m', b', h', r'⟩
  exact ⟨m'.trans m, b'.trans b, h'.trans h, r.trans _ _ _ r'⟩

theorem Reacts.forAll {α : Type} {f : α → State → State} (pass : ∀ a s, Reacts s (f a s)) (l : List α) (s : State) :
    Reacts s (forAll f l s) :=
  forAll_rel Reacts.refl Reacts.trans pass l s

theorem Reacts.raise (code sev source param : Nat) (s : State) : Reacts s (s.raise code sev source param) :=
  ⟨rfl, rfl, rfl, .raise _ _ _ _ (.refl s)⟩

theorem Reacts.irq (v : Nat) (s : State) : Reacts s (s.irq v) := ⟨rfl, rfl, HostIf.irq_soReq .., .of_blot rfl⟩

theorem Reacts.startTimer (x : Timer) (n : Nat) (s : State) : Reacts s (s.startTimer x n) := ⟨rfl, rfl, rfl, .of_blot rfl⟩

/-- Changes of axes, of their linear moves and of channels. -/
theorem Reacts.of_drives {s t : State} (h : ∃ c x l, t = { s with
    chan := c
    axis := x
    linear := l }) : Reacts s t := by
  obtain ⟨c, x, l, rfl⟩ := h
  exact ⟨rfl, rfl, rfl, .of_blot rfl⟩

theorem Reacts.updAx (a : Fin 8) (f : Axis → Axis) (s : State) : Reacts s (s.updAx a f) := .of_drives ⟨s.chan, _, s.linear, rfl⟩

theorem Reacts.updCh (n : Fin 256) (f : Channel → Channel) (s : State) : Reacts s (s.updCh n f) := .of_drives ⟨_, s.axis, s.linear, rfl⟩

theorem State.homeAbandon_reacts (a : Fin 8) (s : State) : Reacts s (s.homeAbandon a) := by
  obtain ⟨b, abandoned, reports⟩ := s.homeAbandon_eq a
  rw [abandoned]
  exact ⟨rfl, rfl, rfl, reports⟩

theorem State.stopLinear_reacts (a : Fin 8) (quick : Bool) (s : State) : Reacts s (s.stopLinear a quick) :=
  Reacts.trans _ _ _ (.of_drives ⟨s.chan, s.axis, _, rfl⟩) (Reacts.forAll (f := State.memberStops) (fun _ _ => .updAx _ _ _) _ _)

theorem State.settleLinear_reacts (s : State) : Reacts s s.settleLinear :=
  Reacts.trans _ _ _ (Reacts.forAll (fun _ _ => .updAx _ _ _) _ s) (.of_drives ⟨_, _, _, rfl⟩)

theorem State.answerStops_reacts (a : Fin 8) (s : State) : Reacts s (s.answerStops a) := by
  have reports := State.answerStops_reports a s
  obtain ⟨x, q, b, m, answered, -⟩ := State.answerStops_onlyAnswers a s
  rw [answered] at reports ⊢
  exact ⟨rfl, rfl, rfl, reports⟩

theorem State.stopAxis_reacts (a : Fin 8) (quick : Bool) (s : State) : Reacts s (s.stopAxis a quick) := by
  cases h : s.linear.any (Linear.has a)
  · obtain ⟨b, alone, reports⟩ := State.stopAxis_alone quick h
    rw [alone]
    exact ⟨rfl, rfl, rfl, reports⟩
  · rw [State.stopAxis, if_pos h]
    exact (s.stopLinear_reacts a quick).trans _ _ _ (State.settleLinear_reacts _)

/-- The axis abandons its homing sequence, leaves its linear move and stands still in OFF; its AX_STOP commands wait. -/
def State.turnOff (a : Fin 8) (s : State) : State := (((s.homeAbandon a).stopLinear a false).leaveLinear a).standstill a 1

theorem State.axisOff_of_off {a : Fin 8} {s : State} (h : (s.ax a).state = .disabled ∨ (s.ax a).state = .fault) : s.axisOff a = s := by
  unfold State.axisOff
  rcases h with h | h <;> rw [h]

theorem State.axisOff_eq {a : Fin 8} {s : State} (hd : (s.ax a).state ≠ .disabled) (hf : (s.ax a).state ≠ .fault) :
    s.axisOff a = (s.turnOff a).answerStops a := by
  unfold State.axisOff
  split
  next h => exact absurd h hd
  next h => exact absurd h hf
  next => rfl

theorem State.turnOff_reacts (a : Fin 8) (s : State) : Reacts s (s.turnOff a) := by
  refine ((s.homeAbandon_reacts a).trans _ _ _ (State.stopLinear_reacts a false _)).trans _ _ _ ?_
  exact Reacts.trans _ _ _ (.of_drives ⟨_, _, _, rfl⟩) (.updAx _ _ _)

theorem State.axisOff_reacts (a : Fin 8) (s : State) : Reacts s (s.axisOff a) := by
  by_cases h : (s.ax a).state = .disabled ∨ (s.ax a).state = .fault
  · rw [State.axisOff_of_off h]
    exact .refl s
  · obtain ⟨hd, hf⟩ := not_or.mp h
    rw [State.axisOff_eq hd hf]
    exact (s.turnOff_reacts a).trans _ _ _ (State.answerStops_reacts a _)

theorem State.setSlot_soReq (k : Fin 1024) (st : SlotState) (s : State) : (s.setSlot k st).host.soReq = s.host.soReq := by
  unfold State.setSlot
  split <;> rfl

theorem State.refreshSlot_soReq (k : Fin 1024) (s : State) : (s.refreshSlot k).host.soReq = s.host.soReq := by
  unfold State.refreshSlot
  split
  · exact State.setSlot_soReq ..
  · rfl

theorem State.toState_soReq (n : Fin 256) (st : ChState) (s : State) : (s.toState n st).host.soReq = s.host.soReq := by
  unfold State.toState
  split
  · rfl
  · rw [State.ckpt_host]
    unfold State.become
    dsimp only
    split
    · rfl
    · split
      · rw [State.rewrite_host]; rfl
      · rw [State.refreshSlot_soReq, State.rewrite_host]; rfl

theorem State.toState_reacts (n : Fin 256) (st : ChState) (s : State) : Reacts s (s.toState n st) :=
  ⟨State.toState_margin .., State.toState_tb .., State.toState_soReq .., State.toState_reports ..⟩

theorem State.holdChannel_reacts (n : Fin 256) (s : State) : Reacts s (s.holdChannel n) :=
  Reacts.trans _ _ _ (.updCh n _ s) (State.toState_reacts ..)

theorem State.leaveTune_reacts (n : Fin 256) (s : State) : Reacts s (s.leaveTune n) := by
  unfold State.leaveTune
  split
  · exact (State.toState_reacts ..).trans _ _ _ (.updCh n _ _)
  · exact State.toState_reacts ..

theorem State.reactChannels_reacts (c : Block) (f : Nat) (s : State) : Reacts s (s.reactChannels c f) := by
  refine Reacts.forAll (fun n t => ?_) _ s
  split
  · exact State.holdChannel_reacts n t
  · exact State.leaveTune_reacts n t
  · exact .refl t

theorem State.react_reacts (c : Block) (f : Nat) (s : State) : Reacts s (s.react c f) := by
  refine Reacts.trans _ _ _ ((Reacts.irq 13 s).trans _ _ _ (Reacts.forAll (fun a t => ?_) _ _)) (State.reactChannels_reacts c f _)
  split
  · exact State.stopAxis_reacts a true t
  · exact State.axisOff_reacts a t

/-! ### Axes turned off (R317) -/

/-- The axis stands still in OFF (R293). -/
def Axis.isOff (x : Axis) : Prop := x.state = .standstill ∧ x.ssMode = 1

/-- An enabled axis without a fault. -/
def Axis.isOn (x : Axis) : Prop := x.state ≠ .disabled ∧ x.state ≠ .fault

theorem Axis.isOff.isOn {x : Axis} (h : x.isOff) : x.isOn := by
  unfold Axis.isOn
  rw [h.1]
  exact ⟨by decide, by decide⟩

/-- A stop of a linear move turns a moving member to STOPPING and leaves every other state. -/
theorem State.stopLinear_state (a : Fin 8) (quick : Bool) (s : State) (j : Fin 8) :
    ((s.stopLinear a quick).ax j).state = (s.ax j).state ∨
    (s.ax j).state = .moving ∧ ((s.stopLinear a quick).ax j).state = .stopping := by
  refine forAll_rel (R := fun s t => (t.ax j).state = (s.ax j).state ∨ (s.ax j).state = .moving ∧ (t.ax j).state = .stopping)
    (fun _ => .inl rfl) ?_ ?_ (s.linearWith a) _
  · rintro s t u (h | ⟨hs, ht⟩) (h' | ⟨hs', ht'⟩)
    · exact .inl (h'.trans h)
    · exact .inr ⟨h ▸ hs', ht'⟩
    · exact .inr ⟨hs, h'.trans ht⟩
    · rw [ht] at hs'
      exact absurd hs' (by decide)
  · intro b s
    rcases eq_or_ne b j with rfl | hne
    · rw [State.memberStops, State.updAx_ax]
      by_cases h : (s.ax b).state = .moving
      · exact .inr ⟨h, if_pos h⟩
      · exact .inl (if_neg h)
    · exact .inl (congrArg Axis.state (State.updAx_ax_of_ne _ _ hne))

/-- An axis that is turned off stands still in OFF. -/
theorem State.axisOff_ax_self {a : Fin 8} {s : State} (h : (s.ax a).isOn) : ((s.axisOff a).ax a).isOff := by
  obtain ⟨x, q, b, m, answered, same⟩ := State.answerStops_onlyAnswers a (s.turnOff a)
  have own : ((s.turnOff a).ax a).isOff := by
    rw [State.turnOff, State.standstill, State.updAx_ax]
    exact ⟨rfl, rfl⟩
  rw [State.axisOff_eq h.1 h.2, answered]
  exact ⟨((same a).field Axis.state).trans own.1, ((same a).field Axis.ssMode).trans own.2⟩

/-- Another axis that is turned off leaves the state of an axis, or stops its linear move. -/
theorem State.axisOff_ax_of_ne {a j : Fin 8} (s : State) (h : a ≠ j) : ((s.axisOff a).ax j).ssMode = (s.ax j).ssMode ∧
    (((s.axisOff a).ax j).state = (s.ax j).state ∨ (s.ax j).state = .moving ∧ ((s.axisOff a).ax j).state = .stopping) := by
  by_cases off : (s.ax a).state = .disabled ∨ (s.ax a).state = .fault
  · rw [State.axisOff_of_off off]
    exact ⟨rfl, .inl rfl⟩
  · obtain ⟨hd, hf⟩ := not_or.mp off
    obtain ⟨b, abandoned, -⟩ := s.homeAbandon_eq a
    have home : (s.homeAbandon a).ax j = s.ax j := by
      rw [abandoned]
      exact (State.updAx_ax_of_ne (fun x => { x with homing := none }) s h :)
    have turned : (s.turnOff a).ax j = ((s.homeAbandon a).stopLinear a false).ax j := State.updAx_ax_of_ne _ _ h
    obtain ⟨st, stopped⟩ := (s.homeAbandon a).stopLinear_ax a false j
    have state := (s.homeAbandon a).stopLinear_state a false j
    obtain ⟨x, q, b, m, answered, same⟩ := State.answerStops_onlyAnswers a (s.turnOff a)
    have ssMode : (vget x j).ssMode = (s.ax j).ssMode := by rw [(same j).field Axis.ssMode, turned, stopped, home]
    have now : (vget x j).state = (((s.homeAbandon a).stopLinear a false).ax j).state := by rw [(same j).field Axis.state, turned]
    rw [home, ← now] at state
    rw [State.axisOff_eq hd hf, answered]
    exact ⟨ssMode, state⟩

theorem State.axisOff_keeps_on {a j : Fin 8} {s : State} (h : (s.ax j).isOn) : ((s.axisOff a).ax j).isOn := by
  rcases eq_or_ne a j with rfl | hne
  · exact (State.axisOff_ax_self h).isOn
  · obtain ⟨-, same | ⟨-, stops⟩⟩ := State.axisOff_ax_of_ne s hne
    · unfold Axis.isOn at h ⊢
      rwa [same]
    · unfold Axis.isOn
      rw [stops]
      exact ⟨by decide, by decide⟩

theorem State.axisOff_keeps_off {a j : Fin 8} {s : State} (h : (s.ax j).isOff) : ((s.axisOff a).ax j).isOff := by
  rcases eq_or_ne a j with rfl | hne
  · exact State.axisOff_ax_self h.isOn
  · obtain ⟨mode, same | ⟨moves, -⟩⟩ := State.axisOff_ax_of_ne s hne
    · exact ⟨same.trans h.1, mode.trans h.2⟩
    · rw [h.1] at moves
      exact absurd moves (by decide)

/-- Every enabled axis of a list that is turned off stands still in OFF in the end. -/
theorem forAll_axisOff_isOff {l : List (Fin 8)} {a : Fin 8} (ha : a ∈ l) {s : State} (h : (s.ax a).isOn) :
    ((forAll State.axisOff l s).ax a).isOff := by
  obtain ⟨before, after, rfl⟩ := List.append_of_mem ha
  have on : ((forAll State.axisOff before s).ax a).isOn :=
    forAll_rel (R := fun s t => (s.ax a).isOn → (t.ax a).isOn) (fun _ h => h) (fun _ _ _ h h' hs => h' (h hs))
      (fun _ _ => State.axisOff_keeps_on) before s h
  rw [forAll_append, forAll]
  exact forAll_rel (R := fun s t => (s.ax a).isOff → (t.ax a).isOff) (fun _ h => h) (fun _ _ _ h h' hs => h' (h hs))
    (fun _ _ => State.axisOff_keeps_off) after _ (State.axisOff_ax_self on)

end Sys2Proof.Machine
end

section
/-! PROOF. The Margin's clock, start-up, test pulses, output tests and timers (R300, R302, R303, R307, R308, R311, R312, R317, R326). -/

namespace Sys2Proof.Machine

open Sys2Proof.Safety

/-! ### The tick's clock and the start-up (R300, R302, R303) -/

theorem tickWatchExpiry_latches {s : State} (hr : s.margin.inReset = false) (hs : s.margin.state ≠ .safeFault) :
    Completes .tickWatchExpiry s (Latched 2) := ⟨_, rfl, State.marginFault_latched 2 hr hs⟩

theorem safeClockCheck_latches {s : State} (hr : s.margin.inReset = false) (hs : s.margin.state ≠ .safeFault) :
    Completes (.safeClockCheck false) s (Latched 3) := ⟨_, rfl, State.marginFault_latched 3 hr hs⟩

/-- What the start-up makes of the copies that the channels have loaded (R302). -/
def State.startUp (s : State) : State :=
  match s.margin.storedCrc with
  | none => s.setMargin .unconfigured
  | some crc =>
    if s.margin.committed = some crc then s.setMargin .awaitAccept
    else if s.margin.accepted = some crc then s.marginRun
    else s.setMargin .unconfigured

theorem State.startUp_of_none {s : State} (hc : s.margin.storedCrc = none) : s.startUp = s.setMargin .unconfigured := by
  rw [State.startUp, hc]

theorem State.startUp_of_some {s : State} {crc : Word} (hc : s.margin.storedCrc = some crc) : s.startUp =
    if s.margin.committed = some crc then s.setMargin .awaitAccept
    else if s.margin.accepted = some crc then s.marginRun
    else s.setMargin .unconfigured := by
  rw [State.startUp, hc]

section
variable {s : State} (hr : s.margin.inReset = false) (hs : s.margin.state = .starting)
include hr hs

theorem exec_marginStarted : exec .marginStarted s = .next s.startUp := by
  show execMarginStarted s = _
  unfold execMarginStarted
  rw [if_neg (by simp [hr, hs])]
  cases hc : s.margin.storedCrc with
  | none => rw [State.startUp_of_none hc]
  | some crc =>
    rw [State.startUp_of_some hc]
    dsimp only
    split
    · rfl
    · split <;> rfl

theorem marginStarted_without_crc (hc : s.margin.storedCrc = none) :
    Completes .marginStarted s fun t => t.margin.state = .unconfigured :=
  ⟨_, by rw [exec_marginStarted hr hs, State.startUp_of_none hc], State.setMargin_state ..⟩

theorem marginStarted_awaits {crc : Word} (hc : s.margin.storedCrc = some crc) (hm : s.margin.committed = some crc) :
    Completes .marginStarted s fun t => t.margin.state = .awaitAccept :=
  ⟨_, by rw [exec_marginStarted hr hs, State.startUp_of_some hc, if_pos hm], State.setMargin_state ..⟩

theorem marginStarted_without_acceptance {crc : Word} (hc : s.margin.storedCrc = some crc) (hm : s.margin.committed ≠ some crc)
    (ha : s.margin.accepted ≠ some crc) : Completes .marginStarted s fun t => t.margin.state = .unconfigured :=
  ⟨_, by rw [exec_marginStarted hr hs, State.startUp_of_some hc, if_neg hm, if_neg ha], State.setMargin_state ..⟩

end

/-- A used function starts with its restart pending (R318). -/
theorem pendingFns_pending {c : Block} {f : Fin 16} (h : fnKind c f.val ≠ 0) :
    (vget (pendingFns c) f).inForce = true ∧ (vget (pendingFns c) f).powerOff = true := by
  have pending : vget (pendingFns c) f = { inForce := true, powerOff := true } := by
    simp only [vget, pendingFns, Fin.getElem_fin, Vector.getElem_ofFn]
    exact if_neg h
  rw [pending]
  exact ⟨rfl, rfl⟩

/-- RUN begins with every function's restart pending; what is stored and accepted stays. -/
theorem State.marginRun_eq (s : State) : ∃ w r h, s.marginRun = { s with
    margin := { ({ s.margin with
      committed := none
      state := .run
      a := { s.margin.a with fns := pendingFns s.margin.a.conf }
      b := { s.margin.b with fns := pendingFns s.margin.b.conf } } : Margin).regrant with settling := w }
    timers := r
    host := h } ∧ h.soReq = s.host.soReq :=
  State.setMargin_eq .run _

theorem marginStarted_runs {s : State} {crc : Word} (hr : s.margin.inReset = false) (hs : s.margin.state = .starting)
    (hc : s.margin.storedCrc = some crc) (hm : s.margin.committed ≠ some crc) (ha : s.margin.accepted = some crc) :
    Completes .marginStarted s fun t =>
      t.margin.state = .run ∧ (∀ f : Fin 16, fnKind s.margin.conf f.val ≠ 0 → (vget t.margin.a.fns f).powerOff = true) := by
  obtain ⟨w, r, h, runs, -⟩ := s.marginRun_eq
  refine ⟨_, by rw [exec_marginStarted hr hs, State.startUp_of_some hc, if_neg hm, if_pos ha, runs], rfl, fun f hf => ?_⟩
  exact (pendingFns_pending hf).2

/-! ### Test pulses (R307) -/

theorem or_two_pow_bit {n k : Nat} (w : BitVec n) (h : k < n) : (w ||| BitVec.ofNat n (2 ^ k)).getLsbD k = true := by
  rw [BitVec.getLsbD_or, ofNat_two_pow_bit_self h, Bool.or_true]

theorem and_not_two_pow_bit {n : Nat} (w : BitVec n) (k : Nat) : (w &&& ~~~(BitVec.ofNat n (2 ^ k))).getLsbD k = false := by
  rw [BitVec.getLsbD_and, BitVec.getLsbD_not, BitVec.getLsbD_ofNat, Nat.testBit_two_pow_self]
  cases decide (k < n) <;> simp

theorem testPulse_begins (s : State) (k : Fin 4) :
    Completes (.testPulse k) s fun t => t.margin.tpOff.getLsbD k.val = true ∧ (Timer.testPulse k, s.now + 200 * microsecond) ∈ t.timers ∧
      { t.margin with tpOff := s.margin.tpOff } = s.margin ∧ { t with
        margin := s.margin
        timers := s.timers } = s :=
  ⟨_, rfl, or_two_pow_bit _ k.isLt, State.startTimer_mem _ _ _, rfl, rfl⟩

theorem testPulseEnd_waits {s : State} {k : Fin 4} (h : s.ranOut (.testPulse k) = false) : exec (.testPulseEnd k) s = .next s :=
  congrArg Host.Outcome.next (if_neg (by rw [h]; exact Bool.false_ne_true))

theorem testPulseEnd_ends {s : State} {k : Fin 4} (h : s.ranOut (.testPulse k) = true) :
    Completes (.testPulseEnd k) s fun t => t.margin.tpOff.getLsbD k.val = false ∧ { t with margin := s.margin } = s ∧
      { t.margin with tpOff := s.margin.tpOff } = s.margin := by
  refine ⟨_, congrArg Host.Outcome.next (if_pos h), ?_⟩
  exact ⟨and_not_two_pow_bit _ _, rfl, rfl⟩

/-! ### The judgement of a test pulse (R308) -/

/-- What a pair holds of the test of its pin A: failed cycles in a row, and the fault. -/
def PairSt.testA (q : PairSt) : Nat × Bool := (q.tpFailA, q.tpFaultA)

/-- A change of one pair of a channel. -/
def MChan.updPair (p : Nat) (g : PairSt → PairSt) (m : MChan) : MChan := { m with pairs := vsetD m.pairs p (g (vgetD m.pairs p {})) }

theorem vget_vsetD_self {α : Type} {n : Nat} (v : Vector α n) (i : Fin n) (x : α) : vget (vsetD v i.val x) i = x := by
  rw [← vgetD_val _ _ x, vgetD_vsetD_self _ _ _ i.isLt]

theorem vget_vsetD_of_ne {α : Type} {n : Nat} (v : Vector α n) {i : Nat} {j : Fin n} (x : α) (h : j.val ≠ i) :
    vget (vsetD v i x) j = vget v j := by
  rw [← vgetD_val _ _ x, vgetD_vsetD_of_ne _ _ _ h, vgetD_val]

theorem MChan.updPair_self (p : Fin 16) (g : PairSt → PairSt) (m : MChan) : vget (m.updPair p.val g).pairs p = g (vget m.pairs p) := by
  rw [MChan.updPair, vget_vsetD_self, vgetD_val]

/-- What a cycle makes of it: a failed one counts, the second in a row is a fault, any other ends the run (R308). -/
def judgedA (failed : Bool) (x : Nat × Bool) : Nat × Bool :=
  let n := if failed then x.1 + 1 else 0
  (n, x.2 || decide (2 ≤ n))

/-- What the pulse of one pin does to its pair, in both channels. -/
def pinTest (before during after : BitVec 32) (i : Nat) (q : PairSt) : PairSt :=
  if before.getLsbD i then q.pulse (i % 2 == 1) (!during.getLsbD i && after.getLsbD i) else q.untested (i % 2 == 1)

/-- The test of pin B leaves what the pair holds of pin A. -/
theorem pinTest_B {i : Nat} (before during after : BitVec 32) (q : PairSt) (h : i % 2 = 1) :
    (pinTest before during after i q).testA = q.testA := by
  unfold pinTest
  rw [h]
  split <;> rfl

/-- A cycle fails for a pin that was high before it and is high during it, or not high after it. -/
def failedPin (before during after : BitVec 32) (i : Nat) : Bool := before.getLsbD i && !(!during.getLsbD i && after.getLsbD i)

theorem pinTest_A {i : Nat} (before during after : BitVec 32) (q : PairSt) (h : i % 2 = 0) :
    (pinTest before during after i q).testA = judgedA (failedPin before during after i) q.testA := by
  unfold pinTest failedPin
  rw [h]
  cases before.getLsbD i
  · exact congrArg (Prod.mk 0) (Bool.or_false _).symm
  · cases during.getLsbD i <;> cases after.getLsbD i <;> rfl

theorem State.raise_if_eq (c : Prop) [Decidable c] (code sev source param : Nat) (s : State) :
    ∃ b, (if c then s.raise code sev source param else s) = { s with blot := b } := by
  split
  · exact ⟨_, rfl⟩
  · exact ⟨s.blot, rfl⟩

section
variable {k : Fin 4} {before during after : BitVec 32} {i : Nat}

/-- A pin whose test is not due is left alone. -/
theorem State.pulsePin_skips {s : State}
    (h : prType s.margin.conf (i / 2) = 0 ∨ prTest s.margin.conf (i / 2) (i % 2 == 1) = false ∨
      prSource s.margin.conf (i / 2) (i % 2 == 1) ≠ k.val) : s.pulsePin k before during after i = s :=
  if_pos (by simpa [or_assoc] using h)

/-- A pin that is tested changes its pair in both channels; a new fault is reported. -/
theorem State.pulsePin_tests {s : State}
    (h : ¬ (prType s.margin.conf (i / 2) = 0 ∨ prTest s.margin.conf (i / 2) (i % 2 == 1) = false ∨
      prSource s.margin.conf (i / 2) (i % 2 == 1) ≠ k.val)) : ∃ b, s.pulsePin k before during after i =
    { s.bothChannels (MChan.updPair (i / 2) (pinTest before during after i)) with blot := b } := by
  unfold State.pulsePin
  dsimp only
  rw [if_neg (by simpa [or_assoc] using h)]
  by_cases hb : before.getLsbD i = true
  · have tests : pinTest before during after i = fun q => q.pulse (i % 2 == 1) (!during.getLsbD i && after.getLsbD i) := by
      funext q
      exact if_pos hb
    rw [tests, hb, if_neg (by decide)]
    exact State.raise_if_eq _ _ _ _ _ _
  · have tests : pinTest before during after i = fun q => q.untested (i % 2 == 1) := by
      funext q
      exact if_neg hb
    rw [tests, if_pos (by simpa using hb)]
    exact ⟨s.blot, rfl⟩

/-- `t` is `s` but for the pairs of both channels and the events. -/
def OnlyPairs (s t : State) : Prop := ∃ x y b, t = { s with
  margin := { s.margin with
    a := { s.margin.a with pairs := x }
    b := { s.margin.b with pairs := y } }
  blot := b }

theorem OnlyPairs.refl (s : State) : OnlyPairs s s := ⟨_, _, _, rfl⟩

theorem OnlyPairs.trans (s t u : State) : OnlyPairs s t → OnlyPairs t u → OnlyPairs s u := by
  rintro ⟨_, _, _, rfl⟩ ⟨x, y, b, rfl⟩
  exact ⟨x, y, b, rfl⟩

theorem State.pulsePin_onlyPairs (i : Nat) (s : State) : OnlyPairs s (s.pulsePin k before during after i) := by
  by_cases h : prType s.margin.conf (i / 2) = 0 ∨ prTest s.margin.conf (i / 2) (i % 2 == 1) = false ∨
      prSource s.margin.conf (i / 2) (i % 2 == 1) ≠ k.val
  · rw [State.pulsePin_skips h]
    exact .refl s
  · obtain ⟨b, tests⟩ := State.pulsePin_tests (before := before) (during := during) (after := after) h
    rw [tests]
    exact ⟨_, _, b, rfl⟩

/-- The configuration, and what each channel holds of the test of pin A of pair `p`. -/
def State.pinA (p : Fin 16) (s : State) : Block × (Nat × Bool) × (Nat × Bool) :=
  (s.margin.conf, (vget s.margin.a.pairs p).testA, (vget s.margin.b.pairs p).testA)

/-- The test of another pin leaves what is held of pin A of pair `p`. -/
theorem State.pulsePin_pinA_of_ne {p : Fin 16} (s : State) (h : i ≠ 2 * p.val) :
    (s.pulsePin k before during after i).pinA p = s.pinA p := by
  by_cases hs : prType s.margin.conf (i / 2) = 0 ∨ prTest s.margin.conf (i / 2) (i % 2 == 1) = false ∨
      prSource s.margin.conf (i / 2) (i % 2 == 1) ≠ k.val
  · rw [State.pulsePin_skips hs]
  · obtain ⟨b, tests⟩ := State.pulsePin_tests (before := before) (during := during) (after := after) hs
    have kept : ∀ m : MChan, (vget (m.updPair (i / 2) (pinTest before during after i)).pairs p).testA = (vget m.pairs p).testA := by
      intro m
      by_cases own : p.val = i / 2
      · rw [← own, MChan.updPair_self]
        exact pinTest_B _ _ _ _ (by omega)
      · exact congrArg PairSt.testA (vget_vsetD_of_ne _ _ own)
    rw [tests]
    exact congrArg₂ (fun x y => (s.margin.conf, x, y)) (kept _) (kept _)

/-- The test of pin A of a pair judges it in both channels. -/
theorem State.pulsePin_pinA_self {p : Fin 16} {s : State} (ht : prType s.margin.conf p.val ≠ 0)
    (hp : prTest s.margin.conf p.val false = true) (hk : prSource s.margin.conf p.val false = k.val) :
    (s.pulsePin k before during after (2 * p.val)).pinA p =
      (s.margin.conf, judgedA (failedPin before during after (2 * p.val)) (vget s.margin.a.pairs p).testA,
        judgedA (failedPin before during after (2 * p.val)) (vget s.margin.b.pairs p).testA) := by
  have pair : 2 * p.val / 2 = p.val := by omega
  have pinA : (2 * p.val % 2 == 1) = false := beq_eq_false_iff_ne.mpr (by omega)
  obtain ⟨b, tests⟩ := State.pulsePin_tests (k := k) (i := 2 * p.val) (s := s) (before := before) (during := during) (after := after)
    (by rw [pair, pinA, hp, hk]; simp [ht])
  have judged : ∀ m : MChan, (vget (m.updPair (2 * p.val / 2) (pinTest before during after (2 * p.val))).pairs p).testA =
      judgedA (failedPin before during after (2 * p.val)) (vget m.pairs p).testA := by
    intro m
    rw [pair, MChan.updPair_self]
    exact pinTest_A _ _ _ _ (by omega)
  rw [tests]
  exact congrArg₂ (fun x y => (s.margin.conf, x, y)) (judged _) (judged _)

/-- Tests of other pins leave what is held of pin A of pair `p`. -/
theorem forAll_pulsePin_pinA_of_ne {p : Fin 16} {l : List Nat} (h : ∀ i ∈ l, i ≠ 2 * p.val) (s : State) :
    (forAll (State.pulsePin k before during after) l s).pinA p = s.pinA p := by
  induction l generalizing s with
  | nil => rfl
  | cons i l ih =>
    rw [forAll, ih fun j hj => h j (List.mem_cons_of_mem i hj)]
    exact State.pulsePin_pinA_of_ne s (h i List.mem_cons_self)

/-- After the tests of all pins both channels have judged pin A of a tested pair. -/
theorem forAll_pulsePin_pinA {p : Fin 16} {s : State} (ht : prType s.margin.conf p.val ≠ 0)
    (hp : prTest s.margin.conf p.val false = true) (hk : prSource s.margin.conf p.val false = k.val) :
    (forAll (State.pulsePin k before during after) (List.range 32) s).pinA p =
      (s.margin.conf, judgedA (failedPin before during after (2 * p.val)) (vget s.margin.a.pairs p).testA,
        judgedA (failedPin before during after (2 * p.val)) (vget s.margin.b.pairs p).testA) := by
  obtain ⟨l, r, pins⟩ := List.append_of_mem (List.mem_range.mpr (show 2 * p.val < 32 by omega))
  have once : (l ++ 2 * p.val :: r).Nodup := pins ▸ List.nodup_range
  obtain ⟨earlier, later⟩ : (∀ i ∈ l, i ≠ 2 * p.val) ∧ ∀ i ∈ r, i ≠ 2 * p.val := by
    obtain ⟨-, rest, apart⟩ := List.nodup_append.mp once
    exact ⟨fun i hi => apart i hi _ List.mem_cons_self, fun i hi e => (List.nodup_cons.mp rest).1 (e ▸ hi)⟩
  have same := forAll_pulsePin_pinA_of_ne (k := k) (before := before) (during := during) (after := after) earlier s
  simp only [State.pinA, Prod.mk.injEq] at same
  obtain ⟨conf, a, b⟩ := same
  rw [pins, forAll_append, forAll, forAll_pulsePin_pinA_of_ne later,
    State.pulsePin_pinA_self (by rwa [conf]) (by rwa [conf]) (by rwa [conf]), conf, a, b]

/-- A check of a pulse judges every tested pin, in a Margin whose start-up is over (R308). -/
theorem exec_testPulseCheck {s : State} (hr : s.margin.inReset = false) (h0 : s.margin.state ≠ .starting) (hf : s.margin.state ≠ .safeFault) :
    exec (.testPulseCheck k before during after) s = .next (forAll (State.pulsePin k before during after) (List.range 32) s) :=
  if_neg (by simp [hr, h0, hf])

section
variable {p : Fin 16} {s : State} (hr : s.margin.inReset = false) (h0 : s.margin.state ≠ .starting) (hf : s.margin.state ≠ .safeFault)
  (ht : prType s.margin.conf p.val ≠ 0) (hp : prTest s.margin.conf p.val false = true)
  (hk : prSource s.margin.conf p.val false = k.val)
include hr h0 hf ht hp hk

theorem testPulseCheck_fails (hb : before.getLsbD (2 * p.val) = true) (hd : during.getLsbD (2 * p.val) = true) :
    Completes (.testPulseCheck k before during after) s fun t =>
      (vget t.margin.a.pairs p).tpFailA = (vget s.margin.a.pairs p).tpFailA + 1 ∧
      ((vget s.margin.a.pairs p).tpFailA = 1 → (vget t.margin.a.pairs p).tpFaultA = true) ∧
      ((vget s.margin.a.pairs p).tpFailA = 0 → (vget t.margin.a.pairs p).tpFaultA = (vget s.margin.a.pairs p).tpFaultA) ∧
      t.margin.a.fns = s.margin.a.fns ∧ t.margin.state = s.margin.state ∧ t.chan = s.chan := by
  have judged := forAll_pulsePin_pinA (before := before) (during := during) (after := after) ht hp hk
  have failed : failedPin before during after (2 * p.val) = true := by rw [failedPin, hb, hd]; rfl
  obtain ⟨x, y, b, frame⟩ := forAll_rel OnlyPairs.refl OnlyPairs.trans
    (fun i u => State.pulsePin_onlyPairs (k := k) (before := before) (during := during) (after := after) i u) (List.range 32) s
  refine ⟨_, exec_testPulseCheck hr h0 hf, ?_⟩
  rw [failed] at judged
  rw [frame] at judged ⊢
  simp only [State.pinA, PairSt.testA, judgedA, if_true, Prod.mk.injEq] at judged
  obtain ⟨-, ⟨count, fault⟩, -⟩ := judged
  refine ⟨count, fun h1 => ?_, fun h0 => ?_, rfl, rfl, rfl⟩
  · rw [fault, h1]
    exact Bool.or_true _
  · rw [fault, h0]
    exact Bool.or_false _

theorem testPulseCheck_untested (hb : before.getLsbD (2 * p.val) = false) :
    Completes (.testPulseCheck k before during after) s fun t =>
      (vget t.margin.a.pairs p).tpFailA = 0 ∧ (vget t.margin.b.pairs p).tpFailA = 0 ∧
      (vget t.margin.a.pairs p).tpFaultA = (vget s.margin.a.pairs p).tpFaultA := by
  have judged := forAll_pulsePin_pinA (before := before) (during := during) (after := after) ht hp hk
  have untested : failedPin before during after (2 * p.val) = false := by rw [failedPin, hb]; rfl
  refine ⟨_, exec_testPulseCheck hr h0 hf, ?_⟩
  rw [untested] at judged
  simp only [State.pinA, PairSt.testA, judgedA, Prod.mk.injEq] at judged
  obtain ⟨-, ⟨countA, faultA⟩, countB, -⟩ := judged
  exact ⟨countA, countB, faultA.trans (Bool.or_false _)⟩

end

end

/-! ### Output tests (R311, R312) -/

/-- The switch of an output under test is open. -/
def Margin.openSwitch (k : Fin 8) (low : Bool) (m : Margin) : Margin :=
  if low then { m with testLow := m.testLow ||| BitVec.ofNat 8 (2 ^ k.val) }
  else { m with testHigh := m.testHigh ||| BitVec.ofNat 8 (2 ^ k.val) }

theorem exec_outputOffPulseTest {s : State} {k : Fin 8} (low : Bool) (hs : s.margin.state = .run) (ht : outTest s.margin.conf k.val = true)
    (hp : s.soPins k.val = (true, true)) (hn : s.margin.reactsOn k.val = false) : exec (.outputOffPulseTest k low) s =
      .next (State.commandFrom s (State.startTimer (.switchTest k.val low) (300 * microsecond)
        { s with margin := s.margin.openSwitch k low })) :=
  if_pos (by simp [hs, ht, hp, hn])

theorem outputOffPulseTest_skips {s : State} {k : Fin 8} (low : Bool) (h : s.margin.reactsOn k.val = true ∨ s.soPins k.val ≠ (true, true)) :
    exec (.outputOffPulseTest k low) s = .next s :=
  if_neg (by rcases h with h | h <;> simp [h])

/-- An open switch takes its side of an output that was on away. -/
theorem State.soPins_openSwitch {s : State} {k : Fin 8} (low : Bool) (hp : s.soPins k.val = (true, true)) :
    State.soPins { s with margin := s.margin.openSwitch k low } k.val = (low, !low) := by
  simp only [State.soPins, Prod.mk.injEq, Bool.and_eq_true, Bool.not_eq_true'] at hp
  obtain ⟨⟨⟨req, a⟩, high⟩, ⟨-, b⟩, lowSide⟩ := hp
  cases low
  · have opened : (s.margin.testHigh ||| BitVec.ofNat 8 (2 ^ k.val)).getLsbD k.val = true := or_two_pow_bit _ k.isLt
    simp only [State.soPins, Margin.openSwitch, Bool.false_eq_true, if_false, req, a, b, lowSide, opened]
    rfl
  · have opened : (s.margin.testLow ||| BitVec.ofNat 8 (2 ^ k.val)).getLsbD k.val = true := or_two_pow_bit _ k.isLt
    simp only [State.soPins, Margin.openSwitch, if_true, req, a, b, high, opened]
    rfl

/-- A switch leaves the channels and the output faults. -/
theorem Margin.openSwitch_keeps (k : Fin 8) (low : Bool) (m : Margin) :
    (m.openSwitch k low).soFault = m.soFault ∧ (m.openSwitch k low).a = m.a ∧ (m.openSwitch k low).b = m.b := by
  cases low <;> exact ⟨rfl, rfl, rfl⟩

theorem outputOffPulseTest_opens {s : State} {k : Fin 8} (low : Bool) (hs : s.margin.state = .run) (ht : outTest s.margin.conf k.val = true)
    (hp : s.soPins k.val = (true, true)) (hn : s.margin.reactsOn k.val = false) :
    Completes (.outputOffPulseTest k low) s fun t =>
      t.soPins k.val = (low, !low) ∧ t.margin.settling.getLsbD k.val = true ∧ t.margin.soFault = s.margin.soFault ∧
      t.margin.a = s.margin.a ∧ t.margin.b = s.margin.b ∧ (Timer.switchTest k.val low, s.now + 300 * microsecond) ∈ t.timers ∧ { t with
        margin := s.margin
        timers := s.timers } = s := by
  let u : State := State.startTimer (.switchTest k.val low) (300 * microsecond) { s with margin := s.margin.openSwitch k low }
  have pins : u.soPins k.val = (low, !low) := State.soPins_openSwitch low hp
  have settles := State.commandFrom_onlySettles s u
  have waits : (State.commandFrom s u).margin.settling.getLsbD k.val = true :=
    State.commandFrom_settling_of_ne k.isLt (by rw [hp, pins]; cases low <;> decide)
  have timer : (Timer.switchTest k.val low, s.now + 300 * microsecond) ∈ (State.commandFrom s u).timers :=
    State.commandFrom_timers (fun _ => by simp) (State.startTimer_mem _ _ _)
  obtain ⟨fault, a, b⟩ := s.margin.openSwitch_keeps k low
  obtain ⟨w, r, e⟩ := settles
  rw [e] at waits timer
  exact ⟨_, (exec_outputOffPulseTest low hs ht hp hn).trans (congrArg Host.Outcome.next e), pins, waits, fault, a, b, timer, rfl⟩

theorem switchTestEnd_waits {s : State} {k : Fin 8} {low : Bool} (h : s.ranOut (.switchTest k.val low) = false) :
    exec (.switchTestEnd k low) s = .next s :=
  congrArg Host.Outcome.next (if_pos (by rw [h]; rfl))

/-- The switch of an output under test is closed again. -/
def Margin.closeSwitch (k : Fin 8) (low : Bool) (m : Margin) : Margin :=
  if low then { m with testLow := m.testLow &&& ~~~(BitVec.ofNat 8 (2 ^ k.val)) }
  else { m with testHigh := m.testHigh &&& ~~~(BitVec.ofNat 8 (2 ^ k.val)) }

theorem switchTestEnd_closes {s : State} {k : Fin 8} {low : Bool} (h : s.ranOut (.switchTest k.val low) = true) :
    Completes (.switchTestEnd k low) s fun t =>
      (if low = true then t.margin.testLow else t.margin.testHigh).getLsbD k.val = false ∧ t.margin.a = s.margin.a ∧
      t.margin.b = s.margin.b ∧ { t with
        margin := s.margin
        timers := s.timers } = s := by
  obtain ⟨w, r, settles⟩ := State.commandFrom_onlySettles s { s with margin := s.margin.closeSwitch k low }
  refine ⟨_, (congrArg Host.Outcome.next (if_neg (by rw [h]; decide))).trans (congrArg Host.Outcome.next settles), ?_⟩
  cases low
  · exact ⟨and_not_two_pow_bit _ _, rfl, rfl, rfl⟩
  · exact ⟨and_not_two_pow_bit _ _, rfl, rfl, rfl⟩

/-! ### FB_SETTLE (R311) -/

theorem soFbSettle_waits {s : State} {k : Fin 8} (band : FbBand) (h : s.ranOut (.fbSettle k.val) = false) :
    exec (.soFbSettle k band) s = .next s :=
  if_pos (by simp [h])

/-- The command is steady, and the readback seen is the latest one. -/
def State.settled (k : Fin 8) (band : FbBand) (s : State) : State := { s with
  margin := { s.margin with
    settling := s.margin.settling &&& ~~~(BitVec.ofNat 8 (2 ^ k.val))
    fb := lset (s.margin.fb ++ List.replicate (8 - s.margin.fb.length) .low) k.val band } }

section
variable {s : State} {k : Fin 8} {band : FbBand} (h : s.ranOut (.fbSettle k.val) = true) (hr : s.margin.inReset = false)
  (hs : s.margin.state = .unconfigured ∨ s.margin.state = .awaitAccept ∨ s.margin.state = .run)
include h hr hs

theorem exec_soFbSettle : exec (.soFbSettle k band) s = .next ((s.settled k band).judgeOutput k.val band) :=
  if_neg (by rcases hs with hs | hs | hs <;> simp [h, hr, hs])

theorem soFbSettle_agrees (hb : band = expectedBand (s.soPins k.val)) :
    Completes (.soFbSettle k band) s fun t =>
      t.margin.soFault = s.margin.soFault ∧ t.margin.settling.getLsbD k.val = false ∧ t.blot = s.blot := by
  have fits : band = expectedBand ((s.settled k band).soPins k.val) := hb
  exact ⟨s.settled k band, by rw [exec_soFbSettle h hr hs, State.judgeOutput_of_expected fits], rfl, and_not_two_pow_bit _ _, rfl⟩

theorem soFbSettle_faults (hu : outUsed s.margin.conf k.val = true) (hf : s.margin.soFault.getLsbD k.val = false)
    (hb : band ≠ expectedBand (s.soPins k.val)) :
    Completes (.soFbSettle k band) s fun t =>
      t.margin.soFault.getLsbD k.val = true ∧ t.soPins k.val = (false, false) ∧
      t.blot.raised = s.blot.raised ++ [s.event 0x0B05 ALARM k.val (bandCode band + 4 * bandCode (expectedBand (s.soPins k.val)))] := by
  have wrong : (s.settled k band).judgeOutput k.val band = (s.settled k band).outputFault k.val band :=
    State.judgeOutput_of_wrong (s := s.settled k band) hu hf hb
  obtain ⟨fault, off⟩ := State.outputFault_off band (s.settled k band) k.isLt
  refine ⟨_, by rw [exec_soFbSettle h hr hs, wrong], fault, off, ?_⟩
  obtain ⟨w, r, e⟩ := State.outputFault_eq k.val band (s.settled k band)
  rw [e]
  rfl

end

/-! ### The STOP1 timer and staging (R317, R326) -/

/-- The functions after the timer of `f` has ended: it does not run, and a function whose timer ran turns its outputs off. -/
theorem MChan.endTimer_fn (f : Fin 16) (m : MChan) : (vget (m.endTimer f).fns f).timer = false ∧
    ((vget m.fns f).timer = true → (vget (m.endTimer f).fns f).powerOff = true) ∧ (m.endTimer f).conf = m.conf := by
  unfold MChan.endTimer
  dsimp only
  split
  next => rw [vget_vset_self]; exact ⟨rfl, fun _ => rfl, rfl⟩
  next h => exact ⟨by simpa using h, fun h' => absurd h' h, rfl⟩

theorem stop1TimerExpiry_rests {s : State} {f : Fin 16} (h : s.margin.fnAny FnSt.timer f.val = false ∨ s.ranOut (.stop1 f.val) = false) :
    exec (.stop1TimerExpiry f) s = .next s :=
  if_pos (by rcases h with h | h <;> simp [h])

/-- The outputs of the function whose STOP1 timer has ended are off, its axes not yet. -/
def State.stopOutputs (f : Fin 16) (s : State) : State :=
  State.commandFrom s { s with
    margin := ({ s.margin with
      a := s.margin.a.endTimer f
      b := s.margin.b.endTimer f } : Margin).regrant }

theorem exec_stop1TimerExpiry {s : State} {f : Fin 16} (ht : s.margin.fnAny FnSt.timer f.val = true) (hr : s.ranOut (.stop1 f.val) = true) :
    exec (.stop1TimerExpiry f) s =
      .next (forAll State.axisOff (allAxes.filter fun a => (fnAxMask s.margin.conf f.val).testBit a.val) (s.stopOutputs f)) :=
  if_neg (by rw [ht, hr]; decide)

theorem stop1TimerExpiry_stops {s : State} {f : Fin 16} (ht : s.margin.fnAny FnSt.timer f.val = true) (hr : s.ranOut (.stop1 f.val) = true) :
    Completes (.stop1TimerExpiry f) s fun t =>
      (vget t.margin.a.fns f).timer = false ∧ (vget t.margin.b.fns f).timer = false ∧
      (∀ k, k < 8 → (fnSoMask s.margin.conf f.val).testBit k = true → (t.soPins k).1 = true → (vget s.margin.a.fns f).timer = false) ∧
      (∀ a : Fin 8, (fnAxMask s.margin.conf f.val).testBit a.val = true → (s.ax a).state ≠ .disabled → (s.ax a).state ≠ .fault →
        (t.ax a).state = .standstill ∧ (t.ax a).ssMode = 1) := by
  obtain ⟨w, r, stops⟩ : OnlySettles _ (s.stopOutputs f) := State.commandFrom_onlySettles _ _
  obtain ⟨margin, -, -, -⟩ := Reacts.forAll State.axisOff_reacts
    (allAxes.filter fun a => (fnAxMask s.margin.conf f.val).testBit a.val) (s.stopOutputs f)
  obtain ⟨timerA, offA, confA⟩ := s.margin.a.endTimer_fn f
  refine ⟨_, exec_stop1TimerExpiry ht hr, ?_, ?_, fun k hk hm on => ?_, fun a ha hd hf => ?_⟩
  · rw [margin, stops]
    exact timerA
  · rw [margin, stops]
    exact (s.margin.b.endTimer_fn f).1
  · by_contra ran
    have held : (forAll State.axisOff (allAxes.filter fun a => (fnAxMask s.margin.conf f.val).testBit a.val)
        (s.stopOutputs f)).margin.a.permit.getLsbD k = false := by
      rw [margin, stops]
      exact MChan.grant_of_powerOff _ _ hk (by rw [confA]; exact hm) (offA (by simpa using ran))
    rw [State.soPins_high_of_permit held] at on
    exact Bool.false_ne_true on
  · have on : ((s.stopOutputs f).ax a).isOn := by
      rw [stops]
      exact ⟨hd, hf⟩
    exact forAll_axisOff_isOff (List.mem_filter.mpr ⟨List.mem_finRange a, ha⟩) on

theorem safeStagingExpiry_ends {s : State} (h : s.ranOut .staging = true) :
    exec .safeStagingExpiry s = .next { s with margin := { s.margin with staged := [] } } :=
  congrArg Host.Outcome.next (if_pos h)

theorem safeStagingExpiry_waits {s : State} (h : s.ranOut .staging = false) : exec .safeStagingExpiry s = .next s :=
  congrArg Host.Outcome.next (if_neg (by rw [h]; exact Bool.false_ne_true))

end Sys2Proof.Machine
end

section
/-! PROOF. The Margin's tick (R300 to R318): the judged readbacks, the evaluation of both channels, what the functions bring about; and O47. -/

namespace Sys2Proof.Machine

open Sys2Proof.Safety

/-! ### Readbacks and encoder faults (R311, R316) -/

/-- What the judgements of a tick change of the Margin: faults, outputs that await FB_SETTLE, readbacks and the PERMITs. -/
def Judges (s t : State) : Prop := ∃ x y o e w k r b, t = { s with
  margin := { s.margin with
    a := { s.margin.a with permit := x }
    b := { s.margin.b with permit := y }
    soFault := o
    encFault := e
    settling := w
    fb := k }
  timers := r
  blot := b } ∧ s.blot.raised <+: b.raised

theorem Judges.refl (s : State) : Judges s s := ⟨_, _, _, _, _, _, _, _, rfl, List.prefix_rfl⟩

theorem Judges.trans (s t u : State) : Judges s t → Judges t u → Judges s u := by
  rintro ⟨_, _, _, _, _, _, _, _, rfl, h⟩ ⟨x, y, o, e, w, k, r, b, rfl, h'⟩
  exact ⟨x, y, o, e, w, k, r, b, rfl, h.trans h'⟩

theorem State.judgeOutput_judges (k : Nat) (seen : FbBand) (s : State) : Judges s (s.judgeOutput k seen) := by
  unfold State.judgeOutput
  split
  · obtain ⟨w, r, e⟩ := s.outputFault_eq k seen
    rw [e]
    exact ⟨_, _, _, _, _, _, _, _, rfl, List.prefix_append _ _⟩
  · exact .refl s

theorem State.judgeAll_judges (fb : List FbBand) (s : State) : Judges s (s.judgeAll fb) := by
  refine forAll_rel Judges.refl Judges.trans (fun k t => ?_) _ s
  split
  · split
    · exact .refl t
    · exact State.judgeOutput_judges k _ t
  · exact .refl t

theorem State.encFaults_judges (s : State) : Judges s s.encFaults := by
  refine forAll_rel Judges.refl Judges.trans (fun a t => ?_) _ s
  split
  · exact ⟨_, _, _, _, _, _, _, _, rfl, List.prefix_append _ _⟩
  · exact .refl t

/-- The readbacks are taken and judged, and the encoders are compared, before the channels are evaluated. -/
def State.judged (x y : MarginIn) (s : State) : State :=
  ((({ s with margin := { s.margin with fb := x.fb } } : State).judgeAll x.fb).judgeAll y.fb).encFaults

theorem State.judged_judges (x y : MarginIn) (s : State) : Judges s (s.judged x y) := by
  refine Judges.trans _ _ _ ?_ (State.encFaults_judges _)
  refine Judges.trans _ _ _ (Judges.trans _ _ _ ?_ (State.judgeAll_judges _ _)) (State.judgeAll_judges _ _)
  exact ⟨_, _, _, _, _, _, _, _, rfl, List.prefix_rfl⟩

/-! ### Both channels evaluated (R300, R301) -/

/-- Both channels sample and evaluate. -/
def Margin.tick (m : Margin) : Margin :=
  { m with
    a := m.a.sample.tick (m.state == .run) m.referenced m.encFault m.soFault
    b := m.b.sample.tick (m.state == .run) m.referenced m.encFault m.soFault }

/-- The comparison of the channels is counted. -/
def Margin.compare (same : Bool) (m : Margin) : Margin :=
  { m with
    mismatch := if same then m.mismatch else satAdd m.mismatch 1
    diffRun := if same then 0 else m.diffRun + 1 }

/-- The Margin once both channels have been evaluated and compared. -/
def Margin.evaluated (x y : MarginIn) (m : Margin) : Margin := m.tick.compare (channelsAgree x y m.tick.a m.tick.b)

/-- The Margin takes over what its channels have evaluated; STOP1 timers begin. -/
def State.evaluated (x y : MarginIn) (s : State) : State :=
  forAll (fun f t => t.startTimer (.stop1 f) (fnStop1Ms s.margin.conf f * millisecond))
    ((List.range 16).filter fun f => s.margin.tick.fnAny FnSt.timer f && !s.margin.fnAny FnSt.timer f)
    (State.commandFrom s { s with margin := s.margin.evaluated x y })

/-- What the pairs and functions bring about that have changed from what they were in `o`. -/
def State.effects (o : Margin) (s : State) : State :=
  forAll (State.fnEffects o) (List.range 16) (forAll (State.pairEffects o) (List.range 16) s)

theorem State.marginEval_eq (x y : MarginIn) (s : State) : s.marginEval x y =
    if 3 ≤ ((s.judged x y).margin.evaluated x y).diffRun then (((s.judged x y).evaluated x y).effects (s.judged x y).margin).marginFault 1
    else ((s.judged x y).evaluated x y).effects (s.judged x y).margin := rfl

theorem State.pairEffects_reacts (o : Margin) (p : Nat) (s : State) : Reacts s (s.pairEffects o p) := by
  unfold State.pairEffects
  split
  · exact .raise ..
  · exact .refl s

/-- The violations that a function newly has are told (R314). -/
def State.tellViolation (o : Margin) (f : Nat) (s : State) : State :=
  if s.margin.fnAny FnSt.violated f && !o.fnAny FnSt.violated f then
    s.raise 0x0B02 ALARM f ((s.margin.violation f).1 + 2 ^ 32 * p32 (s.margin.violation f).2)
  else s

/-- A reaction that is newly in force is told and acts (R314, R317). -/
def State.beginReaction (c : Block) (f : Nat) (s : State) (newly : Bool) : State :=
  if newly then
    (if s.margin.fnAny FnSt.violated f then s else s.raise 0x0B01 NOTICE f (b2n (fnStop1 c f) + 2 ^ 8 * fnSoMask c f)).react c f
  else s

theorem State.fnEffects_eq (o : Margin) (f : Nat) (s : State) : s.fnEffects o f =
    let t := (s.tellViolation o f).beginReaction s.margin.conf f (s.margin.fnAny FnSt.inForce f && !o.fnAny FnSt.inForce f)
    if o.fnAny FnSt.inForce f && !s.margin.fnAny FnSt.inForce f then t.raise 0x0B0C INFO f (fnSoMask s.margin.conf f) else t := rfl

theorem State.tellViolation_reacts (o : Margin) (f : Nat) (s : State) : Reacts s (s.tellViolation o f) := by
  unfold State.tellViolation
  split
  · exact .raise ..
  · exact .refl s

theorem State.beginReaction_reacts (c : Block) (f : Nat) (s : State) (newly : Bool) :
    Reacts s (s.beginReaction c f newly) := by
  unfold State.beginReaction
  split
  · refine Reacts.trans _ _ _ ?_ (State.react_reacts c f _)
    split
    · exact .refl s
    · exact .raise ..
  · exact .refl s

theorem State.fnEffects_reacts (o : Margin) (f : Nat) (s : State) : Reacts s (s.fnEffects o f) := by
  rw [State.fnEffects_eq]
  dsimp only
  have begins := (s.tellViolation_reacts o f).trans _ _ _ (State.beginReaction_reacts s.margin.conf f _
    (s.margin.fnAny FnSt.inForce f && !o.fnAny FnSt.inForce f))
  split
  · exact begins.trans _ _ _ (.raise ..)
  · exact begins

theorem State.effects_reacts (o : Margin) (s : State) : Reacts s (s.effects o) :=
  (Reacts.forAll (State.pairEffects_reacts o) _ s).trans _ _ _ (Reacts.forAll (State.fnEffects_reacts o) _ _)

/-- Of the Margin, the rest of a tick leaves what the channels have evaluated. -/
theorem State.evaluated_margin (x y : MarginIn) (s : State) : ∃ w,
    (s.evaluated x y).margin = { s.margin.evaluated x y with settling := w } ∧ (s.evaluated x y).tb = s.tb ∧
    (s.evaluated x y).blot = s.blot := by
  obtain ⟨w, r, e⟩ : OnlySettles { s with margin := s.margin.evaluated x y } (s.evaluated x y) :=
    (State.commandFrom_onlySettles s _).trans _ _ _
      (forAll_rel OnlySettles.refl OnlySettles.trans (fun _ _ => State.startTimer_onlySettles _ _ _) _ _)
  rw [e]
  exact ⟨w, rfl, rfl, rfl⟩

/-! ### Functions (R314, R317) -/

/-- A pair whose pin A is not at its OK level is in DEMAND (R304). -/
theorem PairSt.tick_demand {c : Block} {p : Nat} {si : BitVec 32} (act : Bool) (q : PairSt) (h : si.getLsbD (2 * p) = false) :
    (q.tick c p si act).demand = true := by
  have low : (okPins c p si).1 = false := h
  show (!((okPins c p si).1 && (okPins c p si).2)) = true
  rw [low]
  rfl

/-- A STOP0 function that is demanded comes into force and turns its outputs off (R314, R317). -/
theorem FnSt.tick_stop {c : Block} {f : Nat} {m : MChan} {q : FnSt} (referenced encFault : BitVec 8) (act : Bool) (hk : fnKind c f = 1)
    (hs : fnStop1 c f = false) (hq : q.inForce = false) (hd : m.demands c f = true) :
    (q.tick c referenced encFault act m f).inForce = true ∧ (q.tick c referenced encFault act m f).powerOff = true := by
  unfold FnSt.tick
  rw [if_neg (by rw [hk]; decide)]
  simp [hk, hs, hq, hd]

/-- A channel whose pairs have been evaluated. -/
def MChan.tickPairs (m : MChan) : MChan :=
  { m with
    pairs := Vector.ofFn fun p =>
      if prType m.conf p.val = 0 then {} else (vget m.pairs p).tick m.conf p.val m.si (m.actuation m.conf m.si) }

/-- A channel in RUN whose pairs and functions have been evaluated. -/
def MChan.tickFns (referenced encFault : BitVec 8) (m : MChan) : MChan :=
  { m.tickPairs with
    fns := Vector.ofFn fun f => (vget m.fns f).tick m.conf referenced encFault (m.actuation m.conf m.si) m.tickPairs f.val }

theorem MChan.tickFns_conf (referenced encFault : BitVec 8) (m : MChan) : (m.tickFns referenced encFault).conf = m.conf := by
  simp only [MChan.conf, MChan.tickFns, MChan.tickPairs]

theorem MChan.tick_run (referenced encFault soFault : BitVec 8) (m : MChan) : m.tick true referenced encFault soFault =
    { m.tickFns referenced encFault with permit := (m.tickFns referenced encFault).grant true soFault } := rfl

theorem MChan.tick_outside_run (referenced encFault soFault : BitVec 8) (m : MChan) :
    (m.tick false referenced encFault soFault).permit = 0 := MChan.grant_outside_run _ _

theorem MChan.tick_stored (run : Bool) (referenced encFault soFault : BitVec 8) (m : MChan) :
    (m.tick run referenced encFault soFault).stored = m.stored := by
  unfold MChan.tick
  dsimp only
  split <;> rfl

theorem MChan.tick_conf (run : Bool) (referenced encFault soFault : BitVec 8) (m : MChan) :
    (m.tick run referenced encFault soFault).conf = m.conf := by
  have cfg : (m.tick run referenced encFault soFault).cfg = m.cfg := by
    unfold MChan.tick
    dsimp only
    split <;> rfl
  rw [MChan.conf, cfg, MChan.conf]

theorem vget_ofFn {α : Type} {n : Nat} (g : Fin n → α) (i : Fin n) : vget (Vector.ofFn g) i = g i := by
  simp [vget]

/-- A pair whose pin A is low is in DEMAND, and so are the functions that it is an input of. -/
theorem MChan.tickPairs_demands {m : MChan} {f p : Fin 16} (hi : (fnInMask m.conf f.val).testBit p.val = true)
    (ht : prType m.conf p.val ≠ 0) (hp : m.si.getLsbD (2 * p.val) = false) : m.tickPairs.demands m.conf f.val = true := by
  have demand : (vget m.tickPairs.pairs p).demand = true := by
    rw [MChan.tickPairs, vget_ofFn, if_neg ht]
    exact PairSt.tick_demand _ _ hp
  exact List.any_eq_true.mpr ⟨p.val, List.mem_range.mpr p.isLt, by rw [hi, vgetD_val, demand]; rfl⟩

/-- A STOP0 function of a channel whose pin A of an input pair is low comes into force, and its outputs lose their PERMIT. -/
theorem MChan.tick_stop {c : Block} {f p : Fin 16} {m : MChan} (referenced encFault soFault : BitVec 8) (hc : m.conf = c)
    (hk : fnKind c f.val = 1) (hs : fnStop1 c f.val = false) (hi : (fnInMask c f.val).testBit p.val = true)
    (ht : prType c p.val ≠ 0) (hp : m.si.getLsbD (2 * p.val) = false) (hq : (vget m.fns f).inForce = false) :
    (vget (m.tick true referenced encFault soFault).fns f).inForce = true ∧
    ∀ k, k < 8 → (fnSoMask c f.val).testBit k = true → (m.tick true referenced encFault soFault).permit.getLsbD k = false := by
  subst hc
  obtain ⟨force, off⟩ := FnSt.tick_stop referenced encFault (m.actuation m.conf m.si) hk hs hq (MChan.tickPairs_demands hi ht hp)
  have fn : vget (m.tickFns referenced encFault).fns f =
      (vget m.fns f).tick m.conf referenced encFault (m.actuation m.conf m.si) m.tickPairs f.val := vget_ofFn _ f
  rw [← fn] at force off
  rw [MChan.tick_run]
  exact ⟨force, fun k hk8 hm => MChan.grant_of_powerOff _ _ hk8 (by rw [MChan.tickFns_conf]; exact hm) off⟩

/-- What a function that comes newly into force brings about is told: its violation, or its demand. -/
theorem State.fnEffects_tells {o : Margin} {f : Nat} {s : State} (hf : s.margin.fnAny FnSt.inForce f = true)
    (ho : o.fnAny FnSt.inForce f = false) (hv : o.fnAny FnSt.violated f = false) (hs : fnStop1 s.margin.conf f = false) :
    ∃ e ∈ (s.fnEffects o f).blot.raised, e = s.event 0x0B01 NOTICE f (2 ^ 8 * fnSoMask s.margin.conf f) ∨
      ∃ v, e = s.event 0x0B02 ALARM f v := by
  have rest : Reports ((s.tellViolation o f).beginReaction s.margin.conf f true) (s.fnEffects o f) := by
    rw [State.fnEffects_eq, hf, ho]
    exact .refl _
  by_cases violated : s.margin.fnAny FnSt.violated f = true
  · have told : s.tellViolation o f = s.raise 0x0B02 ALARM f ((s.margin.violation f).1 + 2 ^ 32 * p32 (s.margin.violation f).2) :=
      if_pos (by rw [violated, hv]; rfl)
    obtain ⟨-, -, -, reports⟩ := State.beginReaction_reacts s.margin.conf f (s.tellViolation o f) true
    refine ⟨s.event 0x0B02 ALARM f ((s.margin.violation f).1 + 2 ^ 32 * p32 (s.margin.violation f).2), rest.mem (reports.mem ?_),
      .inr ⟨_, rfl⟩⟩
    rw [told, State.raise_raised]
    exact List.mem_append_right _ (List.mem_singleton_self _)
  · have quiet : s.tellViolation o f = s := if_neg (by simp [violated])
    have begins : s.beginReaction s.margin.conf f true =
        (s.raise 0x0B01 NOTICE f (2 ^ 8 * fnSoMask s.margin.conf f)).react s.margin.conf f := by
      rw [State.beginReaction, if_pos rfl, if_neg violated, hs]
      congr 2
      exact Nat.zero_add _
    obtain ⟨-, -, -, reports⟩ := State.react_reacts s.margin.conf f (s.raise 0x0B01 NOTICE f (2 ^ 8 * fnSoMask s.margin.conf f))
    refine ⟨s.event 0x0B01 NOTICE f (2 ^ 8 * fnSoMask s.margin.conf f), rest.mem ?_, .inl rfl⟩
    rw [quiet, begins]
    refine reports.mem ?_
    rw [State.raise_raised]
    exact List.mem_append_right _ (List.mem_singleton_self _)

/-- The functions are gone through one after the other: what one that comes newly into force brings about is told. -/
theorem State.effects_tells {o : Margin} {f : Fin 16} {s : State} (hf : s.margin.fnAny FnSt.inForce f.val = true)
    (ho : o.fnAny FnSt.inForce f.val = false) (hv : o.fnAny FnSt.violated f.val = false) (hs : fnStop1 s.margin.conf f.val = false) :
    ∃ e ∈ (s.effects o).blot.raised, e = s.event 0x0B01 NOTICE f.val (2 ^ 8 * fnSoMask s.margin.conf f.val) ∨
      ∃ v, e = s.event 0x0B02 ALARM f.val v := by
  obtain ⟨l, r, fns⟩ := List.append_of_mem (List.mem_range.mpr f.isLt)
  let w := forAll (State.pairEffects o) (List.range 16) s
  let u := forAll (State.fnEffects o) l w
  have whole : s.effects o = forAll (State.fnEffects o) r (u.fnEffects o f.val) := by
    show forAll (State.fnEffects o) (List.range 16) w = _
    rw [fns, forAll_append, forAll]
  obtain ⟨margin, tb, -, -⟩ : Reacts s u :=
    (Reacts.forAll (State.pairEffects_reacts o) _ s).trans _ _ _ (Reacts.forAll (State.fnEffects_reacts o) _ _)
  obtain ⟨-, -, -, later⟩ := Reacts.forAll (State.fnEffects_reacts o) r (u.fnEffects o f.val)
  obtain ⟨e, told, which⟩ := State.fnEffects_tells (s := u) (f := f.val) (by rw [margin]; exact hf) ho hv (by rw [margin]; exact hs)
  refine ⟨e, ?_, ?_⟩
  · rw [whole]
    exact later.mem told
  · have event : ∀ code sev source param, u.event code sev source param = s.event code sev source param :=
      fun _ _ _ _ => State.event_of_tb _ _ _ _ tb
    simpa only [margin, event] using which

/-! ### The tick's row -/

/-- The channels have filtered their pins, and their memories are as the tick finds them. -/
def State.read (x y : MarginIn) (s : State) : State := { s with margin := s.margin.read x y }

theorem marginTick_rests {s : State} (x y : MarginIn) (h : s.margin.inReset = true ∨ s.margin.state = .safeFault) :
    exec (.marginTick x y) s = .next s :=
  if_pos (by simpa using h)

section
variable {s : State} {x y : MarginIn} (hr : s.margin.inReset = false)
include hr

theorem exec_marginTick_of_fault {code : Nat} (hs : s.margin.state ≠ .safeFault) (hd : (s.margin.read x y).diagCode x y = some code) :
    exec (.marginTick x y) s = .next ((s.read x y).marginFault code) := by
  show execMarginTick x y s = _
  unfold execMarginTick
  rw [if_neg (by simp [hr, hs])]
  dsimp only
  rw [hd]
  rfl

theorem marginTick_latches {code : Nat} (hs : s.margin.state ≠ .safeFault) (hd : (s.margin.read x y).diagCode x y = some code) :
    Completes (.marginTick x y) s fun t =>
      t.margin.state = .safeFault ∧ t.margin.intFault = code ∧ t.margin.a.permit = 0 ∧ t.margin.b.permit = 0 ∧
      t.blot.raised = s.blot.raised ++ [s.event 0x0B07 FATAL 0 code] ∧ t.chan = s.chan ∧ t.axis = s.axis := by
  obtain ⟨state, fault, a, b⟩ := State.marginFault_latched (s := s.read x y) code hr hs
  obtain ⟨w, r, h, e, -⟩ := State.marginFault_eq (s := s.read x y) code hr hs
  refine ⟨_, exec_marginTick_of_fault hr hs hd, state, fault, a, b, ?_⟩
  rw [e]
  exact ⟨rfl, rfl, rfl⟩

theorem exec_marginTick (hs : s.margin.state = .unconfigured ∨ s.margin.state = .awaitAccept ∨ s.margin.state = .run)
    (hd : (s.margin.read x y).diagCode x y = none) : exec (.marginTick x y) s = .next ((s.read x y).marginEval x y) := by
  show execMarginTick x y s = _
  unfold execMarginTick
  rw [if_neg (by rcases hs with hs | hs | hs <;> simp [hr, hs])]
  dsimp only
  rw [hd]
  dsimp only
  rw [if_neg (by rcases hs with hs | hs | hs <;> simp [hs])]
  rfl

end

/-- The Margin after the effects of a tick, before a disagreement of its channels acts (R301). -/
def State.ticked (x y : MarginIn) (s : State) : State := ((s.judged x y).evaluated x y).effects (s.judged x y).margin

/-- The third disagreement of the channels in a row latches SAFE_FAULT (R301). -/
theorem State.marginEval_cases (x y : MarginIn) (s : State) :
    s.marginEval x y = s.ticked x y ∨ s.marginEval x y = (s.ticked x y).marginFault 1 := by
  rw [State.marginEval_eq]
  split
  · exact .inr rfl
  · exact .inl rfl

theorem State.ticked_margin (x y : MarginIn) (s : State) :
    ∃ w, (s.ticked x y).margin = { (s.judged x y).margin.evaluated x y with settling := w } := by
  obtain ⟨w, margin, -, -⟩ := (s.judged x y).evaluated_margin x y
  obtain ⟨kept, -, -, -⟩ := ((s.judged x y).evaluated x y).effects_reacts (s.judged x y).margin
  exact ⟨w, kept.trans margin⟩

/-- Each channel has evaluated itself with the faults that the judgements of the tick have left. -/
theorem State.ticked_channels (x y : MarginIn) (s : State) : ∃ xp yp o e,
    (s.ticked x y).margin.a = ({ s.margin.a with permit := xp } : MChan).sample.tick (s.margin.state == .run) s.margin.referenced e o ∧
    (s.ticked x y).margin.b = ({ s.margin.b with permit := yp } : MChan).sample.tick (s.margin.state == .run) s.margin.referenced e o := by
  obtain ⟨w, margin⟩ := s.ticked_margin x y
  obtain ⟨xp, yp, o, e, _, _, _, _, judged, -⟩ := s.judged_judges x y
  rw [margin, judged]
  exact ⟨xp, yp, o, e, rfl, rfl⟩

/-- What a tick keeps of the Margin before a disagreement acts; outside RUN it permits nothing. -/
theorem State.ticked_keeps (x y : MarginIn) (s : State) : (s.ticked x y).margin.state = s.margin.state ∧
    (s.ticked x y).margin.inReset = s.margin.inReset ∧ (s.ticked x y).margin.cfg = s.margin.cfg ∧
    (s.ticked x y).margin.accepted = s.margin.accepted ∧
    (s.margin.state ≠ .run → (s.ticked x y).margin.a.permit = 0 ∧ (s.ticked x y).margin.b.permit = 0) := by
  obtain ⟨xp, yp, o, e, a, b⟩ := s.ticked_channels x y
  obtain ⟨state, reset, accepted⟩ : (s.ticked x y).margin.state = s.margin.state ∧
      (s.ticked x y).margin.inReset = s.margin.inReset ∧ (s.ticked x y).margin.accepted = s.margin.accepted := by
    obtain ⟨w, margin⟩ := s.ticked_margin x y
    obtain ⟨_, _, _, _, _, _, _, _, judged, -⟩ := s.judged_judges x y
    rw [margin, judged]
    exact ⟨rfl, rfl, rfl⟩
  refine ⟨state, reset, ?_, accepted, fun h => ?_⟩
  · rw [Margin.cfg, a]
    exact MChan.tick_stored ..
  · have out : (s.margin.state == .run) = false := by simpa using h
    rw [a, b, out]
    exact ⟨MChan.tick_outside_run .., MChan.tick_outside_run ..⟩

section
variable {s : State} {x y : MarginIn} (hr : s.margin.inReset = false)
include hr

/-- What a tick keeps: the state, unless a disagreement latches SAFE_FAULT, what is stored and what is accepted; outside RUN nothing is
permitted. -/
theorem marginTick_keeps (hs : s.margin.state = .unconfigured ∨ s.margin.state = .awaitAccept ∨ s.margin.state = .run)
    (hd : (s.margin.read x y).diagCode x y = none) :
    Completes (.marginTick x y) s fun t =>
      (t.margin.state = s.margin.state ∨ t.margin.state = .safeFault ∧ t.margin.intFault = 1) ∧ t.margin.cfg = s.margin.cfg ∧
      t.margin.accepted = s.margin.accepted ∧ (t.margin.state ≠ .run → t.margin.a.permit = 0 ∧ t.margin.b.permit = 0) := by
  obtain ⟨state, reset, cfg, accepted, off⟩ := (s.read x y).ticked_keeps x y
  refine ⟨_, exec_marginTick hr hs hd, ?_⟩
  rcases (s.read x y).marginEval_cases x y with e | e <;> rw [e]
  · exact ⟨.inl state, cfg, accepted, fun h => off (by rwa [state] at h)⟩
  · have sound : ((s.read x y).ticked x y).margin.state ≠ .safeFault := by
      rw [state]
      show s.margin.state ≠ .safeFault
      rcases hs with hs | hs | hs <;> rw [hs] <;> decide
    obtain ⟨fault, code, a, b⟩ := State.marginFault_latched 1 (reset.trans hr) sound
    obtain ⟨-, -, cfg', accepted', -⟩ := State.marginFault_keeps 1 ((s.read x y).ticked x y)
    exact ⟨.inr ⟨fault, code⟩, cfg'.trans cfg, accepted'.trans accepted, fun _ => ⟨a, b⟩⟩

end

/-! ### A demanded STOP function (R314, R317) -/

/-- A tick takes the PERMIT of a demanded STOP0 function's outputs away in both channels. -/
theorem State.ticked_stops {s : State} {x y : MarginIn} {f p : Fin 16} {c : Block} (hs : s.margin.state = .run) (ha : s.margin.a.conf = c)
    (hb : s.margin.b.conf = c) (hk : fnKind c f.val = 1) (h1 : fnStop1 c f.val = false) (hi : (fnInMask c f.val).testBit p.val = true)
    (ht : prType c p.val ≠ 0) (la : s.margin.a.si.getLsbD (2 * p.val) = false) (lb : s.margin.b.si.getLsbD (2 * p.val) = false)
    (fa : (vget s.margin.a.fns f).inForce = false) (fb : (vget s.margin.b.fns f).inForce = false) :
    ((vget (s.ticked x y).margin.a.fns f).inForce = true ∧ (vget (s.ticked x y).margin.b.fns f).inForce = true) ∧
    ∀ k, k < 8 → (fnSoMask c f.val).testBit k = true →
      (s.ticked x y).margin.a.permit.getLsbD k = false ∧ (s.ticked x y).margin.b.permit.getLsbD k = false := by
  obtain ⟨xp, yp, o, e, a, b⟩ := s.ticked_channels x y
  have run : (s.margin.state == .run) = true := by rw [hs]; rfl
  obtain ⟨forceA, offA⟩ := MChan.tick_stop (m := ({ s.margin.a with permit := xp } : MChan).sample) s.margin.referenced e o ha hk h1 hi ht la fa
  obtain ⟨forceB, offB⟩ := MChan.tick_stop (m := ({ s.margin.b with permit := yp } : MChan).sample) s.margin.referenced e o hb hk h1 hi ht lb fb
  rw [a, b, run]
  exact ⟨⟨forceA, forceB⟩, fun k hk8 hm => ⟨offA k hk8 hm, offB k hk8 hm⟩⟩

/-- The tick that brings a STOP0 function into force tells of it. -/
theorem State.ticked_tells {s : State} {x y : MarginIn} {f : Fin 16} (h1 : fnStop1 s.margin.conf f.val = false)
    (hf : (vget (s.ticked x y).margin.a.fns f).inForce = true)
    (fa : (vget s.margin.a.fns f).inForce = false) (fb : (vget s.margin.b.fns f).inForce = false)
    (va : (vget s.margin.a.fns f).violated = false) (vb : (vget s.margin.b.fns f).violated = false) :
    ∃ e ∈ (s.ticked x y).blot.raised, e = s.event 0x0B01 NOTICE f.val (2 ^ 8 * fnSoMask s.margin.conf f.val) ∨
      ∃ v, e = s.event 0x0B02 ALARM f.val v := by
  let u := s.judged x y
  let v := u.evaluated x y
  obtain ⟨xp, yp, o, e, _, _, _, _, judged, -⟩ := s.judged_judges x y
  obtain ⟨w, margin, tb, -⟩ := u.evaluated_margin x y
  obtain ⟨kept, -, -, -⟩ := v.effects_reacts u.margin
  have before : ∀ g : FnSt → Bool, g (vget s.margin.a.fns f) = false → g (vget s.margin.b.fns f) = false → u.margin.fnAny g f.val = false := by
    intro g ga gb
    have judgedU : u = _ := judged
    rw [judgedU, Margin.fnAny, vgetD_val, vgetD_val]
    exact Bool.or_eq_false_iff.mpr ⟨ga, gb⟩
  have now : v.margin.fnAny FnSt.inForce f.val = true := by
    have force : (vget v.margin.a.fns f).inForce = true := by rw [← kept]; exact hf
    rw [Margin.fnAny, vgetD_val, force, Bool.true_or]
  have conf : v.margin.conf = s.margin.conf := by
    obtain ⟨_, _, _, _, a, -⟩ := s.ticked_channels x y
    rw [← kept, Margin.conf]
    exact (congrArg MChan.conf a).trans (MChan.tick_conf ..)
  have event : ∀ code sev source param, v.event code sev source param = s.event code sev source param := by
    have same : v.tb = s.tb := tb.trans (by rw [show u = _ from judged])
    exact fun _ _ _ _ => State.event_of_tb _ _ _ _ same
  have tells := State.effects_tells (o := u.margin) (s := v) now (before _ fa fb) (before _ va vb) (by rw [conf]; exact h1)
  simp only [conf, event] at tells
  exact tells

theorem marginTick_stops {s : State} {x y : MarginIn} {f p : Fin 16} {c : Block} (hr : s.margin.inReset = false) (hs : s.margin.state = .run)
    (hd : (s.margin.read x y).diagCode x y = none) (ha : (s.margin.read x y).a.conf = c) (hb : (s.margin.read x y).b.conf = c)
    (hk : fnKind c f.val = 1) (h1 : fnStop1 c f.val = false) (hi : (fnInMask c f.val).testBit p.val = true) (ht : prType c p.val = 1)
    (la : (s.margin.read x y).a.si.getLsbD (2 * p.val) = false) (lb : (s.margin.read x y).b.si.getLsbD (2 * p.val) = false)
    (fa : (vget s.margin.a.fns f).inForce = false) (fb : (vget s.margin.b.fns f).inForce = false) :
    Completes (.marginTick x y) s fun t =>
      (vget t.margin.a.fns f).inForce = true ∧ (vget t.margin.b.fns f).inForce = true ∧
      (∀ k, k < 8 → (fnSoMask c f.val).testBit k = true →
        t.margin.a.permit.getLsbD k = false ∧ t.margin.b.permit.getLsbD k = false ∧ t.soPins k = (false, false)) ∧
      ((vget s.margin.a.fns f).violated = false → (vget s.margin.b.fns f).violated = false →
        ∃ e ∈ t.blot.raised, e = s.event 0x0B01 NOTICE f.val (2 ^ 8 * fnSoMask c f.val) ∨
        ∃ v, e = s.event 0x0B02 ALARM f.val v) := by
  let u := s.read x y
  have conf : u.margin.conf = c := ha
  have used : prType c p.val ≠ 0 := by rw [ht]; decide
  obtain ⟨⟨forceA, forceB⟩, off⟩ := State.ticked_stops (s := u) (x := x) (y := y) hs ha hb hk h1 hi used la lb fa fb
  have tells := State.ticked_tells (s := u) (x := x) (y := y) (f := f) (by rw [conf]; exact h1) forceA fa fb
  rw [conf] at tells
  obtain ⟨state, reset, -, -, -⟩ := u.ticked_keeps x y
  refine ⟨_, exec_marginTick hr (.inr (.inr hs)) hd, ?_⟩
  rcases u.marginEval_cases x y with e | e <;> rw [e]
  · exact ⟨forceA, forceB, fun k hk8 hm => ⟨(off k hk8 hm).1, (off k hk8 hm).2, State.soPins_of_permit (off k hk8 hm).1 (off k hk8 hm).2⟩,
      tells⟩
  · obtain ⟨-, -, pa, pb⟩ := State.marginFault_latched (s := u.ticked x y) 1 (reset.trans hr)
      (by rw [state]; show s.margin.state ≠ _; rw [hs]; decide)
    obtain ⟨fnsA, fnsB, -, -, reports⟩ := State.marginFault_keeps 1 (u.ticked x y)
    have none_ : ∀ k, ((u.ticked x y).marginFault 1).margin.a.permit.getLsbD k = false ∧
        ((u.ticked x y).marginFault 1).margin.b.permit.getLsbD k = false := by
      rw [pa, pb]
      exact fun _ => ⟨BitVec.getLsbD_zero, BitVec.getLsbD_zero⟩
    refine ⟨by rw [fnsA]; exact forceA, by rw [fnsB]; exact forceB, fun k _ _ => ⟨(none_ k).1, (none_ k).2, ?_⟩, fun va vb => ?_⟩
    · exact State.soPins_of_permit (none_ k).1 (none_ k).2
    · obtain ⟨ev, told, which⟩ := tells va vb
      exact ⟨ev, reports.mem told, which⟩

end Sys2Proof.Machine

namespace Sys2Proof

open Sys2Proof.Machine Sys2Proof.Safety

/-- Settles O47: each clause is the lemma of its row above. -/
theorem marginEventsComplete : Obligations.MarginEventsComplete := by
  unfold Obligations.MarginEventsComplete
  exact ⟨fun _ _ _ _ hr hs hd => marginTick_latches hr hs hd,
    fun _ _ _ hr hs hd => marginTick_keeps hr hs hd,
    fun _ _ _ _ _ _ hr hs hd ha hb hk h1 hi ht la lb fa fb => marginTick_stops hr hs hd ha hb hk h1 hi ht la lb fa fb,
    fun _ x y h => marginTick_rests x y h,
    fun _ hr hs => ⟨tickWatchExpiry_latches hr hs, safeClockCheck_latches hr hs, rfl⟩,
    fun _ hr hs => ⟨fun hc => marginStarted_without_crc hr hs hc, fun _ hc => ⟨fun hm => marginStarted_awaits hr hs hc hm,
      fun hm ha => marginStarted_runs hr hs hc hm ha, fun hm ha => marginStarted_without_acceptance hr hs hc hm ha⟩⟩,
    fun s k => ⟨testPulse_begins s k, fun h => testPulseEnd_waits h, fun h => testPulseEnd_ends h⟩,
    fun _ _ _ _ _ _ hr h0 hf ht hp hk hb hd => testPulseCheck_fails hr h0 hf ht hp hk hb hd,
    fun _ _ _ _ _ _ hr h0 hf ht hp hk hb => testPulseCheck_untested hr h0 hf ht hp hk hb,
    fun _ _ low hs ht hp hn => outputOffPulseTest_opens low hs ht hp hn,
    fun _ _ low h => outputOffPulseTest_skips low h,
    fun _ _ _ h => switchTestEnd_waits h,
    fun _ _ _ h => switchTestEnd_closes h,
    fun _ _ band h => soFbSettle_waits band h,
    fun _ _ _ h hr hs hu hf => ⟨fun hb => soFbSettle_agrees h hr hs hb, fun hb => soFbSettle_faults h hr hs hu hf hb⟩,
    fun _ _ ht hr => stop1TimerExpiry_stops ht hr,
    fun _ _ h => stop1TimerExpiry_rests h,
    fun _ h => safeStagingExpiry_ends h,
    fun _ h => safeStagingExpiry_waits h⟩

end Sys2Proof
end

section
/-! PROOF. The Margin's commands (R325 to R330): the safety password, staging, commit, acceptance, status, log and SAFE_RESET; and O46. -/

namespace Sys2Proof.Machine

open Sys2Proof.Safety

/-! ### A safety command's answer (R346, R360) -/

/-- `t` is `s` once the response of command `m` has been written, as far as the Margin's commands can tell. -/
def Answered (m : MbCmd) (r : Response) (s t : State) : Prop :=
  t.margin = s.margin ∧ t.timers = s.timers ∧ t.chan = s.chan ∧ t.axis = s.axis ∧ Reports s t ∧
  ((s.mbox m.mb).discard = 0 → (t.mbox m.mb).done = (s.mbox m.mb).done ++ [r])

theorem State.respond_answered {m : MbCmd} (r : Response) (s : State) : Answered m r s (s.respond m.mb r) :=
  ⟨State.respond_margin .., State.respond_timers .., State.respond_chan .., State.respond_axis .., State.respond_reports ..,
    State.respond_done_of_open r⟩

section
variable {h : Hdr} {own : MbCmd → State → Verdict} {m : MbCmd} {s t : State} {d : Nat} {p : Block}
  (hg : Granted h.opcode (h.auth m) m s) (h0 : m.target = 0) (hl : h.lenOk m = true) (ho : h.opcode / 256 = 9)
  (hf : h.forms.contains 0 = true) (hi : ∀ u, h.items m u = 0)
include hg h0 hl ho hf hi

theorem Hdr.safety_done (e : own m (s.takeOff h.opcode m) = .done t d p) :
    ∃ u, h.run own m s = u ∧ Answered m (okAnswer m t.margin.state.code d p) t u := by
  refine ⟨_, ?_, State.respond_answered _ (t.passItems h.opcode m)⟩
  rw [Hdr.run_granted' hg hl (Hdr.targetOk_none h0 hf) hi, e, Hdr.conclude_done, Hdr.stateCode_safety ho]
  rfl

theorem Hdr.safety_refuseIn {st : Nat} (e : own m (s.takeOff h.opcode m) = .refuseIn t st d p) :
    ∃ u, h.run own m s = u ∧ Answered m (answerTo m st t.margin.state.code d p) t u := by
  refine ⟨_, ?_, State.respond_answered _ t⟩
  rw [Hdr.run_granted' hg hl (Hdr.targetOk_none h0 hf) hi, e, Hdr.conclude_refuseIn, Hdr.stateCode_safety ho]

end

/-- An event is told with the time of a state whose timebase is the same. -/
theorem State.raise_tells {s u : State} (c v r p : Nat) (h : u.tb = s.tb) : s.event c v r p ∈ (u.raise c v r p).blot.raised := by
  rw [State.raise_raised, State.event_of_tb _ _ _ _ h]
  exact List.mem_append_right _ (List.mem_singleton_self _)

/-! ### The safety password (R326) -/

/-- A password is set and not locked, and the command gives one of a right length. -/
def PasswordGiven (m : MbCmd) (s : State) (pw : List Byte) : Prop :=
  s.margin.lockUntil = none ∧ s.margin.password = some pw ∧ 4 ≤ fieldAt m.params 0 8 4 ∧ fieldAt m.params 0 8 4 ≤ 16

theorem PasswordGiven.takeOff {m : MbCmd} {s : State} {pw : List Byte} (op : Nat) (h : PasswordGiven m s pw) :
    PasswordGiven m (s.takeOff op m) pw := by
  unfold PasswordGiven at h ⊢
  rwa [State.takeOff_margin]

/-- The right password ends the count of wrong ones. -/
def State.passwordOk (s : State) : State := { s with margin := { s.margin with fails := 0 } }

section
variable {m : MbCmd} {s : State} {pw : List Byte} {k : State → Verdict} (none_ : Bool) (hp : PasswordGiven m s pw)
include hp

/-- With the right password the command acts; its verdict stands unless it refuses without an effect. -/
theorem State.withSafePassword_right {v : Verdict} (hpw : pwBytes m.params 4 (fieldAt m.params 0 8 4) = pw) (hk : k s.passwordOk = v)
    (hv : ∀ st d p, v ≠ .refuse st d p) : s.withSafePassword m none_ k = v := by
  obtain ⟨lock, password, least, most⟩ := hp
  unfold State.withSafePassword
  have acts : k { s with margin := { s.margin with fails := 0 } } = v := hk
  rw [lock, password]
  dsimp only
  rw [if_neg (by decide), if_neg (by simp), if_neg (by simp; omega), hpw, if_pos rfl, acts]
  cases v with
  | refuse st d p => exact absurd rfl (hv st d p)
  | _ => rfl

theorem State.withSafePassword_wrong (hpw : pwBytes m.params 4 (fieldAt m.params 0 8 4) ≠ pw) :
    s.withSafePassword m none_ k = s.safeWrong m := by
  obtain ⟨lock, password, least, most⟩ := hp
  unfold State.withSafePassword
  rw [lock, password]
  dsimp only
  rw [if_neg (by decide), if_neg (by simp), if_neg (by simp; omega), if_neg (fun e => hpw (Option.some.inj e).symm)]

end

/-- Before a password is set none is asked for where none is needed. -/
theorem State.withSafePassword_first {m : MbCmd} {s : State} (k : State → Verdict) (hl : s.margin.lockUntil = none)
    (hp : s.margin.password = none) (h0 : fieldAt m.params 0 8 4 = 0) : s.withSafePassword m true k = k s := by
  unfold State.withSafePassword
  rw [hl, hp, h0]
  rfl

/-! ### What is written to the Vellum (R328, R424) -/

theorem State.retireRow_reports (row cause : Nat) (s : State) : Reports s (s.retireRow row cause) := by
  unfold State.retireRow
  split
  · exact .raise _ _ _ _ (.of_blot rfl)
  · exact .raise _ _ _ _ (.of_blot rfl)

theorem State.wearRow_reports (row k : Nat) (s : State) : Reports s (s.wearRow row k) := by
  unfold State.wearRow
  dsimp only
  split
  · refine Reports.trans _ _ _ ?_ (State.retireRow_reports row 0 _)
    split
    · exact .raise _ _ _ _ (.of_blot rfl)
    · exact .of_blot rfl
  · split
    · exact .raise _ _ _ _ (.of_blot rfl)
    · exact .of_blot rfl

/-- A write of the Vellum changes the Vellum's wear, and its events are only added. -/
theorem State.wearRow_eq (row k : Nat) (s : State) : ∃ v b, s.wearRow row k = { s with
    vel := v
    blot := b } ∧ s.blot.raised <+: b.raised := by
  have reports := s.wearRow_reports row k
  obtain ⟨v, b, e, -, -⟩ := s.wearRow_wears row k
  rw [e] at reports
  exact ⟨v, b, e, reports⟩

theorem State.persist_eq (region k : Nat) (s : State) : ∃ v b, s.persist region k = { s with
    vel := v
    blot := b } ∧ s.blot.raised <+: b.raised := State.wearRow_eq _ _ s

/-- A log entry joins the log; of the rest only the Vellum's wear and its events may change. -/
theorem State.safeLog_eq (kind : Nat) (session new : Word) (old_ new_ : Block) (s : State) : ∃ l v b, s.safeLog kind session new old_ new_ =
    { s with
      margin := { s.margin with
        log := l
        logSeq := s.margin.logSeq + 1 }
      vel := v
      blot := b } ∧ s.blot.raised <+: b.raised := by
  unfold State.safeLog
  dsimp only
  generalize List.drop _ _ = l
  obtain ⟨v, b, e, reports⟩ := State.wearRow_eq (0x00E000 / 2048 + s.margin.logSeq % 256 / 64) 4 { s with margin := { s.margin with
    log := l
    logSeq := s.margin.logSeq + 1 } }
  exact ⟨l, v, b, e, reports⟩

/-! ### Staging (R326) -/

/-- A chunk of `n` words from word `off` on takes the place of what was staged there. -/
def stagedWith (m : MbCmd) (off n : Nat) (l : List (Nat × Word)) : List (Nat × Word) :=
  (l.filter fun e => !(decide (off ≤ e.1) && decide (e.1 < off + n))) ++
    (List.range n).map fun i => (off + i, wordAt m.params (0x20 + 4 * i))

theorem stagedWith_chunk {m : MbCmd} {off n i : Nat} (l : List (Nat × Word)) (h : i < n) :
    (stagedWith m off n l).find? (fun e => e.1 == off + i) = some (off + i, wordAt m.params (0x20 + 4 * i)) := by
  have gone : (l.filter fun e => !(decide (off ≤ e.1) && decide (e.1 < off + n))).find? (fun e => e.1 == off + i) = none := by
    rw [List.find?_filter, List.find?_eq_none]
    intro e _ he
    simp at he
    omega
  have placed : (List.range n).find? ((fun e : Nat × Word => e.1 == off + i) ∘ fun i => (off + i, wordAt m.params (0x20 + 4 * i))) =
      some i := by
    rw [List.find?_range_eq_some]
    refine ⟨beq_self_eq_true _, List.mem_range.mpr h, fun j hj => ?_⟩
    simp
    omega
  rw [stagedWith, List.find?_append, gone, List.find?_map, placed]
  rfl

theorem stagedWith_rest {m : MbCmd} {off n j : Nat} (l : List (Nat × Word)) (h : j < off ∨ off + n ≤ j) :
    (stagedWith m off n l).find? (fun e => e.1 == j) = l.find? fun e => e.1 == j := by
  have none_ : ((List.range n).map fun i => (off + i, wordAt m.params (0x20 + 4 * i))).find? (fun e => e.1 == j) = none := by
    rw [List.find?_eq_none]
    intro e he
    obtain ⟨i, hi, rfl⟩ := List.mem_map.mp he
    have := List.mem_range.mp hi
    simp
    omega
  rw [stagedWith, List.find?_append, none_, Option.or_none, List.find?_filter]
  refine congrArg (fun q => l.find? q) (funext fun e => ?_)
  by_cases own : e.1 = j
  · subst own
    simp
    omega
  · simp [own]

theorem State.safeChunk_stages {m : MbCmd} {off n : Nat} (s : State) (hn : safeCount m = 4 * n) (h1 : 1 ≤ n) (h48 : n ≤ 48)
    (ho : fieldAt m.params 0x14 15 0 = 4 * off) (he : off + n ≤ 189) :
    s.safeChunk m = .done (State.startTimer .staging (60 * second)
      { s with margin := { s.margin with staged := stagedWith m off n s.margin.staged } }) 0 [] := by
  have words : 4 * n / 4 = n := by omega
  have first : 4 * off / 4 = off := by omega
  unfold State.safeChunk
  rw [hn, ho]
  dsimp only
  rw [if_neg (by simp; omega), words, first]
  rfl

/-! ### SAFE_CFG_LOAD (R326) -/

/-- Header of SAFE_CFG_LOAD (R361). -/
def hSafeCfgLoad : Hdr := { opcode := 0x0901, lenOk := safeLenOk, minLen := 48, auth := fun _ => 3 }

/-- What SAFE_CFG_LOAD does once the password is right. -/
def State.safeLoad (m : MbCmd) (s : State) : Verdict :=
  match safeOp m with
  | 0 => s.safeChunk m
  | 1 => s.safeCommit m
  | _ => s.safeSetPassword m

/-- SAFE_CFG_LOAD's own part. -/
def safeLoadOwn (m : MbCmd) (s : State) : Verdict :=
  if safeOp m ≠ 0 && safeOp m ≠ 3 && (s.margin.state == .starting || s.margin.state == .safeFault) then .refuse RC_STATE s.margin.state.code []
  else reserved m [(0, 0xFFFFFE0C), (0x1C, 0xFFFFFFE0)] <|
    if safeOp m = 3 then .refuse RC_BAD_FIELD 0 []
    else s.withSafePassword m (safeOp m == 2) (State.safeLoad m)

theorem exec_safeCfgLoad (m : MbCmd) (s : State) : exec (.safeCfgLoad m) s = .next (hSafeCfgLoad.run safeLoadOwn m s) := rfl

theorem safeLoadOwn_asks {m : MbCmd} {s : State} (hr : NoReserved m [(0, 0xFFFFFE0C), (0x1C, 0xFFFFFFE0)]) (h3 : safeOp m ≠ 3)
    (hs : safeOp m = 0 ∨ s.margin.state ≠ .starting ∧ s.margin.state ≠ .safeFault) :
    safeLoadOwn m s = s.withSafePassword m (safeOp m == 2) (State.safeLoad m) := by
  unfold safeLoadOwn
  rw [if_neg (by rcases hs with h | ⟨h, h'⟩ <;> simp_all), reserved_none hr, if_neg h3]

section
variable {m : MbCmd} {s : State} {pw : List Byte} (hg : Granted 0x0901 3 m s) (h0 : m.target = 0) (hl : safeLenOk m = true)
  (hr : NoReserved m [(0, 0xFFFFFE0C), (0x1C, 0xFFFFFFE0)])
include hg h0 hl hr

/-- SAFE_CFG_LOAD with a verdict that carries it out. -/
theorem safeCfgLoad_done {u : State} (h3 : safeOp m ≠ 3)
    (hs : safeOp m = 0 ∨ s.margin.state ≠ .starting ∧ s.margin.state ≠ .safeFault)
    (e : (s.takeOff 0x0901 m).withSafePassword m (safeOp m == 2) (State.safeLoad m) = .done u 0 []) :
    Completes (.safeCfgLoad m) s (Answered m (okAnswer m u.margin.state.code 0 []) u) := by
  obtain ⟨t, runs, answered⟩ := Hdr.safety_done (h := hSafeCfgLoad) (own := safeLoadOwn) hg h0 hl rfl rfl (fun _ => rfl)
    ((safeLoadOwn_asks hr h3 (by rw [State.takeOff_margin]; exact hs)).trans e)
  exact ⟨t, congrArg Host.Outcome.next runs, answered⟩

theorem safeCfgLoad_stages {n off : Nat} (hop : safeOp m = 0) (hp : PasswordGiven m s pw)
    (hpw : pwBytes m.params 4 (fieldAt m.params 0 8 4) = pw) (hn : safeCount m = 4 * n) (h1 : 1 ≤ n) (h48 : n ≤ 48)
    (ho : fieldAt m.params 0x14 15 0 = 4 * off) (he : off + n ≤ 189) :
    Completes (.safeCfgLoad m) s fun t =>
      (∀ i, i < n → (t.margin.staged.find? fun e => e.1 == off + i) = some (off + i, wordAt m.params (0x20 + 4 * i))) ∧
      (∀ j, j < off ∨ off + n ≤ j → (t.margin.staged.find? fun e => e.1 == j) = s.margin.staged.find? fun e => e.1 == j) ∧
      { t.margin with
        staged := s.margin.staged
        fails := s.margin.fails } = s.margin ∧ t.margin.fails = 0 ∧ (Timer.staging, s.now + 60 * second) ∈ t.timers ∧
      ((s.mbox m.mb).discard = 0 → (t.mbox m.mb).done = (s.mbox m.mb).done ++ [okAnswer m s.margin.state.code 0 []]) := by
  let v := s.takeOff 0x0901 m
  let u : State := State.startTimer .staging (60 * second)
    { v.passwordOk with margin := { v.passwordOk.margin with staged := stagedWith m off n v.margin.staged } }
  have load : State.safeLoad m v.passwordOk = .done u 0 [] := by
    rw [State.safeLoad, hop]
    exact State.safeChunk_stages _ hn h1 h48 ho he
  have own := State.withSafePassword_right (safeOp m == 2) (hp.takeOff 0x0901) hpw load (by simp)
  have before : v.margin = s.margin := State.takeOff_margin ..
  have timer : (Timer.staging, s.now + 60 * second) ∈ u.timers := by
    rw [show s.now = v.now from (State.takeOff_now ..).symm]
    exact State.startTimer_mem _ _ _
  obtain ⟨t, runs, margin, timers, -, -, -, done⟩ := safeCfgLoad_done hg h0 hl hr (by rw [hop]; decide) (.inl hop) own
  have margin' : t.margin = { v.margin with
      fails := 0
      staged := stagedWith m off n v.margin.staged } := margin
  have state : u.margin.state = s.margin.state := by
    show v.margin.state = _
    rw [before]
  have mbox : u.mbox m.mb = v.mbox m.mb := rfl
  rw [before] at margin'
  rw [mbox, State.takeOff_mb_discard, State.takeOff_mb_done, state] at done
  refine ⟨t, runs, ?_⟩
  beta_reduce
  rw [margin', timers]
  exact ⟨fun i hi => stagedWith_chunk _ hi, fun j hj => stagedWith_rest _ hj, rfl, rfl, timer, done⟩

/-- The block `c` is committed: both channels hold it in store and in use, without functions. -/
def Margin.commits (c : Block) (m : Margin) : Margin :=
  { m with
    committed := some (wordAt c 0x2F0)
    staged := []
    a := { m.a with stored := some c, cfg := some c, fns := Vector.replicate 16 {} }
    b := { m.b with stored := some c, cfg := some c, fns := Vector.replicate 16 {} } }

/-- The state in which a commit ends, before its event. -/
def State.committed (m : MbCmd) (c : Block) (s : State) : State :=
  let u := s.safeLog 1 (s.sessionId m.mb) (wordAt c 0x2F0) s.margin.conf c
  (({ u with margin := u.margin.commits c } : State).persist 2 189).setMargin .awaitAccept

omit hg h0 hl hr in
/-- A commit logs one entry, puts the block into store and use and awaits its acceptance. -/
theorem State.committed_eq (m : MbCmd) (c : Block) (s : State) : ∃ l w r h v b, s.committed m c = { s with
    margin := { ({ ({ s.margin with
        log := l
        logSeq := s.margin.logSeq + 1 } : Margin).commits c with state := .awaitAccept } : Margin).regrant with settling := w }
    timers := r
    host := h
    vel := v
    blot := b } ∧ s.blot.raised <+: b.raised := by
  obtain ⟨l, v, b, logged, told⟩ := s.safeLog_eq 1 (s.sessionId m.mb) (wordAt c 0x2F0) s.margin.conf c
  unfold State.committed
  rw [logged]
  dsimp only
  generalize hu : State.mk .. = u
  obtain ⟨v', b', written, told'⟩ := u.persist_eq 2 189
  rw [written]
  obtain ⟨w, r, h, awaits, -⟩ := State.setMargin_eq .awaitAccept { u with
    vel := v'
    blot := b' }
  rw [awaits]
  subst hu
  exact ⟨l, w, r, h, v', b', rfl, told.trans told'⟩

omit hg h0 hl hr in
theorem State.safeCommit_commits {c : Block} {u : State} (hb : u.margin.stagedBlock = some c)
    (hw : wordAt m.params 0x18 = crcBlock (c.take 188)) (hk : safeFail 1 (safeChecks c) = none) : u.safeCommit m =
    .done ((u.committed m c).raise 0x0B08 NOTICE 0 (wordAt c 0x2F0).toNat) 0 [] := by
  unfold State.safeCommit
  rw [hb]
  dsimp only
  rw [if_neg (not_not.mpr hw), hk]
  rfl

theorem safeCfgLoad_commits {c : Block} (hop : safeOp m = 1) (hs : s.margin.state ≠ .starting) (hs' : s.margin.state ≠ .safeFault)
    (hp : PasswordGiven m s pw) (hpw : pwBytes m.params 4 (fieldAt m.params 0 8 4) = pw) (hb : s.margin.stagedBlock = some c)
    (hw : wordAt m.params 0x18 = crcBlock (c.take 188)) (hk : safeFail 1 (safeChecks c) = none) :
    Completes (.safeCfgLoad m) s fun t =>
      t.margin.state = .awaitAccept ∧ t.margin.a.stored = some c ∧ t.margin.b.stored = some c ∧ t.margin.a.cfg = some c ∧
      t.margin.b.cfg = some c ∧ t.margin.committed = some (wordAt c 0x2F0) ∧ t.margin.staged = [] ∧
      t.margin.accepted = s.margin.accepted ∧ t.margin.a.permit = 0 ∧ t.margin.b.permit = 0 ∧ t.margin.logSeq = s.margin.logSeq + 1 ∧
      s.event 0x0B08 NOTICE 0 (wordAt c 0x2F0).toNat ∈ t.blot.raised ∧ t.chan = s.chan ∧ t.axis = s.axis := by
  let v := s.takeOff 0x0901 m
  have before : v.margin = s.margin := State.takeOff_margin ..
  have staged : v.passwordOk.margin.stagedBlock = some c := by
    show v.margin.stagedBlock = some c
    rw [before]
    exact hb
  have load : State.safeLoad m v.passwordOk =
      .done ((v.passwordOk.committed m c).raise 0x0B08 NOTICE 0 (wordAt c 0x2F0).toNat) 0 [] := by
    rw [State.safeLoad, hop]
    exact State.safeCommit_commits staged hw hk
  have own := State.withSafePassword_right (safeOp m == 2) (hp.takeOff 0x0901) hpw load (by simp)
  obtain ⟨t, runs, margin, -, chan, axis, reports, -⟩ := safeCfgLoad_done hg h0 hl hr (by rw [hop]; decide) (.inr ⟨hs, hs'⟩) own
  obtain ⟨l, w, r, h, v', b, commits, -⟩ := v.passwordOk.committed_eq m c
  have tells : s.event 0x0B08 NOTICE 0 (wordAt c 0x2F0).toNat ∈
      ((v.passwordOk.committed m c).raise 0x0B08 NOTICE 0 (wordAt c 0x2F0).toNat).blot.raised := by
    refine State.raise_tells _ _ _ _ ?_
    rw [commits]
    exact State.takeOff_tb ..
  have off := Margin.regrant_outside_run (m := { ({ v.passwordOk.margin with
    log := l
    logSeq := v.passwordOk.margin.logSeq + 1 } : Margin).commits c with state := .awaitAccept }) (by simp)
  have accepted : v.margin.accepted = s.margin.accepted := by rw [before]
  have logSeq : v.margin.logSeq + 1 = s.margin.logSeq + 1 := by rw [before]
  rw [commits] at margin chan axis
  refine ⟨t, runs, ?_⟩
  beta_reduce
  rw [margin]
  exact ⟨rfl, rfl, rfl, rfl, rfl, rfl, rfl, accepted, off.1, off.2, logSeq,
    reports.mem tells, chan.trans (State.takeOff_chan ..), axis.trans (State.takeOff_axis ..)⟩

/-- A new password of `n` bytes has been written and logged. -/
def State.newPassword (m : MbCmd) (n : Nat) (s : State) : State :=
  (({ s with margin := { s.margin with password := some (pwBytes m.params 0x20 n) } } : State).persist 9 1).safeLog 3 (s.sessionId m.mb)
    (s.margin.accepted.getD 0) [] []

omit hg h0 hl hr in
theorem State.newPassword_eq (m : MbCmd) (n : Nat) (s : State) : ∃ l v b, s.newPassword m n = { s with
    margin := { s.margin with
      password := some (pwBytes m.params 0x20 n)
      log := l
      logSeq := s.margin.logSeq + 1 }
    vel := v
    blot := b } := by
  unfold State.newPassword
  obtain ⟨v, b, written, -⟩ :=
    ({ s with margin := { s.margin with password := some (pwBytes m.params 0x20 n) } } : State).persist_eq 9 1
  rw [written]
  generalize hu : State.mk .. = u
  obtain ⟨l, v', b', logged, -⟩ := u.safeLog_eq 3 (s.sessionId m.mb) (s.margin.accepted.getD 0) [] []
  rw [logged]
  subst hu
  exact ⟨l, v', b', rfl⟩

theorem safeCfgLoad_sets_password {n : Nat} (hop : safeOp m = 2) (hs : s.margin.state ≠ .starting) (hs' : s.margin.state ≠ .safeFault)
    (hlock : s.margin.lockUntil = none) (hp : s.margin.password = none) (hlen : fieldAt m.params 0 8 4 = 0)
    (hn : n = fieldAt m.params 0x1C 4 0) (h4 : 4 ≤ n) (h16 : n ≤ 16) :
    Completes (.safeCfgLoad m) s fun t =>
      t.margin.password = some (pwBytes m.params 0x20 n) ∧ t.margin.logSeq = s.margin.logSeq + 1 ∧ t.margin.cfg = s.margin.cfg ∧
      t.margin.state = s.margin.state ∧ t.chan = s.chan := by
  let v := s.takeOff 0x0901 m
  have before : v.margin = s.margin := State.takeOff_margin ..
  have load : State.safeLoad m v = .done (v.newPassword m n) 0 [] := by
    rw [State.safeLoad, hop]
    show v.safeSetPassword m = _
    rw [State.safeSetPassword, ← hn]
    exact if_neg (by simp; omega)
  have own : v.withSafePassword m (safeOp m == 2) (State.safeLoad m) = .done (v.newPassword m n) 0 [] := by
    rw [hop]
    exact (State.withSafePassword_first _ (by rw [before, hlock]) (by rw [before, hp]) hlen).trans load
  obtain ⟨t, runs, margin, -, chan, -⟩ := safeCfgLoad_done hg h0 hl hr (by rw [hop]; decide) (.inr ⟨hs, hs'⟩) own
  obtain ⟨l, v', b, sets⟩ := v.newPassword_eq m n
  rw [sets, before] at margin chan
  refine ⟨t, runs, ?_⟩
  beta_reduce
  rw [margin]
  exact ⟨rfl, rfl, rfl, rfl, chan.trans (State.takeOff_chan ..)⟩

/-! ### A wrong password (R326) -/

/-- `u` counts one more wrong password than `s`; from the fifth on it locks for 600 s. -/
def CountsWrong (s u : State) : Prop :=
  (∃ l q, u.margin = { s.margin with
    fails := s.margin.fails + 1
    lockUntil := if s.margin.fails + 1 < 5 then s.margin.lockUntil else some (s.now + lockCycles)
    log := l
    logSeq := q }) ∧
  s.event 0x0B0A NOTICE 0 ((s.margin.fails + 1) % 8) ∈ u.blot.raised ∧
  (5 ≤ s.margin.fails + 1 → s.event 0x0B0B ALARM 0 600 ∈ u.blot.raised) ∧
  ∀ k, u.mbox k = s.mbox k

omit hg h0 hl hr in
theorem State.safeWrong_counts (m : MbCmd) (s : State) :
    ∃ u, s.safeWrong m = .refuseIn u RC_PASSWORD (s.margin.fails + 1) [] ∧ CountsWrong s u := by
  unfold State.safeWrong
  dsimp only
  by_cases h : s.margin.fails + 1 < 5
  · rw [if_pos h]
    refine ⟨_, rfl, ⟨s.margin.log, s.margin.logSeq, by rw [if_pos h]; rfl⟩, ?_, fun h5 => absurd h (by omega), fun _ => rfl⟩
    exact List.mem_append_right _ (List.mem_singleton_self _)
  · rw [if_neg h]
    generalize hu : State.raise 0x0B0B _ _ _ _ = u
    obtain ⟨l, v, b, logged, told⟩ := u.safeLog_eq 4 (s.sessionId m.mb) (s.margin.accepted.getD 0) [] []
    rw [logged]
    subst hu
    refine ⟨_, rfl, ⟨l, s.margin.logSeq + 1, by rw [if_neg h]; rfl⟩, told.subset ?_, fun _ => told.subset ?_, fun _ => rfl⟩
    · exact List.mem_append_left _ (List.mem_append_right _ (List.mem_singleton_self _))
    · exact List.mem_append_right _ (List.mem_singleton_self _)

theorem safeCfgLoad_counts_wrong (hop : safeOp m = 0) (hp : PasswordGiven m s pw)
    (hpw : pwBytes m.params 4 (fieldAt m.params 0 8 4) ≠ pw) :
    Completes (.safeCfgLoad m) s fun t =>
      t.margin.fails = s.margin.fails + 1 ∧ t.margin.staged = s.margin.staged ∧ t.margin.cfg = s.margin.cfg ∧
      t.margin.lockUntil = (if s.margin.fails + 1 < 5 then none else some (s.now + 600 * 250000000)) ∧
      s.event 0x0B0A NOTICE 0 ((s.margin.fails + 1) % 8) ∈ t.blot.raised ∧
      (5 ≤ s.margin.fails + 1 → s.event 0x0B0B ALARM 0 600 ∈ t.blot.raised) ∧
      ((s.mbox m.mb).discard = 0 → (t.mbox m.mb).done =
        (s.mbox m.mb).done ++ [answerTo m 0x0602 s.margin.state.code (s.margin.fails + 1) []]) := by
  let v := s.takeOff 0x0901 m
  have before : v.margin = s.margin := State.takeOff_margin ..
  obtain ⟨u, wrong, ⟨l, q, counts⟩, told, told', mbox⟩ := v.safeWrong_counts m
  have own : safeLoadOwn m v = .refuseIn u RC_PASSWORD (v.margin.fails + 1) [] :=
    (safeLoadOwn_asks hr (by rw [hop]; decide) (.inl hop)).trans
      ((State.withSafePassword_wrong (safeOp m == 2) (hp.takeOff 0x0901) hpw).trans wrong)
  obtain ⟨t, runs, margin, -, -, -, reports, done⟩ :=
    Hdr.safety_refuseIn (h := hSafeCfgLoad) (own := safeLoadOwn) hg h0 hl rfl rfl (fun _ => rfl) own
  rw [before] at counts told told' done
  rw [counts] at margin done
  rw [State.takeOff_now, hp.1] at margin
  rw [State.takeOff_event] at told told'
  rw [mbox] at done
  refine ⟨t, congrArg Host.Outcome.next runs, ?_⟩
  beta_reduce
  rw [margin]
  refine ⟨rfl, rfl, rfl, rfl, reports.mem told, fun h5 => reports.mem (told' h5), fun hd => ?_⟩
  rw [done ((State.takeOff_mb_discard ..).trans hd)]
  exact congrArg (· ++ _) (State.takeOff_mb_done ..)

end

/-! ### SAFE_CFG_ACCEPT (R327) -/

/-- Header of SAFE_CFG_ACCEPT (R361). -/
def hSafeCfgAccept : Hdr := { opcode := 0x0902, lenOk := lenIs 40, minLen := 40, auth := fun _ => 3 }

/-- The accepted CRC is logged and stored, and RUN begins. -/
def State.acceptCrc (m : MbCmd) (crc : Word) (s : State) : State :=
  let u := s.safeLog 2 (s.sessionId m.mb) crc [] []
  (({ u with margin := { u.margin with accepted := some crc } } : State).persist 2 2).marginRun

/-- What SAFE_CFG_ACCEPT does once the password is right. -/
def State.safeAccept (m : MbCmd) (s : State) : Verdict :=
  if s.margin.committed ≠ some (wordAt m.params 0x14) then .refuseIn s RC_BAD_FIELD 0x14 []
  else .done ((s.acceptCrc m (wordAt m.params 0x14)).raise 0x0B09 NOTICE 0 (wordAt m.params 0x14).toNat) 0 []

/-- SAFE_CFG_ACCEPT's own part. -/
def safeAcceptOwn (m : MbCmd) (s : State) : Verdict :=
  if s.margin.state ≠ .awaitAccept then .refuse RC_STATE s.margin.state.code []
  else reserved m [(0, 0xFFFFFE0F)] (s.withSafePassword m false (State.safeAccept m))

theorem exec_safeCfgAccept (m : MbCmd) (s : State) : exec (.safeCfgAccept m) s = .next (hSafeCfgAccept.run safeAcceptOwn m s) := rfl

theorem safeAcceptOwn_asks {m : MbCmd} {s : State} (hs : s.margin.state = .awaitAccept) (hr : NoReserved m [(0, 0xFFFFFE0F)]) :
    safeAcceptOwn m s = s.withSafePassword m false (State.safeAccept m) := by
  rw [safeAcceptOwn, if_neg (not_not.mpr hs), reserved_none hr]

/-- The accepted CRC ends the commit, and RUN begins with every function's restart pending. -/
theorem State.acceptCrc_eq (m : MbCmd) (crc : Word) (s : State) : ∃ l w r h v b, s.acceptCrc m crc = { s with
    margin := { ({ s.margin with
      log := l
      logSeq := s.margin.logSeq + 1
      accepted := some crc
      committed := none
      state := .run
      a := { s.margin.a with fns := pendingFns s.margin.a.conf }
      b := { s.margin.b with fns := pendingFns s.margin.b.conf } } : Margin).regrant with settling := w }
    timers := r
    host := h
    vel := v
    blot := b } := by
  obtain ⟨l, v, b, logged, -⟩ := s.safeLog_eq 2 (s.sessionId m.mb) crc [] []
  unfold State.acceptCrc
  rw [logged]
  dsimp only
  generalize hu : State.mk .. = u
  obtain ⟨v', b', written, -⟩ := u.persist_eq 2 2
  rw [written]
  obtain ⟨w, r, h, runs, -⟩ := State.marginRun_eq { u with
    vel := v'
    blot := b' }
  rw [runs]
  subst hu
  exact ⟨l, w, r, h, v', b', rfl⟩

/-- Every used function of a channel is pending, and each output that it turns off has no PERMIT. -/
def AllPending (c : Block) (ch : MChan) : Prop :=
  ∀ f : Fin 16, fnKind c f.val ≠ 0 → (vget ch.fns f).inForce = true ∧
    ∀ k, k < 8 → (fnSoMask c f.val).testBit k = true → ch.permit.getLsbD k = false

/-- A channel as RUN begins: every used function is pending. -/
def MChan.restarts (soFault : BitVec 8) (ch : MChan) : MChan :=
  { ch with
    fns := pendingFns ch.conf
    permit := ({ ch with fns := pendingFns ch.conf } : MChan).grant true soFault }

theorem MChan.restarts_pending (soFault : BitVec 8) (ch : MChan) : AllPending ch.conf (ch.restarts soFault) := by
  intro f used
  obtain ⟨inForce, powerOff⟩ := pendingFns_pending used
  have conf : ({ ch with fns := pendingFns ch.conf } : MChan).conf = ch.conf := by simp only [MChan.conf]
  refine ⟨inForce, fun k hk hm => ?_⟩
  rw [← conf] at hm
  exact MChan.grant_of_powerOff true soFault hk hm powerOff

section
variable {m : MbCmd} {s : State} {pw : List Byte} (hg : Granted 0x0902 3 m s) (h0 : m.target = 0) (hl : m.length = 40)
  (hs : s.margin.state = .awaitAccept) (hr : NoReserved m [(0, 0xFFFFFE0F)]) (hp : PasswordGiven m s pw)
  (hpw : pwBytes m.params 4 (fieldAt m.params 0 8 4) = pw)
include hg h0 hl hs hr hp hpw

theorem safeCfgAccept_runs {crc : Word} (hw : crc = wordAt m.params 0x14) (hc : s.margin.committed = some crc) :
    Completes (.safeCfgAccept m) s fun t =>
      t.margin.state = .run ∧ t.margin.accepted = some crc ∧ t.margin.cfg = s.margin.cfg ∧ s.event 0x0B09 NOTICE 0 crc.toNat ∈ t.blot.raised ∧
      AllPending s.margin.a.conf t.margin.a ∧ AllPending s.margin.b.conf t.margin.b := by
  let v := s.takeOff 0x0902 m
  have before : v.margin = s.margin := State.takeOff_margin ..
  have committed : v.passwordOk.margin.committed = some crc := by
    show v.margin.committed = some crc
    rw [before, hc]
  have accepts : State.safeAccept m v.passwordOk = .done ((v.passwordOk.acceptCrc m crc).raise 0x0B09 NOTICE 0 crc.toNat) 0 [] := by
    rw [State.safeAccept, ← hw]
    exact if_neg (not_not.mpr committed)
  have own := (safeAcceptOwn_asks (s := v) (by rw [before, hs]) hr).trans
    (State.withSafePassword_right false (hp.takeOff 0x0902) hpw accepts (by simp))
  obtain ⟨t, runs, margin, -, -, -, reports, -⟩ :=
    Hdr.safety_done (h := hSafeCfgAccept) (own := safeAcceptOwn) hg h0 (lenIs_of hl (by decide)) rfl rfl (fun _ => rfl) own
  obtain ⟨l, w, r, h, v', b, runs'⟩ := v.passwordOk.acceptCrc_eq m crc
  have tells : s.event 0x0B09 NOTICE 0 crc.toNat ∈ ((v.passwordOk.acceptCrc m crc).raise 0x0B09 NOTICE 0 crc.toNat).blot.raised := by
    refine State.raise_tells _ _ _ _ ?_
    rw [runs']
    exact State.takeOff_tb ..
  rw [runs'] at margin
  refine ⟨t, congrArg Host.Outcome.next runs, ?_⟩
  have a : t.margin.a = s.margin.a.restarts s.margin.soFault := by rw [margin, ← before]; rfl
  have b : t.margin.b = s.margin.b.restarts s.margin.soFault := by rw [margin, ← before]; rfl
  have state : t.margin.state = .run ∧ t.margin.accepted = some crc := by rw [margin]; exact ⟨rfl, rfl⟩
  have stored : t.margin.a.stored = s.margin.a.stored := by rw [a]; rfl
  refine ⟨state.1, state.2, stored, reports.mem tells, ?_, ?_⟩
  · rw [a]
    exact MChan.restarts_pending _ _
  · rw [b]
    exact MChan.restarts_pending _ _

theorem safeCfgAccept_refuses (hc : s.margin.committed ≠ some (wordAt m.params 0x14)) :
    Completes (.safeCfgAccept m) s fun t =>
      t.margin.state = .awaitAccept ∧ t.margin.accepted = s.margin.accepted ∧
      ((s.mbox m.mb).discard = 0 → (t.mbox m.mb).done = (s.mbox m.mb).done ++ [answerTo m 0x0104 2 0x14 []]) := by
  let v := s.takeOff 0x0902 m
  have before : v.margin = s.margin := State.takeOff_margin ..
  have committed : v.passwordOk.margin.committed ≠ some (wordAt m.params 0x14) := by
    show v.margin.committed ≠ _
    rwa [before]
  have refuses : State.safeAccept m v.passwordOk = .refuseIn v.passwordOk RC_BAD_FIELD 0x14 [] := if_pos committed
  have own := (safeAcceptOwn_asks (s := v) (by rw [before, hs]) hr).trans
    (State.withSafePassword_right false (hp.takeOff 0x0902) hpw refuses (by simp))
  obtain ⟨t, runs, margin, -, -, -, -, done⟩ :=
    Hdr.safety_refuseIn (h := hSafeCfgAccept) (own := safeAcceptOwn) hg h0 (lenIs_of hl (by decide)) rfl rfl (fun _ => rfl) own
  have margin' : t.margin = { s.margin with fails := 0 } := by
    rw [margin, ← before]
    rfl
  have code : v.passwordOk.margin.state.code = 2 := by
    show v.margin.state.code = 2
    rw [before, hs]
    rfl
  refine ⟨t, congrArg Host.Outcome.next runs, ?_⟩
  beta_reduce
  rw [margin']
  refine ⟨hs, rfl, fun hd => ?_⟩
  rw [done ((State.takeOff_mb_discard ..).trans hd), code]
  exact congrArg (· ++ _) (State.takeOff_mb_done ..)

end

/-! ### SAFE_STATUS and SAFE_LOG_READ (R328, R329) -/

@[simp] theorem State.takeOff_safeStatus (op : Nat) (m : MbCmd) (s : State) : (s.takeOff op m).safeStatus = s.safeStatus := by
  obtain ⟨_, _, _, h⟩ := s.takeOff_cases op m
  rw [h]; rfl

@[simp] theorem State.takeOff_safeLogWords (op : Nat) (m : MbCmd) (s : State) (first : Nat) :
    (s.takeOff op m).safeLogWords first = s.safeLogWords first := by
  rw [State.safeLogWords, State.takeOff_margin, State.safeLogWords]

theorem safeStatus_answers {m : MbCmd} {s : State} (hg : Granted 0x0903 0 m s) (h0 : m.target = 0) (hl : m.length = 16) :
    CompletesBy (.safeStatus m) 0x0903 m s id s.margin.state.code 0 s.safeStatus := by
  let h : Hdr := { opcode := 0x0903, lenOk := lenIs 16, minLen := 16, auth := fun _ => 0 }
  refine congrArg Host.Outcome.next ((Hdr.run_granted' (h := h) hg (lenIs_of hl (by decide)) (Hdr.targetOk_none h0 rfl) fun _ => rfl).trans ?_)
  rw [Hdr.conclude_done, Hdr.stateCode_safety (by decide), State.takeOff_safeStatus, State.takeOff_margin]
  rfl

theorem safeLogRead_answers {m : MbCmd} {s : State} (hg : Granted 0x0904 0 m s) (h0 : m.target = 0) (hl : m.length = 20)
    (hr : NoReserved m [(0, 0xFFFF0000)]) :
    CompletesBy (.safeLogRead m) 0x0904 m s id s.margin.state.code 0 (s.safeLogWords (fieldAt m.params 0 15 0)) := by
  let h : Hdr := { opcode := 0x0904, lenOk := lenIs 20, minLen := 20, auth := fun _ => 0 }
  refine congrArg Host.Outcome.next ((Hdr.run_granted' (h := h) hg (lenIs_of hl (by decide)) (Hdr.targetOk_none h0 rfl) fun _ => rfl).trans ?_)
  rw [reserved_none hr, Hdr.conclude_done, Hdr.stateCode_safety (by decide), State.takeOff_safeLogWords, State.takeOff_margin]
  rfl

/-! ### SAFE_RESET (R330) -/

/-- Header of SAFE_RESET (R361). -/
def hSafeReset : Hdr := { opcode := 0x0905, lenOk := lenIs 16, minLen := 16, auth := fun _ => 1 }

/-- The output has a fault that stays: its pins are not both low, or its readback does not read low. -/
def State.outFaultStays (s : State) (k : Nat) : Bool :=
  s.margin.soFault.getLsbD k && !(s.margin.soFault.getLsbD k && s.soPins k == (false, false) && s.margin.fb[k]? == some .low)

/-- The outputs and pairs whose faults have gone, and the encoders turned off, lose them. -/
def State.clearFaults (s : State) : State :=
  State.commandFrom s { s with
    margin := ({ s.margin with
      soFault := BitVec.ofNat 8 (maskOf 8 s.outFaultStays)
      encFault := BitVec.ofNat 8 (maskOf 8 fun a => s.margin.encFault.getLsbD a && s.margin.encOff (Fin.ofNat 8 a))
      a := { s.margin.a with pairs := s.margin.a.pairs.map PairSt.release }
      b := { s.margin.b with pairs := s.margin.b.pairs.map PairSt.release } } : Margin).regrant }

/-- SAFE_RESET's own part. -/
def safeResetOwn (_ : MbCmd) (s : State) : Verdict :=
  if s.margin.state ≠ .run then .refuse RC_STATE s.margin.state.code []
  else .done (s.clearFaults.raise 0x0B0D INFO 0 (maskOf 8 s.outFaultStays)) (maskOf 8 s.outFaultStays) []

theorem exec_safeReset (m : MbCmd) (s : State) : exec (.safeReset m) s = .next (hSafeReset.run safeResetOwn m s) := rfl

theorem outFaultStays_eq (s : State) (k : Nat) : s.outFaultStays k =
    (s.margin.soFault.getLsbD k && !(s.soPins k == (false, false) && s.margin.fb[k]? == some .low)) := by
  unfold State.outFaultStays
  cases s.margin.soFault.getLsbD k <;> rfl

theorem State.takeOff_soPins (op : Nat) (m : MbCmd) (s : State) (k : Nat) : (s.takeOff op m).soPins k = s.soPins k := by
  rw [State.soPins, State.takeOff_margin, State.takeOff_host_soReq, State.soPins]

theorem State.takeOff_outFaultStays (op : Nat) (m : MbCmd) (s : State) : (s.takeOff op m).outFaultStays = s.outFaultStays := by
  funext k
  rw [outFaultStays_eq, outFaultStays_eq, State.takeOff_margin, State.takeOff_soPins]

theorem safeReset_clears {m : MbCmd} {s : State} (hg : Granted 0x0905 1 m s) (h0 : m.target = 0) (hl : m.length = 16)
    (hs : s.margin.state = .run) :
    Completes (.safeReset m) s fun t =>
      (∀ k : Fin 8, t.margin.soFault.getLsbD k.val = (s.margin.soFault.getLsbD k.val &&
        !(s.soPins k.val == (false, false) && s.margin.fb[k.val]? == some .low))) ∧
      (∀ p : Fin 16, (vget t.margin.a.pairs p).tpFaultA = ((vget s.margin.a.pairs p).tpFaultA && !(vget s.margin.a.pairs p).tpPassA) ∧
        (vget t.margin.a.pairs p).discFault = (vget s.margin.a.pairs p).discFault) ∧
      t.margin.a.fns = s.margin.a.fns ∧ t.margin.b.fns = s.margin.b.fns ∧ t.margin.state = .run ∧
      s.event 0x0B0D INFO 0 t.margin.soFault.toNat ∈ t.blot.raised ∧ t.chan = s.chan := by
  let v := s.takeOff 0x0905 m
  have before : v.margin = s.margin := State.takeOff_margin ..
  have stays : v.outFaultStays = s.outFaultStays := State.takeOff_outFaultStays ..
  have own : safeResetOwn m v = .done (v.clearFaults.raise 0x0B0D INFO 0 (maskOf 8 s.outFaultStays)) (maskOf 8 s.outFaultStays) [] := by
    rw [safeResetOwn, stays]
    exact if_neg (not_not.mpr (by rw [before, hs]))
  obtain ⟨t, runs, margin, -, chan, -, reports, -⟩ :=
    Hdr.safety_done (h := hSafeReset) (own := safeResetOwn) hg h0 (lenIs_of hl (by decide)) rfl rfl (fun _ => rfl) own
  obtain ⟨w, r, clears⟩ : OnlySettles _ v.clearFaults := State.commandFrom_onlySettles _ _
  have tells : s.event 0x0B0D INFO 0 (maskOf 8 s.outFaultStays) ∈
      (v.clearFaults.raise 0x0B0D INFO 0 (maskOf 8 s.outFaultStays)).blot.raised := by
    refine State.raise_tells _ _ _ _ ?_
    rw [clears]
    exact State.takeOff_tb ..
  have left : (BitVec.ofNat 8 (maskOf 8 s.outFaultStays)).toNat = maskOf 8 s.outFaultStays :=
    Nat.mod_eq_of_lt (maskOf_lt 8 _)
  rw [clears] at margin chan
  rw [stays] at margin
  have soFault : t.margin.soFault = BitVec.ofNat 8 (maskOf 8 s.outFaultStays) := by rw [margin]; rfl
  have pairs : t.margin.a.pairs = s.margin.a.pairs.map PairSt.release := by rw [margin, ← before]; rfl
  have keeps : t.margin.a.fns = v.margin.a.fns ∧ t.margin.b.fns = v.margin.b.fns ∧ t.margin.state = v.margin.state := by
    rw [margin]
    exact ⟨rfl, rfl, rfl⟩
  rw [before, hs] at keeps
  obtain ⟨a, b, state⟩ := keeps
  refine ⟨t, congrArg Host.Outcome.next runs, fun k => ?_, fun p => ?_, a, b, state, ?_, chan.trans (State.takeOff_chan ..)⟩
  · rw [soFault, ofNat_maskOf_bit _ k.isLt, outFaultStays_eq]
  · rw [pairs, vget_map]
    exact ⟨rfl, rfl⟩
  · rw [soFault, left]
    exact reports.mem tells

end Sys2Proof.Machine
end

section
/-! PROOF. O46. -/

namespace Sys2Proof

open Sys2Proof.Machine Sys2Proof.Safety

/-- Settles O46: each clause is the lemma of its command above. -/
theorem marginCommandsComplete : Obligations.MarginCommandsComplete := by
  unfold Obligations.MarginCommandsComplete
  refine ⟨fun m s pw n off hg h0 hl hop hr hlock hpass hmin hmax hpw hn h1 h48 ho he => ?_,
    fun m s pw c hg h0 hl hop hs hs' hr hlock hpass hmin hmax hpw hb hw hk => ?_,
    fun m s n hg h0 hl hop hs hs' hr hlock hpass hlen hn h4 h16 => ?_,
    fun m s pw hg h0 hl hop hr hlock hpass hmin hmax hpw => ?_,
    fun m s pw crc hg h0 hl hs hr hlock hpass hmin hmax hpw hw => ⟨fun hc => ?_, fun hc => ?_⟩,
    fun _ _ hg h0 hl => safeStatus_answers hg h0 hl, fun _ _ hg h0 hl hr => safeLogRead_answers hg h0 hl hr,
    fun _ _ hg h0 hl hs => safeReset_clears hg h0 hl hs⟩
  · exact safeCfgLoad_stages hg h0 hl hr hop ⟨hlock, hpass, hmin, hmax⟩ hpw hn h1 h48 ho he
  · exact safeCfgLoad_commits hg h0 hl hr hop hs hs' ⟨hlock, hpass, hmin, hmax⟩ hpw hb hw hk
  · exact safeCfgLoad_sets_password hg h0 hl hr hop hs hs' hlock hpass hlen hn h4 h16
  · exact safeCfgLoad_counts_wrong hg h0 hl hr hop ⟨hlock, hpass, hmin, hmax⟩ hpw
  · exact safeCfgAccept_runs hg h0 hl hs hr ⟨hlock, hpass, hmin, hmax⟩ hpw hw hc
  · exact safeCfgAccept_refuses hg h0 hl hs hr ⟨hlock, hpass, hmin, hmax⟩ hpw (hw ▸ hc)

end Sys2Proof
end

section
/-! PROOF. The mailbox memory is changed by four operations only: every other operation and verdict of the model leaves it as it was. -/

namespace Sys2Proof.Machine

open Sys2Proof Sys2Proof.Safety

/-- A verdict whose state holds the mailbox memory of `s`. -/
def Verdict.KeepsRings (s : State) : Verdict → Prop
  | .refuse _ _ _ => True
  | .refuseIn t _ _ _ => t.rings = s.rings
  | .done t _ _ => t.rings = s.rings
  | .accepted t _ _ => t.rings = s.rings
  | .hold t => t.rings = s.rings

@[simp] theorem Verdict.keepsRings_refuse (s : State) (a b : Nat) (p : Block) : (Verdict.refuse a b p).KeepsRings s := trivial
@[simp] theorem Verdict.keepsRings_refuseIn (s t : State) (a b : Nat) (p : Block) :
    (Verdict.refuseIn t a b p).KeepsRings s ↔ t.rings = s.rings := Iff.rfl
@[simp] theorem Verdict.keepsRings_done (s t : State) (a : Nat) (p : Block) :
    (Verdict.done t a p).KeepsRings s ↔ t.rings = s.rings := Iff.rfl
@[simp] theorem Verdict.keepsRings_accepted (s t : State) (a : Nat) (p : Block) :
    (Verdict.accepted t a p).KeepsRings s ↔ t.rings = s.rings := Iff.rfl
@[simp] theorem Verdict.keepsRings_hold (s t : State) : (Verdict.hold t).KeepsRings s ↔ t.rings = s.rings := Iff.rfl

@[simp] theorem reserved_keepsRings {m : MbCmd} {l : List (Nat × Nat)} {k : Verdict} {s : State} (h : k.KeepsRings s) :
    (reserved m l k).KeepsRings s := by
  unfold reserved; split
  · trivial
  · exact h

@[simp] theorem orElse_keepsRings {r : Option (Nat × Nat)} {k : Verdict} {s : State} (h : k.KeepsRings s) :
    (orElse r k).KeepsRings s := by
  unfold orElse; split
  · trivial
  · exact h

@[simp] theorem forAll_rings {α : Type} {f : α → State → State} (h : ∀ a s, (f a s).rings = s.rings) (l : List α) (s : State) :
    (forAll f l s).rings = s.rings := by
  induction l generalizing s with
  | nil => rfl
  | cons a l ih => rw [forAll, ih, h]

@[simp] theorem Hdr.conclude_rings {h : Hdr} {m : MbCmd} {s t : State} {v : Verdict} (hv : v.KeepsRings s) (ht : t.rings = s.rings) :
    (h.conclude m t v).rings = s.rings := by
  cases v <;> simp_all [Verdict.KeepsRings]

/-- A mailbox command leaves the mailbox memory when its own part does. -/
@[simp] theorem Hdr.run_rings {h : Hdr} {own : MbCmd → State → Verdict} (ho : ∀ m t, (own m t).KeepsRings t) (m : MbCmd) (s : State) :
    (h.run own m s).rings = s.rings := by
  unfold Hdr.run
  extract_lets t
  have ht : t.rings = s.rings := State.takeOff_rings _ _ _
  split
  · rfl
  · split
    · unfold State.await; split <;> simp
    · split
      · exact Hdr.conclude_rings (by simp) ht
      · exact (Hdr.conclude_rings (ho m t) rfl).trans ht

theorem runMask_rings {f : Fin 256 → State → Option (Nat × Nat) × State} (h : ∀ n t, (f n t).2.rings = t.rings)
    (l ok : List (Fin 256)) (s : State) : (runMask f l ok s).2.2.rings = s.rings := by
  induction l generalizing ok s with
  | nil => rfl
  | cons n l ih =>
    have hn := h n s
    unfold runMask
    split <;> rename_i e <;> rw [e] at hn
    · exact hn
    · rw [ih, hn]

@[simp] theorem maskVerdict_keepsRings {f : Fin 256 → State → Option (Nat × Nat) × State} (h : ∀ n t, (f n t).2.rings = t.rings) (m : MbCmd)
    (s : State) : (maskVerdict f m s).KeepsRings s := by
  unfold maskVerdict
  split
  · next n _ =>
    have hn := h n s
    split <;> rename_i e <;> rw [e] at hn <;> exact hn
  · next g _ =>
    have hg := runMask_rings h (maskChannels g) [] s
    split <;> rename_i e <;> rw [e] at hg <;> exact hg
  · trivial

@[simp] theorem chanVerdict_keepsRings {f : Fin 256 → State → Verdict} (h : ∀ n t, (f n t).KeepsRings t) (m : MbCmd) (s : State) :
    (chanVerdict f m s).KeepsRings s := by
  unfold chanVerdict
  split
  · exact h _ _
  · trivial

@[simp] theorem slotVerdict_keepsRings {f : Fin 1024 → State → Verdict} (h : ∀ n t, (f n t).KeepsRings t) (m : MbCmd) (s : State) :
    (slotVerdict f m s).KeepsRings s := by
  unfold slotVerdict
  split
  · exact h _ _
  · trivial

@[simp] theorem unitVerdict_keepsRings {f : Fin 32 → State → Verdict} (h : ∀ n t, (f n t).KeepsRings t) (m : MbCmd) (s : State) :
    (unitVerdict f m s).KeepsRings s := by
  unfold unitVerdict
  split
  · exact h _ _
  · trivial

@[simp] theorem axVerdict_keepsRings {f : Fin 8 → State → Verdict} (h : ∀ n t, (f n t).KeepsRings t) (m : MbCmd) (s : State) :
    (axVerdict f m s).KeepsRings s := by
  unfold axVerdict
  split
  · exact h _ _
  · trivial

@[simp] theorem State.whileFree_keepsRings {s : State} {k : Verdict} (h : k.KeepsRings s) : (s.whileFree k).KeepsRings s := by
  unfold State.whileFree
  split
  · exact h
  · trivial

theorem State.fillOne_rings {k : Fin 4} {s t : State} (h : s.fillOne k = some t) : t.rings = s.rings := by
  unfold State.fillOne at h
  dsimp only at h
  split at h
  · cases h
  · split at h
    · cases h
    · split at h <;> cases h
      rfl
    · obtain ⟨d, _, rfl⟩ := Option.map_eq_some_iff.mp h
      rfl

@[simp] theorem rings_ite (c : Prop) [Decidable c] (s t : State) : (if c then s else t).rings = if c then s.rings else t.rings :=
  apply_ite State.rings c s t

@[simp] theorem keepsRings_ite (c : Prop) [Decidable c] (s : State) (v w : Verdict) :
    (if c then v else w).KeepsRings s ↔ if c then v.KeepsRings s else w.KeepsRings s := by split <;> rfl

theorem Verdict.KeepsRings.of_eq {v : Verdict} {s t : State} (h : v.KeepsRings t) (e : t.rings = s.rings) : v.KeepsRings s := by
  cases v <;> first | trivial | exact Eq.trans h e

@[simp] theorem State.dropKept_rings (k : Fin 8) (s : State) :
    (State.dropKept k s).rings = s.rings := by
  unfold State.dropKept
  split <;> simp

@[simp] theorem State.respondHeld_rings (k : Fin 8) (r : Response) (s : State) :
    (State.respondHeld k r s).rings = s.rings := by
  simp [State.respondHeld]

@[simp] theorem State.respondLate_rings (m : MbCmd) (r : Response) (s : State) :
    (State.respondLate m r s).rings = s.rings := by
  simp [State.respondLate]

@[simp] theorem State.endDeliveries_rings (s : State) :
    (State.endDeliveries s).rings = s.rings := by
  unfold State.endDeliveries
  refine forAll_rings (fun a t => ?_) _ _
  split <;> simp

@[simp] theorem State.drawRecords_rings (u : Fin 32) (s : State) :
    (State.drawRecords u s).rings = s.rings := by
  simp [State.drawRecords]

@[simp] theorem State.putUnit_rings (u : Fin 32) (p : Pounce) (s : State) :
    (State.putUnit u p s).rings = s.rings := rfl

@[simp] theorem State.serveDelivery_rings (u : Fin 32) (dv : Delivery) (s : State) :
    (State.serveDelivery u dv s).rings = s.rings := by
  unfold State.serveDelivery
  dsimp only
  repeat' split
  all_goals simp

@[simp] theorem State.inkwellServes_rings (s : State) :
    (State.inkwellServes s).rings = s.rings := by
  unfold State.inkwellServes
  repeat' split
  all_goals simp

@[simp] theorem State.cycle_rings (s : State) :
    (State.cycle s).rings = s.rings := by
  simp [State.cycle]

@[simp] theorem State.idle_rings (s : State) :
    (State.idle s).rings = s.rings := by
  simp [State.idle]

@[simp] theorem State.await_rings (opcode : ℕ) (m : MbCmd) (s : State) :
    (State.await opcode m s).rings = s.rings := by
  simp [State.await]

@[simp] theorem State.openSession_keepsRings (m : MbCmd) (l : ℕ) (s : State) :
    (State.openSession m l s).KeepsRings s := by
  simp [State.openSession]

@[simp] theorem State.sessionWrong_keepsRings (m : MbCmd) (l : ℕ) (s : State) :
    (State.sessionWrong m l s).KeepsRings s := by
  simp [State.sessionWrong]

@[simp] theorem State.sessionOpen_keepsRings (m : MbCmd) (s : State) :
    (State.sessionOpen m s).KeepsRings s := by
  unfold State.sessionOpen
  dsimp only
  refine reserved_keepsRings ?_
  repeat' split
  all_goals trivial

@[simp] theorem State.answerSelftest_rings (status : ℕ) (detail : ℕ) (payload : Block) (t : SelfTest) (s : State) :
    (State.answerSelftest status detail payload t s).rings = s.rings := by
  simp [State.answerSelftest]

@[simp] theorem State.leaveService_rings (s : State) :
    (State.leaveService s).rings = s.rings := forAll_rings (by simp) _ _

@[simp] theorem State.modeSet_keepsRings (m : MbCmd) (s : State) :
    (State.modeSet m s).KeepsRings s := by
  simp [State.modeSet]

@[simp] theorem State.suspendServo_rings (s : State) :
    (State.suspendServo s).rings = s.rings := by
  simp [State.suspendServo]

@[simp] theorem State.requeue_rings (cause : ℕ) (p : Item → Bool) (s : State) :
    (State.requeue cause p s).rings = s.rings := by
  simp [State.requeue]

@[simp] theorem State.dropFlows_rings (s : State) :
    (State.dropFlows s).rings = s.rings := forAll_rings (by simp) _ _

@[simp] theorem State.reachC_rings (s : State) :
    (State.reachC s).rings = s.rings := by
  simp [State.reachC]

@[simp] theorem State.cause_rings (mask : ℕ) (reach : ℕ) (s : State) :
    (State.cause mask reach s).rings = s.rings := by
  unfold State.cause
  split <;> simp

@[simp] theorem State.restartImage_rings (k : Fin 8) (crc : Word) (flash : Bool) (s : State) :
    (State.restartImage k crc flash s).rings = s.rings := by
  simp [State.restartImage]

@[simp] theorem State.sendPacket_rings (p : Fin 4) (c : ℕ) (x : Packet) (s : State) :
    (State.sendPacket p c x s).rings = s.rings := by
  simp [State.sendPacket]

@[simp] theorem State.sendOn_rings (p : Fin 4) (f : Frame) (s : State) :
    (State.sendOn p f s).rings = s.rings := by
  simp [State.sendOn]

@[simp] theorem State.sendAll_rings (ps : List (Fin 4)) (f : Frame) (s : State) :
    (State.sendAll ps f s).rings = s.rings := forAll_rings (by simp) _ _

@[simp] theorem State.passNotice_rings (f : Frame) (ingress : Option (Fin 4)) (s : State) :
    (State.passNotice f ingress s).rings = s.rings := by
  unfold State.passNotice
  extract_lets s1
  have hs1 : s1.rings = s.rings := by
    unfold s1
    split <;> simp
  repeat' split
  all_goals simp [hs1]

@[simp] theorem State.countFrame_rings (s : State) :
    (State.countFrame s).rings = s.rings := rfl

@[simp] theorem State.markFlood_rings (s : State) (f : Frame) :
    (State.markFlood s f).rings = s.rings := by
  simp [State.markFlood]

@[simp] theorem State.noticeCache_rings (s : State) (subject : BitVec 16) (code : BitVec 16) :
    (State.noticeCache s subject code).rings = s.rings := by
  simp [State.noticeCache]

@[simp] theorem State.notice_rings (code : ℕ) (subject : BitVec 16) (param : ℕ) (s : State) :
    (State.notice code subject param s).rings = s.rings := by
  simp [State.notice]

@[simp] theorem State.seat_rings (ev : Event) (count : ℕ) (summary : Bool) (s : State) :
    (State.seat ev count summary s).rings = s.rings := by
  simp [State.seat]

@[simp] theorem State.reserve_rings (ev : Event) (count : ℕ) (summary : Bool) (s : State) :
    (State.reserve ev count summary s).rings = s.rings := by
  unfold State.reserve
  repeat' split
  all_goals simp

@[simp] theorem State.logEvent_rings (ev : Event) (count : ℕ) (summary : Bool) (s : State) :
    (State.logEvent ev count summary s).rings = s.rings := by
  simp [State.logEvent]

@[simp] theorem State.limit_rings (ev : Event) (s : State) :
    (State.limit ev s).rings = s.rings := by
  simp [State.limit]

@[simp] theorem State.drainRaises_rings (s : State) :
    (State.drainRaises s).rings = s.rings := by
  obtain ⟨i, v, b, f, h, e, -⟩ := s.drainRaises_onlyWrites
  rw [e]

@[simp] theorem State.retireRow_rings (row : ℕ) (cause : ℕ) (s : State) :
    (State.retireRow row cause s).rings = s.rings := by
  simp [State.retireRow]

@[simp] theorem State.wearRow_rings (row : ℕ) (k : ℕ) (s : State) :
    (State.wearRow row k s).rings = s.rings := by
  simp [State.wearRow]

@[simp] theorem State.persist_rings (region : ℕ) (k : ℕ) (s : State) :
    (State.persist region k s).rings = s.rings := by
  simp [State.persist]

@[simp] theorem State.flushWear_rings (s : State) :
    (State.flushWear s).rings = s.rings := by
  simp [State.flushWear]

@[simp] theorem State.markTime_rings (s : State) :
    (State.markTime s).rings = s.rings := by
  simp [State.markTime]

@[simp] theorem State.putRing_rings (e : Entry) (s : State) :
    (State.putRing e s).rings = s.rings := by
  simp [State.putRing]

@[simp] theorem State.flushBlotter_rings (s : State) :
    (State.flushBlotter s).rings = s.rings := by
  obtain ⟨v, b, e, -, -⟩ := s.flushBlotter_wears
  rw [e]

@[simp] theorem State.writeCkpt_rings (n : Fin 256) (w : Block) (s : State) :
    (State.writeCkpt n w s).rings = s.rings := by
  unfold State.writeCkpt
  split <;> simp

@[simp] theorem State.writePending_rings (s : State) :
    (State.writePending s).rings = s.rings := by
  unfold State.writePending
  refine forAll_rings (fun a t => ?_) _ _
  split <;> simp

@[simp] theorem State.unreachable_rings (dst : BitVec 16) (typ : ℕ) (s : State) :
    (State.unreachable dst typ s).rings = s.rings := by
  simp [State.unreachable]

@[simp] theorem State.sendUnicast_rings (f : Frame) (fallback : Option (Fin 4)) (s : State) :
    (State.sendUnicast f fallback s).rings = s.rings := by
  unfold State.sendUnicast
  repeat' split
  all_goals simp

@[simp] theorem State.sendResponse_rings (k : Fin 8) (w : Block) (s : State) :
    (State.sendResponse k w s).rings = s.rings := by
  simp [State.sendResponse]

@[simp] theorem State.devStandby_keepsRings (m : MbCmd) (s : State) :
    (State.devStandby m s).KeepsRings s := by
  unfold State.devStandby
  split <;> simp

@[simp] theorem State.configure_rings (p : Block) (n : Fin 256) (s : State) :
    (State.configure p n s).2.rings = s.rings := by
  unfold State.configure
  repeat' split
  all_goals simp

@[simp] theorem State.watchPins_rings (o : State) (n : Fin 256) (s : State) :
    (State.watchPins o n s).rings = s.rings := by
  simp [State.watchPins]

@[simp] theorem State.writeImages_rings (n : Fin 256) (s : State) :
    (State.writeImages n s).rings = s.rings := by
  simp [State.writeImages]

@[simp] theorem State.enable_rings (n : Fin 256) (s : State) :
    (State.enable n s).2.rings = s.rings := by
  unfold State.enable
  dsimp only
  repeat' split
  all_goals simp

@[simp] theorem State.disable_keepsRings (n : Fin 256) (s : State) :
    (State.disable n s).KeepsRings s := by
  unfold State.disable
  dsimp only
  repeat' split
  all_goals simp

@[simp] theorem State.clear_keepsRings (n : Fin 256) (s : State) :
    (State.clear n s).KeepsRings s := by
  unfold State.clear
  dsimp only
  repeat' split
  all_goals simp

@[simp] theorem State.postLoad_rings (n : Fin 256) (target : ℕ) (m : MbCmd) (s : State) :
    (State.postLoad n target m s).rings = s.rings := by
  simp [State.postLoad]

@[simp] theorem State.arm_keepsRings (m : MbCmd) (n : Fin 256) (s : State) :
    (State.arm m n s).KeepsRings s := by
  simp [State.arm]

@[simp] theorem State.dropSamples_rings (n : Fin 256) (s : State) :
    (State.dropSamples n s).rings = s.rings := rfl

@[simp] theorem State.doneEvent_rings (n : Fin 256) (last : ℕ) (how : ℕ) (s : State) :
    (State.doneEvent n last how s).rings = s.rings := rfl

@[simp] theorem State.startRun_rings (n : Fin 256) (s : State) :
    (State.startRun n s).rings = s.rings := by
  unfold State.startRun
  split <;> simp

@[simp] theorem State.start_keepsRings (m : MbCmd) (n : Fin 256) (s : State) :
    (State.start m n s).KeepsRings s := by
  unfold State.start
  refine orElse_keepsRings (reserved_keepsRings (orElse_keepsRings (orElse_keepsRings ?_)))
  dsimp only
  repeat' split
  all_goals simp

@[simp] theorem State.holdChannel_rings (n : Fin 256) (s : State) :
    (State.holdChannel n s).rings = s.rings := by
  simp [State.holdChannel]

@[simp] theorem State.hold_keepsRings (n : Fin 256) (s : State) :
    (State.hold n s).KeepsRings s := by
  unfold State.hold
  refine orElse_keepsRings ?_
  split <;> simp

@[simp] theorem State.resumeRun_rings (m : MbCmd) (n : Fin 256) (at_ : ResumeAt) (s : State) :
    (State.resumeRun m n at_ s).rings = s.rings := by
  simp [State.resumeRun]

@[simp] theorem State.resume_keepsRings (m : MbCmd) (n : Fin 256) (s : State) :
    (State.resume m n s).KeepsRings s := by
  unfold State.resume
  refine orElse_keepsRings (reserved_keepsRings (orElse_keepsRings (orElse_keepsRings ?_)))
  split <;> simp

@[simp] theorem State.tooLate_rings (flow : ℕ) (handle : ℕ) (param : ℕ) (s : State) :
    (State.tooLate flow handle param s).rings = s.rings := rfl

@[simp] theorem State.cancel_rings (flow : ℕ) (handle : ℕ) (work : Work) (s : State) :
    (State.cancel flow handle work s).2.rings = s.rings := by
  unfold State.cancel
  repeat' split
  all_goals simp

@[simp] theorem State.cancelMediated_rings (n : Fin 256) (s : State) :
    (State.cancelMediated n s).rings = s.rings := by
  unfold State.cancelMediated
  repeat' split
  all_goals simp

@[simp] theorem State.withStep_rings (n : Fin 256) (s : State) :
    (State.withStep n s).rings = s.rings := rfl

@[simp] theorem State.abandon_rings (n : Fin 256) (x : StepEnd) (s : State) :
    (State.abandon n x s).rings = s.rings := by
  simp [State.abandon]

@[simp] theorem State.abort_keepsRings (n : Fin 256) (s : State) :
    (State.abort n s).KeepsRings s := by
  simp [State.abort]

@[simp] theorem State.stepJump_keepsRings (m : MbCmd) (n : Fin 256) (s : State) :
    (State.stepJump m n s).KeepsRings s := by
  simp [State.stepJump]

@[simp] theorem State.rcpLoad_keepsRings (m : MbCmd) (k : Fin 1024) (s : State) :
    (State.rcpLoad m k s).KeepsRings s := by
  unfold State.rcpLoad
  dsimp only
  repeat' split
  all_goals simp

@[simp] theorem State.postPiece_rings (k : Fin 8) (s : State) :
    (State.postPiece k s).rings = s.rings := by
  simp [State.postPiece]

@[simp] theorem State.rcpVerify_keepsRings (m : MbCmd) (k : Fin 1024) (s : State) :
    (State.rcpVerify m k s).KeepsRings s := by
  simp [State.rcpVerify]

@[simp] theorem State.endVerify_rings (mb : Fin 8) (v : Verify) (status : ℕ) (detail : ℕ) (payload : Block) (s0 : State) :
    (State.endVerify mb v status detail payload s0).rings = s0.rings := by
  simp [State.endVerify]

@[simp] theorem State.verifyPiece_rings (mb : Fin 8) (v : Verify) (n : ℕ) (s : State) :
    (State.verifyPiece mb v n s).rings = s.rings := by
  unfold State.verifyPiece
  dsimp only
  repeat' split
  all_goals simp

@[simp] theorem State.rcpDelete_keepsRings (k : Fin 1024) (s : State) :
    (State.rcpDelete k s).KeepsRings s := by
  simp [State.rcpDelete]

@[simp] theorem State.loopSet_keepsRings (m : MbCmd) (n : Fin 256) (s : State) :
    (State.loopSet m n s).KeepsRings s := by
  unfold State.loopSet
  dsimp only
  repeat' split
  all_goals simp

@[simp] theorem State.loopGet_keepsRings (m : MbCmd) (n : Fin 256) (s : State) :
    (State.loopGet m n s).KeepsRings s := by
  unfold State.loopGet
  dsimp only
  split
  · trivial
  · exact reserved_keepsRings (by simp)

@[simp] theorem State.tuneInject_keepsRings (m : MbCmd) (n : Fin 256) (s : State) :
    (State.tuneInject m n s).KeepsRings s := by
  unfold State.tuneInject
  dsimp only
  refine orElse_keepsRings (orElse_keepsRings (orElse_keepsRings ?_))
  split
  · trivial
  · exact orElse_keepsRings (by simp)

@[simp] theorem State.leaveTune_rings (n : Fin 256) (s : State) :
    (State.leaveTune n s).rings = s.rings := by
  unfold State.leaveTune
  split <;> simp

@[simp] theorem State.tuneStop_keepsRings (n : Fin 256) (s : State) :
    (State.tuneStop n s).KeepsRings s := by
  simp [State.tuneStop]

@[simp] theorem State.acqConfig_keepsRings (m : MbCmd) (u : Fin 32) (s : State) :
    (State.acqConfig m u s).KeepsRings s := by
  simp [State.acqConfig]

@[simp] theorem State.acqArm_keepsRings (u : Fin 32) (s : State) :
    (State.acqArm u s).KeepsRings s := by
  unfold State.acqArm
  dsimp only
  repeat' split
  all_goals simp

@[simp] theorem State.acqForce_keepsRings (u : Fin 32) (s : State) :
    (State.acqForce u s).KeepsRings s := by
  simp [State.acqForce]

@[simp] theorem State.acqRead_keepsRings (m : MbCmd) (u : Fin 32) (s : State) :
    (State.acqRead m u s).KeepsRings s := by
  unfold State.acqRead
  dsimp only
  split
  · simp
  · refine reserved_keepsRings ?_
    repeat' split
    all_goals simp

@[simp] theorem ownRecConfig_keepsRings (m : MbCmd) (s : State) :
    (ownRecConfig m s).KeepsRings s := by
  simp [ownRecConfig]

@[simp] theorem State.sentTo_rings (k : Fin 4) (q : ℕ) (s : State) :
    (State.sentTo k q s).rings = s.rings := by
  simp [State.sentTo]

@[simp] theorem State.returnBuffer_rings (k : Fin 4) (s : State) :
    (State.returnBuffer k s).rings = s.rings := by
  unfold State.returnBuffer
  split <;> simp

@[simp] theorem State.closeStream_rings (k : Fin 4) (s0 : State) :
    (State.closeStream k s0).rings = s0.rings := by
  simp [State.closeStream]

@[simp] theorem State.fillBuffer_rings (k : Fin 4) (x1 : ℕ) (x2 : State) :
    (State.fillBuffer k x1 x2).rings = x2.rings := by
  induction x1 generalizing x2 with
  | zero => rfl
  | succ n ih =>
    unfold State.fillBuffer
    split
    · next t h => rw [ih, State.fillOne_rings h]
    · rfl

@[simp] theorem State.openStream_rings (k : Fin 4) (p : Block) (s : State) :
    (State.openStream k p s).rings = s.rings := by
  simp [State.openStream]

@[simp] theorem ownRecStreamOpen_keepsRings (m : MbCmd) (s : State) :
    (ownRecStreamOpen m s).KeepsRings s := by
  simp [ownRecStreamOpen]

@[simp] theorem ownRecStatus_keepsRings (x0 : MbCmd) (s : State) :
    (ownRecStatus x0 s).KeepsRings s := by
  simp [ownRecStatus]

@[simp] theorem State.bothChannels_rings (f : MChan → MChan) (s : State) :
    (State.bothChannels f s).rings = s.rings := rfl

@[simp] theorem State.alignTaps_rings (a : Fin 8) (s : State) :
    (State.alignTaps a s).rings = s.rings := rfl

@[simp] theorem State.axEnable_keepsRings (a : Fin 8) (b : Block) (s : State) :
    (State.axEnable a b s).KeepsRings s := by
  unfold State.axEnable
  dsimp only
  repeat' split
  all_goals simp

@[simp] theorem State.dropReference_rings (a : Fin 8) (s : State) :
    (State.dropReference a s).rings = s.rings := rfl

@[simp] theorem State.axDisable_rings (a : Fin 8) (b : Block) (s : State) :
    (State.axDisable a b s).rings = s.rings := rfl

@[simp] theorem State.memberStops_rings (a : Fin 8) (s : State) :
    (State.memberStops a s).rings = s.rings := by
  simp [State.memberStops]

@[simp] theorem State.stopLinear_rings (a : Fin 8) (quick : Bool) (s : State) :
    (State.stopLinear a quick s).rings = s.rings := forAll_rings (by simp) _ _

@[simp] theorem State.answerStops_rings (a : Fin 8) (s : State) :
    (State.answerStops a s).rings = s.rings := by
  simp [State.answerStops]

@[simp] theorem State.leaveLinear_rings (a : Fin 8) (s : State) :
    (State.leaveLinear a s).rings = s.rings := rfl

@[simp] theorem State.axisFault_rings (a : Fin 8) (cause : ℕ) (s : State) :
    (State.axisFault a cause s).rings = s.rings := by
  simp [State.axisFault]

@[simp] theorem State.energise_rings (a : Fin 8) (was : Axis) (s : State) :
    (State.energise a was s).rings = s.rings := by
  simp [State.energise]

@[simp] theorem State.reference_rings (a : Fin 8) (shift : ℤ) (s : State) :
    (State.reference a shift s).rings = s.rings := by
  simp [State.reference]

@[simp] theorem State.startLinear_rings (l : List (Fin 8)) (dest : Fin 8 → ℤ) (s : State) :
    (State.startLinear l dest s).rings = s.rings := by
  unfold State.startLinear
  dsimp only
  split
  · rfl
  · exact forAll_rings (by simp) _ _

@[simp] theorem State.settleLinear_rings (s : State) :
    (State.settleLinear s).rings = s.rings := forAll_rings (by simp) _ _

@[simp] theorem State.homeAbandon_rings (a : Fin 8) (s : State) :
    (State.homeAbandon a s).rings = s.rings := by
  simp [State.homeAbandon]

@[simp] theorem State.stopAxis_rings (a : Fin 8) (quick : Bool) (s : State) :
    (State.stopAxis a quick s).rings = s.rings := by
  unfold State.stopAxis
  repeat' split
  all_goals simp

@[simp] theorem State.standstill_rings (a : Fin 8) (mode : ℕ) (s : State) :
    (State.standstill a mode s).rings = s.rings := by
  simp [State.standstill]

@[simp] theorem State.hardClamp_rings (a : Fin 8) (what : ℕ) (s : State) :
    (State.hardClamp a what s).rings = s.rings := by
  simp [State.hardClamp]

@[simp] theorem State.clampMember_rings (l : Linear) (m : Fin 8 × ℤ × ℤ) (s : State) :
    (State.clampMember l m s).rings = s.rings := by
  simp [State.clampMember]

@[simp] theorem State.tickFree_rings (s : State) :
    (State.tickFree s).rings = s.rings := rfl

@[simp] theorem State.encCheck_rings (a : Fin 8) (s : State) :
    (State.encCheck a s).rings = s.rings := by
  simp [State.encCheck]

@[simp] theorem State.stepAxis_rings (a : Fin 8) (d : ℤ) (v : Pace) (s : State) :
    (State.stepAxis a d v s).rings = s.rings := by
  simp [State.stepAxis]

@[simp] theorem State.follow_rings (l : Linear) (p : ℤ) (v : ℕ) (m : Fin 8 × ℤ × ℤ) (s : State) :
    (State.follow l p v m s).rings = s.rings := by
  simp [State.follow]

@[simp] theorem State.stepLinear_rings (l : Linear) (s : State) :
    (State.stepLinear l s).rings = s.rings := by
  simp [State.stepLinear]

@[simp] theorem State.stepUp_rings (a : Fin 8) (d : ℤ) (v : ℕ) (rest : Option ℕ) (s : State) :
    (State.stepUp a d v rest s).rings = s.rings := by
  simp [State.stepUp]

@[simp] theorem State.stepDown_rings (a : Fin 8) (quick : Bool) (s : State) :
    (State.stepDown a quick s).rings = s.rings := by
  simp [State.stepDown]

@[simp] theorem State.stepHoming_rings (a : Fin 8) (h : Homing) (s : State) :
    (State.stepHoming a h s).rings = s.rings := by
  unfold State.stepHoming
  dsimp only
  repeat' split
  all_goals simp

@[simp] theorem State.stepGenerator_rings (a : Fin 8) (s : State) :
    (State.stepGenerator a s).rings = s.rings := by
  unfold State.stepGenerator
  dsimp only
  repeat' split
  all_goals simp

@[simp] theorem State.fence_rings (g : Fin 17) (s : State) :
    (State.fence g s).rings = s.rings := forAll_rings (by simp) _ _

@[simp] theorem State.retireNib_rings (k : Fin 20) (why : ℕ) (s : State) :
    (State.retireNib k why s).rings = s.rings := rfl

@[simp] theorem State.endNibTest_rings (k : Fin 20) (s : State) :
    (State.endNibTest k s).rings = s.rings := by
  unfold State.endNibTest
  split <;> simp

@[simp] theorem State.axisNoNib_rings (a : Fin 8) (s : State) :
    (State.axisNoNib a s).rings = s.rings := by
  unfold State.axisNoNib
  split <;> simp

@[simp] theorem State.groupNoNib_rings (g : Fin 17) (s : State) :
    (State.groupNoNib g s).rings = s.rings := by
  unfold State.groupNoNib
  split
  · dsimp only
    rw [State.raise_rings]
    exact forAll_rings (by simp) _ _
  · rw [State.raise_rings]
    exact forAll_rings (by simp) _ _

@[simp] theorem State.startTakeover_rings (g : Fin 17) (old : Fin 20) (since : ℕ) (s0 : State) :
    (State.startTakeover g old since s0).rings = s0.rings := by
  unfold State.startTakeover
  dsimp only
  split <;> simp

@[simp] theorem State.answerRetire_rings (status : ℕ) (detail : ℕ) (m : MbCmd) (s : State) :
    (State.answerRetire status detail m s).rings = s.rings := by
  simp [State.answerRetire]

@[simp] theorem State.servingFault_rings (k : Fin 20) (g : Fin 17) (overruns : Bool) (s : State) :
    (State.servingFault k g overruns s).rings = s.rings := by
  simp [State.servingFault]

@[simp] theorem State.startPlanned_rings (g : Fin 17) (cmds : List MbCmd) (s : State) :
    (State.startPlanned g cmds s).rings = s.rings := by
  unfold State.startPlanned
  split
  · simp
  · exact forAll_rings (by simp) _ _

@[simp] theorem State.abandonHandover_rings (k : Fin 20) (s : State) :
    (State.abandonHandover k s).rings = s.rings := by
  unfold State.abandonHandover
  split
  · rfl
  · dsimp only
    split <;> simp

@[simp] theorem State.nibFault_rings (k : Fin 20) (overruns : Bool) (s : State) :
    (State.nibFault k overruns s).rings = s.rings := by
  unfold State.nibFault
  repeat' split
  all_goals simp

@[simp] theorem State.limitHit_rings (a : Fin 8) (which : ℕ) (s : State) :
    (State.limitHit a which s).rings = s.rings := by
  unfold State.limitHit
  extract_lets s1
  have hs1 : s1.rings = s.rings := by simp [s1]
  split <;> simp [hs1]

@[simp] theorem State.safeLog_rings (kind : ℕ) (session : Word) (new : Word) (old_ : Block) (new_ : Block) (s : State) :
    (State.safeLog kind session new old_ new_ s).rings = s.rings := by
  simp [State.safeLog]

@[simp] theorem State.safeWrong_keepsRings (m : MbCmd) (s : State) :
    (State.safeWrong m s).KeepsRings s := by
  simp [State.safeWrong]

@[simp] theorem State.withSafePassword_keepsRings (m : MbCmd) (none_ : Bool) (s : State) (k : State → Verdict) (hk : ∀ t, (k t).KeepsRings t) :
    (State.withSafePassword m none_ s k).KeepsRings s := by
  unfold State.withSafePassword
  dsimp only
  split
  · trivial
  · split
    · exact hk s
    · split
      · trivial
      · split
        · split
          · rfl
          · exact hk _
        · simp

@[simp] theorem State.safeChunk_keepsRings (m : MbCmd) (s : State) :
    (State.safeChunk m s).KeepsRings s := by
  simp [State.safeChunk]

@[simp] theorem State.commandFrom_rings (o : State) (s : State) :
    (State.commandFrom o s).rings = s.rings := forAll_rings (by simp) _ _

@[simp] theorem State.setMargin_rings (st : MState) (s : State) :
    (State.setMargin st s).rings = s.rings := by
  simp [State.setMargin]

@[simp] theorem State.safeCommit_keepsRings (m : MbCmd) (s : State) :
    (State.safeCommit m s).KeepsRings s := by
  unfold State.safeCommit
  split
  · trivial
  · dsimp only
    split
    · trivial
    · exact orElse_keepsRings (by simp)

@[simp] theorem State.safeSetPassword_keepsRings (m : MbCmd) (s : State) :
    (State.safeSetPassword m s).KeepsRings s := by
  simp [State.safeSetPassword]

@[simp] theorem State.marginRun_rings (s : State) :
    (State.marginRun s).rings = s.rings := by
  simp [State.marginRun]

@[simp] theorem State.fabDiscover_keepsRings (m : MbCmd) (s : State) :
    (State.fabDiscover m s).KeepsRings s := by
  simp [State.fabDiscover]

@[simp] theorem State.takeAddr_rings (a : BitVec 16) (s : State) :
    (State.takeAddr a s).rings = s.rings := by
  simp [State.takeAddr]

@[simp] theorem State.startAssign_rings (m : MbCmd) (ring : Bool) (uid : BitVec 64) (s : State) :
    (State.startAssign m ring uid s).2.rings = s.rings := rfl

@[simp] theorem State.sendRing_rings (p : Fin 4) (id : BitVec 16) (origin : BitVec 64) (next : ℕ) (s : State) :
    (State.sendRing p id origin next s).rings = s.rings := by
  simp [State.sendRing]

@[simp] theorem State.fabAddrSet_keepsRings (m : MbCmd) (s : State) :
    (State.fabAddrSet m s).KeepsRings s := by
  simp [State.fabAddrSet]

@[simp] theorem State.endAssign_rings (a : Assign) (status : ℕ) (detail : ℕ) (s : State) :
    (State.endAssign a status detail s).rings = s.rings := by
  simp [State.endAssign]

@[simp] theorem State.routeLoad_keepsRings (m : MbCmd) (s : State) :
    (State.routeLoad m s).KeepsRings s := by
  simp [State.routeLoad]

@[simp] theorem State.updTb_rings (f : Timebase → Timebase) (s : State) :
    (State.updTb f s).rings = s.rings := rfl

@[simp] theorem State.setServo_rings (v : Servo) (s : State) :
    (State.setServo v s).rings = s.rings := by
  simp [State.setServo]

@[simp] theorem State.applyTimeConfig_rings (old : Block) (new : Block) (s : State) :
    (State.applyTimeConfig old new s).rings = s.rings := by
  simp [State.applyTimeConfig]

@[simp] theorem State.stepOpen_rings (n : Fin 256) (s : State) :
    (State.stepOpen n s).rings = s.rings := by
  simp [State.stepOpen]

@[simp] theorem State.stepInterval_rings (n : Fin 256) (s : State) :
    (State.stepInterval n s).rings = s.rings := by
  simp [State.stepInterval]

@[simp] theorem State.eraStep_rings (oldEra : ℕ) (oldTime : ℕ) (s : State) :
    (State.eraStep oldEra oldTime s).rings = s.rings := rfl

@[simp] theorem State.setEntry_rings (i : ℕ) (x : TimeOut) (s : State) :
    (State.setEntry i x s).rings = s.rings := by
  simp [State.setEntry]

@[simp] theorem State.slotSignal_rings (k : ℕ) (s : State) :
    (State.slotSignal k s).rings = s.rings := by
  simp [State.slotSignal]

@[simp] theorem State.fire_rings (i : ℕ) (s : State) :
    (State.fire i s).rings = s.rings := by
  simp [State.fire]

@[simp] theorem State.missed_rings (i : ℕ) (s : State) :
    (State.missed i s).rings = s.rings := by
  simp [State.missed]

@[simp] theorem State.stepTo_rings (own : ℕ) (new : ℕ) (s : State) :
    (State.stepTo own new s).rings = s.rings := by
  simp [State.stepTo]

@[simp] theorem State.timeSlew_keepsRings (m : MbCmd) (s : State) :
    (State.timeSlew m s).KeepsRings s := by
  simp [State.timeSlew]

@[simp] theorem State.timeOut_keepsRings (m : MbCmd) (s : State) :
    (State.timeOut m s).KeepsRings s := by
  unfold State.timeOut
  dsimp only
  split
  · trivial
  · split
    · exact reserved_keepsRings (by simp)
    · exact orElse_keepsRings (by simp)

@[simp] theorem State.captureRead_keepsRings (m : MbCmd) (s : State) :
    (State.captureRead m s).KeepsRings s := by
  simp [State.captureRead]

@[simp] theorem State.startCal_keepsRings (m : MbCmd) (n : Fin 256) (s : State) :
    (State.startCal m n s).KeepsRings s := by
  unfold State.startCal
  refine orElse_keepsRings (reserved_keepsRings ?_)
  split
  · trivial
  · dsimp only
    simp

@[simp] theorem State.endCal_rings (n : Fin 256) (status : ℕ) (detail : ℕ) (payload : Block) (s : State) :
    (State.endCal n status detail payload s).rings = s.rings := by
  unfold State.endCal
  repeat' split
  all_goals simp

@[simp] theorem State.dropPoints_rings (n : Fin 256) (s : State) :
    (State.dropPoints n s).rings = s.rings := rfl

@[simp] theorem State.persistCal_rings (n : Fin 256) (s : State) :
    (State.persistCal n s).rings = s.rings := by
  simp [State.persistCal]

@[simp] theorem State.commitCal_keepsRings (m : MbCmd) (n : Fin 256) (s : State) :
    (State.commitCal m n s).KeepsRings s := by
  unfold State.commitCal
  refine orElse_keepsRings (reserved_keepsRings ?_)
  dsimp only
  repeat' split
  all_goals simp

@[simp] theorem State.setTripCfg_rings (f : Fin 4) (v : Word) (s : State) :
    (State.setTripCfg f v s).rings = s.rings := by
  simp [State.setTripCfg]

@[simp] theorem State.optWrite_rings (o : ℕ) (i : ℕ) (v : ℕ) (s : State) :
    (State.optWrite o i v s).rings = s.rings := by
  unfold State.optWrite
  split <;> simp

@[simp] theorem State.optSet_keepsRings (m : MbCmd) (s : State) :
    (State.optSet m s).KeepsRings s := by
  unfold State.optSet
  refine reserved_keepsRings ?_
  repeat' split
  all_goals simp

@[simp] theorem State.evtConfig_keepsRings (m : MbCmd) (s : State) :
    (State.evtConfig m s).KeepsRings s := by
  simp [State.evtConfig]

@[simp] theorem State.evtClear_keepsRings (m : MbCmd) (s : State) :
    (State.evtClear m s).KeepsRings s := by
  simp [State.evtClear]

@[simp] theorem State.retireByCommand_keepsRings (m : MbCmd) (k : Fin 20) (s : State) :
    (State.retireByCommand m k s).KeepsRings s := by
  unfold State.retireByCommand
  dsimp only
  repeat' split
  all_goals simp

@[simp] theorem State.retireConv_keepsRings (f : Fin 4) (c : ℕ) (s : State) :
    (State.retireConv f c s).KeepsRings s := by
  simp [State.retireConv]

@[simp] theorem State.retireCore_keepsRings (i : ℕ) (s : State) :
    (State.retireCore i s).KeepsRings s := by
  unfold State.retireCore
  repeat' split
  all_goals simp -- SLOW 2378

@[simp] theorem State.spareRetire_keepsRings (m : MbCmd) (s : State) :
    (State.spareRetire m s).KeepsRings s := by
  unfold State.spareRetire
  refine reserved_keepsRings ?_
  split <;> simp

@[simp] theorem State.startSelftest_keepsRings (m : MbCmd) (s : State) :
    (State.startSelftest m s).KeepsRings s := by
  simp [State.startSelftest]

@[simp] theorem State.selftest_keepsRings (m : MbCmd) (s : State) :
    (State.selftest m s).KeepsRings s := by
  unfold State.selftest
  dsimp only
  split
  · trivial
  · refine reserved_keepsRings ?_
    repeat' split
    all_goals simp

@[simp] theorem State.testFault_rings (t : SelfTest) (s : State) :
    (State.testFault t s).rings = s.rings := by
  simp [State.testFault]

@[simp] theorem State.fwStage_keepsRings (m : MbCmd) (s : State) :
    (State.fwStage m s).KeepsRings s := by
  simp [State.fwStage]

@[simp] theorem State.fwActivate_keepsRings (m : MbCmd) (s : State) :
    (State.fwActivate m s).KeepsRings s := by
  unfold State.fwActivate
  refine reserved_keepsRings ?_
  repeat' split
  all_goals simp

@[simp] theorem State.doorbellRefused_rings (k : Fin 8) (v : Word) (s : State) :
    (State.doorbellRefused k v s).rings = s.rings := rfl

@[simp] theorem State.ringDoorbell_rings (k : Fin 8) (v : Word) (s : State) :
    (State.ringDoorbell k v s).rings = s.rings := by
  simp [State.ringDoorbell]

@[simp] theorem State.doorbell_rings (k : Fin 8) (v : Word) (s : State) :
    (State.doorbell k v s).rings = s.rings := by
  simp [State.doorbell, State.whenReady]

@[simp] theorem State.takeCommand_rings (k : Fin 8) (s : State) :
    (State.takeCommand k s).rings = s.rings := by
  simp [State.takeCommand]

@[simp] theorem State.rspHeadWrite_rings (k : Fin 8) (v : Word) (s : State) :
    (State.rspHeadWrite k v s).rings = s.rings := by
  simp [State.rspHeadWrite, State.whenReady]

@[simp] theorem State.mbCfgWrite_rings (k : Fin 8) (v : Word) (s : State) :
    (State.mbCfgWrite k v s).rings = s.rings := by
  simp [State.mbCfgWrite, State.whenReady]

@[simp] theorem State.mbStatWrite_rings (k : Fin 8) (v : Word) (s : State) :
    (State.mbStatWrite k v s).rings = s.rings := by
  simp [State.mbStatWrite, State.whenReady]

@[simp] theorem State.resetCauseWrite_rings (v : Word) (s : State) :
    (State.resetCauseWrite v s).rings = s.rings := rfl

@[simp] theorem State.tearCkpt_rings (n : Fin 256) (s : State) :
    (State.tearCkpt n s).rings = s.rings := by
  unfold State.tearCkpt
  repeat' split
  all_goals simp

@[simp] theorem State.tearCkpts_rings (s : State) :
    (State.tearCkpts s).rings = s.rings := by
  simp [State.tearCkpts]

@[simp] theorem State.startRelease_rings (s : State) :
    (State.startRelease s).rings = s.rings := by
  simp [State.startRelease]

@[simp] theorem State.irqStatWrite_rings (v : Word) (s : State) :
    (State.irqStatWrite v s).rings = s.rings := rfl

@[simp] theorem State.irqEnWrite_rings (v : Word) (s : State) :
    (State.irqEnWrite v s).rings = s.rings := by
  simp [State.irqEnWrite]

@[simp] theorem State.latchTime_rings (p : Path) (s : State) :
    (State.latchTime p s).rings = s.rings := by
  unfold State.latchTime
  split <;> simp

@[simp] theorem State.soReqPut_rings (x : BitVec 8) (s : State) :
    (State.soReqPut x s).rings = s.rings := by
  simp [State.soReqPut]

@[simp] theorem State.soReqAll_rings (v : Word) (s : State) :
    (State.soReqAll v s).rings = s.rings := by
  simp [State.soReqAll]

@[simp] theorem State.soReqOr_rings (v : Word) (s : State) :
    (State.soReqOr v s).rings = s.rings := by
  simp [State.soReqOr]

@[simp] theorem State.soReqAnd_rings (v : Word) (s : State) :
    (State.soReqAnd v s).rings = s.rings := by
  simp [State.soReqAnd]

@[simp] theorem State.fillWindow_rings (s : State) (q : ℕ) :
    (State.fillWindow s q).2.rings = s.rings := forAll_rings (by simp) _ _

@[simp] theorem State.blotCursor_rings (p : Path) (v : Word) (s : State) :
    (State.blotCursor p v s).rings = s.rings := by
  unfold State.blotCursor
  dsimp only
  split <;> simp

@[simp] theorem State.recAck_rings (k : Fin 4) (v : Word) (s : State) :
    (State.recAck k v s).rings = s.rings := by
  unfold State.recAck
  dsimp only
  repeat' split
  all_goals simp

@[simp] theorem State.ringTail_rings (k : Fin 4) (v : Word) (s : State) :
    (State.ringTail k v s).rings = s.rings := by
  simp [State.ringTail]

@[simp] theorem State.giveDescs_rings (k : Fin 4) (descs : List RingDesc) (s : State) :
    (State.giveDescs k descs s).rings = s.rings := rfl

@[simp] theorem State.updHlim_rings (f : Hlim → Hlim) (s : State) :
    (State.updHlim f s).rings = s.rings := rfl

@[simp] theorem State.hlimLock_rings (p : Path) (s : State) :
    (State.hlimLock p s).rings = s.rings := by
  simp [State.hlimLock]

@[simp] theorem State.hlimResult_rings (r : ℕ) (s : State) :
    (State.hlimResult r s).rings = s.rings := rfl

@[simp] theorem State.hlimTouch_rings (p : Path) (s : State) :
    (State.hlimTouch p s).rings = s.rings := by
  simp [State.hlimTouch]

@[simp] theorem State.hlimSetpw_rings (p : Path) (v : Word) (s : State) :
    (State.hlimSetpw p v s).rings = s.rings := by
  simp [State.hlimSetpw]

@[simp] theorem State.hlimUnlock_rings (p : Path) (v : Word) (s : State) :
    (State.hlimUnlock p v s).rings = s.rings := by
  simp [State.hlimUnlock]

@[simp] theorem State.hlimUnlockWrite_rings (p : Path) (v : Word) (s : State) :
    (State.hlimUnlockWrite p v s).rings = s.rings := by
  simp [State.hlimUnlockWrite]

@[simp] theorem State.hlimChecked_rings (s : State) :
    (State.hlimChecked s).rings = s.rings := by
  unfold State.hlimChecked
  dsimp only
  repeat' split
  all_goals simp

@[simp] theorem State.hlimStage_rings (p : Path) (i : ℕ) (v : Word) (s : State) :
    (State.hlimStage p i v s).rings = s.rings := by
  simp [State.hlimStage]

@[simp] theorem State.putRecord_rings (n : ℕ) (b : Block) (s : State) :
    (State.putRecord n b s).rings = s.rings := by
  unfold State.putRecord
  split
  · rfl
  · split <;> rfl

@[simp] theorem State.hlimCommit_rings (p : Path) (v : Word) (s : State) :
    (State.hlimCommit p v s).rings = s.rings := by
  simp [State.hlimCommit]

@[simp] theorem State.ringSetup_rings (k : Fin 4) (i : ℕ) (v : Word) (s : State) :
    (State.ringSetup k i v s).rings = s.rings := by
  simp [State.ringSetup]

@[simp] theorem State.msixWrite_rings (i : ℕ) (v : Word) (s : State) :
    (State.msixWrite i v s).rings = s.rings := by
  simp [State.msixWrite]

@[simp] theorem State.bar4Write_rings (p : Path) (off : ℕ) (v : Word) (s : State) :
    (State.bar4Write p off v s).rings = s.rings := by
  simp [State.bar4Write]

@[simp] theorem State.acceptSample_rings (n : Fin 256) (x : Option LoopSample) (s : State) :
    (State.acceptSample n x s).rings = s.rings := by
  unfold State.acceptSample
  repeat' split
  all_goals simp

@[simp] theorem State.convert_rings (n : Fin 256) (k : Conversion) (s : State) :
    (State.convert n k s).rings = s.rings := by
  cases h : s.hlimOf n <;> simp [State.convert, h]

@[simp] theorem State.lateLands_rings (n : Fin 256) (s : State) :
    (State.lateLands n s).rings = s.rings := by
  unfold State.lateLands
  split <;> simp

@[simp] theorem State.applyTaps_rings (n : Fin 256) (s : State) :
    (State.applyTaps n s).rings = s.rings := rfl

@[simp] theorem State.pulses_rings (n : Fin 256) (edges : List (Bool × ℕ)) (len : ℕ) (s : State) :
    (State.pulses n edges len s).rings = s.rings := by
  unfold State.pulses
  dsimp only
  repeat' split
  all_goals simp

@[simp] theorem State.rampStep_rings (n : Fin 256) (left : ℕ) (an : ℕ) (start : ℕ) (total : ℕ) (pfail : Bool) (s : State) :
    (State.rampStep n left an start total pfail s).rings = s.rings := by
  simp [State.rampStep]

@[simp] theorem State.stopDrive_rings (n : Fin 256) (s : State) :
    (State.stopDrive n s).rings = s.rings := rfl

@[simp] theorem State.overrun_rings (n : Fin 256) (s : State) :
    (State.overrun n s).rings = s.rings := by
  unfold State.overrun
  split
  · rfl
  · simp

@[simp] theorem State.meetUpdates_rings (n : Fin 256) (x1 : List (ℕ × Bool)) (x2 : State) :
    (State.meetUpdates n x1 x2).rings = x2.rings := by
  induction x1 generalizing x2 with
  | nil => rfl
  | cons a l ih =>
    obtain ⟨d, b⟩ := a
    cases b <;> simp [State.meetUpdates, ih]

@[simp] theorem State.latch_rings (n : Fin 256) (drives : Bool) (s : State) :
    (State.latch n drives s).rings = s.rings := by
  simp [State.latch]

@[simp] theorem State.captureChannel_rings (n : Fin 256) (s0 : State) :
    (State.captureChannel n s0).rings = s0.rings := by
  unfold State.captureChannel
  dsimp only
  repeat' split
  all_goals simp

@[simp] theorem State.captureAxis_rings (a : Fin 8) (late : Bool) (s : State) :
    (State.captureAxis a late s).rings = s.rings := by
  unfold State.captureAxis
  dsimp only
  split
  · simp
  · split <;> simp

@[simp] theorem State.newTaps_rings (f : Fin 4) (line : Fin 128) (err : ℤ) (s : State) :
    (State.newTaps f line err s).rings = s.rings := by
  simp [State.newTaps]

@[simp] theorem State.markStale_rings (f : Fin 4) (c : ℕ) (s : State) :
    (State.markStale f c s).rings = s.rings := by
  simp [State.markStale]

@[simp] theorem State.holdTemps_rings (f : Fin 4) (c : ℕ) (s : State) :
    (State.holdTemps f c s).rings = s.rings := by
  unfold State.holdTemps
  refine forAll_rings (fun a t => ?_) _ _
  dsimp only
  repeat' split
  all_goals simp

@[simp] theorem State.steer_rings (f : Fin 4) (c : ℕ) (s : State) :
    (State.steer f c s).rings = s.rings := by
  unfold State.steer
  repeat' split
  all_goals simp

@[simp] theorem State.convTest_rings (f : Fin 4) (c : ℕ) (code : ℤ) (s : State) :
    (State.convTest f c code s).rings = s.rings := by
  simp [State.convTest]

@[simp] theorem State.coilTest_rings (a : Fin 8) (b : Bool) (code : ℤ) (s : State) :
    (State.coilTest a b code s).rings = s.rings := by
  simp [State.coilTest]

@[simp] theorem State.tempSample_rings (f : Fin 4) (i : ℕ) (s : State) :
    (State.tempSample f i s).rings = s.rings := by
  unfold State.tempSample
  refine forAll_rings (fun a t => ?_) _ _
  dsimp only
  repeat' split
  all_goals simp

@[simp] theorem State.busSample_rings (f : Fin 4) (i : ℕ) (a : ℤ) (s : State) :
    (State.busSample f i a s).rings = s.rings := by
  unfold State.busSample
  refine forAll_rings (fun g t => ?_) _ _
  split
  · rfl
  · dsimp only
    split
    · exact forAll_rings (by simp) _ _
    · simp

@[simp] theorem State.urgent_rings (u : Fin 32) (input : ℕ) (s : State) :
    (State.urgent u input s).rings = s.rings := by
  simp [State.urgent]

@[simp] theorem State.releaseNib_rings (g : Fin 17) (cmds : List MbCmd) (s : State) :
    (State.releaseNib g cmds s).rings = s.rings := by
  unfold State.releaseNib
  repeat' split
  all_goals simp

@[simp] theorem State.endHandover_rings (h : Handover) (s : State) :
    (State.endHandover h s).rings = s.rings := by
  simp [State.endHandover]

@[simp] theorem State.skipEvaluation_rings (n : Fin 256) (h : Handover) (s : State) :
    (State.skipEvaluation n h s).rings = s.rings := by
  simp [State.skipEvaluation]

@[simp] theorem State.passSample_rings (n : Fin 256) (rest : List (Fin 256 × LoopSample)) (s : State) :
    (State.passSample n rest s).rings = s.rings := rfl

@[simp] theorem State.takeSample_rings (n : Fin 256) (x : LoopSample) (rest : List (Fin 256 × LoopSample)) (s : State) :
    (State.takeSample n x rest s).rings = s.rings := rfl

@[simp] theorem State.closeGap_rings (g : Fin 17) (s : State) :
    (State.closeGap g s).rings = s.rings := by
  unfold State.closeGap
  repeat' split
  all_goals simp

@[simp] theorem State.firstWord_rings (n : Fin 256) (s : State) :
    (State.firstWord n s).rings = s.rings := by
  simp [State.firstWord]

@[simp] theorem State.arithEvent_rings (n : Fin 256) (bound : Bool) (set : ℕ) (step : ℕ) (s : State) :
    (State.arithEvent n bound set step s).rings = s.rings := by
  simp [State.arithEvent]

@[simp] theorem State.evalTuning_rings (n : Fin 256) (t : Tune) (s : State) :
    (State.evalTuning n t s).rings = s.rings := by
  unfold State.evalTuning
  dsimp only
  repeat' split
  all_goals simp

@[simp] theorem State.tInvalid_rings (n : Fin 256) (s : State) :
    (State.tInvalid n s).rings = s.rings := by
  unfold State.tInvalid
  dsimp only
  repeat' split
  all_goals simp

@[simp] theorem State.seeBoundary_rings (n : Fin 256) (s : State) :
    (State.seeBoundary n s).rings = s.rings := by
  simp [State.seeBoundary]

@[simp] theorem State.postPreload_rings (n : Fin 256) (s : State) :
    (State.postPreload n s).rings = s.rings := by
  unfold State.postPreload
  split <;> simp

@[simp] theorem State.postMediated_rings (n : Fin 256) (s : State) :
    (State.postMediated n s).rings = s.rings := by
  unfold State.postMediated
  split <;> simp

@[simp] theorem State.boundary_rings (n : Fin 256) (f : Fired) (s : State) :
    (State.boundary n f s).rings = s.rings := by
  unfold State.boundary
  dsimp only
  repeat' split
  all_goals simp

@[simp] theorem State.testStep_rings (n : Fin 256) (idx : ℕ) (s : State) :
    (State.testStep n idx s).rings = s.rings := by
  unfold State.testStep
  dsimp only
  repeat' split
  all_goals simp

@[simp] theorem State.evalRunning_rings (n : Fin 256) (s : State) :
    (State.evalRunning n s).rings = s.rings := by
  simp [State.evalRunning]

@[simp] theorem State.endPfail_rings (s : State) :
    (State.endPfail s).rings = s.rings := by
  simp [State.endPfail]

@[simp] theorem State.loseEntry_rings (it : Item) (s : State) :
    (State.loseEntry it s).rings = s.rings := by
  unfold State.loseEntry
  extract_lets s1
  have hs1 : s1.rings = s.rings := by simp [s1]
  repeat' split
  all_goals simp [hs1]

@[simp] theorem State.preload_rings (n : Fin 256) (s : State) :
    (State.preload n s).rings = s.rings := rfl

@[simp] theorem State.mediate_rings (n : Fin 256) (t : ℕ) (s : State) :
    (State.mediate n t s).rings = s.rings := by
  unfold State.mediate
  dsimp only
  repeat' split
  all_goals simp

@[simp] theorem State.takeChannel_rings (ticks : ℕ) (n : Fin 256) (s : State) :
    (State.takeChannel ticks n s).rings = s.rings := by
  simp [State.takeChannel]

@[simp] theorem State.takeOver_rings (t : Takeover) (s : State) :
    (State.takeOver t s).rings = s.rings := by
  unfold State.takeOver
  dsimp only
  rw [State.closeGap_rings]
  split
  · exact (forAll_rings (by simp) _ _).trans (by simp)
  · exact (forAll_rings (by simp) _ _).trans (by simp)

@[simp] theorem State.spareFails_rings (t : Takeover) (s : State) :
    (State.spareFails t s).rings = s.rings := by
  simp [State.spareFails]

@[simp] theorem State.beginHandover_rings (h : Handover) (s : State) :
    (State.beginHandover h s).rings = s.rings := by
  simp [State.beginHandover]

@[simp] theorem State.plannedFails_rings (h : Handover) (s : State) :
    (State.plannedFails h s).rings = s.rings := by
  simp [State.plannedFails]

@[simp] theorem State.isolateCore_rings (i : ℕ) (cls : ℕ) (s : State) :
    (State.isolateCore i cls s).rings = s.rings := by
  simp [State.isolateCore] -- SLOW 2919

@[simp] theorem State.repairImages_rings (n : Fin 256) (s : State) :
    (State.repairImages n s).rings = s.rings := by
  simp [State.repairImages]

@[simp] theorem State.freshCopy_rings (n : Fin 256) (s : State) :
    (State.freshCopy n s).rings = s.rings := by
  simp [State.freshCopy]

@[simp] theorem State.restoreChannel_rings (n : Fin 256) (s : State) :
    (State.restoreChannel n s).rings = s.rings := by
  unfold State.restoreChannel
  dsimp only
  repeat' split
  all_goals simp

@[simp] theorem State.loadFolio_rings (s : State) :
    (State.loadFolio s).rings = s.rings := rfl

@[simp] theorem State.resumeServo_rings (s : State) :
    (State.resumeServo s).rings = s.rings := by
  simp [State.resumeServo]

@[simp] theorem State.raiseAfter_rings (s : State) :
    (State.raiseAfter s).rings = s.rings := forAll_rings (by simp) _ _

@[simp] theorem State.urgents_rings (u : Fin 32) (s : State) :
    (State.urgents u s).rings = s.rings := forAll_rings (by simp) _ _

@[simp] theorem State.postStep_rings (u : Fin 32) (x : AcqSet) (p : Pounce) (s : State) :
    (State.postStep u x p s).rings = s.rings := by
  unfold State.postStep
  dsimp only
  split <;> simp

@[simp] theorem State.armedTick_rings (u : Fin 32) (s : State) :
    (State.armedTick u s).rings = s.rings := by
  unfold State.armedTick
  dsimp only
  split <;> simp

@[simp] theorem State.streamTick_rings (u : Fin 32) (s : State) :
    (State.streamTick u s).rings = s.rings := by
  simp [State.streamTick]

@[simp] theorem State.setError_rings (u : Fin 32) (e : SetError) (s : State) :
    (State.setError u e s).rings = s.rings := by
  simp [State.setError]

@[simp] theorem State.fillCheck_rings (s : State) :
    (State.fillCheck s).rings = s.rings := by
  simp [State.fillCheck]

@[simp] theorem State.store_rings (r : Rec) (s : State) :
    (State.store r s).rings = s.rings := by
  unfold State.store
  split <;> simp

@[simp] theorem State.fillBuffers_rings (s : State) :
    (State.fillBuffers s).rings = s.rings := by
  exact forAll_rings (by simp) _ _

@[simp] theorem State.reclaimStage_rings (p : Stored → Bool) (s : State) :
    (State.reclaimStage p s).rings = s.rings := rfl

@[simp] theorem State.thin_rings (s : State) :
    (State.thin s).rings = s.rings := by
  simp [State.thin]

@[simp] theorem State.thinPass_rings (s : State) :
    (State.thinPass s).rings = s.rings := by
  simp [State.thinPass]

@[simp] theorem State.innerFlags_rings (x : InnerFlag) (s : State) :
    (State.innerFlags x s).rings = s.rings := by
  simp [State.innerFlags]

@[simp] theorem State.retirePage_rings (page : ℕ) (s : State) :
    (State.retirePage page s).rings = s.rings := by
  simp [State.retirePage]

@[simp] theorem State.outerCorrect_rings (page : ℕ) (cw : ℕ) (n : ℕ) (s : State) :
    (State.outerCorrect page cw n s).rings = s.rings := by
  simp [State.outerCorrect]

@[simp] theorem State.readDesc_rings (k : Fin 4) (entry : ℕ) (d : RingDesc) (s : State) :
    (State.readDesc k entry d s).rings = s.rings := rfl

@[simp] theorem State.receive_rings (p : Fin 4) (f : Frame) (s : State) :
    (State.receive p f s).2.rings = s.rings := by
  unfold State.receive
  repeat' split
  all_goals simp

@[simp] theorem State.conflict_rings (addr : BitVec 16) (uid : BitVec 64) (s : State) :
    (State.conflict addr uid s).rings = s.rings := by
  simp [State.conflict]

@[simp] theorem State.goDown_rings (p : Fin 4) (silent : Bool) (s : State) :
    (State.goDown p silent s).rings = s.rings := by
  simp [State.goDown]

@[simp] theorem State.takeNotice_rings (p : Fin 4) (f : Frame) (s : State) :
    (State.takeNotice p f s).rings = s.rings := by
  simp [State.takeNotice]

@[simp] theorem State.passOn_rings (p : Fin 4) (f : Frame) (s : State) :
    (State.passOn p f s).rings = s.rings := by
  simp [State.passOn]

@[simp] theorem State.spread_rings (p : Fin 4) (f : Frame) (s : State) :
    (State.spread p f s).2.rings = s.rings := by
  unfold State.spread
  split <;> simp

@[simp] theorem State.forward_rings (p : Fin 4) (f : Frame) (s : State) :
    (State.forward p f s).rings = s.rings := by
  unfold State.forward
  repeat' split
  all_goals simp

@[simp] theorem State.recordPort_rings (p : Fin 4) (f : Frame) (s : State) :
    (State.recordPort p f s).rings = s.rings := rfl

@[simp] theorem State.sendReply_rings (p : Fin 4) (f : Frame) (s : State) :
    (State.sendReply p f s).rings = s.rings := by
  simp [State.sendReply]

@[simp] theorem State.takeReply_rings (p : Fin 4) (f : Frame) (s : State) :
    (State.takeReply p f s).rings = s.rings := by
  unfold State.takeReply
  dsimp only
  repeat' split
  all_goals simp

@[simp] theorem State.windowReply_rings (p : Fin 4) (f : Frame) (fail : ℕ) (status : ℕ) (data : Block) (s : State) :
    (State.windowReply p f fail status data s).rings = s.rings := by
  simp [State.windowReply]

@[simp] theorem State.windowWords_rings (src : BitVec 16) (bar4 : Bool) (x2 : ℕ) (x3 : ℕ) (x4 : Block) (x5 : State) :
    (State.windowWords src bar4 x2 x3 x4 x5).2.2.rings = x5.rings := by
  induction x2 generalizing x3 x4 x5 with
  | zero => rfl
  | succ n ih =>
    unfold State.windowWords
    split
    · rfl
    · rw [ih]
      simp

@[simp] theorem State.loaderTakes_rings (k : Fin 8) (src : BitVec 16) (s : State) :
    (State.loaderTakes k src s).rings = s.rings := by
  unfold State.loaderTakes
  repeat' split
  all_goals simp

@[simp] theorem State.ackCommand_rings (k : Fin 8) (f : Frame) (status : ℕ) (s : State) :
    (State.ackCommand k f status s).rings = s.rings := by
  simp [State.ackCommand]

@[simp] theorem State.takeSync_rings (f : Frame) (s : State) :
    (State.takeSync f s).rings = s.rings := rfl

@[simp] theorem State.steer405_rings (s : State) :
    (State.steer405 s).rings = s.rings := by
  simp [State.steer405]

@[simp] theorem State.servoOffset_rings (x : ℤ) (s : State) :
    (State.servoOffset x s).rings = s.rings := by
  simp [State.servoOffset]

@[simp] theorem State.useSync_rings (p : Fin 4) (t2 : ℤ) (origin : ℕ) (corr : ℤ) (s : State) :
    (State.useSync p t2 origin corr s).rings = s.rings := by
  simp [State.useSync]

@[simp] theorem State.selectMaster_rings (f : Foreign) (s : State) :
    (State.selectMaster f s).rings = s.rings := by
  simp [State.selectMaster]

@[simp] theorem State.sendPtp_rings (p : Fin 4) (m : PtpMsg) (s : State) :
    (State.sendPtp p m s).rings = s.rings := by
  simp [State.sendPtp]

@[simp] theorem State.marginFault_rings (code : ℕ) (s : State) :
    (State.marginFault code s).rings = s.rings := by
  simp [State.marginFault]

@[simp] theorem State.outputFault_rings (k : ℕ) (seen : FbBand) (s : State) :
    (State.outputFault k seen s).rings = s.rings := by
  simp [State.outputFault]

@[simp] theorem State.judgeOutput_rings (k : ℕ) (seen : FbBand) (s : State) :
    (State.judgeOutput k seen s).rings = s.rings := by
  simp [State.judgeOutput]

@[simp] theorem State.judgeAll_rings (fb : List FbBand) (s : State) :
    (State.judgeAll fb s).rings = s.rings := by
  unfold State.judgeAll
  refine forAll_rings (fun k t => ?_) _ _
  split
  · split <;> simp
  · rfl

@[simp] theorem State.encFaults_rings (s : State) :
    (State.encFaults s).rings = s.rings := by
  simp [State.encFaults]

@[simp] theorem State.pairEffects_rings (o : Margin) (p : ℕ) (s : State) :
    (State.pairEffects o p s).rings = s.rings := by
  simp [State.pairEffects]

@[simp] theorem State.axisOff_rings (a : Fin 8) (s : State) :
    (State.axisOff a s).rings = s.rings := by
  unfold State.axisOff
  split <;> simp

@[simp] theorem State.reactChannels_rings (c : Block) (f : ℕ) (s : State) :
    (State.reactChannels c f s).rings = s.rings := by
  unfold State.reactChannels
  refine forAll_rings (fun a t => ?_) _ _
  split <;> simp

@[simp] theorem State.react_rings (c : Block) (f : ℕ) (s : State) :
    (State.react c f s).rings = s.rings := by
  simp [State.react]

@[simp] theorem State.fnEffects_rings (o : Margin) (f : ℕ) (s : State) :
    (State.fnEffects o f s).rings = s.rings := by
  simp [State.fnEffects]

@[simp] theorem State.marginEval_rings (x : MarginIn) (y : MarginIn) (s : State) :
    (State.marginEval x y s).rings = s.rings := by
  simp [State.marginEval]

@[simp] theorem State.pulsePin_rings (k : Fin 4) (before : BitVec 32) (during : BitVec 32) (after : BitVec 32) (i : ℕ) (s : State) :
    (State.pulsePin k before during after i s).rings = s.rings := by
  simp [State.pulsePin]

@[simp] theorem State.spoilWord_rings (region : ℕ) (i : ℕ) (s : State) :
    (State.spoilWord region i s).rings = s.rings := by
  simp [State.spoilWord]

@[simp] theorem State.afterRestart_rings (code : BitVec 16) (param : ℕ) (s : State) :
    (State.afterRestart code param s).rings = s.rings := rfl

@[simp] theorem State.causeBit_rings (i : ℕ) (s : State) :
    (State.causeBit i s).rings = s.rings := rfl

@[simp] theorem State.releaseSource_rings (src : ResetSrc) (s : State) :
    (State.releaseSource src s).rings = s.rings := by
  simp [State.releaseSource]

@[simp] theorem State.hotReset_rings (s : State) :
    (State.hotReset s).rings = s.rings := by
  have finishes (k : Fin 8) (x : State) : (match (x.mbox k).kept with
      | some uid => if bit (x.mbox k).cfg 0 || (x.mbox k).working ≠ 0 then x else x.finish uid
      | none => x).rings = x.rings := by
    split <;> simp
  unfold State.hotReset
  dsimp only
  refine (forAll_rings (fun k x => ?_) _ _).trans ?_
  · split
    · rfl
    · exact State.raise_rings _ _ _ _ _
  · dsimp only
    exact forAll_rings finishes _ _

@[simp] theorem State.toStage_rings (k : ℕ) (s : State) :
    (State.toStage k s).rings = s.rings := rfl

@[simp] theorem State.releaseAon_rings (s : State) :
    (State.releaseAon s).rings = s.rings := by
  simp [State.releaseAon]

@[simp] theorem State.releasePlls_rings (mode : ℕ) (s : State) :
    (State.releasePlls mode s).rings = s.rings := by
  simp [State.releasePlls]

@[simp] theorem State.startTime_rings (s : State) :
    (State.startTime s).rings = s.rings := by
  simp [State.startTime]

@[simp] theorem State.releaseOptions_rings (x : StageIn) (s : State) :
    (State.releaseOptions x s).rings = s.rings := by
  simp [State.releaseOptions]

@[simp] theorem State.loseStore_rings (s : State) :
    (State.loseStore s).rings = s.rings := rfl

@[simp] theorem State.storeStart_rings (kept : Bool) (s : State) :
    (State.storeStart kept s).rings = s.rings := forAll_rings (by simp) _ _

@[simp] theorem State.releaseDram_rings (x : StageIn) (s : State) :
    (State.releaseDram x s).rings = s.rings := by
  unfold State.releaseDram
  repeat' split
  all_goals simp

@[simp] theorem State.releaseQuill_rings (x : StageIn) (s : State) :
    (State.releaseQuill x s).rings = s.rings := by
  simp [State.releaseQuill]

@[simp] theorem State.readCal_rings (n : Fin 256) (s : State) :
    (State.readCal n s).rings = s.rings := rfl

@[simp] theorem State.calibrateDie_rings (bad : List (Fin 4 × Fin 128 × ℤ)) (f : Fin 4) (s : State) :
    (State.calibrateDie bad f s).rings = s.rings := by
  unfold State.calibrateDie
  dsimp only
  split <;> simp

@[simp] theorem State.releaseDies_rings (x : StageIn) (s : State) :
    (State.releaseDies x s).rings = s.rings := by
  unfold State.releaseDies
  rw [State.toStage_rings]
  dsimp only
  exact (forAll_rings (by simp) _ _).trans ((forAll_rings (by simp) _ _).trans (forAll_rings (by simp) _ _))

@[simp] theorem State.releaseMargin_rings (s : State) :
    (State.releaseMargin s).rings = s.rings := rfl

@[simp] theorem State.releasePcie_rings (s : State) :
    (State.releasePcie s).rings = s.rings := rfl

@[simp] theorem State.imageRejected_rings (slot : ℕ) (check : ℕ) (seq : Word) (s : State) :
    (State.imageRejected slot check seq s).rings = s.rings := by
  simp [State.imageRejected]

@[simp] theorem State.imageLoaded_rings (x : StageIn) (s : State) :
    (State.imageLoaded x s).rings = s.rings := by
  simp [State.imageLoaded]

@[simp] theorem State.startLoader_rings (bothFailed : Bool) (s : State) :
    (State.startLoader bothFailed s).rings = s.rings := by
  simp [State.startLoader] -- SLOW 2552

@[simp] theorem State.bootFlash_rings (x : StageIn) (s : State) :
    (State.bootFlash x s).rings = s.rings := by
  simp [State.bootFlash]

@[simp] theorem State.bootFolio_rings (x : StageIn) (s : State) :
    (State.bootFolio x s).rings = s.rings := by
  simp [State.bootFolio]

@[simp] theorem State.completeStage_rings (x : StageIn) (s : State) :
    (State.completeStage x s).rings = s.rings := by
  unfold State.completeStage
  split <;> simp

@[simp] theorem State.resetUnit_rings (u : Fin 32) (s : State) :
    (State.resetUnit u s).rings = s.rings := by
  simp [State.resetUnit]

@[simp] theorem State.resetInkwell_rings (dropped : ℕ) (s : State) :
    (State.resetInkwell dropped s).rings = s.rings := by
  simp [State.resetInkwell]

@[simp] theorem State.resetStroke_rings (s : State) :
    (State.resetStroke s).rings = s.rings := forAll_rings (by simp) _ _

@[simp] theorem State.resetPort_rings (p : Fin 4) (s : State) :
    (State.resetPort p s).rings = s.rings := by
  simp [State.resetPort]

@[simp] theorem State.resetBlock_rings (block : ℕ) (index : ℕ) (dropped : ℕ) (s : State) :
    (State.resetBlock block index dropped s).rings = s.rings := by
  unfold State.resetBlock
  split <;> simp

@[simp] theorem State.blockReset_rings (forced : Bool) (dropped : ℕ) (s : State) :
    (State.blockReset forced dropped s).rings = s.rings := by
  unfold State.blockReset
  split
  · rfl
  · simp

@[simp] theorem State.pfailChannel_rings (n : Fin 256) (s : State) :
    (State.pfailChannel n s).rings = s.rings := by
  simp [State.pfailChannel]

@[simp] theorem State.powerFail_rings (s : State) :
    (State.powerFail s).rings = s.rings := by
  simp [State.powerFail]

@[simp] theorem State.wake_rings (s : State) :
    (State.wake s).rings = s.rings := rfl

@[simp] theorem State.answerLoad_rings (m : MbCmd) (n : Fin 256) (status : ℕ) (detail : ℕ) (s : State) :
    (State.answerLoad m n status detail s).rings = s.rings := by
  simp [State.answerLoad]

@[simp] theorem State.loadArm_rings (m : MbCmd) (n : Fin 256) (s : State) :
    (State.loadArm m n s).rings = s.rings := by
  simp [State.loadArm]

@[simp] theorem State.loadJump_rings (m : MbCmd) (n : Fin 256) (target : ℕ) (s : State) :
    (State.loadJump m n target s).rings = s.rings := by
  simp [State.loadJump]

@[simp] theorem State.loadResume_rings (m : MbCmd) (n : Fin 256) (s : State) :
    (State.loadResume m n s).rings = s.rings := by
  unfold State.loadResume
  dsimp only
  repeat' split
  all_goals simp

end Sys2Proof.Machine
end

section
/-! PROOF. The mailbox memory stays in canonical form and inside BAR2 (R343, R345, R346, R394): the operations that write it or clear it, and every command. -/

namespace Sys2Proof.Machine

open Sys2Proof Sys2Proof.Safety

/-! ### Bytes written to the mailbox memory -/

/-- The memory is in canonical form and lies inside BAR2's implemented part (R343). -/
def MemOk (m : Memory) : Prop := m.wf = true ∧ ∀ c ∈ m, c.1 < ringBytes

theorem ringsOk_iff (s : State) : RingsOk s ↔ MemOk s.rings := Iff.rfl

@[simp] theorem memOk_nil : MemOk [] := ⟨rfl, by simp⟩

/-- A write lists no address but its own and those listed. -/
theorem mem_memWrite {a : Nat} {v : Byte} {c : Nat × Byte} {m : Memory} (h : c ∈ memWrite a v m) : c.1 = a ∨ c ∈ m := by
  induction m with
  | nil =>
    unfold memWrite at h
    split at h
    · cases h
    · exact .inl (by simp_all)
  | cons d m ih =>
    unfold memWrite at h
    split at h
    · split at h
      · exact .inr h
      · rcases List.mem_cons.mp h with rfl | h
        · exact .inl rfl
        · exact .inr h
    · split at h
      · split at h
        · exact .inr (List.mem_cons_of_mem _ h)
        · rcases List.mem_cons.mp h with rfl | h
          · exact .inl rfl
          · exact .inr (List.mem_cons_of_mem _ h)
      · rcases List.mem_cons.mp h with rfl | h
        · exact .inr List.mem_cons_self
        · exact (ih h).imp_right (List.mem_cons_of_mem _)

theorem memWriteBytes_memOk (vs : List Byte) (a : Nat) {m : Memory} (h : MemOk m) (ha : a + vs.length ≤ ringBytes) :
    MemOk (memWriteBytes a vs m) := by
  refine ⟨memWriteBytes_wf vs a h.1, ?_⟩
  replace h := h.2
  induction vs generalizing a m with
  | nil => exact h
  | cons v vs ih =>
    rw [List.length_cons] at ha
    refine ih (a + 1) (by omega) fun c hc => ?_
    rcases mem_memWrite hc with hc | hc
    · omega
    · exact h c hc

theorem cmdSlot_inside (k : Fin 8) (c : BitVec 16) : cmdSlot k c + 256 ≤ ringBytes := by
  unfold cmdSlot ringBytes
  omega

theorem rspSlot_inside (k : Fin 8) (c : BitVec 16) : rspSlot k c + 256 ≤ ringBytes := by
  unfold rspSlot ringBytes
  omega

/-- A whole entry written to a slot stays in BAR2's implemented part. -/
theorem memWriteBytes_entry {a : Nat} (b : Block) {m : Memory} (ha : a + 256 ≤ ringBytes) (h : MemOk m) :
    MemOk (memWriteBytes a (blockBytes (blockFit 64 b)) m) :=
  memWriteBytes_memOk _ _ h (by simpa [blockFit] using ha)

/-! ### The operations that write the mailbox memory or reset it -/

@[simp] theorem State.blocksReset_rings (keep : Bool) (s : State) : (s.blocksReset keep).rings = [] := rfl

theorem State.writeResponse_memOk (k : Fin 8) {s : State} (h : MemOk s.rings) : MemOk (s.writeResponse k).rings := by
  unfold State.writeResponse
  dsimp only
  split
  · exact h
  · split
    · exact h
    · next r _ _ _ =>
      have written : MemOk (memWriteBytes (rspSlot k (s.mbox k).rspTail) (blockBytes r.words) s.rings) :=
        memWriteBytes_entry _ (rspSlot_inside k (s.mbox k).rspTail) h
      split <;> simpa using written

theorem State.writeResponses_memOk (k : Fin 8) (n : Nat) {s : State} (h : MemOk s.rings) : MemOk (s.writeResponses k n).rings := by
  induction n generalizing s with
  | zero => exact h
  | succ n ih =>
    unfold State.writeResponses
    split
    · exact h
    · exact ih (State.writeResponse_memOk k h)

@[simp] theorem State.enterStandby_rings (k : Fin 8) (s : State) : (s.enterStandby k).rings = [] := by
  simp [State.enterStandby]

theorem State.settleRestart_memOk {s : State} (h : MemOk s.rings) : MemOk s.settleRestart.rings := by
  unfold State.settleRestart
  split
  · split
    · simpa using h
    · exact h
  · split
    · simp
    · exact h
  · exact h

theorem State.respondFirst_memOk (k : Fin 8) {s : State} (h : MemOk s.rings) : MemOk (s.respondFirst k).rings := by
  unfold State.respondFirst
  split
  · exact State.settleRestart_memOk (State.writeResponses_memOk k _ h)
  · exact h

@[simp] theorem State.reachW_rings (s : State) : s.reachW.rings = [] := by
  simp [State.reachW]

@[simp] theorem State.reachF_rings (keep : Bool) (s : State) : (s.reachF keep).rings = [] := by
  simp [State.reachF]

@[simp] theorem State.endFlush_rings (s : State) : s.endFlush.rings = [] := by
  simp [State.endFlush]

theorem State.beginFlush_memOk (src : ResetSrc) {s : State} (h : MemOk s.rings) : MemOk (s.beginFlush src).rings := by
  have chs (l : List (Fin 256)) : (forAll (fun n x => (x.updCh n fun c => { c with
      drive := { c.drive with ramp := none } }).ckpt n 3) l s).rings = s.rings := forAll_rings (by simp) _ _
  unfold State.beginFlush
  dsimp only
  split
  · simpa [chs] using h
  · simp

/-- A reset source keeps the mailbox memory, or clears it with the blocks (R443, R444). -/
theorem State.assert_memOk (src : ResetSrc) {s : State} (h : MemOk s.rings) : MemOk (s.assert src).rings := by
  unfold State.assert
  extract_lets extra s1 x s2
  have h2 : MemOk s2.rings := by
    unfold s2
    split <;> simpa [s1] using h
  clear_value s2
  split
  · simp
  · split
    · split
      · split
        · exact h2
        · exact State.beginFlush_memOk _ h2
      · simp
    · split
      · split
        · simpa using h2
        · split <;> simpa using h2
      · exact h2

theorem State.assertAwake_memOk (src : ResetSrc) {s : State} (h : MemOk s.rings) : MemOk (s.assertAwake src).rings := by
  unfold State.assertAwake
  split
  · exact State.assert_memOk _ h
  · exact h

theorem State.folioLoss_memOk {s : State} (h : MemOk s.rings) : MemOk s.folioLoss.rings :=
  State.assert_memOk _ (by simpa using h)

theorem State.resetCtlWrite_memOk (p : Path) (v : Word) {s : State} (h : MemOk s.rings) : MemOk (s.resetCtlWrite p v).rings := by
  unfold State.resetCtlWrite
  dsimp only
  split
  · simpa using h
  · split
    · exact State.assert_memOk _ h
    · exact State.assert_memOk _ h
    · split
      · exact h
      · simpa using h
    · exact h

theorem State.bar2Write_memOk (off : Nat) (data : List Byte) {s : State} (h : MemOk s.rings) : MemOk (s.bar2Write off data).rings := by
  unfold State.bar2Write
  dsimp only
  split
  · simpa using h
  · next inside =>
    split
    · simpa using h
    · simp only [Bool.or_eq_true, decide_eq_true_eq, not_or] at inside
      exact memWriteBytes_memOk _ _ h (by omega)

theorem State.bar0Write_memOk (p : Path) (off : Nat) (v : Word) {s : State} (h : MemOk s.rings) :
    MemOk (s.bar0Write p off v).rings := by
  unfold State.bar0Write
  dsimp only
  split
  · split <;> simpa using h
  · split
    · split <;> simpa using h
    · split
      · simpa using h
      · split <;> first | exact State.resetCtlWrite_memOk p v h | simpa using h

theorem State.windowPut_memOk (src : BitVec 16) (bar4 : Bool) (l : Block) (i off : Nat) {s : State} (h : MemOk s.rings) :
    MemOk (State.windowPut src bar4 i off l s).2.2.rings := by
  induction l generalizing i off s with
  | nil => exact h
  | cons w l ih =>
    unfold State.windowPut
    split
    · simpa using h
    · split
      · simpa using h
      · split
        · simpa using h
        · refine ih _ _ ?_
          split
          · simpa using h
          · exact State.bar0Write_memOk _ _ _ h

theorem State.fabricCommand_memOk (p : Fin 4) (k : Fin 8) (f : Frame) {s : State} (h : MemOk s.rings) :
    MemOk (s.fabricCommand p k f).rings := by
  unfold State.fabricCommand
  dsimp only
  split
  · simpa using h
  · split
    · simpa using h
    · simpa using memWriteBytes_entry (f.payload.drop 4) (cmdSlot_inside k (s.mbox k).cmdTail) h

/-! ### Register writes over a path -/

@[simp] theorem State.write_rings {f : State → State} (h : ∀ t, (f t).rings = t.rings) (p : Path) (s : State) :
    (s.write p f).rings = s.rings := by
  unfold State.write
  split <;> split
  · rfl
  · exact h s
  · exact h s
  · simp

theorem State.write_memOk {f : State → State} (hf : ∀ t, MemOk t.rings → MemOk (f t).rings) (p : Path) {s : State}
    (h : MemOk s.rings) : MemOk (s.write p f).rings := by
  unfold State.write
  split <;> split
  · exact h
  · exact hf s h
  · exact hf s h
  · simpa using h

@[simp] theorem State.soWrite_rings {f : State → State} (h : ∀ t, (f t).rings = t.rings) (w : SoWriter) (s : State) :
    (s.soWrite w f).rings = s.rings := by
  unfold State.soWrite
  split
  · exact State.write_rings h _ s
  · split
    · exact h s
    · rfl

/-! ### Every command -/

/-- The meaning answers a next state, and one with the mailbox memory in order if it is in order in `s`. -/
def KeepsMem (s : State) (o : Host.Outcome State Fault Refusal) : Prop := ∃ t, o = .next t ∧ (MemOk s.rings → MemOk t.rings)

@[simp] theorem keepsMem_next (s t : State) : KeepsMem s (.next t) ↔ (MemOk s.rings → MemOk t.rings) := by
  constructor
  · rintro ⟨u, e, h⟩
    cases e
    exact h
  · exact fun h => ⟨t, rfl, h⟩

@[simp] theorem keepsMem_ite (c : Prop) [Decidable c] (s : State) (v w : Host.Outcome State Fault Refusal) :
    KeepsMem s (if c then v else w) ↔ if c then KeepsMem s v else KeepsMem s w := by split <;> rfl

@[simp] theorem execChConfig_keepsMem (m : MbCmd) (s : State) : KeepsMem s (execChConfig m s) := by
  simp [execChConfig]

@[simp] theorem execChEnable_keepsMem (m : MbCmd) (s : State) : KeepsMem s (execChEnable m s) := by
  simp [execChEnable]

@[simp] theorem execChDisable_keepsMem (m : MbCmd) (s : State) : KeepsMem s (execChDisable m s) := by
  simp [execChDisable]

@[simp] theorem execChStatus_keepsMem (m : MbCmd) (s : State) : KeepsMem s (execChStatus m s) := by
  simp [execChStatus]

@[simp] theorem execChClear_keepsMem (m : MbCmd) (s : State) : KeepsMem s (execChClear m s) := by
  simp [execChClear]

@[simp] theorem execTripPin_keepsMem (f : Fin 4) (k : Fin 8) (level : Bool) (s : State) : KeepsMem s (execTripPin f k level s) := by
  simp [execTripPin]

@[simp] theorem execGpReleased_keepsMem (g : Fin 16) (s : State) : KeepsMem s (execGpReleased g s) := by
  simp [execGpReleased]

@[simp] theorem execGpSeated_keepsMem (g : Fin 16) (s : State) : KeepsMem s (execGpSeated g s) := by
  simp [execGpSeated]

@[simp] theorem execChBoardRemoved_keepsMem (g : Fin 16) (s : State) : KeepsMem s (execChBoardRemoved g s) := by
  simp [execChBoardRemoved]

@[simp] theorem execChBoardInserted_keepsMem (g : Fin 16) (s : State) : KeepsMem s (execChBoardInserted g s) := by
  simp [execChBoardInserted]

@[simp] theorem execReloadCapture_keepsMem (w : CaptureOf) (late : Bool) (s : State) : KeepsMem s (execReloadCapture w late s) := by
  cases w <;> simp [execReloadCapture]

@[simp] theorem execDlineCalibration_keepsMem (f : Fin 4) (line : Fin 128) (err : Int) (s : State) : KeepsMem s (execDlineCalibration f line err s) := by
  simp [execDlineCalibration]

@[simp] theorem execNibEvaluation_keepsMem (n : Fin 256) (residueOk : Bool) (s : State) : KeepsMem s (execNibEvaluation n residueOk s) := by
  unfold execNibEvaluation
  dsimp only
  repeat' split
  all_goals simp

@[simp] theorem execLoopSet_keepsMem (m : MbCmd) (s : State) : KeepsMem s (execLoopSet m s) := by
  simp [execLoopSet]

@[simp] theorem execLoopGet_keepsMem (m : MbCmd) (s : State) : KeepsMem s (execLoopGet m s) := by
  simp [execLoopGet]

@[simp] theorem execChArm_keepsMem (m : MbCmd) (s : State) : KeepsMem s (execChArm m s) := by
  simp [execChArm]

@[simp] theorem execChStart_keepsMem (m : MbCmd) (s : State) : KeepsMem s (execChStart m s) := by
  simp [execChStart]

@[simp] theorem execStartAtReached_keepsMem (n : Fin 256) (s : State) : KeepsMem s (execStartAtReached n s) := by
  unfold execStartAtReached
  split <;> simp

@[simp] theorem execChHold_keepsMem (m : MbCmd) (s : State) : KeepsMem s (execChHold m s) := by
  simp [execChHold]

@[simp] theorem execChAbort_keepsMem (m : MbCmd) (s : State) : KeepsMem s (execChAbort m s) := by
  simp [execChAbort]

@[simp] theorem execChStepJump_keepsMem (m : MbCmd) (s : State) : KeepsMem s (execChStepJump m s) := by
  simp [execChStepJump]

@[simp] theorem execChResume_keepsMem (m : MbCmd) (s : State) : KeepsMem s (execChResume m s) := by
  simp [execChResume]

@[simp] theorem execDuctusLoadItem_keepsMem (e : Fin 8) (s : State) : KeepsMem s (execDuctusLoadItem e s) := by
  unfold execDuctusLoadItem
  dsimp only
  repeat' split
  all_goals simp

@[simp] theorem execDuctusMediatedItem_keepsMem (e : Fin 8) (s : State) : KeepsMem s (execDuctusMediatedItem e s) := by
  unfold execDuctusMediatedItem
  dsimp only
  repeat' split
  all_goals simp

@[simp] theorem execDuctusPreloadItem_keepsMem (e : Fin 8) (s : State) : KeepsMem s (execDuctusPreloadItem e s) := by
  unfold execDuctusPreloadItem
  dsimp only
  repeat' split
  all_goals simp

@[simp] theorem execRcpLoad_keepsMem (m : MbCmd) (s : State) : KeepsMem s (execRcpLoad m s) := by
  simp [execRcpLoad]

@[simp] theorem execRcpVerify_keepsMem (m : MbCmd) (s : State) : KeepsMem s (execRcpVerify m s) := by
  simp [execRcpVerify]

@[simp] theorem execRcpVerifyPiece_keepsMem (mb : Fin 8) (steps : Nat) (s : State) : KeepsMem s (execRcpVerifyPiece mb steps s) := by
  unfold execRcpVerifyPiece
  split <;> simp

@[simp] theorem execRcpDelete_keepsMem (m : MbCmd) (s : State) : KeepsMem s (execRcpDelete m s) := by
  simp [execRcpDelete]

@[simp] theorem execRcpList_keepsMem (m : MbCmd) (s : State) : KeepsMem s (execRcpList m s) := by
  simp [execRcpList]

@[simp] theorem execVellumWordWrite_keepsMem (w : VWriter) (region : Fin 11) (i : Nat) (d : BitVec 64) (ok retryOk : Bool) (s : State) : KeepsMem s (execVellumWordWrite w region i d ok retryOk s) := by
  simp [execVellumWordWrite]

@[simp] theorem execVellumScrub_keepsMem (index : Fin 524288) (r : ReadOutcome) (s : State) : KeepsMem s (execVellumScrub index r s) := by
  unfold execVellumScrub
  dsimp only
  repeat' split
  all_goals simp

@[simp] theorem execWearMapFlush_keepsMem (s : State) : KeepsMem s (execWearMapFlush s) := by
  simp [execWearMapFlush]

@[simp] theorem execEventRaise_keepsMem (s : State) : KeepsMem s (execEventRaise s) := by
  unfold execEventRaise
  dsimp only
  repeat' split
  all_goals simp

@[simp] theorem execBlotterSummary_keepsMem (code : BitVec 16) (s : State) : KeepsMem s (execBlotterSummary code s) := by
  unfold execBlotterSummary
  dsimp only
  repeat' split
  all_goals simp

@[simp] theorem execBlotterFlush_keepsMem (s : State) : KeepsMem s (execBlotterFlush s) := by
  simp [execBlotterFlush]

@[simp] theorem execBlotterRingScan_keepsMem (s : State) : KeepsMem s (execBlotterRingScan s) := by
  simp [execBlotterRingScan]

@[simp] theorem execCheckpointWrite_keepsMem (n : Fin 256) (s : State) : KeepsMem s (execCheckpointWrite n s) := by
  unfold execCheckpointWrite
  split
  · simp
  · split
    · simp
    · dsimp only
      split
      · simp
      · simp

@[simp] theorem execCkptIntervalDue_keepsMem (n : Fin 256) (s : State) : KeepsMem s (execCkptIntervalDue n s) := by
  simp [execCkptIntervalDue]

@[simp] theorem execNibTakeover_keepsMem (g : Fin 17) (pass : Bool) (s : State) : KeepsMem s (execNibTakeover g pass s) := by
  unfold execNibTakeover
  split <;> simp

@[simp] theorem execNibFencedSelftest_keepsMem (k : Fin 20) (pass : Bool) (s : State) : KeepsMem s (execNibFencedSelftest k pass s) := by
  simp [execNibFencedSelftest]

@[simp] theorem execNibRevert_keepsMem (g : Fin 17) (pass : Bool) (s0 : State) : KeepsMem s0 (execNibRevert g pass s0) := by
  unfold execNibRevert
  dsimp only
  repeat' split
  all_goals simp

@[simp] theorem execFolioTransactionVote_keepsMem (cls : Fin 16) (tx : List Nat) (s : State) : KeepsMem s (execFolioTransactionVote cls tx s) := by
  have loss (t : State) : KeepsMem t (.next t.folioLoss) := (keepsMem_next _ _).mpr State.folioLoss_memOk
  unfold execFolioTransactionVote
  dsimp only
  repeat' split
  all_goals simp [loss]

@[simp] theorem execFolioVoteTimeout_keepsMem (core : Fin 4) (s : State) : KeepsMem s (execFolioVoteTimeout core s) := by
  have loss : KeepsMem s (.next s.folioLoss) := (keepsMem_next _ _).mpr State.folioLoss_memOk
  unfold execFolioVoteTimeout
  dsimp only
  split
  · simp
  · split
    · simp
    · exact loss

@[simp] theorem execFolioSpareJoined_keepsMem (s : State) : KeepsMem s (execFolioSpareJoined s) := by
  unfold execFolioSpareJoined
  dsimp only
  repeat' split
  all_goals simp

@[simp] theorem execFolioCoreSelftestDone_keepsMem (core : Fin 4) (pass : Bool) (s : State) : KeepsMem s (execFolioCoreSelftestDone core pass s) := by
  simp [execFolioCoreSelftestDone]

@[simp] theorem execFolioBootDone_keepsMem (s : State) : KeepsMem s (execFolioBootDone s) := by
  simp [execFolioBootDone]

@[simp] theorem execStreamBufferReturn_keepsMem (st : Fin 4) (entry : Nat) (desc : RingDesc) (s0 : State) : KeepsMem s0 (execStreamBufferReturn st entry desc s0) := by
  simp [execStreamBufferReturn]

@[simp] theorem execRecStreamOpen_keepsMem (m : MbCmd) (s : State) : KeepsMem s (execRecStreamOpen m s) := by
  simp [execRecStreamOpen]

@[simp] theorem execRecStatus_keepsMem (m : MbCmd) (s : State) : KeepsMem s (execRecStatus m s) := by
  simp [execRecStatus]

@[simp] theorem execRecordStore_keepsMem (s : State) : KeepsMem s (execRecordStore s) := by
  unfold execRecordStore
  dsimp only
  repeat' split
  all_goals simp

@[simp] theorem execThinningPass_keepsMem (s : State) : KeepsMem s (execThinningPass s) := by
  simp [execThinningPass]

@[simp] theorem execDramScrub_keepsMem (page : Nat) (codeword : Fin 64) (data : List (Fin 128)) (inner : InnerFlag) (check : List (Fin 16)) (s0 : State) : KeepsMem s0 (execDramScrub page codeword data inner check s0) := by
  simp [execDramScrub]

@[simp] theorem execStreamFrameSend_keepsMem (st : Fin 4) (count : Nat) (s : State) : KeepsMem s (execStreamFrameSend st count s) := by
  unfold execStreamFrameSend
  dsimp only
  repeat' split
  all_goals simp

@[simp] theorem execRecStreamResend_keepsMem (st : Fin 4) (s : State) : KeepsMem s (execRecStreamResend st s) := by
  unfold execRecStreamResend
  dsimp only
  repeat' split
  all_goals simp

@[simp] theorem execAcqConfig_keepsMem (m : MbCmd) (s : State) : KeepsMem s (execAcqConfig m s) := by
  simp [execAcqConfig]

@[simp] theorem execAcqArm_keepsMem (m : MbCmd) (s : State) : KeepsMem s (execAcqArm m s) := by
  simp [execAcqArm]

@[simp] theorem execAcqForce_keepsMem (m : MbCmd) (s : State) : KeepsMem s (execAcqForce m s) := by
  simp [execAcqForce]

@[simp] theorem execAcqStop_keepsMem (m : MbCmd) (s : State) : KeepsMem s (execAcqStop m s) := by
  simp [execAcqStop]

@[simp] theorem execAuxUrgentRequest_keepsMem (u : Fin 32) (input : Fin 288) (s : State) : KeepsMem s (execAuxUrgentRequest u input s) := by
  simp [execAuxUrgentRequest]

@[simp] theorem execAcqTick_keepsMem (u : Fin 32) (s0 : State) : KeepsMem s0 (execAcqTick u s0) := by
  unfold execAcqTick
  dsimp only
  repeat' split
  all_goals simp

@[simp] theorem execAcqTimerExpiry_keepsMem (u : Fin 32) (j : Fin 2) (s : State) : KeepsMem s (execAcqTimerExpiry u j s) := by
  simp [execAcqTimerExpiry]

@[simp] theorem execAcqRead_keepsMem (m : MbCmd) (s : State) : KeepsMem s (execAcqRead m s) := by
  simp [execAcqRead]

@[simp] theorem execAcqComplete_keepsMem (u : Fin 32) (error : Option SetError) (s : State) : KeepsMem s (execAcqComplete u error s) := by
  have marked : (error.elim s fun e => s.setError u e).rings = s.rings := by cases error <;> simp
  unfold execAcqComplete
  dsimp only
  split
  · simp
  · rw [keepsMem_next]
    split <;> simp [marked]

@[simp] theorem execAcqPageHandover_keepsMem (u : Fin 32) (error : Option SetError) (s : State) : KeepsMem s (execAcqPageHandover u error s) := by
  cases error <;> simp [execAcqPageHandover]

@[simp] theorem execTuneInject_keepsMem (m : MbCmd) (s : State) : KeepsMem s (execTuneInject m s) := by
  simp [execTuneInject]

@[simp] theorem execTuneStop_keepsMem (m : MbCmd) (s : State) : KeepsMem s (execTuneStop m s) := by
  simp [execTuneStop]

@[simp] theorem execMarginTick_keepsMem (a b : MarginIn) (s : State) : KeepsMem s (execMarginTick a b s) := by
  unfold execMarginTick
  dsimp only
  repeat' split
  all_goals simp

@[simp] theorem execTickWatchExpiry_keepsMem (s : State) : KeepsMem s (execTickWatchExpiry s) := by
  simp [execTickWatchExpiry]

@[simp] theorem execSafeClockCheck_keepsMem (withinOnePercent : Bool) (s : State) : KeepsMem s (execSafeClockCheck withinOnePercent s) := by
  simp [execSafeClockCheck]

@[simp] theorem execMarginStarted_keepsMem (s : State) : KeepsMem s (execMarginStarted s) := by
  unfold execMarginStarted
  dsimp only
  repeat' split
  all_goals simp

@[simp] theorem execTestPulse_keepsMem (k : Fin 4) (s : State) : KeepsMem s (execTestPulse k s) := by
  simp [execTestPulse]

@[simp] theorem execTestPulseEnd_keepsMem (k : Fin 4) (s : State) : KeepsMem s (execTestPulseEnd k s) := by
  simp [execTestPulseEnd]

@[simp] theorem execTestPulseCheck_keepsMem (k : Fin 4) (before during after : BitVec 32) (s : State) : KeepsMem s (execTestPulseCheck k before during after s) := by
  simp [execTestPulseCheck]

@[simp] theorem execOutputOffPulseTest_keepsMem (k : Fin 8) (low : Bool) (s : State) : KeepsMem s (execOutputOffPulseTest k low s) := by
  simp [execOutputOffPulseTest]

@[simp] theorem execSwitchTestEnd_keepsMem (k : Fin 8) (low : Bool) (s : State) : KeepsMem s (execSwitchTestEnd k low s) := by
  simp [execSwitchTestEnd]

@[simp] theorem execSoFbSettle_keepsMem (k : Fin 8) (band : FbBand) (s : State) : KeepsMem s (execSoFbSettle k band s) := by
  simp [execSoFbSettle]

@[simp] theorem execStop1TimerExpiry_keepsMem (f : Fin 16) (s : State) : KeepsMem s (execStop1TimerExpiry f s) := by
  simp [execStop1TimerExpiry]

@[simp] theorem execSafeCfgLoad_keepsMem (m : MbCmd) (s : State) : KeepsMem s (execSafeCfgLoad m s) := by
  simp only [execSafeCfgLoad, keepsMem_next]
  rw [Hdr.run_rings]
  · exact id
  · intro m t
    split
    · trivial
    · refine reserved_keepsRings ?_
      split
      · trivial
      · refine State.withSafePassword_keepsRings _ _ _ _ fun u => ?_
        split <;> simp

@[simp] theorem execSafeCfgAccept_keepsMem (m : MbCmd) (s : State) : KeepsMem s (execSafeCfgAccept m s) := by
  simp only [execSafeCfgAccept, keepsMem_next]
  rw [Hdr.run_rings]
  · exact id
  · intro m t
    split
    · trivial
    · exact reserved_keepsRings (State.withSafePassword_keepsRings _ _ _ _ fun u => by simp)

@[simp] theorem execSafeStatus_keepsMem (m : MbCmd) (s : State) : KeepsMem s (execSafeStatus m s) := by
  simp [execSafeStatus]

@[simp] theorem execSafeLogRead_keepsMem (m : MbCmd) (s : State) : KeepsMem s (execSafeLogRead m s) := by
  simp [execSafeLogRead]

@[simp] theorem execSafeReset_keepsMem (m : MbCmd) (s : State) : KeepsMem s (execSafeReset m s) := by
  simp [execSafeReset]

@[simp] theorem execSafeStagingExpiry_keepsMem (s : State) : KeepsMem s (execSafeStagingExpiry s) := by
  simp [execSafeStagingExpiry]

@[simp] theorem execSafeLockEnd_keepsMem (s : State) : KeepsMem s (execSafeLockEnd s) := by
  simp [execSafeLockEnd]

@[simp] theorem execNop_keepsMem (m : MbCmd) (s : State) : KeepsMem s (execNop m s) := by
  simp [execNop]

@[simp] theorem execDevInfo_keepsMem (m : MbCmd) (s : State) : KeepsMem s (execDevInfo m s) := by
  simp [execDevInfo]

@[simp] theorem execSessionOpen_keepsMem (m : MbCmd) (s : State) : KeepsMem s (execSessionOpen m s) := by
  simp [execSessionOpen]

@[simp] theorem execSessionClose_keepsMem (m : MbCmd) (s : State) : KeepsMem s (execSessionClose m s) := by
  simp [execSessionClose]

@[simp] theorem execDevModeSet_keepsMem (m : MbCmd) (s : State) : KeepsMem s (execDevModeSet m s) := by
  simp [execDevModeSet]

@[simp] theorem execDevStandby_keepsMem (m : MbCmd) (s : State) : KeepsMem s (execDevStandby m s) := by
  exact (keepsMem_next _ _).mpr fun h => State.respondFirst_memOk _ (by simpa using h)

@[simp] theorem execOptSet_keepsMem (m : MbCmd) (s : State) : KeepsMem s (execOptSet m s) := by
  simp [execOptSet]

@[simp] theorem execEvtConfig_keepsMem (m : MbCmd) (s : State) : KeepsMem s (execEvtConfig m s) := by
  simp [execEvtConfig]

@[simp] theorem execEvtClear_keepsMem (m : MbCmd) (s : State) : KeepsMem s (execEvtClear m s) := by
  simp [execEvtClear]

@[simp] theorem execSpareStatus_keepsMem (m : MbCmd) (s : State) : KeepsMem s (execSpareStatus m s) := by
  simp [execSpareStatus]

@[simp] theorem execSpareRetire_keepsMem (m : MbCmd) (s : State) : KeepsMem s (execSpareRetire m s) := by
  simp [execSpareRetire]

@[simp] theorem execSelftest_keepsMem (m : MbCmd) (s : State) : KeepsMem s (execSelftest m s) := by
  simp [execSelftest]

@[simp] theorem execSelftestDone_keepsMem (pass : Bool) (duration failCode : Word) (s : State) : KeepsMem s (execSelftestDone pass duration failCode s) := by
  unfold execSelftestDone
  dsimp only
  repeat' split
  all_goals simp

@[simp] theorem execWearReport_keepsMem (m : MbCmd) (s : State) : KeepsMem s (execWearReport m s) := by
  simp [execWearReport]

@[simp] theorem execFwStage_keepsMem (m : MbCmd) (s : State) : KeepsMem s (execFwStage m s) := by
  simp [execFwStage]

@[simp] theorem execFwActivate_keepsMem (m : MbCmd) (s : State) : KeepsMem s (execFwActivate m s) := by
  exact (keepsMem_next _ _).mpr fun h => State.respondFirst_memOk _ (by simpa using h)

@[simp] theorem execWatchdogRestart_keepsMem (s : State) : KeepsMem s (execWatchdogRestart s) := by
  simp [execWatchdogRestart]

@[simp] theorem execHelloSend_keepsMem (p : Fin 4) (s : State) : KeepsMem s (execHelloSend p s) := by
  simp [execHelloSend]

@[simp] theorem execHelloReceive_keepsMem (p : Fin 4) (f : Frame) (s : State) : KeepsMem s (execHelloReceive p f s) := by
  simp [execHelloReceive]

@[simp] theorem execBlockLockGained_keepsMem (p : Fin 4) (s : State) : KeepsMem s (execBlockLockGained p s) := by
  simp [execBlockLockGained]

@[simp] theorem execLinkUp_keepsMem (p : Fin 4) (s : State) : KeepsMem s (execLinkUp p s) := by
  simp [execLinkUp]

@[simp] theorem execPrimHoldEnd_keepsMem (p : Fin 4) (s : State) : KeepsMem s (execPrimHoldEnd p s) := by
  simp [execPrimHoldEnd]

@[simp] theorem execLinkDown_keepsMem (p : LinkLoss) (s : State) : KeepsMem s (execLinkDown p s) := by
  simp [execLinkDown]

@[simp] theorem execPeerSilent_keepsMem (p : Fin 4) (s : State) : KeepsMem s (execPeerSilent p s) := by
  simp [execPeerSilent]

@[simp] theorem execFrameForward_keepsMem (p : Fin 4) (f : Frame) (s : State) : KeepsMem s (execFrameForward p f s) := by
  simp [execFrameForward]

@[simp] theorem execDiscoverRequest_keepsMem (p : Fin 4) (f : Frame) (s : State) : KeepsMem s (execDiscoverRequest p f s) := by
  simp [execDiscoverRequest]

@[simp] theorem execDiscoverReply_keepsMem (p : Fin 4) (f : Frame) (s : State) : KeepsMem s (execDiscoverReply p f s) := by
  unfold execDiscoverReply
  dsimp only
  repeat' split
  all_goals simp

@[simp] theorem execAssignUid_keepsMem (p : Fin 4) (f : Frame) (s : State) : KeepsMem s (execAssignUid p f s) := by
  simp [execAssignUid]

@[simp] theorem execAssignRing_keepsMem (p : Fin 4) (f : Frame) (s : State) : KeepsMem s (execAssignRing p f s) := by
  unfold execAssignRing
  dsimp only
  repeat' split
  all_goals simp

@[simp] theorem execFabDiscover_keepsMem (m : MbCmd) (s : State) : KeepsMem s (execFabDiscover m s) := by
  simp [execFabDiscover]

@[simp] theorem execDiscoveryDone_keepsMem (s : State) : KeepsMem s (execDiscoveryDone s) := by
  simp [execDiscoveryDone]

@[simp] theorem execFabAddrSet_keepsMem (m : MbCmd) (s : State) : KeepsMem s (execFabAddrSet m s) := by
  simp [execFabAddrSet]

@[simp] theorem execFabAssignTimeout_keepsMem (s : State) : KeepsMem s (execFabAssignTimeout s) := by
  unfold execFabAssignTimeout
  split <;> simp

@[simp] theorem execFabRouteLoad_keepsMem (m : MbCmd) (s : State) : KeepsMem s (execFabRouteLoad m s) := by
  simp [execFabRouteLoad]

@[simp] theorem execFabStatus_keepsMem (m : MbCmd) (s : State) : KeepsMem s (execFabStatus m s) := by
  simp [execFabStatus]

@[simp] theorem execWindowRead_keepsMem (p : Fin 4) (f : Frame) (s : State) : KeepsMem s (execWindowRead p f s) := by
  simp [execWindowRead]

@[simp] theorem execWindowWrite_keepsMem (p : Fin 4) (f : Frame) (s : State) : KeepsMem s (execWindowWrite p f s) := by
  have received : MemOk s.rings → MemOk (s.receive p f).2.rings := by simp
  unfold execWindowWrite
  generalize s.receive p f = r at received
  obtain ⟨ok, t⟩ := r
  dsimp only
  split
  · simpa using received
  · split
    · simpa using received
    · simpa using fun h => State.windowPut_memOk _ _ _ _ _ (received h)

@[simp] theorem execWindowReset_keepsMem (p : Fin 4) (f : Frame) (s : State) : KeepsMem s (execWindowReset p f s) := by
  have received : MemOk s.rings → MemOk (s.receive p f).2.rings := by simp
  unfold execWindowReset
  generalize s.receive p f = r at received
  obtain ⟨ok, t⟩ := r
  dsimp only
  split
  · simpa using received
  · split
    · simpa using received
    · split
      · exact (keepsMem_next _ _).mpr fun h => State.assert_memOk _ (by simpa using received h)
      · exact (keepsMem_next _ _).mpr fun h => State.assert_memOk _ (by simpa using received h)
      · simpa using received

@[simp] theorem execMailboxCommand_keepsMem (p : Fin 4) (f : Frame) (s : State) : KeepsMem s (execMailboxCommand p f s) := by
  have received : MemOk s.rings → MemOk (s.receive p f).2.rings := by simp
  unfold execMailboxCommand
  generalize s.receive p f = r at received
  obtain ⟨ok, t⟩ := r
  dsimp only
  split
  · simpa using received
  · split
    · simpa using received
    · split
      · exact (keepsMem_next _ _).mpr fun h => State.fabricCommand_memOk _ _ _ (by simpa using received h)
      · simpa using received

@[simp] theorem execMailboxAck_keepsMem (p : Fin 4) (f : Frame) (s : State) : KeepsMem s (execMailboxAck p f s) := by
  simp [execMailboxAck]

@[simp] theorem execMailboxResponseResend_keepsMem (k : Fin 8) (s : State) : KeepsMem s (execMailboxResponseResend k s) := by
  unfold execMailboxResponseResend
  dsimp only
  repeat' split
  all_goals simp

@[simp] theorem execSyncFrame_keepsMem (p : Fin 4) (f : Frame) (s : State) : KeepsMem s (execSyncFrame p f s) := by
  simp [execSyncFrame]

@[simp] theorem execSyncEntryExpiry_keepsMem (id : BitVec 16) (s : State) : KeepsMem s (execSyncEntryExpiry id s) := by
  simp [execSyncEntryExpiry]

@[simp] theorem execNoticeReceive_keepsMem (p : Fin 4) (f : Frame) (s : State) : KeepsMem s (execNoticeReceive p f s) := by
  simp [execNoticeReceive]

@[simp] theorem execMbDoorbell_keepsMem (p : Path) (k : Fin 8) (v : Word) (s : State) : KeepsMem s (execMbDoorbell p k v s) := by
  simp [execMbDoorbell]

@[simp] theorem execMbCommandTake_keepsMem (k : Fin 8) (s : State) : KeepsMem s (execMbCommandTake k s) := by
  simp [execMbCommandTake]

@[simp] theorem execMbResponseWrite_keepsMem (k : Fin 8) (s : State) : KeepsMem s (execMbResponseWrite k s) := by
  refine (keepsMem_next _ _).mpr fun h => ?_
  split
  · exact State.settleRestart_memOk (State.writeResponse_memOk k h)
  · exact h

@[simp] theorem execMbRspHeadWrite_keepsMem (p : Path) (k : Fin 8) (v : Word) (s : State) : KeepsMem s (execMbRspHeadWrite p k v s) := by
  simp [execMbRspHeadWrite]

@[simp] theorem execMbCfgWrite_keepsMem (p : Path) (k : Fin 8) (v : Word) (s : State) : KeepsMem s (execMbCfgWrite p k v s) := by
  simp [execMbCfgWrite]

@[simp] theorem execMbStatClear_keepsMem (p : Path) (k : Fin 8) (v : Word) (s : State) : KeepsMem s (execMbStatClear p k v s) := by
  simp [execMbStatClear]

@[simp] theorem execResetCauseClear_keepsMem (p : Path) (v : Word) (s : State) : KeepsMem s (execResetCauseClear p v s) := by
  refine (keepsMem_next _ _).mpr fun h => ?_
  rw [State.write_rings (f := State.resetCauseWrite v) (fun _ => rfl)]
  exact h

@[simp] theorem execResetCtlF_keepsMem (p : Path) (v : Word) (s : State) : KeepsMem s (execResetCtlF p v s) := by
  exact (keepsMem_next _ _).mpr (State.write_memOk (fun _ => State.resetCtlWrite_memOk p v) p)

@[simp] theorem execResetCtlC_keepsMem (p : Path) (v : Word) (s : State) : KeepsMem s (execResetCtlC p v s) := by
  exact (keepsMem_next _ _).mpr (State.write_memOk (fun _ => State.resetCtlWrite_memOk p v) p)

@[simp] theorem execResetCtlB_keepsMem (p : Path) (v : Word) (s : State) : KeepsMem s (execResetCtlB p v s) := by
  exact (keepsMem_next _ _).mpr (State.write_memOk (fun _ => State.resetCtlWrite_memOk p v) p)

@[simp] theorem execIrqStatClear_keepsMem (p : Path) (v : Word) (s : State) : KeepsMem s (execIrqStatClear p v s) := by
  refine (keepsMem_next _ _).mpr fun h => ?_
  rw [State.write_rings (f := State.irqStatWrite v) (fun _ => rfl)]
  exact h

@[simp] theorem execIrqEnWrite_keepsMem (p : Path) (v : Word) (s : State) : KeepsMem s (execIrqEnWrite p v s) := by
  simp [execIrqEnWrite]

@[simp] theorem execTimeLoRead_keepsMem (p : Path) (s : State) : KeepsMem s (execTimeLoRead p s) := by
  simp [execTimeLoRead]

@[simp] theorem execSoReqWrite_keepsMem (p : SoWriter) (v : Word) (s : State) : KeepsMem s (execSoReqWrite p v s) := by
  simp [execSoReqWrite]

@[simp] theorem execSoReqSet_keepsMem (p : SoWriter) (v : Word) (s : State) : KeepsMem s (execSoReqSet p v s) := by
  simp [execSoReqSet]

@[simp] theorem execSoReqClr_keepsMem (p : SoWriter) (v : Word) (s : State) : KeepsMem s (execSoReqClr p v s) := by
  simp [execSoReqClr]

@[simp] theorem execBlotCursorWrite_keepsMem (p : Path) (v : Word) (s : State) : KeepsMem s (execBlotCursorWrite p v s) := by
  simp [execBlotCursorWrite]

@[simp] theorem execRecAckWrite_keepsMem (p : Path) (st : Fin 4) (v : Word) (s : State) : KeepsMem s (execRecAckWrite p st v s) := by
  simp [execRecAckWrite]

@[simp] theorem execRingTailWrite_keepsMem (p : Path) (st : Fin 4) (v : TailWrite) (s : State) : KeepsMem s (execRingTailWrite p st v s) := by
  simp [execRingTailWrite]

@[simp] theorem execHlimUnlock_keepsMem (p : Path) (v : Word) (s : State) : KeepsMem s (execHlimUnlock p v s) := by
  simp [execHlimUnlock]

@[simp] theorem execHlimPasswordChecked_keepsMem (s : State) : KeepsMem s (execHlimPasswordChecked s) := by
  simp [execHlimPasswordChecked]

@[simp] theorem execHlimLock_keepsMem (p : Path) (v : Word) (s : State) : KeepsMem s (execHlimLock p v s) := by
  simp [execHlimLock]

@[simp] theorem execHlimSetpw_keepsMem (p : Path) (v : Word) (s : State) : KeepsMem s (execHlimSetpw p v s) := by
  simp [execHlimSetpw]

@[simp] theorem execHlimStageWrite_keepsMem (p : Path) (i : Fin 16) (v : Word) (s : State) : KeepsMem s (execHlimStageWrite p i v s) := by
  simp [execHlimStageWrite]

@[simp] theorem execHlimCommit_keepsMem (p : Path) (v : Word) (s : State) : KeepsMem s (execHlimCommit p v s) := by
  simp [execHlimCommit]

@[simp] theorem execHlimUnlockExpiry_keepsMem (s : State) : KeepsMem s (execHlimUnlockExpiry s) := by
  simp [execHlimUnlockExpiry]

@[simp] theorem execHlimLockoutEnd_keepsMem (s : State) : KeepsMem s (execHlimLockoutEnd s) := by
  simp [execHlimLockoutEnd]

@[simp] theorem execSessionLockEnd_keepsMem (level : Authority) (s : State) : KeepsMem s (execSessionLockEnd level s) := by
  unfold execSessionLockEnd
  dsimp only
  repeat' split
  all_goals simp

@[simp] theorem execRegisterWrite_keepsMem (p : Path) (bar : Bar) (offset : Nat) (data : List Byte) (s : State) : KeepsMem s (execRegisterWrite p bar offset data s) := by
  refine (keepsMem_next _ _).mpr (State.write_memOk (fun t h => ?_) p)
  split
  · split
    · exact State.bar2Write_memOk _ _ h
    · simpa using h
  · split
    · simpa using h
    · exact State.bar0Write_memOk _ _ _ h
  · split <;> simpa using h

@[simp] theorem execChannelConversion_keepsMem (n : Fin 256) (k : Conversion) (s : State) : KeepsMem s (execChannelConversion n k s) := by
  simp [execChannelConversion]

@[simp] theorem execGroupPowerWindow_keepsMem (g : Fin 16) (s : State) : KeepsMem s (execGroupPowerWindow g s) := by
  unfold execGroupPowerWindow
  extract_lets s1 act total s2
  have h2 : s2.rings = s.rings := forAll_rings (by simp) _ _
  split
  · rw [keepsMem_next, forAll_rings (by simp), h2]
    exact id
  · rw [keepsMem_next, h2]
    exact id

@[simp] theorem execPeriodicRecord_keepsMem (n : Fin 256) (s : State) : KeepsMem s (execPeriodicRecord n s) := by
  unfold execPeriodicRecord
  split <;> simp

@[simp] theorem execRecConfig_keepsMem (m : MbCmd) (s : State) : KeepsMem s (execRecConfig m s) := by
  simp [execRecConfig]

@[simp] theorem execAuxConversion_keepsMem (f : Fin 4) (j : Fin 8) (code dither : Int) (s : State) : KeepsMem s (execAuxConversion f j code dither s) := by
  simp [execAuxConversion]

@[simp] theorem execCalTempDrift_keepsMem (f : Fin 4) (temp : Int) (s : State) : KeepsMem s (execCalTempDrift f temp s) := by
  unfold execCalTempDrift
  extract_lets old one
  have ones (n : Fin 256) (r : Option Block) (t : State) : (one n r t).rings = t.rings := by
    unfold one
    split
    · split
      · rfl
      · exact State.raise_rings _ _ _ _ _
    · rfl
  have all (l : List (Fin 256)) (t : State) :
      (forAll (fun n t => one n (s.calOf n true (cfGain (s.ch n).cfg)) (one n (s.calOf n false 0) t)) l t).rings = t.rings :=
    forAll_rings (fun n t => by rw [ones, ones]) l t
  rw [keepsMem_next, all]
  exact id

@[simp] theorem execConvSelftest_keepsMem (c : ConvRef) (code : Int) (s : State) : KeepsMem s (execConvSelftest c code s) := by
  unfold execConvSelftest
  split <;> simp

@[simp] theorem execSpareSettled_keepsMem (f : Fin 4) (c : Fin 140) (s : State) : KeepsMem s (execSpareSettled f c s) := by
  simp [execSpareSettled]

@[simp] theorem execCalPoint_keepsMem (m : MbCmd) (s : State) : KeepsMem s (execCalPoint m s) := by
  simp [execCalPoint]

@[simp] theorem execCalPointDone_keepsMem (n : Fin 256) (s : State) : KeepsMem s (execCalPointDone n s) := by
  unfold execCalPointDone
  dsimp only
  repeat' split
  all_goals simp

@[simp] theorem execCalPointExpiry_keepsMem (n : Fin 256) (cur : Bool) (r : Fin 6) (full : Bool) (s : State) : KeepsMem s (execCalPointExpiry n cur r full s) := by
  simp [execCalPointExpiry]

@[simp] theorem execCalCommit_keepsMem (m : MbCmd) (s : State) : KeepsMem s (execCalCommit m s) := by
  simp [execCalCommit]

@[simp] theorem execCalRead_keepsMem (m : MbCmd) (s : State) : KeepsMem s (execCalRead m s) := by
  simp only [execCalRead, keepsMem_next]
  rw [Hdr.run_rings]
  · exact id
  · refine chanVerdict_keepsRings fun n t => reserved_keepsRings ?_
    split <;> simp

@[simp] theorem execReleaseStage_keepsMem (x : StageIn) (s : State) : KeepsMem s (execReleaseStage x s) := by
  simp [execReleaseStage]

@[simp] theorem execClkNotGood_keepsMem (d : ClkDomain) (s : State) : KeepsMem s (execClkNotGood d s) := by
  simp [execClkNotGood]

@[simp] theorem execClkGood_keepsMem (d : ClkDomain) (s : State) : KeepsMem s (execClkGood d s) := by
  unfold execClkGood
  dsimp only
  repeat' split
  all_goals simp

@[simp] theorem execPowerOn_keepsMem (s : State) : KeepsMem s (execPowerOn s) := by
  exact (keepsMem_next _ _).mpr (State.assert_memOk (s := { s with rst := { s.rst with pgood := false } }) _)

@[simp] theorem execSupplyOutOfRange_keepsMem (rail : Fin 13) (above pgood : Bool) (s : State) : KeepsMem s (execSupplyOutOfRange rail above pgood s) := by
  have asserted (src : ResetSrc) := State.assert_memOk src (s := { s with rst := { s.rst with pgood := pgood } })
  unfold execSupplyOutOfRange
  dsimp only
  split
  · simp
  · split <;> simpa using asserted _

@[simp] theorem execResetNLow_keepsMem (s : State) : KeepsMem s (execResetNLow s) := by
  exact (keepsMem_next _ _).mpr (State.assertAwake_memOk _)

@[simp] theorem execResetNStuck_keepsMem (seconds : Nat) (s : State) : KeepsMem s (execResetNStuck seconds s) := by
  simp [execResetNStuck]

@[simp] theorem execWarmNLow_keepsMem (s : State) : KeepsMem s (execWarmNLow s) := by
  exact (keepsMem_next _ _).mpr (State.assertAwake_memOk _)

@[simp] theorem execTestModeRise_keepsMem (s : State) : KeepsMem s (execTestModeRise s) := by
  exact (keepsMem_next _ _).mpr (State.assertAwake_memOk _)

@[simp] theorem execWatchdogExpired_keepsMem (s : State) : KeepsMem s (execWatchdogExpired s) := by
  unfold execWatchdogExpired
  split
  · simp
  · exact (keepsMem_next _ _).mpr fun h => State.assert_memOk _ (by simpa using h)

@[simp] theorem execThermalShutdown_keepsMem (die : Fin 3) (temp : Int) (s : State) : KeepsMem s (execThermalShutdown die temp s) := by
  unfold execThermalShutdown
  split
  · simp
  · exact (keepsMem_next _ _).mpr fun h => State.assert_memOk _ (by simpa using h)

@[simp] theorem execRefLoss_keepsMem (s : State) : KeepsMem s (execRefLoss s) := by
  exact (keepsMem_next _ _).mpr (State.assertAwake_memOk _)

@[simp] theorem execResetRelease_keepsMem (src : ResetSrc) (s : State) : KeepsMem s (execResetRelease src s) := by
  simp [execResetRelease]

@[simp] theorem execThermalRecovery_keepsMem (s : State) : KeepsMem s (execThermalRecovery s) := by
  simp [execThermalRecovery]

@[simp] theorem execRefReturn_keepsMem (s : State) : KeepsMem s (execRefReturn s) := by
  simp [execRefReturn]

@[simp] theorem execPcieHotReset_keepsMem (ends : Bool) (s : State) : KeepsMem s (execPcieHotReset ends s) := by
  unfold execPcieHotReset
  split
  · simp
  · split
    · simp
    · refine (keepsMem_next _ _).mpr fun h => ?_
      have asserted := State.assert_memOk .pcie h
      split
      · simpa using asserted
      · exact asserted

@[simp] theorem execPcieLink_keepsMem (speed : Fin 16) (width : PcieWidth) (s : State) : KeepsMem s (execPcieLink speed width s) := by
  simp [execPcieLink]

@[simp] theorem execFinalFlushTimeout_keepsMem (s : State) : KeepsMem s (execFinalFlushTimeout s) := by
  simp [execFinalFlushTimeout]

@[simp] theorem execBlockResetIdle_keepsMem (s : State) : KeepsMem s (execBlockResetIdle s) := by
  simp [execBlockResetIdle]

@[simp] theorem execBlockResetForced_keepsMem (dropped : Nat) (s : State) : KeepsMem s (execBlockResetForced dropped s) := by
  simp [execBlockResetForced]

@[simp] theorem execCrossingFlushed_keepsMem (crossing : Nat) (d : ClkDomain) (count : Nat) (s : State) : KeepsMem s (execCrossingFlushed crossing d count s) := by
  simp [execCrossingFlushed]

@[simp] theorem execPfailSequence_keepsMem (s : State) : KeepsMem s (execPfailSequence s) := by
  simp [execPfailSequence]

@[simp] theorem execPfailNRise_keepsMem (s : State) : KeepsMem s (execPfailNRise s) := by
  simp [execPfailNRise]

@[simp] theorem execPfailSelfReset_keepsMem (level : Bool) (s : State) : KeepsMem s (execPfailSelfReset level s) := by
  unfold execPfailSelfReset
  split
  · exact (keepsMem_next _ _).mpr fun h => State.assert_memOk _ (by simpa using h)
  · simp

@[simp] theorem execWakeN_keepsMem (s : State) : KeepsMem s (execWakeN s) := by
  simp [execWakeN]

@[simp] theorem execStandbyHoldEnd_keepsMem (s : State) : KeepsMem s (execStandbyHoldEnd s) := by
  simp [execStandbyHoldEnd]

@[simp] theorem execPgoodInRise_keepsMem (s : State) : KeepsMem s (execPgoodInRise s) := by
  unfold execPgoodInRise
  dsimp only
  split
  · simp
  · refine (keepsMem_next _ _).mpr fun h => ?_
    dsimp only
    exact State.assert_memOk .standbyExit (by simpa using h)
  · simp

@[simp] theorem execStandbyExitTimeout_keepsMem (s : State) : KeepsMem s (execStandbyExitTimeout s) := by
  simp [execStandbyExitTimeout]

@[simp] theorem execQuirePostAck_keepsMem (p : Producer) (s : State) : KeepsMem s (execQuirePostAck p s) := by
  unfold execQuirePostAck
  dsimp only
  repeat' split
  all_goals simp

@[simp] theorem execQuireItemDue_keepsMem (uid : Nat) (s : State) : KeepsMem s (execQuireItemDue uid s) := by
  unfold execQuireItemDue
  dsimp only
  repeat' split
  all_goals simp

@[simp] theorem execQuireDispatch_keepsMem (t : QTarget) (block : Fin 64) (entry : ReadOutcome) (s : State) : KeepsMem s (execQuireDispatch t block entry s) := by
  unfold execQuireDispatch
  dsimp only
  repeat' split
  all_goals simp

@[simp] theorem execAxConfig_keepsMem (m : MbCmd) (s : State) : KeepsMem s (execAxConfig m s) := by
  simp only [execAxConfig, keepsMem_next]
  rw [Hdr.run_rings]
  · exact id
  · refine axVerdict_keepsRings fun a t => ?_
    split
    · exact reserved_keepsRings (by simp)
    · split
      · exact reserved_keepsRings (by simp)
      · trivial

@[simp] theorem execAxTableLoad_keepsMem (m : MbCmd) (s : State) : KeepsMem s (execAxTableLoad m s) := by
  simp only [execAxTableLoad, keepsMem_next]
  rw [Hdr.run_rings]
  · exact id
  · refine axVerdict_keepsRings fun a t => ?_
    split
    · trivial
    · refine reserved_keepsRings ?_
      split
      · simp
      · split <;> simp

@[simp] theorem execAxMove_keepsMem (m : MbCmd) (s : State) : KeepsMem s (execAxMove m s) := by
  simp only [execAxMove, keepsMem_next]
  rw [Hdr.run_rings]
  · exact id
  · refine axVerdict_keepsRings fun a t => ?_
    split
    · trivial
    · exact reserved_keepsRings (orElse_keepsRings (orElse_keepsRings (orElse_keepsRings (orElse_keepsRings (by simp)))))

@[simp] theorem execAxMoveDone_keepsMem (a : Fin 8) (s : State) : KeepsMem s (execAxMoveDone a s) := by
  simp [execAxMoveDone]

@[simp] theorem execAxMoveLinear_keepsMem (m : MbCmd) (s : State) : KeepsMem s (execAxMoveLinear m s) := by
  simp only [execAxMoveLinear, keepsMem_next]
  rw [Hdr.run_rings]
  · exact id
  · intro m t
    refine orElse_keepsRings (orElse_keepsRings (orElse_keepsRings (orElse_keepsRings ?_)))
    rw [Verdict.keepsRings_accepted, forAll_rings (by simp), State.startLinear_rings]

@[simp] theorem execAxStop_keepsMem (m : MbCmd) (s : State) : KeepsMem s (execAxStop m s) := by
  simp only [execAxStop, keepsMem_next]
  rw [Hdr.run_rings]
  · exact id
  · refine axVerdict_keepsRings fun a t => ?_
    split
    · trivial
    · refine reserved_keepsRings ?_
      simp

@[simp] theorem execAxHome_keepsMem (m : MbCmd) (s : State) : KeepsMem s (execAxHome m s) := by
  simp only [execAxHome, keepsMem_next]
  rw [Hdr.run_rings]
  · exact id
  · refine axVerdict_keepsRings fun a t => ?_
    split
    · trivial
    · exact reserved_keepsRings (orElse_keepsRings (orElse_keepsRings (orElse_keepsRings (orElse_keepsRings (orElse_keepsRings
        (orElse_keepsRings (by simp)))))))

@[simp] theorem execAxHomeDone_keepsMem (a : Fin 8) (s : State) : KeepsMem s (execAxHomeDone a s) := by
  unfold execAxHomeDone
  dsimp only
  repeat' split
  all_goals simp

@[simp] theorem execAxStandstill_keepsMem (m : MbCmd) (s : State) : KeepsMem s (execAxStandstill m s) := by
  simp only [execAxStandstill, keepsMem_next]
  rw [Hdr.run_rings]
  · exact id
  · refine axVerdict_keepsRings fun a t => ?_
    split
    · trivial
    · refine reserved_keepsRings ?_
      simp

@[simp] theorem execAxIdleTimeout_keepsMem (a : Fin 8) (s : State) : KeepsMem s (execAxIdleTimeout a s) := by
  simp [execAxIdleTimeout]

@[simp] theorem execCoilRampDone_keepsMem (a : Fin 8) (s : State) : KeepsMem s (execCoilRampDone a s) := by
  simp [execCoilRampDone]

@[simp] theorem execStepGeneratorUpdate_keepsMem (a : Fin 8) (s : State) : KeepsMem s (execStepGeneratorUpdate a s) := by
  simp [execStepGeneratorUpdate]

@[simp] theorem execCoilEvaluation_keepsMem (a : Fin 8) (codes : List (Int × Int)) (residueOk : Bool) (s : State) : KeepsMem s (execCoilEvaluation a codes residueOk s) := by
  unfold execCoilEvaluation
  dsimp only
  repeat' split
  all_goals simp

@[simp] theorem execSwitchRawEdge_keepsMem (a : Fin 8) (sw : Switch) (level : Bool) (s : State) : KeepsMem s (execSwitchRawEdge a sw level s) := by
  simp [execSwitchRawEdge]

@[simp] theorem execSwitchDebounced_keepsMem (a : Fin 8) (sw : Switch) (s : State) : KeepsMem s (execSwitchDebounced a sw s) := by
  unfold execSwitchDebounced
  dsimp only
  repeat' split
  all_goals simp

@[simp] theorem execEncoderEdge_keepsMem (a : Fin 8) (e : EncEdge) (s : State) : KeepsMem s (execEncoderEdge a e s) := by
  unfold execEncoderEdge
  dsimp only
  repeat' split
  all_goals simp

@[simp] theorem execAxStatus_keepsMem (m : MbCmd) (s : State) : KeepsMem s (execAxStatus m s) := by
  simp [execAxStatus]

@[simp] theorem execCompareFire_keepsMem (i : Fin 20) (s : State) : KeepsMem s (execCompareFire i s) := by
  unfold execCompareFire
  split <;> simp

@[simp] theorem execToutPulseEnd_keepsMem (i : Fin 4) (s : State) : KeepsMem s (execToutPulseEnd i s) := by
  unfold execToutPulseEnd
  dsimp only
  split <;> simp

@[simp] theorem execTimeSet_keepsMem (m : MbCmd) (s : State) : KeepsMem s (execTimeSet m s) := by
  simp [execTimeSet]

@[simp] theorem execTimeSlew_keepsMem (m : MbCmd) (s : State) : KeepsMem s (execTimeSlew m s) := by
  simp [execTimeSlew]

@[simp] theorem execTimeSlewDone_keepsMem (s : State) : KeepsMem s (execTimeSlewDone s) := by
  unfold execTimeSlewDone
  split <;> simp

@[simp] theorem execTimeMarkWrite_keepsMem (s : State) : KeepsMem s (execTimeMarkWrite s) := by
  simp [execTimeMarkWrite]

@[simp] theorem execTimeConfig_keepsMem (m : MbCmd) (s : State) : KeepsMem s (execTimeConfig m s) := by
  simp [execTimeConfig]

@[simp] theorem execTimeOutConfig_keepsMem (m : MbCmd) (s : State) : KeepsMem s (execTimeOutConfig m s) := by
  simp [execTimeOutConfig]

@[simp] theorem execTinCapture_keepsMem (i : Fin 4) (e : TinEdge) (s0 : State) : KeepsMem s0 (execTinCapture i e s0) := by
  simp [execTinCapture]

@[simp] theorem execTimeCaptureRead_keepsMem (m : MbCmd) (s : State) : KeepsMem s (execTimeCaptureRead m s) := by
  simp [execTimeCaptureRead]

@[simp] theorem execTimeStatus_keepsMem (m : MbCmd) (s : State) : KeepsMem s (execTimeStatus m s) := by
  simp [execTimeStatus]

@[simp] theorem execPtpTransparentForward_keepsMem (p q : Fin 4) (m : PtpMsg) (tOut : Nat) (s : State) : KeepsMem s (execPtpTransparentForward p q m tOut s) := by
  simp [execPtpTransparentForward]

@[simp] theorem execPtpMasterLoss_keepsMem (cause : Fin 3) (s : State) : KeepsMem s (execPtpMasterLoss cause s) := by
  simp [execPtpMasterLoss]

@[simp] theorem execPtpAnnounceReceive_keepsMem (p : Fin 4) (m : PtpMsg) (s : State) : KeepsMem s (execPtpAnnounceReceive p m s) := by
  unfold execPtpAnnounceReceive
  dsimp only
  repeat' split
  all_goals simp

@[simp] theorem execTimeBecameMaster_keepsMem (s : State) : KeepsMem s (execTimeBecameMaster s) := by
  simp [execTimeBecameMaster]

@[simp] theorem execPtpSyncReceive_keepsMem (p : Fin 4) (m : PtpMsg) (s : State) : KeepsMem s (execPtpSyncReceive p m s) := by
  simp [execPtpSyncReceive]

@[simp] theorem execPtpFollowUpReceive_keepsMem (p : Fin 4) (m : PtpMsg) (s : State) : KeepsMem s (execPtpFollowUpReceive p m s) := by
  unfold execPtpFollowUpReceive
  split
  · simp
  · split <;> simp

@[simp] theorem execPtpDelayReqSend_keepsMem (p : Fin 4) (t : Nat) (s : State) : KeepsMem s (execPtpDelayReqSend p t s) := by
  simp [execPtpDelayReqSend]

@[simp] theorem execPtpDelayReqReceive_keepsMem (p : Fin 4) (m : PtpMsg) (s : State) : KeepsMem s (execPtpDelayReqReceive p m s) := by
  simp [execPtpDelayReqReceive]

@[simp] theorem execPtpDelayRespReceive_keepsMem (p : Fin 4) (m : PtpMsg) (s : State) : KeepsMem s (execPtpDelayRespReceive p m s) := by
  unfold execPtpDelayRespReceive
  dsimp only
  repeat' split
  all_goals simp

@[simp] theorem execPtpPdelayReqSend_keepsMem (p : Fin 4) (t : Nat) (s : State) : KeepsMem s (execPtpPdelayReqSend p t s) := by
  simp [execPtpPdelayReqSend]

@[simp] theorem execPtpPdelayReceive_keepsMem (p : Fin 4) (i : PdelayIn) (s : State) : KeepsMem s (execPtpPdelayReceive p i s) := by
  unfold execPtpPdelayReceive
  dsimp only
  repeat' split
  all_goals simp

@[simp] theorem execPtpMasterSend_keepsMem (p : Fin 4) (announce : Bool) (t : Nat) (s : State) : KeepsMem s (execPtpMasterSend p announce t s) := by
  simp [execPtpMasterSend]

/-- Every command is carried out, and keeps the mailbox memory in order (R343, R345, R346, R394). -/
theorem exec_keepsMem (i : Instr) (s : State) : KeepsMem s (exec i s) := by
  unfold exec
  split <;> simp

/-- Every step is carried out, and keeps the mailbox memory in order. -/
theorem step_keepsMem (s : State) : KeepsMem s (step s) := by
  unfold step
  split
  · simp
  · next c rest _ => exact exec_keepsMem c { s with pending := rest }

end Sys2Proof.Machine
end

section
/-! PROOF. O60, O59, O1 and O3. -/

namespace Sys2Proof

open Sys2Proof.Machine Sys2Proof.Safety

/-- Settles O60: every command keeps the mailbox memory, or writes entries inside it, or clears it. -/
theorem ringsOkKept : Obligations.RingsOkKept := by
  intro s t ok e
  obtain ⟨u, eu, kept⟩ := step_keepsMem s
  cases eu.symm.trans e
  exact kept ok

/-- Settles O59: no byte of the mailbox memory is listed after power-on. -/
theorem ringsOkAtReset : Obligations.RingsOkAtReset := memOk_nil

/-- Settles O1: by the definition of a step. -/
theorem stepRunsFrontCommand : Obligations.StepRunsFrontCommand := fun _ _ _ => rfl

/-- Settles O3, by induction on the number of steps: each step answers a next state. -/
theorem everyRunGoesOn : Obligations.EveryRunGoesOn := by
  intro n
  induction n with
  | zero => exact fun s => ⟨s, rfl⟩
  | succ n ih =>
    intro s
    obtain ⟨t, e, -⟩ := step_keepsMem s
    obtain ⟨u, run⟩ := ih t
    refine ⟨u, ?_⟩
    have first : core.step s = .next t := e
    simp only [Host.Core.run, first]
    exact run

end Sys2Proof
end

section
/-! PROOF. The mailbox rings (R342 to R346): the doorbell, the taking of commands, the writing of responses; O10, O11 and O12. -/

namespace Sys2Proof.Machine

open Sys2Proof Sys2Proof.Safety

/-! ### The doorbell (R345) -/

theorem State.whenReady_of_ready {s : State} (f : State → State) (h : s.folio.mbReady = true) : s.whenReady f = f s := if_pos h

theorem State.whenReady_of_not {s : State} (f : State → State) (h : s.folio.mbReady = false) : s.whenReady f = s.accessErr :=
  if_neg (by simp [h])

theorem State.serves_of_booted {s : State} (k : Fin 8) (ready : s.folio.mbReady = true) (boot : s.folio.loader = none) :
    s.serves k = true := by
  simp [State.serves, ready, boot]

/-- A doorbell is applied to a PCIe mailbox that accepts its value, else refused. -/
theorem State.doorbell_eq {s : State} (k : Fin 8) (v : Word) (ready : s.folio.mbReady = true) :
    s.doorbell k v =
      if bit (s.mbox k).cfg 0 = false ∧ diff16 (BitVec.ofNat 16 v.toNat) (s.mbox k).cmdHead ≤ 32 ∧
          diff16 (BitVec.ofNat 16 v.toNat) (s.mbox k).cmdTail ≤ 32 then
        s.updMb k fun b => { b with cmdTail := BitVec.ofNat 16 v.toNat }
      else s.doorbellRefused k v := by
  rw [State.doorbell, State.whenReady_of_ready _ ready]
  cases path : bit (s.mbox k).cfg 0
  · simp [State.ringDoorbell, Mailbox.doorbellOk]
  · simp

theorem State.doorbellRefused_mbox (k : Fin 8) (v : Word) (s : State) :
    (s.doorbellRefused k v).mbox k = { s.mbox k with dbErr := true } := by
  simp [State.doorbellRefused]

theorem State.doorbellRefused_mbox_of_ne {k j : Fin 8} (v : Word) (s : State) (h : j ≠ k) :
    (s.doorbellRefused k v).mbox j = s.mbox j := by
  simp [State.doorbellRefused, State.updMb_mbox_of_ne _ _ h.symm]

theorem State.doorbellRefused_irqStat (k : Fin 8) (v : Word) (s : State) : bit (s.doorbellRefused k v).host.irqStat 16 = true := by
  have set : bit (w32 (2 ^ 16)) 16 = true := by decide
  simpa [State.doorbellRefused, State.irq, bit] using .inr set

/-- A refused doorbell touches the host interface and the raised events only. -/
theorem State.doorbellRefused_rest (k : Fin 8) (v : Word) (s : State) :
    { s.doorbellRefused k v with
      host := s.host
      blot := s.blot } = s := rfl

/-! ### The rings over PCIe (R343, R345) -/

/-- A write that touches the rings of a fabric mailbox is ignored. -/
theorem State.bar2Write_of_fabric {s : State} {k : Fin 8} {off : Nat} {data : List Byte} (path : bit (s.mbox k).cfg 0 = true)
    (below : off < 0x4000 * (k.val + 1)) (above : 0x4000 * k.val < off + data.length) : s.bar2Write off data = s.accessErr := by
  unfold State.bar2Write
  dsimp only
  split
  · rfl
  · refine if_pos (List.any_eq_true.mpr ⟨k.val, List.mem_range.mpr k.isLt, ?_⟩)
    have first : off / 0x4000 ≤ k.val := by omega
    have last : k.val ≤ (off + data.length - 1) / 0x4000 := by omega
    simp [path, first, last]

/-! ### The response ring (R343, R346) -/

/-- What the Folio does with the oldest response `r` of a PCIe mailbox, `l` the others: entry, RSP_TAIL, vector. -/
def State.putResponse (k : Fin 8) (r : Response) (l : List Response) (s : State) : State :=
  let t := ({ s with
    rings := memWriteBytes (rspSlot k (s.mbox k).rspTail) (blockBytes r.words) s.rings } : State).updMb k fun b => { b with
      done := l
      rspTail := b.rspTail + 1 }
  { t with host := t.host.irq k.val r.quiet }

theorem State.writeResponse_of_room {s : State} {k : Fin 8} {r : Response} {l : List Response} (done : (s.mbox k).done = r :: l)
    (kept : (s.mbox k).kept = none) (path : bit (s.mbox k).cfg 0 = false)
    (room : diff16 (s.mbox k).rspTail (s.mbox k).rspHead < 32) : s.writeResponse k = s.putResponse k r l := by
  have clears (t : State) (ht : t.mbox k = s.mbox k) : (t.updMb k fun b => { b with
      done := l
      kept := none
      rspTail := b.rspTail + 1 }) = t.updMb k fun b => { b with
      done := l
      rspTail := b.rspTail + 1 } := by
    simp only [State.updMb, ht, kept]
  unfold State.writeResponse
  dsimp only
  rw [done, kept, path]
  dsimp only
  rw [if_neg (Nat.not_le.mpr room), if_neg Bool.false_ne_true]
  unfold State.putResponse
  generalize memWriteBytes (rspSlot k (s.mbox k).rspTail) (blockBytes r.words) s.rings = rings
  exact congrArg (fun t : State => { t with host := t.host.irq k.val r.quiet }) (clears { s with rings := rings } rfl)

theorem State.writeResponse_of_full {s : State} {k : Fin 8} (full : diff16 (s.mbox k).rspTail (s.mbox k).rspHead = 32) :
    s.writeResponse k = s := by
  unfold State.writeResponse
  dsimp only
  split
  · rfl
  · exact if_pos full.ge

theorem State.settleRestart_of_none {s : State} (restart : s.folio.restart = none) : s.settleRestart = s := by
  rw [State.settleRestart, restart]

end Sys2Proof.Machine

namespace Sys2Proof

open Sys2Proof.Machine Sys2Proof.Safety

/-- Settles O10. -/
theorem doorbellAppliedOrRefused : Obligations.DoorbellAppliedOrRefused := by
  unfold Obligations.DoorbellAppliedOrRefused
  refine ⟨fun p k v s reaches ready => ?_, fun k v s reaches ready path => ?_,
    fun k off data s reaches path _ _ _ below above => ?_⟩
  · have runs : exec (.mbDoorbell p k v) s = .next (s.doorbell k v) :=
      congrArg Host.Outcome.next (State.write_of_reaches _ reaches)
    rw [State.doorbell_eq k v ready] at runs
    dsimp only
    split
    · next accepted => rwa [if_pos accepted] at runs
    · next refused =>
      rw [if_neg refused] at runs
      exact ⟨_, runs, State.doorbellRefused_mbox k v s, fun j h => State.doorbellRefused_mbox_of_ne v s h,
        State.doorbellRefused_irqStat k v s, rfl, State.doorbellRefused_rest k v s⟩
  · have runs : exec (.mbRspHeadWrite .pcie k v) s = .next (s.rspHeadWrite k v) :=
      congrArg Host.Outcome.next (State.write_of_reaches _ reaches)
    rw [runs, State.rspHeadWrite, State.whenReady_of_ready _ ready]
    simp [path]
  · have runs : exec (.registerWrite .pcie .bar2 off data) s = .next (s.bar2Write off data) :=
      congrArg Host.Outcome.next (State.write_of_reaches _ reaches)
    rw [runs, State.bar2Write_of_fabric path below above]

/-- Settles O11: the mailbox is served, and its entry is the command. -/
theorem commandTakenInRingOrder : Obligations.CommandTakenInRingOrder := by
  intro k s op m ready boot published flow entry
  have served := State.serves_of_booted k ready boot
  have runs : exec (.mbCommandTake k) s = .next (s.takeCommand k) := rfl
  rw [runs, State.takeCommand]
  have goes : ¬(!s.serves k || (s.mbox k).cmdHead == (s.mbox k).cmdTail || decide (32 ≤ (s.mbox k).taken.length)) = true := by
    simp [served, published, flow]
  have read : entryCmd k (memReadWords (cmdSlot k (s.mbox k).cmdHead) 64 s.rings) = (op, m) := entry
  dsimp only
  rw [if_neg goes, read]
  refine ⟨fun known => ?_, fun unknown none_taken free => ?_⟩
  · simp [known]
  · simp [unknown, none_taken, free]

/-- Settles O12: a mailbox with room gets the entry, one without keeps its response. -/
theorem responseWrittenWhenRoom : Obligations.ResponseWrittenWhenRoom := by
  refine ⟨fun k s r l ready boot restart done kept path room => ?_, fun k s ready restart full => ?_⟩
  · have served := State.serves_of_booted k ready boot
    have runs : exec (.mbResponseWrite k) s = .next (s.writeResponse k).settleRestart := congrArg Host.Outcome.next (if_pos served)
    rw [runs, State.writeResponse_of_room done kept path room, State.settleRestart_of_none (s := s.putResponse k r l) restart]
    rfl
  · have runs : exec (.mbResponseWrite k) s = .next (if s.serves k then (s.writeResponse k).settleRestart else s) := rfl
    rw [runs, State.writeResponse_of_full full, State.settleRestart_of_none restart, ite_self]

end Sys2Proof
end

section
/-! PROOF. The registers of the mailboxes and of the direct map (R337 to R342, R356); O13, O14 and O15. -/

namespace Sys2Proof.Machine

open Sys2Proof Sys2Proof.Safety

/-! ### Mailbox registers (R342, R345, R356) -/

/-- A register that awaits MB_READY ignores a write before it. -/
theorem State.write_whenReady_of_not {p : Path} {s : State} (f : State → State) (reaches : Reaches p s)
    (idle : s.folio.mbReady = false) : s.write p (fun t => t.whenReady f) = s.accessErr :=
  (State.write_of_reaches _ reaches).trans (State.whenReady_of_not f idle)

theorem State.rspHeadWrite_accepts {s : State} {k : Fin 8} {v : Word} (ready : s.folio.mbReady = true)
    (path : bit (s.mbox k).cfg 0 = false)
    (room : diff16 (BitVec.ofNat 16 v.toNat) (s.mbox k).rspHead ≤ diff16 (s.mbox k).rspTail (s.mbox k).rspHead) :
    s.rspHeadWrite k v = s.updMb k fun b => { b with rspHead := BitVec.ofNat 16 v.toNat } := by
  rw [State.rspHeadWrite, State.whenReady_of_ready _ ready]
  exact if_neg (by rw [path, Bool.false_or, decide_eq_true_eq]; exact Nat.not_lt.mpr room)

theorem State.rspHeadWrite_ignores {s : State} {k : Fin 8} {v : Word} (ready : s.folio.mbReady = true)
    (out : bit (s.mbox k).cfg 0 = true ∨
      diff16 (s.mbox k).rspTail (s.mbox k).rspHead < diff16 (BitVec.ofNat 16 v.toNat) (s.mbox k).rspHead) :
    s.rspHeadWrite k v = s.accessErr := by
  rw [State.rspHeadWrite, State.whenReady_of_ready _ ready]
  exact if_pos (by simpa using out)

theorem State.mbCfgWrite_eq {s : State} (k : Fin 8) (v : Word) (ready : s.folio.mbReady = true) :
    s.mbCfgWrite k v =
      if (s.mbox k).session = none ∧ (s.mbox k).cmdHead = (s.mbox k).cmdTail ∧ (s.mbox k).rspHead = (s.mbox k).rspTail then
        s.updMb k fun b => { b with cfg := v &&& 0xFFFF0001#32 }
      else (s.updMb k fun b => { b with cfgErr := true }).irq 16 := by
  rw [State.mbCfgWrite, State.whenReady_of_ready _ ready]
  simp [and_assoc]

/-! ### Direct registers (R339 to R341) -/

/-- With no pending bit newly enabled a write of IRQ_EN sends no message. -/
theorem State.irqEnWrite_silent {s : State} {v : Word} (quiet : v &&& ~~~s.host.irqEn &&& s.host.irqStat = 0) :
    s.irqEnWrite v = { s with host := { s.host with irqEn := v &&& 0x0007FFFF#32 } } := by
  have none_sent (l : List Nat) (h : HostIf) : l.foldl (fun x i => if bit 0 i then x.message i else x) h = h := by
    induction l generalizing h with
    | nil => rfl
    | cons i l _ => simp [bit]
  unfold State.irqEnWrite
  dsimp only
  rw [quiet, none_sent]

/-- What a request of a block reset with its key leaves: RESET_CTL, the request behind those before it, and its delay (R340). -/
theorem State.resetCtlWrite_asks {s : State} {v : Word} (key : bits v 31 16 = 0xA5C3) (reach : bits v 1 0 = 3)
    (named : bits v 15 11 < blockInstances (bits v 10 4)) (ready : s.folio.readyOnce = true) :
    s.resetCtlWrite .pcie v = State.startTimer (.block (bits v 10 4) (bits v 15 11)) (s.folio.bTimeout * microsecond)
      { s with
        host := { s.host with resetCtl := v &&& 0x0000FFF3#32 }
        rst := { s.rst with block := s.rst.block ++ [(bits v 10 4, bits v 15 11)] } } := by
  have plain : (v &&& 0x0000FFF3#32) ||| w32 0 = v &&& 0x0000FFF3#32 := BitVec.or_zero
  unfold State.resetCtlWrite
  rw [if_neg (by simp [key])]
  simp only [reach, named, ready, beq_self_eq_true, decide_true, Bool.not_true, Bool.or_false, Bool.and_false, b2n,
    Bool.false_eq_true, if_false, Nat.mul_zero, plain]

theorem State.resetCtlWrite_ignores {p : Path} {s : State} {v : Word} (bad : p ≠ .pcie ∨ bits v 31 16 ≠ 0xA5C3) :
    s.resetCtlWrite p v = s.accessErr := if_pos (by simpa using bad)

end Sys2Proof.Machine

namespace Sys2Proof

open Sys2Proof.Machine Sys2Proof.Safety

/-- Settles O13: the writes reach the mailbox, which is ready. -/
theorem mailboxRegistersWritten : Obligations.MailboxRegistersWritten := by
  refine ⟨fun p k v s reaches ready path room => ?_, fun p k v s reaches ready out => ?_,
    fun p k v s reaches ready session cmd rsp => ?_, fun p k v s reaches ready busy => ?_, fun p k v s reaches ready => ?_⟩
  · exact congrArg Host.Outcome.next ((State.write_of_reaches _ reaches).trans (State.rspHeadWrite_accepts ready path room))
  · exact congrArg Host.Outcome.next ((State.write_of_reaches _ reaches).trans (State.rspHeadWrite_ignores ready out))
  · refine congrArg Host.Outcome.next ((State.write_of_reaches _ reaches).trans ?_)
    rw [State.mbCfgWrite_eq k v ready, if_pos ⟨session, cmd, rsp⟩]
    rfl
  · refine congrArg Host.Outcome.next ((State.write_of_reaches _ reaches).trans ?_)
    rw [State.mbCfgWrite_eq k v ready, if_neg busy]
  · exact congrArg Host.Outcome.next ((State.write_of_reaches _ reaches).trans (State.whenReady_of_ready _ ready))

/-- Settles O14: every mailbox register's write waits for MB_READY, and so does the Folio. -/
theorem mailboxesIgnoredUntilReady : Obligations.MailboxesIgnoredUntilReady := by
  intro p k v s reaches idle
  have unserved : s.serves k = false := by simp [State.serves, idle]
  exact ⟨congrArg Host.Outcome.next (State.write_whenReady_of_not _ reaches idle),
    congrArg Host.Outcome.next (State.write_whenReady_of_not _ reaches idle),
    congrArg Host.Outcome.next (State.write_whenReady_of_not _ reaches idle),
    congrArg Host.Outcome.next (State.write_whenReady_of_not _ reaches idle),
    congrArg Host.Outcome.next (if_pos (by simp [unserved])), congrArg Host.Outcome.next (if_neg (by simp [unserved]))⟩

/-- Settles O15: each clause is the register's own write. -/
theorem directRegistersWritten : Obligations.DirectRegistersWritten := by
  refine ⟨fun p v s reaches => ?_, fun p v s reaches => ?_, fun p v s reaches quiet => ?_,
    fun v s b i reaches key reach hb hi named ready => ?_, fun s reaches => ?_, fun a s => rfl⟩
  · exact congrArg Host.Outcome.next (State.write_of_reaches _ reaches)
  · exact congrArg Host.Outcome.next (State.write_of_reaches _ reaches)
  · exact congrArg Host.Outcome.next ((State.write_of_reaches _ reaches).trans (State.irqEnWrite_silent quiet))
  · subst hb hi
    refine ⟨_, congrArg Host.Outcome.next ((State.write_of_reaches _ reaches).trans (State.resetCtlWrite_asks key reach named ready)),
      rfl, rfl, ⟨_, List.mem_append_right _ List.mem_cons_self⟩, rfl⟩
  · obtain ⟨reset, d3⟩ := reaches
    exact congrArg Host.Outcome.next (if_neg (by simp [reset, d3]))

end Sys2Proof
end

section
/-! PROOF. The HLIM window in the hands of the path that holds the unlock (R350 to R353); O20. -/

namespace Sys2Proof.Machine

open Sys2Proof Sys2Proof.Safety

theorem hlimHold_eq : hlimHold = 300 * 250000000 := by
  unfold hlimHold second
  rfl

theorem State.hlimTouch_of_held {p : Path} {s : State} (held : s.host.hlim.unlock = some p) :
    s.hlimTouch p = s.startTimer .hlimUnlock (300 * 250000000) := by
  rw [← hlimHold_eq]
  exact if_pos (by simp [Hlim.heldBy, held])

theorem State.heldBy_of_unlock {p : Path} {s : State} (held : s.host.hlim.unlock = some p) : s.host.hlim.heldBy p = true := by
  simp [Hlim.heldBy, held]

/-- A word of the staged record after a write of word `i`. -/
theorem lset_blockFit_getD {n j : Nat} (i : Nat) (b : Block) (v : Word) (hj : j < n) :
    (lset (blockFit n b) i v).getD j 0 = if j = i then v else b.getD j 0 := by
  have fits : j < (blockFit n b).length := by simpa [blockFit] using hj
  rw [lset, List.getD_eq_getElem _ _ (by simpa using fits), List.getElem_set]
  by_cases h : i = j
  · rw [if_pos h, if_pos h.symm]
  · rw [if_neg h, if_neg (Ne.symm h)]
    simp [blockFit]

/-! ### SETPW and HLIM_STAGE (R350, R352) -/

theorem State.hlimSetpw_of_held {p : Path} {s : State} {v : Word} (held : s.host.hlim.unlock = some p) (min : 4 ≤ bits v 4 0)
    (max : bits v 4 0 ≤ 16) :
    s.hlimSetpw p v = ((s.startTimer .hlimUnlock (300 * 250000000)).updHlim fun h => { h with
      password := some (h.pwBytes (bits v 4 0))
      result := 0 }).persist 9 1 := by
  unfold State.hlimSetpw
  dsimp only
  rw [State.heldBy_of_unlock held, State.hlimTouch_of_held held]
  have inRange : ¬(decide (bits v 4 0 < 4) || decide (16 < bits v 4 0)) = true := by
    simp only [Bool.or_eq_true, decide_eq_true_eq]
    omega
  exact (if_neg (by decide)).trans (if_neg inRange)

/-! ### HLIM_COMMIT (R353) -/

/-- The record of a channel becomes live, and is counted; the persistence and the report follow. -/
def State.commitChannel (n : Fin 256) (s : State) : State :=
  ((s.startTimer .hlimUnlock (300 * 250000000)).updChv n fun v => { v with
    hlim := some (blockFit 16 s.host.hlim.stage) }).updHlim fun h => { h with
      writes := satAdd h.writes 1
      result := 0 }

theorem State.commitChannel_chv (n : Fin 256) (s : State) :
    (s.commitChannel n).chv n = { s.chv n with hlim := some (blockFit 16 s.host.hlim.stage) } :=
  vget_vset_self _ _ _

theorem State.commitChannel_chv_of_ne {n j : Fin 256} (s : State) (h : j ≠ n) : (s.commitChannel n).chv j = s.chv j :=
  vget_vset_of_ne _ _ h.symm

theorem State.hlimCommit_of_held {p : Path} {s : State} {v : Word} {n : Fin 256} (held : s.host.hlim.unlock = some p)
    (index : bits v 8 0 = n.val) (passes : commitCheck n.val s.host.hlim.stage = 0) (good : s.vel.failed.contains 1 = false) :
    ∃ x, s.hlimCommit p v =
      (let s1 := ((s.commitChannel n).persist 1 9).irq 14
       ({ s1 with blot := { s1.blot with flushReq := true } } : State).raise 0x0C03 NOTICE n.val x) := by
  refine ⟨((s.hlimRecord n.val).getD 15 0).toNat + 2 ^ 32 * (s.host.hlim.stage.getD 15 0).toNat, ?_⟩
  have put (t : State) : t.putRecord n.val s.host.hlim.stage =
      t.updChv n fun v => { v with hlim := some (blockFit 16 s.host.hlim.stage) } := by
    rw [State.putRecord, if_pos n.isLt, Fin.ofNat_val_eq_self]
  unfold State.hlimCommit
  dsimp only
  rw [index, State.heldBy_of_unlock held, passes, good, State.hlimTouch_of_held held, put, if_pos n.isLt]
  rfl

theorem State.persist_chv (region k : Nat) (s : State) (n : Fin 256) : (s.persist region k).chv n = s.chv n := by
  obtain ⟨v, b, e, -, ch⟩ := s.persist_wears region k
  rw [e]
  exact congrArg (fun c => vget c n) ch

end Sys2Proof.Machine

namespace Sys2Proof

open Sys2Proof.Machine Sys2Proof.Safety

/-- Settles O20: the path holds the unlock, so each write acts and begins its 300 s anew. -/
theorem hlimWritesOfTheHolder : Obligations.HlimWritesOfTheHolder := by
  refine ⟨fun p v s reaches lock setpw held min max => ?_, fun p i v s reaches held => ?_,
    fun p v s n reaches held index passes good => ?_⟩
  · have takes : s.hlimUnlockWrite p v = s.hlimSetpw p v := by simp [State.hlimUnlockWrite, lock, setpw]
    refine ⟨_, congrArg Host.Outcome.next (((State.write_of_reaches _ reaches).trans takes).trans
      (State.hlimSetpw_of_held held min max)), ?_⟩
    refine ⟨?_, ?_, ?_, fun j => State.persist_chv 9 1 _ j⟩ <;> obtain ⟨w, b, e, -, -⟩ := State.persist_wears 9 1
      ((s.startTimer .hlimUnlock (300 * 250000000)).updHlim fun h => { h with
        password := some (h.pwBytes (bits v 4 0))
        result := 0 })
    · rw [e]
      rfl
    · rw [e]
      exact State.startTimer_mem _ _ _
    · rw [e]
      rfl
  · have takes : s.hlimStage p i.val v = (s.startTimer .hlimUnlock (300 * 250000000)).updHlim fun h =>
        { h with stage := lset (blockFit 16 h.stage) i.val v } := by
      rw [State.hlimStage, if_pos (State.heldBy_of_unlock held), State.hlimTouch_of_held held]
    refine ⟨_, congrArg Host.Outcome.next ((State.write_of_reaches _ reaches).trans takes), ?_, fun j ne hj => ?_,
      State.startTimer_mem _ _ _, rfl⟩
    · exact (lset_blockFit_getD _ _ v i.isLt).trans (if_pos rfl)
    · exact (lset_blockFit_getD _ _ v hj).trans (if_neg ne)
  · obtain ⟨x, commits⟩ := State.hlimCommit_of_held (v := v) held index passes good
    refine ⟨_, congrArg Host.Outcome.next ((State.write_of_reaches _ reaches).trans commits), ?_⟩
    have kept (j : Fin 256) := State.persist_chv 1 9 (s.commitChannel n) j
    obtain ⟨w, b, e, -, -⟩ := State.persist_wears 1 9 (s.commitChannel n)
    rw [e] at kept ⊢
    refine ⟨?_, fun j ne => (kept j).trans (s.commitChannel_chv_of_ne ne), rfl, rfl, ?_, rfl, ⟨_, x, rfl⟩, State.startTimer_mem _ _ _, rfl⟩
    · refine Eq.trans (congrArg ChVellum.hlim (kept n)) ?_
      rw [s.commitChannel_chv n]
    · exact HostIf.irq_hlim _ _ _

end Sys2Proof
end

section
/-! PROOF. RESET_CTL (R340): the reaches C and F that the host asks for; O16. -/

namespace Sys2Proof.Machine

open Sys2Proof Sys2Proof.Safety

theorem State.suspendServo_soReq (s : State) : s.suspendServo.host.soReq = s.host.soReq := by
  unfold State.suspendServo
  dsimp only
  split
  · exact HostIf.irq_soReq _ _ _
  · rfl

theorem State.irq_unless_soReq (c : Prop) [Decidable c] (v : Nat) (t : State) :
    (if c then t else t.irq v).host.soReq = t.host.soReq := by
  split
  · rfl
  · exact HostIf.irq_soReq _ _ _

/-- A reset of reach C leaves SO_REQ. -/
theorem State.reachC_soReq (s : State) : s.reachC.host.soReq = s.host.soReq := by
  obtain ⟨q, b, hq⟩ := OnlyQuire.trans _ _ _ s.dropFlows_onlyQuire (State.requeue_onlyQuire 0 (fun i => i.target == .folio) _)
  have kept : (s.dropFlows.requeue 0 fun i => i.target == .folio).suspendServo.host.soReq = s.host.soReq :=
    (State.suspendServo_soReq _).trans (by rw [hq])
  unfold State.reachC
  exact (State.irq_unless_soReq _ _ _).trans kept

/-- RESET_CTL as the host writes it with its key, before the reset acts. -/
def State.withResetCtl (v : Word) (s : State) : State := { s with host := { s.host with resetCtl := v &&& 0x0000FFF3#32 } }

theorem resetCtl_unrefused (v : Word) : (v &&& 0x0000FFF3#32) ||| w32 (8 * b2n false) = v &&& 0x0000FFF3#32 := BitVec.or_zero

theorem State.resetCtlWrite_ctlF {s : State} {v : Word} (key : bits v 31 16 = 0xA5C3) (reach : bits v 1 0 = 1) :
    s.resetCtlWrite .pcie v = (s.withResetCtl v).assert .ctlF := by
  have other : ((1 : Nat) == 3) = false := rfl
  unfold State.resetCtlWrite
  rw [if_neg (by simp [key])]
  dsimp only
  rw [reach, other, Bool.false_and, resetCtl_unrefused]
  rfl

theorem State.resetCtlWrite_ctlC {s : State} {v : Word} (key : bits v 31 16 = 0xA5C3) (reach : bits v 1 0 = 2) :
    s.resetCtlWrite .pcie v = (s.withResetCtl v).assert .ctlC := by
  have other : ((2 : Nat) == 3) = false := rfl
  unfold State.resetCtlWrite
  rw [if_neg (by simp [key])]
  dsimp only
  rw [reach, other, Bool.false_and, resetCtl_unrefused]
  rfl

theorem State.endFlush_eq (s : State) : ∃ u, OnlyWears s u ∧ s.endFlush = u.reachF true :=
  ⟨_, OnlyWears.trans _ _ _ s.flushBlotter_wears s.flushBlotter.flushWear_wears, rfl⟩

/-- A flush that begins with no source of reach W or F asserted waits for checkpoints, or its reset is released. -/
theorem State.beginFlush_goes (src : ResetSrc) {s : State} (cover : s.rst.coverF = false) (reach : bits s.host.resetCause 25 24 = 1) :
    (s.beginFlush src).host.resetCause = s.host.resetCause ∧
    ((s.beginFlush src).rst.flushing = some src ∨ (s.beginFlush src).rst.stage ≠ 12) := by
  obtain ⟨host, rst⟩ := s.flushStart_frame src
  rw [State.beginFlush_eq]
  split
  · exact ⟨by rw [host], .inl (by rw [rst])⟩
  · obtain ⟨u, ⟨v, b, e, -, -⟩, ends⟩ := (s.flushStart src).endFlush_eq
    have hostU : u.host = s.host := by rw [e]; exact host
    have rstU : u.rst = { s.rst with flushing := some src } := by rw [e]; exact rst
    have cause := (u.reachF_reached true).cause
    have stage : (u.reachF true).rst.stage = 2 := State.reachF_stage true (by rw [rstU]; exact cover) (by rw [hostU]; exact reach)
    rw [ends]
    refine ⟨cause.trans (by rw [hostU]), .inr ?_⟩
    rw [stage]
    decide

end Sys2Proof.Machine

namespace Sys2Proof

open Sys2Proof.Machine Sys2Proof.Safety

/-- Settles O16: the request is recorded as its source, and its reach acts. -/
theorem resetRequestsOfTheHost : Obligations.ResetRequestsOfTheHost := by
  refine ⟨fun v s reaches key reach stage power sources flushing => ?_, fun v s reaches key reach stage power sources flushing => ?_,
    fun p v s reaches bad => ?_⟩
  · have widest : (s.withResetCtl v).widest 2 = 2 := State.widest_of_idle 2 stage sources
    have acts : (s.withResetCtl v).assert .ctlC = ((s.withResetCtl v).noteSource .ctlC).reachC :=
      State.assert_C rfl stage flushing
    have soReq := ((s.withResetCtl v).noteSource .ctlC).reachC_soReq
    have rings := State.reachC_rings ((s.withResetCtl v).noteSource .ctlC)
    obtain ⟨ready, cause, stage', -, mbox, -, -, -, -, vel, -, -, -⟩ := ((s.withResetCtl v).noteSource .ctlC).reachC_restarts
    refine ⟨_, congrArg Host.Outcome.next (((State.write_of_reaches _ reaches).trans
      (State.resetCtlWrite_ctlC key reach)).trans acts), ?_, ?_, ready, ?_, mbox, soReq, ?_, rings⟩
    · rw [cause]
      exact State.noteSource_bit _ (by decide) (by decide)
    · rw [cause, State.noteSource_reach]
      exact widest
    · rw [stage']
      exact if_pos stage
    · rw [vel]
      rfl
  · have widest : (s.withResetCtl v).widest 1 = 1 := State.widest_of_idle 1 stage sources
    have acts : (s.withResetCtl v).assert .ctlF = ((s.withResetCtl v).noteSource .ctlF).beginFlush .ctlF :=
      State.assert_flush rfl rfl flushing
    have noted : bits ((s.withResetCtl v).noteSource .ctlF).host.resetCause 25 24 = 1 := (State.noteSource_reach _ _).trans widest
    have cover : ((s.withResetCtl v).noteSource .ctlF).rst.coverF = false := by
      have none_ : ((s.withResetCtl v).noteSource .ctlF).rst.sources = [] := sources
      rw [Reset.coverF, none_]
      rfl
    obtain ⟨cause, goes⟩ := State.beginFlush_goes .ctlF cover noted
    refine ⟨_, congrArg Host.Outcome.next (((State.write_of_reaches _ reaches).trans
      (State.resetCtlWrite_ctlF key reach)).trans acts), ?_, ?_, goes⟩
    · rw [cause]
      exact State.noteSource_bit _ (by decide) (by decide)
    · rw [cause, noted]
  · have ignored : Host.Outcome.next (s.write p (State.resetCtlWrite p v)) = (.next s.accessErr : Host.Outcome State Fault Refusal) :=
      congrArg Host.Outcome.next ((State.write_of_reaches _ reaches).trans (State.resetCtlWrite_ignores bad))
    exact ⟨ignored, ignored, ignored⟩

end Sys2Proof
end

section
/-! PROOF. The device and session commands (R347, R348, R364 to R366); O4. -/

namespace Sys2Proof.Machine

open Sys2Proof Sys2Proof.Safety

/-! ### Commands without a target (R346, R359) -/

/-- A granted command without a target does its own part. -/
theorem devHdr_run {op len a : Nat} {ld : Bool} {own : MbCmd → State → Verdict} {m : MbCmd} {s : State} (hg : Granted op a m s)
    (ht : m.target = 0) (hl : m.length = BitVec.ofNat 16 len) (hlen : len < 65536) :
    (devHdr op len a ld).run own m s = (devHdr op len a ld).conclude m (s.takeOff op m) (own m (s.takeOff op m)) :=
  Hdr.run_granted' hg (lenIs_of hl hlen) (Hdr.targetOk_none ht rfl) fun _ => rfl

/-- So does one without authority that the loader serves too (R464). -/
theorem devHdr_run_loader {op len : Nat} {own : MbCmd → State → Verdict} {m : MbCmd} {s : State} (hT : Turn op m s)
    (ht : m.target = 0) (hl : m.length = BitVec.ofNat 16 len) (hlen : len < 65536) :
    (devHdr op len 0 true).run own m s = (devHdr op len 0 true).conclude m (s.takeOff op m) (own m (s.takeOff op m)) :=
  Hdr.run_loader hT rfl (fun _ => Nat.zero_le _) (lenIs_of hl hlen) (Hdr.targetOk_none ht rfl) fun _ => rfl

/-- A command without a target that is carried out answers RC_OK and STATE 0. -/
theorem devHdr_conclude_done {op len a : Nat} {ld : Bool} {m : MbCmd} (s t : State) (d : Nat) (p : Block) (ht : m.target = 0)
    (ho : op / 256 ≠ 9) :
    (devHdr op len a ld).conclude m s (.done t d p) = (t.passItems op m).respond m.mb (okAnswer m 0 d p) := by
  rw [Hdr.conclude_done, Hdr.stateCode_none ht ho]
  rfl

theorem devHdr_completes {op len a : Nat} {ld : Bool} {own : MbCmd → State → Verdict} {m : MbCmd} {s : State} {eff : State → State}
    {d : Nat} {p : Block} (hg : Granted op a m s) (ht : m.target = 0) (hl : m.length = BitVec.ofNat 16 len) (hlen : len < 65536)
    (ho : op / 256 ≠ 9) (done : own m (s.takeOff op m) = .done (eff (s.takeOff op m)) d p) :
    (devHdr op len a ld).run own m s = ((eff (s.takeOff op m)).passItems op m).respond m.mb (okAnswer m 0 d p) := by
  rw [devHdr_run hg ht hl hlen, done, devHdr_conclude_done _ _ _ _ ht ho]

/-! ### Sessions (R348, R365) -/

/-- The session of level `l` opens with the next identifier. -/
def State.withSession (m : MbCmd) (l : Nat) (s : State) : State :=
  (({ s with host := { s.host.setFails l 0 with sessions := s.host.sessions + 1 } } : State).updMb m.mb fun b =>
    { b with session := some (s.host.sessions + 1, authOfCode l) }).raise 0x0C07 INFO m.mb.val l

/-- SESSION_OPEN of a level without a password, with neither a password nor a new one given. -/
theorem State.sessionOpen_plain {m : MbCmd} {s : State} {l : Nat} (hp : m.params.getD 0 0 = BitVec.ofNat 32 l) (hl : l < 4)
    (pw : s.host.levelPw l = none) (lock : s.host.levelLock l = none) :
    s.sessionOpen m = .done (s.withSession m l) 0 [s.host.sessions + 1, w32 l] := by
  have word : wordAt m.params 0 = BitVec.ofNat 32 l := hp
  have free : NoReserved m [(0, 0xFFE0EE0C)] := by
    simp only [NoReserved, firstReserved, reservedSet, natAt, word]
    interval_cases l <;> decide
  have level : fieldAt m.params 0 1 0 = l := by
    rw [fieldAt, word]
    interval_cases l <;> decide
  have given : fieldAt m.params 0 8 4 = 0 := by
    rw [fieldAt, word]
    interval_cases l <;> decide
  have new : fieldAt m.params 0 20 16 = 0 := by
    rw [fieldAt, word]
    interval_cases l <;> decide
  have keeps : bitAt m.params 0 12 = false := by
    rw [bitAt, word]
    interval_cases l <;> decide
  simp [State.sessionOpen, reserved_none free, level, given, new, keeps, pw, lock, State.openSession, State.withSession]

/-! ### STANDBY (R366, R473) -/

/-- A response that is written leaves the Folio, the AON domain and the others of its mailbox. -/
theorem State.writeResponse_done {s : State} {k : Fin 8} {r : Response} {l : List Response} (done : (s.mbox k).done = r :: l)
    (room : diff16 (s.mbox k).rspTail (s.mbox k).rspHead < 32) :
    (s.writeResponse k).folio = s.folio ∧ (s.writeResponse k).rst = s.rst ∧ ((s.writeResponse k).mbox k).done = l := by
  have sent (t : State) : ∃ h f b, (if bit (s.mbox k).cfg 0 then t.sendResponse k r.words else t) = { t with
      host := h
      fab := f
      blot := b } := by
    split
    · unfold State.sendResponse
      dsimp only
      obtain ⟨f, b, e, -⟩ := State.sendUnicast_sendsOn (t.ownFrame tMAILBOX (BitVec.ofNat 16 (bits (t.mbox k).cfg 31 16)) true false
        (mailboxHead k 1 0 0 ++ r.words) 272) (t.mbox k).lastPort (t.updMb k fun b => { b with
          unacked := b.unacked ++ [{ slot := b.rspTail, fseq := t.fab.fseq, sends := 1, ended := false, at_ := t.now }] })
      rw [e]
      exact ⟨_, f, b, rfl⟩
    · exact ⟨t.host, t.fab, t.blot, rfl⟩
  have first (u : State) (v : Nat) (q : Bool) (hd : (u.mbox k).done = l) : (vget (u.host.irq v q).mb k).done = l := by
    rw [HostIf.irq_mb]
    exact hd
  unfold State.writeResponse
  dsimp only
  rw [done]
  dsimp only
  rw [if_neg (Nat.not_le.mpr room)]
  generalize memWriteBytes (rspSlot k (s.mbox k).rspTail) (blockBytes r.words) s.rings = rings
  obtain ⟨h, f, b, e⟩ := sent { s with rings := rings }
  rw [e]
  cases (s.mbox k).kept with
  | none => exact ⟨rfl, rfl, first _ _ _ (congrArg Mailbox.done (vget_vset_self _ _ _))⟩
  | some uid =>
    obtain ⟨q, b', e'⟩ := State.finish_onlyQuire uid (State.updMb k (fun b => { b with
      done := l
      kept := none
      rspTail := b.rspTail + 1 }) { s with
        rings := rings
        host := h
        fab := f
        blot := b })
    dsimp only
    rw [e']
    exact ⟨rfl, rfl, first _ _ _ (congrArg Mailbox.done (vget_vset_self _ _ _))⟩

theorem State.standbyBar_of_rest {s : State} (ch : ∀ n, (s.ch n).state.restful = true) (ax : ∀ a, (s.ax a).state = .disabled) :
    s.standbyBar = none := by
  have noChannel : allChannels.find? (fun n => !(s.ch n).state.restful) = none := by simp [ch]
  have noAxis : allAxes.find? (fun a => (s.ax a).state != .disabled) = none := by simp [ax]
  rw [State.standbyBar, noChannel]
  dsimp only
  rw [noAxis]

/-- With the one response of its mailbox, and room for it, the response is written before what waits for it takes place. -/
theorem State.respondFirst_writes {s : State} {k : Fin 8} {w : Restart} {r : Response} (restart : s.folio.restart = some w)
    (done : (s.mbox k).done = [r]) : s.respondFirst k = (s.writeResponse k).settleRestart := by
  rw [State.respondFirst, restart]
  dsimp only
  rw [done, List.length_singleton, State.writeResponses, done, if_neg (by simp), State.writeResponses]

theorem State.respondFirst_standby {s : State} {k : Fin 8} {r : Response} (restart : s.folio.restart = some (.standby k))
    (done : (s.mbox k).done = [r]) (room : diff16 (s.mbox k).rspTail (s.mbox k).rspHead < 32) :
    s.respondFirst k = (s.writeResponse k).enterStandby k := by
  obtain ⟨folio, -, left⟩ := State.writeResponse_done done room
  rw [State.respondFirst_writes restart done, State.settleRestart, folio, restart]
  dsimp only
  rw [left]
  exact if_pos rfl

/-- The STANDBY entry that waits for the response of its command. -/
def State.askStandby (k : Fin 8) (s : State) : State := { s with folio := { s.folio with restart := some (.standby k) } }

@[simp] theorem State.askStandby_mbox (k j : Fin 8) (s : State) : (s.askStandby k).mbox j = s.mbox j := rfl

theorem State.enterStandby_rst (k : Fin 8) (s : State) :
    (s.enterStandby k).rst.power = .standby ∧ (s.enterStandby k).rst.pwrReq = false ∧ (s.enterStandby k).rst.holdLow = true ∧
      (s.enterStandby k).rst.wakePending = false := ⟨rfl, rfl, rfl, rfl⟩

end Sys2Proof.Machine

namespace Sys2Proof

open Sys2Proof.Machine Sys2Proof.Safety

/-- Settles O4: the own part of each command. -/
theorem deviceCommandsComplete : Obligations.DeviceCommandsComplete := by
  refine ⟨fun m s turn target len => ?_, fun m s turn target len => ?_, fun m s l granted target len param level pw lock => ?_,
    fun m s granted target len => ?_, fun m s granted target len param service => ?_, fun m s granted target len param => ?_,
    fun m s granted target len ch ax done discard room => ?_⟩
  · exact congrArg Host.Outcome.next ((devHdr_run_loader turn target len (by decide)).trans (devHdr_conclude_done _ _ _ _ target (by decide)))
  · refine congrArg Host.Outcome.next ((devHdr_run_loader turn target len (by decide)).trans
      ((devHdr_conclude_done _ _ _ _ target (by decide)).trans ?_))
    simp [State.infoWords, Config.ident, Config.revision, Config.ifLevel]
  · have opens := State.sessionOpen_plain (s := s.takeOff 0x0102 m) param level (by simpa [HostIf.levelPw] using pw)
      (by simpa [HostIf.levelLock] using lock)
    rw [State.takeOff_host_sessions] at opens
    refine congrArg Host.Outcome.next ((devHdr_completes (eff := State.withSession m l) granted target len (by decide) (by decide) opens).trans ?_)
    simp only [State.withSession, State.takeOff_host_sessions]
    rfl
  · exact congrArg Host.Outcome.next (devHdr_completes
      (eff := fun t => t.updMb m.mb fun b => { b with session := none }) granted target len (by decide) (by decide) rfl)
  · refine congrArg Host.Outcome.next (devHdr_completes
      (eff := fun t => (t.setFolio { t.folio with service := true }).raise 0x0C0D NOTICE m.mb.val 1) granted target len (by decide)
      (by decide) ?_)
    have free : NoReserved m [(0, 0xFFFFFFFE)] := by rw [NoReserved, param]; decide
    have on : bitAt m.params 0 0 = true := by rw [param]; decide
    simp [State.modeSet, reserved_none free, on, service, b2n]
  · refine congrArg Host.Outcome.next (devHdr_completes (eff := id) granted target len (by decide) (by decide) ?_)
    have free : NoReserved m [(0, 0xFFFFFFFE)] := by
      rw [NoReserved, param]
      cases s.folio.service <;> decide
    have same : bitAt m.params 0 0 = s.folio.service := by
      rw [param]
      cases s.folio.service <;> decide
    simp [State.modeSet, reserved_none free, same]
  · have rests : ∀ n, (s.ch n).state.restful = true := fun n => by
      rcases ch n with h | h | h | h <;> simp [ChState.restful, h]
    have own : (s.takeOff 0x0105 m).devStandby m = .done ((s.takeOff 0x0105 m).askStandby m.mb) 0 [] := by
      rw [State.devStandby, State.standbyBar_of_rest (by simpa using rests) (by simpa using ax)]
      rfl
    have answers := devHdr_completes (ld := false) (own := fun m t => t.devStandby m) (eff := fun t => t.askStandby m.mb) granted target
      len (by decide) (by decide) own
    rw [State.respond_of_open _ (by simpa using discard)] at answers
    have enters := State.respondFirst_standby (s := (((s.takeOff 0x0105 m).askStandby m.mb).passItems 0x0105 m).updMb m.mb fun b =>
      { b with done := b.done ++ [okAnswer m 0 0 []] }) (k := m.mb) (r := okAnswer m 0 0 []) rfl
      (by simp [done]) (by simpa using room)
    refine ⟨_, congrArg Host.Outcome.next ((congrArg (State.respondFirst m.mb) answers).trans enters), State.enterStandby_rst _ _⟩

end Sys2Proof
end

section
/-! PROOF. OPT_SET (R369); O5. -/

namespace Sys2Proof.Machine

open Sys2Proof Sys2Proof.Safety

/-- A granted command without a target, of any length its opcode takes, that is carried out answers RC_OK and STATE 0. -/
theorem Hdr.run_none_done {h : Hdr} {own : MbCmd → State → Verdict} {m : MbCmd} {s : State} {eff : State → State} {d : Nat} {p : Block}
    (hg : Granted h.opcode (h.auth m) m s) (ht : m.target = 0) (hf : h.forms.contains 0 = true) (hl : h.lenOk m = true)
    (hi : ∀ t, h.items m t = 0) (ho : h.opcode / 256 ≠ 9)
    (done : own m (s.takeOff h.opcode m) = .done (eff (s.takeOff h.opcode m)) d p) :
    h.run own m s = ((eff (s.takeOff h.opcode m)).passItems h.opcode m).respond m.mb (okAnswer m 0 d p) := by
  rw [Hdr.run_granted' hg hl (Hdr.targetOk_none ht hf) hi, done, Hdr.conclude_done, Hdr.stateCode_none ht ho]
  rfl

/-! ### OPT_SET (R369) -/

@[simp] theorem State.takeOff_optRead (op : Nat) (m : MbCmd) (s : State) (o i : Nat) : (s.takeOff op m).optRead o i = s.optRead o i := by
  obtain ⟨_, _, _, h⟩ := s.takeOff_cases op m
  rw [h]; rfl

@[simp] theorem State.takeOff_optConflict (op : Nat) (m : MbCmd) (s : State) (o i v : Nat) :
    (s.takeOff op m).optConflict o i v = s.optConflict o i v := by
  obtain ⟨_, _, _, h⟩ := s.takeOff_cases op m
  rw [h]; rfl

theorem optNumber_in_range {o : Nat} (h1 : 1 ≤ o) (h6 : o ≤ 6) : (decide (o < 1) || decide (6 < o)) = false := by
  simp only [Bool.or_eq_false_iff, decide_eq_false_iff_not]
  omega

/-- An option that is written: its value, in one write of the OPTIONS region, and the event. -/
def State.setOption (m : MbCmd) (o i v : Nat) (s : State) : State :=
  ((s.optWrite o i v).persist 0 1).raise 0x0C0E INFO m.mb.val (o + 2 ^ 16 * i + 2 ^ 32 * (v % 2 ^ 32))

section OptSet

variable {m : MbCmd} {s : State} (free : NoReserved m [(0, 0x7FFF0000), (4, 0xFFFF0000)]) (h1 : 1 ≤ fieldAt m.params 0 15 0)
  (h6 : fieldAt m.params 0 15 0 ≤ 6) (index : optIndexOk (fieldAt m.params 0 15 0) (fieldAt m.params 4 15 0) = true)
include free h1 h6 index

theorem State.optSet_reads (read : bitAt m.params 0 31 = true) :
    s.optSet m = .done s 0 (words64 (s.optRead (fieldAt m.params 0 15 0) (fieldAt m.params 4 15 0))) := by
  unfold State.optSet
  dsimp only
  rw [reserved_none free, optNumber_in_range h1 h6, index, read]
  rfl

theorem State.optSet_sets (write : bitAt m.params 0 31 = false) (value : optValueOk (fieldAt m.params 0 15 0) (natAt64 m.params 8) = true)
    (conflict : s.optConflict (fieldAt m.params 0 15 0) (fieldAt m.params 4 15 0) (natAt64 m.params 8) = none)
    (good : s.vel.failed.contains 0 = false) :
    s.optSet m = .done (s.setOption m (fieldAt m.params 0 15 0) (fieldAt m.params 4 15 0) (natAt64 m.params 8)) 0
      (words64 (s.optRead (fieldAt m.params 0 15 0) (fieldAt m.params 4 15 0))) := by
  unfold State.optSet
  dsimp only
  rw [reserved_none free, optNumber_in_range h1 h6, index, write, value, conflict, good]
  rfl

end OptSet

end Sys2Proof.Machine

namespace Sys2Proof

open Sys2Proof.Machine Sys2Proof.Safety

/-- Settles O5: READ answers, and a value that passes is written. -/
theorem optSetCompletes : Obligations.OptSetCompletes := by
  refine ⟨fun m s granted target len free read h1 h6 index => ?_,
    fun m s o i v granted target len free write number at_ value h1 h6 index range conflict good => ?_⟩
  · have own := State.optSet_reads (s := s.takeOff 0x0C04 m) free h1 h6 index read
    rw [State.takeOff_optRead] at own
    refine congrArg Host.Outcome.next (Hdr.run_none_done (eff := id) ?_ target rfl (lenIs_of len (by decide)) (fun _ => rfl)
      (by decide) own)
    simpa only [read, if_true] using granted
  · subst number at_ value
    have own := State.optSet_sets (s := s.takeOff 0x0C04 m) free h1 h6 index write range (by simpa using conflict) (by simpa using good)
    rw [State.takeOff_optRead] at own
    refine congrArg Host.Outcome.next (Hdr.run_none_done
      (eff := State.setOption m (fieldAt m.params 0 15 0) (fieldAt m.params 4 15 0) (natAt64 m.params 8)) ?_ target rfl
      (lenIs_of len (by decide)) (fun _ => rfl) (by decide) own)
    simpa only [write, Bool.false_eq_true, if_false] using granted

end Sys2Proof
end

section
/-! PROOF. The commands of the Blotter (R370, R434, R439, R441); O7. -/

namespace Sys2Proof.Machine

open Sys2Proof Sys2Proof.Safety

/-! ### The Blotter's commands (R370, R434, R439, R441) -/

@[simp] theorem State.takeOff_oldestKept (op : Nat) (m : MbCmd) (s : State) : (s.takeOff op m).oldestKept = s.oldestKept := by
  obtain ⟨_, _, _, h⟩ := s.takeOff_cases op m
  rw [h]; rfl

@[simp] theorem State.takeOff_nextSeq (op : Nat) (m : MbCmd) (s : State) : (s.takeOff op m).blot.nextSeq = s.blot.nextSeq := by
  obtain ⟨_, _, _, h⟩ := s.takeOff_cases op m
  rw [h]; rfl

/-- A write of the Vellum wears its row and leaves the retained range (R430, R439). -/
theorem State.persist_oldestKept (region k : Nat) (s : State) : (s.persist region k).oldestKept = s.oldestKept := by
  have retires : ∀ row cause (u : State), (u.retireRow row cause).oldestKept = u.oldestKept := fun row cause u => by
    unfold State.retireRow
    split <;> rfl
  unfold State.persist State.wearRow
  dsimp only
  split
  · rw [retires]; split <;> rfl
  · split <;> rfl

/-- The retained mark moves to `q`, in one write of the Vellum. -/
def State.moveMark (q : Nat) (s : State) : State := ({ s with vel := { s.vel with mark := some q } } : State).persist 0 1

theorem State.moveMark_oldestKept (q : Nat) (s : State) :
    (s.moveMark q).oldestKept = ({ s with vel := { s.vel with mark := some q } } : State).oldestKept :=
  State.persist_oldestKept _ _ _

/-- The limiter of code `c` has a new limit (R441). -/
def State.limitCode (c rate burst : Nat) (s : State) : State :=
  { s with blot := s.blot.setLimiter ((s.blot.limiter (BitVec.ofNat 16 c) s.now).limit rate burst s.now) }

section EvtConfig

variable {m : MbCmd} {s : State} (free : NoReserved m [(0, 0xFFFC0000)])
include free

theorem State.evtConfig_flushes (flush : bitAt m.params 0 16 = true) :
    s.evtConfig m = .done ({ s with blot := { s.blot with flushTold := some m.mb.val } } : State).flushBlotter 0 [] := by
  unfold State.evtConfig
  dsimp only
  rw [reserved_none free, flush]
  rfl

variable (keep : bitAt m.params 0 16 = false) (code : eventDefined (fieldAt m.params 0 15 0) = true)
include keep code

theorem State.evtConfig_default (default_ : bitAt m.params 0 17 = true) :
    s.evtConfig m = .done (s.limitCode (fieldAt m.params 0 15 0) 10 32) 0 [] := by
  unfold State.evtConfig
  dsimp only
  rw [reserved_none free, keep, code, default_]
  rfl

theorem State.evtConfig_limits (given : bitAt m.params 0 17 = false) (r1 : 1 ≤ fieldAt m.params 4 15 0)
    (r2 : fieldAt m.params 4 15 0 ≤ 1000) (b1 : 1 ≤ fieldAt m.params 4 31 16) (b2 : fieldAt m.params 4 31 16 ≤ 1024) :
    s.evtConfig m = .done (s.limitCode (fieldAt m.params 0 15 0) (fieldAt m.params 4 15 0) (fieldAt m.params 4 31 16)) 0 [] := by
  have range : (decide (fieldAt m.params 4 31 16 < 1) || decide (1024 < fieldAt m.params 4 31 16) || decide (fieldAt m.params 4 15 0 < 1) ||
      decide (1000 < fieldAt m.params 4 15 0)) = false := by
    simp only [Bool.or_eq_false_iff, decide_eq_false_iff_not]
    omega
  unfold State.evtConfig
  dsimp only
  rw [reserved_none free, keep, code, given, range]
  rfl

end EvtConfig

/-- EVT_CLEAR of a mark ahead of the oldest retained entry, and before the next SEQ. -/
theorem State.evtClear_moves {m : MbCmd} {s : State} (fits : natAt m.params 0 + 1 < 2 ^ 32)
    (written : seqLe s.blot.nextSeq (natAt m.params 0 + 1) = false) (ahead : seqLe (natAt m.params 0 + 1) s.oldestKept = false) :
    s.evtClear m = .done ((s.moveMark (natAt m.params 0 + 1)).raise 0x0F02 INFO m.mb.val
        (s.vel.mark.getD s.oldestKept + 2 ^ 32 * (natAt m.params 0 + 1))) 0
      [w32 ({ s with vel := { s.vel with mark := some (natAt m.params 0 + 1) } } : State).oldestKept] := by
  rw [← State.moveMark_oldestKept]
  unfold State.evtClear State.moveMark
  dsimp only
  rw [Nat.mod_eq_of_lt fits, written, if_neg Bool.false_ne_true, ahead]
  rfl

theorem State.flushBlotter_persists (s : State) : ∀ e ∈ s.flushBlotter.blot.buffer, e.persisted = true := by
  have marked (l : List Entry) : ∀ e ∈ l.map (fun e => { e with persisted := true }), e.persisted = true := fun e he => by
    obtain ⟨_, _, rfl⟩ := List.mem_map.mp he
    rfl
  unfold State.flushBlotter
  dsimp only
  split <;> exact marked _

end Sys2Proof.Machine

namespace Sys2Proof

open Sys2Proof.Machine Sys2Proof.Safety

/-- Settles O7: the forms of EVT_CONFIG, and a mark that moves. -/
theorem blotterCommandsComplete : Obligations.BlotterCommandsComplete := by
  refine ⟨fun m s code rate burst granted target len free keep given hc hr hb defined r1 r2 b1 b2 => ?_,
    fun m s code granted target len free keep default_ hc defined => ?_, fun m s granted target len free flush => ?_,
    State.flushBlotter_persists, fun m s up granted target len hup fits written ahead => ?_⟩
  · subst hc hr hb
    exact congrArg Host.Outcome.next (devHdr_completes
      (eff := State.limitCode (fieldAt m.params 0 15 0) (fieldAt m.params 4 15 0) (fieldAt m.params 4 31 16))
      granted target len (by decide) (by decide) (State.evtConfig_limits free keep defined given r1 r2 b1 b2))
  · subst hc
    exact congrArg Host.Outcome.next (devHdr_completes
      (eff := State.limitCode (fieldAt m.params 0 15 0) 10 32)
      granted target len (by decide) (by decide) (State.evtConfig_default free keep defined default_))
  · exact congrArg Host.Outcome.next (devHdr_completes
      (eff := fun t => ({ t with blot := { t.blot with flushTold := some m.mb.val } } : State).flushBlotter)
      granted target len (by decide) (by decide) (State.evtConfig_flushes free flush))
  · subst hup
    have own := State.evtClear_moves (s := s.takeOff 0x0D02 m) fits (by simpa using written) (by simpa using ahead)
    have kept : ({ s.takeOff 0x0D02 m with vel := { (s.takeOff 0x0D02 m).vel with mark := some (natAt m.params 0 + 1) } } : State).oldestKept =
        ({ s with vel := { s.vel with mark := some (natAt m.params 0 + 1) } } : State).oldestKept := by
      obtain ⟨_, _, _, h⟩ := s.takeOff_cases 0x0D02 m
      rw [h]; rfl
    rw [kept] at own
    exact congrArg Host.Outcome.next (devHdr_completes
      (eff := fun t => (t.moveMark (natAt m.params 0 + 1)).raise 0x0F02 INFO m.mb.val
        (t.vel.mark.getD t.oldestKept + 2 ^ 32 * (natAt m.params 0 + 1)))
      granted target len (by decide) (by decide) own)

end Sys2Proof
end

section
/-! PROOF. Maintenance (R362, R371, R465); O8. -/

namespace Sys2Proof.Machine

open Sys2Proof Sys2Proof.Safety

/-! ### Maintenance (R362, R371, R465) -/

@[simp] theorem State.takeOff_spareWords (op : Nat) (m : MbCmd) (s : State) : (s.takeOff op m).spareWords = s.spareWords := by
  obtain ⟨_, _, _, h⟩ := s.takeOff_cases op m
  rw [h]; rfl

@[simp] theorem State.takeOff_wearWords (op : Nat) (m : MbCmd) (s : State) : (s.takeOff op m).wearWords = s.wearWords := by
  obtain ⟨_, _, _, h⟩ := s.takeOff_cases op m
  rw [h]; rfl

@[simp] theorem State.takeOff_idleSpare (op : Nat) (m : MbCmd) (s : State) (k : Fin 20) : (s.takeOff op m).idleSpare k = s.idleSpare k := by
  obtain ⟨_, _, _, h⟩ := s.takeOff_cases op m
  rw [h]; rfl

theorem State.idleSpare_iff {s : State} {k : Fin 20} : s.idleSpare k = true ↔
    (s.nibOf k).role = .spare ∧ (∀ t ∈ s.nibs.takeovers, t.spare ≠ k) ∧ ∀ h ∈ s.nibs.handovers, h.nib ≠ k := by
  simp [State.idleSpare, and_assoc]

/-- The retirement of an idle spare interrupts no takeover and no handover. -/
theorem State.retireByCommand_idle {m : MbCmd} {k : Fin 20} {s : State} (idle : s.idleSpare k = true) :
    s.retireByCommand m k = .done (s.retireNib k ((Config.unstated 92).toNat % 2)) 0 [] := by
  obtain ⟨spare, takes, hands⟩ := State.idleSpare_iff.mp idle
  have noTake : s.nibs.takeovers.find? (fun t => t.spare == k) = none := by simpa using takes
  have noHand : (s.retireNib k ((Config.unstated 92).toNat % 2)).nibs.handovers.find? (fun h => h.nib == k) = none := by
    simpa [State.retireNib, State.updNib] using hands
  simp only [State.retireByCommand, spare, noTake, State.abandonHandover, noHand]

theorem spIndex_ofNat {m : MbCmd} {k : Fin 20} (h : spIndex m = k.val) : Fin.ofNat 20 (spIndex m) = k := by
  rw [h]
  exact Fin.ofNat_val_eq_self k

section SpareRetire

variable {m : MbCmd} {s : State} (free : NoReserved m [(0, 0xFF0000FC)])
include free

theorem State.spareRetire_nib {k : Fin 20} (kind : spKind m = 1) (index : spIndex m = k.val) :
    s.spareRetire m = s.retireByCommand m k := by
  have bound : spIndex m < 20 := index ▸ k.isLt
  simp [-Fin.ofNat_eq_cast, State.spareRetire, reserved_none free, kind, bound, spIndex_ofNat index]

theorem State.spareRetire_converter {f : Fin 4} (kind : spKind m = 2) (low : 136 ≤ spIndex m) (high : spIndex m < 140)
    (die : spDie m = f.val) (unused : (s.dieOf f).steered.all (fun e => e.2.1 != spIndex m) = true) :
    s.spareRetire m = .done (s.updDie f fun d => { d with spares := d.spares.filter fun x => x != spIndex m }) 0 [] := by
  have carries : (s.dieOf f).steered.any (fun e => e.2.1 == spIndex m) = false := by
    simpa only [List.any_eq_not_all_not, Bool.not_eq_false', bne] using unused
  have isDie : Fin.ofNat 4 (spDie m) = f := by rw [die]; exact Fin.ofNat_val_eq_self f
  have bound : spDie m < 4 := die ▸ f.isLt
  unfold State.spareRetire
  rw [reserved_none free, kind]
  simp [-Fin.ofNat_eq_cast, low, high, bound, isDie, State.retireConv, carries]

/-- The cold spare core is retired; the three others keep the vote. -/
theorem State.spareRetire_coldCore (kind : spKind m = 3) (index : spIndex m = 3) (cores : s.folio.cores = [.vote, .vote, .vote, .spare]) :
    ∃ t, s.spareRetire m = .done t 0 [] ∧ t.folio.cores = [.vote, .vote, .vote, .retired] := by
  unfold State.spareRetire
  rw [reserved_none free, kind, index]
  simp [State.retireCore, cores, setCore]

end SpareRetire

/-- SELFTEST in SERVICE mode of an idle spare Nib, with no other self-test. -/
theorem State.selftest_nib {m : MbCmd} {s : State} {k : Fin 20} (free : NoReserved m [(0, 0xFF0000FC)]) (kind : spKind m = 1)
    (index : spIndex m = k.val) (service : s.folio.service = true) (idle : s.idleSpare k = true) (none_ : s.folio.selftests = []) :
    s.selftest m = s.startSelftest m := by
  have bound : ¬ 20 ≤ spIndex m := by have := k.isLt; omega
  simp [-Fin.ofNat_eq_cast, State.selftest, reserved_none free, kind, bound, spIndex_ofNat index, service, idle, none_]

/-! ### The end of a self-test (R371) -/

theorem State.testFault_of_not {x : SelfTest} {s : State} (h : x.kind ≠ 1 ∨ s.nibRetires (Fin.ofNat 20 x.index) = false) :
    s.testFault x = s := by
  rw [State.testFault]
  refine if_neg ?_
  rcases h with h | h <;> simp [-Fin.ofNat_eq_cast, h]

theorem State.testFault_of_second {x : SelfTest} {s : State} {k : Fin 20} (kind : x.kind = 1) (index : x.index = k.val)
    (second_ : s.nibRetires k = true) (spare : (s.nibOf k).role = .spare) : s.testFault x = s.retireNib k 1 := by
  have isNib : Fin.ofNat 20 x.index = k := by rw [index]; exact Fin.ofNat_val_eq_self k
  simp [-Fin.ofNat_eq_cast, State.testFault, kind, isNib, second_, spare]

/-- The oldest self-test is answered: it leaves the list. -/
theorem State.answerSelftest_oldest {x : SelfTest} {l : List SelfTest} {s : State} (status detail : Nat) (p : Block)
    (tests : s.folio.selftests = x :: l) :
    s.answerSelftest status detail p x = ({ s with folio := { s.folio with selftests := l } } : State).respondHeld x.mb
      { tag := x.tag, quiet := x.quiet, status := BitVec.ofNat 16 status, state := 0, detail := w32 detail, payload := p } := by
  have oldest : eraseFirst (fun y => y == x) s.folio.selftests = l := by rw [tests, eraseFirst, if_pos (beq_self_eq_true x)]
  rw [State.answerSelftest, oldest]

theorem exec_selftestDone {x : SelfTest} {l : List SelfTest} {s : State} (pass : Bool) (duration code : Word)
    (tests : s.folio.selftests = x :: l) :
    exec (.selftestDone pass duration code) s =
      .next ((if pass then s else s.testFault x).answerSelftest RC_OK 0 [w32 (b2n pass), duration, if pass then 0 else code] x) := by
  show execSelftestDone pass duration code s = _
  rw [execSelftestDone, tests]

theorem exec_selftestDone_failed {x : SelfTest} {l : List SelfTest} {s : State} (duration code : Word)
    (tests : s.folio.selftests = x :: l) :
    exec (.selftestDone false duration code) s = .next ((s.testFault x).answerSelftest RC_OK 0 [w32 (b2n false), duration, code] x) :=
  exec_selftestDone false duration code tests

/-- The answer of a self-test leaves all but the mailboxes, the Quire, the stroke unit and the events. -/
theorem State.answerSelftest_leaves {x : SelfTest} {l : List SelfTest} {s : State} (status detail : Nat) (p : Block)
    (tests : s.folio.selftests = x :: l) :
    let t := s.answerSelftest status detail p x
    t.nibs = s.nibs ∧ t.folio.selftests = l ∧ t.chan = s.chan ∧ Reports s t := by
  intro t
  have answered : t = _ := State.answerSelftest_oldest status detail p tests
  obtain ⟨ax, q, b, mb, e, -⟩ := State.respondHeld_onlyAnswers x.mb
    { tag := x.tag, quiet := x.quiet, status := BitVec.ofNat 16 status, state := 0, detail := w32 detail, payload := p }
    ({ s with folio := { s.folio with selftests := l } } : State)
  refine ⟨?_, ?_, ?_, answered ▸ State.respondHeld_reports x.mb _ ({ s with folio := { s.folio with selftests := l } } : State)⟩ <;>
    rw [answered, e]

theorem execWatchdogRestart_votes {s : State} (h : 2 ≤ s.folio.voters.length) :
    execWatchdogRestart s = .next { s with folio := { s.folio with watchdog := s.now } } :=
  congrArg _ (if_neg (by omega))

end Sys2Proof.Machine

namespace Sys2Proof

open Sys2Proof.Machine Sys2Proof.Safety

/-- Settles O8: the own part of each command, and the end of a self-test. -/
theorem maintenanceCommandsComplete : Obligations.MaintenanceCommandsComplete := by
  refine ⟨fun m s granted target len => ?_, fun m s granted target len => ?_,
    fun m s k granted target len free kind index idle => ?_,
    fun m s f c granted target len low high free kind index die unused => ?_,
    fun m s granted target len free kind index cores code => ?_,
    fun m s k granted target len free kind index service idle none_ => ?_,
    fun s x l pass duration code tests working open_ keeps => ?_, fun s x l duration code k tests kind index second_ spare => ?_,
    fun s none_ pass duration code => ?_, fun s few => congrArg Host.Outcome.next (if_pos few), fun s votes => execWatchdogRestart_votes votes⟩
  · rw [← State.takeOff_spareWords 0x0E01 m s]
    exact congrArg Host.Outcome.next (devHdr_completes (eff := id) granted target len (by decide) (by decide) rfl)
  · rw [← State.takeOff_wearWords 0x0E04 m s]
    exact congrArg Host.Outcome.next (devHdr_completes (eff := id) granted target len (by decide) (by decide) rfl)
  · exact congrArg Host.Outcome.next (devHdr_completes (eff := State.retireNib k ((Config.unstated 92).toNat % 2)) granted target len
      (by decide) (by decide)
      ((State.spareRetire_nib free kind index).trans (State.retireByCommand_idle (by simpa using idle))))
  · subst index
    exact congrArg Host.Outcome.next (devHdr_completes
      (eff := fun t => t.updDie f fun d => { d with spares := d.spares.filter fun x => x != spIndex m }) granted target len
      (by decide) (by decide) (State.spareRetire_converter free kind low high die (by simpa using unused)))
  · obtain ⟨t, own, left⟩ := State.spareRetire_coldCore (s := s.takeOff 0x0E02 m) free kind index (by simpa using cores)
    have answers := devHdr_completes (own := fun m t => t.spareRetire m) (ld := false) (eff := fun _ => t) granted target len (by decide)
      (by decide) own
    exact ⟨_, congrArg Host.Outcome.next answers, by simpa using left⟩
  · have own := State.selftest_nib (s := s.takeOff 0x0E03 m) free kind index (by simpa using service) (by simpa using idle)
      (by simpa using none_)
    refine congrArg Host.Outcome.next ((devHdr_run granted target len (by decide)).trans ?_)
    rw [own, State.startSelftest, Hdr.conclude_hold, kind, index]
    simp [none_]
  · have same : (if pass = true then s else s.testFault x) = s := by
      cases pass with
      | true => rfl
      | false => exact State.testFault_of_not (keeps.resolve_left Bool.false_ne_true)
    rw [exec_selftestDone pass duration code tests, same, State.answerSelftest_oldest _ _ _ tests, State.respondHeld_of_open (s := { s with folio := { s.folio with selftests := l } }) _ working open_]
    rfl
  · refine ⟨_, exec_selftestDone_failed duration code tests, ?_⟩
    rw [State.testFault_of_second kind index second_ spare]
    obtain ⟨nibs, left, chan, told⟩ := State.answerSelftest_leaves (s := s.retireNib k 1) RC_OK 0 [w32 (b2n false), duration, code] tests
    refine ⟨?_, told.mem (by simp [State.retireNib, State.event]), left, chan⟩
    rw [State.nibOf, nibs]
    exact State.retireNib_nibOf k 1 s
  · show execSelftestDone pass duration code s = _
    rw [execSelftestDone, none_]

end Sys2Proof
end

section
/-! PROOF. Firmware (R374, R463, R464); O9. -/

namespace Sys2Proof.Machine

open Sys2Proof Sys2Proof.Safety

/-! ### Firmware (R374, R463, R464) -/

/-- A command without a target that the loader serves too is carried out. -/
theorem Hdr.run_loader_done {h : Hdr} {own : MbCmd → State → Verdict} {m : MbCmd} {s : State} {eff : State → State} {d : Nat} {p : Block}
    (turn : Turn h.opcode m s) (hL : h.loader = true) (ha : s.folio.loader = none → h.auth m ≤ (s.mbox m.mb).authority)
    (ht : m.target = 0) (hf : h.forms.contains 0 = true) (hl : h.lenOk m = true) (hi : ∀ t, h.items m t = 0) (ho : h.opcode / 256 ≠ 9)
    (done : own m (s.takeOff h.opcode m) = .done (eff (s.takeOff h.opcode m)) d p) :
    h.run own m s = ((eff (s.takeOff h.opcode m)).passItems h.opcode m).respond m.mb (okAnswer m 0 d p) := by
  rw [Hdr.run_loader turn hL ha hl (Hdr.targetOk_none ht hf) hi, done, Hdr.conclude_done, Hdr.stateCode_none ht ho]
  rfl

/-- What stays staged of an image of `total` bytes: the words outside the chunk, none of an image of another length. -/
def Folio.keptStaged (total off n : Nat) (f : Folio) : List (Nat × Word) :=
  (match f.staged with
    | some (u, l) => if u = total then l else []
    | none => []).filter fun e => !(decide (off ≤ e.1) && decide (e.1 < off + n))

/-- A chunk of `n` words joins the staged image. -/
def State.stageChunk (m : MbCmd) (total off n : Nat) (s : State) : State := { s with
  folio := { s.folio with
    staged := some (total, s.folio.keptStaged total off n ++ (List.range n).map fun i => (off + i, wordAt m.params (0x10 + 4 * i))) } }

theorem fieldAt_low_of_natAt {p : Block} {off v : Nat} (h : natAt p off = v) (hv : v < 256) : fieldAt p off 7 0 = v := by
  rw [fieldAt, bits, show (wordAt p off).toNat = v from h]
  simp only [pow_zero, Nat.div_one]
  exact Nat.mod_eq_of_lt hv

theorem reservedSet_high_of_natAt {p : Block} {off v : Nat} (h : natAt p off = v) (hv : v < 256) : reservedSet p off 0xFFFFFF00 = false := by
  rw [reservedSet, h]
  interval_cases v <;> decide

theorem State.fwStage_chunk {m : MbCmd} {s : State} {off n total : Nat} (n1 : 1 ≤ n) (n56 : n ≤ 56) (offset : natAt m.params 0 = 4 * off)
    (count : natAt m.params 4 = 4 * n) (length : natAt m.params 8 = total) (zero : natAt m.params 0xC = 0) (t4 : 4 ≤ total)
    (tmax : total ≤ 8388608) (inside : 4 * off + 4 * n ≤ total) (one : ∀ u l, s.folio.staged = some (u, l) → u = total ∨ off = 0) :
    s.fwStage m = .done (s.stageChunk m total off n) 0 [] := by
  have small : 4 * n < 256 := by omega
  have free : NoReserved m [(4, 0xFFFFFF00), (0xC, 0xFFFFFFFF)] := by
    have last : reservedSet m.params 0xC 0xFFFFFFFF = false := by rw [reservedSet, zero]; rfl
    simp only [NoReserved, firstReserved, reservedSet_high_of_natAt count small, last, Bool.false_eq_true, if_false]
  unfold State.fwStage
  dsimp only
  rw [reserved_none free, fieldAt_low_of_natAt count small, offset, length, if_neg (by omega), if_neg (by omega),
    if_neg (by simp; omega), if_neg (by omega), Nat.mul_div_cancel_left off (by decide), Nat.mul_div_cancel_left n (by decide)]
  unfold State.stageChunk Folio.keptStaged
  cases staged : s.folio.staged with
  | none => rfl
  | some e =>
    obtain ⟨u, l⟩ := e
    have clash : ((u != total) && 4 * off != 0) = false := by
      rcases one u l staged with h | h <;> simp [h]
    exact if_neg (ne_true_of_eq_false clash)

/-- A staged image that passes its checks is to be activated. -/
def State.askImage (k : Fin 8) (crc : Word) (s : State) : State :=
  { s with folio := { s.folio with restart := some (.image k crc false) } }

theorem State.fwActivate_passes {m : MbCmd} {s : State} {b : Block} (params : m.params = [crcBlock b, 0]) (image : s.folio.image = some b)
    (header : imageHeaderOk b = true) (body : imageBodyOk b = true) (signature : Config.signatureOk b = true) :
    s.fwActivate m = .done (s.askImage m.mb (crcBlock b)) 0 [] := by
  have crc : wordAt m.params 0 = crcBlock b := by rw [params]; rfl
  have flags : wordAt m.params 4 = 0 := by rw [params]; rfl
  have free : NoReserved m [(4, 0xFFFFFFFE)] := by
    simp only [NoReserved, firstReserved, reservedSet, natAt, flags]
    rfl
  have ram : bitAt m.params 4 0 = false := by rw [bitAt, flags]; rfl
  unfold State.fwActivate
  dsimp only
  rw [reserved_none free, image, crc, ram]
  simp [header, body, signature, State.askImage]

theorem State.irq_unless_folio (c : Prop) [Decidable c] (v : Nat) (t : State) : (if c then t else t.irq v).folio = t.folio := by
  split <;> rfl

theorem State.reachC_staged (s : State) : s.reachC.folio.staged = none := by
  unfold State.reachC
  exact congrArg Folio.staged (State.irq_unless_folio _ _ _)

/-- The one response of its mailbox, with room for it, is written, and the Folio restarts into the image. -/
theorem State.respond_respondFirst_image {s : State} {k : Fin 8} {crc : Word} {flash : Bool} (r : Response)
    (restart : s.folio.restart = some (.image k crc flash)) (none_ : (s.mbox k).done = []) (open_ : (s.mbox k).discard = 0)
    (room : diff16 (s.mbox k).rspTail (s.mbox k).rspHead < 32) :
    ∃ u : State, (s.respond k r).respondFirst k = u.restartImage k crc flash ∧ u.rst = s.rst := by
  rw [State.respond_of_open r open_]
  have restart' : (s.updMb k fun b => { b with done := b.done ++ [r] }).folio.restart = some (.image k crc flash) := restart
  have done : ((s.updMb k fun b => { b with done := b.done ++ [r] }).mbox k).done = [r] := by simp [none_]
  obtain ⟨folio, rst, left⟩ := State.writeResponse_done done (by simpa using room)
  refine ⟨_, ?_, rst⟩
  rw [State.respondFirst_writes restart' done, State.settleRestart, folio, restart']
  dsimp only
  rw [left]
  exact if_pos rfl

/-- The restart into an image is a reset of reach C, told by 0x0C0B. -/
theorem State.restartImage_spec {s : State} (k : Fin 8) (crc : Word) (stage : s.rst.stage = 12) (sources : s.rst.sources = []) :
    let t := s.restartImage k crc false
    bits t.host.resetCause 25 24 = 2 ∧ t.folio.mbReady = false ∧ t.folio.staged = none ∧ t.rst.stage = 11 ∧
      ∃ u, t.blot.raised = u ++ [t.event 0x0C0B NOTICE k.val crc.toNat] := by
  have restarted := (s.cause 0 2).reachC_restarts
  refine ⟨?_, restarted.mbReady, State.reachC_staged _, restarted.stage.trans (if_pos stage), _, rfl⟩
  exact (congrArg (bits · 25 24) restarted.cause).trans
    ((s.cause_reach (by decide) (by decide)).trans (State.widest_of_idle 2 stage sources))

end Sys2Proof.Machine

namespace Sys2Proof

open Sys2Proof.Machine Sys2Proof.Safety

/-- Settles O9: a chunk joins the image, and the Folio restarts into one that passes. -/
theorem firmwareCommandsComplete : Obligations.FirmwareCommandsComplete := by
  refine ⟨fun m s off n total turn authority target len n1 n56 offset count length zero t4 tmax inside one => ?_,
    fun m s b turn authority target len params image header body signature done discard room stage power sources => ?_⟩
  · have chunk : stageLenOk m = true := by
      have field := fieldAt_low_of_natAt count (by omega)
      have given : m.length.toNat = 32 + 4 * n := by rw [len, BitVec.toNat_ofNat]; omega
      simp only [stageLenOk, field, given, beq_self_eq_true, Bool.and_true, Bool.and_eq_true, decide_eq_true_eq]
      omega
    have own := State.fwStage_chunk (s := s.takeOff 0x0F01 m) n1 n56 offset count length zero t4 tmax inside (by simpa using one)
    exact congrArg Host.Outcome.next (Hdr.run_loader_done (eff := State.stageChunk m total off n) turn rfl authority target rfl chunk
      (fun _ => rfl) (by decide) own)
  · have own := State.fwActivate_passes (s := s.takeOff 0x0F02 m) params (by simpa using image) header body signature
    have answers := Hdr.run_loader_done (h := devHdr 0x0F02 24 2 true) (own := fun m t => t.fwActivate m)
      (eff := State.askImage m.mb (crcBlock b)) turn rfl authority target rfl (lenIs_of len (by decide)) (fun _ => rfl) (by decide) own
    have opened : diff16 ((s.takeOff 0x0F02 m).mbox m.mb).rspTail ((s.takeOff 0x0F02 m).mbox m.mb).rspHead < 32 := by simpa using room
    obtain ⟨u, enters, aon⟩ := State.respond_respondFirst_image (s := ((s.takeOff 0x0F02 m).askImage m.mb (crcBlock b)).passItems 0x0F02 m)
      (okAnswer m 0 0 []) rfl ((State.takeOff_mb_done ..).trans done) ((State.takeOff_mb_discard ..).trans discard)
      opened
    have aon' : u.rst = s.rst := aon.trans (State.takeOff_rst ..)
    exact ⟨_, congrArg Host.Outcome.next ((congrArg (State.respondFirst m.mb) answers).trans enters),
      State.restartImage_spec _ _ (aon' ▸ stage) (aon' ▸ sources)⟩

end Sys2Proof
end

section
/-! PROOF. The drive commands (R59, R64 to R68, R89, R157, R196, R363, R368); O26. -/

namespace Sys2Proof.Machine

open Sys2Proof Sys2Proof.Safety

/-! ### Commands to a channel (R359, R363) -/

/-- A granted command to a channel that is carried out answers RC_OK and the state that it leaves. -/
theorem chanHdr_completes {op len a : Nat} {f : Fin 256 → State → Verdict} {m : MbCmd} {s t : State} {n : Fin 256} {d : Nat} {p : Block}
    (hg : Granted op a m s) (ht : m.target = chTarget n) (hl : m.length = BitVec.ofNat 16 len) (hlen : len < 65536) (ho : op / 256 ≠ 9)
    (done : f n (s.takeOff op m) = .done t d p) :
    (chanHdr op len a).run (chanVerdict f) m s =
      (t.passItems op m).respond m.mb (okAnswer m (t.ch n).state.code d p) := by
  rw [chanHdr_run hg ht hl hlen, done, Hdr.conclude_done, chanHdr_stateCode _ ht ho]
  rfl

/-- So does one that has a group form too (R363). -/
theorem Hdr.run_channel_done {h : Hdr} {f : Fin 256 → State → Option (Nat × Nat) × State} {m : MbCmd} {s t : State} {n : Fin 256}
    (hg : Granted h.opcode (h.auth m) m s) (ht : m.target = chTarget n) (hl : h.lenOk m = true) (hf : h.forms.contains 1 = true)
    (hi : ∀ t, h.items m t = 0) (ho : h.opcode / 256 ≠ 9) (done : f n (s.takeOff h.opcode m) = (none, t)) :
    h.run (maskVerdict f) m s = (t.passItems h.opcode m).respond m.mb (okAnswer m (t.ch n).state.code 0 []) := by
  have verdict : maskVerdict f m (s.takeOff h.opcode m) = .done t 0 [] := by simp only [maskVerdict, ht, tgtOf_chTarget, done]
  rw [Hdr.run_granted' hg hl (Hdr.targetOk_ch ht hf) hi, verdict, Hdr.conclude_done, Hdr.stateCode_ch ht ho hf]
  rfl

/-- The TARGET of a group mask (R359). -/
theorem groupTarget_form {g : Nat} (h : g < 65536) :
    bits (BitVec.ofNat 32 (0x20000000 + g)) 31 28 = 2 ∧ bits (BitVec.ofNat 32 (0x20000000 + g)) 27 0 = g := by
  simp only [bits, BitVec.toNat_ofNat]
  omega

theorem tgtOf_groupTarget {g : Nat} (h0 : 0 < g) (h : g < 65536) : tgtOf (BitVec.ofNat 32 (0x20000000 + g)) = .groups g := by
  obtain ⟨form, mask⟩ := groupTarget_form h
  unfold tgtOf
  dsimp only
  rw [form, mask]
  exact if_pos ⟨h0, h⟩

/-- A granted command to a group mask whose channels all pass answers RC_OK with the channels handled (R363). -/
theorem Hdr.run_groups_done {h : Hdr} {f : Fin 256 → State → Option (Nat × Nat) × State} {m : MbCmd} {s t : State} {g : Nat}
    (hg : Granted h.opcode (h.auth m) m s) (h0 : 0 < g) (hmax : g < 65536) (ht : m.target = BitVec.ofNat 32 (0x20000000 + g))
    (hl : h.lenOk m = true) (hf : h.forms.contains 2 = true) (hi : h.items m (s.takeOff h.opcode m) ≤ (s.takeOff h.opcode m).quire.quotaFree m.mb)
    (ho : h.opcode / 256 ≠ 9)
    (done : runMask f (maskChannels g) [] (s.takeOff h.opcode m) = (none, maskChannels g, t)) :
    h.run (maskVerdict f) m s = (t.passItems h.opcode m).respond m.mb (okAnswer m 0 0 (maskPayload 0xFFFF (maskChannels g))) := by
  have form : bits m.target 31 28 = 2 := by rw [ht]; exact (groupTarget_form hmax).1
  have groups : tgtOf m.target = .groups g := by rw [ht]; exact tgtOf_groupTarget h0 hmax
  have target : h.targetOk m = true := by simp only [Hdr.targetOk, form, groups, hf, Bool.and_self]
  have code : h.stateCode m t = 0 := by simp only [Hdr.stateCode, ho, if_false, groups, ite_self]
  have verdict : maskVerdict f m (s.takeOff h.opcode m) = .done t 0 (maskPayload 0xFFFF (maskChannels g)) := by
    simp only [maskVerdict, groups, done]
  rw [Hdr.run_granted hg hl target hi, verdict, Hdr.conclude_done, code]
  rfl

/-! ### CH_CONFIG (R64, R65, R89) -/

theorem State.configure_stores {p : Block} {s : State} {n : Fin 256} (free : firstReserved p cfReserved = none)
    (run : (s.ch n).calRun = none) (state : (s.ch n).state = .off ∨ (s.ch n).state = .absent) :
    s.configure p n = (none, s.updCh n fun c => c.takeConfig (blockFit 16 p)) := by
  have legal : s.chanCheck n (fun st => st == .off || st == .absent) = none :=
    State.chanCheck_of_legal run (by rcases state with h | h <;> rw [h] <;> rfl)
  simp only [State.configure, legal, free]

theorem State.updCh_takeConfig_state (n j : Fin 256) (b : Block) (s : State) :
    ((s.updCh n fun c => c.takeConfig b).ch j).state = (s.ch j).state ∧
      ((s.updCh n fun c => c.takeConfig b).ch j).calRun = (s.ch j).calRun := by
  rcases eq_or_ne j n with rfl | other
  · rw [State.updCh_ch]
    exact ⟨rfl, rfl⟩
  · rw [State.updCh_ch_of_ne _ _ other.symm]
    exact ⟨rfl, rfl⟩

/-- CH_CONFIG of a mask stores the block in every channel. -/
theorem runMask_configure {p : Block} (free : firstReserved p cfReserved = none) (l ok : List (Fin 256)) (s : State)
    (legal : ∀ n ∈ l, (s.ch n).calRun = none ∧ ((s.ch n).state = .off ∨ (s.ch n).state = .absent)) :
    runMask (State.configure p) l ok s =
      (none, ok ++ l, forAll (fun n u => u.updCh n fun c => c.takeConfig (blockFit 16 p)) l s) := by
  induction l generalizing ok s with
  | nil => rw [List.append_nil]; rfl
  | cons n l ih =>
    obtain ⟨run, state⟩ := legal n List.mem_cons_self
    have rest := ih (ok ++ [n]) (s.updCh n fun c => c.takeConfig (blockFit 16 p)) fun j hj => by
      obtain ⟨same, same'⟩ := s.updCh_takeConfig_state n j (blockFit 16 p)
      rw [same, same']
      exact legal j (List.mem_cons_of_mem n hj)
    rw [runMask, State.configure_stores free run state]
    exact rest.trans (by rw [List.append_assoc, List.singleton_append]; rfl)

theorem hdrChConfig_items {m : MbCmd} {n : Fin 256} (ht : m.target = chTarget n) (t : State) : hdrChConfig.items m t = 0 := by
  simp [hdrChConfig, ht, tgtOf_chTarget]

/-- A current record of another SHUNT counts as absent from the CH_CONFIG on, whatever SHUNT follows. -/
theorem Channel.takeConfig_loses {c : Channel} {b : Block} (b' : Block) {r : Nat} (hr : r < 6)
    (valid : calValid (c.meas.calRead.getD (1 + r) []) = true) (other : calShunt (c.meas.calRead.getD (1 + r) []) ≠ cfShunt b) :
    ((c.takeConfig b).takeConfig b').recordIn ((c.takeConfig b).takeConfig b').meas.calRead true r = none := by
  have lost : (c.takeConfig b).meas.calLost.contains r = true := by
    simp only [Channel.takeConfig, List.contains_iff_mem, List.mem_filter, List.mem_range]
    exact ⟨hr, by rw [valid, bne_iff_ne.mpr other, Bool.and_self, Bool.or_true]⟩
  have still : ((c.takeConfig b).takeConfig b').meas.calLost.contains r = true := by
    simp only [Channel.takeConfig.eq_def b', List.contains_iff_mem, List.mem_filter, List.mem_range]
    exact ⟨hr, by simp only [lost, Bool.true_or]⟩
  simp only [Channel.recordIn, still, Bool.not_true, Bool.and_false, Bool.or_false, Bool.false_eq_true, if_false]

/-! ### CH_ENABLE (R66 to R68, R196) -/

/-- The channel enters CONFIGURED: counters and flags cleared, both images written. -/
def State.chEnabled (n : Fin 256) (mp : Nat) (s : State) : State :=
  ((s.updCh n fun c =>
    let d := c.clearCounts
    { d with
      drive := { d.drive with minPulse := mp }
      run := { d.run with
        runValid := false
        restored := none
        copy := none
        hasRun := false } }).writeImages n).toState n .configured

theorem State.enable_passes {s : State} {n : Fin 256} (run : (s.ch n).calRun = none) (off : (s.ch n).state = .off)
    (checks : s.enableFail n (s.chv n).minPulse = none) (conv : (s.ch n).meas.convFault = false) :
    s.enable n = (none, s.chEnabled n (s.chv n).minPulse) := by
  have legal : s.chanCheck n (fun st => st == .off || st == .absent) = none := State.chanCheck_of_legal run (by rw [off]; rfl)
  simp only [State.enable, legal, checks, conv, Bool.false_eq_true, if_false]
  rfl

theorem State.chEnabled_state (n : Fin 256) (mp : Nat) (s : State) : ((s.chEnabled n mp).ch n).state = .configured := State.toState_state _ _ _

/-- The channel that is enabled selects the inputs that it selected before, and its die is as it was. -/
theorem State.chEnabled_watch (n : Fin 256) (mp : Nat) (s : State) :
    ((s.chEnabled n mp).ch n).cfg = (s.ch n).cfg ∧ (s.chEnabled n mp).die = s.die := by
  unfold State.chEnabled
  refine ⟨?_, ?_⟩
  · rw [State.toState_cfg_self, State.writeImages_ch, State.updCh_ch]
    rfl
  · rw [State.toState_die]
    obtain ⟨v, b, e⟩ := State.writeImages_frame n (s.updCh n fun c =>
      let d := c.clearCounts
      { d with
        drive := { d.drive with minPulse := mp }
        run := { d.run with
          runValid := false
          restored := none
          copy := none
          hasRun := false } })
    rw [e]
    rfl

theorem hdrChEnable_items {m : MbCmd} {n : Fin 256} (ht : m.target = chTarget n) (t : State) : hdrChEnable.items m t = 0 := by
  simp [hdrChEnable, ht, tgtOf_chTarget]

/-- Where their regions take writes, both images are good. -/
theorem State.writeImages_good {s : State} (n : Fin 256) (a : s.regionFails 5 = false) (b : s.regionFails 6 = false) :
    ((s.writeImages n).chv n).imgA = .good (s.ch n).cfg (s.ch n).sets ∧ ((s.writeImages n).chv n).imgB = .good (s.ch n).cfg (s.ch n).sets ∧
      (∀ j, j ≠ n → (s.writeImages n).chv j = s.chv j) ∧ (s.writeImages n).chan = s.chan := by
  have written : s.writeImages n = ((s.updChv n fun v => { v with
      imgA := .good (s.ch n).cfg (s.ch n).sets
      imgB := .good (s.ch n).cfg (s.ch n).sets }).wearRow (64 + n.val / 4) 112).wearRow (128 + n.val / 4) 112 := by
    unfold State.writeImages
    dsimp only
    rw [a, b]
    rfl
  obtain ⟨v, bl, worn, -, ch⟩ := OnlyWears.trans _ _ _ (State.wearRow_wears (64 + n.val / 4) 112 (s.updChv n fun v => { v with
      imgA := .good (s.ch n).cfg (s.ch n).sets
      imgB := .good (s.ch n).cfg (s.ch n).sets })) (State.wearRow_wears (128 + n.val / 4) 112 _)
  have chv (j : Fin 256) : (s.writeImages n).chv j = (s.updChv n fun v => { v with
      imgA := .good (s.ch n).cfg (s.ch n).sets
      imgB := .good (s.ch n).cfg (s.ch n).sets }).chv j := by
    rw [written, worn]
    exact congrArg (fun c => vget c j) ch
  refine ⟨?_, ?_, fun j hj => ?_, ?_⟩
  · rw [chv, State.updChv_chv]
  · rw [chv, State.updChv_chv]
  · rw [chv, State.chv, State.updChv]
    exact vget_vset_of_ne _ _ hj.symm
  · rw [written, worn]
    rfl

/-! ### CH_DISABLE, CH_STATUS and CH_CLEAR (R59, R157, R368) -/

theorem State.disable_goesOff {s : State} {n : Fin 256} (run : (s.ch n).calRun = none) (running : (s.ch n).state ≠ .running)
    (tripped : (s.ch n).state ≠ .tripped) (tune : (s.ch n).state ≠ .tune) (absent : (s.ch n).state ≠ .absent) :
    s.disable n = .done ((s.updCh n fun c => { c with
      drive := c.drive.low
      run := { c.run with
        startAt := none
        trans := none } }).toState n .off) 0 [] := by
  have legal : s.chanCheck n (fun st => st != .running && st != .tripped && st != .tune && st != .absent) = none :=
    State.chanCheck_of_legal run (by simp [running, tripped, tune, absent])
  simp only [State.disable, legal]

@[simp] theorem State.takeOff_statusWords (op : Nat) (m : MbCmd) (s : State) (n : Fin 256) :
    (s.takeOff op m).statusWords n = s.statusWords n := by
  obtain ⟨_, _, _, h⟩ := s.takeOff_cases op m
  rw [h]; rfl

/-- The channel is cleared of its causes and goes to `st`. -/
def State.cleared (n : Fin 256) (st : ChState) (cause : Nat) (s : State) : State :=
  ((s.updCh n fun c => { c with tripCause := 0 }).toState n st).raise 0x0202 INFO n.val (cause + 2 ^ 16 * st.code)

theorem State.clear_clears {s : State} {n : Fin 256} (run : (s.ch n).calRun = none) (state : (s.ch n).state = .tripped)
    (none_ : s.activeCauses n &&& (s.ch n).tripCause.toNat = 0) :
    s.clear n = .done (s.cleared n (s.ch n).clearTo (s.ch n).tripCause.toNat) 0 [] := by
  have legal : s.chanCheck n (fun st => st == .tripped) = none := State.chanCheck_of_legal run (by rw [state]; rfl)
  simp only [State.clear, legal, none_, ne_eq, not_true_eq_false, if_false]
  rfl

theorem State.cleared_state (n : Fin 256) (st : ChState) (cause : Nat) (s : State) : ((s.cleared n st cause).ch n).state = st :=
  State.toState_state _ _ _

end Sys2Proof.Machine

namespace Sys2Proof

open Sys2Proof.Machine Sys2Proof.Safety

/-- Settles O26: the own part of each command, on a channel and on a group mask. -/
theorem driveCommandsComplete : Obligations.DriveCommandsComplete := by
  refine ⟨fun m s n granted target len free run state => ?_,
    fun c b b' => ⟨rfl, rfl, fun r hr valid other => Channel.takeConfig_loses b' hr valid other⟩,
    fun m s g granted h0 hmax target len free quota legal => ?_, fun m s n granted target len run off checks conv quiet => ?_,
    fun s n a b => State.writeImages_good n a b, fun m s n granted target len run running tripped tune absent => ?_,
    fun m s n granted target len => ?_, fun m s n granted target len run state none_ => ?_⟩
  · have own : (s.takeOff 0x0201 m).configure m.params n = _ :=
      State.configure_stores free (by simpa using run) (by simpa using state)
    refine congrArg Host.Outcome.next ((Hdr.run_channel_done (h := hdrChConfig) granted target (lenIs_of len (by decide)) rfl
      (hdrChConfig_items target) (by decide) own).trans ?_)
    rw [(State.updCh_takeConfig_state n n (blockFit 16 m.params) _).1, State.takeOff_ch]
    rfl
  · have own := runMask_configure free (maskChannels g) [] (s.takeOff 0x0201 m) fun n hn => by simpa using legal n hn
    have items : hdrChConfig.items m (s.takeOff 0x0201 m) = (maskChannels g).length := by
      simp [hdrChConfig, target, tgtOf_groupTarget h0 hmax]
    exact congrArg Host.Outcome.next (Hdr.run_groups_done (h := hdrChConfig) granted h0 hmax target (lenIs_of len (by decide)) rfl
      (items.trans_le quota) (by decide) own)
  · have own : (s.takeOff 0x0202 m).enable n = _ :=
      State.enable_passes (by simpa using run) (by simpa using off) (by simpa using checks) (by simpa using conv)
    rw [State.takeOff_chv] at own
    have answers := Hdr.run_channel_done (h := hdrChEnable) granted target (lenIs_of len (by decide)) rfl
      (hdrChEnable_items target) (by decide) own
    rw [State.chEnabled_state] at answers
    obtain ⟨cfg, die⟩ := (s.takeOff 0x0202 m).chEnabled_watch n (s.chv n).minPulse
    have watched : ∀ t : State, t.chan = ((s.takeOff 0x0202 m).chEnabled n (s.chv n).minPulse).chan →
        t.die = ((s.takeOff 0x0202 m).chEnabled n (s.chv n).minPulse).die → State.watchPins s n t = t := fun t hc hd => by
      refine State.watchPins_of_quiet ?_
      have cfg' : (t.ch n).cfg = (s.ch n).cfg := by rw [State.ch, hc]; exact cfg.trans (by rw [State.takeOff_ch])
      rw [State.dieOf, hd, die, State.takeOff_die, cfg']
      exact quiet
    show execChEnable m s = _
    rw [execChEnable, answers, targetChannels, target, tgtOf_chTarget]
    exact congrArg _ (watched _ (by simp) (by simp))
  · have own : (s.takeOff 0x0203 m).disable n = _ := State.disable_goesOff (by simpa using run) (by simpa using running)
      (by simpa using tripped) (by simpa using tune) (by simpa using absent)
    refine congrArg Host.Outcome.next ((chanHdr_completes granted target len (by decide) (by decide) own).trans ?_)
    rw [State.toState_state]
    rfl
  · refine congrArg Host.Outcome.next ((chanHdr_completes (f := fun n t => .done t 0 (t.statusWords n)) granted target len (by decide)
      (by decide) rfl).trans ?_)
    rw [State.takeOff_ch, State.takeOff_statusWords]
    rfl
  · have own : (s.takeOff 0x0205 m).clear n = _ := State.clear_clears (by simpa using run) (by simpa using state) (by simpa using none_)
    refine congrArg Host.Outcome.next ((chanHdr_completes granted target len (by decide) (by decide) own).trans ?_)
    rw [State.cleared_state, State.takeOff_ch]
    rfl

end Sys2Proof
end

section
/-! PROOF. Frames that leave and frames that are received (R380, R381, R387, R388, R391, R397, R398). -/

namespace Sys2Proof.Machine

open Sys2Proof Sys2Proof.Safety

/-! ### Frames that leave (R387, R388) -/

/-- `t` is `s` but for frames that joined class queues, or were dropped from full ones. -/
def Sends (s t : State) : Prop :=
  ∃ v n b, t = { s with
    fab := { s.fab with
      port := v
      qDrops := n }
    blot := { s.blot with raised := s.blot.raised ++ b } } ∧
  ∀ p, { vget v p with
    q0 := (s.port p).q0
    q1 := (s.port p).q1
    q2 := (s.port p).q2 } = s.port p

theorem Sends.refl (s : State) : Sends s s :=
  ⟨s.fab.port, s.fab.qDrops, [], by rw [List.append_nil], fun _ => rfl⟩

theorem Sends.trans (s t u : State) : Sends s t → Sends t u → Sends s u := by
  rintro ⟨v, n, b, rfl, same⟩ ⟨v', n', b', rfl, same'⟩
  refine ⟨v', n', b ++ b', by rw [List.append_assoc], fun p => ?_⟩
  have first := same p
  have second_ := same' p
  rw [← first]
  exact (congrArg (fun q : Port => { q with
    q0 := (s.port p).q0
    q1 := (s.port p).q1
    q2 := (s.port p).q2 }) second_)

theorem Port.enqueue_keeps (q : Port) (c : Nat) (x : Packet) : { q.enqueue c x with
    q0 := q.q0
    q1 := q.q1
    q2 := q.q2 } = q := by
  match c with
  | 0 => rfl
  | 1 => rfl
  | _ + 2 => rfl

theorem State.sendPacket_sends (p : Fin 4) (c : Nat) (x : Packet) (s : State) : Sends s (s.sendPacket p c x) := by
  unfold State.sendPacket
  split
  · refine ⟨_, s.fab.qDrops, [], by rw [List.append_nil]; rfl, fun q => ?_⟩
    rcases eq_or_ne q p with rfl | other
    · rw [vget_vset_self]
      exact Port.enqueue_keeps _ _ _
    · rw [vget_vset_of_ne _ _ other.symm]
      rfl
  · exact ⟨s.fab.port, _, _, rfl, fun _ => rfl⟩

theorem State.sendAll_sends (ps : List (Fin 4)) (f : Frame) (s : State) : Sends s (s.sendAll ps f) :=
  forAll_rel Sends.refl Sends.trans (fun p t => State.sendPacket_sends p _ _ t) ps s

/-- A packet that its class buffer has room for joins the queue of its class. -/
theorem State.sendPacket_room {p : Fin 4} {c : Nat} {x : Packet} {s : State} (room : (s.port p).waiting c + x.bytes ≤ classBytes c) :
    s.sendPacket p c x = s.updPort p fun q => q.enqueue c x := if_pos room

theorem Port.enqueue_queue (q : Port) (c : Nat) (x : Packet) : (q.enqueue c x).queue c = q.queue c ++ [x] := by
  match c with
  | 0 => rfl
  | 1 => rfl
  | _ + 2 => rfl

theorem State.sendPacket_port_of_ne {p q : Fin 4} (c : Nat) (x : Packet) (s : State) (other : q ≠ p) :
    (s.sendPacket p c x).port q = s.port q := by
  unfold State.sendPacket
  split
  · exact State.updPort_port_of_ne _ _ other.symm
  · rfl

/-- Frames sent on other ports leave a port. -/
theorem State.sendAll_port_of_not_mem {ps : List (Fin 4)} {q : Fin 4} (f : Frame) (s : State) (out : q ∉ ps) :
    (s.sendAll ps f).port q = s.port q := by
  induction ps generalizing s with
  | nil => rfl
  | cons p ps ih =>
    rw [List.mem_cons, not_or] at out
    exact (ih _ out.2).trans (State.sendPacket_port_of_ne _ _ s out.1)

/-- A frame sent on several ports joins the queue of each that has room. -/
theorem State.sendAll_queued {ps : List (Fin 4)} {q : Fin 4} {f : Frame} {s : State} (each : ps.Nodup) (on : q ∈ ps) (room : Room s q f) :
    Queued s (s.sendAll ps f) q f := by
  induction ps generalizing s with
  | nil => exact absurd on List.not_mem_nil
  | cons p ps ih =>
    obtain ⟨new, rest⟩ := List.nodup_cons.mp each
    rcases eq_or_ne q p with rfl | other
    · have after : (s.sendAll (q :: ps) f).port q = (s.sendOn q f).port q := State.sendAll_port_of_not_mem f _ new
      rw [Queued, after, State.sendOn, State.sendPacket_room room, State.updPort_port]
      exact Port.enqueue_queue _ _ _
    · have same : (s.sendOn p f).port q = s.port q := State.sendPacket_port_of_ne _ _ s other
      have queued := ih (s := s.sendOn p f) rest ((List.mem_cons.mp on).resolve_left other) (by rw [Room, same]; exact room)
      rw [Queued, same] at queued
      exact queued

theorem State.floodPorts_nodup (i : Option (Fin 4)) (s : State) : (s.floodPorts i).Nodup := (List.nodup_finRange 4).filter _

theorem State.mem_floodPorts_none {s : State} {q : Fin 4} : q ∈ s.floodPorts none ↔ (s.port q).up = true := by
  simp [State.floodPorts, List.mem_finRange]

/-! ### Notices (R397, R398) -/

/-- `t` is `s` but for what notices change: queues, FSEQ, the caches and counters of R387 and R398, and events. -/
def Notifies (s t : State) : Prop :=
  ∃ v n q fl nt su ev lf b, t = { s with
    fab := { s.fab with
      port := v
      qDrops := n
      fseq := q
      flood := fl
      notices := nt
      suppressed := su
      evicted := ev
      lastFull := lf }
    blot := { s.blot with raised := s.blot.raised ++ b } } ∧
  ∀ p, { vget v p with
    q0 := (s.port p).q0
    q1 := (s.port p).q1
    q2 := (s.port p).q2 } = s.port p

theorem Notifies.refl (s : State) : Notifies s s :=
  ⟨s.fab.port, s.fab.qDrops, s.fab.fseq, s.fab.flood, s.fab.notices, s.fab.suppressed, s.fab.evicted, s.fab.lastFull, [],
    by rw [List.append_nil], fun _ => rfl⟩

theorem Notifies.trans (s t u : State) : Notifies s t → Notifies t u → Notifies s u := by
  rintro ⟨v, n, q, fl, nt, su, ev, lf, b, rfl, same⟩ ⟨v', n', q', fl', nt', su', ev', lf', b', rfl, same'⟩
  refine ⟨v', n', q', fl', nt', su', ev', lf', b ++ b', by rw [List.append_assoc], fun p => ?_⟩
  rw [← same p]
  exact (congrArg (fun q : Port => { q with
    q0 := (s.port p).q0
    q1 := (s.port p).q1
    q2 := (s.port p).q2 }) (same' p))

theorem Sends.notifies {s t : State} : Sends s t → Notifies s t := by
  rintro ⟨v, n, b, rfl, same⟩
  exact ⟨v, n, s.fab.fseq, s.fab.flood, s.fab.notices, s.fab.suppressed, s.fab.evicted, s.fab.lastFull, b, rfl, same⟩

theorem Notifies.raise (code sev source param : Nat) (s : State) : Notifies s (s.raise code sev source param) :=
  ⟨s.fab.port, s.fab.qDrops, s.fab.fseq, s.fab.flood, s.fab.notices, s.fab.suppressed, s.fab.evicted, s.fab.lastFull, _, rfl, fun _ => rfl⟩

/-- A change of FSEQ, caches and counters alone. -/
theorem Notifies.of_caches {s t : State} (h : ∃ q fl nt su ev lf, t = { s with
    fab := { s.fab with
      fseq := q
      flood := fl
      notices := nt
      suppressed := su
      evicted := ev
      lastFull := lf } }) : Notifies s t := by
  obtain ⟨q, fl, nt, su, ev, lf, rfl⟩ := h
  exact ⟨s.fab.port, s.fab.qDrops, q, fl, nt, su, ev, lf, [], by rw [List.append_nil], fun _ => rfl⟩

theorem State.markFlood_notifies (f : Frame) (s : State) : Notifies s (s.markFlood f) := .of_caches ⟨_, _, _, _, _, _, rfl⟩

theorem State.countFrame_notifies (s : State) : Notifies s s.countFrame := .of_caches ⟨_, _, _, _, _, _, rfl⟩

theorem State.noticeCache_notifies (subject code : BitVec 16) (s : State) : Notifies s (s.noticeCache subject code) := by
  unfold State.noticeCache
  dsimp only
  split
  · exact .of_caches ⟨_, _, _, _, _, _, rfl⟩
  · split
    · split
      · split
        · exact .of_caches ⟨_, _, _, _, _, _, rfl⟩
        · exact Notifies.trans _ _ _ (.of_caches ⟨_, _, _, _, _, _, rfl⟩) (.raise _ _ _ _ _)
      · exact Notifies.trans _ _ _ (.of_caches ⟨_, _, _, _, _, _, rfl⟩) (.raise _ _ _ _ _)
    · exact .of_caches ⟨_, _, _, _, _, _, rfl⟩

theorem State.passNotice_notifies (f : Frame) (i : Option (Fin 4)) (s : State) : Notifies s (s.passNotice f i) := by
  have passed : Notifies s (if f.hops < f.hopLimit then s.sendAll (s.groupEgress aNOTICE i) (if i.isSome then hop f else f) else s) := by
    split
    · exact (State.sendAll_sends _ _ s).notifies
    · exact .refl s
  unfold State.passNotice
  dsimp only
  split
  · split
    · exact passed.trans _ _ _ (.raise _ _ _ _ _)
    · exact passed
  · exact passed

theorem State.notice_notifies (code : Nat) (subject : BitVec 16) (param : Nat) (s : State) : Notifies s (s.notice code subject param) := by
  unfold State.notice
  dsimp only
  split
  · exact ((State.noticeCache_notifies _ _ s).trans _ _ _ (State.markFlood_notifies _ _)).trans _ _ _
      ((State.countFrame_notifies _).trans _ _ _ (State.passNotice_notifies _ _ _))
  · exact .of_caches ⟨_, _, _, _, _, _, rfl⟩

/-- What notices leave: a port but for its queues, the address, and all but the fabric and the events. -/
theorem Notifies.spec {s t : State} (h : Notifies s t) : Reports s t ∧ t.fab.addr = s.fab.addr ∧ t.chan = s.chan ∧ t.tb = s.tb ∧
    ∀ p, { t.port p with
      q0 := (s.port p).q0
      q1 := (s.port p).q1
      q2 := (s.port p).q2 } = s.port p := by
  obtain ⟨v, n, q, fl, nt, su, ev, lf, b, rfl, same⟩ := h
  exact ⟨List.prefix_append _ _, rfl, rfl, rfl, same⟩

theorem State.conflict_notifies (addr : BitVec 16) (uid : BitVec 64) (s : State) : Notifies s (s.conflict addr uid) := by
  unfold State.conflict
  split
  · exact (Notifies.raise _ _ _ _ s).trans _ _ _ (State.notice_notifies _ _ _ _)
  · exact .refl s

/-- Another device with the own address is told by 0x0D05 (R391). -/
theorem State.conflict_tells {addr : BitVec 16} {uid : BitVec 64} {s : State} (own : addr = s.fab.addr) (given : addr ≠ 0)
    (other : uid ≠ Config.uid) : s.event 0x0D05 ALARM 0 uid.toNat ∈ (s.conflict addr uid).blot.raised := by
  have both : (decide (addr = s.fab.addr) && decide (addr ≠ 0) && decide (uid ≠ Config.uid)) = true := by
    simp only [own ▸ given, own, other, decide_true, ne_eq, not_false_eq_true, Bool.and_self]
  have tells := (State.notice_notifies 5 addr (uid.toNat % 2 ^ 32) (s.raise 0x0D05 ALARM 0 uid.toNat)).spec.1
  rw [State.conflict]
  rw [if_pos (by simpa using both)]
  exact tells.mem (by simp [State.event])

/-! ### Frames received (R380, R381) -/

theorem State.receive_of_ok {p : Fin 4} {f : Frame} {s : State} (h : FrameOk s f) : s.receive p f = (true, counted p s) := by
  obtain ⟨type, fcs, header, length, short, known⟩ := h
  have bytes : f.bytes.length = max 30 f.len := by simpa [Frame.lenOk] using length
  have fits : ¬ (f.etherType ≠ s.folio.etherType ∨ 1518 < frameBytes f) := by
    rw [frameBytes, bytes, not_or, not_not]
    exact ⟨type, by omega⟩
  rw [State.receive, if_neg (by simpa using fits), fcs]
  simp only [header, length, short, known, decide_true, Bool.and_self, if_true]

theorem State.receive_of_other {p : Fin 4} {f : Frame} {s : State} (h : f.etherType ≠ s.folio.etherType) : s.receive p f = (false, s) := by
  rw [State.receive, if_pos (by simp [h])]

theorem State.receive_of_badHeader {p : Fin 4} {f : Frame} {s : State} (type : f.etherType = s.folio.etherType) (fcs : f.fcs = .good)
    (bytes : frameBytes f ≤ 1518) (header : f.hcrcOk = false) :
    s.receive p f = (false, s.updPort p fun q => { q with crcErr := satAdd q.crcErr 1 }) := by
  rw [State.receive, if_neg (by simp [type, bytes]), fcs]
  simp only [header, Bool.false_and, Bool.false_eq_true, if_false]

/-- The rows that take a frame do nothing with one that is not taken. -/
theorem exec_of_not_received {p : Fin 4} {f : Frame} {s t : State} (not_ : s.receive p f = (false, t)) :
    ∀ i ∈ ([.helloReceive p f, .frameForward p f, .discoverRequest p f, .discoverReply p f, .assignUid p f, .assignRing p f,
      .windowRead p f, .windowWrite p f, .windowReset p f, .mailboxCommand p f, .mailboxAck p f, .syncFrame p f,
      .noticeReceive p f] : List Instr), exec i s = .next t := by
  intro i mem
  simp only [List.mem_cons, List.not_mem_nil, or_false] at mem
  rcases mem with rfl | rfl | rfl | rfl | rfl | rfl | rfl | rfl | rfl | rfl | rfl | rfl | rfl
  all_goals
    delta exec
    dsimp only
    delta execHelloReceive execFrameForward execDiscoverRequest execDiscoverReply execAssignUid execAssignRing execWindowRead execWindowWrite
      execWindowReset execMailboxCommand execMailboxAck execSyncFrame execNoticeReceive
    rw [not_]
    rfl

end Sys2Proof.Machine
end

section
/-! PROOF. The links of the fabric (R379, R382, R384, R386); O48. -/

namespace Sys2Proof.Machine

open Sys2Proof Sys2Proof.Safety

/-! ### HELLO frames (R379, R382) -/

/-- The port that has sent its HELLO. -/
def Port.greet (now : Nat) (f : Frame) (q : Port) : Port := { q with helloAt := some now }.enqueue 1 (.frame f)

theorem exec_helloSend {s : State} {p : Fin 4} (lock : (s.port p).lock = true)
    (when : due (s.port p).helloAt (100 * millisecond) s.now = true)
    (room : Room s p (s.ownFrame 1 0xFFFF#16 false false (s.helloWords p) 12)) :
    exec (.helloSend p) s =
      .next (s.updPort p (Port.greet s.now (s.ownFrame 1 0xFFFF#16 false false (s.helloWords p) 12))).countFrame := by
  have sent : (s.updPort p fun q => { q with helloAt := some s.now }).sendOn p (s.ownFrame 1 0xFFFF#16 false false (s.helloWords p) 12) =
      s.updPort p (Port.greet s.now (s.ownFrame 1 0xFFFF#16 false false (s.helloWords p) 12)) := by
    rw [State.sendOn, State.sendPacket_room]
    · simp only [State.updPort, State.port, vget_vset_self, vset_vset]
      rfl
    · rw [State.updPort_port]
      exact room
  show execHelloSend p s = _
  rw [execHelloSend, if_pos (by simp only [lock, helloEvery, when, Bool.and_self])]
  exact congrArg (fun t => Host.Outcome.next (State.countFrame t)) sent

theorem exec_helloSend_idle {s : State} {p : Fin 4}
    (h : (s.port p).lock = false ∨ due (s.port p).helloAt (100 * millisecond) s.now = false) : exec (.helloSend p) s = .next s := by
  show execHelloSend p s = _
  rw [execHelloSend, if_neg]
  rcases h with h | h <;> simp [helloEvery, h]

/-- The peer as its HELLO tells it. -/
def State.heardFrom (p : Fin 4) (f : Frame) (s : State) : State := s.updPort p fun q => { q with
  heard := some s.now
  peer := BitVec.ofNat 16 (fieldAt f.payload 8 15 0)
  peerUid := BitVec.ofNat 64 (natAt64 f.payload 0) }

theorem exec_helloReceive {s : State} {p : Fin 4} {f : Frame} (ok : FrameOk s f) (typ : f.typ = 1) (len : f.len = 12) :
    exec (.helloReceive p f) s = .next (((counted p s).heardFrom p f).conflict (BitVec.ofNat 16 (fieldAt f.payload 8 15 0))
      (BitVec.ofNat 64 (natAt64 f.payload 0))) := by
  show execHelloReceive p f s = _
  rw [execHelloReceive, State.receive_of_ok ok]
  simp only [typ, len, tHELLO]
  rfl

theorem natAt64_lt (b : Block) (off : Nat) : natAt64 b off < 2 ^ 64 := by
  have low := (wordAt b off).isLt
  have high := (wordAt b (off + 4)).isLt
  simp only [natAt64, natAt]
  omega

theorem fieldAt_lt (b : Block) (off : Nat) : fieldAt b off 15 0 < 2 ^ 16 := Nat.mod_lt _ (by decide)

/-! ### Ports that come UP and go DOWN (R379, R384, R386, R397) -/

/-- The port that has come UP. -/
def Port.rise (now : Nat) (q : Port) : Port :=
  { q with
    hiBer := false
    up := true
    upAt := now
    usable := false }

/-- The port is UP, before its notice leaves. -/
def State.cameUp (p : Fin 4) (s : State) : State :=
  ((s.updPort p (Port.rise s.now)).raise 0x0D01 INFO p.val ((s.port p).peer.toNat + 2 ^ 16 * b2n (s.fecOn p))).irq 17

theorem exec_linkUp {s : State} {p : Fin 4} (lock : (s.port p).lock = true) (hears : (s.port p).hears s.now = true)
    (down : (s.port p).up = false) : exec (.linkUp p) s = .next ((s.cameUp p).notice 2 (s.port p).peer p.val) := by
  show execLinkUp p s = _
  simp only [execLinkUp, lock, hears, down]
  rfl

theorem exec_linkUp_idle {s : State} {p : Fin 4}
    (h : (s.port p).lock = false ∨ (s.port p).hears s.now = false ∨ (s.port p).up = true) : exec (.linkUp p) s = .next s := by
  show execLinkUp p s = _
  rw [execLinkUp, if_pos]
  rcases h with h | h | h <;> simp [h]

theorem exec_primHoldEnd {s : State} {p : Fin 4} (up : (s.port p).up = true) (held : (s.port p).upAt + second ≤ s.now) :
    exec (.primHoldEnd p) s = .next (s.updPort p fun q => { q with usable := true }) := by
  show execPrimHoldEnd p s = _
  simp only [execPrimHoldEnd, State.updPort, up, held, decide_true, Bool.and_self, Bool.or_true]

theorem exec_primHoldEnd_idle {s : State} {p : Fin 4} (h : (s.port p).up = false ∨ s.now < (s.port p).upAt + second) :
    exec (.primHoldEnd p) s = .next s := by
  have early : ((s.port p).up && decide ((s.port p).upAt + second ≤ s.now)) = false := by
    rcases h with h | h <;> simp [h]
  show execPrimHoldEnd p s = _
  simp only [execPrimHoldEnd, State.updPort, early, Bool.or_false]
  exact congrArg Host.Outcome.next (s.updPort_self p)

/-- The port is DOWN, before its notices leave. -/
def State.wentDown (p : Fin 4) (silent : Bool) (s : State) : State :=
  (((s.updPort p Port.down).raise 0x0D02 NOTICE p.val (b2n silent)).raise 0x0D03 NOTICE p.val (satAdd (s.port p).switchovers 1)).irq 17

theorem State.goDown_notifies (p : Fin 4) (silent : Bool) (s : State) : Notifies (s.wentDown p silent) (s.goDown p silent) := by
  have first := State.notice_notifies 1 (s.port p).peer p.val (s.wentDown p silent)
  cases silent with
  | false => exact first
  | true => exact first.trans _ _ _ (State.notice_notifies 3 (s.port p).peer p.val _)

/-- The port after it has gone DOWN, and the events that tell it. -/
theorem State.goDown_spec (p : Fin 4) (silent : Bool) (s : State) :
    (s.goDown p silent).port p = (s.port p).down ∧ s.event 0x0D02 NOTICE p.val (b2n silent) ∈ (s.goDown p silent).blot.raised ∧
      s.event 0x0D03 NOTICE p.val (satAdd (s.port p).switchovers 1) ∈ (s.goDown p silent).blot.raised := by
  obtain ⟨told, -⟩ := (s.goDown_notifies p silent).spec
  obtain ⟨f, b, h, e, -, port⟩ := s.goDown_cases p silent
  refine ⟨by rw [e]; exact port, told.mem ?_, told.mem ?_⟩ <;> simp [State.wentDown, State.irq, State.event]

theorem exec_linkDown {s : State} (p : Fin 4) (h : Bool) :
    exec (.linkDown (if h then .hiBer p else .lock p)) s =
      .next (if (s.port p).up then
        (s.updPort p fun q => { q with
          lock := q.lock && h
          hiBer := q.lock && h }).goDown p false
      else s.updPort p fun q => { q with
          lock := q.lock && h
          hiBer := q.lock && h }) := by
  cases h <;> rfl

end Sys2Proof.Machine

namespace Sys2Proof

open Sys2Proof.Machine Sys2Proof.Safety

/-- Settles O48: the rows of the links; the notices that they send change queues and caches alone. -/
theorem fabricLinks : Obligations.FabricLinks := by
  refine ⟨fun s p lock when room => ?_, fun s p h => exec_helloSend_idle h, fun s p f ok typ len => ?_, fun s p => rfl,
    fun s p lock hears down => ?_, fun s p h => exec_linkUp_idle h, fun s p up held => exec_primHoldEnd up held,
    fun s p h => exec_primHoldEnd_idle h, fun s p up => ⟨fun h => ?_, fun silent => ?_⟩, fun s p h down => ?_, fun s p h => ?_,
    fun s p f i hi => ⟨fun other => exec_of_not_received (State.receive_of_other other) i hi,
      fun type fcs bytes header => exec_of_not_received (State.receive_of_badHeader type fcs bytes header) i hi⟩⟩
  · have port := s.updPort_port p (Port.greet s.now (s.ownFrame 1 0xFFFF#16 false false (s.helloWords p) 12))
    exact ⟨_, exec_helloSend lock when room, (congrArg (fun q : Port => q.queue 1) port :), (congrArg Port.helloAt port :), rfl,
      fun q other => s.updPort_port_of_ne (Port.greet s.now (s.ownFrame 1 0xFFFF#16 false false (s.helloWords p) 12)) other.symm, rfl⟩
  · obtain ⟨told, addr, chan, -, port⟩ := ((counted p s).heardFrom p f).conflict_notifies (BitVec.ofNat 16 (fieldAt f.payload 8 15 0))
      (BitVec.ofNat 64 (natAt64 f.payload 0)) |>.spec
    have heard := port p
    have peer : (BitVec.ofNat 16 (fieldAt f.payload 8 15 0)).toNat = fieldAt f.payload 8 15 0 := Nat.mod_eq_of_lt (fieldAt_lt _ _)
    have uid : (BitVec.ofNat 64 (natAt64 f.payload 0)).toNat = natAt64 f.payload 0 := Nat.mod_eq_of_lt (natAt64_lt _ _)
    simp only [State.heardFrom, counted, State.updPort_port] at heard
    refine ⟨_, exec_helloReceive ok typ len, ?_, ?_, ?_, ?_, ?_, addr, chan, fun own given other => ?_⟩
    · exact (congrArg Port.heard heard :)
    · exact (congrArg (fun q : Port => q.peer.toNat) heard :).trans peer
    · exact (congrArg (fun q : Port => q.peerUid.toNat) heard :).trans uid
    · exact (congrArg Port.rx heard :)
    · exact (congrArg Port.up heard :)
    · have same : BitVec.ofNat 16 (fieldAt f.payload 8 15 0) = s.fab.addr := BitVec.eq_of_toNat_eq (peer.trans own)
      have tells := State.conflict_tells (s := (counted p s).heardFrom p f) same (same ▸ given) (uid := BitVec.ofNat 64 (natAt64 f.payload 0))
        fun e => other (uid.symm.trans (congrArg BitVec.toNat e))
      rw [uid] at tells
      exact tells
  · obtain ⟨told, addr, chan, -, port⟩ := (State.notice_notifies 2 (s.port p).peer p.val (s.cameUp p)).spec
    have own : (s.cameUp p).port p = (s.port p).rise s.now := s.updPort_port p (Port.rise s.now)
    have came := port p
    rw [own] at came
    refine ⟨_, exec_linkUp lock hears down, (congrArg Port.up came :), (congrArg Port.usable came :), (congrArg Port.hiBer came :),
      (congrArg Port.upAt came :), fun q other => ?_, told.mem (by simp [State.cameUp, State.irq, State.event]), chan⟩
    have rest := port q
    rw [show (s.cameUp p).port q = s.port q from s.updPort_port_of_ne (Port.rise s.now) other.symm] at rest
    exact ⟨(congrArg Port.up rest :), (congrArg Port.lock rest :)⟩
  · obtain ⟨port, told, told'⟩ := (s.updPort p fun q => { q with
      lock := q.lock && h
      hiBer := q.lock && h }).goDown_spec p false
    rw [State.updPort_port] at port told'
    refine ⟨_, (exec_linkDown p h).trans (congrArg Host.Outcome.next (if_pos up)), ?_⟩
    dsimp only
    rw [port]
    exact ⟨rfl, rfl, rfl, rfl, rfl, rfl, rfl, rfl, told, told'⟩
  · obtain ⟨port, told, -⟩ := s.goDown_spec p true
    refine ⟨_, congrArg Host.Outcome.next (if_pos (by simp [up, silent])), ?_⟩
    dsimp only
    rw [port]
    exact ⟨rfl, rfl, rfl, rfl, rfl, rfl, rfl, told⟩
  · exact (exec_linkDown p h).trans (congrArg Host.Outcome.next (if_neg (by simp [down])))
  · exact congrArg Host.Outcome.next (if_neg (by rcases h with h | h <;> simp [h]))

end Sys2Proof
end

section
/-! PROOF. The fabric commands (R372, R383, R389 to R391); O49. -/

namespace Sys2Proof.Machine

open Sys2Proof Sys2Proof.Safety

/-! ### Writes of the Vellum (R430, R431) -/

/-- `t` is `s` but for row counts, retired rows and their events. -/
def Worn (s t : State) : Prop :=
  ∃ w h r c b, t = { s with
    vel := { s.vel with
      wear := w
      wearHigh := h
      retired := r
      correctedOnce := c }
    blot := { s.blot with raised := s.blot.raised ++ b } }

theorem Worn.trans (s t u : State) : Worn s t → Worn t u → Worn s u := by
  rintro ⟨w, h, r, c, b, rfl⟩ ⟨w', h', r', c', b', rfl⟩
  exact ⟨w', h', r', c', b ++ b', by rw [List.append_assoc]⟩

theorem Worn.of_counts {s t : State} (e : ∃ w h, t = { s with vel := { s.vel with
    wear := w
    wearHigh := h } }) : Worn s t := by
  obtain ⟨w, h, rfl⟩ := e
  exact ⟨w, h, s.vel.retired, s.vel.correctedOnce, [], by rw [List.append_nil]⟩

theorem State.retireRow_worn (row cause : Nat) (s : State) : Worn s (s.retireRow row cause) := by
  unfold State.retireRow
  split
  · exact ⟨s.vel.wear, s.vel.wearHigh, s.vel.retired, s.vel.correctedOnce, _, rfl⟩
  · exact ⟨_, _, _, _, _, rfl⟩

theorem State.wearRow_worn (row k : Nat) (s : State) : Worn s (s.wearRow row k) := by
  have counted : ∀ c : Prop, ∀ [Decidable c] (u : State), Worn s u → ∀ n, Worn s (if c then
      ({ u with vel := { u.vel with wearHigh := row :: u.vel.wearHigh } } : State).raise 0x0F08 NOTICE 0 n else u) := by
    intro c _ u worn n
    split
    · exact worn.trans _ _ _ ⟨u.vel.wear, _, u.vel.retired, u.vel.correctedOnce, _, rfl⟩
    · exact worn
  unfold State.wearRow
  dsimp only
  split
  · exact Worn.trans _ _ _ (counted _ _ (.of_counts ⟨_, _, rfl⟩) _) (State.retireRow_worn _ _ _)
  · exact counted _ _ (.of_counts ⟨_, _, rfl⟩) _

theorem State.persist_worn (region k : Nat) (s : State) : Worn s (s.persist region k) := State.wearRow_worn _ _ s

/-! ### Discovery (R389, R390) -/

@[simp] theorem State.takeOff_discPayload (op : Nat) (m : MbCmd) (s : State) (n : Nat) : (s.takeOff op m).discPayload n = s.discPayload n := by
  obtain ⟨_, _, _, h⟩ := s.takeOff_cases op m
  rw [h]; rfl

@[simp] theorem State.takeOff_fabWords (op : Nat) (m : MbCmd) (s : State) : (s.takeOff op m).fabWords = s.fabWords := by
  obtain ⟨_, _, _, h⟩ := s.takeOff_cases op m
  rw [h]; rfl

theorem State.fabDiscover_reads {m : MbCmd} {s : State} (free : NoReserved m [(0, 0xFFFFFEF0)]) (read : bitAt m.params 0 8 = true) :
    s.fabDiscover m = .done s 0 (s.discPayload (natAt m.params 4)) := by
  unfold State.fabDiscover
  dsimp only
  rw [reserved_none free, read]
  rfl

theorem State.fabDiscover_busy {m : MbCmd} {s : State} (start : bitAt m.params 0 8 = false) (busy : s.fab.discRun = true) :
    s.fabDiscover m = .refuse RC_STATE 1 [] := by
  unfold State.fabDiscover
  dsimp only
  rw [start, busy]
  rfl

/-- The REQUEST of a new discovery. -/
def State.discRequest (s : State) : Frame :=
  s.ownFrame 2 0xFFFF#16 false false (discWords (s.fab.discId + 1) 0 Config.uid 0 0 s.fab.addr) 28

/-- A discovery begins; its REQUEST is counted and in the cache of flood frames, and has not left. -/
def State.discBegun (s : State) : State :=
  (({ s with
    fab := { s.fab with
      discId := s.fab.discId + 1
      discRun := true
      discStart := s.now
      discLast := s.now
      discNow := s.fab.discId + 1
      discDone := false
      found := 0
      results := [] } } : State).markFlood s.discRequest).countFrame

/-- The discovery whose REQUEST has left on the ports chosen. -/
def State.discStarted (k : Nat) (s : State) : State :=
  s.discBegun.sendAll ((s.floodPorts none).filter fun q => k.testBit q.val) s.discRequest

theorem State.fabDiscover_starts {m : MbCmd} {s : State} (free : NoReserved m [(0, 0xFFFFFEF0)]) (start : bitAt m.params 0 8 = false)
    (idle : s.fab.discRun = false) : ∃ p, s.fabDiscover m =
      .accepted (s.discStarted (fieldAt m.params 0 3 0)) 0 p := by
  unfold State.fabDiscover
  dsimp only
  rw [reserved_none free, start, idle]
  exact ⟨_, rfl⟩

/-- The REQUEST of a discovery waits on each port chosen that is UP and has room. -/
theorem State.discStarted_spec (k : Nat) (s : State) :
    let t := s.discStarted k
    (t.fab.discRun = true ∧ t.fab.discNow = s.fab.discId + 1 ∧ t.fab.discId = s.fab.discId + 1 ∧ t.fab.discDone = false ∧
      t.fab.found = 0 ∧ t.fab.results = [] ∧ t.fab.fseq = s.fab.fseq + 1 ∧ t.chan = s.chan) ∧
    ∀ q : Fin 4, ((s.port q).up = true ∧ k.testBit q.val = true → Room s q s.discRequest → Queued s t q s.discRequest) ∧
      ((s.port q).up = false ∨ k.testBit q.val = false → t.port q = s.port q) := by
  intro t
  obtain ⟨v, n, b, e, -⟩ := State.sendAll_sends ((s.floodPorts none).filter fun q => k.testBit q.val) s.discRequest s.discBegun
  refine ⟨by rw [show t = _ from e]; exact ⟨rfl, rfl, rfl, rfl, rfl, rfl, rfl, rfl⟩, fun q => ⟨fun ⟨up, chosen⟩ room => ?_, fun out => ?_⟩⟩
  · exact State.sendAll_queued (s := s.discBegun) ((s.floodPorts_nodup none).filter _)
      (List.mem_filter.mpr ⟨State.mem_floodPorts_none.mpr up, chosen⟩) room
  · refine State.sendAll_port_of_not_mem s.discRequest s.discBegun fun on => ?_
    obtain ⟨up, chosen⟩ := List.mem_filter.mp on
    rw [State.mem_floodPorts_none] at up
    rcases out with h | h
    · rw [h] at up; exact Bool.false_ne_true up
    · rw [h] at chosen; exact Bool.false_ne_true chosen

/-- The response of a command leaves the fabric, the Vellum, the channels and the events raised. -/
theorem State.respond_leaves (op : Nat) (m : MbCmd) (r : Response) (u : State) :
    let t := (u.passItems op m).respond m.mb r
    t.fab = u.fab ∧ t.vel = u.vel ∧ t.chan = u.chan ∧ Reports u t :=
  ⟨State.respond_fab .., State.respond_vel .., State.respond_chan .., Reports.after (State.respond_reports _ _ _)⟩

theorem discoveryDone_ends {s : State} (run : s.fab.discRun = true)
    (late : s.fab.discLast + 500 * millisecond ≤ s.now ∨ s.fab.discStart + 5 * second ≤ s.now) :
    execDiscoveryDone s = .next { s with
      fab := { s.fab with
        discRun := false
        discDone := true } } := by
  have late' : s.discOver = true := by simpa [State.discOver] using late
  rw [execDiscoveryDone, run, late']
  rfl

theorem discoveryDone_idle {s : State}
    (h : s.fab.discRun = false ∨ (s.now < s.fab.discLast + 500 * millisecond ∧ s.now < s.fab.discStart + 5 * second)) :
    execDiscoveryDone s = .next s := by
  rw [execDiscoveryDone, if_pos]
  rcases h with h | h
  · simp [h]
  · simp [State.discOver, Nat.not_le.mpr h.1, Nat.not_le.mpr h.2]

/-! ### Addresses (R383, R391) -/

/-- A device that takes an address keeps it. -/
theorem State.takeAddr_spec (a : BitVec 16) (s : State) : ∃ w h r c b, s.takeAddr a = { s with
    fab := { s.fab with addr := a }
    vel := { s.vel with
      fabAddr := a
      wear := w
      wearHigh := h
      retired := r
      correctedOnce := c }
    blot := { s.blot with raised := s.blot.raised ++ b ++ [s.event 0x0D04 NOTICE 0 (a.toNat + 2 ^ 16 * s.fab.addr.toNat)] } } := by
  obtain ⟨w, h, r, c, b, e⟩ := State.persist_worn 7 1 ({ s with
    fab := { s.fab with addr := a }
    vel := { s.vel with fabAddr := a } } : State)
  refine ⟨w, h, r, c, b, ?_⟩
  rw [State.takeAddr, e]
  rfl

/-- An assignment as it goes into flight. -/
def assignOf (m : MbCmd) (ring : Bool) (uid : BitVec 64) (s : State) : Assign where
  mb := m.mb
  tag := m.tag
  quiet := m.flags.getLsbD 0
  ring := ring
  uid := uid
  id := s.fab.discId + 1
  since := s.now

/-- An assignment goes into flight. -/
def State.withAssign (m : MbCmd) (ring : Bool) (uid : BitVec 64) (s : State) : State := { s with
  fab := { s.fab with
    discId := s.fab.discId + 1
    assigns := s.fab.assigns ++ [assignOf m ring uid s] } }

/-- The ASSIGN_UID frame of an assignment. -/
def State.assignFrame (uid : BitVec 64) (a : BitVec 16) (s : State) : Frame :=
  s.ownFrame 2 0xFFFF#16 false false (discWords (s.fab.discId + 1) 2 Config.uid uid 0 a) 28

/-- The assignment of `a` to another device has left. -/
def State.assignSent (m : MbCmd) (uid : BitVec 64) (a : BitVec 16) (s : State) : State :=
  ((s.withAssign m false uid).markFlood (s.assignFrame uid a)).countFrame.sendAll (s.floodPorts none) (s.assignFrame uid a)

/-- It waits on each port that is UP and has room. -/
theorem State.assignSent_spec (m : MbCmd) (uid : BitVec 64) (a : BitVec 16) (s : State) :
    let t := s.assignSent m uid a
    (t.fab.addr = s.fab.addr ∧ t.host = s.host ∧ ∃ x, t.fab.assigns = s.fab.assigns ++ [x] ∧ x.mb = m.mb ∧ x.tag = m.tag ∧ x.ring = false ∧
      x.since = s.now ∧ x.uid = uid ∧ x.id = s.fab.discId + 1) ∧
    ∀ q : Fin 4, (s.port q).up = true → Room s q (s.assignFrame uid a) → Queued s t q (s.assignFrame uid a) := by
  intro t
  obtain ⟨v, n, b, e, -⟩ := State.sendAll_sends (s.floodPorts none) (s.assignFrame uid a)
    ((s.withAssign m false uid).markFlood (s.assignFrame uid a)).countFrame
  refine ⟨by rw [show t = _ from e]; exact ⟨rfl, rfl, _, rfl, rfl, rfl, rfl, rfl, rfl, rfl⟩, fun q up room => ?_⟩
  exact State.sendAll_queued (s := ((s.withAssign m false uid).markFlood (s.assignFrame uid a)).countFrame)
    (s.floodPorts_nodup none) (State.mem_floodPorts_none.mpr up) room

section FabAddrSet

variable {m : MbCmd} {s : State} {a : BitVec 16} (free : NoReserved m [(0, 0x0000FFFC)]) (given : a.toNat = fieldAt m.params 0 31 16)
  (a1 : 1 ≤ a.toNat) (amax : a.toNat ≤ 0x0FFF)
include free given a1 amax

theorem State.fabAddrSet_own (mode : fieldAt m.params 0 1 0 = 0) (own : BitVec.ofNat 64 (natAt64 m.params 4) = Config.uid) :
    s.fabAddrSet m = .done (s.takeAddr a) 0 [] := by
  have addr : BitVec.ofNat 16 (fieldAt m.params 0 31 16) = a := by rw [← given, BitVec.ofNat_toNat, BitVec.setWidth_eq]
  have names : addrOk a = true := by simp [addrOk, a1, amax]
  unfold State.fabAddrSet
  dsimp only
  rw [reserved_none free, mode, addr, names, if_neg (by decide), if_neg (by decide), if_neg (by simp), if_pos (by simp [own])]

theorem State.fabAddrSet_other (mode : fieldAt m.params 0 1 0 = 0) (other : BitVec.ofNat 64 (natAt64 m.params 4) ≠ Config.uid) :
    s.fabAddrSet m = .hold (s.assignSent m (BitVec.ofNat 64 (natAt64 m.params 4)) a) := by
  have addr : BitVec.ofNat 16 (fieldAt m.params 0 31 16) = a := by rw [← given, BitVec.ofNat_toNat, BitVec.setWidth_eq]
  have names : addrOk a = true := by simp [addrOk, a1, amax]
  unfold State.fabAddrSet
  dsimp only
  rw [reserved_none free, mode, addr, names, if_neg (by decide), if_neg (by decide), if_neg (by simp), if_neg (by simp [other]),
    if_pos rfl]
  rfl

theorem State.fabAddrSet_ring (mode : fieldAt m.params 0 1 0 = 1) (port : fieldAt m.params 0xC 3 0 < 2) :
    s.fabAddrSet m = .hold (((s.takeAddr a).withAssign m true 0).sendRing (Fin.ofNat 4 (fieldAt m.params 0xC 3 0))
      ((s.takeAddr a).fab.discId + 1) Config.uid (a.toNat + 1)) := by
  have addr : BitVec.ofNat 16 (fieldAt m.params 0 31 16) = a := by rw [← given, BitVec.ofNat_toNat, BitVec.setWidth_eq]
  have names : addrOk a = true := by simp [addrOk, a1, amax]
  unfold State.fabAddrSet
  dsimp only
  rw [reserved_none free, mode, addr, names, if_neg (by decide), if_neg (by decide), if_neg (by simp; omega), if_neg (by simp),
    if_neg (by decide)]
  rfl

end FabAddrSet

theorem State.sendRing_notifies (p : Fin 4) (id : BitVec 16) (origin : BitVec 64) (next : Nat) (s : State) :
    Notifies s (s.sendRing p id origin next) := by
  unfold State.sendRing
  split
  · exact .refl s
  · exact (State.sendPacket_sends _ _ _ s).notifies.trans _ _ _ (State.countFrame_notifies _)

/-- The oldest assignment ends with its response. -/
theorem State.endAssign_oldest {s : State} {a : Assign} {l : List Assign} (status detail : Nat) (assigns : s.fab.assigns = a :: l)
    (working : (s.mbox a.mb).working ≠ 0) (open_ : (s.mbox a.mb).discard = 0) :
    s.endAssign a status detail = ({ s with fab := { s.fab with assigns := l } } : State).updMb a.mb fun b => { b with
      working := b.working - 1
      done := b.done ++ [{ tag := a.tag, quiet := a.quiet, status := BitVec.ofNat 16 status, state := 0, detail := w32 detail, payload := [] }] } := by
  have oldest : eraseFirst (fun x => x == a) s.fab.assigns = l := by rw [assigns, eraseFirst, if_pos (beq_self_eq_true a)]
  rw [State.endAssign, oldest]
  exact State.respondHeld_of_open (s := { s with fab := { s.fab with assigns := l } }) _ working open_

/-! ### Routes (R372, R383) -/

/-- What an entry of a FAB_ROUTE_LOAD gives. -/
def routeOf (a b : Word) : Option Route :=
  if bit b 8 then some { dest := BitVec.ofNat 16 a.toNat, prim := bits b 3 0, alt := bits b 7 4 } else none

theorem find?_putRoute_of_ne {i j : Nat} (a b : Word) (l : List (Nat × Route)) (h : i ≠ j) :
    ((putRoute i a b l).find? fun e => e.1 == j) = l.find? fun e => e.1 == j := by
  have rest : ((l.filter fun e => e.1 != i).find? fun e => e.1 == j) = l.find? fun e => e.1 == j := by
    rw [List.find?_filter]
    refine congrArg (fun q => l.find? q) (funext fun e => ?_)
    by_cases own : e.1 = j
    · simp [own, h.symm]
    · simp [own]
  unfold putRoute
  dsimp only
  split
  · rw [List.find?_append, rest, List.find?_singleton, if_neg (by simpa using h), Option.or_none]
  · exact rest

theorem find?_putRoute_self (i : Nat) (a b : Word) (l : List (Nat × Route)) :
    ((putRoute i a b l).find? fun e => e.1 == i) = (routeOf a b).map fun r => (i, r) := by
  have gone : ((l.filter fun e => e.1 != i).find? fun e => e.1 == i) = none := by
    rw [List.find?_filter, List.find?_eq_none]
    intro e _
    simp
  unfold putRoute routeOf
  dsimp only
  split
  · rw [List.find?_append, gone, List.find?_singleton, if_pos (by simp), Option.none_or]
    rfl
  · exact gone

/-- The table after the entries that a FAB_ROUTE_LOAD names. -/
def putRoutes (p : Block) (first n : Nat) (l : List (Nat × Route)) : List (Nat × Route) :=
  (List.range n).foldl (fun l e => putRoute (first + e) (wordAt p (4 + 8 * e)) (wordAt p (8 + 8 * e)) l) l

theorem putRoutes_succ (p : Block) (first n : Nat) (l : List (Nat × Route)) :
    putRoutes p first (n + 1) l = putRoute (first + n) (wordAt p (4 + 8 * n)) (wordAt p (8 + 8 * n)) (putRoutes p first n l) := by
  rw [putRoutes, List.range_succ, List.foldl_append]
  rfl

theorem find?_putRoutes_outside {p : Block} {first n i : Nat} (l : List (Nat × Route)) (h : i < first ∨ first + n ≤ i) :
    ((putRoutes p first n l).find? fun e => e.1 == i) = l.find? fun e => e.1 == i := by
  induction n with
  | zero => rfl
  | succ n ih => rw [putRoutes_succ, find?_putRoute_of_ne _ _ _ (by omega), ih (by omega)]

theorem find?_putRoutes_inside {p : Block} {first n e : Nat} (l : List (Nat × Route)) (h : e < n) :
    ((putRoutes p first n l).find? fun x => x.1 == first + e) =
      (routeOf (wordAt p (4 + 8 * e)) (wordAt p (8 + 8 * e))).map fun r => (first + e, r) := by
  induction n with
  | zero => omega
  | succ n ih =>
    rw [putRoutes_succ]
    rcases Nat.lt_succ_iff_lt_or_eq.mp h with h | rfl
    · rw [find?_putRoute_of_ne _ _ _ (by omega), ih h]
    · exact find?_putRoute_self _ _ _ _

/-- The table that is loaded and kept. -/
def State.withRoutes (l : List (Nat × Route)) (n : Nat) (s : State) : State :=
  ({ s with
    fab := { s.fab with
      routes := l
      loaded := true }
    vel := { s.vel with fabRoutes := l } } : State).persist 7 n

theorem State.withRoutes_worn (l : List (Nat × Route)) (n : Nat) (s : State) : Worn ({ s with
    fab := { s.fab with
      routes := l
      loaded := true }
    vel := { s.vel with fabRoutes := l } } : State) (s.withRoutes l n) := State.persist_worn _ _ _

theorem State.routeLoad_loads {m : MbCmd} {s : State} (free : NoReserved m [(0, 0xFF000000)])
    (fits : fieldAt m.params 0 15 0 + fieldAt m.params 0 23 16 ≤ 4096) :
    s.routeLoad m = .done (s.withRoutes (putRoutes m.params (fieldAt m.params 0 15 0) (fieldAt m.params 0 23 16) s.fab.routes)
      (fieldAt m.params 0 23 16)) 0 [] := by
  unfold State.routeLoad
  dsimp only
  rw [reserved_none free, if_neg (by omega)]
  rfl

end Sys2Proof.Machine

namespace Sys2Proof

open Sys2Proof.Machine Sys2Proof.Safety

/-- Settles O49: the own part of each command, and the end of a discovery and of an assignment. -/
theorem fabricCommandsComplete : Obligations.FabricCommandsComplete := by
  refine ⟨fun m s granted target len free read => ?_, fun m s granted target len free start idle => ?_,
    fun m s granted target len start busy => ?_, fun s run late => discoveryDone_ends run late, fun s h => discoveryDone_idle h,
    fun m s a granted target len free given a1 amax mode own => ?_, fun m s a granted target len free given a1 amax mode other => ?_,
    fun m s a granted target len free given a1 amax mode port => ?_, fun s a l assigns late working open_ => ?_, fun s h => ?_,
    fun m s n first granted target hn hfirst n1 n28 len free fits => ?_, fun m s granted target len => ?_⟩
  · have own := State.fabDiscover_reads (s := s.takeOff 0x0A01 m) free read
    rw [State.takeOff_discPayload] at own
    exact congrArg Host.Outcome.next (devHdr_completes (ld := false) (eff := id) granted target len (by decide) (by decide) own)
  · obtain ⟨p, own⟩ := State.fabDiscover_starts (s := s.takeOff 0x0A01 m) free start (by simpa using idle)
    have runs : (devHdr 0x0A01 24 2 false).run (fun m t => t.fabDiscover m) m s = _ :=
      (devHdr_run granted target len (by decide)).trans (congrArg ((devHdr 0x0A01 24 2 false).conclude m (s.takeOff 0x0A01 m)) own)
    have request : (s.takeOff 0x0A01 m).discRequest = s.discRequest := by
      obtain ⟨_, _, _, h⟩ := s.takeOff_cases 0x0A01 m
      rw [h]; rfl
    obtain ⟨begun, ports⟩ := (s.takeOff 0x0A01 m).discStarted_spec (fieldAt m.params 0 3 0)
    simp only [State.takeOff_fab, State.takeOff_chan, State.takeOff_port, request] at begun ports
    refine ⟨_, congrArg Host.Outcome.next runs, ?_⟩
    rw [Hdr.conclude_accepted]
    generalize State.discStarted _ _ = u at begun ports ⊢
    obtain ⟨fab, -, chan, -⟩ := State.respond_leaves (devHdr 0x0A01 24 2 false).opcode m (answerTo m RC_OK 0 0 p) u
    obtain ⟨run, now, id, done, found, results, fseq, chan'⟩ := begun
    have port : ∀ q, (State.respond m.mb (answerTo m RC_OK 0 0 p) (u.passItems (devHdr 0x0A01 24 2 false).opcode m)).port q = u.port q :=
      fun q => congrArg (fun f : Fabric => vget f.port q) fab
    refine ⟨(congrArg Fabric.discRun fab).trans run, (congrArg Fabric.discNow fab).trans now, (congrArg Fabric.discId fab).trans id,
      (congrArg Fabric.discDone fab).trans done, (congrArg Fabric.found fab).trans found, (congrArg Fabric.results fab).trans results,
      (congrArg Fabric.fseq fab).trans fseq, chan.trans chan', fun q => ⟨fun up room => ?_, fun out => (port q).trans ((ports q).2 out)⟩⟩
    have queued := (ports q).1 up (by rw [Room, State.takeOff_port]; exact room)
    rw [Queued, State.takeOff_port] at queued
    exact (congrArg (fun x : Port => x.queue 1) (port q)).trans queued
  · have own := State.fabDiscover_busy (s := s.takeOff 0x0A01 m) start (by simpa using busy)
    refine congrArg Host.Outcome.next ((devHdr_run (own := fun m t => t.fabDiscover m) (ld := false) granted target len (by decide)).trans ?_)
    rw [own, Hdr.conclude_refuse, Hdr.stateCode_none target (by decide)]
    rfl
  · have done := State.fabAddrSet_own (s := s.takeOff 0x0A02 m) free given a1 amax mode own
    obtain ⟨w, h, r, c, b, e⟩ := (s.takeOff 0x0A02 m).takeAddr_spec a
    have answers := devHdr_completes (ld := false) (own := fun m t => t.fabAddrSet m) (eff := State.takeAddr a) granted target len
      (by decide) (by decide) done
    obtain ⟨fab, vel, chan, told⟩ := State.respond_leaves 0x0A02 m (okAnswer m 0 0 []) ((s.takeOff 0x0A02 m).takeAddr a)
    refine ⟨_, congrArg Host.Outcome.next answers, ?_⟩
    dsimp only at fab vel chan told ⊢
    rw [fab, vel, chan]
    refine ⟨by rw [e], by rw [e], by rw [e]; simp, told.mem ?_, by rw [e]; simp⟩
    rw [e]
    simp [State.event]
  · have holds := State.fabAddrSet_other (s := s.takeOff 0x0A02 m) free given a1 amax mode other
    have frame : (s.takeOff 0x0A02 m).assignFrame (BitVec.ofNat 64 (natAt64 m.params 4)) a =
        s.assignFrame (BitVec.ofNat 64 (natAt64 m.params 4)) a := by
      obtain ⟨_, _, _, h⟩ := s.takeOff_cases 0x0A02 m
      rw [h]; rfl
    have runs : (devHdr 0x0A02 32 2 false).run (fun m t => t.fabAddrSet m) m s = _ :=
      (devHdr_run granted target len (by decide)).trans (congrArg ((devHdr 0x0A02 32 2 false).conclude m (s.takeOff 0x0A02 m)) holds)
    refine ⟨_, congrArg Host.Outcome.next runs, ?_⟩
    obtain ⟨⟨addr, host, x, assigns, mb, tag, ring, since, uid, id⟩, ports⟩ :=
      (s.takeOff 0x0A02 m).assignSent_spec m (BitVec.ofNat 64 (natAt64 m.params 4)) a
    rw [Hdr.conclude_hold]
    generalize State.assignSent _ _ _ _ = u at addr host assigns ports ⊢
    rw [frame] at ports
    simp only [State.takeOff_fab, State.takeOff_now, State.takeOff_port] at addr assigns since id ports
    have box : u.mbox m.mb = (s.takeOff 0x0A02 m).mbox m.mb := congrArg (fun h : HostIf => vget h.mb m.mb) host
    refine ⟨addr, ?_, ?_, ⟨x, assigns, mb, tag, ring, since, uid, id⟩, fun q up room => ?_⟩
    · rw [State.updMb_mbox, box, State.takeOff_mb_working]
    · rw [State.updMb_mbox, box, State.takeOff_mb_done]
    · have queued := ports q up (by rw [Room, State.takeOff_port]; exact room)
      rw [Queued, State.takeOff_port] at queued
      exact queued
  · have holds := State.fabAddrSet_ring (s := s.takeOff 0x0A02 m) free given a1 amax mode port
    have runs : (devHdr 0x0A02 32 2 false).run (fun m t => t.fabAddrSet m) m s = _ :=
      (devHdr_run granted target len (by decide)).trans (congrArg ((devHdr 0x0A02 32 2 false).conclude m (s.takeOff 0x0A02 m)) holds)
    refine ⟨_, congrArg Host.Outcome.next runs, ?_⟩
    obtain ⟨w, h, r, c, b, taken⟩ := (s.takeOff 0x0A02 m).takeAddr_spec a
    obtain ⟨v, n, q, fl, nt, su, ev, lf, b', sent, -⟩ := State.sendRing_notifies (Fin.ofNat 4 (fieldAt m.params 0xC 3 0))
      (((s.takeOff 0x0A02 m).takeAddr a).fab.discId + 1) Config.uid (a.toNat + 1) (((s.takeOff 0x0A02 m).takeAddr a).withAssign m true 0)
    rw [Hdr.conclude_hold, sent, taken]
    refine ⟨rfl, rfl, ?_, assignOf m true 0 (s.takeOff 0x0A02 m), ?_, rfl, rfl, ?_, ?_⟩
    · exact (congrArg Mailbox.working (State.updMb_mbox _ _ _)).trans (congrArg (· + 1) (State.takeOff_mb_working 0x0A02 m s m.mb))
    · have before : (s.takeOff 0x0A02 m).fab.assigns ++ [assignOf m true 0 (s.takeOff 0x0A02 m)] =
          s.fab.assigns ++ [assignOf m true 0 (s.takeOff 0x0A02 m)] := by rw [State.takeOff_fab]
      exact before
    · exact State.takeOff_now 0x0A02 m s
    · exact congrArg (fun f : Fabric => f.discId + 1) (State.takeOff_fab 0x0A02 m s)
  · have oldest := State.endAssign_oldest RC_TIMEOUT 1000 assigns working open_
    refine ⟨s.endAssign a RC_TIMEOUT 1000, ?_, ?_⟩
    · show execFabAssignTimeout s = _
      rw [execFabAssignTimeout, assigns]
      exact congrArg Host.Outcome.next (if_pos late)
    · dsimp only
      rw [oldest, State.updMb_mbox]
      exact ⟨rfl, rfl, _, rfl, rfl, rfl, rfl⟩
  · show execFabAssignTimeout s = _
    rw [execFabAssignTimeout]
    cases assigns : s.fab.assigns with
    | nil => rfl
    | cons a l => exact congrArg Host.Outcome.next (if_neg (Nat.not_le.mpr (h a l assigns)))
  · subst hn hfirst
    have lenOk : routeLenOk m = true := by simp [routeLenOk, n1, n28, len]
    have done := State.routeLoad_loads (s := s.takeOff 0x0A03 m) free fits
    rw [State.takeOff_fab] at done
    obtain ⟨w, h, r, c, b, e⟩ := (s.takeOff 0x0A03 m).withRoutes_worn (putRoutes m.params (fieldAt m.params 0 15 0)
      (fieldAt m.params 0 23 16) s.fab.routes) (fieldAt m.params 0 23 16)
    have answers := Hdr.run_none_done
      (h := { opcode := 0x0A03, lenOk := routeLenOk, minLen := 28, auth := fun _ => 2 }) (own := fun m t => t.routeLoad m)
      (eff := State.withRoutes (putRoutes m.params (fieldAt m.params 0 15 0) (fieldAt m.params 0 23 16) s.fab.routes)
        (fieldAt m.params 0 23 16)) granted target rfl lenOk (fun _ => rfl) (by decide) done
    obtain ⟨fab, vel, chan, -⟩ := State.respond_leaves 0x0A03 m (okAnswer m 0 0 []) ((s.takeOff 0x0A03 m).withRoutes (putRoutes m.params
      (fieldAt m.params 0 15 0) (fieldAt m.params 0 23 16) s.fab.routes) (fieldAt m.params 0 23 16))
    refine ⟨_, congrArg Host.Outcome.next answers, ?_⟩
    have fab' := fab.trans (congrArg State.fab e)
    have routes : _ = putRoutes m.params (fieldAt m.params 0 15 0) (fieldAt m.params 0 23 16) s.fab.routes := congrArg Fabric.routes fab'
    have kept := congrArg Vellum.fabRoutes (vel.trans (congrArg State.vel e))
    refine ⟨congrArg Fabric.loaded fab', kept.trans routes.symm, (congrArg Fabric.addr fab').trans (by simp),
      (chan.trans (congrArg State.chan e)).trans (State.takeOff_chan ..), fun i out => ?_, fun k inside => ?_⟩
    · exact (congrArg (fun l => l.find? fun e => e.1 == i) routes).trans (find?_putRoutes_outside _ out)
    · refine (congrArg (fun l => l.find? fun x => x.1 == fieldAt m.params 0 15 0 + k) routes).trans
        ((find?_putRoutes_inside _ inside).trans ?_)
      unfold routeOf bitAt
      split <;> rfl
  · rw [← State.takeOff_fabWords 0x0A04 m s]
    exact congrArg Host.Outcome.next (devHdr_completes (ld := false) (eff := id) granted target len (by decide) (by decide) rfl)

end Sys2Proof
end

section
/-! PROOF. Steps of TIME (R402, R403, R411, R417). -/

namespace Sys2Proof.Machine

open Sys2Proof Sys2Proof.Safety

/-! ### Steps of TIME (R402, R403, R411, R417) -/

theorem State.closeInterval_reports (n : Fin 256) (s : State) : Reports s (s.closeInterval n) := by
  rw [State.closeInterval]
  exact (State.record_reports _ s).trans _ _ _ (.of_blot (State.openInterval_blot _ _))

/-- What the intervals' records leave: the timebase, the cycle, and the events raised. -/
def KeepsTb (s t : State) : Prop := t.tb = s.tb ∧ t.now = s.now ∧ Reports s t

theorem KeepsTb.refl (s : State) : KeepsTb s s := ⟨rfl, rfl, .refl s⟩

theorem KeepsTb.trans (s t u : State) : KeepsTb s t → KeepsTb t u → KeepsTb s u := by
  rintro ⟨tb, now, told⟩ ⟨tb', now', told'⟩
  exact ⟨tb'.trans tb, now'.trans now, told.trans _ _ _ told'⟩

theorem State.stepInterval_keepsTb (n : Fin 256) (s : State) : KeepsTb s (s.stepInterval n) := by
  unfold State.stepInterval
  split
  · exact ⟨State.closeInterval_tb _ _, State.closeInterval_now _ _, State.closeInterval_reports _ _⟩
  · exact .refl s

theorem State.stepOpen_keepsTb (n : Fin 256) (s : State) : KeepsTb s (s.stepOpen n) := by
  unfold State.stepOpen
  split
  · exact ⟨State.openInterval_tb _ _, State.openInterval_now _ _, .of_blot (State.openInterval_blot _ _)⟩
  · exact .refl s

/-- The timebase that has stepped to `new`. -/
def Timebase.stepped (new : Nat) (t : Timebase) : Timebase :=
  { t with
    time := new
    frac := 0
    era := if new < t.time then (t.era + 1) % 256 else t.era
    slew := none }

/-- The step itself, between the records that it closes and opens. -/
def State.stepRecords (new : Nat) (s : State) : State :=
  forAll State.stepOpen allChannels ((forAll State.stepInterval allChannels s).updTb fun t => { t with
    time := new
    frac := 0
    era := if new < s.tb.time then (s.tb.era + 1) % 256 else s.tb.era
    slew := none })

theorem State.stepRecords_spec (new : Nat) (s : State) :
    (s.stepRecords new).tb = s.tb.stepped new ∧ (s.stepRecords new).now = s.now ∧ Reports s (s.stepRecords new) := by
  have closed := forAll_rel KeepsTb.refl KeepsTb.trans State.stepInterval_keepsTb allChannels s
  unfold State.stepRecords
  generalize forAll State.stepInterval allChannels s = u at closed ⊢
  obtain ⟨tb, now, told⟩ := closed
  have opened := forAll_rel KeepsTb.refl KeepsTb.trans State.stepOpen_keepsTb allChannels (u.updTb fun t => { t with
    time := new
    frac := 0
    era := if new < s.tb.time then (s.tb.era + 1) % 256 else s.tb.era
    slew := none })
  generalize forAll State.stepOpen allChannels _ = v at opened ⊢
  obtain ⟨tb', now', told'⟩ := opened
  refine ⟨tb'.trans ?_, now'.trans now, told.trans _ _ _ (Reports.after told')⟩
  rw [State.updTb, tb]
  rfl

/-- PARAM of the 0x0E03 of a step. -/
def State.stepParam (own new : Nat) (s : State) : Nat :=
  clipBits 48 ((new : Int) - s.tb.time) + 2 ^ 48 * (if new < s.tb.time then (s.tb.era + 1) % 256 else s.tb.era)
    + 2 ^ 56 * (if s.tb.valid then own else 2)

/-- The step is told: its record, TIME_MARK, 0x0E03 and vector 18. -/
def State.stepTold (own new : Nat) (s : State) : State :=
  ((((s.stepRecords new).eraStep s.tb.era s.tb.time).markTime).raise 0x0E03 NOTICE 0 (s.stepParam own new)).irq 18

/-- TIME_MARK is written; the timebase, the cycle, the records and the events raised stay. -/
theorem State.markTime_spec (s : State) : s.markTime.tb = s.tb ∧ s.markTime.now = s.now ∧ s.markTime.ink = s.ink ∧
    Reports s s.markTime ∧ s.markTime.vel.timeMark = some (s.tb.time / 1000000, s.tb.era) := by
  have mark : s.markTime.vel.timeMark = some (s.tb.time / 1000000, s.tb.era) := State.persist_timeMark 0 1 _
  refine ⟨?_, ?_, ?_, ?_, mark⟩ <;> unfold State.markTime <;> generalize some (s.tb.time / 1000000, s.tb.era) = x
  all_goals
    obtain ⟨w, h, r, c, b, e⟩ := State.persist_worn 0 1 ({ s with vel := { s.vel with timeMark := x } } : State)
    rw [e]
  exact List.prefix_append _ _

/-- What is told after a change of the timebase to `x`. -/
theorem State.told_step {s u t : State} {x : Timebase} {old oldTime p : Nat}
    (is : t = (((u.eraStep old oldTime).markTime).raise 0x0E03 NOTICE 0 p).irq 18) (tb : u.tb = x) (now : u.now = s.now)
    (told : Reports s u) :
    t.tb = x ∧ t.now = s.now ∧ Reports s t ∧ (∃ p, t.event 0x0E03 NOTICE 0 p ∈ t.blot.raised) ∧
      t.vel.timeMark = some (x.time / 1000000, x.era) ∧ t.ink.waiting ≠ [] := by
  obtain ⟨tb', now', ink', told', mark⟩ := (u.eraStep old oldTime).markTime_spec
  have record : (u.eraStep old oldTime).markTime.ink.waiting ≠ [] := by
    rw [ink']
    exact List.append_ne_nil_of_right_ne_nil _ (List.cons_ne_nil _ _)
  rw [show (u.eraStep old oldTime).tb = x from tb] at mark
  subst is
  exact ⟨tb'.trans tb, now'.trans now, Reports.raise _ _ _ _ (told.trans _ _ _ (Reports.after told')),
    ⟨p, List.mem_append_right _ (List.mem_singleton.mpr rfl)⟩, mark, record⟩

/-- What a step has told. -/
theorem State.stepTold_spec (own new : Nat) (s : State) :
    (s.stepTold own new).tb = s.tb.stepped new ∧ (s.stepTold own new).now = s.now ∧ Reports s (s.stepTold own new) ∧
      (∃ p, (s.stepTold own new).event 0x0E03 NOTICE 0 p ∈ (s.stepTold own new).blot.raised) ∧
      (s.stepTold own new).vel.timeMark = some ((s.tb.stepped new).time / 1000000, (s.tb.stepped new).era) ∧
      (s.stepTold own new).ink.waiting ≠ [] := by
  obtain ⟨tb, now, told⟩ := s.stepRecords_spec new
  exact State.told_step rfl tb now told

/-- What an entry that fires leaves. -/
structure KeepsTime (s t : State) : Prop where
  time : t.tb.time = s.tb.time
  era : t.tb.era = s.tb.era
  servo : t.tb.servo = s.tb.servo
  slew : t.tb.slew = s.tb.slew
  now : t.now = s.now
  vel : t.vel = s.vel
  ink : t.ink = s.ink
  told : Reports s t

theorem KeepsTime.refl (s : State) : KeepsTime s s := ⟨rfl, rfl, rfl, rfl, rfl, rfl, rfl, .refl s⟩

theorem KeepsTime.trans (s t u : State) (h : KeepsTime s t) (h' : KeepsTime t u) : KeepsTime s u :=
  ⟨h'.time.trans h.time, h'.era.trans h.era, h'.servo.trans h.servo, h'.slew.trans h.slew, h'.now.trans h.now, h'.vel.trans h.vel,
    h'.ink.trans h.ink, h.told.trans _ _ _ h'.told⟩

theorem State.setEntry_keepsTime (i : Nat) (x : TimeOut) (s : State) : KeepsTime s (s.setEntry i x) := by
  unfold State.setEntry State.updTb
  dsimp only
  split <;> exact ⟨rfl, rfl, rfl, rfl, rfl, rfl, rfl, .of_blot rfl⟩

theorem State.fire_keepsTime (i : Nat) (s : State) : KeepsTime s (s.fire i) := by
  by_cases out : i < 4
  · rw [State.fire_output s out]
    exact State.setEntry_keepsTime _ _ s
  · rw [State.fire_slot s out]
    exact (State.setEntry_keepsTime _ _ s).trans _ _ _ ⟨rfl, rfl, rfl, rfl, rfl, rfl, rfl, .of_blot rfl⟩

theorem State.missed_keepsTime (i : Nat) (s : State) : KeepsTime s (s.missed i) := by
  unfold State.missed
  dsimp only
  split
  · exact .refl s
  · exact (State.fire_keepsTime i s).trans _ _ _ ⟨rfl, rfl, rfl, rfl, rfl, rfl, rfl, .raise _ _ _ _ (.refl _)⟩

theorem State.stepTo_same (own : Nat) (s : State) : State.stepTo own s.tb.time s = s := if_pos rfl

theorem State.stepTo_keepsTime {own new : Nat} {s : State} (other : new ≠ s.tb.time) : KeepsTime (s.stepTold own new) (State.stepTo own new s) := by
  have steps : State.stepTo own new s = if s.tb.time < new then forAll State.missed (List.range 20) (s.stepTold own new) else s.stepTold own new :=
    if_neg other
  rw [steps]
  split
  · exact forAll_rel KeepsTime.refl KeepsTime.trans State.missed_keepsTime _ _
  · exact .refl _

/-- A step of TIME: TIME, era and slew; a step that is one is told, recorded and marked. -/
theorem State.stepTo_spec (own new : Nat) (s : State) :
    let t := State.stepTo own new s
    t.tb.time = new ∧ t.tb.era = (if new < s.tb.time then (s.tb.era + 1) % 256 else s.tb.era) ∧ t.tb.servo = s.tb.servo ∧
      (s.tb.slew = none → t.tb.slew = none) ∧ t.now = s.now ∧ Reports s t ∧
      (new ≠ s.tb.time → (∃ p, t.event 0x0E03 NOTICE 0 p ∈ t.blot.raised) ∧ t.vel.timeMark = some (new / 1000000, t.tb.era) ∧
        t.ink.waiting ≠ []) := by
  intro t
  rcases eq_or_ne new s.tb.time with rfl | other
  · have same : t = s := State.stepTo_same own s
    rw [same]
    exact ⟨rfl, (if_neg (lt_irrefl _)).symm, rfl, id, rfl, .refl s, fun h => absurd rfl h⟩
  · obtain ⟨tb, now, told, ⟨p, raised⟩, mark, record⟩ := s.stepTold_spec own new
    have kept : KeepsTime (s.stepTold own new) t := State.stepTo_keepsTime other
    have era : t.tb.era = (s.tb.stepped new).era := kept.era.trans (congrArg Timebase.era tb)
    refine ⟨kept.time.trans (congrArg Timebase.time tb), era, (by rw [kept.servo, tb]; rfl),
      fun _ => (by rw [kept.slew, tb]; rfl), kept.now.trans now, told.trans _ _ _ kept.told,
      fun _ => ⟨⟨p, ?_⟩, ?_, ?_⟩⟩
    · have same : t.event 0x0E03 NOTICE 0 p = (s.stepTold own new).event 0x0E03 NOTICE 0 p := by
        simp only [State.event, kept.time, kept.era]
      rw [same]
      exact kept.told.mem raised
    · rw [kept.vel, mark, era]
      rfl
    · rw [kept.ink]
      exact record

end Sys2Proof.Machine
end

section
/-! PROOF. The time commands (R373, R402, R406, R411 to R413, R415, R418); O51. -/

namespace Sys2Proof.Machine

open Sys2Proof Sys2Proof.Safety

/-! ### The time commands (R373, R406) -/

/-- The response of a command leaves what it does not answer with. -/
theorem State.respond_keeps (op : Nat) (m : MbCmd) (r : Response) (u : State) :
    let t := (u.passItems op m).respond m.mb r
    t.tb = u.tb ∧ t.vel = u.vel ∧ t.ink = u.ink ∧ t.now = u.now ∧ t.chan = u.chan ∧ Reports u t ∧
      ((u.mbox m.mb).discard = 0 → (t.mbox m.mb).done = (u.mbox m.mb).done ++ [r]) := by
  obtain ⟨x, q, b, mb, e, -⟩ := State.respond_onlyAnswers m.mb r (u.passItems op m)
  exact ⟨by rw [e]; rfl, by rw [e]; rfl, by rw [e]; rfl, by rw [e]; rfl, by rw [e]; rfl, Reports.after (State.respond_reports _ _ _),
    fun open_ => State.respond_done_of_open r open_⟩

/-! ### TIME_CONFIG -/

/-- The servo changes state; vectors alone may follow. -/
theorem State.setServo_eq (v : Servo) (s : State) : ∃ h, s.setServo v = { s with
    tb := { s.tb with servo := v }
    host := h } := by
  unfold State.setServo
  dsimp only
  split
  · exact ⟨_, rfl⟩
  · exact ⟨s.host, rfl⟩

theorem tcRole_blockFit (p : Block) : tcRole (blockFit 6 p) = tcRole p := congrArg (bits · 1 0) (wordAt_blockFit p (by decide))
theorem tcDomain_blockFit (p : Block) : tcDomain (blockFit 6 p) = tcDomain p := congrArg (bits · 15 8) (wordAt_blockFit p (by decide))
theorem tcP2p_blockFit (p : Block) : tcP2p (blockFit 6 p) = tcP2p p := congrArg (bit · 2) (wordAt_blockFit p (by decide))

/-- What a new configuration does with the servo (R406). -/
theorem State.applyTimeConfig_spec (old new : Block) (s : State) :
    let t := s.applyTimeConfig old new
    t.tb.cfg = s.tb.cfg ∧ t.vel = s.vel ∧ t.tb.time = s.tb.time ∧ t.tb.era = s.tb.era ∧ t.chan = s.chan ∧
      (tcRole new = 2 → t.tb.servo = .free ∧ t.tb.master = none) ∧ (tcRole new = 0 → s.tb.servo = .master → t.tb.servo = .free) ∧
      (tcRole new = 1 → tcDomain old = tcDomain new → tcP2p old = tcP2p new → t.tb.servo = s.tb.servo) ∧
      (tcRole new ≠ 2 → s.tb.servo = .locked → tcDomain old ≠ tcDomain new → t.tb.servo = .locking) := by
  obtain ⟨h, free⟩ := s.setServo_eq .free
  obtain ⟨h', locking⟩ := s.setServo_eq .locking
  unfold State.applyTimeConfig
  dsimp only
  rw [free, locking]
  by_cases off : tcRole new = 2
  · rw [if_pos off]
    exact ⟨rfl, rfl, rfl, rfl, rfl, fun _ => ⟨rfl, rfl⟩, fun _ _ => rfl, fun one => absurd (one.symm.trans off) (by decide),
      fun other => absurd off other⟩
  · rw [if_neg off]
    by_cases gives : tcRole new = 0 ∧ s.tb.servo = .master
    · obtain ⟨slave, master⟩ := gives
      rw [if_pos (by simp [slave, master])]
      exact ⟨rfl, rfl, rfl, rfl, rfl, fun two => absurd two off, fun _ _ => rfl, fun one => absurd (one.symm.trans slave) (by decide),
        fun _ locked => by rw [locked] at master; contradiction⟩
    · rw [if_neg (by simpa using gives)]
      by_cases moved : tcDomain old ≠ tcDomain new ∨ tcP2p old ≠ tcP2p new
      · by_cases locked : s.tb.servo = .locked
        · rw [if_pos (by simpa [locked] using moved)]
          exact ⟨rfl, rfl, rfl, rfl, rfl, fun two => absurd two off, fun z master => absurd ⟨z, master⟩ gives,
            fun _ d p => absurd moved (by simp [d, p]), fun _ _ _ => rfl⟩
        · rw [if_neg (by simp [locked])]
          exact ⟨rfl, rfl, rfl, rfl, rfl, fun two => absurd two off, fun z master => absurd ⟨z, master⟩ gives, fun _ _ _ => rfl,
            fun _ h => absurd h locked⟩
      · rw [if_neg (by simp only [not_or, not_not] at moved; simp [moved])]
        exact ⟨rfl, rfl, rfl, rfl, rfl, fun two => absurd two off, fun z master => absurd ⟨z, master⟩ gives, fun _ _ _ => rfl,
          fun _ _ d => absurd (.inl d) moved⟩

/-- The configuration that is stored and kept. -/
def State.withTimeConfig (c : Block) (s : State) : State :=
  ({ s with
    tb := { s.tb with cfg := c }
    vel := { s.vel with timeCfg := some c } } : State).persist 7 3

theorem State.withTimeConfig_spec (c : Block) (s : State) :
    (s.withTimeConfig c).tb = { s.tb with cfg := c } ∧ (s.withTimeConfig c).vel.timeCfg = some c ∧ (s.withTimeConfig c).chan = s.chan := by
  obtain ⟨w, h, r, k, b, e⟩ := State.persist_worn 7 3 ({ s with
    tb := { s.tb with cfg := c }
    vel := { s.vel with timeCfg := some c } } : State)
  rw [State.withTimeConfig, e]
  exact ⟨rfl, rfl, rfl⟩

theorem exec_timeConfig {m : MbCmd} {s : State} (granted : Granted 0x0B01 2 m s) (target : m.target = 0) (len : m.length = 40)
    (free : NoReserved m [(0, 8)]) (legal : tcRole m.params ≠ 3) :
    exec (.timeConfig m) s = .next (((((s.takeOff 0x0B01 m).withTimeConfig (blockFit 6 m.params)).applyTimeConfig
      (s.takeOff 0x0B01 m).tb.cfg (blockFit 6 m.params)).passItems 0x0B01 m).respond m.mb (okAnswer m 0 0 [])) := by
  refine congrArg Host.Outcome.next (Hdr.run_none_done (h := timeHdr 0x0B01 40 2)
    (eff := fun t => (t.withTimeConfig (blockFit 6 m.params)).applyTimeConfig t.tb.cfg (blockFit 6 m.params)) granted target rfl
    (lenIs_of len (by decide)) (fun _ => rfl) (by decide) ?_)
  rw [reserved_none free, if_neg legal]
  rfl

/-! ### TIME_SET and TIME_SLEW -/

theorem State.whileFree_of {s : State} {k : Verdict} (h : s.tb.servo = .free ∨ s.tb.servo = .holdover) : s.whileFree k = k :=
  if_pos (by simpa using h)

theorem State.whileFree_of_not {s : State} {k : Verdict} (h : s.tb.servo = .locking ∨ s.tb.servo = .locked ∨ s.tb.servo = .master) :
    s.whileFree k = .refuse RC_STATE s.tb.servo.code [] := by
  refine if_neg ?_
  rcases h with h | h | h <;> simp [h]

/-- TIME is set: a slew ends, the step is made, and the time of day is valid. -/
def State.timeSet (v : Nat) (s : State) : State :=
  ((State.stepTo 1 v (s.updTb fun b => { b with slew := none })).updTb fun b => { b with valid := true }).raise 0x0E09 NOTICE 0 v

theorem State.timeSet_spec (v : Nat) (s : State) :
    let t := s.timeSet v
    t.tb.time = v ∧ t.tb.valid = true ∧ t.tb.slew = none ∧ t.tb.servo = s.tb.servo ∧ t.now = s.now ∧
      t.tb.era = (if v < s.tb.time then (s.tb.era + 1) % 256 else s.tb.era) ∧ t.event 0x0E09 NOTICE 0 v ∈ t.blot.raised ∧
      (v ≠ s.tb.time → (∃ p, t.event 0x0E03 NOTICE 0 p ∈ t.blot.raised) ∧ t.vel.timeMark = some (v / 1000000, t.tb.era) ∧
        t.ink.waiting ≠ []) := by
  obtain ⟨time, era, servo, slew, now, -, tells⟩ := State.stepTo_spec 1 v (s.updTb fun b => { b with slew := none })
  unfold State.timeSet
  generalize State.stepTo 1 v (s.updTb fun b => { b with slew := none }) = u at time era servo slew now tells ⊢
  refine ⟨time, rfl, slew rfl, servo, now, era, List.mem_append_right _ (List.mem_singleton.mpr rfl), fun other => ?_⟩
  obtain ⟨⟨p, told⟩, mark, record⟩ := tells other
  exact ⟨⟨p, List.mem_append_left _ told⟩, mark, record⟩

theorem exec_timeSet {m : MbCmd} {s : State} (granted : Granted 0x0B02 2 m s) (target : m.target = 0) (len : m.length = 24)
    (free : s.tb.servo = .free ∨ s.tb.servo = .holdover) :
    exec (.timeSet m) s = .next ((((s.takeOff 0x0B02 m).timeSet (natAt64 m.params 0)).passItems 0x0B02 m).respond m.mb (okAnswer m 0 0 [])) :=
  congrArg Host.Outcome.next (Hdr.run_none_done (h := timeHdr 0x0B02 24 2) (eff := State.timeSet (natAt64 m.params 0)) granted target rfl
    (lenIs_of len (by decide)) (fun _ => rfl) (by decide) (State.whileFree_of (by simpa using free)))

theorem exec_timeSet_refused {m : MbCmd} {s : State} (granted : Granted 0x0B02 2 m s) (target : m.target = 0) (len : m.length = 24)
    (busy : s.tb.servo = .locking ∨ s.tb.servo = .locked ∨ s.tb.servo = .master) :
    exec (.timeSet m) s = .next ((s.takeOff 0x0B02 m).respond m.mb (answerTo m 0x0201 0 s.tb.servo.code [])) := by
  refine congrArg Host.Outcome.next ((Hdr.run_granted' (h := timeHdr 0x0B02 24 2) granted (lenIs_of len (by decide))
    (Hdr.targetOk_none target rfl) fun _ => rfl).trans ?_)
  rw [State.whileFree_of_not (by simpa using busy), Hdr.conclude_refuse, Hdr.stateCode_none target (by decide), State.takeOff_tb]
  rfl

/-- The slew that a TIME_SLEW begins. -/
def slewOf (p : Block) (ppb : Nat) : Slew where
  left := (intAt64 p 0).natAbs * 2 ^ 32
  neg := decide (intAt64 p 0 < 0)
  ppb := ppb
  total := intAt64 p 0

/-- A slew that replaces the one in progress. -/
def State.withSlew (x : Slew) (s : State) : State := s.updTb fun t => { t with slew := some x }

/-- Its duration in ns, rounded up. -/
def slewTime (p : Block) (ppb : Nat) : Nat := ((intAt64 p 0).natAbs * 1000000000 + ppb - 1) / ppb

theorem slewTime_spec (p : Block) {ppb : Nat} (h : 1 ≤ ppb) :
    ppb * slewTime p ppb < (intAt64 p 0).natAbs * 1000000000 + ppb ∧ (intAt64 p 0).natAbs * 1000000000 ≤ ppb * slewTime p ppb := by
  unfold slewTime
  generalize (intAt64 p 0).natAbs * 1000000000 = n
  have split_ := Nat.div_add_mod (n + ppb - 1) ppb
  have rest := Nat.mod_lt (n + ppb - 1) h
  omega

theorem State.timeSlew_slews {m : MbCmd} {s : State} (free : s.tb.servo = .free ∨ s.tb.servo = .holdover) (low : 1 ≤ natAt m.params 8)
    (high : natAt m.params 8 ≤ 500000) :
    s.timeSlew m = .done (s.withSlew (slewOf m.params (natAt m.params 8))) 0 (words64 (slewTime m.params (natAt m.params 8))) := by
  have range : (decide (natAt m.params 8 < 1) || decide (500000 < natAt m.params 8)) = false := by
    simp only [Bool.or_eq_false_iff, decide_eq_false_iff_not]
    omega
  unfold State.timeSlew
  dsimp only
  rw [State.whileFree_of free, range]
  rfl

theorem exec_timeSlew {m : MbCmd} {s : State} (granted : Granted 0x0B03 2 m s) (target : m.target = 0) (len : m.length = 28)
    (free : s.tb.servo = .free ∨ s.tb.servo = .holdover) (low : 1 ≤ natAt m.params 8) (high : natAt m.params 8 ≤ 500000) :
    exec (.timeSlew m) s = .next ((((s.takeOff 0x0B03 m).withSlew (slewOf m.params (natAt m.params 8))).passItems 0x0B03 m).respond m.mb
      (okAnswer m 0 0 (words64 (slewTime m.params (natAt m.params 8))))) :=
  congrArg Host.Outcome.next (Hdr.run_none_done (h := timeHdr 0x0B03 28 2) (own := fun m t => t.timeSlew m)
    (eff := State.withSlew (slewOf m.params (natAt m.params 8))) granted target rfl
    (lenIs_of len (by decide)) (fun _ => rfl) (by decide) (State.timeSlew_slews (by simpa using free) low high))

theorem exec_timeSlewDone {s : State} {x : Slew} (slew : s.tb.slew = some x) (done : x.left = 0) :
    exec .timeSlewDone s = .next (({ s with tb := { s.tb with slew := none } } : State).raise 0x0E06 INFO 0 (x.total % 2 ^ 64).toNat) := by
  show execTimeSlewDone s = _
  rw [execTimeSlewDone, slew]
  exact congrArg Host.Outcome.next (if_pos done)

theorem exec_timeSlewDone_idle {s : State} (h : ∀ x, s.tb.slew = some x → x.left ≠ 0) : exec .timeSlewDone s = .next s := by
  show execTimeSlewDone s = _
  rw [execTimeSlewDone]
  cases slew : s.tb.slew with
  | none => rfl
  | some x => exact congrArg Host.Outcome.next (if_neg (h x slew))

@[simp] theorem State.takeOff_timeWords (op : Nat) (m : MbCmd) (s : State) : (s.takeOff op m).timeWords = s.timeWords := by
  obtain ⟨_, _, _, h⟩ := s.takeOff_cases op m
  rw [h]; rfl

/-! ### TIME_OUT_CONFIG (R415, R419) -/

theorem outEntry_lt {i j : Nat} (h : outEntry i = some j) : j < 20 := by
  unfold outEntry at h
  split at h
  · cases h; omega
  · split at h
    · cases h; omega
    · cases h

theorem indexTarget_low (i : Fin 256) : bits (indexTarget i) 7 0 = i.val := by
  simp only [indexTarget, bits, BitVec.toNat_ofNat]
  omega

/-- What R361 fixes of TIME_OUT_CONFIG and of TIME_CAPTURE_READ. -/
def timeOutHdr : Hdr where
  opcode := 0x0B04
  forms := [7]
  index := fun i => (outEntry i).isSome
  lenOk := lenIs 36
  minLen := 36
  auth := fun _ => 1

def captureHdr : Hdr where
  opcode := 0x0B05
  forms := [7]
  index := fun i => decide (i < 4)
  lenOk := lenIs 16
  minLen := 16
  auth := fun _ => 1

/-- An entry as its block sets it. -/
def outSet (p : Block) : TimeOut where
  en := true
  toggle := bitAt p 0 2
  periodic := bitAt p 0 1
  start := natAt64 p 4
  period := natAt p 0xC
  width := natAt p 0x10
  next := some (natAt64 p 4)

section TimeOutConfig

variable {m : MbCmd} {s : State} {i : Fin 256} {j : Nat} (target : m.target = indexTarget i) (entry : outEntry i.val = some j)
include target entry

theorem State.timeOut_clears (off : bitAt m.params 0 0 = false) (free : NoReserved m [(0, 0xFFFFFFF8)]) :
    s.timeOut m = .done (s.setEntry j { s.entry j with
      en := false
      next := none
      level := false
      pulse := none }) 0 [] := by
  unfold State.timeOut
  dsimp only
  rw [target, indexTarget_low, entry]
  dsimp only
  rw [off, reserved_none free]
  rfl

theorem State.timeOut_sets (on : bitAt m.params 0 0 = true) (checks : outFail 1 (s.outChecks m.params (decide (4 ≤ j))) = none) :
    s.timeOut m = .done (s.setEntry j (outSet m.params)) 0 [] := by
  unfold State.timeOut
  dsimp only
  rw [target, indexTarget_low, entry]
  dsimp only
  rw [on, checks]
  rfl

theorem State.timeOut_refuses {why k : Nat} (on : bitAt m.params 0 0 = true)
    (checks : outFail 1 (s.outChecks m.params (decide (4 ≤ j))) = some (why, k)) : s.timeOut m = .refuse why k [] := by
  unfold State.timeOut
  dsimp only
  rw [target, indexTarget_low, entry]
  dsimp only
  rw [on, checks]
  rfl

/-- A granted TIME_OUT_CONFIG does its own part on the entry that it names. -/
theorem exec_timeOutConfig (granted : Granted 0x0B04 1 m s) (len : m.length = 36) :
    exec (.timeOutConfig m) s = .next (timeOutHdr.conclude m (s.takeOff 0x0B04 m) ((s.takeOff 0x0B04 m).timeOut m)) :=
  congrArg Host.Outcome.next (Hdr.run_granted' (h := timeOutHdr) granted (lenIs_of len (by decide))
    (Hdr.targetOk_index target rfl (by simp [timeOutHdr, entry])) fun _ => rfl)

end TimeOutConfig

@[simp] theorem State.takeOff_outChecks (op : Nat) (m : MbCmd) (s : State) (p : Block) (slot : Bool) :
    (s.takeOff op m).outChecks p slot = s.outChecks p slot := by
  obtain ⟨_, _, _, h⟩ := s.takeOff_cases op m
  rw [h]; rfl

@[simp] theorem State.takeOff_entry (op : Nat) (m : MbCmd) (s : State) (k : Nat) : (s.takeOff op m).entry k = s.entry k := by
  obtain ⟨_, _, _, h⟩ := s.takeOff_cases op m
  rw [h]; rfl

theorem State.entry_of_tb {s t : State} (h : t.tb = s.tb) (k : Nat) : t.entry k = s.entry k := by
  rw [State.entry, State.entry, h]

/-- An entry that is replaced, through its response. -/
theorem State.setEntry_answered {s : State} {j : Nat} (op : Nat) (m : MbCmd) (x : TimeOut) (r : Response) (h : j < 20) :
    let t := (((s.takeOff op m).setEntry j x).passItems op m).respond m.mb r
    t.entry j = x ∧ (∀ k, k < 20 → k ≠ j → t.entry k = s.entry k) ∧ t.tb.time = s.tb.time ∧ t.chan = s.chan := by
  obtain ⟨tb, -, -, -, chan, -⟩ := State.respond_keeps op m r ((s.takeOff op m).setEntry j x)
  refine ⟨(State.entry_of_tb tb j).trans (State.setEntry_entry_self x _ h),
    fun k _ other => (State.entry_of_tb tb k).trans ((State.setEntry_entry_of_ne x _ other).trans (State.takeOff_entry ..)), ?_,
    chan.trans (State.takeOff_chan ..)⟩
  exact (congrArg Timebase.time tb).trans ((State.setEntry_keepsTime j x _).time.trans (congrArg Timebase.time (State.takeOff_tb ..)))

/-! ### TIME_CAPTURE_READ (R418) -/

/-- The captures that a read answers. -/
def Tin.answer (x : Tin) : Block :=
  w32 (x.lost * 2 ^ 16 + (x.queue.take 14).length) ::
    (x.queue.take 14).flatMap fun e => words64 e.1 ++ [w32 (e.2.1 % 256 + 256 * b2n e.2.2), 0]

theorem Tin.answer_length (x : Tin) : x.answer.length = 1 + 4 * min 14 x.queue.length := by
  have each : ∀ l : List (Nat × Nat × Bool), (l.flatMap fun e => words64 e.1 ++ [w32 (e.2.1 % 256 + 256 * b2n e.2.2), 0]).length = 4 * l.length := by
    intro l
    induction l with
    | nil => rfl
    | cons e l ih =>
      rw [List.flatMap_cons, List.length_append, ih, List.length_cons]
      simp only [words64, List.length_append, List.length_cons, List.length_nil]
      omega
  rw [Tin.answer, List.length_cons, each, List.length_take]
  omega

/-- An input whose captures are read. -/
def Tin.readOut (x : Tin) : Tin where
  level := x.level
  queue := x.queue.drop 14

theorem State.captureRead_reads {m : MbCmd} {s : State} {i : Fin 4} (target : m.target = BitVec.ofNat 32 (0x70000000 + i.val)) :
    s.captureRead m = .done (s.setTin i (vget s.tb.tin i).readOut) 0 (vget s.tb.tin i).answer := by
  have index : Fin.ofNat 4 (bits m.target 7 0) = i := by
    rw [target]
    apply Fin.ext
    simp only [bits, BitVec.toNat_ofNat, Fin.val_ofNat]
    omega
  unfold State.captureRead
  rw [index]
  rfl

theorem exec_timeCaptureRead {m : MbCmd} {s : State} {i : Fin 4} (granted : Granted 0x0B05 1 m s)
    (target : m.target = BitVec.ofNat 32 (0x70000000 + i.val)) (len : m.length = 16) :
    exec (.timeCaptureRead m) s = .next ((((s.takeOff 0x0B05 m).setTin i (vget s.tb.tin i).readOut).passItems 0x0B05 m).respond m.mb
      (okAnswer m 0 0 (vget s.tb.tin i).answer)) := by
  have index : m.target = indexTarget (Fin.castLE (by decide) i) := target
  have run := Hdr.run_granted' (h := captureHdr) (own := fun m t => t.captureRead m) granted (lenIs_of len (by decide))
    (Hdr.targetOk_index index rfl (by simp [captureHdr])) fun _ => rfl
  refine congrArg Host.Outcome.next (run.trans ?_)
  rw [State.captureRead_reads target, Hdr.conclude_done, Hdr.stateCode_index index (by decide)]
  simp only [State.takeOff_tb]
  rfl

end Sys2Proof.Machine

namespace Sys2Proof

open Sys2Proof.Machine Sys2Proof.Safety

/-- Settles O51: the own part of each command, through its response. -/
theorem timeCommandsComplete : Obligations.TimeCommandsComplete := by
  refine ⟨fun m s granted target len free legal => ?_, fun m s granted target len free => ?_, fun m s granted target len busy => ?_,
    fun m s ppb granted target len free hppb low high => ?_, fun s x slew done => exec_timeSlewDone slew done,
    fun s h => exec_timeSlewDone_idle h, fun m s granted target len => ?_,
    fun m s i j granted target len entry on checks => ?_, fun m s i j granted target len entry off free => ?_,
    fun m s i j why k granted target len entry on checks => ?_, fun m s i granted target len => ?_⟩
  · obtain ⟨tb, mark, chan⟩ := (s.takeOff 0x0B01 m).withTimeConfig_spec (blockFit 6 m.params)
    obtain ⟨cfg, vel, time, era, chan', off, slave, same, moved⟩ := ((s.takeOff 0x0B01 m).withTimeConfig (blockFit 6 m.params)).applyTimeConfig_spec
      (s.takeOff 0x0B01 m).tb.cfg (blockFit 6 m.params)
    refine ⟨_, exec_timeConfig granted target len free legal, ?_⟩
    generalize State.applyTimeConfig _ _ _ = u at cfg vel time era chan' off slave same moved ⊢
    obtain ⟨tb', vel', -, -, chan'', -⟩ := State.respond_keeps 0x0B01 m (okAnswer m 0 0 []) u
    rw [tb', vel', chan'', cfg, vel, time, era, chan', tb, mark, chan]
    simp only [tb, State.takeOff_tb, tcRole_blockFit, tcDomain_blockFit, tcP2p_blockFit] at off slave same moved
    refine ⟨rfl, rfl, by simp, by simp, by simp, off, slave, same, moved⟩
  · obtain ⟨time, valid, slew, servo, now, era, told, steps⟩ := (s.takeOff 0x0B02 m).timeSet_spec (natAt64 m.params 0)
    refine ⟨_, exec_timeSet granted target len free, ?_⟩
    generalize State.timeSet _ _ = u at time valid slew servo now era told steps ⊢
    obtain ⟨tb', vel', ink', now', -, told', -⟩ := State.respond_keeps 0x0B02 m (okAnswer m 0 0 []) u
    simp only [State.event_of_tb _ _ _ _ tb', tb', vel', ink', now']
    simp only [State.takeOff_tb, State.takeOff_now] at servo now era steps
    refine ⟨time, valid, slew, servo, now, era, told'.mem told, fun other => ?_⟩
    obtain ⟨⟨p, raised⟩, mark, record⟩ := steps other
    exact ⟨⟨p, told'.mem raised⟩, mark, by simpa using record⟩
  · exact exec_timeSet_refused granted target len busy
  · subst hppb
    obtain ⟨most, least⟩ := slewTime_spec m.params low
    refine ⟨_, exec_timeSlew granted target len free low high, ?_⟩
    obtain ⟨tb, -, -, -, chan, -, answered⟩ := State.respond_keeps 0x0B03 m (okAnswer m 0 0 (words64 (slewTime m.params (natAt m.params 8))))
      ((s.takeOff 0x0B03 m).withSlew (slewOf m.params (natAt m.params 8)))
    dsimp only
    rw [tb, chan]
    refine ⟨⟨_, rfl, rfl, rfl, rfl, rfl⟩, ?_, State.takeOff_chan .., fun open_ => ⟨_, most, least, ?_⟩⟩
    · simp only [State.withSlew, State.updTb, State.takeOff_tb]
    · exact (answered ((State.takeOff_mb_discard ..).trans open_)).trans (congrArg (· ++ _) (State.takeOff_mb_done ..))
  · rw [← State.takeOff_timeWords 0x0B06 m s]
    exact congrArg Host.Outcome.next (Hdr.run_none_done (h := timeHdr 0x0B06 16 0) (own := fun _ t => .done t 0 t.timeWords) (eff := id)
      granted target rfl (lenIs_of len (by decide)) (fun _ => rfl) (by decide) rfl)
  · have own := State.timeOut_sets (s := s.takeOff 0x0B04 m) target entry on (by simpa using checks)
    refine ⟨_, exec_timeOutConfig target entry granted len, ?_⟩
    rw [own, Hdr.conclude_done, Hdr.stateCode_index target (by decide)]
    exact State.setEntry_answered 0x0B04 m (outSet m.params) (answerTo m RC_OK 0 0 []) (outEntry_lt entry)
  · have own := State.timeOut_clears (s := s.takeOff 0x0B04 m) target entry off free
    refine ⟨_, exec_timeOutConfig target entry granted len, ?_⟩
    rw [own, Hdr.conclude_done, Hdr.stateCode_index target (by decide)]
    obtain ⟨own', others, -⟩ := State.setEntry_answered (s := s) 0x0B04 m { (s.takeOff 0x0B04 m).entry j with
      en := false
      next := none
      level := false
      pulse := none } (answerTo m RC_OK 0 0 []) (outEntry_lt entry)
    exact ⟨congrArg TimeOut.en own', congrArg TimeOut.next own', congrArg TimeOut.level own', congrArg TimeOut.pulse own', others⟩
  · have own := State.timeOut_refuses (s := s.takeOff 0x0B04 m) target entry on (by simpa using checks)
    refine (exec_timeOutConfig target entry granted len).trans (congrArg Host.Outcome.next ?_)
    rw [own, Hdr.conclude_refuse, Hdr.stateCode_index target (by decide)]
  · obtain ⟨tb, -, -, -, chan, -, answered⟩ := State.respond_keeps 0x0B05 m (okAnswer m 0 0 (vget s.tb.tin i).answer)
      ((s.takeOff 0x0B05 m).setTin i (vget s.tb.tin i).readOut)
    have left : ∀ j, vget ((s.takeOff 0x0B05 m).setTin i (vget s.tb.tin i).readOut).tb.tin j
        = if j = i then (vget s.tb.tin i).readOut else vget s.tb.tin j := by
      intro j
      simp only [State.setTin, State.updTb, State.takeOff_tb]
      split
      next same => rw [same, vget_vset_self]
      next other => exact vget_vset_of_ne _ _ (Ne.symm other)
    refine ⟨_, exec_timeCaptureRead granted target len, ?_⟩
    dsimp only
    simp only [tb, chan, left, if_true]
    refine ⟨rfl, rfl, rfl, fun j other => if_neg other, State.takeOff_chan .., fun open_ =>
      ⟨_, (answered ((State.takeOff_mb_discard ..).trans open_)).trans (congrArg (· ++ _) (State.takeOff_mb_done ..)), rfl,
        Tin.answer_length _, ?_⟩⟩
    show w32 _ = w32 _
    rw [List.length_take]

end Sys2Proof
end

section
/-! PROOF. The servo and its messages (R405 to R410, R420); O53. -/

namespace Sys2Proof.Machine

open Sys2Proof Sys2Proof.Safety

/-! ### Rounded quotients (log 19) -/

theorem divRound_ten (a : Int) : 10 * divRound a 10 - a ≤ 5 ∧ -5 ≤ 10 * divRound a 10 - a := by
  unfold divRound
  dsimp only
  split
  · omega
  · split
    · omega
    · split <;> omega

theorem divFree_two (a : Int) : 2 * divFree a 2 - a ≤ 1 ∧ -1 ≤ 2 * divFree a 2 - a := by
  unfold divFree
  dsimp only
  split
  · omega
  · split <;> omega

theorem le_clampInt {lo hi : Int} (x : Int) (h : lo ≤ hi) : lo ≤ clampInt lo hi x := by
  unfold clampInt
  split
  · exact le_refl lo
  · split <;> omega

/-! ### PTP messages that are sent (R388, R407) -/

theorem beBytes_length (n v : Nat) : (beBytes n v).length = n := by rw [beBytes, List.length_map, List.length_range]

theorem PtpMsg.body_length (m : PtpMsg) : m.body.length ≤ 30 := by
  unfold PtpMsg.body
  split <;> simp [stampBytes, beBytes_length]

theorem PtpMsg.wire_length (m : PtpMsg) : m.wire.length ≤ 90 := by
  have body := PtpMsg.body_length m
  simp only [PtpMsg.wire, withFcs, padded, List.length_append, beBytes_length, List.length_replicate, wordBytes_length]
  omega

/-- A message that class 0 of its port has room for joins it, and nothing else changes. -/
theorem State.sendPtp_queued {p : Fin 4} {m : PtpMsg} {s : State} (room : (s.port p).waiting 0 + 90 ≤ 16384) :
    s.sendPtp p m = s.updPort p fun q => { q with q0 := q.q0 ++ [.ptp m] } := by
  have fits : (s.port p).waiting 0 + (Packet.ptp m).bytes ≤ classBytes 0 := by
    have short : (Packet.ptp m).bytes ≤ 90 := PtpMsg.wire_length m
    show _ ≤ 16384
    omega
  exact State.sendPacket_room fits

/-- A message that is sent with a change of its port that leaves the queues as they are. -/
theorem State.updPort_sendPtp {p : Fin 4} {m : PtpMsg} {f : Port → Port} {s : State} (room : (s.port p).waiting 0 + 90 ≤ 16384)
    (keeps : (f (s.port p)).q0 = (s.port p).q0) :
    let t := (s.updPort p f).sendPtp p m
    QueuedPtp s t p m ∧ t.port p = { f (s.port p) with q0 := (s.port p).q0 ++ [.ptp m] } ∧ (∀ q, q ≠ p → t.port q = s.port q) ∧
      t.tb = s.tb := by
  have room' : ((s.updPort p f).port p).waiting 0 + 90 ≤ 16384 := by
    rw [State.updPort_port]
    simpa only [Port.waiting, Port.queue, keeps] using room
  have own : ((s.updPort p f).sendPtp p m).port p = { f (s.port p) with q0 := (s.port p).q0 ++ [.ptp m] } := by
    rw [State.sendPtp_queued room', State.updPort_port, State.updPort_port, keeps]
  refine ⟨congrArg Port.q0 own, own, fun q other => ?_, ?_⟩
  · rw [State.sendPtp_queued room', State.updPort_port_of_ne _ _ (Ne.symm other), State.updPort_port_of_ne _ _ (Ne.symm other)]
  · rw [State.sendPtp_queued room']
    rfl

theorem State.sendPtp_spec {p : Fin 4} {m : PtpMsg} {s : State} (room : (s.port p).waiting 0 + 90 ≤ 16384) :
    QueuedPtp s (s.sendPtp p m) p m ∧ (∀ q, q ≠ p → (s.sendPtp p m).port q = s.port q) ∧ (s.sendPtp p m).tb = s.tb := by
  obtain ⟨queued, -, others, tb⟩ := State.updPort_sendPtp (m := m) (f := id) room rfl
  rw [show s.updPort p id = s from State.updPort_self p s] at queued others tb
  exact ⟨queued, others, tb⟩

/-! ### The servo (R405) -/

theorem State.event_of_time {s t : State} (time : t.tb.time = s.tb.time) (era : t.tb.era = s.tb.era) (c v r p : Nat) :
    t.event c v r p = s.event c v r p := by
  simp only [State.event, time, era]

/-- The rate that is steered stays within ±500 ppm; beside it and the rates that it remembers the timebase stays. -/
theorem State.steer405_spec (s : State) : ∃ r l, s.steer405.tb = { s.tb with
    rate := r
    rates := l } ∧ -50000000 ≤ r ∧ r ≤ 50000000 ∧ s.steer405.blot = s.blot :=
  ⟨_, _, rfl, le_clampInt _ (by decide), clampInt_le _ (by decide), rfl⟩

section Offset

variable {s : State} {x : Int}

/-- A good offset in LOCKING: the sixteenth in a row gives LOCKED. -/
theorem State.servoOffset_locking (locking : s.tb.servo = .locking) (small : x.natAbs ≤ 100 * 655360)
    (within : x.natAbs ≤ tcThresh s.tb.cfg * 655360000) :
    let t := s.servoOffset x
    t.tb.offset = x ∧ -50000000 ≤ t.tb.rate ∧ t.tb.rate ≤ 50000000 ∧ t.tb.time = s.tb.time ∧ t.tb.syncAt = s.tb.syncAt ∧
      (s.tb.goodSyncs < 15 → t.tb.servo = .locking ∧ t.tb.goodSyncs = s.tb.goodSyncs + 1) ∧
      (s.tb.goodSyncs = 15 → t.tb.servo = .locked ∧ t.tb.valid = true ∧ ∃ q, s.event 0x0E01 INFO 0 q ∈ t.blot.raised) := by
  have near : ¬ tcThresh s.tb.cfg * 1000 * 655360 < x.natAbs := by omega
  unfold State.servoOffset
  dsimp only
  rw [if_neg (by rw [locking]; decide), if_neg near, if_pos small]
  by_cases few : s.tb.goodSyncs + 1 < 16
  · rw [if_pos few]
    obtain ⟨r, l, tb, low, high, -⟩ := State.steer405_spec ((s.updTb fun b => { b with offset := x }).updTb fun b => { b with
      goodSyncs := s.tb.goodSyncs + 1 })
    rw [tb]
    exact ⟨rfl, low, high, rfl, rfl, fun _ => ⟨locking, rfl⟩, fun full => by omega⟩
  · rw [if_neg few]
    obtain ⟨h, locked⟩ := State.setServo_eq .locked ((s.updTb fun b => { b with offset := x }).updTb fun b => { b with
      goodSyncs := s.tb.goodSyncs + 1 })
    rw [locked]
    obtain ⟨r, l, tb, low, high, blot⟩ := State.steer405_spec _
    rw [tb, blot]
    exact ⟨rfl, low, high, rfl, rfl, fun less => by omega, fun _ => ⟨rfl, rfl, _, List.mem_append_right _ (List.mem_singleton.mpr rfl)⟩⟩

/-- An offset in LOCKED: a large one goes back to LOCKING. -/
theorem State.servoOffset_locked (locked : s.tb.servo = .locked) :
    let t := s.servoOffset x
    t.tb.offset = x ∧ t.tb.time = s.tb.time ∧ -50000000 ≤ t.tb.rate ∧ t.tb.rate ≤ 50000000 ∧
      t.tb.servo = (if 655360000 < x.natAbs then .locking else .locked) ∧ t.tb.pendSync = s.tb.pendSync := by
  obtain ⟨h, locking⟩ := State.setServo_eq .locking (s.updTb fun b => { b with offset := x })
  unfold State.servoOffset
  dsimp only
  rw [if_pos locked, locking]
  by_cases large : 1000 * 655360 < x.natAbs
  · rw [if_pos large, if_pos large]
    obtain ⟨r, l, tb, low, high, -⟩ := State.steer405_spec _
    rw [tb]
    exact ⟨rfl, rfl, low, high, rfl, rfl⟩
  · rw [if_neg large, if_neg large]
    obtain ⟨r, l, tb, low, high, -⟩ := State.steer405_spec (s.updTb fun b => { b with offset := x })
    rw [tb]
    exact ⟨rfl, rfl, low, high, locked, rfl⟩

end Offset

/-- A foreign master is selected where none was: LOCKING, and 0x0E04. -/
theorem State.selectMaster_first {s : State} (f : Foreign) (foreign : s.tb.foreign = []) (master : s.tb.master = none) :
    let t := s.selectMaster f
    t.tb.servo = .locking ∧ t.tb.master = some (f.clockId, f.port) ∧ t.tb.stepsRemoved = f.steps + 1 ∧ t.tb.time = s.tb.time ∧
      s.event 0x0E04 NOTICE 0 f.grandmaster ∈ t.blot.raised ∧ t.chan = s.chan := by
  obtain ⟨h, locking⟩ := State.setServo_eq .locking (s.updTb fun b => { b with
    master := some (f.clockId, f.port)
    stepsRemoved := f.steps + 1 })
  unfold State.selectMaster
  dsimp only
  rw [foreign, master, locking, if_neg (by simp), if_neg (by simp)]
  exact ⟨rfl, rfl, rfl, rfl, List.mem_append_right _ (List.mem_singleton.mpr rfl), rfl⟩

/-! ### The rows of the servo -/

/-- The foreign master that an Announce describes. -/
def PtpMsg.foreign (now : Nat) (p : Fin 4) (m : PtpMsg) : Foreign where
  clockId := m.clockId
  port := p
  steps := m.stepsRemoved
  at_ := now
  log := m.logInterval
  key := [m.priority1, m.clockClass, m.accuracy, m.variance, m.priority2, m.grandmaster]

theorem exec_announce_first {s : State} {p : Fin 4} {m : PtpMsg} (runs : s.servoRuns = true) (on : s.ptpPort p = true)
    (kind : m.kind = .announce) (domain : m.domain = tcDomain s.tb.cfg) (foreign : s.tb.foreign = []) (role : tcRole s.tb.cfg = 0) :
    exec (.ptpAnnounceReceive p m) s =
      .next ((s.selectMaster (PtpMsg.foreign s.now p m)).updTb fun b => { b with foreign := [PtpMsg.foreign s.now p m] }) := by
  show execPtpAnnounceReceive p m s = _
  unfold execPtpAnnounceReceive
  rw [if_neg (by simp [runs, on, kind, domain]), foreign]
  dsimp only [List.filter_nil]
  rw [show ∀ f : Foreign, bestForeign [f] = some f from fun _ => rfl]
  dsimp only
  rw [role]
  rfl

theorem exec_off_ptp {s : State} {p : Fin 4} (off : s.ptpPort p = false) (m : PtpMsg) (n : Nat) :
    exec (.ptpAnnounceReceive p m) s = .next s ∧ exec (.ptpSyncReceive p m) s = .next s ∧
      exec (.ptpPdelayReceive p { msg := m, tOut := n }) s = .next s ∧ exec (.ptpDelayReqReceive p m) s = .next s := by
  refine ⟨?_, ?_, ?_, ?_⟩
  · exact if_pos (by simp [off])
  · exact if_pos (by simp [State.fromMaster, off])
  · exact if_pos (by simp [off])
  · exact if_pos (by simp [off])

theorem exec_becameMaster {s : State} (runs : s.servoRuns = true) (role : tcRole s.tb.cfg = 1) (other : s.tb.servo ≠ .master)
    (none_ : s.betterForeign = false) :
    exec .timeBecameMaster s = .next (((s.updTb fun b => { b with
      master := none
      pendSync := none
      goodSyncs := 0
      foreign := b.foreign.filter fun f => f.live s.now
      stepsRemoved := 0 }).setServo .master).raise 0x0E05 NOTICE 0 (tcPri1 s.tb.cfg)) :=
  if_neg (by simp [runs, role, other, none_])

theorem exec_masterLoss {s : State} {c : Fin 3} (runs : s.servoRuns = true) (servo : s.tb.servo = .locked ∨ s.tb.servo = .locking)
    (lost : s.masterLost c = true) :
    exec (.ptpMasterLoss c) s = .next (((s.updTb fun b => { b with
      rate := s.holdRate
      master := none
      foreign := b.foreign.filter fun f => !(s.tb.master == some (f.clockId, f.port))
      goodSyncs := 0
      pendSync := none
      delayT3 := none }).setServo .holdover).raise 0x0E02 ALARM 0 c.val) := by
  refine if_neg ?_
  rcases servo with servo | servo <;> simp [runs, servo, lost]

theorem State.fromMaster_on {s : State} {p : Fin 4} {m : PtpMsg} (h : s.fromMaster p m = true) :
    s.servoRuns = true ∧ s.ptpPort p = true ∧ m.domain = tcDomain s.tb.cfg := by
  simp only [State.fromMaster, Bool.and_eq_true, beq_iff_eq] at h
  obtain ⟨⟨⟨⟨runs, on⟩, domain⟩, -⟩, -⟩ := h
  exact ⟨runs, on, domain⟩

/-- The Sync is timed. -/
def State.syncSeen (m : PtpMsg) (s : State) : State := s.updTb fun b => { b with
  syncAt := s.now
  syncLog := m.logInterval }

theorem exec_sync {s : State} {p : Fin 4} {m : PtpMsg} (from_ : s.fromMaster p m = true) (kind : m.kind = .sync) :
    exec (.ptpSyncReceive p m) s = .next (if m.twoStep then
        (s.syncSeen m).updTb fun b => { b with pendSync := some (m.seqId, s.rxTime p m.tMac, m.correction, p) }
      else (s.syncSeen m).useSync p (s.rxTime p m.tMac) m.originTime m.correction) :=
  if_neg (by simp [from_, kind])

/-- The offset that a Sync of origin time `origin` and correction `corr`, received at `t2`, measures (R407, R410). -/
def State.syncOffset (s : State) (p : Fin 4) (t2 : Int) (origin : Nat) (corr : Int) : Int :=
  (t2 - origin) * 65536 - corr * 10 - (if tcP2p s.tb.cfg = true then (s.port p).linkDelay else s.tb.pathDelay)

/-- The timebase that a Sync's time has reached. -/
def State.syncUsed (p : Fin 4) (t2 : Int) (origin : Nat) (corr : Int) (s : State) : State := s.updTb fun b => { b with
  lastSync := some ((t2 - origin) * 65536 - corr * 10)
  pathDelay := if tcP2p s.tb.cfg then (s.port p).linkDelay else s.tb.pathDelay
  pendSync := none }

theorem State.useSync_eq (p : Fin 4) (t2 : Int) (origin : Nat) (corr : Int) (s : State) :
    s.useSync p t2 origin corr = (s.syncUsed p t2 origin corr).servoOffset (s.syncOffset p t2 origin corr) := rfl

theorem State.syncSeen_syncOffset (p : Fin 4) (t2 : Int) (origin : Nat) (corr : Int) (m : PtpMsg) (s : State) :
    (s.syncSeen m).syncOffset p t2 origin corr = s.syncOffset p t2 origin corr := rfl

theorem exec_sync_oneStep {s : State} {p : Fin 4} {m : PtpMsg} {x : Int} (from_ : s.fromMaster p m = true) (kind : m.kind = .sync)
    (one : m.twoStep = false) (is : x = s.syncOffset p (s.rxTime p m.tMac) m.originTime m.correction) :
    exec (.ptpSyncReceive p m) s =
      .next (((s.syncSeen m).syncUsed p (s.rxTime p m.tMac) m.originTime m.correction).servoOffset x) := by
  rw [exec_sync from_ kind, if_neg (by simp [one]), State.useSync_eq, State.syncSeen_syncOffset, is]

theorem exec_followUp {s : State} {p : Fin 4} {m : PtpMsg} {t2 c : Int} (from_ : s.fromMaster p m = true) (kind : m.kind = .followUp)
    (pend : s.tb.pendSync = some (m.seqId, t2, c, p)) :
    exec (.ptpFollowUpReceive p m) s = .next (s.useSync p t2 m.originTime (c + m.correction)) := by
  show execPtpFollowUpReceive p m s = _
  unfold execPtpFollowUpReceive
  rw [if_neg (by simp [from_, kind]), pend]
  exact if_pos (by simp)

theorem exec_followUp_other {s : State} {p : Fin 4} {m : PtpMsg} {q : Nat} {t2 c : Int} (pend : s.tb.pendSync = some (q, t2, c, p))
    (other : q ≠ m.seqId) : exec (.ptpFollowUpReceive p m) s = .next s := by
  show execPtpFollowUpReceive p m s = _
  unfold execPtpFollowUpReceive
  split
  · rfl
  · rw [pend]
    exact if_neg (by simp [other])

/-! ### Delay requests and their answers (R407) -/

/-- The delay request that a slave sends. -/
def State.delayReq (p : Fin 4) (n : Nat) (s : State) : PtpMsg := { s.ownPtp .delayReq p (s.port p).seqDelay with
  originTime := (s.txTime p n).toNat
  tMac := n }

theorem exec_delayReqSend {s : State} {p : Fin 4} {n c : Nat} (runs : s.servoRuns = true) (on : s.ptpPort p = true)
    (e2e : tcP2p s.tb.cfg = false) (master : s.tb.master = some (c, p)) :
    exec (.ptpDelayReqSend p n) s = .next ((((s.updTb fun b => { b with
      delayT3 := some (s.txTime p n)
      delaySeq := (s.delayReq p n).seqId }).updPort p fun q => { q with
      seqDelay := (q.seqDelay + 1) % 65536 })).sendPtp p (s.delayReq p n)) := by
  show execPtpDelayReqSend p n s = _
  unfold execPtpDelayReqSend
  exact if_neg (by simp [runs, on, e2e, master])

/-- The answer of a master. -/
def State.delayResp (p : Fin 4) (m : PtpMsg) (s : State) : PtpMsg := { s.ownPtp .delayResp p m.seqId with
  correction := m.correction
  originTime := (s.rxTime p m.tMac).toNat
  reqId := m.clockId
  reqPort := m.portNo }

theorem exec_delayReqReceive {s : State} {p : Fin 4} {m : PtpMsg} (runs : s.servoRuns = true) (on : s.ptpPort p = true)
    (kind : m.kind = .delayReq) (master : s.tb.servo = .master) (e2e : tcP2p s.tb.cfg = false) (domain : m.domain = tcDomain s.tb.cfg) :
    exec (.ptpDelayReqReceive p m) s = .next (s.sendPtp p (s.delayResp p m)) :=
  if_neg (by simp [runs, on, kind, master, e2e, domain])

theorem exec_delayRespReceive {s : State} {p : Fin 4} {m : PtpMsg} {t3 d : Int} (sent : s.tb.delayT3 = some t3) (sync : s.tb.lastSync = some d)
    (from_ : s.fromMaster p m = true) (kind : m.kind = .delayResp) (e2e : tcP2p s.tb.cfg = false)
    (answers : answersTo m p s.tb.delaySeq = true) :
    exec (.ptpDelayRespReceive p m) s = .next (s.updTb fun b => { b with
      pathDelay := divFree (d + (((m.originTime : Int) - t3) * 65536 - m.correction * 10)) 2
      delayT3 := none }) := by
  show execPtpDelayRespReceive p m s = _
  unfold execPtpDelayRespReceive
  rw [sent, sync]
  exact if_neg (by simp [from_, kind, e2e, answers])

/-- The peer delay request of a port, and the port that has sent it. -/
def State.pdelayReq (p : Fin 4) (n : Nat) (s : State) : PtpMsg := { s.ownPtp .pdelayReq p (s.port p).seqPdelay with tMac := n }
def State.pdelayAsked (p : Fin 4) (n : Nat) (s : State) (q : Port) : Port := { q with
  pdelayT1 := some (s.txTime p n)
  pdelaySeq := (s.pdelayReq p n).seqId
  seqPdelay := (q.seqPdelay + 1) % 65536
  pdelayAt := some s.now }

theorem exec_pdelayReqSend {s : State} {p : Fin 4} {n : Nat} (runs : s.servoRuns = true) (on : s.ptpPort p = true)
    (p2p : tcP2p s.tb.cfg = true) (time : due (s.port p).pdelayAt second s.now = true) :
    exec (.ptpPdelayReqSend p n) s = .next ((s.updPort p (s.pdelayAsked p n)).sendPtp p (s.pdelayReq p n)) :=
  if_neg (by simp [runs, on, p2p, time])

/-- The answer to a peer delay request. -/
def State.pdelayResp (p : Fin 4) (m : PtpMsg) (n : Nat) (s : State) : PtpMsg := { s.ownPtp .pdelayResp p m.seqId with
  correction := m.correction + divRound ((s.txTime p n - s.rxTime p m.tMac) * 65536) 10
  tMac := n
  reqId := m.clockId
  reqPort := m.portNo }

theorem exec_pdelayRequest {s : State} {p : Fin 4} {m : PtpMsg} {n : Nat} (on : s.ptpPort p = true) (p2p : tcP2p s.tb.cfg = true)
    (domain : m.domain = tcDomain s.tb.cfg) (kind : m.kind = .pdelayReq) :
    exec (.ptpPdelayReceive p { msg := m, tOut := n }) s = .next (s.sendPtp p (s.pdelayResp p m n)) := by
  show execPtpPdelayReceive p _ s = _
  unfold execPtpPdelayReceive
  dsimp only
  rw [if_neg (by simp [on, p2p, domain, kind, PtpKind.peer]), if_pos kind]
  rfl

/-- A port whose round trip, less the turnaround, is `x`. -/
def Port.measured (x : Int) (q : Port) : Port := { q with
  linkDelay := divFree x 2
  pdelayT1 := none }

theorem exec_pdelayAnswer {s : State} {p : Fin 4} {m : PtpMsg} {n : Nat} {t1 : Int} (on : s.ptpPort p = true) (p2p : tcP2p s.tb.cfg = true)
    (domain : m.domain = tcDomain s.tb.cfg) (kind : m.kind = .pdelayResp) (one : m.twoStep = false) (sent : (s.port p).pdelayT1 = some t1)
    (answers : answersTo m p (s.port p).pdelaySeq = true) :
    exec (.ptpPdelayReceive p { msg := m, tOut := n }) s =
      .next (s.updPort p (Port.measured ((s.rxTime p m.tMac - t1) * 65536 - m.correction * 10))) := by
  show execPtpPdelayReceive p _ s = _
  unfold execPtpPdelayReceive
  dsimp only
  rw [if_neg (by simp [on, p2p, domain, kind, PtpKind.peer]), if_neg (by simp [kind]), sent]
  dsimp only
  rw [if_neg (by simp [answers]), one]
  exact congrArg (fun x => Host.Outcome.next (s.updPort p (Port.measured ((s.rxTime p m.tMac - t1) * 65536 - x)))) (Int.zero_add _)

/-! ### The messages of a master, and messages that pass (R407, R408, R410) -/

/-- The Sync or Announce of a master, and the port that has sent it. -/
def State.masterMsg (p : Fin 4) (ann : Bool) (n : Nat) (s : State) : PtpMsg :=
  { s.ownPtp (if ann then .announce else .sync) p (if ann then (s.port p).seqAnn else (s.port p).seqSync) with
    logInterval := ownLog ann
    originTime := (s.txTime p n).toNat
    tMac := n
    priority1 := tcPri1 s.tb.cfg
    clockClass := 248
    accuracy := 0xFE
    variance := ownVariance
    priority2 := tcPri2 s.tb.cfg
    grandmaster := ownClock }
def Port.announced (now : Nat) (ann : Bool) (q : Port) : Port :=
  if ann then { q with
    annAt := some now
    seqAnn := (q.seqAnn + 1) % 65536 }
  else { q with
    syncAt := some now
    seqSync := (q.seqSync + 1) % 65536 }

theorem Port.announced_q0 (now : Nat) (ann : Bool) (q : Port) : (q.announced now ann).q0 = q.q0 := by
  cases ann <;> rfl

/-- The port has sent its message now. -/
theorem Port.announced_at {now : Nat} {ann : Bool} {q x : Port} {l : List Packet} (h : x = { q.announced now ann with q0 := l }) :
    (if ann = true then x.annAt else x.syncAt) = some now := by
  rw [h]
  cases ann <;> rfl

theorem logCycles_ownLog (ann : Bool) : logCycles (ownLog ann) = if ann = true then second else 125 * millisecond := by
  cases ann <;> decide

theorem exec_masterSend {s : State} {p : Fin 4} {ann : Bool} {n : Nat} (runs : s.servoRuns = true) (on : s.ptpPort p = true)
    (master : s.tb.servo = .master)
    (time : due (if ann = true then (s.port p).annAt else (s.port p).syncAt) (if ann = true then second else 125 * millisecond) s.now = true) :
    exec (.ptpMasterSend p ann n) s = .next ((s.updPort p (Port.announced s.now ann)).sendPtp p (s.masterMsg p ann n)) := by
  rw [← logCycles_ownLog] at time
  exact if_neg (by simp [runs, on, master, time])

/-- A message that passes from port `p` to port `q`, with its residence time. -/
def State.passedPtp (p q : Fin 4) (m : PtpMsg) (n : Nat) (s : State) : PtpMsg :=
  if m.kind.event then { m with correction := m.correction + divRound ((s.txTime q n - s.rxTime p m.tMac) * 65536) 10 +
    (if tcP2p s.tb.cfg && m.kind = .sync then divRound (s.port p).linkDelay 10 else 0) } else m

theorem queuedPtp_of_eq {s t : State} {q : Fin 4} {m m' : PtpMsg} (queued : QueuedPtp s t q m) (h : m = m') : QueuedPtp s t q m' := by
  rwa [← h]

theorem State.passedPtp_general {s : State} {p q : Fin 4} {m : PtpMsg} {n : Nat} (general : m.kind.event = false) : s.passedPtp p q m n = m :=
  if_neg (by simp [general])

theorem State.passedPtp_endToEnd {s : State} {p q : Fin 4} {m : PtpMsg} {n : Nat} (event : m.kind.event = true)
    (e2e : tcP2p s.tb.cfg = false) :
    s.passedPtp p q m n = { m with correction := m.correction + divRound ((s.txTime q n - s.rxTime p m.tMac) * 65536) 10 } := by
  rw [State.passedPtp, if_pos event, e2e]
  exact congrArg (fun c => { m with correction := c }) (Int.add_zero _)

theorem exec_forward {s : State} {p q : Fin 4} {m : PtpMsg} {n : Nat} (other : p ≠ q) (into : s.ptpPort p = true) (out : s.ptpPort q = true)
    (kind : m.kind.peer = false) : exec (.ptpTransparentForward p q m n) s = .next (s.sendPtp q (s.passedPtp p q m n)) :=
  if_neg (by simp [other, into, out, kind])

end Sys2Proof.Machine

namespace Sys2Proof

open Sys2Proof.Machine Sys2Proof.Safety

/-- Settles O53: each row by the case that its hypotheses choose. -/
theorem ptpActs : Obligations.PtpActs := by
  refine ⟨fun s p m runs on kind domain foreign role master => ?_, fun s p m n off => exec_off_ptp off m n,
    fun s runs role other none_ => ?_, fun s h => ?_, fun s c runs servo lost => ?_, fun s c h => ?_,
    fun s p m x from_ kind one is locking small within => ?_, fun s p m x from_ kind one is locked => ?_,
    fun s p m from_ kind two => ?_, fun s p m t2 c from_ kind pend locked => ?_,
    fun s p m q t2 c pend other => exec_followUp_other pend other, fun s p n c runs on e2e master room => ?_,
    fun s p m runs on kind master e2e domain room => ?_, fun s p m t3 d sent sync from_ kind e2e answers => ?_,
    fun s p n runs on p2p time room => ?_, fun s p n wait => ?_, fun s p m n on p2p domain kind room => ?_,
    fun s p m n t1 on p2p domain kind one sent answers => ?_, fun s p ann n runs on master time room => ?_,
    fun s p ann n other => ?_, fun s p q m n other into out kind room => ?_, fun s p q m n peer => ?_⟩
  · obtain ⟨servo, chosen, steps, time, told, chan⟩ := State.selectMaster_first (PtpMsg.foreign s.now p m) foreign master
    exact ⟨_, exec_announce_first runs on kind domain foreign role, servo, chosen, steps, rfl, time, told, chan⟩
  · obtain ⟨h, is⟩ := State.setServo_eq .master (s.updTb fun b => { b with
      master := none
      pendSync := none
      goodSyncs := 0
      foreign := b.foreign.filter fun f => f.live s.now
      stepsRemoved := 0 })
    refine ⟨_, exec_becameMaster runs role other none_, ?_⟩
    rw [is]
    exact ⟨rfl, rfl, rfl, rfl, rfl⟩
  · refine if_pos ?_
    rcases h with h | h <;> simp [h]
  · obtain ⟨h, is⟩ := State.setServo_eq .holdover (s.updTb fun b => { b with
      rate := s.holdRate
      master := none
      foreign := b.foreign.filter fun f => !(s.tb.master == some (f.clockId, f.port))
      goodSyncs := 0
      pendSync := none
      delayT3 := none })
    refine ⟨_, exec_masterLoss runs servo lost, ?_⟩
    rw [is]
    refine ⟨rfl, rfl, rfl, fun locking => if_neg (by rw [locking]; decide), rfl, rfl⟩
  · refine if_pos ?_
    rcases h with h | h | h | h <;> simp [h]
  · obtain ⟨offset, low, high, time, at_, few, full⟩ := State.servoOffset_locking
      (s := (s.syncSeen m).syncUsed p (s.rxTime p m.tMac) m.originTime m.correction) locking small within
    exact ⟨_, exec_sync_oneStep from_ kind one is, offset, low, high, time, at_, few, full⟩
  · obtain ⟨offset, time, low, high, servo, -⟩ := State.servoOffset_locked (x := x)
      (s := (s.syncSeen m).syncUsed p (s.rxTime p m.tMac) m.originTime m.correction) locked
    exact ⟨_, exec_sync_oneStep from_ kind one is, offset, time, low, high, servo⟩
  · refine ⟨_, exec_sync from_ kind, ?_⟩
    rw [if_pos two]
    exact ⟨rfl, rfl⟩
  · obtain ⟨offset, -, -, -, -, pend'⟩ := State.servoOffset_locked (x := s.syncOffset p t2 m.originTime (c + m.correction))
      (s := s.syncUsed p t2 m.originTime (c + m.correction)) locked
    exact ⟨_, exec_followUp from_ kind pend, pend', offset⟩
  · obtain ⟨queued, own, others, tb⟩ := State.updPort_sendPtp (m := s.delayReq p n)
      (f := fun q => { q with seqDelay := (q.seqDelay + 1) % 65536 }) (s := s.updTb fun b => { b with
        delayT3 := some (s.txTime p n)
        delaySeq := (s.delayReq p n).seqId }) room rfl
    exact ⟨_, exec_delayReqSend runs on e2e master, congrArg Timebase.delayT3 tb, congrArg Timebase.delaySeq tb, ⟨_, queued, rfl, rfl, rfl, rfl, rfl⟩, others⟩
  · obtain ⟨queued, others, tb⟩ := State.sendPtp_spec (m := s.delayResp p m) room
    exact ⟨_, exec_delayReqReceive runs on kind master e2e domain, ⟨_, queued, rfl, rfl, rfl, rfl, rfl, rfl⟩, tb, others⟩
  · obtain ⟨most, least⟩ := divFree_two (d + (((m.originTime : Int) - t3) * 65536 - m.correction * 10))
    rw [← Int.add_sub_assoc] at most least
    refine ⟨_, exec_delayRespReceive sent sync from_ kind e2e answers, rfl, ?_, ?_, rfl, rfl⟩ <;> rw [← Int.add_sub_assoc] <;> assumption
  · obtain ⟨queued, own, -, tb⟩ := State.updPort_sendPtp (m := s.pdelayReq p n) (f := s.pdelayAsked p n) room rfl
    exact ⟨_, exec_pdelayReqSend runs on p2p time, congrArg Port.pdelayT1 own, congrArg Port.pdelayAt own,
      ⟨_, queued, rfl, congrArg Port.pdelaySeq own.symm⟩, tb⟩
  · exact if_pos (by simp [wait])
  · obtain ⟨queued, -⟩ := State.sendPtp_spec (m := s.pdelayResp p m n) room
    obtain ⟨most, least⟩ := divRound_ten ((s.txTime p n - s.rxTime p m.tMac) * 65536)
    refine ⟨_, exec_pdelayRequest on p2p domain kind, _, queued, rfl, rfl, rfl, rfl, ?_⟩
    rw [State.pdelayResp, add_sub_cancel_left]
    exact ⟨most, least⟩
  · obtain ⟨most, least⟩ := divFree_two ((s.rxTime p m.tMac - t1) * 65536 - m.correction * 10)
    have own := State.updPort_port p (Port.measured ((s.rxTime p m.tMac - t1) * 65536 - m.correction * 10)) s
    refine ⟨_, exec_pdelayAnswer on p2p domain kind one sent answers, congrArg Port.pdelayT1 own, ?_, ?_, rfl⟩
    · exact (congrArg Port.linkDelay own).symm ▸ most
    · exact (congrArg Port.linkDelay own).symm ▸ least
  · obtain ⟨queued, own, -, tb⟩ := State.updPort_sendPtp (m := s.masterMsg p ann n) (f := Port.announced s.now ann) room
      (Port.announced_q0 s.now ann _)
    exact ⟨_, exec_masterSend runs on master time, ⟨_, queued, rfl, rfl, rfl, rfl, rfl, rfl⟩, Port.announced_at own, tb⟩
  · exact if_pos (by simp [other])
  · obtain ⟨queued, others, tb⟩ := State.sendPtp_spec (m := s.passedPtp p q m n) room
    obtain ⟨most, least⟩ := divRound_ten ((s.txTime q n - s.rxTime p m.tMac) * 65536)
    refine ⟨_, exec_forward other into out kind, fun general => queuedPtp_of_eq queued (State.passedPtp_general general),
      fun event e2e => ⟨_, queuedPtp_of_eq queued (State.passedPtp_endToEnd event e2e), rfl, ?_⟩, others, tb⟩
    rw [add_sub_cancel_left]
    exact ⟨most, least⟩
  · exact if_pos (by simp [peer])

end Sys2Proof
end

section
/-! PROOF. A cycle of the TIME domain (R388, R401); O2. -/

namespace Sys2Proof.Machine

open Sys2Proof Sys2Proof.Safety

/-! ### A cycle of the TIME domain (R388, R401) -/

/-- `t` is `s` but for what a delivery that the Inkwell serves changes: its item, its records, its unit and its answer. -/
def Serves (s t : State) : Prop :=
  ∃ q b m k p, t = { s with
    quire := q
    blot := b
    host := { s.host with mb := m }
    ink := k
    pounce := p }

theorem Serves.refl (s : State) : Serves s s := ⟨s.quire, s.blot, s.host.mb, s.ink, s.pounce, rfl⟩

theorem Serves.trans (s t u : State) : Serves s t → Serves t u → Serves s u := by
  rintro ⟨q, b, m, k, p, rfl⟩ ⟨q', b', m', k', p', rfl⟩
  exact ⟨q', b', m', k', p', rfl⟩

theorem OnlyQuire.serves {s t : State} : OnlyQuire s t → Serves s t := by
  rintro ⟨q, b, rfl⟩
  exact ⟨q, b, s.host.mb, s.ink, s.pounce, rfl⟩

theorem State.updMb_serves (i : Fin 8) (f : Mailbox → Mailbox) (s : State) : Serves s (s.updMb i f) :=
  ⟨s.quire, s.blot, _, s.ink, s.pounce, rfl⟩

theorem State.raise_serves (code sev source param : Nat) (s : State) : Serves s (s.raise code sev source param) :=
  (OnlyQuire.raise code sev source param s).serves

theorem State.respond_serves (i : Fin 8) (r : Response) (s : State) : Serves s (s.respond i r) := by
  unfold State.respond
  dsimp only
  split
  · exact State.updMb_serves i _ s
  · exact (State.updMb_serves i _ s).trans _ _ _ (State.raise_serves ..)

theorem State.dropKept_serves (i : Fin 8) (s : State) : Serves s (s.dropKept i) := by
  unfold State.dropKept
  split
  · exact (State.updMb_serves i _ s).trans _ _ _ (State.finish_onlyQuire ..).serves
  · exact .refl s

theorem State.respondHeld_serves (i : Fin 8) (r : Response) (s : State) : Serves s (s.respondHeld i r) := by
  unfold State.respondHeld
  dsimp only
  split
  · exact .refl s
  · have answered := (State.updMb_serves i (fun b => { b with working := b.working - 1 }) s).trans _ _ _ (State.respond_serves i r _)
    split
    · exact answered
    · exact answered.trans _ _ _ (State.dropKept_serves i _)

theorem State.respondLate_serves (m : MbCmd) (r : Response) (s : State) : Serves s (s.respondLate m r) := by
  unfold State.respondLate
  split
  · exact .refl s
  · exact State.respondHeld_serves _ r s

/-- The records that the Inkwell holds and its deliveries. -/
theorem Serves.of_ink {s t : State} (k : Inkwell) (h : Serves { s with ink := k } t) : Serves s t :=
  .trans s _ t ⟨s.quire, s.blot, s.host.mb, k, s.pounce, rfl⟩ h

theorem State.drawRecords_serves (u : Fin 32) (s : State) : Serves s (s.drawRecords u) := by
  unfold State.drawRecords State.endDeliveries
  refine .of_ink _ (.of_ink _ (forAll_rel Serves.refl Serves.trans (fun d t => ?_) _ _))
  split
  · exact State.respondLate_serves ..
  · exact .refl t

/-- A unit that is drained, and a change of the records held. -/
theorem State.drainedUnit_serves (u : Fin 32) (p : Pounce) (k : Inkwell) (s : State) :
    Serves s (State.drawRecords u { s.putUnit u p with ink := k }) :=
  .trans s _ _ ⟨s.quire, s.blot, s.host.mb, k, _, rfl⟩ (State.drawRecords_serves u _)

theorem State.serveDelivery_serves (u : Fin 32) (d : Delivery) (s : State) : Serves s (s.serveDelivery u d) := by
  unfold State.serveDelivery
  dsimp only
  split
  · exact .of_ink _ (State.drawRecords_serves ..)
  · exact .of_ink _ (State.drawRecords_serves ..)
  · split
    · exact (State.drainedUnit_serves ..).trans _ _ _ (State.raise_serves ..)
    · exact State.drainedUnit_serves ..

theorem State.inkwellServes_serves (s : State) : Serves s s.inkwellServes := by
  unfold State.inkwellServes
  split
  · split
    · exact (State.finish_onlyQuire ..).serves.trans _ _ _ (State.serveDelivery_serves ..)
    · exact (State.finish_onlyQuire ..).serves
  · exact .refl s

/-- With no item in service the Inkwell serves none. -/
theorem State.inkwellServes_idle {s : State} (h : ∀ i ∈ s.quire.items, i.state = .inService → i.target ≠ .inkwell) : s.inkwellServes = s := by
  have none_ : (s.quire.items.find? fun i => i.state == .inService && i.target == .inkwell) = none := by
    rw [List.find?_eq_none]
    intro i mem
    simpa using h i mem
  unfold State.inkwellServes
  rw [none_]

theorem Timebase.advance_stopped {t : Timebase} (h : t.running = false) : t.advance = t := if_pos (by simp [h])

/-- A running timebase without a slew gains 4 ns. -/
theorem Timebase.advance_running {t : Timebase} (run : t.running = true) (slew : t.slew = none) (frac : t.frac < 2 ^ 32) :
    t.advance = { t with time := (t.time + 4) % 2 ^ 64 } := by
  have whole : (((t.time : Int) * 2 ^ 32 + t.frac + 4 * 2 ^ 32) / 2 ^ 32).toNat = t.time + 4 := by omega
  have part : (((t.time : Int) * 2 ^ 32 + t.frac + 4 * 2 ^ 32) % 2 ^ 32).toNat = t.frac := by omega
  unfold Timebase.advance
  rw [if_neg (by simp [run]), slew]
  dsimp only
  rw [whole, part, ← slew]

end Sys2Proof.Machine

namespace Sys2Proof

open Sys2Proof.Machine Sys2Proof.Safety

/-- Settles O2: the cycle, and what the Inkwell serves after it. -/
theorem idleStepPassesOneTimeCycle : Obligations.IdleStepPassesOneTimeCycle := by
  intro s none_
  have idle : step s = .next s.cycle.inkwellServes := by rw [step, none_]; rfl
  obtain ⟨q, b, m, k, p, is⟩ := s.cycle.inkwellServes_serves
  refine ⟨_, idle, ?_⟩
  have keeps : s.cycle.inkwellServes.tb = s.tb.advance ∧ s.cycle.inkwellServes.fab = s.cycle.fab := by rw [is]; exact ⟨rfl, rfl⟩
  obtain ⟨tb, fab⟩ := keeps
  refine ⟨by rw [is]; rfl, by rw [is]; rfl, by rw [is]; rfl, by rw [is]; rfl, by rw [is]; rfl, fun free => ?_,
    fun stopped => tb.trans (Timebase.advance_stopped stopped), fun run slew frac => tb.trans (Timebase.advance_running run slew frac),
    fun off => fab.trans (if_pos off)⟩
  rw [State.inkwellServes_idle (s := s.cycle) free]
  rfl

end Sys2Proof
end

section
/-! PROOF. The words and rows of the Vellum (R424 to R431). -/

namespace Sys2Proof.Machine

open Sys2Proof Sys2Proof.Safety

/-! ### The words of the Vellum and the counts of its rows (R424, R430) -/

theorem setWord_find_self (i : Nat) (d : BitVec 64) (l : List (Nat × BitVec 64)) :
    ((setWord i d l).find? fun e => e.1 == i) = some (i, d) := List.find?_cons_of_pos (by simp)

theorem setWord_find_of_ne {i j : Nat} (d : BitVec 64) (l : List (Nat × BitVec 64)) (other : j ≠ i) :
    ((setWord i d l).find? fun e => e.1 == j) = l.find? fun e => e.1 == j := by
  rw [setWord, List.find?_cons_of_neg (by simpa using Ne.symm other), List.find?_filter]
  refine congrArg (l.find? ·) (funext fun e => ?_)
  by_cases here : e.1 = j
  · simp [here, other]
  · simp [here]

theorem Vellum.count_setCount (row k : Nat) (v : Vellum) : Vellum.count { v with wear := setCount row k v.wear } row = k := by
  simp [Vellum.count, setCount]

/-- Accesses of a row that is far from its end only count. -/
theorem State.wearRow_counts {s : State} {row k : Nat} (young : s.vel.count row + k < 5 * 10 ^ 13) :
    s.wearRow row k = { s with vel := { s.vel with wear := setCount row (s.vel.count row + k) s.vel.wear } } := by
  have noAlarm : ¬ wearAlarm ≤ s.vel.count row + k := by
    show ¬ 5 * 10 ^ 13 ≤ _
    omega
  have noEnd : ¬ (s.vel.count row < wearRetire ∧ wearRetire ≤ s.vel.count row + k) := by
    show ¬ (_ ∧ 9 * 10 ^ 13 ≤ _)
    omega
  unfold State.wearRow
  dsimp only
  rw [if_neg (by simpa using noEnd), if_neg (by simp [noAlarm])]

/-- A row is retired into a spare, with 0x0F06; with no spare left 0x0F07 alone is raised. -/
theorem State.retireRow_spare {s : State} {row cause : Nat} (spare : s.vel.retired.length < 41) :
    ∃ w h c p, s.retireRow row cause = { s with
      vel := { s.vel with
        retired := s.vel.retired ++ [row]
        wear := w
        wearHigh := h
        correctedOnce := c }
      blot := { s.blot with raised := s.blot.raised ++ [s.event 0x0F06 NOTICE 0 p] } } := by
  have left : s.vel.rowsLeft ≠ 0 := by
    unfold Vellum.rowsLeft spareRows
    omega
  exact ⟨_, _, _, _, if_neg left⟩

theorem Vellum.rowsLeft_full {v : Vellum} (full : v.retired.length = 41) : v.rowsLeft = 0 := by
  rw [Vellum.rowsLeft, full]
  rfl

theorem State.retireRow_full {s : State} {row cause : Nat} (none_ : s.vel.rowsLeft = 0) :
    s.retireRow row cause = s.raise 0x0F07 ALARM 0 row := if_pos none_

/-! ### VELLUM_WORD_WRITE (R424, R426, R427) -/

/-- The word is stored, and its region's latest write has not failed. -/
def State.putWord (region index : Nat) (d : BitVec 64) (s : State) : State := { s with
  vel := { s.vel with
    words := setWord index d s.vel.words
    failed := s.vel.failed.filter fun r => r != region } }

section WordWrite

variable {s : State} {w : VWriter} {r : Fin 11} {i : Nat} {d : BitVec 64} {ok retryOk : Bool} (fits : i < (regionAt r.val).2)
include fits

theorem exec_wordWrite_done (admitted : writerOk w r.val i = true) (switched : (ok || retryOk) = true) :
    exec (.vellumWordWrite w r i d ok retryOk) s =
      .next ((s.wearRow (((regionAt r.val).1 + i) / 256) (if ok then 1 else 2)).putWord r.val ((regionAt r.val).1 + i) d) := by
  show execVellumWordWrite w r i d ok retryOk s = _
  unfold execVellumWordWrite
  dsimp only
  rw [if_neg (Nat.not_le.mpr fits), if_neg (by simp [admitted]), if_pos switched]
  rfl

/-- Both pulses fail. -/
theorem exec_wordWrite_failed (admitted : writerOk w r.val i = true) :
    exec (.vellumWordWrite w r i d false false) s =
      .next (let row := ((regionAt r.val).1 + i) / 256
        let t := s.wearRow row 2
        if t.vel.rowsLeft = 0 then
          State.retireRow row 3 { t with vel := { t.vel with failed := r.val :: t.vel.failed.filter fun x => x != r.val } }
        else (t.retireRow row 3).putWord r.val ((regionAt r.val).1 + i) d) := by
  show execVellumWordWrite w r i d false false s = _
  unfold execVellumWordWrite
  dsimp only
  rw [if_neg (Nat.not_le.mpr fits), if_neg (by simp [admitted]), if_neg (c := (false || false) = true) Bool.false_ne_true]
  simp only [Bool.false_eq_true, if_false]
  split <;> rfl

theorem exec_wordWrite_refused (other : writerOk w r.val i = false) :
    exec (.vellumWordWrite w r i d ok retryOk) s = .next (({ s with vel := { s.vel with refused := satAdd s.vel.refused 1 } } : State).raise
      0x0F09 ALARM 0 (r.val + 2 ^ 8 * writerCode w)) := by
  show execVellumWordWrite w r i d ok retryOk s = _
  unfold execVellumWordWrite
  dsimp only
  rw [if_neg (Nat.not_le.mpr fits), if_pos (by simp [other])]

end WordWrite

/-! ### VELLUM_SCRUB (R429, R431) -/

/-- What a spoiled word changes, retired rows and events are not of it. -/
theorem State.spoilWord_keeps (region i : Nat) (s : State) :
    (s.spoilWord region i).vel.retired = s.vel.retired ∧ (s.spoilWord region i).blot = s.blot ∧ (s.spoilWord region i).tb = s.tb := by
  unfold State.spoilWord
  dsimp only
  repeat' split
  all_goals exact ⟨rfl, rfl, rfl⟩

section Scrub

variable {s : State} {i : Fin 524288} {g : Nat} (region : regionOf i.val = some g)
include region

theorem exec_scrub_clean : exec (.vellumScrub i .clean) s = .next (s.wearRow (i.val / 256) 1) := by
  show execVellumScrub i .clean s = _
  unfold execVellumScrub
  rw [region]

/-- The correction of a word is counted and told. -/
def State.wordCorrected (i g : Nat) (again : Bool) (s : State) : State :=
  ({ s with vel := { s.vel with
    corrections := satAdd s.vel.corrections 1
    correctedOnce := if again then s.vel.correctedOnce else i :: s.vel.correctedOnce } } : State).raise 0x0F04 INFO 0 (i + 2 ^ 32 * g)

theorem exec_scrub_corrected : exec (.vellumScrub i .corrected) s =
    .next (let t := s.wearRow (i.val / 256) 2
      let again := t.vel.correctedOnce.contains i.val
      if again then (t.wordCorrected i.val g again).retireRow (i.val / 256) 2 else t.wordCorrected i.val g again) := by
  show execVellumScrub i .corrected s = _
  unfold execVellumScrub
  rw [region]
  rfl

theorem exec_scrub_uncorrectable : exec (.vellumScrub i .uncorrectable) s =
    .next ((((s.wearRow (i.val / 256) 1).raise 0x0F05 ALARM 0 (i.val + 2 ^ 32 * g)).spoilWord g (i.val - (regionAt g).1)).retireRow
      (i.val / 256) 1) := by
  show execVellumScrub i .uncorrectable s = _
  unfold execVellumScrub
  rw [region]

end Scrub

/-- The row counts go to WEAR_MAP. -/
theorem State.flushWear_spec (s : State) : s.flushWear.vel.wearMap = s.vel.wear ∧ s.flushWear.vel.ch = s.vel.ch ∧
    s.flushWear.vel.words = s.vel.words ∧ s.flushWear.now = s.now ∧ s.flushWear.chan = s.chan := by
  obtain ⟨w, h, r, c, b, is⟩ := State.persist_worn 10 ((Config.unstated 112).toNat % 32768)
    ({ s with vel := { s.vel with wearMap := s.vel.wear } } : State)
  rw [State.flushWear, is]
  exact ⟨rfl, rfl, rfl, rfl, rfl⟩

end Sys2Proof.Machine
end

section
/-! PROOF. The Blotter: limiters, entries, flush and scan (R432 to R437). -/

namespace Sys2Proof.Machine

open Sys2Proof Sys2Proof.Safety

/-! ### What the Blotter's operations leave -/

/-- `t` is `s` for the channels and the Vellum, and of the Blotter for all but events raised. -/
def Logs (s t : State) : Prop :=
  ∃ r, t.blot = { s.blot with raised := s.blot.raised ++ r } ∧ t.vel = s.vel ∧ t.chan = s.chan

theorem Logs.refl (s : State) : Logs s s := ⟨[], by rw [List.append_nil], rfl, rfl⟩

theorem Logs.trans (s t u : State) : Logs s t → Logs t u → Logs s u := by
  rintro ⟨r, blot, vel, chan⟩ ⟨r', blot', vel', chan'⟩
  exact ⟨r ++ r', by rw [blot', blot, List.append_assoc], vel'.trans vel, chan'.trans chan⟩

theorem Logs.raise (code sev source param : Nat) (s : State) : Logs s (s.raise code sev source param) := ⟨_, rfl, rfl, rfl⟩

theorem State.record_logs (r : Rec) (s : State) : Logs s (s.record r) := by
  unfold State.record
  split
  · exact ⟨_, rfl, rfl, rfl⟩
  · exact ⟨[], by rw [List.append_nil], rfl, rfl⟩

theorem Notifies.logs {s t : State} (h : Notifies s t) : Logs s t := by
  obtain ⟨v, n, q, fl, nt, su, ev, lf, b, rfl, -⟩ := h
  exact ⟨b, rfl, rfl, rfl⟩

/-- An operation that acts in one case only. -/
theorem Logs.ite {c : Prop} [Decidable c] {s t u : State} (h : Logs s t) (act : Logs t u) : Logs s (if c then u else t) := by
  split
  · exact h.trans _ _ _ act
  · exact h

/-! ### An entry takes its slot (R432, R436) -/

/-- The entry of an event that takes the next SEQ. -/
def Blotter.newEntry (ev : Event) (count : Nat) (summary : Bool) (b : Blotter) : Entry where
  seq := b.nextSeq
  ev := ev
  count := count
  summary := summary
  lostBefore := b.lossMark
  restored := false
  persisted := false

/-- The Blotter that has seated it. -/
def Blotter.seated (ev : Event) (count : Nat) (summary : Bool) (b : Blotter) : Blotter := { b with
  buffer := (if 8192 ≤ b.buffer.length then eraseFirst (fun x => x.persisted) b.buffer else b.buffer) ++ [b.newEntry ev count summary]
  nextSeq := (b.nextSeq + 1) % 2 ^ 32
  lossMark := false
  flushReq := b.flushReq || decide (ALARM ≤ ev.severity) || decide (1024 ≤ b.unpersisted.length + 1) }

theorem Blotter.seated_getLast (ev : Event) (count : Nat) (summary : Bool) (b : Blotter) :
    (b.seated ev count summary).buffer.getLast? = some (b.newEntry ev count summary) := List.getLast?_concat

theorem State.seat_logs (ev : Event) (count : Nat) (summary : Bool) (s : State) :
    Logs { s with blot := s.blot.seated ev count summary } (s.seat ev count summary) := by
  refine Logs.ite (Logs.ite (Logs.ite (Logs.ite (.refl _) ?_) ?_) ?_) ?_
  · exact State.record_logs _ _
  · exact ⟨[], by rw [List.append_nil]; rfl, rfl, rfl⟩
  · exact (State.notice_notifies _ _ _ _).logs
  · exact Logs.raise _ _ _ _ _

/-- An event below EVT_MIN, below FATAL and with no loss to mark raises nothing more. -/
theorem State.seat_quiet {ev : Event} {count : Nat} {summary : Bool} {s : State} (marked : s.blot.lossMark = false)
    (below : ev.severity < s.ink.evtMin) (lesser : ev.severity < FATAL) :
    (s.seat ev count summary).blot = s.blot.seated ev count summary := by
  unfold State.seat
  dsimp only
  rw [if_neg (c := s.blot.lossMark = true) (by simp [marked]), if_neg (Nat.ne_of_lt lesser), if_neg (Nat.not_le.mpr below)]
  split <;> rfl

/-- What an event that is seated leaves. -/
theorem State.seat_spec (ev : Event) (count : Nat) (summary : Bool) (s : State) :
    let t := s.seat ev count summary
    t.blot.buffer.getLast? = some (s.blot.newEntry ev count summary) ∧ t.blot.nextSeq = (s.blot.nextSeq + 1) % 2 ^ 32 ∧
      t.blot.lossMark = false ∧ (∃ r, t.blot.raised = s.blot.raised ++ r) ∧
      (s.blot.lossMark = false → s.ink.evtMin > ev.severity → ev.severity < FATAL → t.blot.raised = s.blot.raised) ∧
      (ALARM ≤ ev.severity → t.blot.flushReq = true) ∧ t.blot.restored = s.blot.restored ∧ t.chan = s.chan := by
  obtain ⟨r, blot, -, chan⟩ := State.seat_logs ev count summary s
  have quiet := fun marked below lesser => congrArg Blotter.raised (s.seat_quiet (ev := ev) (count := count) (summary := summary) marked below lesser)
  intro t
  refine ⟨?_, congrArg Blotter.nextSeq blot, congrArg Blotter.lossMark blot, ⟨r, congrArg Blotter.raised blot⟩, quiet, fun alarm => ?_,
    (congrArg Blotter.restored blot).trans rfl, chan⟩
  · exact (congrArg (fun b => b.buffer.getLast?) blot).trans (Blotter.seated_getLast ev count summary s.blot)
  · exact (congrArg Blotter.flushReq blot).trans (by simp [Blotter.seated, alarm])

theorem State.logEvent_seats {ev : Event} {count : Nat} {summary : Bool} {s : State} (scanned : s.blot.scanned = true)
    (room : s.blot.unpersisted.length < 8192) : s.logEvent ev count summary = s.seat ev count summary := by
  rw [State.logEvent, if_pos scanned, State.reserve, if_pos room]

/-! ### The limiters (R434) -/

theorem Blotter.limiter_code (b : Blotter) (c : BitVec 16) (now : Nat) : (b.limiter c now).code = c := by
  unfold Blotter.limiter
  cases found : b.limiters.find? fun l => l.code == c with
  | none => rfl
  | some l => simpa using List.find?_some found

theorem Blotter.limiter_setLimiter (l : Limiter) (b : Blotter) (now : Nat) : (b.setLimiter l).limiter l.code now = l := by
  simp [Blotter.limiter, Blotter.setLimiter]

/-- A limiter, filled up to the present, after a raise that passes it, and after one that does not. -/
def Limiter.passed (r : Limiter) : Limiter := { r with
  tokens := r.tokens - token
  suppressed := 0
  last := none }
def Limiter.stopped (ev : Event) (r : Limiter) : Limiter := { r with
  suppressed := r.suppressed + 1
  last := some ev }

theorem Limiter.stopped_keeps (ev : Event) (r : Limiter) : (r.stopped ev).suppressed = r.suppressed + 1 ∧ (r.stopped ev).code = r.code :=
  ⟨rfl, rfl⟩

theorem Limiter.refill_keeps (l : Limiter) (now : Nat) : (l.refill now).suppressed = l.suppressed ∧ (l.refill now).code = l.code := by
  have kept : ∀ tokens at_, ({ l with
      tokens := tokens
      at_ := at_ } : Limiter).suppressed = l.suppressed ∧ ({ l with
      tokens := tokens
      at_ := at_ } : Limiter).code = l.code := fun _ _ => ⟨rfl, rfl⟩
  exact kept _ _

theorem State.limit_eq (ev : Event) (s : State) : s.limit ev =
    if token ≤ ((s.blot.limiter ev.code s.now).refill s.now).tokens then
      ({ s with blot := s.blot.setLimiter ((s.blot.limiter ev.code s.now).refill s.now).passed } : State).logEvent ev
        ((s.blot.limiter ev.code s.now).refill s.now).suppressed false
    else { s with blot := s.blot.setLimiter (((s.blot.limiter ev.code s.now).refill s.now).stopped ev) } := rfl

theorem State.limit_passes {ev : Event} {s : State} (enough : token ≤ ((s.blot.limiter ev.code s.now).refill s.now).tokens) :
    s.limit ev = ({ s with blot := s.blot.setLimiter ((s.blot.limiter ev.code s.now).refill s.now).passed } : State).logEvent ev
      (s.blot.limiter ev.code s.now).suppressed false := by
  rw [State.limit_eq, if_pos enough, (Limiter.refill_keeps _ _).1]

/-- An event that passes its limiter with room in the Blotter is seated. -/
theorem State.limit_seats {ev : Event} {s : State} (enough : token ≤ ((s.blot.limiter ev.code s.now).refill s.now).tokens)
    (scanned : s.blot.scanned = true) (room : s.blot.unpersisted.length < 8192) :
    s.limit ev = ({ s with blot := s.blot.setLimiter ((s.blot.limiter ev.code s.now).refill s.now).passed } : State).seat ev
      (s.blot.limiter ev.code s.now).suppressed false :=
  (State.limit_passes enough).trans (State.logEvent_seats scanned room)

theorem State.limit_stops {ev : Event} {s : State} (few : ((s.blot.limiter ev.code s.now).refill s.now).tokens < token) :
    s.limit ev = { s with blot := s.blot.setLimiter (((s.blot.limiter ev.code s.now).refill s.now).stopped ev) } := by
  rw [State.limit_eq, if_neg (Nat.not_le.mpr few)]

/-! ### EVENT_RAISE and BLOTTER_SUMMARY -/

/-- The oldest raise is taken, and seen by the units at work. -/
def State.takeRaise (ev : Event) (rest : List Event) (s : State) : State := { s with
  blot := { s.blot with raised := rest }
  pounce := s.pounce.map (Pounce.seesEvent ev.code ev.source) }

theorem State.takeRaise_limiter (ev : Event) (rest : List Event) (c : BitVec 16) (now : Nat) (s : State) :
    (s.takeRaise ev rest).blot.limiter c now = s.blot.limiter c now := rfl

theorem State.takeRaise_now (ev : Event) (rest : List Event) (s : State) : (s.takeRaise ev rest).now = s.now := rfl

/-- The raise that is taken, its limiter left as `l`. -/
def State.takenWith (ev : Event) (rest : List Event) (l : Limiter) (s : State) : State :=
  { s.takeRaise ev rest with blot := (s.takeRaise ev rest).blot.setLimiter l }

theorem State.takeRaise_seats {s : State} {ev : Event} (rest : List Event)
    (enough : token ≤ ((s.blot.limiter ev.code s.now).refill s.now).tokens) (scanned : s.blot.scanned = true)
    (room : s.blot.unpersisted.length < 8192) :
    (s.takeRaise ev rest).limit ev = (s.takenWith ev rest ((s.blot.limiter ev.code s.now).refill s.now).passed).seat ev
      (s.blot.limiter ev.code s.now).suppressed false := by
  have seats := State.limit_seats (s := s.takeRaise ev rest) (ev := ev) (by
    rw [State.takeRaise_limiter, State.takeRaise_now]
    exact enough) scanned room
  rw [State.takeRaise_limiter, State.takeRaise_now] at seats
  exact seats

theorem State.takeRaise_stops {s : State} {ev : Event} (rest : List Event)
    (few : ((s.blot.limiter ev.code s.now).refill s.now).tokens < token) :
    (s.takeRaise ev rest).limit ev = s.takenWith ev rest (((s.blot.limiter ev.code s.now).refill s.now).stopped ev) := by
  have stops := State.limit_stops (s := s.takeRaise ev rest) (ev := ev) (by
    rw [State.takeRaise_limiter, State.takeRaise_now]
    exact few)
  rw [State.takeRaise_limiter, State.takeRaise_now] at stops
  exact stops

theorem State.takenWith_limiter (ev : Event) (rest : List Event) (l : Limiter) (now : Nat) (s : State) :
    (s.takenWith ev rest l).blot.limiter l.code now = l := Blotter.limiter_setLimiter l _ now

theorem exec_eventRaise {s : State} {ev : Event} {rest : List Event} (raised : s.blot.raised = ev :: rest) :
    exec .eventRaise s = .next ((s.takeRaise ev rest).limit ev) := by
  show execEventRaise s = _
  unfold execEventRaise
  rw [raised]
  rfl

theorem exec_eventRaise_none {s : State} (raised : s.blot.raised = []) : exec .eventRaise s = .next s := by
  show execEventRaise s = _
  unfold execEventRaise
  rw [raised]

/-- The summary of the last suppressed raise, and the limiter that it empties. -/
def State.summaryOf (ev : Event) (s : State) : Event := { ev with
  time := s.tb.time
  era := s.tb.era }
def State.summed (c : BitVec 16) (s : State) : State := { s with blot := s.blot.setLimiter { s.blot.limiter c s.now with
  suppressed := 0
  last := none } }

theorem exec_blotterSummary {s : State} {c : BitVec 16} {ev : Event} (last : (s.blot.limiter c s.now).last = some ev)
    (some_ : (s.blot.limiter c s.now).suppressed ≠ 0) (late : (s.blot.limiter c s.now).at_ + second ≤ s.now) :
    exec (.blotterSummary c) s = .next ((s.summed c).logEvent (s.summaryOf ev) (s.blot.limiter c s.now).suppressed true) := by
  show execBlotterSummary c s = _
  unfold execBlotterSummary
  dsimp only
  rw [last]
  dsimp only
  rw [if_neg (by simp [some_, late])]
  rfl

theorem exec_blotterSummary_none {s : State} {c : BitVec 16}
    (h : (s.blot.limiter c s.now).last = none ∨ s.now < (s.blot.limiter c s.now).at_ + second) :
    exec (.blotterSummary c) s = .next s := by
  show execBlotterSummary c s = _
  unfold execBlotterSummary
  dsimp only
  cases last : (s.blot.limiter c s.now).last with
  | none => rfl
  | some ev =>
    have early := h.resolve_left (by simp [last])
    exact if_pos (by simp [early])

/-! ### The flush (R435) -/

theorem State.putRing_mem (e : Entry) (s : State) : (e.seq, e.ringWords) ∈ (s.putRing e).vel.ring := by
  unfold State.putRing
  obtain ⟨w, h, r, c, b, is⟩ := State.wearRow_worn (ringRow e.seq) 4 ({ s with vel := { s.vel with
    ring := s.vel.ring.filter (fun x => x.1 % 32768 != e.seq % 32768) ++ [(e.seq, e.ringWords)] } } : State)
  rw [is]
  exact List.mem_append_right _ (List.mem_singleton.mpr rfl)

/-- The last entry that is put into the ring lies in it. -/
theorem forAll_putRing_last {l : List Entry} {e : Entry} (last : l.getLast? = some e) (s : State) :
    (e.seq, e.ringWords) ∈ (forAll (fun e x => x.putRing e) l s).vel.ring := by
  obtain ⟨l', rfl⟩ := List.getLast?_eq_some_iff.mp last
  rw [forAll_append]
  exact State.putRing_mem e _

/-- `t` holds the Blotter's entries as `s` does. -/
def SameEntries (s t : State) : Prop := t.blot.buffer = s.blot.buffer ∧ t.blot.nextSeq = s.blot.nextSeq ∧ t.chan = s.chan

theorem State.putRing_sameEntries (e : Entry) (s : State) : SameEntries s (s.putRing e) := by
  unfold State.putRing
  obtain ⟨w, h, r, c, b, is⟩ := State.wearRow_worn (ringRow e.seq) 4 ({ s with vel := { s.vel with
    ring := s.vel.ring.filter (fun x => x.1 % 32768 != e.seq % 32768) ++ [(e.seq, e.ringWords)] } } : State)
  rw [is]
  exact ⟨rfl, rfl, rfl⟩

theorem State.flushBlotter_spec (s : State) :
    let t := s.flushBlotter
    t.blot.unpersisted = [] ∧ t.blot.flushReq = false ∧ t.blot.buffer.length = s.blot.buffer.length ∧ t.blot.nextSeq = s.blot.nextSeq ∧
      (∀ e, s.blot.unpersisted.getLast? = some e → (e.seq, e.ringWords) ∈ t.vel.ring) ∧ t.chan = s.chan := by
  intro t
  have none_ : t.blot.unpersisted = [] :=
    List.filter_eq_nil_iff.mpr fun e mem => by simp [s.flushBlotter_persists e mem]
  have kept := forAll_rel (R := SameEntries) (fun _ => ⟨rfl, rfl, rfl⟩)
    (fun _ _ _ ⟨b, n, c⟩ ⟨b', n', c'⟩ => ⟨b'.trans b, n'.trans n, c'.trans c⟩) State.putRing_sameEntries s.blot.unpersisted s
  have last := fun e h => forAll_putRing_last (l := s.blot.unpersisted) (e := e) h s
  refine ⟨none_, ?_⟩
  clear none_
  revert t
  unfold State.flushBlotter
  dsimp only
  generalize forAll (fun e x => x.putRing e) s.blot.unpersisted s = u at kept last ⊢
  obtain ⟨buffer, next, chan⟩ := kept
  have len : (u.blot.buffer.map fun e => { e with persisted := true }).length = s.blot.buffer.length := by
    rw [List.length_map, buffer]
  split
  · exact ⟨rfl, len, next, last, chan⟩
  · exact ⟨rfl, len, next, last, chan⟩

/-! ### The scan of the ring (R437) -/

/-- The later of the highest SEQ found and the next one's. -/
def laterSeq (b : Option Nat) (e : Nat × Block) : Option Nat :=
  match b with
  | some q => if seqLe q e.1 then some e.1 else some q
  | none => some e.1

/-- The highest SEQ found is the one that every other precedes. -/
theorem laterSeq_highest {l : List (Nat × Block)} {q : Nat}
    (high : ∀ x ∈ l, x.1 = q ∨ (seqLe x.1 q = true ∧ seqLe q x.1 = false)) (found : ∃ x ∈ l, x.1 = q) :
    l.foldl laterSeq none = some q := by
  have at_top : ∀ l : List (Nat × Block), (∀ x ∈ l, x.1 = q ∨ (seqLe x.1 q = true ∧ seqLe q x.1 = false)) →
      l.foldl laterSeq (some q) = some q := by
    intro l high
    induction l with
    | nil => rfl
    | cons x l ih =>
      have stays : laterSeq (some q) x = some q := by
        rcases high x List.mem_cons_self with same | ⟨-, after⟩
        · simp [laterSeq, same]
        · simp [laterSeq, after]
      rw [List.foldl_cons, stays]
      exact ih fun y mem => high y (List.mem_cons_of_mem _ mem)
  have climbs : ∀ (l : List (Nat × Block)) (b : Option Nat), (∀ x ∈ l, x.1 = q ∨ (seqLe x.1 q = true ∧ seqLe q x.1 = false)) →
      (∃ x ∈ l, x.1 = q) → (∀ p, b = some p → p = q ∨ seqLe p q = true) → l.foldl laterSeq b = some q := by
    intro l
    induction l with
    | nil => exact fun _ _ ⟨_, mem, _⟩ _ => absurd mem List.not_mem_nil
    | cons x l ih =>
      intro b high found below
      have rest : ∀ y ∈ l, y.1 = q ∨ (seqLe y.1 q = true ∧ seqLe q y.1 = false) := fun y mem => high y (List.mem_cons_of_mem _ mem)
      rw [List.foldl_cons]
      by_cases here : x.1 = q
      · have reached : laterSeq b x = some q := by
          cases b with
          | none => exact congrArg some here
          | some p =>
            rcases below p rfl with rfl | before
            · simp [laterSeq, here]
            · simp [laterSeq, here, before]
        rw [reached]
        exact at_top l rest
      · obtain ⟨y, mem, is⟩ := found
        have later : y ∈ l := (List.mem_cons.mp mem).resolve_left fun e => here (e ▸ is)
        refine ih _ rest ⟨y, later, is⟩ fun p hp => ?_
        have own : seqLe x.1 q = true := ((high x List.mem_cons_self).resolve_left here).1
        cases b with
        | none =>
          cases hp
          exact .inr own
        | some p' =>
          unfold laterSeq at hp
          dsimp only at hp
          split at hp
          · cases hp
            exact .inr own
          · cases hp
            exact below p rfl
  exact climbs l none high found fun _ h => nomatch h

/-- The next SEQ after the highest one found. -/
def seqAfter : Option Nat → Nat
  | some q => (q + 1) % 2 ^ 32
  | none => 0

/-- The ring as the scan leaves it, and the highest SEQ in it. -/
def State.foundRing (s : State) : List (Nat × Block) := s.vel.ring.filter fun e => ringOk e.2
def State.foundTop (s : State) : Option Nat := s.foundRing.foldl laterSeq none

theorem exec_ringScan {s : State} (new : s.blot.scanned = false) (early : s.blot.early = []) :
    ∃ ev t, exec .blotterRingScan s = .next (State.limit ev t) ∧ ev.code = 0x0F0A ∧ t.now = s.now ∧
      t.vel = { s.vel with ring := s.foundRing } ∧ t.blot = { s.blot with
        scanned := true
        restored := s.foundTop
        nextSeq := seqAfter s.foundTop
        early := [] } := by
  show ∃ ev t, execBlotterRingScan s = _ ∧ _
  unfold execBlotterRingScan
  rw [if_neg (by simp [new])]
  simp only [early, forAll]
  exact ⟨_, _, rfl, rfl, rfl, rfl, rfl⟩

/-- `t` keeps what the scan has found. -/
def KeepsScan (s t : State) : Prop := t.blot.scanned = s.blot.scanned ∧ t.blot.restored = s.blot.restored ∧ t.vel = s.vel

theorem Logs.keepsScan {s t : State} {b : Blotter} (h : Logs { s with blot := b } t) (scanned : b.scanned = s.blot.scanned)
    (restored : b.restored = s.blot.restored) : KeepsScan s t := by
  obtain ⟨r, blot, vel, -⟩ := h
  rw [KeepsScan, blot]
  exact ⟨scanned, restored, vel⟩

theorem Blotter.evict_keeps {sev : Nat} {b c : Blotter} (h : b.evict sev = some c) : c.scanned = b.scanned ∧ c.restored = b.restored := by
  unfold Blotter.evict at h
  split at h
  · cases h
    exact ⟨rfl, rfl⟩
  · cases h

theorem State.reserve_keepsScan (ev : Event) (count : Nat) (summary : Bool) (s : State) : KeepsScan s (s.reserve ev count summary) := by
  unfold State.reserve
  split
  · exact (State.seat_logs ev count summary s).keepsScan rfl rfl
  · split
    · exact ⟨rfl, rfl, rfl⟩
    · split
      next b evicted =>
        obtain ⟨scanned, restored⟩ := Blotter.evict_keeps evicted
        exact (State.seat_logs ev count summary { s with blot := b }).keepsScan (s := s) scanned restored
      next b _ evicted =>
        obtain ⟨scanned, restored⟩ := Blotter.evict_keeps evicted
        exact (State.seat_logs ev count summary { s with blot := b }).keepsScan (s := s) scanned restored
      · exact ⟨rfl, rfl, rfl⟩

theorem State.limit_keepsScan (ev : Event) (s : State) : KeepsScan s (s.limit ev) := by
  have logged : ∀ l n, KeepsScan s (({ s with blot := s.blot.setLimiter l } : State).logEvent ev n false) := fun l n => by
    unfold State.logEvent
    split
    · exact State.reserve_keepsScan ev n false { s with blot := s.blot.setLimiter l }
    · exact ⟨rfl, rfl, rfl⟩
  rw [State.limit_eq]
  split
  · exact logged _ _
  · exact ⟨rfl, rfl, rfl⟩

/-- The scan, with a highest SEQ and a token. -/
theorem State.limit_restores {ev : Event} {s t : State} {e : Nat × Block} (code : ev.code = 0x0F0A) (now : t.now = s.now)
    (blot : t.blot = { s.blot with
      scanned := true
      restored := s.foundTop
      nextSeq := seqAfter s.foundTop
      early := [] }) (mem : e ∈ s.vel.ring) (good : ringOk e.2 = true)
    (high : ∀ x ∈ s.vel.ring, ringOk x.2 = true → x.1 = e.1 ∨ (seqLe x.1 e.1 = true ∧ seqLe e.1 x.1 = false))
    (written : s.blot.unpersisted = []) (enough : token ≤ ((s.blot.limiter 0x0F0A s.now).refill s.now).tokens) :
    (t.limit ev).blot.restored = some e.1 ∧ (t.limit ev).blot.nextSeq = ((e.1 + 1) % 2 ^ 32 + 1) % 2 ^ 32 := by
  have top : s.foundTop = some e.1 := laterSeq_highest
    (fun x h => high x (List.mem_filter.mp h).1 (List.mem_filter.mp h).2) ⟨e, List.mem_filter.mpr ⟨mem, good⟩, rfl⟩
  have limiter : t.blot.limiter 0x0F0A = s.blot.limiter 0x0F0A := by rw [blot]; rfl
  have seats := State.limit_seats (ev := ev) (s := t) (by rw [code, limiter, now]; exact enough) (by rw [blot]) (by
    rw [show t.blot.unpersisted = s.blot.unpersisted from by rw [blot]; rfl, written]
    decide)
  obtain ⟨-, next, -, -, -, -, restored, -⟩ := State.seat_spec ev (t.blot.limiter ev.code t.now).suppressed false
    { t with blot := t.blot.setLimiter ((t.blot.limiter ev.code t.now).refill t.now).passed }
  rw [seats, next, restored]
  have start : t.blot.restored = some e.1 ∧ t.blot.nextSeq = (e.1 + 1) % 2 ^ 32 := by
    rw [blot, top]
    exact ⟨rfl, rfl⟩
  obtain ⟨found, after⟩ := start
  exact ⟨found, congrArg (fun n => (n + 1) % 2 ^ 32) after⟩

end Sys2Proof.Machine
end

section
/-! PROOF. O54. -/

namespace Sys2Proof

open Sys2Proof.Machine Sys2Proof.Safety

/-- Settles O54: the words and rows of the Vellum, then the way of an event through its limiter into the Blotter and its ring. -/
theorem vellumAndBlotterAct : Obligations.VellumAndBlotterAct := by
  refine ⟨fun s w r i d ok fits admitted young => ?_, fun s w r i d fits admitted young => ⟨fun spare => ?_, fun full => ?_⟩,
    fun s w r i d a b fits other => ?_, fun s w r i d a b out => if_pos out, fun s i g region young => ⟨?_, fun new => ?_, fun again spare => ?_,
      fun spare => ?_⟩, fun s out => ?_, fun s wait => congrArg Host.Outcome.next (if_neg (by simp [wait])),
    fun s e l raised scanned room enough => ?_, fun s e l raised few => ?_, fun s none_ => exec_eventRaise_none none_,
    fun s c e last some_ late scanned room => ?_, fun s c h => exec_blotterSummary_none h, fun s asked => ?_,
    fun s idle => congrArg Host.Outcome.next (if_neg (by simp [idle])), fun s new early => ?_, fun s done => if_pos done⟩
  · have count : s.vel.count (((regionAt r.val).1 + i) / 256) + (if ok = true then 1 else 2) < 5 * 10 ^ 13 := by split <;> omega
    refine ⟨_, exec_wordWrite_done fits admitted (Bool.or_true ok), ?_⟩
    rw [State.wearRow_counts count]
    exact ⟨setWord_find_self _ d _, fun j other => setWord_find_of_ne d _ other, by simp [State.putWord], rfl,
      Vellum.count_setCount _ _ s.vel, rfl, rfl⟩
  · obtain ⟨v, h, c, p, retired⟩ := State.retireRow_spare (row := ((regionAt r.val).1 + i) / 256) (cause := 3)
      (s := s.wearRow (((regionAt r.val).1 + i) / 256) 2) (by rw [State.wearRow_counts young]; exact spare)
    have left : (s.wearRow (((regionAt r.val).1 + i) / 256) 2).vel.rowsLeft ≠ 0 := by
      rw [State.wearRow_counts young]
      unfold Vellum.rowsLeft spareRows
      dsimp only
      omega
    refine ⟨_, exec_wordWrite_failed fits admitted, ?_⟩
    dsimp only
    rw [if_neg left, retired, State.wearRow_counts young]
    exact ⟨rfl, setWord_find_self _ d _, p, rfl⟩
  · have left : (s.wearRow (((regionAt r.val).1 + i) / 256) 2).vel.rowsLeft = 0 := by
      rw [State.wearRow_counts young]
      exact Vellum.rowsLeft_full full
    refine ⟨_, exec_wordWrite_failed fits admitted, ?_⟩
    dsimp only
    rw [if_pos left, State.wearRow_counts young, State.retireRow_full]
    · exact ⟨rfl, List.mem_cons_self, rfl⟩
    · exact Vellum.rowsLeft_full full
  · exact ⟨_, exec_wordWrite_refused fits other, rfl, rfl, rfl, _, rfl⟩
  · refine ⟨_, exec_scrub_clean region, ?_⟩
    rw [State.wearRow_counts (by omega)]
    exact ⟨Vellum.count_setCount _ _ s.vel, rfl, rfl⟩
  · have unseen : s.vel.correctedOnce.contains i.val = false := by simpa using new
    refine ⟨_, exec_scrub_corrected region, ?_⟩
    rw [State.wearRow_counts young]
    dsimp only
    rw [unseen, if_neg Bool.false_ne_true]
    exact ⟨rfl, List.mem_cons_self, rfl, rfl⟩
  · have seen : s.vel.correctedOnce.contains i.val = true := by simpa using again
    refine ⟨_, exec_scrub_corrected region, ?_⟩
    rw [State.wearRow_counts young]
    dsimp only
    rw [seen, if_pos rfl]
    obtain ⟨v, h, c, p, retired⟩ := State.retireRow_spare (row := i.val / 256) (cause := 2) (s := State.wordCorrected i.val g true { s with
      vel := { s.vel with wear := setCount (i.val / 256) (s.vel.count (i.val / 256) + 2) s.vel.wear } }) spare
    rw [retired]
    rfl
  · refine ⟨_, exec_scrub_uncorrectable region, ?_⟩
    rw [State.wearRow_counts (by omega)]
    obtain ⟨same, blot, tb⟩ := State.spoilWord_keeps g (i.val - (regionAt g).1) (({ s with
      vel := { s.vel with wear := setCount (i.val / 256) (s.vel.count (i.val / 256) + 1) s.vel.wear } } : State).raise
        0x0F05 ALARM 0 (i.val + 2 ^ 32 * g))
    obtain ⟨v, h, c, p, retired⟩ := State.retireRow_spare (row := i.val / 256) (cause := 1) (s := State.spoilWord g
      (i.val - (regionAt g).1) (({ s with
        vel := { s.vel with wear := setCount (i.val / 256) (s.vel.count (i.val / 256) + 1) s.vel.wear } } : State).raise
          0x0F05 ALARM 0 (i.val + 2 ^ 32 * g))) (by rw [same]; exact spare)
    rw [retired]
    refine ⟨congrArg (· ++ [i.val / 256]) same, List.mem_append_left _ ?_⟩
    rw [blot]
    exact List.mem_append_right _ (List.mem_singleton.mpr rfl)
  · obtain ⟨map, ch, words, now, chan⟩ := s.flushWear_spec
    have timer := State.startTimer_mem .wearMap (60 * second) s.flushWear
    rw [now] at timer
    exact ⟨_, congrArg Host.Outcome.next (if_pos out), map, ch, words, timer, chan⟩
  · obtain ⟨last, next, mark, more, quiet, urgent, -, chan⟩ := State.seat_spec e (s.blot.limiter e.code s.now).suppressed false
      (s.takenWith e l ((s.blot.limiter e.code s.now).refill s.now).passed)
    refine ⟨_, (exec_eventRaise raised).trans (congrArg Host.Outcome.next (State.takeRaise_seats l enough scanned room)), ?_⟩
    exact ⟨⟨_, last, rfl, rfl, rfl, rfl, rfl, rfl⟩, next, mark, more, quiet, urgent, chan⟩
  · obtain ⟨count, code⟩ := ((s.blot.limiter e.code s.now).refill s.now).stopped_keeps e
    obtain ⟨before, own⟩ := (s.blot.limiter e.code s.now).refill_keeps s.now
    have after := s.takenWith_limiter e l (((s.blot.limiter e.code s.now).refill s.now).stopped e) s.now
    rw [code, own, Blotter.limiter_code] at after
    rw [before] at count
    exact ⟨_, (exec_eventRaise raised).trans (congrArg Host.Outcome.next (State.takeRaise_stops l few)), rfl, rfl, rfl,
      (congrArg Limiter.suppressed after).trans count, rfl⟩
  · have seats := State.logEvent_seats (ev := s.summaryOf e) (count := (s.blot.limiter c s.now).suppressed) (summary := true)
      (s := s.summed c) scanned room
    obtain ⟨last', -⟩ := State.seat_spec (s.summaryOf e) (s.blot.limiter c s.now).suppressed true (s.summed c)
    exact ⟨_, (exec_blotterSummary last some_ late).trans (congrArg Host.Outcome.next seats), _, last', rfl, rfl, rfl, rfl, rfl⟩
  · exact ⟨_, congrArg Host.Outcome.next (if_pos asked), s.flushBlotter_spec⟩
  · obtain ⟨ev, t, ran, code, now, vel, blot⟩ := exec_ringScan new early
    obtain ⟨scanned, -, kept⟩ := State.limit_keepsScan ev t
    refine ⟨_, ran, scanned.trans (congrArg Blotter.scanned blot), (congrArg Vellum.ring (kept.trans vel)).trans rfl,
      fun e mem good high written enough => State.limit_restores code now blot mem good high written enough⟩

end Sys2Proof
end

section
/-! PROOF. Sources that release and the stages of the release (R446, R447, R448). -/

namespace Sys2Proof.Machine

open Sys2Proof Sys2Proof.Safety

/-! ### Sources that release (R444, R446) -/

/-- The source is asserted no more. -/
def State.dropSource (src : ResetSrc) (s : State) : State :=
  { s with rst := { s.rst with sources := s.rst.sources.filter fun x => x != src } }

theorem State.mem_dropSource {src x : ResetSrc} {s : State} : x ∈ (s.dropSource src).rst.sources ↔ x ∈ s.rst.sources ∧ x ≠ src := by
  rw [State.dropSource, List.mem_filter, bne_iff_ne]

theorem State.releaseSource_absent {src : ResetSrc} {s : State} (out : src ∉ s.rst.sources) : s.releaseSource src = s :=
  if_pos (by simpa using out)

theorem State.releaseSource_wide {src : ResetSrc} {s : State} (on : src ∈ s.rst.sources) (awake : s.awake = true) (wide : srcReach src ≤ 1) :
    s.releaseSource src = if (s.rst.stage = 0 && s.rst.flushing.isNone) = true then (s.dropSource src).startRelease else s.dropSource src := by
  unfold State.releaseSource
  rw [if_neg (by simpa using on)]
  dsimp only
  rw [if_neg (by simp [awake]), if_pos wide]
  rfl

/-- The row that releases a source. -/
def releases (i : Instr) (src : ResetSrc) (s : State) : Prop :=
  (i = .resetRelease src ∧ (src ∈ [ResetSrc.powerOn, .supplyW, .supplyF] → s.rst.pgood = true)) ∨ (i = .thermalRecovery ∧ src = .thermal) ∨
    (i = .refReturn ∧ src = .refLoss)

theorem exec_resetRelease {src : ResetSrc} {s : State} (supply : src ∈ [ResetSrc.powerOn, .supplyW, .supplyF] → s.rst.pgood = true) :
    exec (.resetRelease src) s = .next (s.releaseSource src) := by
  refine if_neg fun h => ?_
  simp only [Bool.and_eq_true, Bool.or_eq_true, decide_eq_true_eq, Bool.not_eq_true'] at h
  obtain ⟨which, low⟩ := h
  rw [supply (by simpa [or_assoc] using which)] at low
  contradiction

theorem exec_releases {i : Instr} {src : ResetSrc} {s : State} (h : releases i src s) : exec i s = .next (s.releaseSource src) := by
  rcases h with ⟨rfl, supply⟩ | ⟨rfl, rfl⟩ | ⟨rfl, rfl⟩
  · exact exec_resetRelease supply
  · rfl
  · rfl

theorem State.dropSource_coverF {src : ResetSrc} {s : State} :
    (s.dropSource src).rst.coverF = true ↔ ∃ x ∈ s.rst.sources, x ≠ src ∧ srcReach x ≤ 1 := by
  simp only [Reset.coverF, List.any_eq_true, decide_eq_true_eq, State.mem_dropSource, and_assoc]

/-- The last source of reach W or F is gone: the release starts. -/
theorem State.releaseSource_last {src : ResetSrc} {s : State} (on : src ∈ s.rst.sources) (awake : s.awake = true) (wide : srcReach src ≤ 1)
    (stage : s.rst.stage = 0) (flush : s.rst.flushing = none) (others : ∀ x ∈ s.rst.sources, x ≠ src → 2 ≤ srcReach x) :
    let t := s.releaseSource src
    src ∉ t.rst.sources ∧ t.rst.stage = (if bits s.host.resetCause 25 24 = 0 then 1 else 2) ∧
      (∀ x, x ≠ src → (x ∈ t.rst.sources ↔ x ∈ s.rst.sources)) ∧ { t with rst := s.rst } = s := by
  have uncovered : (s.dropSource src).rst.coverF = false := by
    rw [Bool.eq_false_iff]
    intro cover
    obtain ⟨x, mem, other, low⟩ := State.dropSource_coverF.mp cover
    have high := others x mem other
    omega
  obtain ⟨d, started⟩ := State.startRelease_of_uncovered uncovered
  have released : s.releaseSource src = (s.dropSource src).startRelease := by
    rw [State.releaseSource_wide on awake wide, if_pos (by simp [stage, flush])]
  dsimp only
  rw [released, started]
  exact ⟨fun mem => (State.mem_dropSource.mp mem).2 rfl, rfl, fun x other => State.mem_dropSource.trans (and_iff_left other), rfl⟩

/-- Another source of reach W or F holds the release. -/
theorem State.releaseSource_held {src : ResetSrc} {s : State} (on : src ∈ s.rst.sources) (awake : s.awake = true) (wide : srcReach src ≤ 1)
    (others : ∃ x ∈ s.rst.sources, x ≠ src ∧ srcReach x ≤ 1) : s.releaseSource src = s.dropSource src := by
  rw [State.releaseSource_wide on awake wide, State.startRelease_of_cover (State.dropSource_coverF.mpr others), ite_self]

/-! ### The stages (R447) -/

theorem exec_releaseStage {s : State} {x : StageIn} (cover : s.rst.coverF = false) (flush : s.rst.flushing = none)
    (power : s.rst.pfailLow = false) : exec (.releaseStage x) s = .next (s.completeStage x) :=
  if_neg (by simp [cover, flush, power])

theorem exec_releaseStage_waits {s : State} {x : StageIn} (h : s.rst.coverF = true ∨ s.rst.flushing.isSome = true ∨
    (s.rst.pfailLow = true ∧ s.releasing = true) ∨ s.rst.stage = 0 ∨ s.rst.stage = 12) : exec (.releaseStage x) s = .next s := by
  have still : s.rst.stage = 0 ∨ s.rst.stage = 12 → s.completeStage x = s := by
    intro h
    unfold State.completeStage
    rcases h with h | h <;> rw [h] <;> rfl
  show execReleaseStage x s = _
  unfold execReleaseStage
  rcases h with h | h | ⟨h, h'⟩ | h
  · exact if_pos (by simp [h])
  · exact if_pos (by simp [h])
  · exact if_pos (by simp [h, h'])
  · rw [still h, ite_self]

/-- Stage 3 with the CLK_MODE at lock: the straps are sampled and the timebase runs. -/
theorem State.releaseOptions_same {s : State} {x : StageIn} (mode : x.clkMode % 4 = s.rst.clkMode) :
    let t := s.releaseOptions x
    t.rst.stage = 4 ∧ t.rst.bootSrc = x.bootSrc % 4 ∧ t.tb.running = true ∧ (s.vel.timeMark = none → t.tb.time = 0) ∧
      (∀ ms era, s.vel.timeMark = some (ms, era) → t.tb.time = ms * 1000000 + 1000000000 ∧ t.tb.era = era) ∧
      { t with
        rst := s.rst
        tb := s.tb } = s := by
  unfold State.releaseOptions
  rw [if_neg (not_not.mpr mode)]
  refine ⟨rfl, rfl, rfl, fun none_ => ?_, fun ms era mark => ?_, rfl⟩
  · exact if_neg (by simp [none_])
  · have time : s.startTime.tb.time = (s.vel.timeMark.getD (0, 0)).1 * 1000000 + 1000000000 := if_pos (by simp [mark])
    have first : s.startTime.tb.era = (s.vel.timeMark.getD (0, 0)).2 := rfl
    rw [mark] at time first
    exact ⟨time, first⟩

/-! #### Stage 5: the store (R261, R448) -/

/-- The streams' records join those that wait. -/
def State.closedStream (e : Fin 4 × Bool) (s : State) : State := s.system 5 [w32 (e.1.val + 16 * b2n e.2), w32 (s.firstOwed e.1)]

/-- `t` is `s` but for records that wait. -/
def Waits (s t : State) : Prop := ∃ l, t = { s with ink := { s.ink with waiting := l } }

theorem Waits.trans (s t u : State) : Waits s t → Waits t u → Waits s u := by
  rintro ⟨l, rfl⟩ ⟨l', rfl⟩
  exact ⟨l', rfl⟩

theorem State.storeStart_eq (kept : Bool) (s : State) : ∃ l, s.storeStart kept = { s with ink := { s.ink with
    dramOk := true
    kept := kept
    closed := []
    waiting := l } } := by
  obtain ⟨l, is⟩ := forAll_rel (R := Waits) (fun s => ⟨s.ink.waiting, rfl⟩) Waits.trans (f := State.closedStream) (fun _ _ => ⟨_, rfl⟩)
    s.ink.closed { s with ink := { s.ink with
      dramOk := true
      kept := kept
      closed := []
      waiting := s.sysRec 1 [if kept then 1 else 2, s.host.resetCause, w32 s.ink.oldest] :: s.ink.waiting } }
  exact ⟨l, is⟩

theorem State.releaseDram_kept {s : State} {x : StageIn} (good : x.dramFailed = none) (keep : s.rst.keepStore = true) (index : x.indexOk = true) :
    s.releaseDram x = (s.storeStart true).toStage 6 := by
  unfold State.releaseDram
  rw [good]
  exact if_pos (by simp [keep, index])

theorem State.releaseDram_lost {s : State} {x : StageIn} (good : x.dramFailed = none) (lost : s.rst.keepStore = false ∨ x.indexOk = false) :
    s.releaseDram x = (s.loseStore.storeStart false).toStage 6 := by
  unfold State.releaseDram
  rw [good]
  refine if_neg ?_
  rcases lost with h | h <;> simp [h]

theorem State.releaseDram_failed {s : State} {x : StageIn} {d : Fin 2} (bad : x.dramFailed = some d) :
    s.releaseDram x = (s.loseStore.raise 0x1008 ALARM 0 d.val).toStage 6 := by
  unfold State.releaseDram
  rw [bad]

/-! #### Stage 6: the Nibs (R214) -/

theorem OnlyAnswers.now {s t : State} (h : OnlyAnswers s t) : t.now = s.now := by
  obtain ⟨x, q, b, m, rfl, -⟩ := h
  rfl

theorem State.stopLinear_now (a : Fin 8) (quick : Bool) (s : State) : (s.stopLinear a quick).now = s.now := by
  rw [State.stopLinear, forAll_keeps (p := State.now) (f := State.memberStops) fun _ _ => rfl]

theorem State.axisFault_now (a : Fin 8) (cause : Nat) (s : State) : (s.axisFault a cause).now = s.now := by
  unfold State.axisFault
  split
  · rfl
  · dsimp only
    rw [(State.answerStops_onlyAnswers a _).now, State.raise_now, State.dropReference, State.leaveLinear]
    exact s.stopLinear_now a false

theorem State.axisNoNib_now (a : Fin 8) (s : State) : (s.axisNoNib a).now = s.now := by
  unfold State.axisNoNib
  split
  · rfl
  · rw [State.axisFault_now]; rfl
  · exact State.axisFault_now a 3 s

theorem State.groupNoNib_now (g : Fin 17) (s : State) : (s.groupNoNib g).now = s.now := by
  unfold State.groupNoNib
  split
  · dsimp only
    rw [State.raise_now]
    exact forAll_keeps (p := State.now) (fun _ _ => by simp) _ s
  · rw [State.raise_now]
    exact forAll_keeps (p := State.now) State.axisNoNib_now _ s

theorem State.endNibTest_now (k : Fin 20) (s : State) : (s.endNibTest k).now = s.now := by
  unfold State.endNibTest
  split
  · rw [State.answerSelftest, (State.respondHeld_onlyAnswers _ _ _).now]
  · rfl

theorem State.startTakeover_now (g : Fin 17) (old : Fin 20) (since : Nat) (s : State) : (s.startTakeover g old since).now = s.now := by
  unfold State.startTakeover
  dsimp only
  split
  · exact State.endNibTest_now _ _
  · exact State.groupNoNib_now _ _

/-- A Nib that failed its test is retired, if it is not already. -/
def State.retireFailed (k : Fin 20) (s : State) : State := if (s.nibOf k).role = .retired then s else s.retireNib k 1

theorem State.retireFailed_retired {k j : Fin 20} {s : State} (h : j = k ∨ (s.nibOf j).role = .retired) :
    ((s.retireFailed k).nibOf j).role = .retired := by
  unfold State.retireFailed
  split
  next already => exact h.elim (fun same => same ▸ already) id
  next =>
    rcases eq_or_ne k j with rfl | other
    · exact State.retireNib_nibOf k 1 s
    · have before := h.resolve_left (Ne.symm other)
      rwa [State.retireNib, State.raise_nibOf, State.updNib_nibOf_of_ne _ _ other]

theorem forAll_retireFailed {l : List (Fin 20)} {j : Fin 20} {s : State} (h : j ∈ l ∨ (s.nibOf j).role = .retired) :
    ((forAll State.retireFailed l s).nibOf j).role = .retired := by
  induction l generalizing s with
  | nil => exact h.resolve_left List.not_mem_nil
  | cons k l ih =>
    refine ih ?_
    rcases h with mem | before
    · exact (List.mem_cons.mp mem).elim (fun same => .inr (State.retireFailed_retired (.inl same))) .inl
    · exact .inr (State.retireFailed_retired (.inr before))

/-- A spare takes over a group whose own Nib is retired. -/
def State.takeoverHome (g : Fin 17) (s : State) : State :=
  if (s.nibOf ⟨g.val, by omega⟩).role = .retired then s.startTakeover g ⟨g.val, by omega⟩ s.now else s

/-- The Nibs are tested, and the delay counter of the Quire starts. -/
def State.testedNibs (x : StageIn) (s : State) : State := forAll State.takeoverHome groupsGmFirst (forAll State.retireFailed x.nibsFailed s)
def State.startDelays (s : State) : State := { s with quire := { s.quire with epoch := s.now } }

theorem State.releaseQuill_eq (x : StageIn) (s : State) : s.releaseQuill x = (s.testedNibs x).startDelays.toStage 7 := by
  unfold State.releaseQuill State.testedNibs
  generalize groupsGmFirst = l
  rfl

theorem State.takeoverHome_nibOf (g : Fin 17) (k : Fin 20) (s : State) : (s.takeoverHome g).nibOf k = s.nibOf k := by
  unfold State.takeoverHome
  split
  · exact State.startTakeover_nibOf ..
  · rfl

theorem State.takeoverHome_now (g : Fin 17) (s : State) : (s.takeoverHome g).now = s.now := by
  unfold State.takeoverHome
  split
  · exact State.startTakeover_now ..
  · rfl

theorem State.retireFailed_now (k : Fin 20) (s : State) : (s.retireFailed k).now = s.now := by
  unfold State.retireFailed
  split <;> rfl

/-- Stage 6 retires what failed, and the Quire's delay counter starts. -/
theorem State.releaseQuill_spec (x : StageIn) (s : State) : (s.releaseQuill x).rst.stage = 7 ∧ (s.releaseQuill x).quire.epoch = s.now ∧
    ∀ k ∈ x.nibsFailed, ((s.releaseQuill x).nibOf k).role = .retired := by
  have now : (s.testedNibs x).now = s.now :=
    (forAll_keeps (p := State.now) State.takeoverHome_now _ _).trans (forAll_keeps (p := State.now) State.retireFailed_now _ _)
  have retired : ∀ k ∈ x.nibsFailed, ((s.testedNibs x).nibOf k).role = .retired := fun k mem => by
    have same := forAll_keeps (p := fun t => t.nibOf k) (fun g t => State.takeoverHome_nibOf g k t) groupsGmFirst
      (forAll State.retireFailed x.nibsFailed s)
    exact (congrArg Nib.role same).trans (forAll_retireFailed (.inl mem))
  rw [State.releaseQuill_eq]
  generalize s.testedNibs x = t at now retired ⊢
  exact ⟨rfl, now, retired⟩

/-- With no Nib failed or retired stage 6 leaves the Nibs. -/
theorem State.releaseQuill_whole {x : StageIn} {s : State} (none_ : x.nibsFailed = [])
    (whole : ∀ g : Fin 17, (s.nibOf ⟨g.val, by omega⟩).role ≠ .retired) :
    (s.releaseQuill x).nibs = s.nibs ∧ (s.releaseQuill x).blot = s.blot := by
  have fixed : forAll State.takeoverHome groupsGmFirst s = s := forAll_of_fixed fun g _ => if_neg (whole g)
  have tested : s.testedNibs x = s := by rw [State.testedNibs, none_, forAll, fixed]
  rw [State.releaseQuill_eq, tested]
  exact ⟨rfl, rfl⟩

/-! #### Stage 7: the FE dies (R37, R44, R75) -/

theorem State.calibrateDie_dieOf (bad : List (Fin 4 × Fin 128 × Int)) (f : Fin 4) (s : State) :
    (((s.calibrateDie bad f).dieOf f).dlineOk = (bad.filter fun e => e.1 == f).isEmpty) ∧
      (∀ g, g ≠ f → (s.calibrateDie bad f).dieOf g = s.dieOf g) := by
  unfold State.calibrateDie
  dsimp only
  split
  · rw [State.raise_dieOf, State.updDie_dieOf]
    exact ⟨rfl, fun g other => (State.raise_dieOf ..).trans (State.updDie_dieOf_of_ne _ _ (Ne.symm other))⟩
  · rw [State.updDie_dieOf]
    exact ⟨rfl, fun g other => State.updDie_dieOf_of_ne _ _ (Ne.symm other)⟩

theorem forAll_calibrateDie_dieOf {bad : List (Fin 4 × Fin 128 × Int)} {f : Fin 4} {l : List (Fin 4)} (s : State)
    (h : f ∈ l ∨ (s.dieOf f).dlineOk = (bad.filter fun e => e.1 == f).isEmpty) :
    ((forAll (State.calibrateDie bad) l s).dieOf f).dlineOk = (bad.filter fun e => e.1 == f).isEmpty := by
  induction l generalizing s with
  | nil => exact h.resolve_left List.not_mem_nil
  | cons g l ih =>
    obtain ⟨own, others⟩ := s.calibrateDie_dieOf bad g
    refine ih _ ?_
    by_cases same : f = g
    · exact .inr (same ▸ own)
    · exact h.elim (fun mem => .inl ((List.mem_cons.mp mem).resolve_left same)) fun before => .inr (by rw [others f same, before])

/-- `t` is `s` but for dies, timers and events. -/
def CalibratesDies (s t : State) : Prop := ∃ d m b, t = { s with
  die := d
  timers := m
  blot := { s.blot with raised := b } }

theorem CalibratesDies.refl (s : State) : CalibratesDies s s := ⟨s.die, s.timers, s.blot.raised, rfl⟩

theorem CalibratesDies.trans (s t u : State) : CalibratesDies s t → CalibratesDies t u → CalibratesDies s u := by
  rintro ⟨d, m, b, rfl⟩ ⟨d', m', b', rfl⟩
  exact ⟨d', m', b', rfl⟩

theorem State.calibrateDie_calibrates (bad : List (Fin 4 × Fin 128 × Int)) (f : Fin 4) (s : State) :
    CalibratesDies s (s.calibrateDie bad f) := by
  unfold State.calibrateDie
  dsimp only
  split
  · exact ⟨_, s.timers, _, rfl⟩
  · exact ⟨_, s.timers, s.blot.raised, rfl⟩

theorem State.calibrateDie_good (f : Fin 4) (s : State) : (s.calibrateDie [] f).blot = s.blot := rfl

/-- The delays of the presence pins start. -/
def State.startPresence (g : Fin 16) (s : State) : State := (s.startTimer (.boardOut g) 2500000).startTimer (.boardIn g) 25000000

theorem State.startPresence_calibrates (g : Fin 16) (s : State) : CalibratesDies s (s.startPresence g) := ⟨s.die, _, s.blot.raised, rfl⟩

theorem State.startPresence_blot (g : Fin 16) (s : State) : (s.startPresence g).blot = s.blot := rfl

/-- The dies after their calibration. -/
def State.calibratedDies (bad : List (Fin 4 × Fin 128 × Int)) (s : State) : State :=
  forAll (State.calibrateDie bad) (List.finRange 4) (forAll State.startPresence (List.finRange 16) s)

theorem State.calibratedDies_spec (bad : List (Fin 4 × Fin 128 × Int)) (s : State) : CalibratesDies s (s.calibratedDies bad) ∧
    (∀ f, ((s.calibratedDies bad).dieOf f).dlineOk = (bad.filter fun e => e.1 == f).isEmpty) ∧
    (bad = [] → (s.calibratedDies bad).blot = s.blot) := by
  refine ⟨?_, fun f => forAll_calibrateDie_dieOf _ (.inl (List.mem_finRange f)), ?_⟩
  · exact (forAll_rel CalibratesDies.refl CalibratesDies.trans State.startPresence_calibrates _ s).trans _ _ _
      (forAll_rel CalibratesDies.refl CalibratesDies.trans (State.calibrateDie_calibrates bad) _ _)
  · rintro rfl
    exact (forAll_keeps (p := State.blot) State.calibrateDie_good _ _).trans (forAll_keeps (p := State.blot) State.startPresence_blot _ _)

/-- A channel whose die has read its calibration records `l`. -/
def Channel.withCal (l : List Block) (c : Channel) : Channel := { c with
  meas := { c.meas with
    cal := l
    calNext := none } }

theorem State.readCal_eq (n : Fin 256) (s : State) : s.readCal n = s.updCh n (Channel.withCal (s.chv n).calib) := rfl

/-- Every channel of a list without repetition reads its records; nothing else changes. -/
theorem forAll_readCal {l : List (Fin 256)} (each : l.Nodup) (s : State) :
    (∃ c, forAll State.readCal l s = { s with chan := c }) ∧
      ∀ n ∈ l, (forAll State.readCal l s).ch n = (s.ch n).withCal (s.chv n).calib := by
  have frame : ∀ (l : List (Fin 256)) (s : State), ∃ c, forAll State.readCal l s = { s with chan := c } := by
    refine forAll_rel (R := fun s t => ∃ c, t = { s with chan := c }) (fun s => ⟨s.chan, rfl⟩) ?_ (fun n s => ⟨_, rfl⟩)
    rintro s t u ⟨_, rfl⟩ ⟨c, rfl⟩
    exact ⟨c, rfl⟩
  refine ⟨frame l s, fun n mem => ?_⟩
  obtain ⟨t, same, read⟩ := (forAll_view_of_nodup (view := fun s n => (s.ch n, s.chv n)) (f := State.readCal)
    (fun n m s other => by rw [State.readCal_eq, State.updCh_ch_of_ne _ _ (Ne.symm other)]; rfl) each s n).2 mem
  obtain ⟨ch, chv⟩ := Prod.mk.inj same
  refine (congrArg Prod.fst read).trans ?_
  rw [State.readCal_eq, State.updCh_ch, ch, chv]

end Sys2Proof.Machine
end

section
/-! PROOF. The FE dies, the boot of the Folio and the clocks (R37, R44, R75, R449, R460, R461). -/

namespace Sys2Proof.Machine

open Sys2Proof Sys2Proof.Safety

/-! #### Stage 7, as a whole -/

/-- The phase reference of the dies starts. -/
def State.startPhase (s : State) : State := { s with rst := { s.rst with phaseAt := some s.now } }

theorem State.releaseDies_eq (x : StageIn) (s : State) :
    s.releaseDies x = (forAll State.readCal allChannels (s.calibratedDies x.dlineFailed)).startPhase.toStage 8 := by
  unfold State.releaseDies State.calibratedDies
  generalize allChannels = l
  generalize List.finRange 16 = g
  generalize List.finRange 4 = f
  rfl

theorem State.releaseDies_spec (x : StageIn) (s : State) :
    let t := s.releaseDies x
    t.rst.stage = 8 ∧ (∀ f, (t.dieOf f).dlineOk = (x.dlineFailed.filter fun e => e.1 == f).isEmpty) ∧
      (x.dlineFailed = [] → t.blot = s.blot) ∧ t.rst.phaseAt = some s.now ∧
      (∀ n, t.ch n = { s.ch n with
        meas := { (s.ch n).meas with
          cal := (s.chv n).calib
          calNext := none } }) := by
  obtain ⟨⟨d, m, b, frame⟩, lines, good⟩ := s.calibratedDies_spec x.dlineFailed
  rw [State.releaseDies_eq]
  generalize s.calibratedDies x.dlineFailed = u at frame lines good ⊢
  obtain ⟨⟨c, read⟩, own⟩ := forAll_readCal (List.nodup_finRange 256) u
  have all : ∀ n, (forAll State.readCal allChannels u).ch n = (s.ch n).withCal (s.chv n).calib := fun n => by
    rw [show (forAll State.readCal allChannels u).ch n = (u.ch n).withCal (u.chv n).calib from own n (List.mem_finRange n), frame]
    rfl
  have left : forAll State.readCal allChannels u = { u with chan := c } := read
  generalize forAll State.readCal allChannels u = t at all left ⊢
  have now : u.now = s.now := by rw [frame]
  subst left
  exact ⟨rfl, lines, good, congrArg some now, all⟩

/-! #### Stage 11: the boot of the Folio (R450, R460, R461) -/

/-- The Folio boots anew. -/
structure BootsAnew (s : State) : Prop where
  cover : s.rst.coverC = false
  loader : s.folio.loader = none
  ready : s.folio.mbReady = false
  voters : 2 ≤ s.folio.voters.length
  copy : s.folio.copyOk = false

section Boot

variable {s : State} {x : StageIn} (boots : BootsAnew s)
include boots

theorem State.bootFolio_flash (src : s.rst.bootSrc = 0) :
    s.bootFolio x = ({ s with folio := { s.folio with copyOk := false } } : State).bootFlash x := by
  obtain ⟨cover, loader, ready, voters, copy⟩ := boots
  have enough : 1 < s.folio.voters.length := voters
  unfold State.bootFolio
  rw [if_neg (by simp [cover, loader, ready, enough]), if_neg (by simp [copy]), if_pos src]

theorem State.bootFolio_loader (src : s.rst.bootSrc ≠ 0) : s.bootFolio x = s.startLoader false := by
  obtain ⟨cover, loader, ready, voters, copy⟩ := boots
  have enough : 1 < s.folio.voters.length := voters
  unfold State.bootFolio
  rw [if_neg (by simp [cover, loader, ready, enough]), if_neg (by simp [copy]), if_neg src]

end Boot

theorem State.bootFolio_waits {s : State} (x : StageIn) (cover : s.rst.coverC = true) : s.bootFolio x = s := if_pos (by simp [cover])

theorem State.imageRejected_good (slot : Nat) (seq : Word) (s : State) : s.imageRejected slot 0 seq = s := rfl

theorem State.imageRejected_bad {slot check : Nat} {seq : Word} {s : State} (bad : check ≠ 0) :
    s.imageRejected slot check seq = s.raise 0x1006 ALARM slot (check + 2 ^ 32 * seq.toNat) := if_neg bad

/-- The slot tried first holds a good image. -/
theorem State.bootFlash_first {s : State} {x : StageIn} (good : x.firstFail = 0) : s.bootFlash x = s.imageLoaded x := by
  unfold State.bootFlash
  dsimp only
  rw [if_pos good, good]
  exact congrArg (State.imageLoaded x) (State.imageRejected_good _ _ s)

/-- The slot tried first does not; the other does, or neither. -/
theorem State.bootFlash_second {s : State} {x : StageIn} (bad : x.firstFail ≠ 0) :
    s.bootFlash x = (let t := s.raise 0x1006 ALARM x.firstSlot.val (x.firstFail.val + 2 ^ 32 * x.firstSeq.toNat)
      if x.otherFail = 0 then t.imageLoaded x else (t.imageRejected (1 - x.firstSlot.val) x.otherFail.val x.otherSeq).startLoader true) := by
  have failed : x.firstFail.val ≠ 0 := fun h => bad (Fin.ext h)
  unfold State.bootFlash
  dsimp only
  rw [if_neg bad, State.imageRejected_bad failed]
  split
  next good =>
    rw [good]
    exact congrArg (State.imageLoaded x) (State.imageRejected_good _ _ _)
  · rfl

/-- The loader runs on the paths that BOOT_SRC allows, and 0x1007 tells it. -/
theorem State.startLoader_spec (both : Bool) (s : State) : (s.startLoader both).folio.mbReady = true ∧ (s.startLoader both).folio.copyOk = false ∧
    (s.startLoader both).folio.loader = some (s.rst.bootSrc != 1, s.rst.bootSrc != 2) ∧
    s.event 0x1007 NOTICE 0 (s.rst.bootSrc + 2 ^ 8 * b2n both) ∈ (s.startLoader both).blot.raised := by
  have folio : (s.startLoader both).folio = { s.folio with
    mbReady := true
    readyOnce := true
    watchdog := s.now
    copyOk := false
    loader := some (s.rst.bootSrc != 1, s.rst.bootSrc != 2)
    loaderSrc := none } := State.setFolio_folio _ s
  refine ⟨congrArg Folio.mbReady folio, congrArg Folio.copyOk folio, congrArg Folio.loader folio, ?_⟩
  rw [← State.setFolio_event { s.folio with
    mbReady := true
    readyOnce := true
    watchdog := s.now
    copyOk := false
    loader := some (s.rst.bootSrc != 1, s.rst.bootSrc != 2)
    loaderSrc := none }]
  exact List.mem_append_right _ (List.mem_singleton.mpr rfl)

/-! ### Clocks (R448, R449) -/

theorem causeBit_set (w : Word) : bit (w ||| w32 (2 ^ 15)) 15 = true := by
  have own : (w32 (2 ^ 15)).getLsbD 15 = true := by decide
  rw [bit, BitVec.getLsbD_or, own, Bool.or_true]

/-- CLK_TIMEOUT and 0x1002. -/
def State.clockTold (d : ClkDomain) (s : State) : State := (s.causeBit 15).raise 0x1002 ALARM 0 (domainCode d + 2 ^ 8 * s.rst.stage)

theorem exec_clkNotGood_waits {s : State} {d : ClkDomain} (stage : s.rst.stage = 2) (waits : clockStage d = 2) :
    exec (.clkNotGood d) s = .next (s.clockTold d) := by
  show execClkNotGood d s = _
  unfold execClkNotGood
  dsimp only
  rw [if_neg (by simp [stage, waits]), if_pos stage]
  rfl

theorem exec_clkNotGood_goesOn {s : State} {d : ClkDomain} (stage : s.rst.stage = clockStage d) (late : 2 < s.rst.stage) :
    exec (.clkNotGood d) s = .next (({ s.clockTold d with rst := { s.rst with badClocks := d :: s.rst.badClocks } } : State).toStage
      (s.rst.stage + 1)) := by
  show execClkNotGood d s = _
  unfold execClkNotGood
  dsimp only
  have begun : s.rst.stage ≠ 0 := by omega
  rw [if_neg (by simp [← stage, begun]), if_neg (by omega)]
  rfl

theorem exec_clkNotGood_other {s : State} {d : ClkDomain} (h : s.rst.stage = 0 ∨ clockStage d ≠ s.rst.stage) :
    exec (.clkNotGood d) s = .next s := by
  refine if_pos ?_
  rcases h with h | h <;> simp [h]

/-- The clock is good. -/
def State.clockGood (d : ClkDomain) (s : State) : State :=
  { s with rst := { s.rst with badClocks := s.rst.badClocks.filter fun x => x != d } }

/-- The block that waited for the clock leaves its reset. -/
def State.releaseFor : ClkDomain → State → State
  | .safe, s => s.releaseMargin
  | .host, s => s.releasePcie
  | _, s => s

theorem exec_clkGood {s : State} {d : ClkDomain} (bad : d ∈ s.rst.badClocks) :
    exec (.clkGood d) s = .next ((s.clockGood d).releaseFor d) := by
  show execClkGood d s = _
  unfold execClkGood
  rw [if_neg (by simpa using bad)]
  cases d <;> rfl

theorem clkGood_spec {s : State} {d : ClkDomain} (bad : d ∈ s.rst.badClocks) :
    Completes (.clkGood d) s fun t => d ∉ t.rst.badClocks ∧ t.rst.stage = s.rst.stage ∧
      (d = .safe → t.margin.inReset = false ∧ t.host = s.host) ∧ (d = .host → t.host.pcieReset = false ∧ t.margin = s.margin) := by
  have gone : d ∉ (s.clockGood d).rst.badClocks := by simp [State.clockGood]
  refine ⟨_, exec_clkGood bad, ?_⟩
  cases d with
  | safe => exact ⟨gone, rfl, fun _ => ⟨rfl, rfl⟩, fun other => nomatch other⟩
  | host => exact ⟨gone, rfl, (fun other => nomatch other), fun _ => ⟨rfl, rfl⟩⟩
  | _ => exact ⟨gone, rfl, (fun other => nomatch other), fun other => nomatch other⟩

end Sys2Proof.Machine
end

section
/-! PROOF. O56. -/

namespace Sys2Proof.Machine

open Sys2Proof Sys2Proof.Safety

theorem exec_resetRelease_absent {src : ResetSrc} {s : State} (out : src ∉ s.rst.sources) : exec (.resetRelease src) s = .next s := by
  show execResetRelease src s = _
  rw [execResetRelease, State.releaseSource_absent out, ite_self]

theorem exec_resetRelease_low {src : ResetSrc} {s : State} (supply : src ∈ [ResetSrc.powerOn, .supplyW, .supplyF]) (low : s.rst.pgood = false) :
    exec (.resetRelease src) s = .next s := by
  have which : src = .powerOn ∨ src = .supplyW ∨ src = .supplyF := by simpa using supply
  exact if_pos (by simpa [low, or_assoc] using which)

/-- A stage that is not held completes. -/
theorem exec_stage {s t : State} {x : StageIn} (free : s.rst.coverF = false ∧ s.rst.flushing = none ∧ s.rst.pfailLow = false)
    (is : s.completeStage x = t) : exec (.releaseStage x) s = .next t := by
  obtain ⟨cover, flush, power⟩ := free
  rw [exec_releaseStage cover flush power, is]

section Stages

variable {s : State} {x : StageIn} (free : s.rst.coverF = false ∧ s.rst.flushing = none ∧ s.rst.pfailLow = false)
include free

/-- Stages 1 to 3: PGOOD_IN, the PLLs, the straps. -/
theorem exec_stage_one (stage : s.rst.stage = 1) : exec (.releaseStage x) s = .next s.releaseAon :=
  exec_stage free (by rw [State.completeStage, stage]; rfl)

theorem exec_stage_two (stage : s.rst.stage = 2) : exec (.releaseStage x) s = .next (s.releasePlls (x.clkMode % 4)) :=
  exec_stage free (by rw [State.completeStage, stage]; rfl)

theorem exec_stage_three (stage : s.rst.stage = 3) : exec (.releaseStage x) s = .next (s.releaseOptions x) :=
  exec_stage free (by rw [State.completeStage, stage]; rfl)

/-- Stage 5: the store is kept, lost, or has no DRAM (R261, R448). -/
theorem stage_five (stage : s.rst.stage = 5) : Completes (.releaseStage x) s fun t => t.rst.stage = 6 ∧
    (x.dramFailed = none → s.rst.keepStore = true → x.indexOk = true → t.ink.kept = true ∧ t.ink.dramOk = true ∧
      t.ink.retired = s.ink.retired ∧ t.blot.raised = s.blot.raised) ∧
    (x.dramFailed = none → s.rst.keepStore = false ∨ x.indexOk = false → t.ink.kept = false ∧ t.ink.dramOk = true ∧
      t.blot.raised = s.blot.raised ++ [s.event 0x0906 ALARM 0 s.host.resetCause.toNat]) ∧
    (∀ d, x.dramFailed = some d → t.ink = { s.ink.lose with
        waiting := s.ink.waiting
        closed := s.ink.closed } ∧ t.ink.dramOk = false ∧
      t.blot.raised = s.blot.raised ++ [s.event 0x0906 ALARM 0 s.host.resetCause.toNat, s.event 0x1008 ALARM 0 d.val]) ∧
    t.chan = s.chan ∧ t.nibs = s.nibs := by
  refine ⟨_, exec_stage free (t := s.releaseDram x) (by rw [State.completeStage, stage]; rfl), ?_⟩
  cases dram : x.dramFailed with
  | some d =>
    rw [State.releaseDram_failed dram]
    refine ⟨rfl, (fun h => nomatch h), (fun h => nomatch h), fun d' same => ?_, rfl, rfl⟩
    cases same
    exact ⟨rfl, rfl, List.append_assoc ..⟩
  | none =>
    by_cases kept : s.rst.keepStore = true ∧ x.indexOk = true
    · obtain ⟨keep, index⟩ := kept
      obtain ⟨l, start⟩ := s.storeStart_eq true
      rw [State.releaseDram_kept dram keep index, start]
      refine ⟨rfl, fun _ _ _ => ⟨rfl, rfl, rfl, rfl⟩, fun _ lost => ?_, (fun _ h => nomatch h), rfl, rfl⟩
      exact absurd lost (by simp [keep, index])
    · have lost : s.rst.keepStore = false ∨ x.indexOk = false := by
        simpa [Classical.or_iff_not_imp_left] using kept
      obtain ⟨l, start⟩ := s.loseStore.storeStart_eq false
      rw [State.releaseDram_lost dram lost, start]
      exact ⟨rfl, fun _ keep index => absurd ⟨keep, index⟩ kept, fun _ _ => ⟨rfl, rfl, rfl⟩, (fun _ h => nomatch h), rfl, rfl⟩

/-- Stage 11 boots the Folio from a slot of the flash, or starts its loader (R460, R461, R464). -/
theorem stage_eleven_flash (stage : s.rst.stage = 11) (boots : BootsAnew s) (src : s.rst.bootSrc = 0) :
    (x.firstFail = 0 → Completes (.releaseStage x) s fun t => t.folio.copyOk = true ∧ t.folio.fwVersion = x.fwVersion ∧
      t.folio.fwCrc = x.fwCrc ∧ t.folio.mbReady = false ∧ t.blot = s.blot ∧ { t with folio := s.folio } = s) ∧
    (x.firstFail ≠ 0 → x.otherFail = 0 → Completes (.releaseStage x) s fun t => t.folio.copyOk = true ∧
      t.blot.raised = s.blot.raised ++ [s.event 0x1006 ALARM x.firstSlot.val (x.firstFail.val + 2 ^ 32 * x.firstSeq.toNat)]) ∧
    (x.firstFail ≠ 0 → x.otherFail ≠ 0 → Completes (.releaseStage x) s fun t => t.folio.copyOk = false ∧ t.folio.mbReady = true ∧
      t.folio.loader = some (true, true)) := by
  have run := exec_stage free (x := x) (t := s.bootFolio x) (by rw [State.completeStage, stage]; rfl)
  rw [State.bootFolio_flash boots src] at run
  refine ⟨fun good => ?_, fun bad good => ?_, fun bad worse => ?_⟩
  · rw [State.bootFlash_first good] at run
    exact ⟨_, run, rfl, rfl, rfl, boots.ready, rfl, rfl⟩
  · rw [State.bootFlash_second bad] at run
    dsimp only at run
    rw [if_pos good] at run
    exact ⟨_, run, rfl, rfl⟩
  · rw [State.bootFlash_second bad] at run
    dsimp only at run
    rw [if_neg worse, State.imageRejected_bad fun h => worse (Fin.ext h)] at run
    obtain ⟨ready, copy, loader, -⟩ := State.startLoader_spec true _
    exact ⟨_, run, copy, ready, loader.trans (by simp [State.raise, src])⟩

theorem stage_eleven_loader (stage : s.rst.stage = 11) (boots : BootsAnew s) (src : s.rst.bootSrc ≠ 0) :
    Completes (.releaseStage x) s fun t => t.folio.mbReady = true ∧
      t.folio.loader = some (s.rst.bootSrc != 1, s.rst.bootSrc != 2) ∧ s.event 0x1007 NOTICE 0 s.rst.bootSrc ∈ t.blot.raised := by
  have run := exec_stage free (x := x) (t := s.bootFolio x) (by rw [State.completeStage, stage]; rfl)
  rw [State.bootFolio_loader boots src] at run
  obtain ⟨ready, -, loader, told⟩ := s.startLoader_spec false
  exact ⟨_, run, ready, loader, told⟩

end Stages

end Sys2Proof.Machine

namespace Sys2Proof

open Sys2Proof.Machine Sys2Proof.Safety

/-- Settles O56: the sources that release, the stages in their order, and the clocks. -/
theorem releaseSequence : Obligations.ReleaseSequence := by
  refine ⟨fun s src out => exec_resetRelease_absent out, fun s src supply low => exec_resetRelease_low supply low,
    fun s i src which on awake wide => ⟨fun stage flush others => ?_, fun others => ?_⟩,
    fun s out => congrArg Host.Outcome.next (State.releaseSource_absent out), fun s out => congrArg Host.Outcome.next (State.releaseSource_absent out),
    fun s x h => exec_releaseStage_waits h, fun s x cover flush power => ?_, fun s d h => exec_clkNotGood_other h,
    fun s d waits stage => ?_, fun s d h => ?_, fun s d good => if_pos (by simpa using good), fun s d bad => clkGood_spec bad⟩
  · exact ⟨_, exec_releases which, State.releaseSource_last on awake wide stage flush others⟩
  · refine ⟨_, exec_releases which, ?_⟩
    rw [State.releaseSource_held on awake wide others]
    exact ⟨fun mem => (State.mem_dropSource.mp mem).2 rfl, rfl, rfl⟩
  · have free : s.rst.coverF = false ∧ s.rst.flushing = none ∧ s.rst.pfailLow = false := ⟨cover, flush, power⟩
    refine ⟨fun stage low => ?_, fun stage high => ?_, fun stage none_ => ?_, fun stage mode => ?_, fun stage other => ?_, fun stage same => ?_,
      fun stage => ⟨_, exec_stage free (t := s.toStage 5) (by rw [State.completeStage, stage]; rfl), rfl, rfl⟩, fun stage => stage_five free stage,
      fun stage => ⟨?_, fun passed whole => ?_⟩, fun stage => ?_, fun stage => ?_, fun stage => ?_, fun stage => ?_, fun stage held => ?_,
      fun stage held loader ready voters copy src => stage_eleven_flash free stage ⟨held, loader, ready, voters, copy⟩ src,
      fun stage held loader ready voters copy src => stage_eleven_loader free stage ⟨held, loader, ready, voters, copy⟩ src⟩
    · rw [exec_stage_one free stage, State.releaseAon, if_neg (by simp [low])]
    · refine ⟨_, exec_stage_one free stage, ?_⟩
      rw [State.releaseAon, if_pos high]
      exact ⟨rfl, rfl⟩
    · rw [exec_stage_two free stage, State.releasePlls, if_pos none_]
    · refine ⟨_, exec_stage_two free stage, ?_⟩
      rw [State.releasePlls, if_neg mode]
      exact ⟨rfl, rfl, rfl⟩
    · refine ⟨_, exec_stage_three free stage, ?_⟩
      rw [State.releaseOptions, if_pos other]
      exact ⟨rfl, rfl⟩
    · exact ⟨_, exec_stage_three free stage, State.releaseOptions_same same⟩
    · exact ⟨_, exec_stage free (t := s.releaseQuill x) (by rw [State.completeStage, stage]; rfl), s.releaseQuill_spec x⟩
    · exact ⟨_, exec_stage free (t := s.releaseQuill x) (by rw [State.completeStage, stage]; rfl), State.releaseQuill_whole passed whole⟩
    · exact ⟨_, exec_stage free (t := s.releaseDies x) (by rw [State.completeStage, stage]; rfl), s.releaseDies_spec x⟩
    · exact ⟨_, exec_stage free (t := s.releaseMargin.toStage 9) (by rw [State.completeStage, stage]; rfl), rfl, rfl, rfl, rfl⟩
    · exact ⟨_, exec_stage free (t := s.toStage 10) (by rw [State.completeStage, stage]; rfl), rfl, rfl⟩
    · exact ⟨_, exec_stage free (t := s.releasePcie.toStage 11) (by rw [State.completeStage, stage]; rfl), rfl, rfl, rfl⟩
    · exact exec_stage free (by rw [State.completeStage, stage]; exact State.bootFolio_waits x held)
  · refine ⟨_, exec_clkNotGood_waits stage waits, rfl, causeBit_set _, ?_⟩
    rw [State.clockTold, stage]
    rfl
  · have late : s.rst.stage = clockStage d ∧ 2 < s.rst.stage := by
      rcases h with ⟨rfl, stage⟩ | ⟨rfl, stage⟩ <;> rw [stage] <;> decide
    obtain ⟨stage, late⟩ := late
    exact ⟨_, exec_clkNotGood_goesOn stage late, rfl, List.mem_cons_self, causeBit_set _, rfl, rfl, rfl⟩

end Sys2Proof
end
